-- ==== Sys2Proof/Word.lean ====
section
/-! DEFINITION. The word types of the 7140 and nothing else: 8-bit bytes, 32-bit registers (R7), the 40-bit data
space addresses (R4) and the 72-bit accumulators of the cores. -/
namespace Sys2Proof

abbrev Byte := BitVec 8
abbrev Word := BitVec 32
abbrev Addr40 := BitVec 40
abbrev Acc72 := BitVec 72

end Sys2Proof
end

