-- ==== Sys2Proof/Syntax.lean ====
section
/-! DEFINITION. The commands of the Alaheto 7140: one constructor per row of the opcode table, with its operands. -/
namespace Sys2Proof

/-- A core's number: 0 to 7 for C0 to C7, 8 for A0, 9 for A1 (R225 ff.). -/
abbrev CoreId := Fin 10

/-- The number of a general register g0 to g15 (R225). -/
abbrev Reg := Fin 16

/-- Who makes an I/O access: one of the ten cores, or the debug port (R499). -/
inductive Master where
  | core (k : CoreId)
  | debug
  deriving DecidableEq, Repr

/-- One prefix of an instruction (R244). -/
inductive Prefix where
  | addrImm (ii : BitVec 8)
  | addrReg (second : BitVec 8)
  | width8
  | width16
  | io
  | lock
  | reserved (b : BitVec 8)
  deriving DecidableEq, Repr

/-- What every instruction carries: the core that executes it, its condition field (R241) and its prefixes. -/
structure Hdr where
  core : CoreId
  cond : BitVec 4
  pfx : List Prefix
  deriving DecidableEq, Repr

/-- The forms of an ALU operation: major 0x3, 0x5 and 0x6 (R247, R248). -/
inductive AluForm where
  | reg (d a b : Reg)
  | imm8 (d : Reg) (i : BitVec 8)
  | imm32 (d : Reg) (i : Word)
  deriving DecidableEq, Repr

/-- The forms of CMP, TST and MOV: major 0x4, 0x5 and 0x6 (R248, R250). -/
inductive UnForm where
  | unary (d s : Reg)
  | imm8 (d : Reg) (i : BitVec 8)
  | imm32 (d : Reg) (i : Word)
  deriving DecidableEq, Repr

/-- The memory addressing modes 0x0 to 0x5 with their displacement (R251). -/
inductive Mode where
  | base
  | d8 (d : BitVec 8)
  | d16 (d : BitVec 16)
  | d32 (d : BitVec 32)
  | postInc
  | preDec
  deriving DecidableEq, Repr

/-- The operands of a memory-group instruction: register r, base register b and the mode (R247, R251). -/
structure MemOp where
  r : Reg
  b : Reg
  mode : Mode
  deriving DecidableEq, Repr

/-- The forms of IN and OUT: the absolute port of major 0x8, or the memory group with the I/O-space override (R253). -/
inductive IoForm where
  | abs (r : Reg) (port : BitVec 24)
  | addr (m : MemOp)
  deriving DecidableEq, Repr

/-- The two branch forms: rel8 and rel32 (R247, R256). -/
inductive BranchForm where
  | short (rel : BitVec 8)
  | long (rel : Word)
  deriving DecidableEq, Repr

/-- The operands of a dual-fetch MAC: pointers gx and gy, the accumulator and the increment fields (R247, R258). -/
structure MacOp where
  x : Reg
  y : Reg
  acc : Fin 4
  ix : Fin 4
  iy : Fin 4
  deriving DecidableEq, Repr

/-- The operands of an accumulator-group instruction: r1, r2 and the accumulator (R247, R260). -/
structure AccOp where
  r1 : Reg
  r2 : Reg
  acc : Fin 4
  deriving DecidableEq, Repr

/-- The clock in which a DMA channel finds its flag set: the channel, and whether the flag is also set in that clock
(R290). -/
structure WaitClock where
  ch : Fin 32
  set : Bool
  deriving DecidableEq, Repr

/-- A write of DMA_EVENT_CLR: the 1s written, and the flags of its word that a SIGNAL, a timer or DMA_EVENT_SET sets in the
same clock (R290). -/
structure EventClear where
  ones : Word
  sets : Word
  deriving DecidableEq, Repr

/-- The debug hooks that R239 gives for each core; an accumulator is read in the parts that RDA reads (R260). readPort is
the debug port's read of a port of the I/O space, which names no core (R496, R498). -/
inductive DebugOp where
  | attach
  | detach
  | halt
  | step
  | resume
  | setBreak (i : Fin 4) (a : Option Word)
  | setWatch (i : Fin 2) (a : Option Nat)
  | readG (r : Reg)
  | readAc (a : Fin 4) (part : Fin 3)
  | readSr
  | readPc
  | writeG (r : Reg) (v : Word)
  | writeAc (a : Fin 4) (v : Acc72)
  | writeSr (v : BitVec 7)
  | writePc (v : Word)
  | readPort (p : BitVec 24)
  deriving DecidableEq, Repr

/-- A private key that a signing job brings: its parameter set, 128f or 128s, and its 64 bytes (R366). -/
structure SlhKey where
  set128f : Bool
  sk : List (BitVec 8)
  deriving DecidableEq, Repr

/-- The boot devices as start-up finds them: the density code (1: 512 Mbit, 2: 1 Gbit, 3: 2 Gbit) of the device on
XS0 CS0, XS0 CS1, XS1 CS0 and XS1 CS1, and their bytes, keyed by 0x10000000 × (2 × port + CS) + device address;
a byte that is not listed reads 0xFF (R338, R339). -/
structure BootSet where
  devs : Vector (Option Nat) 4
  flash : List (Nat × BitVec 8)
  deriving DecidableEq, Repr

/-- What start-up meets: the boot set; the stages in which a read burst returns no data strobe, bit 0 for the directory,
bit 1 for the manifest and its key chain, bit 2 for the memory section (R341); whether DRAM training completes; the bits
that damage has flipped in the key store's contents (R373), and whether VIO0 lies in the 3.3 V class. -/
structure StartEnv where
  boot : BootSet
  stalls : BitVec 3
  trains : Bool
  storeDamage : List (BitVec 8)
  vio33 : Bool
  deriving DecidableEq, Repr

/-- The supply rails that PD0 monitors (R454). -/
inductive Rail where
  | core | vio | vddq
  deriving DecidableEq, Repr

/-- The phase-locked loops of R445. -/
inductive Pll where
  | cpu | comp | mem | audio
  | link (d : Fin 4)
  deriving DecidableEq, Repr

/-- The demands that restart a stopped PLL (R445, R446). -/
inductive Demand where
  /-- An edge latched in PD0, or a rising line of sources 98 to 106. -/
  | source (n : Fin 512)
  | floorDram
  | debugPort
  | memRequest
  | audioAccess
  deriving DecidableEq, Repr

/-- What link ECC finds in a DRAM read (R55), or SECDED in a shared SRAM word (R56). -/
inductive Ecc where
  | good | corrected | bad
  deriving DecidableEq, Repr

/-- Who asked for a pattern-cache fill: the fetcher of plane p, or the comet unit (R73, R86). -/
inductive PatUser where
  | fetcher (p : Fin 8)
  | comet
  deriving DecidableEq, Repr

/-- An edge at a timer's capture input: a level of its pin accepted by the filter, beam line 0 of a cluster, or the
start of a Kettle period (R306). -/
inductive CapEdge where
  | pin (high : Bool)
  | beam (d : Fin 4)
  | kettle
  deriving DecidableEq, Repr

/-- A node's reply frame as a Heto link port receives it, its FCS good (R322). -/
structure HetoReply where
  version : Fin 16
  node : Fin 64
  endpoint : Fin 16
  helloNeeded : Bool
  seq : BitVec 8
  ack : BitVec 8
  credit : BitVec 8
  payload : List (BitVec 8)
  deriving DecidableEq, Repr

/-- A hello reply: its payload's version mask, initial credit, endpoint count minus 1 and identity (R325). -/
structure HetoHello where
  node : Fin 64
  endpoint : Fin 16
  mask : BitVec 8
  credit : BitVec 8
  epM1 : Fin 16
  identity : Vector (BitVec 8) 8
  deriving DecidableEq, Repr

/-- A floor host datagram but for its type: the header's fields, the body and the tag (R422). -/
structure FloorDatagram where
  version : BitVec 8
  frag : BitVec 8
  count : BitVec 8
  domain : BitVec 32
  seq : BitVec 64
  msg : BitVec 64
  body : List (BitVec 8)
  tag : List (BitVec 8)
  deriving DecidableEq, Repr

/-- The link status of a floor link port changes: in the PHY's auto-negotiation word, or in the PCS synchronisation (R419). -/
structure FloorLine where
  port : Fin 2
  pcs : Bool
  deriving DecidableEq, Repr

/-- An ARP request or a neighbour solicitation: the address that it asks for, and the IP and the MAC address of the one that
asks (R421). -/
structure NeighbourQuery where
  target : Vector Word 4
  asker : Vector Word 4
  mac : List (BitVec 8)
  deriving DecidableEq, Repr

/-- What the floor link sends again when rto has passed (R424). -/
inductive FloorResend where
  | hello
  | ledger
  | message (msg : Nat)
  deriving DecidableEq, Repr

/-- The memory self-test that ends: the spare rows of the MRAM that failed, by bank and row, or the 4 KiB page within the
marked DRAM range in which the first difference or corrected error lay (R477). -/
inductive MemTest where
  | mram (fails : List (Fin 8 × Fin 64))
  | dram (page : Option Nat)
  deriving DecidableEq, Repr

/-- The commands of the 7140: one constructor for each row of the opcode table. -/
inductive Instr where
  /-- REGISTER_WRITE (R8). A write to a device register that has no row of its own sets or clears its fields as its
      Access type says. -/
  | registerWrite (m : Master) (port : BitVec 24) (v : Word)
  /-- TILT (R468). The tilt latch in PD0 captures the first (or lowest simultaneous) tilt request, and every unit
      stops game play as R469 sets out. -/
  | tilt (codes : List (BitVec 16))
  /-- SYS_TILT_REQ (R474). A supervisor write of a nonzero cause to SYS_TILT_REQ raises tilt with code 0x02cc. -/
  | sysTiltReq (m : Master) (cause : BitVec 8)
  /-- RETRAIN (R470). After tilt, an output whose link is down retrains once each second until training succeeds,
      then runs mode 2. -/
  | retrain (d : Fin 4)
  /-- MEMORY_REQUEST (R42). A requester issues a DRAM request, which enters arbitration or its 64-entry pending
      queue, or waits at its port while the queue is full. -/
  | memoryRequest (id : Fin 32) (a : Nat) (data : Option (List (BitVec 8))) (lock : Bool) (now : Nat)
  /-- ARBITRATION (R46). At each slot boundary a channel's arbiter grants refresh, debug, the locked owner, a
      fairness pick or the highest effective rank. -/
  | arbitration (c : Fin 4) (clocks : Nat)
  /-- REFRESH_EMERGENCY (R45). When a channel owes six refreshes, refresh becomes an emergency request until the
      owed count falls to two. -/
  | refreshEmergency (c : Fin 4) (due : Nat)
  /-- WATCHDOG_BITE (R51). When a locked sequence has held a channel for MEM_WDOG.limit command clocks, the channel
      is withdrawn, the sequence discarded and tilt raised. -/
  | watchdogBite (c : Fin 4)
  /-- RANK_WRITE (R48). A write to MEM_RANK takes part from the next arbitration, or is held until release while its
      requester owns a locked sequence. -/
  | rankWrite (m : Master) (id : Fin 17) (rank : Fin 16)
  /-- ARB_N_WRITE (R50). A write to MEM_ARB_CFG.n at or below a channel's fair makes the next arbitrated grant a
      fairness grant. -/
  | arbNWrite (m : Master) (n : Fin 128)
  /-- SELF_REFRESH_ENTRY (R53). When every self-refresh condition has held for MEM_SR_CFG.hold, all populated
      channels enter self-refresh together. -/
  | selfRefreshEntry
  /-- SELF_REFRESH_EXIT (R53). A request at any port, or a tolerance falling to the exit time, brings all channels
      out of self-refresh together. -/
  | selfRefreshExit
  /-- READ_RETURN (R43). A granted DRAM read returns its data to the requester. -/
  | readReturn (c : Fin 4) (e : Ecc)
  /-- DRAM_READ_REPEAT (R55). An uncorrectable DRAM read is repeated once; a good repeat is delivered and counted, a
      failed one raises tilt. -/
  | dramReadRepeat (c : Fin 4) (e : Ecc)
  /-- SRAM_REFETCH (R56). An uncorrectable shared SRAM error is recovered by refetch, rewrite or stream-buffer
      reread within 5 µs, or raises tilt. -/
  | sramRefetch (a : Nat) (line : Option Nat) (correctable : Bool)
  /-- MEM_ECC_ADDR_LO_READ (R56). A read of MEM_ECC_ADDR_LO returns the error address low bits and captures
      MEM_ECC_ADDR_HI. -/
  | memEccAddrLoRead (m : Master)
  /-- PALETTE_WRITE (R71). A write of PLN_PAL_HI stores the staged low bits and high bits into the selected palette
      entry and advances PLN_PAL_ADDR. -/
  | paletteWrite (m : Master) (d : Fin 4) (high : BitVec 8)
  /-- COEF_WRITE (R70). A write of PLN_COEF_DATA sets the selected shadow coefficient and advances PLN_COEF_ADDR. -/
  | coefWrite (m : Master) (d : Fin 4) (v : BitVec 10)
  /-- COEF_SWAP (R70). A 1 written to PLN_COEF_CTRL.swap bit s while the sequencer is stopped swaps set s's live and
      shadow copies. -/
  | coefSwap (m : Master) (d : Fin 4) (mask : Fin 16)
  /-- PLN_PROBE_ARM (R77). Arming PLN_PROBE_POS clears valid and captures the next plane pixel delivered at (x, y). -/
  | plnProbeArm (m : Master) (d : Fin 4) (plane : Fin 8) (x y : Fin 8192)
  /-- PATTERN_FILL (R72). A pattern-cache fill arrives through the fill port, replacing the least recently read way,
      or is marked invalid on arrival after an invalidation. Line: its set is address bits 20 to 6, its tag the bits above. -/
  | patternFill (d : Fin 4) (u : PatUser) (tag : Nat) (set : Fin 32768)
  /-- INVALIDATE_RANGE (R75). PLN_PCI_CTRL.start invalidates the lines of the set range at 32 lines per clock. -/
  | invalidateRange (m : Master)
  /-- INVALIDATE_ALL (R75). PLN_PCI_CTRL.all invalidates every line of the pattern cache in 12,288 clocks. -/
  | invalidateAll (m : Master) (start : Bool)
  /-- INVALIDATION_END (R75). When an invalidation walk ends, start, all and busy clear. -/
  | invalidationEnd
  /-- RASTERISE_BAND (R81). Once a comet band buffer is free, the comet unit rasterises the band's comet list into
      it in list order. -/
  | rasteriseBand (d : Fin 4) (wait : Nat)
  /-- CMT_PROBE_ARM (R94). Arming CMT_PROBE_POS clears valid and captures the buffer pixel at (x, y) when its band's
      list is complete. -/
  | cmtProbeArm (m : Master) (d : Fin 4) (x y : Fin 8192)
  /-- COMMIT (R115). A write of F to EPH_COMMIT commits frame F when it follows the last commit and its slot is
      free, else sets commit_err. -/
  | ephCommit (m : Master) (d : Fin 4) (frame : Word)
  /-- HEADER_READ (R120). Within 1 µs of accepting a commit, the sequencer reads the frame header's band_count and
      decides any rewrite that waited for it. -/
  | headerRead (d : Fin 4)
  /-- TAKE (R110). The sequencer takes the next band when its frame is committed, it lies within the window and the
      stream buffer has room, latching its entry and copying its record. -/
  | ephTake (d : Fin 4)
  /-- REWRITE (R120). A write to EPH_REWRITE installs the staged entry as an override for a committed, untaken band
      or reports a refusal outcome. -/
  | ephRewrite (m : Master) (d : Fin 4) (f : BitVec 23) (band : BitVec 9)
  /-- EPH_FRAME0_WRITE (R123). A write of F to EPH_FRAME0 while stopped sets EPH_COMMIT and EPH_RETIRED to F − 1 and
      clears every override. -/
  | ephFrame0Write (m : Master) (d : Fin 4) (v : Word)
  /-- SEQUENCER_START (R123). Setting EPH_CTRL.run starts the sequencer at band 0 of EPH_FRAME0, or refuses with
      fmt_refused for an unadvertised format. -/
  | sequencerStart (m : Master) (d : Fin 4) (v : Word)
  /-- SEQUENCER_STOP (R124). Clearing EPH_CTRL.run stops taking and completes the bands already taken. -/
  | sequencerStop (m : Master) (d : Fin 4) (v : Word)
  /-- SEQUENCER_STOPPED (R124). When every taken band has passed all four stages, EPH_STAT.running reads 0. -/
  | sequencerStopped (d : Fin 4)
  /-- TICK (R148). At each tick placed by the catch-up law, one band enters each of Send, Compose, Fetch and Record. -/
  | composeTick (d : Fin 4)
  /-- COMPOSE_BAND (R137). Once its composed slot is free, the composer blends the band, scales it, converts depth
      and writes the slot, the digest lane and writeback. -/
  | composeBand (d : Fin 4) (wait : Nat)
  /-- CMP_PROBE_ARM (R141). Arming CMP_PROBE_POS clears valid and captures the next output pixel formed at (x, y). -/
  | cmpProbeArm (m : Master) (d : Fin 4) (x y : Fin 8192)
  /-- BEAM_LINE (R145). The virtual beam enters its next line after Ht pixel clocks, advancing the refresh count at
      line 0 and signalling band deadlines. -/
  | beamLine (d : Fin 4) (unread : Bool)
  /-- APPLY_ARM (R159). A 1 written to DSP_APPLY.arm arms the shadowed values to go live at the named beam line. -/
  | applyArm (m : Master) (d : Fin 4) (line : Fin 8192)
  /-- SEND_BAND (R149). A band's send begins at the latest of its tick, the previous send's end and tear-rule
      admission. -/
  | sendBand (d : Fin 4)
  /-- SEND_END (R149). A send ends when the lane monitor has passed the band's last line. -/
  | sendEnd (d : Fin 4) (band : Nat)
  /-- TRAIN (R161). DSP_TRAIN.start while mode is 0 starts the PHY PLL, reads sink capabilities and trains the
      lanes. -/
  | dspTrain (m : Master) (d : Fin 4)
  /-- TRAINING_END (R161). Training ends with result, su_ok and ygran set and busy cleared. -/
  | trainingEnd (d : Fin 4) (result : Fin 8) (su : Bool) (ygran : Fin 64)
  /-- LANE_MISMATCH (R162). A lane symbol differing from the encoder's marks its line and is resent within 20 µs, or
      raises tilt. -/
  | laneMismatch (d : Fin 4) (lane : Fin 4) (first last : Fin 8192) (clocks : Nat)
  /-- HPD_LOST (R164). HPD low for more than 2 ms raises tilt with cause 1. -/
  | hpdLost (d : Fin 4)
  /-- IRQ_HPD (R164). A sink IRQ_HPD reporting loss of lock or an update error raises tilt with cause 2 or 3. -/
  | irqHpd (d : Fin 4) (updateError : Bool)
  /-- BAND_DIGEST (R168). A digest lane finishes SHA-256 over a band's output words and stores it in the carry
      table. -/
  | bandDigest (d : Fin 4) (lane : Fin 2) (after : Nat)
  /-- FRAME_DIGEST (R169). After the last band, the lane computes the frame digest over the band digests. -/
  | frameDigest (d : Fin 4)
  /-- DIGEST_EXPORT (R506). Once the frame digest exists and every band's lateness is decided, the frame's queue
      entry is formed and DIG_LAST updated. -/
  | digestExport (d : Fin 4)
  /-- RECALL_ENABLE (R177). Writing DIG_CTRL.recall 1 over 0 clears DIG_RESULT and sets DIG_MISS_FRAME to
      0xFFFF_FFFF. -/
  | recallEnable (m : Master) (d : Fin 4) (dump : Bool)
  /-- RECALL_CLEAR (R198). Clearing recall on the timebase cluster reloads KTL_CUE_POS from EPH_COMMIT so cue slots
      are taken again. -/
  | recallClear (m : Master) (d : Fin 4) (dump : Bool)
  /-- BLT_TAIL_WRITE (R182). A write to BLT_TAIL submits commands up to the new tail, seen by the engine from the
      next clock. -/
  | bltTailWrite (m : Master) (tail : Fin 4096)
  /-- COPY (R187). The engine copies each destination pixel's source bits, in the overlap-safe order. -/
  | bltCopy
  /-- FILL (R187). The engine writes the fill value to every destination pixel. -/
  | bltFill
  /-- BLEND (R187). The engine blends the scaled premultiplied source over each destination pixel. -/
  | bltBlend
  /-- BLIT_COMPLETE (R181). When every write of a command is granted, head advances, the tag loads and cmd_done sets
      if irq. -/
  | blitComplete
  /-- BLIT_STOP (R182). Clearing BLT_CTRL.run completes the current command and then takes no further command. -/
  | blitStop (m : Master)
  /-- RING_CONFIG (R192). A write to BLT_RING_BASE or BLT_RING_SIZE while idle sets BLT_HEAD and BLT_TAIL to 0. -/
  | ringConfig (m : Master) (size : Bool) (v : BitVec 29)
  /-- KETTLE_RUN (R197). Setting KTL_CTRL.run resets KTL_SAMPLE, loads KTL_CUE_POS from the timebase EPH_COMMIT and
      starts periods. -/
  | kettleRun (m : Master) (timebase slots : Fin 4)
  /-- KETTLE_STOP (R223). Clearing KTL_CTRL.run stops every voice and tone at the next period boundary and discards
      cues, rings and owned slots. -/
  | kettleStop (m : Master)
  /-- PERIOD (R193). Each 4,096 audio clocks a 48 kHz period begins, firing cues and computing tones, voices, buses
      and outputs. -/
  | kettlePeriod (tdm mic : List (BitVec 24))
  /-- CUE_SLOT_READ (R196). Kettle reads a handed-over cue slot, skipping it or single cues with cue_err, and
      assigns stream rings to streamed starts. -/
  | cueSlotRead
  /-- STREAM_FILL (R207). Kettle fills a stream ring from DRAM in 64-byte bursts whenever 1 KiB or more of it is
      free. -/
  | streamFill (r : Fin 64)
  /-- CD_FAULT (R217). A class-D feedback difference beyond 25 % for 1.5 µs holds the outputs low and raises tilt. -/
  | cdFault (o : Fin 8) (collapsed : Bool)
  /-- AAS_CAL_REQ (R220). A 1 written to AAS_CAL_REQ requests calibration of one modulator or ADC, pending until
      done. -/
  | aasCalReq (m : Master) (v : BitVec 12)
  /-- CALIBRATION_STEP (R221). A calibration step runs in an idle interval, is abandoned on a nonzero sample, and
      after the last step applies the trims. -/
  | calibrationStep (u : Fin 12) (rpt : BitVec 28)
  /-- KTL_PROBE_ARM (R223). Arming KTL_PROBE_CTRL captures the selected bus value in period KTL_PROBE_AT. -/
  | ktlProbeArm (m : Master) (bus : Fin 32)
  /-- CORE_RUN (R237). Setting SYS_CORE_CTRL.run releases a reset core at SYS_CORE_ENTRY or resumes a stopped one. -/
  | coreRun (m : Master) (k : CoreId) (ugpio : Bool)
  /-- CORE_RESET (R237). SYS_CORE_CTRL.reset returns the core to its reset state, starting it at once when run is
      written 1 too. -/
  | coreReset (m : Master) (k : CoreId) (run ugpio : Bool)
  /-- CORE_STOP (R237). Clearing run stops the core at the next instruction boundary, keeping its state. -/
  | coreStop (m : Master) (k : CoreId) (ugpio : Bool)
  /-- INTERRUPT_ENTRY (R236). A presented request with SR.ie set is taken between instructions as exception 5. -/
  | interruptEntry (k : CoreId)
  /-- HALT_WAKE (R236). A core in HALT resumes when the interrupt controller presents a request. -/
  | haltWake (k : CoreId)
  /-- CLEAN (R233). The cache-operation engine writes each dirty line of the range to DRAM and keeps it clean. -/
  | cmoClean (m : Master) (k : CoreId)
  /-- INVALIDATE (R233). The engine discards each line of the range from the L2 and every D-cache without writing it
      back. -/
  | cmoInvalidate (m : Master) (k : CoreId)
  /-- CLEAN_AND_INVALIDATE (R233). The engine cleans and then invalidates each line of the range. -/
  | cmoCleanInvalidate (m : Master) (k : CoreId)
  /-- I_CACHE_INVALIDATE (R233). The engine discards the issuing core's whole I-cache in one clock. -/
  | iCacheInvalidate (m : Master) (k : CoreId)
  /-- CACHE_OPERATION_DONE (R233). When every line is walked and every write granted, busy clears and private source
      18 rises. -/
  | cacheOperationDone (k : CoreId)
  /-- L2_WRITE_BACK (R230). The L2 writes a replaced dirty line back to DRAM whole as requester 8. -/
  | l2WriteBack (line : Nat)
  /-- PIN_PRIV_OUT (R238). An OUT to PIN_PRIV_OUT sets the core's port value for the group at the end of its clock. -/
  | pinPrivOut (k : CoreId) (g : Fin 4) (v : Word)
  /-- PIN_PRIV_SET (R238). An OUT to PIN_PRIV_SET sets the port bits written as 1. -/
  | pinPrivSet (k : CoreId) (g : Fin 4) (v : Word)
  /-- PIN_PRIV_CLR (R238). An OUT to PIN_PRIV_CLR clears the port bits written as 1. -/
  | pinPrivClr (k : CoreId) (g : Fin 4) (v : Word)
  /-- NOP (R247). No operation. -/
  | nop (h : Hdr)
  /-- RET (R256). Sets PC to g15. -/
  | ret (h : Hdr)
  /-- ADD (R248). Adds two operands and sets N Z C V. -/
  | add (h : Hdr) (f : AluForm)
  /-- ADC (R248). Adds with carry. -/
  | adc (h : Hdr) (f : AluForm)
  /-- SUB (R248). Subtracts and sets the borrow in C. -/
  | sub (h : Hdr) (f : AluForm)
  /-- SBC (R248). Subtracts with borrow. -/
  | sbc (h : Hdr) (f : AluForm)
  /-- AND (R248). Bitwise AND. -/
  | andOp (h : Hdr) (f : AluForm)
  /-- OR (R248). Bitwise OR. -/
  | orOp (h : Hdr) (f : AluForm)
  /-- XOR (R248). Bitwise XOR. -/
  | xor (h : Hdr) (f : AluForm)
  /-- SHL (R249). Shifts left by n. -/
  | shl (h : Hdr) (f : AluForm)
  /-- SHR (R249). Shifts right logically by n. -/
  | shr (h : Hdr) (f : AluForm)
  /-- ASR (R249). Shifts right arithmetically by n. -/
  | asr (h : Hdr) (f : AluForm)
  /-- ROR (R249). Rotates right by n mod 32. -/
  | ror (h : Hdr) (f : AluForm)
  /-- MUL (R248). Low 32 bits of the product. -/
  | mul (h : Hdr) (f : AluForm)
  /-- MULHS (R248). High 32 bits of the signed product. -/
  | mulhs (h : Hdr) (f : AluForm)
  /-- MULHU (R248). High 32 bits of the unsigned product. -/
  | mulhu (h : Hdr) (f : AluForm)
  /-- DIVS (R249). Signed division toward zero, with V on zero divisor or overflow. -/
  | divs (h : Hdr) (f : AluForm)
  /-- DIVU (R249). Unsigned division toward zero, with V on zero divisor. -/
  | divu (h : Hdr) (f : AluForm)
  /-- CMP (R248). Sets flags from x − y and discards the result. -/
  | cmp (h : Hdr) (f : UnForm)
  /-- TST (R248). Sets N Z from x AND y and discards the result. -/
  | tst (h : Hdr) (f : UnForm)
  /-- MOV (R250). Copies a register or immediate into gd without flags. -/
  | mov (h : Hdr) (f : UnForm)
  /-- NEG (R250). gd := 0 − gs. -/
  | neg (h : Hdr) (d src : Reg)
  /-- NOT (R250). gd := NOT gs. -/
  | notOp (h : Hdr) (d src : Reg)
  /-- SXB (R250). Sign-extends the low byte. -/
  | sxb (h : Hdr) (d src : Reg)
  /-- SXH (R250). Sign-extends the low halfword. -/
  | sxh (h : Hdr) (d src : Reg)
  /-- ZXB (R250). Zero-extends the low byte. -/
  | zxb (h : Hdr) (d src : Reg)
  /-- ZXH (R250). Zero-extends the low halfword. -/
  | zxh (h : Hdr) (d src : Reg)
  /-- CLZ (R250). Counts leading zero bits. -/
  | clz (h : Hdr) (d src : Reg)
  /-- LD (R252). Loads w bytes zero-extended. -/
  | ld (h : Hdr) (m : MemOp)
  /-- LDS (R252). Loads w bytes sign-extended. -/
  | lds (h : Hdr) (m : MemOp)
  /-- ST (R252). Stores the low w bytes of gr. -/
  | st (h : Hdr) (m : MemOp)
  /-- LDI (R252). Loads w bytes from instruction space. -/
  | ldi (h : Hdr) (m : MemOp)
  /-- XCHG (R252). Exchanges gr with memory. -/
  | xchg (h : Hdr) (m : MemOp)
  /-- CAS (R252). Compares memory with gr and on equality stores g(r+1), setting Z. -/
  | cas (h : Hdr) (m : MemOp)
  /-- ADDM (R252). Adds gr to memory and returns the old value. -/
  | addm (h : Hdr) (m : MemOp)
  /-- ANDM (R252). ANDs gr into memory and returns the old value. -/
  | andm (h : Hdr) (m : MemOp)
  /-- ORM (R252). ORs gr into memory and returns the old value. -/
  | orm (h : Hdr) (m : MemOp)
  /-- XORM (R252). XORs gr into memory and returns the old value. -/
  | xorm (h : Hdr) (m : MemOp)
  /-- IN (R253). Reads an I/O port into gr after earlier loads and stores are done. -/
  | ioIn (h : Hdr) (f : IoForm)
  /-- OUT (R253). Writes gr to an I/O port after earlier loads and stores are done. -/
  | ioOut (h : Hdr) (f : IoForm)
  /-- BRANCH (R256). Branches by rel8 or rel32 under its condition. -/
  | branch (h : Hdr) (f : BranchForm)
  /-- CALL (R256). Writes the return address to g15 and branches by rel32. -/
  | callRel (h : Hdr) (rel : Word)
  /-- RTE (R257). Reloads SR from SYS_XSR and PC from SYS_XPC. -/
  | rte (h : Hdr) (r : Reg)
  /-- HALT (R236). Stops issue until the interrupt controller presents a request. -/
  | halt (h : Hdr) (r : Reg)
  /-- BRK (R257). Raises the breakpoint exception, or halts in debug when attached. -/
  | brk (h : Hdr) (r : Reg)
  /-- MFSR (R257). gr := SR. -/
  | mfsr (h : Hdr) (r : Reg)
  /-- MTSR (R257). SR[6:0] := gr[6:0]. -/
  | mtsr (h : Hdr) (r : Reg)
  /-- MTF (R257). SR[3:0] := gr[3:0]. -/
  | mtf (h : Hdr) (r : Reg)
  /-- EI (R257). Sets SR.ie. -/
  | ei (h : Hdr) (r : Reg)
  /-- DI (R257). Clears SR.ie. -/
  | di (h : Hdr) (r : Reg)
  /-- JMP (R257). PC := gr. -/
  | jmp (h : Hdr) (r : Reg)
  /-- CALL_REGISTER (R257). Writes the return address to g15 and jumps to gr. -/
  | callRegister (h : Hdr) (r : Reg)
  /-- PUSH (R255). Decrements g14 and stores gr. -/
  | push (h : Hdr) (r : Reg)
  /-- POP (R255). Loads gr and increments g14. -/
  | pop (h : Hdr) (r : Reg)
  /-- PUSHM (R255). Pushes the registers of the mask. -/
  | pushm (h : Hdr) (r : Reg) (mask : BitVec 16)
  /-- POPM (R255). Pops the registers of the mask. -/
  | popm (h : Hdr) (r : Reg) (mask : BitVec 16)
  /-- MAC (R258). Dual-fetch multiply from X and Y RAM added to the accumulator, stepping pointers. -/
  | mac (h : Hdr) (m : MacOp)
  /-- MSU (R258). Dual-fetch multiply subtracted from the accumulator. -/
  | msu (h : Hdr) (m : MacOp)
  /-- MPY (R258). Dual-fetch multiply written to the accumulator. -/
  | mpy (h : Hdr) (m : MacOp)
  /-- MACR (R260). ac := ac + gr1 × gr2, signed. -/
  | macr (h : Hdr) (m : AccOp)
  /-- MSUR (R260). ac := ac − gr1 × gr2, signed. -/
  | msur (h : Hdr) (m : AccOp)
  /-- MPYR (R260). ac := gr1 × gr2, signed. -/
  | mpyr (h : Hdr) (m : AccOp)
  /-- MACRU (R260). ac := ac + gr1 × gr2, unsigned. -/
  | macru (h : Hdr) (m : AccOp)
  /-- MVA (R260). Rounds, shifts and saturates the accumulator into gr1. -/
  | mva (h : Hdr) (m : AccOp) (sh : BitVec 8)
  /-- RDA (R260). Reads a part of the accumulator into gr1. -/
  | rda (h : Hdr) (m : AccOp)
  /-- WRA (R260). Writes gr1 into a part of the accumulator. -/
  | wra (h : Hdr) (m : AccOp)
  /-- CLRA (R260). Clears the accumulator. -/
  | clra (h : Hdr) (m : AccOp)
  /-- INTERRUPT_LINE (R264). An edge or high level on a source line sets its pending bit, or makes an active source
      active-and-pending. -/
  | interruptLine (k : CoreId) (n : Fin 512) (high : Bool)
  /-- CLAIM (R268). A read of INT_CLAIM returns the presented source, clears its pending bit, sets it active and
      records its priority. -/
  | intClaim (k : CoreId)
  /-- COMPLETE (R269). A write to INT_COMPLETE clears the source's active bit, or sets bad_complete. -/
  | intComplete (k : CoreId) (n : Fin 512)
  /-- INT_PEND_SET (R274). Each 1 written sets the source's pending bit. -/
  | intPendSet (m : Master) (w : Fin 16) (v : Word)
  /-- INT_PEND_CLR (R274). Each 1 written clears the pending bit, subject to R271. -/
  | intPendClr (m : Master) (w : Fin 16) (v : Word)
  /-- DOORBELL (R278). A write to INT_DOORBELL sets a private doorbell source of the named core. -/
  | doorbell (m : Master) (bell c : Fin 16)
  /-- HOLDOFF_END (R275). When a core's moderation holdoff expires, its moderated sources become eligible. -/
  | holdoffEnd (k : CoreId)
  /-- EDGE_LATCH (R277). A PD0 edge latch captures a qualifying edge of an async source whatever the clocks. -/
  | edgeLatch (n : Fin 512) (rising : Bool)
  /-- EDGE_DELIVERY (R277). Once the CPU clock runs in PD11, a latch sets its source's pending bit and clears
      itself. -/
  | edgeDelivery (n : Fin 512)
  /-- CHANNEL_START (R296). Writing run 1 to an idle or done channel starts its program from the first instruction. -/
  | channelStart (m : Master) (n : Fin 32)
  /-- CHANNEL_RESUME (R296). Writing run 1 to a stopped or failed channel resumes at DMA_CH_PC. -/
  | channelResume (m : Master) (n : Fin 32)
  /-- CHANNEL_STOP (R296). Writing run 0 completes or abandons the current instruction, drains and enters stopped. -/
  | channelStop (m : Master) (n : Fin 32)
  /-- MOVE (R283). Copies len bytes from SP to DP and advances both. -/
  | dmaMove (n : Fin 32) (g : Nat)
  /-- LOOP (R284). Opens a loop of count passes. -/
  | dmaLoop (n : Fin 32)
  /-- ENDL (R284). Adds the skips and returns to the loop start while passes remain. -/
  | dmaEndl (n : Fin 32)
  /-- WAIT (R290). Holds the channel until its event flag is set. -/
  | dmaWait (n : Fin 32)
  /-- WAIT_PROCEED (R290). A waiting channel proceeds in the clock after it finds its flag set, clearing it when
      clear is 1. -/
  | waitProceed (p : WaitClock)
  /-- SIGNAL (R289). Drains and then sets an event flag and sig as selected. -/
  | dmaSignal (n : Fin 32)
  /-- CRC_BEGIN (R291). Begins CRC-32C or SHA-256 accumulation of the bytes read. -/
  | crcBegin (n : Fin 32)
  /-- CRC_STORE (R291). Ends the accumulation and writes the check value granule. -/
  | crcStore (n : Fin 32)
  /-- END (R296). Drains, enters done, sets done and clears run. -/
  | endProgram (n : Fin 32)
  /-- DRAIN_END (R287). When every write is granted and the read-back returns, the drain ends and the waiting
      instruction takes effect. -/
  | drainEnd (n : Fin 32)
  /-- SHA_UNIT_GRANT (R292). A channel held for a SHA-256 unit is granted one when it frees, in ascending channel
      order. -/
  | shaUnitGrant
  /-- DMA_EVENT_SET (R289). Each 1 written sets an event flag. -/
  | dmaEventSet (m : Master) (w : Fin 2) (v : Word)
  /-- DMA_EVENT_CLR (R289, R290). Each 1 written clears an event flag; v also names the flags that are set in that clock. -/
  | dmaEventClr (m : Master) (w : Fin 2) (v : EventClear)
  /-- RATE_WINDOW (R295). At each 1 µs window the channels' read allowances reset. -/
  | rateWindow
  /-- TIMER_RUN (R299). A TMR_CTRL write setting run restarts the prescaler and starts ticking. -/
  | timerRun (m : Master) (n : Fin 16) (mode : Fin 3) (prescale : BitVec 8) (outMode : Fin 5) (dmaSel : Fin 4)
  /-- TIMER_TICK (R299). Every prescale + 1 CPU clocks the timer moves its count by its mode. -/
  | timerTick (n : Fin 16)
  /-- WRAP_TICK (R300). The tick that ends a period sets wrap, loads a shadowed TOP and may set DMA flag 48 + n. -/
  | wrapTick (n : Fin 16)
  /-- MATCH (R302). A tick whose count equals the comparator sets match and drives the output by out_mode. -/
  | matchEvent (n : Fin 16)
  /-- TOP_WRITE (R301). A write to TMR_TOP_HI loads the shadow TOP, taking effect at the next wrap tick or at once
      while stopped. -/
  | topWrite (m : Master) (n : Fin 16) (high : BitVec 16)
  /-- COMPARATOR_WRITE (R302). A write to TMR_CMP_HI sets the comparator from the next clock. -/
  | comparatorWrite (m : Master) (n : Fin 16) (high : BitVec 16)
  /-- SNAP (R309). TMR_CMD.snap copies the count into TMR_SNAP. -/
  | timerSnap (m : Master) (n : Fin 16)
  /-- CLEAR (R300). TMR_CMD.clear sets the count by mode and restarts the prescaler. -/
  | timerClear (m : Master) (n : Fin 16)
  /-- OUT_SET (R304). TMR_CMD.out_set forces the timer output high. -/
  | outSet (m : Master) (n : Fin 16)
  /-- OUT_CLR (R304). TMR_CMD.out_clr forces the timer output low. -/
  | outClr (m : Master) (n : Fin 16)
  /-- CAPTURE (R306). An accepted pin level change or internal edge copies the count into TMR_CAPR or TMR_CAPF. -/
  | timerCapture (n : Fin 16) (e : CapEdge)
  /-- CAPTURE_READ (R308). A read of TMR_CAPR_LO or TMR_CAPF_LO returns the low bits and loads the high hold,
      marking the capture read. -/
  | captureRead (m : Master) (n : Fin 16) (falling : Bool)
  /-- COUNTER_WRITE (R313). A write to PMC_VAL sets the counter, losing that clock's event. -/
  | counterWrite (m : Master) (c : Fin 64) (v : Word)
  /-- COUNTER_READ (R315). A read of an even chained counter returns the low half and loads PMC_HOLD with the high
      half. -/
  | counterRead (m : Master) (c : Fin 64)
  /-- COUNTER_OVERFLOW (R313). A counter or chained pair wrapping sets its sticky overflow bit. -/
  | counterOverflow (c : Fin 64) (n : Fin 4)
  /-- PMC_CLEAR (R318). PMC_CTRL.clear sets every counter and hold to zero. -/
  | pmcClear (m : Master)
  /-- HISTOGRAM_CLEAR (R317). PMC_HIST_CFG.clear sets every bin to zero. -/
  | histogramClear (m : Master) (h : Fin 4)
  /-- PORT_START (R336). Setting HLK_CTRL.run sets nodes unknown, requeues sent descriptors, resets the position and
      starts beacons. -/
  | portStart (m : Master) (p : Fin 8)
  /-- PORT_STOP (R336). Clearing run stops the port after the current cycle and one more. -/
  | portStop (m : Master) (p : Fin 8)
  /-- BEACON (R329). A PLCA cycle begins with the beacon and the slot entry is latched. -/
  | hlkBeacon (p : Fin 8)
  /-- REPLY (R328). A node's reply in its opportunity is matched to the latched entry, writing its payload to the RX
      ring and retiring acked descriptors. -/
  | hlkReply (p : Fin 8) (r : HetoReply)
  /-- NODE_HELLO_REPLY (R325). A hello reply makes the node ready in the lowest common version or refused, and is
      written to the RX ring. -/
  | nodeHelloReply (p : Fin 8) (r : HetoHello)
  /-- REPLY_ERROR (R333). A reply in error or missed inserts a retry, or after the retries counts the slot failed. -/
  | replyError (p : Fin 8) (miss : Bool)
  /-- STRAY_FRAME (R321). A frame with another destination or EtherType is discarded and counted. -/
  | strayFrame (p : Fin 8)
  /-- PORT_DOWN (R335). Three own collisions or a line fault stop the port, and raise tilt when crit is 1. -/
  | portDown (p : Fin 8) (collisions : Bool)
  /-- TX_QUEUE (R331). Writing state 1 to a TX descriptor queues it. -/
  | txQueue (m : Master) (p : Fin 8) (desc : Fin 16) (node : Fin 64) (bcast : Bool) (endpoint : Fin 16) (len : Fin 1024)
  /-- TX_FREE (R331). Writing state 0 to a TX descriptor frees it. -/
  | txFree (m : Master) (p : Fin 8) (desc : Fin 16)
  /-- SLOT_WRITE (R329). A write to HLK_SLOT applies in this pass before its latch, else from the next pass. -/
  | slotWrite (m : Master) (p : Fin 8) (slot : Fin 256) (node : Fin 64) (endpoint : Fin 16) (kind : Fin 3)
  /-- TABLE_LENGTH_WRITE (R330). A write to HLK_TBL.len applies at the end of the current pass. -/
  | tableLengthWrite (m : Master) (p : Fin 8) (len : Fin 257)
  /-- RX_TAIL_WRITE (R332). A write to HLK_RX_TAIL frees the cells of the records read. -/
  | rxTailWrite (m : Master) (p : Fin 8) (cell : Fin 64)
  /-- RESET_RELEASE (R459). The power sequencer releases device reset 2 ms after the rails and RESET_N are good. -/
  | resetRelease (env : StartEnv)
  /-- XSPI_BURST_TIMEOUT (R341). A read burst with no data strobe within 10 µs is repeated once, else start-up stops
      with code 13. -/
  | xspiBurstTimeout (repeatFails : Bool)
  /-- TRAINING_TIMEOUT (R352). DRAM training not complete within 40 ms stops start-up with code 11. -/
  | trainingTimeout
  /-- SECTION_DIGEST_CHECK (R353). When a section's last byte arrives its SHA-256 is compared with the entry,
      stopping with code 12 on a difference. -/
  | sectionDigestCheck
  /-- RELEASE (R355). After the ledger record, the sequencer sets run for every core in the release mask and starts
      sparge. -/
  | bootRelease (us : Word)
  /-- SPARGE_PASS (R361). At each multiple of sparge_period a sparge pass begins re-hashing the image-content
      sections. -/
  | spargePass
  /-- SPARGE_SECTION (R362). A swept section's hash is compared with its digest, raising tilt on a difference or
      counting a clean pass. -/
  | spargeSection
  /-- SLH_SIGN (R366). The engine signs a message with hedged SLH-DSA in pure form. -/
  | slhSign (ckpt : Bool) (ctx msg e1 e2 : List (BitVec 8))
  /-- SLH_VERIFY (R366). The engine verifies a pure-form SLH-DSA signature. -/
  | slhVerify (set128f : Bool) (pk ctx msg sig : List (BitVec 8))
  /-- HASH_SLH_SIGN (R366). The engine signs a SHA-256 pre-hashed message. -/
  | hashSlhSign (key : SlhKey) (ctx msg e1 e2 : List (BitVec 8))
  /-- HASH_SLH_VERIFY (R366). The engine verifies a pre-hashed signature. -/
  | hashSlhVerify (set128f : Bool) (pk ctx msg sig : List (BitVec 8))
  /-- PROGRAM_ROOT (R375). Fuses the staged root hash when the root is blank. -/
  | programRoot (m : Master)
  /-- WITHDRAW_VERSION_1 (R375). Fuses the manifest version 1 withdrawal bit. -/
  | withdrawVersion1 (m : Master)
  /-- RAISE_SECURITY_MINIMUM (R375). Fuses the next security-version row with the staged value. -/
  | raiseSecurityMinimum (m : Master)
  /-- GENERATE_CHECKPOINT_KEY (R375). Generates and stores a new SLH-DSA-SHA2-128f checkpoint key pair. -/
  | generateCheckpointKey (m : Master)
  /-- LOAD_FLOOR_KEY (R375). Stores the staged floor key. -/
  | loadFloorKey (m : Master)
  /-- FUSE_COMMAND_END (R377). A fuse or key command ends with read-back, clears the data, sets fuse_done and
      reports its result. -/
  | fuseCommandEnd (good : Bool)
  /-- START_UP_TEST (R379). At PD2 power-up the entropy source tests 1,024 samples, repeating once and raising tilt
      on a second failure. -/
  | startUpTest (samples : List Bool)
  /-- ENTROPY_SAMPLE (R379). Each noise sample passes the repetition and adaptive proportion tests. -/
  | entropySample (b : Bool)
  /-- PERSISTENT_FAILURE (R379). Three intermittent failures within 65,536 windows raise tilt. -/
  | persistentFailure
  /-- CONDITIONED_BLOCK (R380). Each 640 passing samples are conditioned with SHA-256 into a 32-byte pool block. -/
  | conditionedBlock
  /-- KNOWN_ANSWER_TEST (R383). After the start-up test the known-answer tests run and both DRBGs are instantiated,
      or tilt is raised. -/
  | knownAnswerTest (ok : Bool)
  /-- DRBG_REQUEST (R386). A write of n to SEC_DRBG_REQ requests a generate for the core, or sets err while busy. -/
  | drbgRequest (k : CoreId) (n : Fin 32)
  /-- GENERATE (R387). The outcome DRBG serves a request in arrival order, reseeding when due, and sets ready. -/
  | drbgGenerate
  /-- RESEED_REQUEST (R384). A 1 written to SEC_DRBG_CFG.reseed requests a reseed before the next generate. -/
  | reseedRequest (m : Master)
  /-- OUTCOME_READ (R386). A read of SEC_DRBG_OUT returns and clears a word, clearing ready after the last. -/
  | outcomeRead (k : CoreId) (word : Fin 16)
  /-- GRANULE_WRITE (R391). An MRAM granule write completes with its verify. -/
  | granuleWrite (fails spareFails : Nat)
  /-- LEDGER_COMMIT (R401). The boot or stop record is signed and committed into the next free slot, or held
      pending. -/
  | ledgerCommit (n : Nat) (e1 e2 : List (BitVec 8))
  /-- ADVANCE (R410). LDG_MEV_CMD kind 0x1 submits an advance of up to four meters for the game. -/
  | gameAdvance (k : CoreId)
  /-- CLOSE (R410). LDG_MEV_CMD kind 0x2 submits the game's close with its recall-set hash. -/
  | gameClose (k : CoreId)
  /-- METER_COMMIT (R407). The controller decides the next event's result and commits its entries and journal
      mirrored around the commit point. -/
  | meterCommit (n : Nat)
  /-- METER_READ (R412). A read of LDG_METER_LO returns the committed low half and loads the hold. -/
  | meterRead (k : CoreId)
  /-- SEQ_READ (R412). A read of LDG_MEV_SEQ_LO returns the low half of the last S and loads the hold. -/
  | seqRead (k : CoreId)
  /-- DOOR_EVENT (R413). A debounced change of a door or tamper input is captured with its RTC time. -/
  | doorEvent (input : Fin 10) (level : Bool)
  /-- EVENT_MOVE (R415). The controller moves a buffered PD0 event into the event log, raising tilt for a tilt-
      enabled input after release. -/
  | eventMove
  /-- FLOOR_START (R424). Setting FLR_CTRL.run starts the session. -/
  | floorStart (m : Master)
  /-- RESEND (R424). Every rto an unacknowledged message or HELLO is sent again. -/
  | floorResend (w : FloorResend)
  /-- HELLO_REPLY (R424). A HELLO_REPLY selects the highest common version and the domain index, or refuses. -/
  | helloReply (d : FloorDatagram)
  /-- ACK (R424). An ACK acknowledges the named device message. -/
  | floorAck (d : FloorDatagram)
  /-- LEDGER_ACK (R402). A LEDGER_ACK matching a committed record raises the acknowledged counter and frees slots. -/
  | ledgerAck (d : FloorDatagram)
  /-- DIGEST_DRAIN (R425). The floor link takes a digest export entry and joins it to the open game, or discards it. -/
  | digestDrain (d : Fin 4)
  /-- CKPT_REQ (R427). A CKPT_REQ requests a checkpoint. -/
  | ckptReq (d : FloorDatagram)
  /-- CHECKPOINT (R427). At each checkpoint period or request, the meters are captured, signed and sent. -/
  | floorCheckpoint (e1 e2 : List (BitVec 8))
  /-- HOST_KEY (R428). A verified HOST_KEY installs the host public key. -/
  | hostKey (ds : List FloorDatagram)
  /-- SIGNED (R428). A SIGNED command 0x01 with a valid host signature sets the RTC. -/
  | floorSigned (ds : List FloorDatagram)
  /-- ARP (R421). The link answers ARP or neighbour solicitation for its own address. -/
  | floorArp (q : NeighbourQuery)
  /-- FLOOR_PORT_DOWN (R420). A port down for 10 µs fails over to the standby, or sets lost when both are down. -/
  | floorPortDown (l : FloorLine)
  /-- FLOOR_PORT_UP (R420). With both ports down, the first port up becomes active. -/
  | floorPortUp (l : FloorLine)
  /-- PORT_SWITCH (R420). A write to FLR_CTRL.active switches ports at once. -/
  | portSwitch (m : Master) (p : Fin 2)
  /-- DOMAIN_REQUEST (R442). A PWR_DOM_REQ write is checked whole against R441 and refused or applied domain by
      domain. -/
  | domainRequest (m : Master) (hi : Bool) (v : Word)
  /-- DOMAIN_SWITCH (R442). A domain finishes powering down or up within 20 µs, and dom_done sets after the last. -/
  | domainSwitch
  /-- ECLIPSE (R448). PWR_CMD.eclipse completes commits, stops outputs and removes every domain but PD0 and PD1, or
      is refused. -/
  | eclipse (m : Master)
  /-- RESET_COMMAND (R462). PWR_CMD.reset resets the device whole with cause 0x06. -/
  | resetCommand (m : Master)
  /-- ECLIPSE_WAKE (R449). An enabled wake event ends Eclipse and runs reset release with cause 0x04. -/
  | eclipseWake (wakePin : Bool)
  /-- PLL_STOP (R445). A fast PLL stops when every condition of its row holds and its Doze enable is set. -/
  | pllStop (p : Pll)
  /-- WAKE_DEMAND (R446). A sampled wake demand restarts the stopped PLLs. -/
  | wakeDemand (d : Demand)
  /-- PLL_LOCK (R447). A restarted PLL locks and its units run within 60 µs of the demand. -/
  | pllLock (p : Pll)
  /-- RTC_TICK (R451). Each 32.768 kHz tick advances the RTC and uptime. -/
  | rtcTick
  /-- ALARM (R453). The RTC passing PWR_ALARM fires the alarm, raising source 111 and clearing alarm_en. -/
  | rtcAlarm
  /-- RTC_SET (R452). A debug write of PWR_RTC_SET_HI loads the RTC at the next tick. -/
  | rtcSet (m : Master) (hi : Word)
  /-- SUPPLY_WARNING (R455). A rail falling below its warning level holds MRAM commits and raises source 109. -/
  | supplyWarning (r : Rail)
  /-- SUPPLY_CLEAR (R456). A rail rising above its clearing level starts a recovery hold at the next tick. -/
  | supplyClear (r : Rail)
  /-- HOLD_END (R456). When the recovery hold expires with no rail in warning, held commits resume and the dip is
      logged. -/
  | holdEnd
  /-- SUPPLY_RESET (R457). A rail at its reset level asserts device reset whole within 1 µs. -/
  | supplyReset (r : Rail)
  /-- VBAT_SWITCH (R458). PD0 switches between VDD_AON and VBAT, keeping its contents. -/
  | vbatSwitch (toVbat : Bool)
  /-- VBAT_LOSS (R458). VBAT below 2.0 V with VDD_AON absent loses PD0's contents. -/
  | vbatLoss
  /-- RESET_N (R486). RESET_N low for three ticks resets the device and restarts the release wait. -/
  | resetN (low : Bool)
  /-- DEBUG_CONNECT (R443). The debug port's connect request powers PD39. -/
  | debugConnect
  /-- DEBUG_RESET (R461). A reset from the debug port resets the device with cause 0x07. -/
  | debugReset
  /-- SELF_TEST_REQUEST (R475). A 1 written to SYS_LST_REQ requests logic self-test of a group. -/
  | selfTestRequest (m : Master) (v : BitVec 16)
  /-- SELF_TEST_START (R475). The controller starts the lowest pending group that is idle. -/
  | selfTestStart
  /-- SELF_TEST_END (R476). A test ends with the group at reset values and done set, or tilt 0x40nn on a bad
      signature. -/
  | selfTestEnd (good : Bool)
  /-- MRAM_TEST (R477). SYS_MBIST_CTRL.mram tests the free spare rows, retiring failed ones. -/
  | mramTest (m : Master)
  /-- DRAM_TEST (R477). SYS_MBIST_CTRL.dram tests the marked spare DRAM range. -/
  | dramTest (m : Master)
  /-- MEMORY_TEST_END (R477). A memory self-test ends, clearing its bit and reporting findings in SYS_MBIST_STAT. -/
  | memoryTestEnd (e : MemTest)
  /-- PD0_POWER_UP (R458). Power first reaches PD0, from VDD_AON or from a fitted VBAT, and its registers take their
      reset values with the RTC counting from 0. -/
  | pd0PowerUp (fromVbat : Bool)
  /-- VBAT_LOW (R458). VBAT crosses 2.5 V, setting or clearing MON_STAT.vbat_low and recording vbat_low_seen for the
      next reset cause. -/
  | vbatLow (low : Bool)
  /-- DEBUG_HALT (R239). A halt request or single step from the debug port stops a core in debug, setting in_debug. -/
  | debugHalt (k : CoreId) (o : DebugOp)
  /-- FLOOR_STOP (R429). Clearing FLR_CTRL.run stops sending after the datagram in progress and ends the session. -/
  | floorStop (m : Master)
  /-- BEAM_START (R159). A nonzero DSP_CTRL.mode going live while the beam is stopped starts the beam at line 0 on
      the next pixel clock and advances the refresh count. -/
  | beamStart (d : Fin 4)
  /-- POWER_UP_CALIBRATION_DONE (R220). 16 ms after PD35 powers up, calibration of every modulator and ADC completes
      and the held AAS enables take effect. -/
  | powerUpCalibrationDone (rpts : List (BitVec 28))
  deriving DecidableEq, Repr

end Sys2Proof
end

