-- ==== Sys2Proof/Config.lean ====
section
/-! DEFINITION. What the manual leaves open, as constants without a body: no proof can see their values. -/
namespace Sys2Proof.Config

/-- What a memory byte that nothing has written reads as: DRAM since device reset (R501), X and Y RAM since the
core's reset (R237, R502). The first argument is the state's free counter, the second the byte's key. -/
opaque undefByte : Nat → Nat → Byte

/-- Whether a clean line still stands in the L2: R230 gives no times for replacement. Free counter, line number. -/
opaque l2Keeps : Nat → Nat → Bool

/-- Whether a line still stands in a core's I-cache or an audio core's D-cache (R230). Free counter, line number. -/
opaque l1Keeps : Nat → Nat → Bool

/-- The conditioned entropy blocks that the part drew at final test for its identity key pair (R372). Block, byte number. -/
opaque finalTestBlock : Nat → Nat → Byte

/-- The boot ROM's digest, a fixed value for stepping B1 that the manual does not print (R354). -/
opaque bootRomDigest : Nat → Byte

/-- What a fuse row that failed its read-back holds (R377). Free counter, byte number. -/
opaque badFuse : Nat → Nat → Byte

/-- The fuse row under way when commits begin to be held is the last of a root hash (R455, R377). Free counter. -/
opaque lastFuseRow : Nat → Bool

/-- The row of a control value within the control area (R392): the manual gives the area and not its layout. The value: 0 the
boot counter, 1 the acknowledged counter, 2 the seal marker, 3 + b the directory of bank b. -/
opaque controlRow : Nat → Nat

/-- Which bits of an MRAM granule cut by a device reset hold the new contents (R507). Free counter. -/
opaque cutGranule : Nat → BitVec 256

/-- What a control granule cut by a device reset reads as: 0 old, 1 new, otherwise failing its check (R507). -/
opaque cutControl : Nat → Nat

/-- What a palette entry that nothing has written since power-up holds (R70). Seed, cluster, entry. -/
opaque undefPalette : Nat → Nat → Nat → BitVec 40

/-- What a coefficient that nothing has written since power-up holds (R70). Seed, cluster, coefficient key. -/
opaque undefCoef : Nat → Nat → Nat → BitVec 10

/-- The bits that the code strip of the tilt screen shows after a stop of start-up without a tilt: R471 draws the tilt
code, and there is none. The argument is the word of CFG_STOP. -/
opaque stopStrip : Nat → Nat

/-- A tap of a rate bridge (R194): they are fixed, and the manual prints none. Bridge, tap from the nearer end. -/
opaque bridgeTap : Nat → Nat → Int

/-- A rate bridge's exact sum as it leaves: the manual gives neither the taps' scale nor the rounding (R194). Bridge. -/
opaque bridgeRound : Nat → Int → BitVec 24

/-- The sample that a microphone ADC makes of a level at its input, behind a gain in dB (R218): the manual gives no
number. -/
opaque micSample : Nat → BitVec 24 → BitVec 24

/-- The sample of a sound of length 0, which has none (R202, R204). Free counter. -/
opaque emptySound : Nat → BitVec 24

/-- The bus that an effect takes for one above 31, and the sample that goes between an effect and a bus that is not of the
48 kHz domain (R213). Free counter, audio core, bus of the effect. -/
opaque effectBus : Nat → Nat → Nat → Nat
opaque effectSample : Nat → Nat → Nat → BitVec 24

/-- What a performance counter of clocks or cache misses holds: the model has no clock to count. Free counter, counter. -/
opaque clockCount : Nat → Nat → Word

/-- The latency in memory command clocks of a DRAM read (R317): the model has no clock to count. Free counter. -/
opaque readLatency : Nat → Nat

/-- Whether a DMA read of a granule that the channel has written without a drain since returns the old value (R288).
Free counter, granule address. -/
opaque granuleOld : Nat → Nat → Bool

/-- Whether a reader of a pixel that a blit command in progress writes sees its value before the command (R190). Free
counter, pixel. -/
opaque blitOld : Nat → Nat → Bool

/-- Which of the versions that its length allows a broadcast frame takes: the manual gives none. Port. -/
opaque broadcastVersion : Nat → Nat

/-- The seq of a broadcast's payload less 1 and modulo 255, and its ack, in versions 2 and 3 (R322): a broadcast has no
node whose numbers they are. Free counter. -/
opaque broadcastSeq : Nat → Nat
opaque broadcastAck : Nat → Byte

/-- The bytes that a Heto descriptor of length 0 sends, less 1: a length is 1 and above (R337). Free counter. -/
opaque unstatedLength : Nat → Nat

/-- Whether the first byte of four of an address lies in its register's bits [31:24], or in bits [7:0] (R421): the manual does
not say. -/
opaque addressHighFirst : Bool

/-- The floor key of a part that holds none (R370). Byte number. -/
opaque absentFloorKey : Nat → Byte

/-- Where in the floor link's DRAM buffer a message or an item comes to lie, in bursts: R425 gives no layout. Free counter. -/
opaque floorPlace : Nat → Nat

/-- The MAC address with which a next hop answers the floor link's resolution (R421). Address, byte number. -/
opaque hopMac : List (BitVec 32) → Nat → Byte

/-- What drives a pad from outside, at a level, or nothing. Free counter, pin. -/
opaque padDrive : Nat → Nat → Option Bool

/-- The level of a pad that nothing drives and no pull holds. Free counter, pin. -/
opaque padLevel : Nat → Nat → Bool

/-- The half of a bit clock of the period in which a TDM pin is looked at (R219): the model has no bit clock. Free
counter. -/
opaque tdmMoment : Nat → Nat

/-- Which listed code a field takes that is written with a code its table does not list (chapter 0). Free counter, port. -/
opaque unlistedCode : Nat → Nat → Nat

/-- What is sensed on a bank's VIO supply: bit 0 within its range, bit 1 3.3 V (R430). Free counter, bank. -/
opaque bankSense : Nat → Nat → BitVec 2

/-- What a read of HLK RX cells outside those received returns. Free counter, port address. -/
opaque staleCell : Nat → Nat → Word

/-- The ticks of a recovery hold while MON_CFG.hold lies below its range (chapter 22): the next free value. -/
opaque holdTicks : Nat → Nat

end Sys2Proof.Config
end

