-- ==== Sys2Proof/Machine/Bits.lean ====
section
/-! DEFINITION. Bit-field, sign-extension and byte-order helpers on words, and the sparse tables that hold every
array of the state. -/
namespace Sys2Proof.Machine

/-- A bit field [hi:lo] of a register (the manual's notation of R5 ff.). -/
structure Fld where
  hi : Nat
  lo : Nat
  deriving DecidableEq, Repr

/-- The number of bits of a field. -/
def Fld.len (f : Fld) : Nat := f.hi + 1 - f.lo

/-- Bits [hi:lo] of a natural number. -/
def bits (v hi lo : Nat) : Nat := (v >>> lo) % 2 ^ (hi + 1 - lo)

/-- One bit of a natural number. -/
def bit (v n : Nat) : Bool := v.testBit n

/-- The field's value in a register word. -/
def Fld.get (f : Fld) (w : Word) : Nat := bits w.toNat f.hi f.lo

/-- A one-bit field read as a truth value. -/
def Fld.on (f : Fld) (w : Word) : Bool := w.toNat.testBit f.lo

/-- The mask with ones in the field's bits. -/
def Fld.mask (f : Fld) : Word := BitVec.ofNat 32 ((2 ^ f.len - 1) <<< f.lo)

/-- The register word with the field set to n (n taken modulo the field's size) and every other bit unchanged. -/
def Fld.put (f : Fld) (n : Nat) (w : Word) : Word :=
  (w &&& ~~~ f.mask) ||| BitVec.ofNat 32 ((n % 2 ^ f.len) <<< f.lo)

/-- A Bool as a bit. -/
def b2n (b : Bool) : Nat := if b then 1 else 0

/-- The n low bits of v read in two's complement. -/
def sext (v n : Nat) : Int :=
  if (v % 2 ^ n) < 2 ^ (n - 1) then ((v % 2 ^ n : Nat) : Int) else ((v % 2 ^ n : Nat) : Int) - ((2 ^ n : Nat) : Int)

/-- An integer as n bits in two's complement. -/
def toBits (n : Nat) (x : Int) : Nat := (x % ((2 ^ n : Nat) : Int)).toNat

/-- The integer nearest to x that lies from lo to hi. -/
def clampI (lo hi x : Int) : Int := if x < lo then lo else if hi < x then hi else x

/-- The natural number of n bytes in little-endian order. -/
def leToNat : List Byte → Nat
  | [] => 0
  | b :: bs => b.toNat + 256 * leToNat bs

/-- n bytes of v, little-endian. -/
def natToLe : Nat → Nat → List Byte
  | 0, _ => []
  | n + 1, v => BitVec.ofNat 8 v :: natToLe n (v / 256)

/-- The natural number of bytes in big-endian order. -/
def beToNat (bs : List Byte) : Nat := leToNat bs.reverse

/-- n bytes of v, big-endian. -/
def natToBe (n v : Nat) : List Byte := (natToLe n v).reverse

/-- A sparse table: keys strictly rising, each with its value; an unlisted key reads as a default. -/
abbrev Tab (α : Type) := List (Nat × α)

/-- The value listed at key k, if any. -/
def Tab.find {α : Type} : Tab α → Nat → Option α
  | [], _ => none
  | (j, x) :: t, k => if j = k then some x else Tab.find t k

/-- The value at key k, d where nothing is listed. -/
def Tab.get {α : Type} (t : Tab α) (d : α) (k : Nat) : α := (Tab.find t k).getD d

/-- The table without key k. -/
def Tab.erase {α : Type} : Tab α → Nat → Tab α
  | [], _ => []
  | (j, x) :: t, k => if j = k then Tab.erase t k else (j, x) :: Tab.erase t k

/-- The table with x listed at key k, keys kept in rising order. -/
def Tab.insert {α : Type} : Tab α → Nat → α → Tab α
  | [], k, x => [(k, x)]
  | (j, y) :: t, k, x =>
    if j = k then (k, x) :: t else if k < j then (k, x) :: (j, y) :: t else (j, y) :: Tab.insert t k x

/-- The table with the value at key k set to x, nothing listed for a value equal to the default d. -/
def Tab.set {α : Type} [DecidableEq α] (t : Tab α) (d : α) (k : Nat) (x : α) : Tab α :=
  if x = d then Tab.erase t k else Tab.insert t k x

/-- The table with the value at key k changed by f. -/
def Tab.upd {α : Type} [DecidableEq α] (t : Tab α) (d : α) (k : Nat) (f : α → α) : Tab α :=
  Tab.set t d k (f (Tab.get t d k))

/-- The keys rise strictly, above lo. -/
def Tab.sortedFrom {α : Type} : Nat → Tab α → Bool
  | _, [] => true
  | lo, (j, _) :: t => decide (lo ≤ j) && Tab.sortedFrom (j + 1) t

/-- The canonical form: keys strictly rising, and no entry equal to what an unlisted key reads as. -/
def Tab.wf {α : Type} [DecidableEq α] (t : Tab α) (dflt : Nat → α) : Bool :=
  Tab.sortedFrom 0 t && t.all (fun e => decide (e.2 ≠ dflt e.1))

/-- Replace entry n of a list, unchanged when n is out of range. -/
def setAt {α : Type} : List α → Nat → α → List α
  | [], _, _ => []
  | _ :: t, 0, x => x :: t
  | y :: t, n + 1, x => y :: setAt t n x

/-- Apply f k times. -/
def iter {α : Type} (f : α → α) : Nat → α → α
  | 0, a => a
  | n + 1, a => iter f n (f a)

end Sys2Proof.Machine
end

