-- ==== Sys2Proof/Machine/Fields.lean ====
section
/-! DEFINITION. The bit fields of every register, named REGISTER_field, as the register tables give them (R5, R8). -/
namespace Sys2Proof.Machine.F

abbrev SYS_ID_part : Fld := ⟨15, 0⟩
abbrev SYS_ID_step_number : Fld := ⟨19, 16⟩
abbrev SYS_ID_step_letter : Fld := ⟨23, 20⟩
abbrev SYS_TILT_REQ_cause : Fld := ⟨7, 0⟩
abbrev SYS_TILT_tilted : Fld := ⟨0, 0⟩
abbrev SYS_LST_REQ_core : Fld := ⟨7, 0⟩
abbrev SYS_LST_REQ_cluster : Fld := ⟨11, 8⟩
abbrev SYS_LST_REQ_other : Fld := ⟨15, 12⟩
abbrev SYS_LST_DONE_done : Fld := ⟨15, 0⟩
abbrev SYS_LST_STAT_running : Fld := ⟨4, 0⟩
abbrev SYS_MBIST_CTRL_mram : Fld := ⟨0, 0⟩
abbrev SYS_MBIST_CTRL_dram : Fld := ⟨1, 1⟩
abbrev SYS_MBIST_BASE_base : Fld := ⟨27, 0⟩
abbrev SYS_MBIST_SIZE_pages : Fld := ⟨23, 0⟩
abbrev SYS_MBIST_STAT_retired : Fld := ⟨7, 0⟩
abbrev SYS_MBIST_STAT_dram_fail : Fld := ⟨8, 8⟩
abbrev SYS_MBIST_STAT_page : Fld := ⟨31, 9⟩
abbrev SYS_CORE_CTRL_run : Fld := ⟨0, 0⟩
abbrev SYS_CORE_CTRL_reset : Fld := ⟨1, 1⟩
abbrev SYS_CORE_CTRL_ugpio : Fld := ⟨2, 2⟩
abbrev SYS_CORE_CTRL_halted : Fld := ⟨8, 8⟩
abbrev SYS_CORE_CTRL_stopped : Fld := ⟨9, 9⟩
abbrev SYS_CORE_CTRL_in_debug : Fld := ⟨10, 10⟩
abbrev SYS_CORE_ENTRY_entry : Fld := ⟨31, 0⟩
abbrev SYS_VBASE_base : Fld := ⟨31, 8⟩
abbrev SYS_XPC_value : Fld := ⟨31, 0⟩
abbrev SYS_XSR_value : Fld := ⟨6, 0⟩
abbrev SYS_XCAUSE_cause : Fld := ⟨2, 0⟩
abbrev SYS_XADDR_LO_addr : Fld := ⟨31, 0⟩
abbrev SYS_XADDR_HI_addr : Fld := ⟨7, 0⟩
abbrev SYS_CMO_LO_addr : Fld := ⟨31, 6⟩
abbrev SYS_CMO_HI_addr : Fld := ⟨7, 0⟩
abbrev SYS_CMO_SIZE_lines : Fld := ⟨23, 0⟩
abbrev SYS_CMO_CTRL_op : Fld := ⟨2, 0⟩
abbrev SYS_CMO_CTRL_busy : Fld := ⟨8, 8⟩
abbrev SYS_CMO_CTRL_dirty : Fld := ⟨30, 16⟩
abbrev SYS_CMO_CTRL_start : Fld := ⟨31, 31⟩
abbrev SYS_TILT_LAST_code : Fld := ⟨15, 0⟩
abbrev SYS_TILT_LAST_raster : Fld := ⟨16, 16⟩
abbrev SYS_TILT_LAST_logged : Fld := ⟨17, 17⟩
abbrev SYS_TILT_TIME_LO_time : Fld := ⟨31, 0⟩
abbrev SYS_TILT_TIME_HI_time : Fld := ⟨31, 0⟩
abbrev SYS_TILT_CNT_later : Fld := ⟨15, 0⟩
abbrev PWR_STAT_refused : Fld := ⟨0, 0⟩
abbrev PWR_STAT_dom_done : Fld := ⟨1, 1⟩
abbrev PWR_STAT_eclipse_refused : Fld := ⟨2, 2⟩
abbrev PWR_STAT_refuse_cause : Fld := ⟨10, 8⟩
abbrev PWR_INT_EN_enable : Fld := ⟨2, 0⟩
abbrev PWR_DOM_REQ0_on : Fld := ⟨31, 0⟩
abbrev PWR_DOM_REQ1_on : Fld := ⟨7, 0⟩
abbrev PWR_DOM_STAT0_on : Fld := ⟨31, 0⟩
abbrev PWR_DOM_STAT1_on : Fld := ⟨7, 0⟩
abbrev PWR_DOZE_EN_cpu : Fld := ⟨0, 0⟩
abbrev PWR_DOZE_EN_comp : Fld := ⟨1, 1⟩
abbrev PWR_DOZE_EN_audio : Fld := ⟨2, 2⟩
abbrev PWR_DOZE_EN_mem : Fld := ⟨3, 3⟩
abbrev PWR_PLL_locked : Fld := ⟨3, 0⟩
abbrev PWR_PLL_link : Fld := ⟨7, 4⟩
abbrev PWR_CMD_eclipse : Fld := ⟨0, 0⟩
abbrev PWR_CMD_reset : Fld := ⟨1, 1⟩
abbrev PWR_RESET_CAUSE_cause : Fld := ⟨7, 0⟩
abbrev PWR_RESET_CAUSE_rail : Fld := ⟨9, 8⟩
abbrev PWR_RESET_CAUSE_wake : Fld := ⟨15, 12⟩
abbrev PWR_RESET_CAUSE_rtc_invalid : Fld := ⟨16, 16⟩
abbrev PWR_RESET_CAUSE_vbat_low_seen : Fld := ⟨17, 17⟩
abbrev PWR_RTC_LO_count : Fld := ⟨31, 0⟩
abbrev PWR_RTC_HI_count : Fld := ⟨31, 0⟩
abbrev PWR_UP_LO_count : Fld := ⟨31, 0⟩
abbrev PWR_UP_HI_count : Fld := ⟨31, 0⟩
abbrev PWR_ALARM_LO_alarm : Fld := ⟨31, 0⟩
abbrev PWR_ALARM_HI_alarm : Fld := ⟨31, 0⟩
abbrev PWR_WAKE_EN_alarm_en : Fld := ⟨0, 0⟩
abbrev PWR_WAKE_EN_wake_alarm : Fld := ⟨1, 1⟩
abbrev PWR_WAKE_EN_wake_door : Fld := ⟨2, 2⟩
abbrev PWR_WAKE_EN_wake_gpio : Fld := ⟨3, 3⟩
abbrev PWR_WAKE_EN_wake_pin : Fld := ⟨4, 4⟩
abbrev PWR_RTC_SET_LO_time : Fld := ⟨31, 0⟩
abbrev PWR_RTC_SET_HI_time : Fld := ⟨31, 0⟩
abbrev MON_STAT_core_ok : Fld := ⟨0, 0⟩
abbrev MON_STAT_vio_ok : Fld := ⟨1, 1⟩
abbrev MON_STAT_vddq_ok : Fld := ⟨2, 2⟩
abbrev MON_STAT_core_warn : Fld := ⟨4, 4⟩
abbrev MON_STAT_vio_warn : Fld := ⟨5, 5⟩
abbrev MON_STAT_vddq_warn : Fld := ⟨6, 6⟩
abbrev MON_STAT_hold : Fld := ⟨8, 8⟩
abbrev MON_STAT_vbat_low : Fld := ⟨9, 9⟩
abbrev MON_STAT_on_vbat : Fld := ⟨10, 10⟩
abbrev MON_CFG_hold : Fld := ⟨8, 0⟩
abbrev MON_CNT_core : Fld := ⟨7, 0⟩
abbrev MON_CNT_vio : Fld := ⟨15, 8⟩
abbrev MON_CNT_vddq : Fld := ⟨23, 16⟩
abbrev INT_SRC_CFG_prio : Fld := ⟨3, 0⟩
abbrev INT_SRC_CFG_target : Fld := ⟨7, 4⟩
abbrev INT_SRC_CFG_moderate : Fld := ⟨8, 8⟩
abbrev INT_SRC_CFG_edge : Fld := ⟨9, 9⟩
abbrev INT_SRC_CFG_async : Fld := ⟨10, 10⟩
abbrev INT_PRIV_CFG_prio : Fld := ⟨3, 0⟩
abbrev INT_PRIV_CFG_moderate : Fld := ⟨8, 8⟩
abbrev INT_PRIV_CFG_target : Fld := ⟨7, 4⟩
abbrev INT_PRIV_CFG_edge : Fld := ⟨9, 9⟩
abbrev INT_PRIV_CFG_async : Fld := ⟨10, 10⟩
abbrev INT_PEND_SET_bits : Fld := ⟨31, 0⟩
abbrev INT_PEND_CLR_bits : Fld := ⟨31, 0⟩
abbrev INT_EN_SET_bits : Fld := ⟨31, 0⟩
abbrev INT_EN_CLR_bits : Fld := ⟨31, 0⟩
abbrev INT_ACTIVE_bits : Fld := ⟨31, 0⟩
abbrev INT_CLAIM_source : Fld := ⟨8, 0⟩
abbrev INT_CLAIM_prio : Fld := ⟨15, 12⟩
abbrev INT_CLAIM_none : Fld := ⟨31, 31⟩
abbrev INT_COMPLETE_source : Fld := ⟨8, 0⟩
abbrev INT_THR_thr : Fld := ⟨3, 0⟩
abbrev INT_RUNPRI_run : Fld := ⟨3, 0⟩
abbrev INT_RUNPRI_pres : Fld := ⟨7, 4⟩
abbrev INT_RUNPRI_presenting : Fld := ⟨8, 8⟩
abbrev INT_MOD_interval : Fld := ⟨15, 0⟩
abbrev INT_STAT_bad_complete : Fld := ⟨0, 0⟩
abbrev INT_DOORBELL_bell : Fld := ⟨3, 0⟩
abbrev INT_DOORBELL_core : Fld := ⟨11, 8⟩
abbrev INT_EDGE_SEL_sel : Fld := ⟨31, 0⟩
abbrev TMR_CTRL_run : Fld := ⟨0, 0⟩
abbrev TMR_CTRL_mode : Fld := ⟨2, 1⟩
abbrev TMR_CTRL_prescale : Fld := ⟨11, 4⟩
abbrev TMR_CTRL_out_mode : Fld := ⟨14, 12⟩
abbrev TMR_CTRL_dma_sel : Fld := ⟨17, 16⟩
abbrev TMR_TOP_LO_low : Fld := ⟨31, 0⟩
abbrev TMR_TOP_HI_high : Fld := ⟨15, 0⟩
abbrev TMR_CMP_LO_low : Fld := ⟨31, 0⟩
abbrev TMR_CMP_HI_high : Fld := ⟨15, 0⟩
abbrev TMR_CMD_snap : Fld := ⟨0, 0⟩
abbrev TMR_CMD_clear : Fld := ⟨1, 1⟩
abbrev TMR_CMD_out_set : Fld := ⟨2, 2⟩
abbrev TMR_CMD_out_clr : Fld := ⟨3, 3⟩
abbrev TMR_SNAP_LO_count : Fld := ⟨31, 0⟩
abbrev TMR_SNAP_HI_count : Fld := ⟨15, 0⟩
abbrev TMR_CAPCTRL_rise : Fld := ⟨0, 0⟩
abbrev TMR_CAPCTRL_fall : Fld := ⟨1, 1⟩
abbrev TMR_CAPCTRL_pair : Fld := ⟨2, 2⟩
abbrev TMR_CAPCTRL_src : Fld := ⟨6, 4⟩
abbrev TMR_CAPCTRL_filt : Fld := ⟨11, 8⟩
abbrev TMR_CAPR_LO_count : Fld := ⟨31, 0⟩
abbrev TMR_CAPR_HI_count : Fld := ⟨15, 0⟩
abbrev TMR_CAPF_LO_count : Fld := ⟨31, 0⟩
abbrev TMR_CAPF_HI_count : Fld := ⟨15, 0⟩
abbrev TMR_WIDTH_ticks : Fld := ⟨31, 0⟩
abbrev TMR_STAT_match : Fld := ⟨0, 0⟩
abbrev TMR_STAT_wrap : Fld := ⟨1, 1⟩
abbrev TMR_STAT_capr : Fld := ⟨2, 2⟩
abbrev TMR_STAT_capf : Fld := ⟨3, 3⟩
abbrev TMR_STAT_ovr : Fld := ⟨4, 4⟩
abbrev TMR_STAT_down : Fld := ⟨8, 8⟩
abbrev TMR_STAT_out : Fld := ⟨9, 9⟩
abbrev TMR_INT_EN_enable : Fld := ⟨4, 0⟩
abbrev PMC_CTRL_enable : Fld := ⟨0, 0⟩
abbrev PMC_CTRL_user_rd : Fld := ⟨1, 1⟩
abbrev PMC_CTRL_clear : Fld := ⟨2, 2⟩
abbrev PMC_OVF0_bits : Fld := ⟨31, 0⟩
abbrev PMC_OVF1_bits : Fld := ⟨31, 0⟩
abbrev PMC_OVF_EN0_bits : Fld := ⟨31, 0⟩
abbrev PMC_OVF_EN1_bits : Fld := ⟨31, 0⟩
abbrev PMC_HOLD_high : Fld := ⟨31, 0⟩
abbrev PMC_CFG_event : Fld := ⟨9, 0⟩
abbrev PMC_CFG_core : Fld := ⟨13, 10⟩
abbrev PMC_CFG_en : Fld := ⟨14, 14⟩
abbrev PMC_CFG_chain : Fld := ⟨15, 15⟩
abbrev PMC_VAL_count : Fld := ⟨31, 0⟩
abbrev PMC_HIST_CFG_req : Fld := ⟨4, 0⟩
abbrev PMC_HIST_CFG_ch_mask : Fld := ⟨8, 5⟩
abbrev PMC_HIST_CFG_shift : Fld := ⟨12, 9⟩
abbrev PMC_HIST_CFG_en : Fld := ⟨13, 13⟩
abbrev PMC_HIST_CFG_clear : Fld := ⟨14, 14⟩
abbrev PMC_HIST_BIN_count : Fld := ⟨31, 0⟩
abbrev MEM_CFG_channels : Fld := ⟨1, 0⟩
abbrev MEM_CFG_density : Fld := ⟨5, 4⟩
abbrev MEM_CFG_rate : Fld := ⟨9, 8⟩
abbrev MEM_CFG_locked : Fld := ⟨31, 31⟩
abbrev MEM_STAT_ch_ready : Fld := ⟨3, 0⟩
abbrev MEM_STAT_init_done : Fld := ⟨8, 8⟩
abbrev MEM_ARB_CFG_n : Fld := ⟨6, 0⟩
abbrev MEM_WDOG_limit : Fld := ⟨19, 0⟩
abbrev MEM_ARB_STAT_last_id : Fld := ⟨4, 0⟩
abbrev MEM_ARB_STAT_lock_owner : Fld := ⟨12, 8⟩
abbrev MEM_ARB_STAT_locked : Fld := ⟨13, 13⟩
abbrev MEM_ARB_STAT_grant_count : Fld := ⟨31, 16⟩
abbrev MEM_RANK_rank : Fld := ⟨3, 0⟩
abbrev MEM_RANK_applied_rank : Fld := ⟨7, 4⟩
abbrev MEM_RANK_urgent : Fld := ⟨8, 8⟩
abbrev MEM_RANK_pending : Fld := ⟨22, 16⟩
abbrev MEM_LTR_D_tolerance : Fld := ⟨15, 0⟩
abbrev MEM_LTR_KTL_tolerance : Fld := ⟨15, 0⟩
abbrev MEM_LTR_SW_tolerance : Fld := ⟨15, 0⟩
abbrev MEM_SR_CFG_enable : Fld := ⟨0, 0⟩
abbrev MEM_SR_CFG_hold : Fld := ⟨15, 8⟩
abbrev MEM_SR_EXIT_exit : Fld := ⟨15, 0⟩
abbrev MEM_SR_STAT_in_sr : Fld := ⟨3, 0⟩
abbrev MEM_SR_STAT_entries : Fld := ⟨31, 16⟩
abbrev MEM_ECC_STAT_dram_ce : Fld := ⟨11, 0⟩
abbrev MEM_ECC_STAT_sram_ce : Fld := ⟨23, 12⟩
abbrev MEM_ECC_STAT_dram_retry : Fld := ⟨31, 24⟩
abbrev MEM_ECC_ADDR_LO_addr_lo : Fld := ⟨31, 0⟩
abbrev MEM_ECC_ADDR_HI_addr_hi : Fld := ⟨7, 0⟩
abbrev MEM_ECC_ADDR_HI_in_sram : Fld := ⟨8, 8⟩
abbrev MEM_INT_STAT_dram_ce : Fld := ⟨0, 0⟩
abbrev MEM_INT_STAT_dram_retry : Fld := ⟨1, 1⟩
abbrev MEM_INT_STAT_sram_ce : Fld := ⟨2, 2⟩
abbrev MEM_INT_STAT_sram_refetch : Fld := ⟨3, 3⟩
abbrev MEM_INT_STAT_wdog : Fld := ⟨4, 4⟩
abbrev MEM_INT_EN_enable : Fld := ⟨4, 0⟩
abbrev DMA_CH_CTRL_run : Fld := ⟨0, 0⟩
abbrev DMA_CH_PROG_LO_addr : Fld := ⟨31, 5⟩
abbrev DMA_CH_PROG_HI_addr : Fld := ⟨7, 0⟩
abbrev DMA_CH_SRC_LO_addr : Fld := ⟨31, 5⟩
abbrev DMA_CH_SRC_HI_addr : Fld := ⟨7, 0⟩
abbrev DMA_CH_DST_LO_addr : Fld := ⟨31, 5⟩
abbrev DMA_CH_DST_HI_addr : Fld := ⟨7, 0⟩
abbrev DMA_CH_FIFO_base : Fld := ⟨6, 0⟩
abbrev DMA_CH_FIFO_size : Fld := ⟨15, 8⟩
abbrev DMA_CH_RATE_limit : Fld := ⟨11, 0⟩
abbrev DMA_CH_PC_index : Fld := ⟨19, 0⟩
abbrev DMA_CH_PC_depth : Fld := ⟨22, 20⟩
abbrev DMA_CH_STAT_state : Fld := ⟨2, 0⟩
abbrev DMA_CH_STAT_done : Fld := ⟨4, 4⟩
abbrev DMA_CH_STAT_sig : Fld := ⟨5, 5⟩
abbrev DMA_CH_STAT_err : Fld := ⟨6, 6⟩
abbrev DMA_CH_STAT_err_code : Fld := ⟨10, 8⟩
abbrev DMA_CH_INT_EN_enable : Fld := ⟨5, 4⟩
abbrev DMA_EVENT_SET_flags : Fld := ⟨31, 0⟩
abbrev DMA_EVENT_CLR_flags : Fld := ⟨31, 0⟩
abbrev DMA_ERR_SUM_chan : Fld := ⟨31, 0⟩
abbrev BLT_CTRL_run : Fld := ⟨0, 0⟩
abbrev BLT_RING_BASE_base : Fld := ⟨28, 0⟩
abbrev BLT_RING_SIZE_log2 : Fld := ⟨3, 0⟩
abbrev BLT_HEAD_index : Fld := ⟨11, 0⟩
abbrev BLT_TAIL_index : Fld := ⟨11, 0⟩
abbrev BLT_DONE_TAG_tag : Fld := ⟨31, 0⟩
abbrev BLT_STAT_busy : Fld := ⟨0, 0⟩
abbrev BLT_STAT_cmd_done : Fld := ⟨1, 1⟩
abbrev BLT_STAT_err : Fld := ⟨2, 2⟩
abbrev BLT_STAT_err_code : Fld := ⟨6, 4⟩
abbrev BLT_STAT_dir : Fld := ⟨9, 8⟩
abbrev BLT_INT_EN_enable : Fld := ⟨2, 1⟩
abbrev PIN_CFG_oe : Fld := ⟨0, 0⟩
abbrev PIN_CFG_od : Fld := ⟨1, 1⟩
abbrev PIN_CFG_pull : Fld := ⟨3, 2⟩
abbrev PIN_CFG_drive : Fld := ⟨5, 4⟩
abbrev PIN_CFG_slow : Fld := ⟨6, 6⟩
abbrev PIN_CFG_cores : Fld := ⟨25, 16⟩
abbrev PIN_CFG_func : Fld := ⟨29, 28⟩
abbrev PIN_IN_level : Fld := ⟨31, 0⟩
abbrev PIN_DRV_driven : Fld := ⟨31, 0⟩
abbrev PIN_OUTV_value : Fld := ⟨31, 0⟩
abbrev PIN_BANK_present : Fld := ⟨0, 0⟩
abbrev PIN_BANK_v33 : Fld := ⟨1, 1⟩
abbrev PIN_PRIV_OUT_pins : Fld := ⟨31, 0⟩
abbrev PIN_PRIV_SET_pins : Fld := ⟨31, 0⟩
abbrev PIN_PRIV_CLR_pins : Fld := ⟨31, 0⟩
abbrev PIN_PRIV_IN_pins : Fld := ⟨31, 0⟩
abbrev HLK_CTRL_run : Fld := ⟨0, 0⟩
abbrev HLK_CTRL_retries : Fld := ⟨2, 1⟩
abbrev HLK_CTRL_lost_after : Fld := ⟨7, 4⟩
abbrev HLK_CTRL_crit : Fld := ⟨8, 8⟩
abbrev HLK_CTRL_ver_allow : Fld := ⟨14, 12⟩
abbrev HLK_PLCA_node_count : Fld := ⟨6, 0⟩
abbrev HLK_TBL_len : Fld := ⟨8, 0⟩
abbrev HLK_POS_slot : Fld := ⟨7, 0⟩
abbrev HLK_POS_pass : Fld := ⟨31, 8⟩
abbrev HLK_STAT_running : Fld := ⟨0, 0⟩
abbrev HLK_STAT_down : Fld := ⟨1, 1⟩
abbrev HLK_STAT_rx_avail : Fld := ⟨2, 2⟩
abbrev HLK_STAT_tx_done : Fld := ⟨3, 3⟩
abbrev HLK_STAT_node_lost : Fld := ⟨4, 4⟩
abbrev HLK_STAT_err : Fld := ⟨5, 5⟩
abbrev HLK_STAT_refused : Fld := ⟨6, 6⟩
abbrev HLK_STAT_down_cause : Fld := ⟨9, 8⟩
abbrev HLK_INT_EN_enable : Fld := ⟨6, 2⟩
abbrev HLK_CNT_polls : Fld := ⟨15, 0⟩
abbrev HLK_CNT_replies : Fld := ⟨31, 16⟩
abbrev HLK_ERR_CNT_frame : Fld := ⟨7, 0⟩
abbrev HLK_ERR_CNT_miss : Fld := ⟨15, 8⟩
abbrev HLK_ERR_CNT_stray : Fld := ⟨23, 16⟩
abbrev HLK_ERR_CNT_dup : Fld := ⟨31, 24⟩
abbrev HLK_RX_HEAD_cell : Fld := ⟨5, 0⟩
abbrev HLK_RX_TAIL_cell : Fld := ⟨5, 0⟩
abbrev HLK_ETYPE_etype : Fld := ⟨15, 0⟩
abbrev HLK_NODE_state : Fld := ⟨1, 0⟩
abbrev HLK_NODE_version : Fld := ⟨3, 2⟩
abbrev HLK_NODE_credit : Fld := ⟨11, 4⟩
abbrev HLK_NODE_misses : Fld := ⟨15, 12⟩
abbrev HLK_NODE_ep_m1 : Fld := ⟨19, 16⟩
abbrev HLK_TX0_node : Fld := ⟨5, 0⟩
abbrev HLK_TX0_bcast : Fld := ⟨6, 6⟩
abbrev HLK_TX0_endpoint : Fld := ⟨11, 8⟩
abbrev HLK_TX0_len : Fld := ⟨25, 16⟩
abbrev HLK_TX0_state : Fld := ⟨31, 30⟩
abbrev HLK_TX1_cell : Fld := ⟨4, 0⟩
abbrev HLK_SLOT_node : Fld := ⟨5, 0⟩
abbrev HLK_SLOT_endpoint : Fld := ⟨11, 8⟩
abbrev HLK_SLOT_kind : Fld := ⟨17, 16⟩
abbrev FLR_CTRL_run : Fld := ⟨0, 0⟩
abbrev FLR_CTRL_ipv6 : Fld := ⟨1, 1⟩
abbrev FLR_CTRL_mode0 : Fld := ⟨2, 2⟩
abbrev FLR_CTRL_mode1 : Fld := ⟨3, 3⟩
abbrev FLR_CTRL_active : Fld := ⟨4, 4⟩
abbrev FLR_CTRL_ver_allow : Fld := ⟨10, 8⟩
abbrev FLR_STAT_running : Fld := ⟨0, 0⟩
abbrev FLR_STAT_link0 : Fld := ⟨1, 1⟩
abbrev FLR_STAT_link1 : Fld := ⟨2, 2⟩
abbrev FLR_STAT_port : Fld := ⟨3, 3⟩
abbrev FLR_STAT_session : Fld := ⟨5, 4⟩
abbrev FLR_STAT_version : Fld := ⟨7, 6⟩
abbrev FLR_STAT_failover : Fld := ⟨8, 8⟩
abbrev FLR_STAT_refused : Fld := ⟨9, 9⟩
abbrev FLR_STAT_lost : Fld := ⟨10, 10⟩
abbrev FLR_STAT_host_key : Fld := ⟨11, 11⟩
abbrev FLR_STAT_tilt_cause : Fld := ⟨13, 12⟩
abbrev FLR_INT_EN_enable : Fld := ⟨10, 8⟩
abbrev FLR_DOMAIN_index : Fld := ⟨17, 0⟩
abbrev FLR_DOMAIN_valid : Fld := ⟨31, 31⟩
abbrev FLR_ADDR_word : Fld := ⟨31, 0⟩
abbrev FLR_HOST_word : Fld := ⟨31, 0⟩
abbrev FLR_GW_word : Fld := ⟨31, 0⟩
abbrev FLR_PORTS_dev : Fld := ⟨15, 0⟩
abbrev FLR_PORTS_host : Fld := ⟨31, 16⟩
abbrev FLR_TIMING_rto : Fld := ⟨11, 0⟩
abbrev FLR_TIMING_ckpt : Fld := ⟨27, 16⟩
abbrev FLR_PREFIX_prefix : Fld := ⟨7, 0⟩
abbrev FLR_BUF_base : Fld := ⟨23, 0⟩
abbrev FLR_BUF_size : Fld := ⟨31, 24⟩
abbrev FLR_CNT_sent : Fld := ⟨15, 0⟩
abbrev FLR_CNT_resent : Fld := ⟨31, 16⟩
abbrev FLR_ERR_CNT_auth : Fld := ⟨15, 0⟩
abbrev FLR_ERR_CNT_stale : Fld := ⟨31, 16⟩
abbrev SEC_STAT_es_ok : Fld := ⟨0, 0⟩
abbrev SEC_STAT_drbg_inst : Fld := ⟨1, 1⟩
abbrev SEC_STAT_es_intermittent : Fld := ⟨2, 2⟩
abbrev SEC_STAT_pool_low : Fld := ⟨3, 3⟩
abbrev SEC_STAT_fuse_done : Fld := ⟨4, 4⟩
abbrev SEC_STAT_fuse_err : Fld := ⟨5, 5⟩
abbrev SEC_STAT_tilt_cause : Fld := ⟨10, 8⟩
abbrev SEC_INT_EN_enable : Fld := ⟨4, 2⟩
abbrev SEC_ES_CNT_rct_fail : Fld := ⟨7, 0⟩
abbrev SEC_ES_CNT_apt_fail : Fld := ⟨15, 8⟩
abbrev SEC_ES_CNT_pool : Fld := ⟨19, 16⟩
abbrev SEC_DRBG_CFG_pr : Fld := ⟨0, 0⟩
abbrev SEC_DRBG_CFG_reseed : Fld := ⟨1, 1⟩
abbrev SEC_DRBG_CFG_reseed_log2 : Fld := ⟨13, 8⟩
abbrev SEC_DRBG_GEN_count : Fld := ⟨31, 0⟩
abbrev SEC_DRBG_RESEEDS_count : Fld := ⟨31, 0⟩
abbrev SEC_IDPUB_word : Fld := ⟨31, 0⟩
abbrev SEC_CKPUB_word : Fld := ⟨31, 0⟩
abbrev SEC_UID_word : Fld := ⟨31, 0⟩
abbrev SEC_ROOT_word : Fld := ⟨31, 0⟩
abbrev SEC_FUSE_v1_withdrawn : Fld := ⟨0, 0⟩
abbrev SEC_FUSE_svn_rows : Fld := ⟨4, 1⟩
abbrev SEC_FUSE_root_blank : Fld := ⟨5, 5⟩
abbrev SEC_FUSE_ident : Fld := ⟨6, 6⟩
abbrev SEC_FUSE_svn_min : Fld := ⟨31, 16⟩
abbrev SEC_KEYS_ckpt : Fld := ⟨0, 0⟩
abbrev SEC_KEYS_floor : Fld := ⟨1, 1⟩
abbrev SEC_KEYS_ckpt_gen : Fld := ⟨15, 8⟩
abbrev SEC_KEYS_floor_gen : Fld := ⟨23, 16⟩
abbrev SEC_FUSE_DATA_word : Fld := ⟨31, 0⟩
abbrev SEC_FUSE_CMD_op : Fld := ⟨2, 0⟩
abbrev SEC_FUSE_CMD_busy : Fld := ⟨8, 8⟩
abbrev SEC_FUSE_CMD_result : Fld := ⟨11, 9⟩
abbrev SEC_RAW_CTRL_enable : Fld := ⟨0, 0⟩
abbrev SEC_RAW_CTRL_overflow : Fld := ⟨1, 1⟩
abbrev SEC_RAW_CTRL_avail : Fld := ⟨2, 2⟩
abbrev SEC_RAW_DATA_samples : Fld := ⟨31, 0⟩
abbrev SEC_DRBG_REQ_words : Fld := ⟨4, 0⟩
abbrev SEC_DRBG_PSTAT_busy : Fld := ⟨0, 0⟩
abbrev SEC_DRBG_PSTAT_ready : Fld := ⟨1, 1⟩
abbrev SEC_DRBG_PSTAT_words : Fld := ⟨6, 2⟩
abbrev SEC_DRBG_PSTAT_err : Fld := ⟨7, 7⟩
abbrev SEC_DRBG_PSTAT_discarded : Fld := ⟨23, 16⟩
abbrev SEC_DRBG_OUT_word : Fld := ⟨31, 0⟩
abbrev LDG_STAT_ready : Fld := ⟨0, 0⟩
abbrev LDG_STAT_ledger_full : Fld := ⟨1, 1⟩
abbrev LDG_STAT_pending : Fld := ⟨2, 2⟩
abbrev LDG_STAT_sealed : Fld := ⟨3, 3⟩
abbrev LDG_STAT_remap : Fld := ⟨4, 4⟩
abbrev LDG_STAT_event : Fld := ⟨5, 5⟩
abbrev LDG_STAT_dip : Fld := ⟨6, 6⟩
abbrev LDG_STAT_frozen : Fld := ⟨7, 7⟩
abbrev LDG_STAT_tilt_cause : Fld := ⟨10, 8⟩
abbrev LDG_INT_EN_enable : Fld := ⟨6, 4⟩
abbrev LDG_LEDGER_free : Fld := ⟨9, 0⟩
abbrev LDG_LEDGER_next : Fld := ⟨25, 16⟩
abbrev LDG_BOOTCNT_value : Fld := ⟨31, 0⟩
abbrev LDG_ACKED_value : Fld := ⟨31, 0⟩
abbrev LDG_EVT_SEQ_value : Fld := ⟨31, 0⟩
abbrev LDG_SPARES_free : Fld := ⟨6, 0⟩
abbrev LDG_MEV_GAME_LO_game : Fld := ⟨31, 0⟩
abbrev LDG_MEV_GAME_HI_game : Fld := ⟨31, 0⟩
abbrev LDG_MEV_M_meter : Fld := ⟨9, 0⟩
abbrev LDG_MEV_M_en : Fld := ⟨15, 15⟩
abbrev LDG_MEV_D_delta : Fld := ⟨31, 0⟩
abbrev LDG_MEV_HASH_word : Fld := ⟨31, 0⟩
abbrev LDG_MEV_CMD_kind : Fld := ⟨1, 0⟩
abbrev LDG_MEV_STAT_busy : Fld := ⟨0, 0⟩
abbrev LDG_MEV_STAT_done : Fld := ⟨1, 1⟩
abbrev LDG_MEV_STAT_err : Fld := ⟨2, 2⟩
abbrev LDG_MEV_STAT_result : Fld := ⟨7, 4⟩
abbrev LDG_MEV_SEQ_LO_seq : Fld := ⟨31, 0⟩
abbrev LDG_MEV_SEQ_HI_seq : Fld := ⟨31, 0⟩
abbrev LDG_METER_SEL_meter : Fld := ⟨9, 0⟩
abbrev LDG_METER_LO_value : Fld := ⟨31, 0⟩
abbrev LDG_METER_HI_value : Fld := ⟨31, 0⟩
abbrev LDG_DOOR_CFG_en : Fld := ⟨9, 0⟩
abbrev LDG_DOOR_CFG_tilt : Fld := ⟨25, 16⟩
abbrev LDG_DOOR_LVL_level : Fld := ⟨9, 0⟩
abbrev LDG_PD0_CNT_held : Fld := ⟨5, 0⟩
abbrev LDG_PD0_CNT_lost : Fld := ⟨31, 16⟩
abbrev PLN_CTRL_enable : Fld := ⟨0, 0⟩
abbrev PLN_CTRL_tile16 : Fld := ⟨1, 1⟩
abbrev PLN_CTRL_format : Fld := ⟨4, 2⟩
abbrev PLN_CTRL_map_w_log2 : Fld := ⟨8, 5⟩
abbrev PLN_CTRL_map_h_log2 : Fld := ⟨12, 9⟩
abbrev PLN_CTRL_wrap_x : Fld := ⟨13, 13⟩
abbrev PLN_CTRL_wrap_y : Fld := ⟨14, 14⟩
abbrev PLN_CTRL_zero_transparent : Fld := ⟨15, 15⟩
abbrev PLN_CTRL_premul : Fld := ⟨16, 16⟩
abbrev PLN_CTRL_hscale : Fld := ⟨17, 17⟩
abbrev PLN_CTRL_vscale : Fld := ⟨18, 18⟩
abbrev PLN_CTRL_coef_set : Fld := ⟨20, 19⟩
abbrev PLN_CTRL_idx_base : Fld := ⟨28, 21⟩
abbrev PLN_CTRL_win_invert : Fld := ⟨29, 29⟩
abbrev PLN_MAP_BASE_base : Fld := ⟨27, 0⟩
abbrev PLN_PAT_BASE_base : Fld := ⟨27, 0⟩
abbrev PLN_ORG_X_org : Fld := ⟨31, 0⟩
abbrev PLN_ORG_Y_org : Fld := ⟨31, 0⟩
abbrev PLN_STEP_X_step : Fld := ⟨18, 0⟩
abbrev PLN_STEP_Y_step : Fld := ⟨18, 0⟩
abbrev PLN_WIN_X_lo : Fld := ⟨15, 0⟩
abbrev PLN_WIN_X_hi : Fld := ⟨31, 16⟩
abbrev PLN_WIN_Y_lo : Fld := ⟨15, 0⟩
abbrev PLN_WIN_Y_hi : Fld := ⟨31, 16⟩
abbrev PLN_TALPHA_talpha : Fld := ⟨7, 0⟩
abbrev PLN_PAL_ADDR_entry : Fld := ⟨13, 0⟩
abbrev PLN_PAL_LO_low : Fld := ⟨31, 0⟩
abbrev PLN_PAL_HI_high : Fld := ⟨7, 0⟩
abbrev PLN_COEF_ADDR_tap : Fld := ⟨2, 0⟩
abbrev PLN_COEF_ADDR_phase : Fld := ⟨8, 3⟩
abbrev PLN_COEF_ADDR_vertical : Fld := ⟨9, 9⟩
abbrev PLN_COEF_ADDR_set : Fld := ⟨11, 10⟩
abbrev PLN_COEF_DATA_coef : Fld := ⟨9, 0⟩
abbrev PLN_COEF_CTRL_swap : Fld := ⟨3, 0⟩
abbrev PLN_STAT_fill : Fld := ⟨15, 0⟩
abbrev PLN_STAT_compose_miss : Fld := ⟨31, 16⟩
abbrev PLN_PROBE_POS_x : Fld := ⟨12, 0⟩
abbrev PLN_PROBE_POS_plane : Fld := ⟨15, 13⟩
abbrev PLN_PROBE_POS_y : Fld := ⟨28, 16⟩
abbrev PLN_PROBE_POS_arm : Fld := ⟨31, 31⟩
abbrev PLN_PROBE_LO_low : Fld := ⟨31, 0⟩
abbrev PLN_PROBE_HI_high : Fld := ⟨7, 0⟩
abbrev PLN_PROBE_HI_prio : Fld := ⟨9, 8⟩
abbrev PLN_PROBE_HI_premul : Fld := ⟨10, 10⟩
abbrev PLN_PROBE_HI_valid : Fld := ⟨31, 31⟩
abbrev PLN_PCI_BASE_base : Fld := ⟨27, 0⟩
abbrev PLN_PCI_SIZE_lines : Fld := ⟨28, 0⟩
abbrev PLN_PCI_CTRL_start : Fld := ⟨0, 0⟩
abbrev PLN_PCI_CTRL_all : Fld := ⟨1, 1⟩
abbrev PLN_PCI_CTRL_busy : Fld := ⟨8, 8⟩
abbrev CMT_CTRL_enable : Fld := ⟨0, 0⟩
abbrev CMT_CTRL_bufs : Fld := ⟨2, 1⟩
abbrev CMT_CTX_BASE_base : Fld := ⟨17, 0⟩
abbrev CMT_VIEW_view_x : Fld := ⟨15, 0⟩
abbrev CMT_VIEW_view_y : Fld := ⟨31, 16⟩
abbrev CMT_FETCHED_band : Fld := ⟨8, 0⟩
abbrev CMT_FETCHED_frame : Fld := ⟨31, 9⟩
abbrev CMT_CLOCKS_clocks : Fld := ⟨23, 0⟩
abbrev CMT_STAT_fill : Fld := ⟨15, 0⟩
abbrev CMT_STAT_buf_wait : Fld := ⟨31, 16⟩
abbrev CMT_PROBE_POS_x : Fld := ⟨12, 0⟩
abbrev CMT_PROBE_POS_y : Fld := ⟨28, 16⟩
abbrev CMT_PROBE_POS_arm : Fld := ⟨31, 31⟩
abbrev CMT_PROBE_LO_low : Fld := ⟨31, 0⟩
abbrev CMT_PROBE_HI_high : Fld := ⟨7, 0⟩
abbrev CMT_PROBE_HI_group : Fld := ⟨10, 8⟩
abbrev CMT_PROBE_HI_valid : Fld := ⟨31, 31⟩
abbrev EPH_CAPS_formats : Fld := ⟨7, 0⟩
abbrev EPH_CAPS_max_bands : Fld := ⟨16, 8⟩
abbrev EPH_CTRL_run : Fld := ⟨0, 0⟩
abbrev EPH_CTRL_format : Fld := ⟨7, 4⟩
abbrev EPH_CTRL_lookahead : Fld := ⟨11, 8⟩
abbrev EPH_CTRL_window : Fld := ⟨17, 12⟩
abbrev EPH_CTRL_slots_log2 : Fld := ⟨19, 18⟩
abbrev EPH_RING_BASE_base : Fld := ⟨21, 0⟩
abbrev EPH_FRAME0_frame : Fld := ⟨31, 0⟩
abbrev EPH_COMMIT_frame : Fld := ⟨31, 0⟩
abbrev EPH_RETIRED_frame : Fld := ⟨31, 0⟩
abbrev EPH_POS_band : Fld := ⟨8, 0⟩
abbrev EPH_POS_frame : Fld := ⟨31, 9⟩
abbrev EPH_DONE_band : Fld := ⟨8, 0⟩
abbrev EPH_DONE_frame : Fld := ⟨31, 9⟩
abbrev EPH_RW_E0_word : Fld := ⟨31, 0⟩
abbrev EPH_RW_E1_word : Fld := ⟨31, 0⟩
abbrev EPH_RW_E2_word : Fld := ⟨31, 0⟩
abbrev EPH_RW_E3_word : Fld := ⟨31, 0⟩
abbrev EPH_REWRITE_band : Fld := ⟨8, 0⟩
abbrev EPH_REWRITE_frame : Fld := ⟨31, 9⟩
abbrev EPH_REWRITE_STAT_outcome : Fld := ⟨2, 0⟩
abbrev EPH_REWRITE_STAT_seq : Fld := ⟨7, 4⟩
abbrev EPH_STAT_running : Fld := ⟨0, 0⟩
abbrev EPH_STAT_commit_err : Fld := ⟨1, 1⟩
abbrev EPH_STAT_starve : Fld := ⟨2, 2⟩
abbrev EPH_STAT_lookahead_miss : Fld := ⟨3, 3⟩
abbrev EPH_STAT_fmt_refused : Fld := ⟨4, 4⟩
abbrev EPH_STAT_pending : Fld := ⟨11, 8⟩
abbrev EPH_STAT_tilt_cause : Fld := ⟨18, 16⟩
abbrev EPH_INT_EN_enable : Fld := ⟨4, 1⟩
abbrev CMP_CTRL_out8 : Fld := ⟨0, 0⟩
abbrev CMP_BG_bg_r : Fld := ⟨9, 0⟩
abbrev CMP_BG_bg_g : Fld := ⟨19, 10⟩
abbrev CMP_BG_bg_b : Fld := ⟨29, 20⟩
abbrev CMP_LALPHA0_lalpha_a : Fld := ⟨7, 0⟩
abbrev CMP_LALPHA0_lalpha_b : Fld := ⟨15, 8⟩
abbrev CMP_LALPHA0_lalpha_c : Fld := ⟨23, 16⟩
abbrev CMP_LALPHA0_lalpha_d : Fld := ⟨31, 24⟩
abbrev CMP_LALPHA1_lalpha_a : Fld := ⟨7, 0⟩
abbrev CMP_LALPHA1_lalpha_b : Fld := ⟨15, 8⟩
abbrev CMP_LALPHA1_lalpha_c : Fld := ⟨23, 16⟩
abbrev CMP_LALPHA1_lalpha_d : Fld := ⟨31, 24⟩
abbrev CMP_MODE_add : Fld := ⟨7, 0⟩
abbrev CMP_MODE_calpha : Fld := ⟨15, 8⟩
abbrev CMP_GKEY0_gkey_a : Fld := ⟨5, 0⟩
abbrev CMP_GKEY0_gkey_b : Fld := ⟨13, 8⟩
abbrev CMP_GKEY0_gkey_c : Fld := ⟨21, 16⟩
abbrev CMP_GKEY0_gkey_d : Fld := ⟨29, 24⟩
abbrev CMP_GKEY1_gkey_a : Fld := ⟨5, 0⟩
abbrev CMP_GKEY1_gkey_b : Fld := ⟨13, 8⟩
abbrev CMP_GKEY1_gkey_c : Fld := ⟨21, 16⟩
abbrev CMP_GKEY1_gkey_d : Fld := ⟨29, 24⟩
abbrev CMP_OSCALE_enable : Fld := ⟨0, 0⟩
abbrev CMP_OSCALE_hscale : Fld := ⟨1, 1⟩
abbrev CMP_OSCALE_vscale : Fld := ⟨2, 2⟩
abbrev CMP_OSCALE_coef_set : Fld := ⟨4, 3⟩
abbrev CMP_CANVAS_width : Fld := ⟨12, 0⟩
abbrev CMP_CANVAS_height : Fld := ⟨28, 16⟩
abbrev CMP_OSIZE_width : Fld := ⟨12, 0⟩
abbrev CMP_OSIZE_height : Fld := ⟨28, 16⟩
abbrev CMP_OSTEP_X_step : Fld := ⟨16, 0⟩
abbrev CMP_OSTEP_Y_step : Fld := ⟨16, 0⟩
abbrev CMP_OORG_X_org : Fld := ⟨31, 0⟩
abbrev CMP_OORG_Y_org : Fld := ⟨31, 0⟩
abbrev CMP_WB_CTRL_enable : Fld := ⟨0, 0⟩
abbrev CMP_WB_CTRL_frames_m1 : Fld := ⟨7, 4⟩
abbrev CMP_WB_BASE_base : Fld := ⟨28, 0⟩
abbrev CMP_WB_PITCH_pitch : Fld := ⟨11, 0⟩
abbrev CMP_WB_STRIDE_stride : Fld := ⟨15, 0⟩
abbrev CMP_WB_DONE_frame : Fld := ⟨31, 0⟩
abbrev CMP_STAT_slot_wait : Fld := ⟨15, 0⟩
abbrev CMP_STAT_wb_wait : Fld := ⟨31, 16⟩
abbrev CMP_CLOCKS_clocks : Fld := ⟨23, 0⟩
abbrev CMP_PROBE_POS_x : Fld := ⟨12, 0⟩
abbrev CMP_PROBE_POS_y : Fld := ⟨28, 16⟩
abbrev CMP_PROBE_POS_arm : Fld := ⟨31, 31⟩
abbrev CMP_PROBE_VAL_word : Fld := ⟨31, 0⟩
abbrev CMP_PROBE_BLEND_rgb : Fld := ⟨29, 0⟩
abbrev CMP_PROBE_BLEND_valid : Fld := ⟨31, 31⟩
abbrev CMP_PART_base : Fld := ⟨6, 0⟩
abbrev CMP_PART_size : Fld := ⟨15, 8⟩
abbrev CMP_PART_cluster : Fld := ⟨17, 16⟩
abbrev CMP_PART_valid : Fld := ⟨31, 31⟩
abbrev DSP_CTRL_mode : Fld := ⟨1, 0⟩
abbrev DSP_CTRL_iface : Fld := ⟨2, 2⟩
abbrev DSP_CTRL_gang : Fld := ⟨3, 3⟩
abbrev DSP_LINK_rate : Fld := ⟨3, 0⟩
abbrev DSP_LINK_ssc : Fld := ⟨4, 4⟩
abbrev DSP_LINK_lanes : Fld := ⟨10, 8⟩
abbrev DSP_TRAIN_start : Fld := ⟨0, 0⟩
abbrev DSP_TRAIN_busy : Fld := ⟨1, 1⟩
abbrev DSP_TRAIN_result : Fld := ⟨4, 2⟩
abbrev DSP_TRAIN_su_ok : Fld := ⟨5, 5⟩
abbrev DSP_TRAIN_ygran : Fld := ⟨13, 8⟩
abbrev DSP_H0_active : Fld := ⟨12, 0⟩
abbrev DSP_H0_pol : Fld := ⟨31, 31⟩
abbrev DSP_H1_fp : Fld := ⟨9, 0⟩
abbrev DSP_H1_sync : Fld := ⟨19, 10⟩
abbrev DSP_H1_bp : Fld := ⟨29, 20⟩
abbrev DSP_V0_active : Fld := ⟨12, 0⟩
abbrev DSP_V0_pol : Fld := ⟨31, 31⟩
abbrev DSP_V1_fp : Fld := ⟨9, 0⟩
abbrev DSP_V1_sync : Fld := ⟨19, 10⟩
abbrev DSP_V1_bp : Fld := ⟨29, 20⟩
abbrev DSP_PCLK_khz : Fld := ⟨20, 0⟩
abbrev DSP_PACE_lc : Fld := ⟨15, 0⟩
abbrev DSP_PACE_floor_pct : Fld := ⟨22, 16⟩
abbrev DSP_PACE_guard : Fld := ⟨27, 24⟩
abbrev DSP_WMARK_lines : Fld := ⟨7, 0⟩
abbrev DSP_APPLY_line : Fld := ⟨12, 0⟩
abbrev DSP_APPLY_arm : Fld := ⟨31, 31⟩
abbrev DSP_BEAM_line : Fld := ⟨12, 0⟩
abbrev DSP_BEAM_refresh : Fld := ⟨31, 16⟩
abbrev DSP_LAG_clocks : Fld := ⟨23, 0⟩
abbrev DSP_LAG_MAX_clocks : Fld := ⟨23, 0⟩
abbrev DSP_CNT_late : Fld := ⟨15, 0⟩
abbrev DSP_CNT_held : Fld := ⟨31, 16⟩
abbrev DSP_ERR_CNT_bursts : Fld := ⟨7, 0⟩
abbrev DSP_ERR_CNT_resent : Fld := ⟨23, 8⟩
abbrev DSP_ERR_CNT_underrun : Fld := ⟨31, 24⟩
abbrev DSP_STAT_running : Fld := ⟨0, 0⟩
abbrev DSP_STAT_link_up : Fld := ⟨1, 1⟩
abbrev DSP_STAT_late : Fld := ⟨2, 2⟩
abbrev DSP_STAT_held : Fld := ⟨3, 3⟩
abbrev DSP_STAT_burst : Fld := ⟨4, 4⟩
abbrev DSP_STAT_underrun : Fld := ⟨5, 5⟩
abbrev DSP_STAT_su_refused : Fld := ⟨6, 6⟩
abbrev DSP_STAT_tilt_cause : Fld := ⟨10, 8⟩
abbrev DSP_INT_EN_enable : Fld := ⟨6, 2⟩
abbrev DIG_CTRL_recall : Fld := ⟨0, 0⟩
abbrev DIG_CTRL_dump : Fld := ⟨1, 1⟩
abbrev DIG_STAT_depth : Fld := ⟨4, 0⟩
abbrev DIG_STAT_mismatch : Fld := ⟨8, 8⟩
abbrev DIG_STAT_recall_done : Fld := ⟨9, 9⟩
abbrev DIG_STAT_tilt_cause : Fld := ⟨13, 12⟩
abbrev DIG_LAST_frame : Fld := ⟨31, 0⟩
abbrev DIG_EXP_BASE_base : Fld := ⟨28, 0⟩
abbrev DIG_EXP_FIRST_frame : Fld := ⟨31, 0⟩
abbrev DIG_EXP_COUNT_count : Fld := ⟨23, 0⟩
abbrev DIG_DUMP_BASE_base : Fld := ⟨28, 0⟩
abbrev DIG_RESULT_compared : Fld := ⟨15, 0⟩
abbrev DIG_RESULT_mismatches : Fld := ⟨31, 16⟩
abbrev DIG_MISS_FRAME_frame : Fld := ⟨31, 0⟩
abbrev DIG_INT_EN_enable : Fld := ⟨9, 8⟩
abbrev KTL_CTRL_run : Fld := ⟨0, 0⟩
abbrev KTL_CTRL_timebase : Fld := ⟨2, 1⟩
abbrev KTL_CTRL_slots_log2 : Fld := ⟨4, 3⟩
abbrev KTL_CUE_BASE_base : Fld := ⟨22, 0⟩
abbrev KTL_SND_offset : Fld := ⟨15, 0⟩
abbrev KTL_SND_count : Fld := ⟨31, 16⟩
abbrev KTL_SAMPLE_period : Fld := ⟨31, 0⟩
abbrev KTL_CUE_POS_frame : Fld := ⟨31, 0⟩
abbrev KTL_PROBE_AT_period : Fld := ⟨31, 0⟩
abbrev KTL_ACTIVE_voices : Fld := ⟨9, 0⟩
abbrev KTL_ACTIVE_streams : Fld := ⟨16, 10⟩
abbrev KTL_ACTIVE_clocks : Fld := ⟨31, 20⟩
abbrev KTL_STAT_running : Fld := ⟨0, 0⟩
abbrev KTL_STAT_cue_late : Fld := ⟨1, 1⟩
abbrev KTL_STAT_cue_err : Fld := ⟨2, 2⟩
abbrev KTL_STAT_stream_full : Fld := ⟨3, 3⟩
abbrev KTL_STAT_underrun : Fld := ⟨4, 4⟩
abbrev KTL_STAT_overrun : Fld := ⟨5, 5⟩
abbrev KTL_STAT_fx_late : Fld := ⟨6, 6⟩
abbrev KTL_CNT_underrun : Fld := ⟨15, 0⟩
abbrev KTL_CNT_overrun : Fld := ⟨23, 16⟩
abbrev KTL_CNT_fx_late : Fld := ⟨31, 24⟩
abbrev KTL_INT_EN_enable : Fld := ⟨6, 1⟩
abbrev KTL_TDM_out_en : Fld := ⟨0, 0⟩
abbrev KTL_TDM_out96 : Fld := ⟨1, 1⟩
abbrev KTL_TDM_in_en : Fld := ⟨2, 2⟩
abbrev KTL_PROBE_CTRL_bus : Fld := ⟨4, 0⟩
abbrev KTL_PROBE_CTRL_arm : Fld := ⟨31, 31⟩
abbrev KTL_PROBE_VAL_value : Fld := ⟨23, 0⟩
abbrev KTL_PROBE_VAL_valid : Fld := ⟨31, 31⟩
abbrev KTL_FX_CFG_in_first : Fld := ⟨4, 0⟩
abbrev KTL_FX_CFG_in_count : Fld := ⟨8, 5⟩
abbrev KTL_FX_CFG_ret_first : Fld := ⟨13, 9⟩
abbrev KTL_FX_CFG_ret_count : Fld := ⟨17, 14⟩
abbrev KTL_FX_CFG_block : Fld := ⟨19, 18⟩
abbrev KTL_FX_DONE_block : Fld := ⟨7, 0⟩
abbrev KTL_BUS_domain : Fld := ⟨1, 0⟩
abbrev KTL_BUS_bridged : Fld := ⟨2, 2⟩
abbrev KTL_BUS_src : Fld := ⟨7, 3⟩
abbrev KTL_BUS_gain : Fld := ⟨31, 16⟩
abbrev KTL_OUT_bus : Fld := ⟨4, 0⟩
abbrev KTL_OUT_enable : Fld := ⟨5, 5⟩
abbrev KTL_IN_bus : Fld := ⟨4, 0⟩
abbrev KTL_IN_enable : Fld := ⟨5, 5⟩
abbrev KTL_IN_gain : Fld := ⟨31, 16⟩
abbrev AAS_CD_enable : Fld := ⟨0, 0⟩
abbrev AAS_CD_mute : Fld := ⟨1, 1⟩
abbrev AAS_MIC_enable : Fld := ⟨0, 0⟩
abbrev AAS_MIC_bias : Fld := ⟨1, 1⟩
abbrev AAS_MIC_fan : Fld := ⟨3, 2⟩
abbrev AAS_MIC_pga : Fld := ⟨7, 4⟩
abbrev AAS_CAL_REQ_cd : Fld := ⟨7, 0⟩
abbrev AAS_CAL_REQ_mic : Fld := ⟨11, 8⟩
abbrev AAS_CAL_DONE_cd : Fld := ⟨7, 0⟩
abbrev AAS_CAL_DONE_mic : Fld := ⟨11, 8⟩
abbrev AAS_CD_RPT_offset : Fld := ⟨15, 0⟩
abbrev AAS_CD_RPT_gain_err : Fld := ⟨27, 16⟩
abbrev AAS_MIC_RPT_offset : Fld := ⟨15, 0⟩
abbrev AAS_MIC_RPT_gain_err : Fld := ⟨27, 16⟩
abbrev AAS_STAT_cd_fault : Fld := ⟨7, 0⟩
abbrev AAS_STAT_tilt_cause : Fld := ⟨9, 8⟩
abbrev AAS_STAT_abandoned : Fld := ⟨31, 16⟩
abbrev AAS_INT_EN_cal : Fld := ⟨0, 0⟩
abbrev CFG_CAPS_manifest : Fld := ⟨1, 0⟩
abbrev CFG_STAT_stage : Fld := ⟨2, 0⟩
abbrev CFG_STAT_manifest_ver : Fld := ⟨5, 4⟩
abbrev CFG_STAT_ledger_full : Fld := ⟨6, 6⟩
abbrev CFG_STAT_d0_trained : Fld := ⟨7, 7⟩
abbrev CFG_STAT_sparge_pass : Fld := ⟨8, 8⟩
abbrev CFG_STAT_sparge_slow : Fld := ⟨9, 9⟩
abbrev CFG_STAT_tilt_cause : Fld := ⟨13, 12⟩
abbrev CFG_STOP_code : Fld := ⟨7, 0⟩
abbrev CFG_STOP_section : Fld := ⟨15, 8⟩
abbrev CFG_BOOTSET_ports : Fld := ⟨1, 0⟩
abbrev CFG_BOOTSET_devs : Fld := ⟨3, 2⟩
abbrev CFG_BOOTSET_density : Fld := ⟨6, 4⟩
abbrev CFG_T_RELEASE_us : Fld := ⟨31, 0⟩
abbrev CFG_SVN_svn : Fld := ⟨15, 0⟩
abbrev CFG_SVN_fused_min : Fld := ⟨31, 16⟩
abbrev CFG_MDIGEST_word : Fld := ⟨31, 0⟩
abbrev CFG_SPARGE_CFG_period : Fld := ⟨11, 0⟩
abbrev CFG_SPARGE_CFG_rate : Fld := ⟨19, 16⟩
abbrev CFG_SPARGE_POS_section : Fld := ⟨7, 0⟩
abbrev CFG_SPARGE_POS_pass : Fld := ⟨31, 8⟩
abbrev CFG_SPARGE_MISS_section : Fld := ⟨7, 0⟩
abbrev CFG_SPARGE_MISS_valid : Fld := ⟨31, 31⟩
abbrev CFG_INT_EN_enable : Fld := ⟨9, 8⟩

end Sys2Proof.Machine.F
end

