-- ==== Sys2Proof/Machine/Ports.lean ====
section
/-! DEFINITION. The I/O port addresses of the named registers, one definition per register,
with its instance indices as arguments (R496; each register heading gives its address). -/
namespace Sys2Proof.Machine.P

/-- SYS_ID (R14, 00_scope). -/
def SYS_ID : Nat := 0x0
/-- SYS_TILT_REQ (R478, 23_faults_and_self_test). -/
def SYS_TILT_REQ : Nat := 0x100
/-- SYS_TILT (R478, 23_faults_and_self_test). -/
def SYS_TILT : Nat := 0x104
/-- SYS_LST_REQ (R478, 23_faults_and_self_test). -/
def SYS_LST_REQ : Nat := 0x200
/-- SYS_LST_DONE (R478, 23_faults_and_self_test). -/
def SYS_LST_DONE : Nat := 0x204
/-- SYS_LST_STAT (R478, 23_faults_and_self_test). -/
def SYS_LST_STAT : Nat := 0x208
/-- SYS_MBIST_CTRL (R478, 23_faults_and_self_test). -/
def SYS_MBIST_CTRL : Nat := 0x210
/-- SYS_MBIST_BASE (R478, 23_faults_and_self_test). -/
def SYS_MBIST_BASE : Nat := 0x214
/-- SYS_MBIST_SIZE (R478, 23_faults_and_self_test). -/
def SYS_MBIST_SIZE : Nat := 0x218
/-- SYS_MBIST_STAT (R478, 23_faults_and_self_test). -/
def SYS_MBIST_STAT : Nat := 0x21C
/-- SYS_CORE_CTRL (R240, 11_control_cores). -/
def SYS_CORE_CTRL (i : Nat) : Nat := 0x1000 + 0x100 * i
/-- SYS_CORE_ENTRY (R240, 11_control_cores). -/
def SYS_CORE_ENTRY (i : Nat) : Nat := 0x1004 + 0x100 * i
/-- SYS_VBASE (R240, 11_control_cores). -/
def SYS_VBASE (i : Nat) : Nat := 0x1008 + 0x100 * i
/-- SYS_XPC (R240, 11_control_cores). -/
def SYS_XPC (i : Nat) : Nat := 0x100C + 0x100 * i
/-- SYS_XSR (R240, 11_control_cores). -/
def SYS_XSR (i : Nat) : Nat := 0x1010 + 0x100 * i
/-- SYS_XCAUSE (R240, 11_control_cores). -/
def SYS_XCAUSE (i : Nat) : Nat := 0x1014 + 0x100 * i
/-- SYS_XADDR_LO (R240, 11_control_cores). -/
def SYS_XADDR_LO (i : Nat) : Nat := 0x1018 + 0x100 * i
/-- SYS_XADDR_HI (R240, 11_control_cores). -/
def SYS_XADDR_HI (i : Nat) : Nat := 0x101C + 0x100 * i
/-- SYS_CMO_LO (R240, 11_control_cores). -/
def SYS_CMO_LO (i : Nat) : Nat := 0x1020 + 0x100 * i
/-- SYS_CMO_HI (R240, 11_control_cores). -/
def SYS_CMO_HI (i : Nat) : Nat := 0x1024 + 0x100 * i
/-- SYS_CMO_SIZE (R240, 11_control_cores). -/
def SYS_CMO_SIZE (i : Nat) : Nat := 0x1028 + 0x100 * i
/-- SYS_CMO_CTRL (R240, 11_control_cores). -/
def SYS_CMO_CTRL (i : Nat) : Nat := 0x102C + 0x100 * i
/-- SYS_TILT_LAST (R478, 23_faults_and_self_test). -/
def SYS_TILT_LAST : Nat := 0x8000
/-- SYS_TILT_TIME_LO (R478, 23_faults_and_self_test). -/
def SYS_TILT_TIME_LO : Nat := 0x8004
/-- SYS_TILT_TIME_HI (R478, 23_faults_and_self_test). -/
def SYS_TILT_TIME_HI : Nat := 0x8008
/-- SYS_TILT_CNT (R478, 23_faults_and_self_test). -/
def SYS_TILT_CNT : Nat := 0x800C
/-- PWR_STAT (R462, 22_power_clocks_and_supply). -/
def PWR_STAT : Nat := 0x10000
/-- PWR_INT_EN (R462, 22_power_clocks_and_supply). -/
def PWR_INT_EN : Nat := 0x10004
/-- PWR_DOM_REQ0 (R462, 22_power_clocks_and_supply). -/
def PWR_DOM_REQ0 : Nat := 0x10010
/-- PWR_DOM_REQ1 (R462, 22_power_clocks_and_supply). -/
def PWR_DOM_REQ1 : Nat := 0x10014
/-- PWR_DOM_STAT0 (R462, 22_power_clocks_and_supply). -/
def PWR_DOM_STAT0 : Nat := 0x10018
/-- PWR_DOM_STAT1 (R462, 22_power_clocks_and_supply). -/
def PWR_DOM_STAT1 : Nat := 0x1001C
/-- PWR_DOZE_EN (R462, 22_power_clocks_and_supply). -/
def PWR_DOZE_EN : Nat := 0x10020
/-- PWR_PLL (R462, 22_power_clocks_and_supply). -/
def PWR_PLL : Nat := 0x10024
/-- PWR_CMD (R462, 22_power_clocks_and_supply). -/
def PWR_CMD : Nat := 0x10028
/-- PWR_RESET_CAUSE (R462, 22_power_clocks_and_supply). -/
def PWR_RESET_CAUSE : Nat := 0x18000
/-- PWR_RTC_LO (R462, 22_power_clocks_and_supply). -/
def PWR_RTC_LO : Nat := 0x18004
/-- PWR_RTC_HI (R462, 22_power_clocks_and_supply). -/
def PWR_RTC_HI : Nat := 0x18008
/-- PWR_UP_LO (R462, 22_power_clocks_and_supply). -/
def PWR_UP_LO : Nat := 0x1800C
/-- PWR_UP_HI (R462, 22_power_clocks_and_supply). -/
def PWR_UP_HI : Nat := 0x18010
/-- PWR_ALARM_LO (R462, 22_power_clocks_and_supply). -/
def PWR_ALARM_LO : Nat := 0x18014
/-- PWR_ALARM_HI (R462, 22_power_clocks_and_supply). -/
def PWR_ALARM_HI : Nat := 0x18018
/-- PWR_WAKE_EN (R462, 22_power_clocks_and_supply). -/
def PWR_WAKE_EN : Nat := 0x1801C
/-- PWR_RTC_SET_LO (R462, 22_power_clocks_and_supply). -/
def PWR_RTC_SET_LO : Nat := 0x18020
/-- PWR_RTC_SET_HI (R462, 22_power_clocks_and_supply). -/
def PWR_RTC_SET_HI : Nat := 0x18024
/-- MON_STAT (R463, 22_power_clocks_and_supply). -/
def MON_STAT : Nat := 0x20000
/-- MON_CFG (R463, 22_power_clocks_and_supply). -/
def MON_CFG : Nat := 0x20004
/-- MON_CNT (R463, 22_power_clocks_and_supply). -/
def MON_CNT : Nat := 0x20008
/-- INT_SRC_CFG (R279, 13_interrupts). -/
def INT_SRC_CFG (i : Nat) : Nat := 0x30000 + 0x4 * i
/-- INT_PRIV_CFG (R279, 13_interrupts). -/
def INT_PRIV_CFG (d : Nat) (i : Nat) : Nat := 0x30800 + 0x80 * d + 0x4 * i
/-- INT_PEND_SET (R279, 13_interrupts). -/
def INT_PEND_SET (i : Nat) : Nat := 0x31000 + 0x4 * i
/-- INT_PEND_CLR (R279, 13_interrupts). -/
def INT_PEND_CLR (i : Nat) : Nat := 0x31040 + 0x4 * i
/-- INT_EN_SET (R279, 13_interrupts). -/
def INT_EN_SET (i : Nat) : Nat := 0x31080 + 0x4 * i
/-- INT_EN_CLR (R279, 13_interrupts). -/
def INT_EN_CLR (i : Nat) : Nat := 0x310C0 + 0x4 * i
/-- INT_ACTIVE (R279, 13_interrupts). -/
def INT_ACTIVE (i : Nat) : Nat := 0x31100 + 0x4 * i
/-- INT_CLAIM (R279, 13_interrupts). -/
def INT_CLAIM : Nat := 0x31200
/-- INT_COMPLETE (R279, 13_interrupts). -/
def INT_COMPLETE : Nat := 0x31204
/-- INT_THR (R279, 13_interrupts). -/
def INT_THR : Nat := 0x31208
/-- INT_RUNPRI (R279, 13_interrupts). -/
def INT_RUNPRI : Nat := 0x3120C
/-- INT_MOD (R279, 13_interrupts). -/
def INT_MOD : Nat := 0x31210
/-- INT_STAT (R279, 13_interrupts). -/
def INT_STAT : Nat := 0x31214
/-- INT_DOORBELL (R279, 13_interrupts). -/
def INT_DOORBELL : Nat := 0x31300
/-- INT_EDGE_SEL (R279, 13_interrupts). -/
def INT_EDGE_SEL (i : Nat) : Nat := 0x31400 + 0x4 * i
/-- TMR_CTRL (R310, 15_timers_and_counters). -/
def TMR_CTRL (i : Nat) : Nat := 0x40000 + 0x40 * i
/-- TMR_TOP_LO (R310, 15_timers_and_counters). -/
def TMR_TOP_LO (i : Nat) : Nat := 0x40004 + 0x40 * i
/-- TMR_TOP_HI (R310, 15_timers_and_counters). -/
def TMR_TOP_HI (i : Nat) : Nat := 0x40008 + 0x40 * i
/-- TMR_CMP_LO (R310, 15_timers_and_counters). -/
def TMR_CMP_LO (i : Nat) : Nat := 0x4000C + 0x40 * i
/-- TMR_CMP_HI (R310, 15_timers_and_counters). -/
def TMR_CMP_HI (i : Nat) : Nat := 0x40010 + 0x40 * i
/-- TMR_CMD (R310, 15_timers_and_counters). -/
def TMR_CMD (i : Nat) : Nat := 0x40014 + 0x40 * i
/-- TMR_SNAP_LO (R310, 15_timers_and_counters). -/
def TMR_SNAP_LO (i : Nat) : Nat := 0x40018 + 0x40 * i
/-- TMR_SNAP_HI (R310, 15_timers_and_counters). -/
def TMR_SNAP_HI (i : Nat) : Nat := 0x4001C + 0x40 * i
/-- TMR_CAPCTRL (R310, 15_timers_and_counters). -/
def TMR_CAPCTRL (i : Nat) : Nat := 0x40020 + 0x40 * i
/-- TMR_CAPR_LO (R310, 15_timers_and_counters). -/
def TMR_CAPR_LO (i : Nat) : Nat := 0x40024 + 0x40 * i
/-- TMR_CAPR_HI (R310, 15_timers_and_counters). -/
def TMR_CAPR_HI (i : Nat) : Nat := 0x40028 + 0x40 * i
/-- TMR_CAPF_LO (R310, 15_timers_and_counters). -/
def TMR_CAPF_LO (i : Nat) : Nat := 0x4002C + 0x40 * i
/-- TMR_CAPF_HI (R310, 15_timers_and_counters). -/
def TMR_CAPF_HI (i : Nat) : Nat := 0x40030 + 0x40 * i
/-- TMR_WIDTH (R310, 15_timers_and_counters). -/
def TMR_WIDTH (i : Nat) : Nat := 0x40034 + 0x40 * i
/-- TMR_STAT (R310, 15_timers_and_counters). -/
def TMR_STAT (i : Nat) : Nat := 0x40038 + 0x40 * i
/-- TMR_INT_EN (R310, 15_timers_and_counters). -/
def TMR_INT_EN (i : Nat) : Nat := 0x4003C + 0x40 * i
/-- PMC_CTRL (R318, 15_timers_and_counters). -/
def PMC_CTRL : Nat := 0x50000
/-- PMC_OVF0 (R318, 15_timers_and_counters). -/
def PMC_OVF0 : Nat := 0x50004
/-- PMC_OVF1 (R318, 15_timers_and_counters). -/
def PMC_OVF1 : Nat := 0x50008
/-- PMC_OVF_EN0 (R318, 15_timers_and_counters). -/
def PMC_OVF_EN0 : Nat := 0x5000C
/-- PMC_OVF_EN1 (R318, 15_timers_and_counters). -/
def PMC_OVF_EN1 : Nat := 0x50010
/-- PMC_HOLD (R318, 15_timers_and_counters). -/
def PMC_HOLD : Nat := 0x50014
/-- PMC_CFG (R318, 15_timers_and_counters). -/
def PMC_CFG (i : Nat) : Nat := 0x50100 + 0x4 * i
/-- PMC_VAL (R318, 15_timers_and_counters). -/
def PMC_VAL (i : Nat) : Nat := 0x50200 + 0x4 * i
/-- PMC_HIST_CFG (R318, 15_timers_and_counters). -/
def PMC_HIST_CFG (i : Nat) : Nat := 0x50800 + 0x80 * i
/-- PMC_HIST_BIN (R318, 15_timers_and_counters). -/
def PMC_HIST_BIN (d : Nat) (i : Nat) : Nat := 0x50840 + 0x80 * d + 0x4 * i
/-- MEM_CFG (R56, 02_memory_system). -/
def MEM_CFG : Nat := 0x60000
/-- MEM_STAT (R56, 02_memory_system). -/
def MEM_STAT : Nat := 0x60004
/-- MEM_ARB_CFG (R56, 02_memory_system). -/
def MEM_ARB_CFG : Nat := 0x60010
/-- MEM_WDOG (R56, 02_memory_system). -/
def MEM_WDOG : Nat := 0x60014
/-- MEM_ARB_STAT (R56, 02_memory_system). -/
def MEM_ARB_STAT (i : Nat) : Nat := 0x60020 + 0x4 * i
/-- MEM_RANK (R56, 02_memory_system). -/
def MEM_RANK (i : Nat) : Nat := 0x60100 + 0x4 * i
/-- MEM_LTR_D (R56, 02_memory_system). -/
def MEM_LTR_D (i : Nat) : Nat := 0x60200 + 0x4 * i
/-- MEM_LTR_KTL (R56, 02_memory_system). -/
def MEM_LTR_KTL : Nat := 0x60210
/-- MEM_LTR_SW (R56, 02_memory_system). -/
def MEM_LTR_SW : Nat := 0x60214
/-- MEM_SR_CFG (R56, 02_memory_system). -/
def MEM_SR_CFG : Nat := 0x60220
/-- MEM_SR_EXIT (R56, 02_memory_system). -/
def MEM_SR_EXIT : Nat := 0x60224
/-- MEM_SR_STAT (R56, 02_memory_system). -/
def MEM_SR_STAT : Nat := 0x60228
/-- MEM_ECC_STAT (R56, 02_memory_system). -/
def MEM_ECC_STAT : Nat := 0x60300
/-- MEM_ECC_ADDR_LO (R56, 02_memory_system). -/
def MEM_ECC_ADDR_LO : Nat := 0x60304
/-- MEM_ECC_ADDR_HI (R56, 02_memory_system). -/
def MEM_ECC_ADDR_HI : Nat := 0x60308
/-- MEM_INT_STAT (R56, 02_memory_system). -/
def MEM_INT_STAT : Nat := 0x60310
/-- MEM_INT_EN (R56, 02_memory_system). -/
def MEM_INT_EN : Nat := 0x60314
/-- DMA_CH_CTRL (R298, 14_dma). -/
def DMA_CH_CTRL (i : Nat) : Nat := 0x80000 + 0x40 * i
/-- DMA_CH_PROG_LO (R298, 14_dma). -/
def DMA_CH_PROG_LO (i : Nat) : Nat := 0x80004 + 0x40 * i
/-- DMA_CH_PROG_HI (R298, 14_dma). -/
def DMA_CH_PROG_HI (i : Nat) : Nat := 0x80008 + 0x40 * i
/-- DMA_CH_SRC_LO (R298, 14_dma). -/
def DMA_CH_SRC_LO (i : Nat) : Nat := 0x8000C + 0x40 * i
/-- DMA_CH_SRC_HI (R298, 14_dma). -/
def DMA_CH_SRC_HI (i : Nat) : Nat := 0x80010 + 0x40 * i
/-- DMA_CH_DST_LO (R298, 14_dma). -/
def DMA_CH_DST_LO (i : Nat) : Nat := 0x80014 + 0x40 * i
/-- DMA_CH_DST_HI (R298, 14_dma). -/
def DMA_CH_DST_HI (i : Nat) : Nat := 0x80018 + 0x40 * i
/-- DMA_CH_FIFO (R298, 14_dma). -/
def DMA_CH_FIFO (i : Nat) : Nat := 0x8001C + 0x40 * i
/-- DMA_CH_RATE (R298, 14_dma). -/
def DMA_CH_RATE (i : Nat) : Nat := 0x80020 + 0x40 * i
/-- DMA_CH_PC (R298, 14_dma). -/
def DMA_CH_PC (i : Nat) : Nat := 0x80024 + 0x40 * i
/-- DMA_CH_STAT (R298, 14_dma). -/
def DMA_CH_STAT (i : Nat) : Nat := 0x80028 + 0x40 * i
/-- DMA_CH_INT_EN (R298, 14_dma). -/
def DMA_CH_INT_EN (i : Nat) : Nat := 0x8002C + 0x40 * i
/-- DMA_EVENT_SET (R298, 14_dma). -/
def DMA_EVENT_SET (i : Nat) : Nat := 0x81000 + 0x4 * i
/-- DMA_EVENT_CLR (R298, 14_dma). -/
def DMA_EVENT_CLR (i : Nat) : Nat := 0x81008 + 0x4 * i
/-- DMA_ERR_SUM (R298, 14_dma). -/
def DMA_ERR_SUM : Nat := 0x81010
/-- BLT_CTRL (R192, 09_blit_engine). -/
def BLT_CTRL : Nat := 0x90000
/-- BLT_RING_BASE (R192, 09_blit_engine). -/
def BLT_RING_BASE : Nat := 0x90004
/-- BLT_RING_SIZE (R192, 09_blit_engine). -/
def BLT_RING_SIZE : Nat := 0x90008
/-- BLT_HEAD (R192, 09_blit_engine). -/
def BLT_HEAD : Nat := 0x9000C
/-- BLT_TAIL (R192, 09_blit_engine). -/
def BLT_TAIL : Nat := 0x90010
/-- BLT_DONE_TAG (R192, 09_blit_engine). -/
def BLT_DONE_TAG : Nat := 0x90014
/-- BLT_STAT (R192, 09_blit_engine). -/
def BLT_STAT : Nat := 0x90018
/-- BLT_INT_EN (R192, 09_blit_engine). -/
def BLT_INT_EN : Nat := 0x9001C
/-- PIN_CFG (R440, 21_pins). -/
def PIN_CFG (i : Nat) : Nat := 0xA0000 + 0x4 * i
/-- PIN_IN (R440, 21_pins). -/
def PIN_IN (i : Nat) : Nat := 0xA0200 + 0x4 * i
/-- PIN_DRV (R440, 21_pins). -/
def PIN_DRV (i : Nat) : Nat := 0xA0210 + 0x4 * i
/-- PIN_OUTV (R440, 21_pins). -/
def PIN_OUTV (i : Nat) : Nat := 0xA0220 + 0x4 * i
/-- PIN_BANK (R440, 21_pins). -/
def PIN_BANK (i : Nat) : Nat := 0xA0300 + 0x4 * i
/-- PIN_PRIV_OUT (R240, 11_control_cores). -/
def PIN_PRIV_OUT (i : Nat) : Nat := 0xA8000 + 0x10 * i
/-- PIN_PRIV_SET (R240, 11_control_cores). -/
def PIN_PRIV_SET (i : Nat) : Nat := 0xA8004 + 0x10 * i
/-- PIN_PRIV_CLR (R240, 11_control_cores). -/
def PIN_PRIV_CLR (i : Nat) : Nat := 0xA8008 + 0x10 * i
/-- PIN_PRIV_IN (R240, 11_control_cores). -/
def PIN_PRIV_IN (i : Nat) : Nat := 0xA800C + 0x10 * i
/-- HLK_CTRL (R337, 16_heto_link). -/
def HLK_CTRL (i : Nat) : Nat := 0xB0000 + 0x2000 * i
/-- HLK_PLCA (R337, 16_heto_link). -/
def HLK_PLCA (i : Nat) : Nat := 0xB0004 + 0x2000 * i
/-- HLK_TBL (R337, 16_heto_link). -/
def HLK_TBL (i : Nat) : Nat := 0xB0008 + 0x2000 * i
/-- HLK_POS (R337, 16_heto_link). -/
def HLK_POS (i : Nat) : Nat := 0xB000C + 0x2000 * i
/-- HLK_STAT (R337, 16_heto_link). -/
def HLK_STAT (i : Nat) : Nat := 0xB0010 + 0x2000 * i
/-- HLK_INT_EN (R337, 16_heto_link). -/
def HLK_INT_EN (i : Nat) : Nat := 0xB0014 + 0x2000 * i
/-- HLK_CNT (R337, 16_heto_link). -/
def HLK_CNT (i : Nat) : Nat := 0xB0018 + 0x2000 * i
/-- HLK_ERR_CNT (R337, 16_heto_link). -/
def HLK_ERR_CNT (i : Nat) : Nat := 0xB001C + 0x2000 * i
/-- HLK_RX_HEAD (R337, 16_heto_link). -/
def HLK_RX_HEAD (i : Nat) : Nat := 0xB0020 + 0x2000 * i
/-- HLK_RX_TAIL (R337, 16_heto_link). -/
def HLK_RX_TAIL (i : Nat) : Nat := 0xB0024 + 0x2000 * i
/-- HLK_ETYPE (R337, 16_heto_link). -/
def HLK_ETYPE (i : Nat) : Nat := 0xB0028 + 0x2000 * i
/-- HLK_NODE (R337, 16_heto_link). -/
def HLK_NODE (d : Nat) (i : Nat) : Nat := 0xB0100 + 0x2000 * d + 0x4 * i
/-- HLK_TX0 (R337, 16_heto_link). -/
def HLK_TX0 (d : Nat) (i : Nat) : Nat := 0xB0200 + 0x2000 * d + 0x8 * i
/-- HLK_TX1 (R337, 16_heto_link). -/
def HLK_TX1 (d : Nat) (i : Nat) : Nat := 0xB0204 + 0x2000 * d + 0x8 * i
/-- HLK_SLOT (R337, 16_heto_link). -/
def HLK_SLOT (d : Nat) (i : Nat) : Nat := 0xB0400 + 0x2000 * d + 0x4 * i
/-- FLR_CTRL (R429, 20_floor_link). -/
def FLR_CTRL : Nat := 0xC0000
/-- FLR_STAT (R429, 20_floor_link). -/
def FLR_STAT : Nat := 0xC0004
/-- FLR_INT_EN (R429, 20_floor_link). -/
def FLR_INT_EN : Nat := 0xC0008
/-- FLR_DOMAIN (R429, 20_floor_link). -/
def FLR_DOMAIN : Nat := 0xC000C
/-- FLR_ADDR (R429, 20_floor_link). -/
def FLR_ADDR (i : Nat) : Nat := 0xC0010 + 0x4 * i
/-- FLR_HOST (R429, 20_floor_link). -/
def FLR_HOST (i : Nat) : Nat := 0xC0020 + 0x4 * i
/-- FLR_GW (R429, 20_floor_link). -/
def FLR_GW (i : Nat) : Nat := 0xC0030 + 0x4 * i
/-- FLR_PORTS (R429, 20_floor_link). -/
def FLR_PORTS : Nat := 0xC0040
/-- FLR_TIMING (R429, 20_floor_link). -/
def FLR_TIMING : Nat := 0xC0044
/-- FLR_PREFIX (R429, 20_floor_link). -/
def FLR_PREFIX : Nat := 0xC0048
/-- FLR_BUF (R429, 20_floor_link). -/
def FLR_BUF : Nat := 0xC004C
/-- FLR_CNT (R429, 20_floor_link). -/
def FLR_CNT : Nat := 0xC0050
/-- FLR_ERR_CNT (R429, 20_floor_link). -/
def FLR_ERR_CNT : Nat := 0xC0054
/-- SEC_STAT (R390, 18_trust_cluster). -/
def SEC_STAT : Nat := 0xD0000
/-- SEC_INT_EN (R390, 18_trust_cluster). -/
def SEC_INT_EN : Nat := 0xD0004
/-- SEC_ES_CNT (R390, 18_trust_cluster). -/
def SEC_ES_CNT : Nat := 0xD0008
/-- SEC_DRBG_CFG (R390, 18_trust_cluster). -/
def SEC_DRBG_CFG : Nat := 0xD0010
/-- SEC_DRBG_GEN (R390, 18_trust_cluster). -/
def SEC_DRBG_GEN : Nat := 0xD0014
/-- SEC_DRBG_RESEEDS (R390, 18_trust_cluster). -/
def SEC_DRBG_RESEEDS : Nat := 0xD0018
/-- SEC_IDPUB (R390, 18_trust_cluster). -/
def SEC_IDPUB (i : Nat) : Nat := 0xD0100 + 0x4 * i
/-- SEC_CKPUB (R390, 18_trust_cluster). -/
def SEC_CKPUB (i : Nat) : Nat := 0xD0120 + 0x4 * i
/-- SEC_UID (R390, 18_trust_cluster). -/
def SEC_UID (i : Nat) : Nat := 0xD0140 + 0x4 * i
/-- SEC_ROOT (R390, 18_trust_cluster). -/
def SEC_ROOT (i : Nat) : Nat := 0xD0150 + 0x4 * i
/-- SEC_FUSE (R390, 18_trust_cluster). -/
def SEC_FUSE : Nat := 0xD0170
/-- SEC_KEYS (R390, 18_trust_cluster). -/
def SEC_KEYS : Nat := 0xD0174
/-- SEC_FUSE_DATA (R390, 18_trust_cluster). -/
def SEC_FUSE_DATA (i : Nat) : Nat := 0xD0200 + 0x4 * i
/-- SEC_FUSE_CMD (R390, 18_trust_cluster). -/
def SEC_FUSE_CMD : Nat := 0xD0220
/-- SEC_RAW_CTRL (R390, 18_trust_cluster). -/
def SEC_RAW_CTRL : Nat := 0xD0240
/-- SEC_RAW_DATA (R390, 18_trust_cluster). -/
def SEC_RAW_DATA : Nat := 0xD0244
/-- SEC_DRBG_REQ (R390, 18_trust_cluster). -/
def SEC_DRBG_REQ : Nat := 0xD1000
/-- SEC_DRBG_PSTAT (R390, 18_trust_cluster). -/
def SEC_DRBG_PSTAT : Nat := 0xD1004
/-- SEC_DRBG_OUT (R390, 18_trust_cluster). -/
def SEC_DRBG_OUT (i : Nat) : Nat := 0xD1040 + 0x4 * i
/-- LDG_STAT (R418, 19_boot_ledger_and_meters). -/
def LDG_STAT : Nat := 0xE0000
/-- LDG_INT_EN (R418, 19_boot_ledger_and_meters). -/
def LDG_INT_EN : Nat := 0xE0004
/-- LDG_LEDGER (R418, 19_boot_ledger_and_meters). -/
def LDG_LEDGER : Nat := 0xE0008
/-- LDG_BOOTCNT (R418, 19_boot_ledger_and_meters). -/
def LDG_BOOTCNT : Nat := 0xE000C
/-- LDG_ACKED (R418, 19_boot_ledger_and_meters). -/
def LDG_ACKED : Nat := 0xE0010
/-- LDG_EVT_SEQ (R418, 19_boot_ledger_and_meters). -/
def LDG_EVT_SEQ : Nat := 0xE0014
/-- LDG_SPARES (R418, 19_boot_ledger_and_meters). -/
def LDG_SPARES (i : Nat) : Nat := 0xE0020 + 0x4 * i
/-- LDG_MEV_GAME_LO (R418, 19_boot_ledger_and_meters). -/
def LDG_MEV_GAME_LO : Nat := 0xE1000
/-- LDG_MEV_GAME_HI (R418, 19_boot_ledger_and_meters). -/
def LDG_MEV_GAME_HI : Nat := 0xE1004
/-- LDG_MEV_M (R418, 19_boot_ledger_and_meters). -/
def LDG_MEV_M (i : Nat) : Nat := 0xE1008 + 0x4 * i
/-- LDG_MEV_D (R418, 19_boot_ledger_and_meters). -/
def LDG_MEV_D (i : Nat) : Nat := 0xE1018 + 0x4 * i
/-- LDG_MEV_HASH (R418, 19_boot_ledger_and_meters). -/
def LDG_MEV_HASH (i : Nat) : Nat := 0xE1028 + 0x4 * i
/-- LDG_MEV_CMD (R418, 19_boot_ledger_and_meters). -/
def LDG_MEV_CMD : Nat := 0xE1048
/-- LDG_MEV_STAT (R418, 19_boot_ledger_and_meters). -/
def LDG_MEV_STAT : Nat := 0xE104C
/-- LDG_MEV_SEQ_LO (R418, 19_boot_ledger_and_meters). -/
def LDG_MEV_SEQ_LO : Nat := 0xE1050
/-- LDG_MEV_SEQ_HI (R418, 19_boot_ledger_and_meters). -/
def LDG_MEV_SEQ_HI : Nat := 0xE1054
/-- LDG_METER_SEL (R418, 19_boot_ledger_and_meters). -/
def LDG_METER_SEL : Nat := 0xE1060
/-- LDG_METER_LO (R418, 19_boot_ledger_and_meters). -/
def LDG_METER_LO : Nat := 0xE1064
/-- LDG_METER_HI (R418, 19_boot_ledger_and_meters). -/
def LDG_METER_HI : Nat := 0xE1068
/-- LDG_DOOR_CFG (R418, 19_boot_ledger_and_meters). -/
def LDG_DOOR_CFG : Nat := 0xE8000
/-- LDG_DOOR_LVL (R418, 19_boot_ledger_and_meters). -/
def LDG_DOOR_LVL : Nat := 0xE8004
/-- LDG_PD0_CNT (R418, 19_boot_ledger_and_meters). -/
def LDG_PD0_CNT : Nat := 0xE8008
/-- PLN_CTRL (R77, 03_tile_planes). -/
def PLN_CTRL (d : Nat) (i : Nat) : Nat := 0x100000 + 0x10000 * d + 0x40 * i
/-- PLN_MAP_BASE (R77, 03_tile_planes). -/
def PLN_MAP_BASE (d : Nat) (i : Nat) : Nat := 0x100004 + 0x10000 * d + 0x40 * i
/-- PLN_PAT_BASE (R77, 03_tile_planes). -/
def PLN_PAT_BASE (d : Nat) (i : Nat) : Nat := 0x100008 + 0x10000 * d + 0x40 * i
/-- PLN_ORG_X (R77, 03_tile_planes). -/
def PLN_ORG_X (d : Nat) (i : Nat) : Nat := 0x10000C + 0x10000 * d + 0x40 * i
/-- PLN_ORG_Y (R77, 03_tile_planes). -/
def PLN_ORG_Y (d : Nat) (i : Nat) : Nat := 0x100010 + 0x10000 * d + 0x40 * i
/-- PLN_STEP_X (R77, 03_tile_planes). -/
def PLN_STEP_X (d : Nat) (i : Nat) : Nat := 0x100014 + 0x10000 * d + 0x40 * i
/-- PLN_STEP_Y (R77, 03_tile_planes). -/
def PLN_STEP_Y (d : Nat) (i : Nat) : Nat := 0x100018 + 0x10000 * d + 0x40 * i
/-- PLN_WIN_X (R77, 03_tile_planes). -/
def PLN_WIN_X (d : Nat) (i : Nat) : Nat := 0x10001C + 0x10000 * d + 0x40 * i
/-- PLN_WIN_Y (R77, 03_tile_planes). -/
def PLN_WIN_Y (d : Nat) (i : Nat) : Nat := 0x100020 + 0x10000 * d + 0x40 * i
/-- PLN_TALPHA (R77, 03_tile_planes). -/
def PLN_TALPHA (d : Nat) (i : Nat) : Nat := 0x100024 + 0x10000 * d + 0x40 * i
/-- PLN_PAL_ADDR (R77, 03_tile_planes). -/
def PLN_PAL_ADDR (i : Nat) : Nat := 0x100400 + 0x10000 * i
/-- PLN_PAL_LO (R77, 03_tile_planes). -/
def PLN_PAL_LO (i : Nat) : Nat := 0x100404 + 0x10000 * i
/-- PLN_PAL_HI (R77, 03_tile_planes). -/
def PLN_PAL_HI (i : Nat) : Nat := 0x100408 + 0x10000 * i
/-- PLN_COEF_ADDR (R77, 03_tile_planes). -/
def PLN_COEF_ADDR (i : Nat) : Nat := 0x100410 + 0x10000 * i
/-- PLN_COEF_DATA (R77, 03_tile_planes). -/
def PLN_COEF_DATA (i : Nat) : Nat := 0x100414 + 0x10000 * i
/-- PLN_COEF_CTRL (R77, 03_tile_planes). -/
def PLN_COEF_CTRL (i : Nat) : Nat := 0x100418 + 0x10000 * i
/-- PLN_STAT (R77, 03_tile_planes). -/
def PLN_STAT (i : Nat) : Nat := 0x100420 + 0x10000 * i
/-- PLN_PROBE_POS (R77, 03_tile_planes). -/
def PLN_PROBE_POS (i : Nat) : Nat := 0x100430 + 0x10000 * i
/-- PLN_PROBE_LO (R77, 03_tile_planes). -/
def PLN_PROBE_LO (i : Nat) : Nat := 0x100434 + 0x10000 * i
/-- PLN_PROBE_HI (R77, 03_tile_planes). -/
def PLN_PROBE_HI (i : Nat) : Nat := 0x100438 + 0x10000 * i
/-- PLN_PCI_BASE (R77, 03_tile_planes). -/
def PLN_PCI_BASE : Nat := 0x10F000
/-- PLN_PCI_SIZE (R77, 03_tile_planes). -/
def PLN_PCI_SIZE : Nat := 0x10F004
/-- PLN_PCI_CTRL (R77, 03_tile_planes). -/
def PLN_PCI_CTRL : Nat := 0x10F008
/-- CMT_CTRL (R94, 04_comets). -/
def CMT_CTRL (i : Nat) : Nat := 0x140000 + 0x10000 * i
/-- CMT_CTX_BASE (R94, 04_comets). -/
def CMT_CTX_BASE (i : Nat) : Nat := 0x140004 + 0x10000 * i
/-- CMT_VIEW (R94, 04_comets). -/
def CMT_VIEW (i : Nat) : Nat := 0x140008 + 0x10000 * i
/-- CMT_FETCHED (R94, 04_comets). -/
def CMT_FETCHED (i : Nat) : Nat := 0x14000C + 0x10000 * i
/-- CMT_CLOCKS (R94, 04_comets). -/
def CMT_CLOCKS (i : Nat) : Nat := 0x140010 + 0x10000 * i
/-- CMT_STAT (R94, 04_comets). -/
def CMT_STAT (i : Nat) : Nat := 0x140014 + 0x10000 * i
/-- CMT_PROBE_POS (R94, 04_comets). -/
def CMT_PROBE_POS (i : Nat) : Nat := 0x140020 + 0x10000 * i
/-- CMT_PROBE_LO (R94, 04_comets). -/
def CMT_PROBE_LO (i : Nat) : Nat := 0x140024 + 0x10000 * i
/-- CMT_PROBE_HI (R94, 04_comets). -/
def CMT_PROBE_HI (i : Nat) : Nat := 0x140028 + 0x10000 * i
/-- EPH_CAPS (R127, 05_ephemeris). -/
def EPH_CAPS (i : Nat) : Nat := 0x180000 + 0x8000 * i
/-- EPH_CTRL (R127, 05_ephemeris). -/
def EPH_CTRL (i : Nat) : Nat := 0x180004 + 0x8000 * i
/-- EPH_RING_BASE (R127, 05_ephemeris). -/
def EPH_RING_BASE (i : Nat) : Nat := 0x180008 + 0x8000 * i
/-- EPH_FRAME0 (R127, 05_ephemeris). -/
def EPH_FRAME0 (i : Nat) : Nat := 0x18000C + 0x8000 * i
/-- EPH_COMMIT (R127, 05_ephemeris). -/
def EPH_COMMIT (i : Nat) : Nat := 0x180010 + 0x8000 * i
/-- EPH_RETIRED (R127, 05_ephemeris). -/
def EPH_RETIRED (i : Nat) : Nat := 0x180014 + 0x8000 * i
/-- EPH_POS (R127, 05_ephemeris). -/
def EPH_POS (i : Nat) : Nat := 0x180018 + 0x8000 * i
/-- EPH_DONE (R127, 05_ephemeris). -/
def EPH_DONE (i : Nat) : Nat := 0x18001C + 0x8000 * i
/-- EPH_RW_E0 (R127, 05_ephemeris). -/
def EPH_RW_E0 (i : Nat) : Nat := 0x180020 + 0x8000 * i
/-- EPH_RW_E1 (R127, 05_ephemeris). -/
def EPH_RW_E1 (i : Nat) : Nat := 0x180024 + 0x8000 * i
/-- EPH_RW_E2 (R127, 05_ephemeris). -/
def EPH_RW_E2 (i : Nat) : Nat := 0x180028 + 0x8000 * i
/-- EPH_RW_E3 (R127, 05_ephemeris). -/
def EPH_RW_E3 (i : Nat) : Nat := 0x18002C + 0x8000 * i
/-- EPH_REWRITE (R127, 05_ephemeris). -/
def EPH_REWRITE (i : Nat) : Nat := 0x180030 + 0x8000 * i
/-- EPH_REWRITE_STAT (R127, 05_ephemeris). -/
def EPH_REWRITE_STAT (i : Nat) : Nat := 0x180034 + 0x8000 * i
/-- EPH_STAT (R127, 05_ephemeris). -/
def EPH_STAT (i : Nat) : Nat := 0x180038 + 0x8000 * i
/-- EPH_INT_EN (R127, 05_ephemeris). -/
def EPH_INT_EN (i : Nat) : Nat := 0x18003C + 0x8000 * i
/-- CMP_CTRL (R141, 06_composition). -/
def CMP_CTRL (i : Nat) : Nat := 0x1A0000 + 0x8000 * i
/-- CMP_BG (R141, 06_composition). -/
def CMP_BG (i : Nat) : Nat := 0x1A0004 + 0x8000 * i
/-- CMP_LALPHA0 (R141, 06_composition). -/
def CMP_LALPHA0 (i : Nat) : Nat := 0x1A0008 + 0x8000 * i
/-- CMP_LALPHA1 (R141, 06_composition). -/
def CMP_LALPHA1 (i : Nat) : Nat := 0x1A000C + 0x8000 * i
/-- CMP_MODE (R141, 06_composition). -/
def CMP_MODE (i : Nat) : Nat := 0x1A0010 + 0x8000 * i
/-- CMP_GKEY0 (R141, 06_composition). -/
def CMP_GKEY0 (i : Nat) : Nat := 0x1A0014 + 0x8000 * i
/-- CMP_GKEY1 (R141, 06_composition). -/
def CMP_GKEY1 (i : Nat) : Nat := 0x1A0018 + 0x8000 * i
/-- CMP_OSCALE (R141, 06_composition). -/
def CMP_OSCALE (i : Nat) : Nat := 0x1A0020 + 0x8000 * i
/-- CMP_CANVAS (R141, 06_composition). -/
def CMP_CANVAS (i : Nat) : Nat := 0x1A0024 + 0x8000 * i
/-- CMP_OSIZE (R141, 06_composition). -/
def CMP_OSIZE (i : Nat) : Nat := 0x1A0028 + 0x8000 * i
/-- CMP_OSTEP_X (R141, 06_composition). -/
def CMP_OSTEP_X (i : Nat) : Nat := 0x1A002C + 0x8000 * i
/-- CMP_OSTEP_Y (R141, 06_composition). -/
def CMP_OSTEP_Y (i : Nat) : Nat := 0x1A0030 + 0x8000 * i
/-- CMP_OORG_X (R141, 06_composition). -/
def CMP_OORG_X (i : Nat) : Nat := 0x1A0034 + 0x8000 * i
/-- CMP_OORG_Y (R141, 06_composition). -/
def CMP_OORG_Y (i : Nat) : Nat := 0x1A0038 + 0x8000 * i
/-- CMP_WB_CTRL (R141, 06_composition). -/
def CMP_WB_CTRL (i : Nat) : Nat := 0x1A0040 + 0x8000 * i
/-- CMP_WB_BASE (R141, 06_composition). -/
def CMP_WB_BASE (i : Nat) : Nat := 0x1A0044 + 0x8000 * i
/-- CMP_WB_PITCH (R141, 06_composition). -/
def CMP_WB_PITCH (i : Nat) : Nat := 0x1A0048 + 0x8000 * i
/-- CMP_WB_STRIDE (R141, 06_composition). -/
def CMP_WB_STRIDE (i : Nat) : Nat := 0x1A004C + 0x8000 * i
/-- CMP_WB_DONE (R141, 06_composition). -/
def CMP_WB_DONE (i : Nat) : Nat := 0x1A0050 + 0x8000 * i
/-- CMP_STAT (R141, 06_composition). -/
def CMP_STAT (i : Nat) : Nat := 0x1A0054 + 0x8000 * i
/-- CMP_CLOCKS (R141, 06_composition). -/
def CMP_CLOCKS (i : Nat) : Nat := 0x1A0058 + 0x8000 * i
/-- CMP_PROBE_POS (R141, 06_composition). -/
def CMP_PROBE_POS (i : Nat) : Nat := 0x1A0060 + 0x8000 * i
/-- CMP_PROBE_VAL (R141, 06_composition). -/
def CMP_PROBE_VAL (i : Nat) : Nat := 0x1A0064 + 0x8000 * i
/-- CMP_PROBE_BLEND (R141, 06_composition). -/
def CMP_PROBE_BLEND (i : Nat) : Nat := 0x1A0068 + 0x8000 * i
/-- CMP_PART (R141, 06_composition). -/
def CMP_PART (i : Nat) : Nat := 0x1A7000 + 0x4 * i
/-- DSP_CTRL (R166, 07_display_outputs). -/
def DSP_CTRL (i : Nat) : Nat := 0x1C0000 + 0x8000 * i
/-- DSP_LINK (R166, 07_display_outputs). -/
def DSP_LINK (i : Nat) : Nat := 0x1C0004 + 0x8000 * i
/-- DSP_TRAIN (R166, 07_display_outputs). -/
def DSP_TRAIN (i : Nat) : Nat := 0x1C0008 + 0x8000 * i
/-- DSP_H0 (R166, 07_display_outputs). -/
def DSP_H0 (i : Nat) : Nat := 0x1C000C + 0x8000 * i
/-- DSP_H1 (R166, 07_display_outputs). -/
def DSP_H1 (i : Nat) : Nat := 0x1C0010 + 0x8000 * i
/-- DSP_V0 (R166, 07_display_outputs). -/
def DSP_V0 (i : Nat) : Nat := 0x1C0014 + 0x8000 * i
/-- DSP_V1 (R166, 07_display_outputs). -/
def DSP_V1 (i : Nat) : Nat := 0x1C0018 + 0x8000 * i
/-- DSP_PCLK (R166, 07_display_outputs). -/
def DSP_PCLK (i : Nat) : Nat := 0x1C001C + 0x8000 * i
/-- DSP_PACE (R166, 07_display_outputs). -/
def DSP_PACE (i : Nat) : Nat := 0x1C0020 + 0x8000 * i
/-- DSP_WMARK (R166, 07_display_outputs). -/
def DSP_WMARK (i : Nat) : Nat := 0x1C0024 + 0x8000 * i
/-- DSP_APPLY (R166, 07_display_outputs). -/
def DSP_APPLY (i : Nat) : Nat := 0x1C0028 + 0x8000 * i
/-- DSP_BEAM (R166, 07_display_outputs). -/
def DSP_BEAM (i : Nat) : Nat := 0x1C002C + 0x8000 * i
/-- DSP_LAG (R166, 07_display_outputs). -/
def DSP_LAG (i : Nat) : Nat := 0x1C0030 + 0x8000 * i
/-- DSP_LAG_MAX (R166, 07_display_outputs). -/
def DSP_LAG_MAX (i : Nat) : Nat := 0x1C0034 + 0x8000 * i
/-- DSP_CNT (R166, 07_display_outputs). -/
def DSP_CNT (i : Nat) : Nat := 0x1C0038 + 0x8000 * i
/-- DSP_ERR_CNT (R166, 07_display_outputs). -/
def DSP_ERR_CNT (i : Nat) : Nat := 0x1C003C + 0x8000 * i
/-- DSP_STAT (R166, 07_display_outputs). -/
def DSP_STAT (i : Nat) : Nat := 0x1C0040 + 0x8000 * i
/-- DSP_INT_EN (R166, 07_display_outputs). -/
def DSP_INT_EN (i : Nat) : Nat := 0x1C0044 + 0x8000 * i
/-- DIG_CTRL (R179, 08_digest_and_recall). -/
def DIG_CTRL (i : Nat) : Nat := 0x1E0000 + 0x8000 * i
/-- DIG_STAT (R179, 08_digest_and_recall). -/
def DIG_STAT (i : Nat) : Nat := 0x1E0004 + 0x8000 * i
/-- DIG_LAST (R179, 08_digest_and_recall). -/
def DIG_LAST (i : Nat) : Nat := 0x1E0008 + 0x8000 * i
/-- DIG_EXP_BASE (R179, 08_digest_and_recall). -/
def DIG_EXP_BASE (i : Nat) : Nat := 0x1E000C + 0x8000 * i
/-- DIG_EXP_FIRST (R179, 08_digest_and_recall). -/
def DIG_EXP_FIRST (i : Nat) : Nat := 0x1E0010 + 0x8000 * i
/-- DIG_EXP_COUNT (R179, 08_digest_and_recall). -/
def DIG_EXP_COUNT (i : Nat) : Nat := 0x1E0014 + 0x8000 * i
/-- DIG_DUMP_BASE (R179, 08_digest_and_recall). -/
def DIG_DUMP_BASE (i : Nat) : Nat := 0x1E0018 + 0x8000 * i
/-- DIG_RESULT (R179, 08_digest_and_recall). -/
def DIG_RESULT (i : Nat) : Nat := 0x1E001C + 0x8000 * i
/-- DIG_MISS_FRAME (R179, 08_digest_and_recall). -/
def DIG_MISS_FRAME (i : Nat) : Nat := 0x1E0020 + 0x8000 * i
/-- DIG_INT_EN (R179, 08_digest_and_recall). -/
def DIG_INT_EN (i : Nat) : Nat := 0x1E0024 + 0x8000 * i
/-- KTL_CTRL (R223, 10_audio). -/
def KTL_CTRL : Nat := 0x200000
/-- KTL_CUE_BASE (R223, 10_audio). -/
def KTL_CUE_BASE : Nat := 0x200004
/-- KTL_SND (R223, 10_audio). -/
def KTL_SND : Nat := 0x200008
/-- KTL_SAMPLE (R223, 10_audio). -/
def KTL_SAMPLE : Nat := 0x20000C
/-- KTL_CUE_POS (R223, 10_audio). -/
def KTL_CUE_POS : Nat := 0x200010
/-- KTL_PROBE_AT (R223, 10_audio). -/
def KTL_PROBE_AT : Nat := 0x200014
/-- KTL_ACTIVE (R223, 10_audio). -/
def KTL_ACTIVE : Nat := 0x200018
/-- KTL_STAT (R223, 10_audio). -/
def KTL_STAT : Nat := 0x20001C
/-- KTL_CNT (R223, 10_audio). -/
def KTL_CNT : Nat := 0x200020
/-- KTL_INT_EN (R223, 10_audio). -/
def KTL_INT_EN : Nat := 0x200024
/-- KTL_TDM (R223, 10_audio). -/
def KTL_TDM : Nat := 0x200028
/-- KTL_PROBE_CTRL (R223, 10_audio). -/
def KTL_PROBE_CTRL : Nat := 0x20002C
/-- KTL_PROBE_VAL (R223, 10_audio). -/
def KTL_PROBE_VAL : Nat := 0x200030
/-- KTL_FX_CFG (R223, 10_audio). -/
def KTL_FX_CFG (i : Nat) : Nat := 0x200040 + 0x4 * i
/-- KTL_FX_DONE (R223, 10_audio). -/
def KTL_FX_DONE (i : Nat) : Nat := 0x200048 + 0x4 * i
/-- KTL_BUS (R223, 10_audio). -/
def KTL_BUS (i : Nat) : Nat := 0x200100 + 0x4 * i
/-- KTL_OUT (R223, 10_audio). -/
def KTL_OUT (i : Nat) : Nat := 0x200200 + 0x4 * i
/-- KTL_IN (R223, 10_audio). -/
def KTL_IN (i : Nat) : Nat := 0x200280 + 0x4 * i
/-- AAS_CD (R224, 10_audio). -/
def AAS_CD (i : Nat) : Nat := 0x240000 + 0x4 * i
/-- AAS_MIC (R224, 10_audio). -/
def AAS_MIC (i : Nat) : Nat := 0x240040 + 0x4 * i
/-- AAS_CAL_REQ (R224, 10_audio). -/
def AAS_CAL_REQ : Nat := 0x240080
/-- AAS_CAL_DONE (R224, 10_audio). -/
def AAS_CAL_DONE : Nat := 0x240084
/-- AAS_CD_RPT (R224, 10_audio). -/
def AAS_CD_RPT (i : Nat) : Nat := 0x240100 + 0x4 * i
/-- AAS_MIC_RPT (R224, 10_audio). -/
def AAS_MIC_RPT (i : Nat) : Nat := 0x240140 + 0x4 * i
/-- AAS_STAT (R224, 10_audio). -/
def AAS_STAT : Nat := 0x240200
/-- AAS_INT_EN (R224, 10_audio). -/
def AAS_INT_EN : Nat := 0x240204
/-- CFG_CAPS (R364, 17_startup_and_configuration). -/
def CFG_CAPS : Nat := 0x3F0000
/-- CFG_STAT (R364, 17_startup_and_configuration). -/
def CFG_STAT : Nat := 0x3F0004
/-- CFG_STOP (R364, 17_startup_and_configuration). -/
def CFG_STOP : Nat := 0x3F0008
/-- CFG_BOOTSET (R364, 17_startup_and_configuration). -/
def CFG_BOOTSET : Nat := 0x3F000C
/-- CFG_T_RELEASE (R364, 17_startup_and_configuration). -/
def CFG_T_RELEASE : Nat := 0x3F0010
/-- CFG_SVN (R364, 17_startup_and_configuration). -/
def CFG_SVN : Nat := 0x3F0014
/-- CFG_MDIGEST (R364, 17_startup_and_configuration). -/
def CFG_MDIGEST (i : Nat) : Nat := 0x3F0020 + 0x4 * i
/-- CFG_SPARGE_CFG (R364, 17_startup_and_configuration). -/
def CFG_SPARGE_CFG : Nat := 0x3F0040
/-- CFG_SPARGE_POS (R364, 17_startup_and_configuration). -/
def CFG_SPARGE_POS : Nat := 0x3F0044
/-- CFG_SPARGE_MISS (R364, 17_startup_and_configuration). -/
def CFG_SPARGE_MISS : Nat := 0x3F0048
/-- CFG_INT_EN (R364, 17_startup_and_configuration). -/
def CFG_INT_EN : Nat := 0x3F004C

end Sys2Proof.Machine.P
end

