-- ==== Sys2Proof/Machine/RegTable.lean ====
section
/-! DEFINITION. The register tables of the manual as rows: base port, instances, and each field
with its access type and its reset value (R8, R11). A reset value the table gives in words stands
here as 0 and is supplied by resetOf. -/
namespace Sys2Proof.Machine

/-- The access types of R8. -/
inductive Access where
  | rw | ro | wo | w1s | w1c | rc
  deriving DecidableEq, Repr

/-- One field of a register table row. -/
structure RField where
  fld : Fld
  acc : Access
  rst : Nat
  deriving DecidableEq, Repr

/-- One register: the port of its first instance, its instancing (stride and count, outermost first) and its fields. -/
structure RegSpec where
  base : Nat
  inst : List (Nat × Nat)
  fields : List RField
  deriving DecidableEq, Repr

/-- Registers of the SYS block. -/
def regsSYS : List RegSpec := [
  /- SYS_ID -/ ⟨P.SYS_ID, [], [⟨F.SYS_ID_part, .ro, 0x7140⟩, ⟨F.SYS_ID_step_number, .ro, 0x1⟩, ⟨F.SYS_ID_step_letter, .ro, 0x2⟩]⟩,
  /- SYS_TILT_REQ -/ ⟨P.SYS_TILT_REQ, [], [⟨F.SYS_TILT_REQ_cause, .wo, 0x0⟩]⟩,
  /- SYS_TILT -/ ⟨P.SYS_TILT, [], [⟨F.SYS_TILT_tilted, .ro, 0x0⟩]⟩,
  /- SYS_LST_REQ -/ ⟨P.SYS_LST_REQ, [], [⟨F.SYS_LST_REQ_core, .w1s, 0x0⟩, ⟨F.SYS_LST_REQ_cluster, .w1s, 0x0⟩, ⟨F.SYS_LST_REQ_other, .w1s, 0x0⟩]⟩,
  /- SYS_LST_DONE -/ ⟨P.SYS_LST_DONE, [], [⟨F.SYS_LST_DONE_done, .w1c, 0x0⟩]⟩,
  /- SYS_LST_STAT -/ ⟨P.SYS_LST_STAT, [], [⟨F.SYS_LST_STAT_running, .ro, 0x1F⟩]⟩,
  /- SYS_MBIST_CTRL -/ ⟨P.SYS_MBIST_CTRL, [], [⟨F.SYS_MBIST_CTRL_mram, .w1s, 0x0⟩, ⟨F.SYS_MBIST_CTRL_dram, .w1s, 0x0⟩]⟩,
  /- SYS_MBIST_BASE -/ ⟨P.SYS_MBIST_BASE, [], [⟨F.SYS_MBIST_BASE_base, .rw, 0x0⟩]⟩,
  /- SYS_MBIST_SIZE -/ ⟨P.SYS_MBIST_SIZE, [], [⟨F.SYS_MBIST_SIZE_pages, .rw, 0x0⟩]⟩,
  /- SYS_MBIST_STAT -/ ⟨P.SYS_MBIST_STAT, [], [⟨F.SYS_MBIST_STAT_retired, .rc, 0x0⟩, ⟨F.SYS_MBIST_STAT_dram_fail, .w1c, 0x0⟩, ⟨F.SYS_MBIST_STAT_page, .ro, 0x0⟩]⟩,
  /- SYS_CORE_CTRL -/ ⟨P.SYS_CORE_CTRL 0, [(0x100, 10)], [⟨F.SYS_CORE_CTRL_run, .rw, 0x0⟩, ⟨F.SYS_CORE_CTRL_reset, .w1s, 0x0⟩, ⟨F.SYS_CORE_CTRL_ugpio, .rw, 0x0⟩, ⟨F.SYS_CORE_CTRL_halted, .ro, 0x0⟩, ⟨F.SYS_CORE_CTRL_stopped, .ro, 0x1⟩, ⟨F.SYS_CORE_CTRL_in_debug, .ro, 0x0⟩]⟩,
  /- SYS_CORE_ENTRY -/ ⟨P.SYS_CORE_ENTRY 0, [(0x100, 10)], [⟨F.SYS_CORE_ENTRY_entry, .rw, 0x0⟩]⟩,
  /- SYS_VBASE -/ ⟨P.SYS_VBASE 0, [(0x100, 10)], [⟨F.SYS_VBASE_base, .rw, 0x0⟩]⟩,
  /- SYS_XPC -/ ⟨P.SYS_XPC 0, [(0x100, 10)], [⟨F.SYS_XPC_value, .rw, 0x0⟩]⟩,
  /- SYS_XSR -/ ⟨P.SYS_XSR 0, [(0x100, 10)], [⟨F.SYS_XSR_value, .rw, 0x0⟩]⟩,
  /- SYS_XCAUSE -/ ⟨P.SYS_XCAUSE 0, [(0x100, 10)], [⟨F.SYS_XCAUSE_cause, .ro, 0x0⟩]⟩]

/-- Registers of the SYS block. -/
def regsSYS1 : List RegSpec := [
  /- SYS_XADDR_LO -/ ⟨P.SYS_XADDR_LO 0, [(0x100, 10)], [⟨F.SYS_XADDR_LO_addr, .ro, 0x0⟩]⟩,
  /- SYS_XADDR_HI -/ ⟨P.SYS_XADDR_HI 0, [(0x100, 10)], [⟨F.SYS_XADDR_HI_addr, .ro, 0x0⟩]⟩,
  /- SYS_CMO_LO -/ ⟨P.SYS_CMO_LO 0, [(0x100, 10)], [⟨F.SYS_CMO_LO_addr, .rw, 0x0⟩]⟩,
  /- SYS_CMO_HI -/ ⟨P.SYS_CMO_HI 0, [(0x100, 10)], [⟨F.SYS_CMO_HI_addr, .rw, 0x0⟩]⟩,
  /- SYS_CMO_SIZE -/ ⟨P.SYS_CMO_SIZE 0, [(0x100, 10)], [⟨F.SYS_CMO_SIZE_lines, .rw, 0x0⟩]⟩,
  /- SYS_CMO_CTRL -/ ⟨P.SYS_CMO_CTRL 0, [(0x100, 10)], [⟨F.SYS_CMO_CTRL_op, .rw, 0x0⟩, ⟨F.SYS_CMO_CTRL_busy, .ro, 0x0⟩, ⟨F.SYS_CMO_CTRL_dirty, .ro, 0x0⟩, ⟨F.SYS_CMO_CTRL_start, .w1s, 0x0⟩]⟩,
  /- SYS_TILT_LAST -/ ⟨P.SYS_TILT_LAST, [], [⟨F.SYS_TILT_LAST_code, .ro, 0x0⟩, ⟨F.SYS_TILT_LAST_raster, .ro, 0x0⟩, ⟨F.SYS_TILT_LAST_logged, .ro, 0x0⟩]⟩,
  /- SYS_TILT_TIME_LO -/ ⟨P.SYS_TILT_TIME_LO, [], [⟨F.SYS_TILT_TIME_LO_time, .ro, 0x0⟩]⟩,
  /- SYS_TILT_TIME_HI -/ ⟨P.SYS_TILT_TIME_HI, [], [⟨F.SYS_TILT_TIME_HI_time, .ro, 0x0⟩]⟩,
  /- SYS_TILT_CNT -/ ⟨P.SYS_TILT_CNT, [], [⟨F.SYS_TILT_CNT_later, .rc, 0x0⟩]⟩]

/-- Registers of the PWR block. -/
def regsPWR : List RegSpec := [
  /- PWR_STAT -/ ⟨P.PWR_STAT, [], [⟨F.PWR_STAT_refused, .w1c, 0x0⟩, ⟨F.PWR_STAT_dom_done, .w1c, 0x0⟩, ⟨F.PWR_STAT_eclipse_refused, .w1c, 0x0⟩, ⟨F.PWR_STAT_refuse_cause, .ro, 0x0⟩]⟩,
  /- PWR_INT_EN -/ ⟨P.PWR_INT_EN, [], [⟨F.PWR_INT_EN_enable, .rw, 0x0⟩]⟩,
  /- PWR_DOM_REQ0 -/ ⟨P.PWR_DOM_REQ0, [], [⟨F.PWR_DOM_REQ0_on, .rw, 0xFFFFFFFF⟩]⟩,
  /- PWR_DOM_REQ1 -/ ⟨P.PWR_DOM_REQ1, [], [⟨F.PWR_DOM_REQ1_on, .rw, 0x17⟩]⟩,
  /- PWR_DOM_STAT0 -/ ⟨P.PWR_DOM_STAT0, [], [⟨F.PWR_DOM_STAT0_on, .ro, 0x0⟩]⟩,
  /- PWR_DOM_STAT1 -/ ⟨P.PWR_DOM_STAT1, [], [⟨F.PWR_DOM_STAT1_on, .ro, 0x0⟩]⟩,
  /- PWR_DOZE_EN -/ ⟨P.PWR_DOZE_EN, [], [⟨F.PWR_DOZE_EN_cpu, .rw, 0x0⟩, ⟨F.PWR_DOZE_EN_comp, .rw, 0x0⟩, ⟨F.PWR_DOZE_EN_audio, .rw, 0x0⟩, ⟨F.PWR_DOZE_EN_mem, .rw, 0x0⟩]⟩,
  /- PWR_PLL -/ ⟨P.PWR_PLL, [], [⟨F.PWR_PLL_locked, .ro, 0x0⟩, ⟨F.PWR_PLL_link, .ro, 0x0⟩]⟩,
  /- PWR_CMD -/ ⟨P.PWR_CMD, [], [⟨F.PWR_CMD_eclipse, .wo, 0x0⟩, ⟨F.PWR_CMD_reset, .wo, 0x0⟩]⟩,
  /- PWR_RESET_CAUSE -/ ⟨P.PWR_RESET_CAUSE, [], [⟨F.PWR_RESET_CAUSE_cause, .ro, 0x1⟩, ⟨F.PWR_RESET_CAUSE_rail, .ro, 0x0⟩, ⟨F.PWR_RESET_CAUSE_wake, .ro, 0x0⟩, ⟨F.PWR_RESET_CAUSE_rtc_invalid, .ro, 0x0⟩, ⟨F.PWR_RESET_CAUSE_vbat_low_seen, .ro, 0x0⟩]⟩,
  /- PWR_RTC_LO -/ ⟨P.PWR_RTC_LO, [], [⟨F.PWR_RTC_LO_count, .ro, 0x0⟩]⟩,
  /- PWR_RTC_HI -/ ⟨P.PWR_RTC_HI, [], [⟨F.PWR_RTC_HI_count, .ro, 0x0⟩]⟩,
  /- PWR_UP_LO -/ ⟨P.PWR_UP_LO, [], [⟨F.PWR_UP_LO_count, .ro, 0x0⟩]⟩,
  /- PWR_UP_HI -/ ⟨P.PWR_UP_HI, [], [⟨F.PWR_UP_HI_count, .ro, 0x0⟩]⟩,
  /- PWR_ALARM_LO -/ ⟨P.PWR_ALARM_LO, [], [⟨F.PWR_ALARM_LO_alarm, .rw, 0x0⟩]⟩,
  /- PWR_ALARM_HI -/ ⟨P.PWR_ALARM_HI, [], [⟨F.PWR_ALARM_HI_alarm, .rw, 0x0⟩]⟩]

/-- Registers of the PWR block. -/
def regsPWR1 : List RegSpec := [
  /- PWR_WAKE_EN -/ ⟨P.PWR_WAKE_EN, [], [⟨F.PWR_WAKE_EN_alarm_en, .rw, 0x0⟩, ⟨F.PWR_WAKE_EN_wake_alarm, .rw, 0x0⟩, ⟨F.PWR_WAKE_EN_wake_door, .rw, 0x1⟩, ⟨F.PWR_WAKE_EN_wake_gpio, .rw, 0x0⟩, ⟨F.PWR_WAKE_EN_wake_pin, .rw, 0x1⟩]⟩,
  /- PWR_RTC_SET_LO -/ ⟨P.PWR_RTC_SET_LO, [], [⟨F.PWR_RTC_SET_LO_time, .wo, 0x0⟩]⟩,
  /- PWR_RTC_SET_HI -/ ⟨P.PWR_RTC_SET_HI, [], [⟨F.PWR_RTC_SET_HI_time, .wo, 0x0⟩]⟩]

/-- Registers of the MON block. -/
def regsMON : List RegSpec := [
  /- MON_STAT -/ ⟨P.MON_STAT, [], [⟨F.MON_STAT_core_ok, .ro, 0x0⟩, ⟨F.MON_STAT_vio_ok, .ro, 0x0⟩, ⟨F.MON_STAT_vddq_ok, .ro, 0x0⟩, ⟨F.MON_STAT_core_warn, .w1c, 0x0⟩, ⟨F.MON_STAT_vio_warn, .w1c, 0x0⟩, ⟨F.MON_STAT_vddq_warn, .w1c, 0x0⟩, ⟨F.MON_STAT_hold, .ro, 0x0⟩, ⟨F.MON_STAT_vbat_low, .ro, 0x0⟩, ⟨F.MON_STAT_on_vbat, .ro, 0x0⟩]⟩,
  /- MON_CFG -/ ⟨P.MON_CFG, [], [⟨F.MON_CFG_hold, .rw, 0x148⟩]⟩,
  /- MON_CNT -/ ⟨P.MON_CNT, [], [⟨F.MON_CNT_core, .rc, 0x0⟩, ⟨F.MON_CNT_vio, .rc, 0x0⟩, ⟨F.MON_CNT_vddq, .rc, 0x0⟩]⟩]

/-- Registers of the INT block. -/
def regsINT : List RegSpec := [
  /- INT_SRC_CFG -/ ⟨P.INT_SRC_CFG 0, [(0x4, 512)], [⟨F.INT_SRC_CFG_prio, .rw, 0x0⟩, ⟨F.INT_SRC_CFG_target, .rw, 0x0⟩, ⟨F.INT_SRC_CFG_moderate, .rw, 0x0⟩, ⟨F.INT_SRC_CFG_edge, .ro, 0x0⟩, ⟨F.INT_SRC_CFG_async, .ro, 0x0⟩]⟩,
  /- INT_PRIV_CFG -/ ⟨P.INT_PRIV_CFG 0 0, [(0x80, 10), (0x4, 32)], [⟨F.INT_PRIV_CFG_prio, .rw, 0x0⟩, ⟨F.INT_PRIV_CFG_moderate, .rw, 0x0⟩, ⟨F.INT_PRIV_CFG_target, .ro, 0x0⟩, ⟨F.INT_PRIV_CFG_edge, .ro, 0x0⟩, ⟨F.INT_PRIV_CFG_async, .ro, 0x0⟩]⟩,
  /- INT_PEND_SET -/ ⟨P.INT_PEND_SET 0, [(0x4, 16)], [⟨F.INT_PEND_SET_bits, .w1s, 0x0⟩]⟩,
  /- INT_PEND_CLR -/ ⟨P.INT_PEND_CLR 0, [(0x4, 16)], [⟨F.INT_PEND_CLR_bits, .w1c, 0x0⟩]⟩,
  /- INT_EN_SET -/ ⟨P.INT_EN_SET 0, [(0x4, 16)], [⟨F.INT_EN_SET_bits, .w1s, 0x0⟩]⟩,
  /- INT_EN_CLR -/ ⟨P.INT_EN_CLR 0, [(0x4, 16)], [⟨F.INT_EN_CLR_bits, .w1c, 0x0⟩]⟩,
  /- INT_ACTIVE -/ ⟨P.INT_ACTIVE 0, [(0x4, 16)], [⟨F.INT_ACTIVE_bits, .ro, 0x0⟩]⟩,
  /- INT_CLAIM -/ ⟨P.INT_CLAIM, [], [⟨F.INT_CLAIM_source, .ro, 0x0⟩, ⟨F.INT_CLAIM_prio, .ro, 0x0⟩, ⟨F.INT_CLAIM_none, .ro, 0x0⟩]⟩,
  /- INT_COMPLETE -/ ⟨P.INT_COMPLETE, [], [⟨F.INT_COMPLETE_source, .wo, 0x0⟩]⟩,
  /- INT_THR -/ ⟨P.INT_THR, [], [⟨F.INT_THR_thr, .rw, 0x0⟩]⟩,
  /- INT_RUNPRI -/ ⟨P.INT_RUNPRI, [], [⟨F.INT_RUNPRI_run, .ro, 0x0⟩, ⟨F.INT_RUNPRI_pres, .ro, 0x0⟩, ⟨F.INT_RUNPRI_presenting, .ro, 0x0⟩]⟩,
  /- INT_MOD -/ ⟨P.INT_MOD, [], [⟨F.INT_MOD_interval, .rw, 0x0⟩]⟩,
  /- INT_STAT -/ ⟨P.INT_STAT, [], [⟨F.INT_STAT_bad_complete, .w1c, 0x0⟩]⟩,
  /- INT_DOORBELL -/ ⟨P.INT_DOORBELL, [], [⟨F.INT_DOORBELL_bell, .wo, 0x0⟩, ⟨F.INT_DOORBELL_core, .wo, 0x0⟩]⟩,
  /- INT_EDGE_SEL -/ ⟨P.INT_EDGE_SEL 0, [(0x4, 8)], [⟨F.INT_EDGE_SEL_sel, .rw, 0x55555555⟩]⟩]

/-- Registers of the TMR block. -/
def regsTMR : List RegSpec := [
  /- TMR_CTRL -/ ⟨P.TMR_CTRL 0, [(0x40, 16)], [⟨F.TMR_CTRL_run, .rw, 0x0⟩, ⟨F.TMR_CTRL_mode, .rw, 0x0⟩, ⟨F.TMR_CTRL_prescale, .rw, 0x0⟩, ⟨F.TMR_CTRL_out_mode, .rw, 0x0⟩, ⟨F.TMR_CTRL_dma_sel, .rw, 0x0⟩]⟩,
  /- TMR_TOP_LO -/ ⟨P.TMR_TOP_LO 0, [(0x40, 16)], [⟨F.TMR_TOP_LO_low, .rw, 0xFFFFFFFF⟩]⟩,
  /- TMR_TOP_HI -/ ⟨P.TMR_TOP_HI 0, [(0x40, 16)], [⟨F.TMR_TOP_HI_high, .rw, 0xFFFF⟩]⟩,
  /- TMR_CMP_LO -/ ⟨P.TMR_CMP_LO 0, [(0x40, 16)], [⟨F.TMR_CMP_LO_low, .rw, 0xFFFFFFFF⟩]⟩,
  /- TMR_CMP_HI -/ ⟨P.TMR_CMP_HI 0, [(0x40, 16)], [⟨F.TMR_CMP_HI_high, .rw, 0xFFFF⟩]⟩,
  /- TMR_CMD -/ ⟨P.TMR_CMD 0, [(0x40, 16)], [⟨F.TMR_CMD_snap, .wo, 0x0⟩, ⟨F.TMR_CMD_clear, .wo, 0x0⟩, ⟨F.TMR_CMD_out_set, .wo, 0x0⟩, ⟨F.TMR_CMD_out_clr, .wo, 0x0⟩]⟩,
  /- TMR_SNAP_LO -/ ⟨P.TMR_SNAP_LO 0, [(0x40, 16)], [⟨F.TMR_SNAP_LO_count, .ro, 0x0⟩]⟩,
  /- TMR_SNAP_HI -/ ⟨P.TMR_SNAP_HI 0, [(0x40, 16)], [⟨F.TMR_SNAP_HI_count, .ro, 0x0⟩]⟩,
  /- TMR_CAPCTRL -/ ⟨P.TMR_CAPCTRL 0, [(0x40, 16)], [⟨F.TMR_CAPCTRL_rise, .rw, 0x0⟩, ⟨F.TMR_CAPCTRL_fall, .rw, 0x0⟩, ⟨F.TMR_CAPCTRL_pair, .rw, 0x0⟩, ⟨F.TMR_CAPCTRL_src, .rw, 0x0⟩, ⟨F.TMR_CAPCTRL_filt, .rw, 0x0⟩]⟩,
  /- TMR_CAPR_LO -/ ⟨P.TMR_CAPR_LO 0, [(0x40, 16)], [⟨F.TMR_CAPR_LO_count, .ro, 0x0⟩]⟩,
  /- TMR_CAPR_HI -/ ⟨P.TMR_CAPR_HI 0, [(0x40, 16)], [⟨F.TMR_CAPR_HI_count, .ro, 0x0⟩]⟩,
  /- TMR_CAPF_LO -/ ⟨P.TMR_CAPF_LO 0, [(0x40, 16)], [⟨F.TMR_CAPF_LO_count, .ro, 0x0⟩]⟩,
  /- TMR_CAPF_HI -/ ⟨P.TMR_CAPF_HI 0, [(0x40, 16)], [⟨F.TMR_CAPF_HI_count, .ro, 0x0⟩]⟩,
  /- TMR_WIDTH -/ ⟨P.TMR_WIDTH 0, [(0x40, 16)], [⟨F.TMR_WIDTH_ticks, .ro, 0x0⟩]⟩,
  /- TMR_STAT -/ ⟨P.TMR_STAT 0, [(0x40, 16)], [⟨F.TMR_STAT_match, .w1c, 0x0⟩, ⟨F.TMR_STAT_wrap, .w1c, 0x0⟩, ⟨F.TMR_STAT_capr, .w1c, 0x0⟩, ⟨F.TMR_STAT_capf, .w1c, 0x0⟩, ⟨F.TMR_STAT_ovr, .w1c, 0x0⟩, ⟨F.TMR_STAT_down, .ro, 0x0⟩, ⟨F.TMR_STAT_out, .ro, 0x0⟩]⟩,
  /- TMR_INT_EN -/ ⟨P.TMR_INT_EN 0, [(0x40, 16)], [⟨F.TMR_INT_EN_enable, .rw, 0x0⟩]⟩]

/-- Registers of the PMC block. -/
def regsPMC : List RegSpec := [
  /- PMC_CTRL -/ ⟨P.PMC_CTRL, [], [⟨F.PMC_CTRL_enable, .rw, 0x0⟩, ⟨F.PMC_CTRL_user_rd, .rw, 0x0⟩, ⟨F.PMC_CTRL_clear, .wo, 0x0⟩]⟩,
  /- PMC_OVF0 -/ ⟨P.PMC_OVF0, [], [⟨F.PMC_OVF0_bits, .w1c, 0x0⟩]⟩,
  /- PMC_OVF1 -/ ⟨P.PMC_OVF1, [], [⟨F.PMC_OVF1_bits, .w1c, 0x0⟩]⟩,
  /- PMC_OVF_EN0 -/ ⟨P.PMC_OVF_EN0, [], [⟨F.PMC_OVF_EN0_bits, .rw, 0x0⟩]⟩,
  /- PMC_OVF_EN1 -/ ⟨P.PMC_OVF_EN1, [], [⟨F.PMC_OVF_EN1_bits, .rw, 0x0⟩]⟩,
  /- PMC_HOLD -/ ⟨P.PMC_HOLD, [], [⟨F.PMC_HOLD_high, .ro, 0x0⟩]⟩,
  /- PMC_CFG -/ ⟨P.PMC_CFG 0, [(0x4, 64)], [⟨F.PMC_CFG_event, .rw, 0x0⟩, ⟨F.PMC_CFG_core, .rw, 0x0⟩, ⟨F.PMC_CFG_en, .rw, 0x0⟩, ⟨F.PMC_CFG_chain, .rw, 0x0⟩]⟩,
  /- PMC_VAL -/ ⟨P.PMC_VAL 0, [(0x4, 64)], [⟨F.PMC_VAL_count, .rw, 0x0⟩]⟩,
  /- PMC_HIST_CFG -/ ⟨P.PMC_HIST_CFG 0, [(0x80, 4)], [⟨F.PMC_HIST_CFG_req, .rw, 0x0⟩, ⟨F.PMC_HIST_CFG_ch_mask, .rw, 0x0⟩, ⟨F.PMC_HIST_CFG_shift, .rw, 0x0⟩, ⟨F.PMC_HIST_CFG_en, .rw, 0x0⟩, ⟨F.PMC_HIST_CFG_clear, .wo, 0x0⟩]⟩,
  /- PMC_HIST_BIN -/ ⟨P.PMC_HIST_BIN 0 0, [(0x80, 4), (0x4, 16)], [⟨F.PMC_HIST_BIN_count, .ro, 0x0⟩]⟩]

/-- Registers of the MEM block. -/
def regsMEM : List RegSpec := [
  /- MEM_CFG -/ ⟨P.MEM_CFG, [], [⟨F.MEM_CFG_channels, .rw, 0x0⟩, ⟨F.MEM_CFG_density, .rw, 0x0⟩, ⟨F.MEM_CFG_rate, .rw, 0x0⟩, ⟨F.MEM_CFG_locked, .w1s, 0x0⟩]⟩,
  /- MEM_STAT -/ ⟨P.MEM_STAT, [], [⟨F.MEM_STAT_ch_ready, .ro, 0x0⟩, ⟨F.MEM_STAT_init_done, .ro, 0x0⟩]⟩,
  /- MEM_ARB_CFG -/ ⟨P.MEM_ARB_CFG, [], [⟨F.MEM_ARB_CFG_n, .rw, 0x10⟩]⟩,
  /- MEM_WDOG -/ ⟨P.MEM_WDOG, [], [⟨F.MEM_WDOG_limit, .rw, 0x1000⟩]⟩,
  /- MEM_ARB_STAT -/ ⟨P.MEM_ARB_STAT 0, [(0x4, 4)], [⟨F.MEM_ARB_STAT_last_id, .ro, 0x0⟩, ⟨F.MEM_ARB_STAT_lock_owner, .ro, 0x1F⟩, ⟨F.MEM_ARB_STAT_locked, .ro, 0x0⟩, ⟨F.MEM_ARB_STAT_grant_count, .ro, 0x0⟩]⟩,
  /- MEM_RANK -/ ⟨P.MEM_RANK 0, [(0x4, 17)], [⟨F.MEM_RANK_rank, .rw, 0x0⟩, ⟨F.MEM_RANK_applied_rank, .ro, 0x0⟩, ⟨F.MEM_RANK_urgent, .ro, 0x0⟩, ⟨F.MEM_RANK_pending, .ro, 0x0⟩]⟩,
  /- MEM_LTR_D -/ ⟨P.MEM_LTR_D 0, [(0x4, 4)], [⟨F.MEM_LTR_D_tolerance, .ro, 0xFFFF⟩]⟩,
  /- MEM_LTR_KTL -/ ⟨P.MEM_LTR_KTL, [], [⟨F.MEM_LTR_KTL_tolerance, .ro, 0xFFFF⟩]⟩,
  /- MEM_LTR_SW -/ ⟨P.MEM_LTR_SW, [], [⟨F.MEM_LTR_SW_tolerance, .rw, 0x0⟩]⟩,
  /- MEM_SR_CFG -/ ⟨P.MEM_SR_CFG, [], [⟨F.MEM_SR_CFG_enable, .rw, 0x0⟩, ⟨F.MEM_SR_CFG_hold, .rw, 0xA⟩]⟩,
  /- MEM_SR_EXIT -/ ⟨P.MEM_SR_EXIT, [], [⟨F.MEM_SR_EXIT_exit, .ro, 0x1D⟩]⟩,
  /- MEM_SR_STAT -/ ⟨P.MEM_SR_STAT, [], [⟨F.MEM_SR_STAT_in_sr, .ro, 0x0⟩, ⟨F.MEM_SR_STAT_entries, .rc, 0x0⟩]⟩,
  /- MEM_ECC_STAT -/ ⟨P.MEM_ECC_STAT, [], [⟨F.MEM_ECC_STAT_dram_ce, .rc, 0x0⟩, ⟨F.MEM_ECC_STAT_sram_ce, .rc, 0x0⟩, ⟨F.MEM_ECC_STAT_dram_retry, .rc, 0x0⟩]⟩,
  /- MEM_ECC_ADDR_LO -/ ⟨P.MEM_ECC_ADDR_LO, [], [⟨F.MEM_ECC_ADDR_LO_addr_lo, .ro, 0x0⟩]⟩,
  /- MEM_ECC_ADDR_HI -/ ⟨P.MEM_ECC_ADDR_HI, [], [⟨F.MEM_ECC_ADDR_HI_addr_hi, .ro, 0x0⟩, ⟨F.MEM_ECC_ADDR_HI_in_sram, .ro, 0x0⟩]⟩,
  /- MEM_INT_STAT -/ ⟨P.MEM_INT_STAT, [], [⟨F.MEM_INT_STAT_dram_ce, .w1c, 0x0⟩, ⟨F.MEM_INT_STAT_dram_retry, .w1c, 0x0⟩, ⟨F.MEM_INT_STAT_sram_ce, .w1c, 0x0⟩, ⟨F.MEM_INT_STAT_sram_refetch, .w1c, 0x0⟩, ⟨F.MEM_INT_STAT_wdog, .w1c, 0x0⟩]⟩]

/-- Registers of the MEM block. -/
def regsMEM1 : List RegSpec := [
  /- MEM_INT_EN -/ ⟨P.MEM_INT_EN, [], [⟨F.MEM_INT_EN_enable, .rw, 0x0⟩]⟩]

/-- Registers of the DMA block. -/
def regsDMA : List RegSpec := [
  /- DMA_CH_CTRL -/ ⟨P.DMA_CH_CTRL 0, [(0x40, 32)], [⟨F.DMA_CH_CTRL_run, .rw, 0x0⟩]⟩,
  /- DMA_CH_PROG_LO -/ ⟨P.DMA_CH_PROG_LO 0, [(0x40, 32)], [⟨F.DMA_CH_PROG_LO_addr, .rw, 0x0⟩]⟩,
  /- DMA_CH_PROG_HI -/ ⟨P.DMA_CH_PROG_HI 0, [(0x40, 32)], [⟨F.DMA_CH_PROG_HI_addr, .rw, 0x0⟩]⟩,
  /- DMA_CH_SRC_LO -/ ⟨P.DMA_CH_SRC_LO 0, [(0x40, 32)], [⟨F.DMA_CH_SRC_LO_addr, .rw, 0x0⟩]⟩,
  /- DMA_CH_SRC_HI -/ ⟨P.DMA_CH_SRC_HI 0, [(0x40, 32)], [⟨F.DMA_CH_SRC_HI_addr, .rw, 0x0⟩]⟩,
  /- DMA_CH_DST_LO -/ ⟨P.DMA_CH_DST_LO 0, [(0x40, 32)], [⟨F.DMA_CH_DST_LO_addr, .rw, 0x0⟩]⟩,
  /- DMA_CH_DST_HI -/ ⟨P.DMA_CH_DST_HI 0, [(0x40, 32)], [⟨F.DMA_CH_DST_HI_addr, .rw, 0x0⟩]⟩,
  /- DMA_CH_FIFO -/ ⟨P.DMA_CH_FIFO 0, [(0x40, 32)], [⟨F.DMA_CH_FIFO_base, .rw, 0x0⟩, ⟨F.DMA_CH_FIFO_size, .rw, 0x0⟩]⟩,
  /- DMA_CH_RATE -/ ⟨P.DMA_CH_RATE 0, [(0x40, 32)], [⟨F.DMA_CH_RATE_limit, .rw, 0x0⟩]⟩,
  /- DMA_CH_PC -/ ⟨P.DMA_CH_PC 0, [(0x40, 32)], [⟨F.DMA_CH_PC_index, .ro, 0x0⟩, ⟨F.DMA_CH_PC_depth, .ro, 0x0⟩]⟩,
  /- DMA_CH_STAT -/ ⟨P.DMA_CH_STAT 0, [(0x40, 32)], [⟨F.DMA_CH_STAT_state, .ro, 0x0⟩, ⟨F.DMA_CH_STAT_done, .w1c, 0x0⟩, ⟨F.DMA_CH_STAT_sig, .w1c, 0x0⟩, ⟨F.DMA_CH_STAT_err, .w1c, 0x0⟩, ⟨F.DMA_CH_STAT_err_code, .ro, 0x0⟩]⟩,
  /- DMA_CH_INT_EN -/ ⟨P.DMA_CH_INT_EN 0, [(0x40, 32)], [⟨F.DMA_CH_INT_EN_enable, .rw, 0x0⟩]⟩,
  /- DMA_EVENT_SET -/ ⟨P.DMA_EVENT_SET 0, [(0x4, 2)], [⟨F.DMA_EVENT_SET_flags, .w1s, 0x0⟩]⟩,
  /- DMA_EVENT_CLR -/ ⟨P.DMA_EVENT_CLR 0, [(0x4, 2)], [⟨F.DMA_EVENT_CLR_flags, .w1c, 0x0⟩]⟩,
  /- DMA_ERR_SUM -/ ⟨P.DMA_ERR_SUM, [], [⟨F.DMA_ERR_SUM_chan, .ro, 0x0⟩]⟩]

/-- Registers of the BLT block. -/
def regsBLT : List RegSpec := [
  /- BLT_CTRL -/ ⟨P.BLT_CTRL, [], [⟨F.BLT_CTRL_run, .rw, 0x0⟩]⟩,
  /- BLT_RING_BASE -/ ⟨P.BLT_RING_BASE, [], [⟨F.BLT_RING_BASE_base, .rw, 0x0⟩]⟩,
  /- BLT_RING_SIZE -/ ⟨P.BLT_RING_SIZE, [], [⟨F.BLT_RING_SIZE_log2, .rw, 0x4⟩]⟩,
  /- BLT_HEAD -/ ⟨P.BLT_HEAD, [], [⟨F.BLT_HEAD_index, .ro, 0x0⟩]⟩,
  /- BLT_TAIL -/ ⟨P.BLT_TAIL, [], [⟨F.BLT_TAIL_index, .rw, 0x0⟩]⟩,
  /- BLT_DONE_TAG -/ ⟨P.BLT_DONE_TAG, [], [⟨F.BLT_DONE_TAG_tag, .ro, 0x0⟩]⟩,
  /- BLT_STAT -/ ⟨P.BLT_STAT, [], [⟨F.BLT_STAT_busy, .ro, 0x0⟩, ⟨F.BLT_STAT_cmd_done, .w1c, 0x0⟩, ⟨F.BLT_STAT_err, .w1c, 0x0⟩, ⟨F.BLT_STAT_err_code, .ro, 0x0⟩, ⟨F.BLT_STAT_dir, .ro, 0x0⟩]⟩,
  /- BLT_INT_EN -/ ⟨P.BLT_INT_EN, [], [⟨F.BLT_INT_EN_enable, .rw, 0x0⟩]⟩]

/-- Registers of the PIN block. -/
def regsPIN : List RegSpec := [
  /- PIN_CFG -/ ⟨P.PIN_CFG 0, [(0x4, 128)], [⟨F.PIN_CFG_oe, .rw, 0x0⟩, ⟨F.PIN_CFG_od, .rw, 0x0⟩, ⟨F.PIN_CFG_pull, .rw, 0x1⟩, ⟨F.PIN_CFG_drive, .rw, 0x0⟩, ⟨F.PIN_CFG_slow, .rw, 0x0⟩, ⟨F.PIN_CFG_cores, .rw, 0x0⟩, ⟨F.PIN_CFG_func, .ro, 0x0⟩]⟩,
  /- PIN_IN -/ ⟨P.PIN_IN 0, [(0x4, 4)], [⟨F.PIN_IN_level, .ro, 0x0⟩]⟩,
  /- PIN_DRV -/ ⟨P.PIN_DRV 0, [(0x4, 4)], [⟨F.PIN_DRV_driven, .ro, 0x0⟩]⟩,
  /- PIN_OUTV -/ ⟨P.PIN_OUTV 0, [(0x4, 4)], [⟨F.PIN_OUTV_value, .ro, 0x0⟩]⟩,
  /- PIN_BANK -/ ⟨P.PIN_BANK 0, [(0x4, 8)], [⟨F.PIN_BANK_present, .ro, 0x0⟩, ⟨F.PIN_BANK_v33, .ro, 0x0⟩]⟩,
  /- PIN_PRIV_OUT -/ ⟨P.PIN_PRIV_OUT 0, [(0x10, 4)], [⟨F.PIN_PRIV_OUT_pins, .rw, 0x0⟩]⟩,
  /- PIN_PRIV_SET -/ ⟨P.PIN_PRIV_SET 0, [(0x10, 4)], [⟨F.PIN_PRIV_SET_pins, .wo, 0x0⟩]⟩,
  /- PIN_PRIV_CLR -/ ⟨P.PIN_PRIV_CLR 0, [(0x10, 4)], [⟨F.PIN_PRIV_CLR_pins, .wo, 0x0⟩]⟩,
  /- PIN_PRIV_IN -/ ⟨P.PIN_PRIV_IN 0, [(0x10, 4)], [⟨F.PIN_PRIV_IN_pins, .ro, 0x0⟩]⟩]

/-- Registers of the HLK block. -/
def regsHLK : List RegSpec := [
  /- HLK_CTRL -/ ⟨P.HLK_CTRL 0, [(0x2000, 8)], [⟨F.HLK_CTRL_run, .rw, 0x0⟩, ⟨F.HLK_CTRL_retries, .rw, 0x1⟩, ⟨F.HLK_CTRL_lost_after, .rw, 0x4⟩, ⟨F.HLK_CTRL_crit, .rw, 0x0⟩, ⟨F.HLK_CTRL_ver_allow, .rw, 0x7⟩]⟩,
  /- HLK_PLCA -/ ⟨P.HLK_PLCA 0, [(0x2000, 8)], [⟨F.HLK_PLCA_node_count, .rw, 0x41⟩]⟩,
  /- HLK_TBL -/ ⟨P.HLK_TBL 0, [(0x2000, 8)], [⟨F.HLK_TBL_len, .rw, 0x100⟩]⟩,
  /- HLK_POS -/ ⟨P.HLK_POS 0, [(0x2000, 8)], [⟨F.HLK_POS_slot, .ro, 0x0⟩, ⟨F.HLK_POS_pass, .ro, 0x0⟩]⟩,
  /- HLK_STAT -/ ⟨P.HLK_STAT 0, [(0x2000, 8)], [⟨F.HLK_STAT_running, .ro, 0x0⟩, ⟨F.HLK_STAT_down, .ro, 0x0⟩, ⟨F.HLK_STAT_rx_avail, .ro, 0x0⟩, ⟨F.HLK_STAT_tx_done, .w1c, 0x0⟩, ⟨F.HLK_STAT_node_lost, .w1c, 0x0⟩, ⟨F.HLK_STAT_err, .w1c, 0x0⟩, ⟨F.HLK_STAT_refused, .w1c, 0x0⟩, ⟨F.HLK_STAT_down_cause, .ro, 0x0⟩]⟩,
  /- HLK_INT_EN -/ ⟨P.HLK_INT_EN 0, [(0x2000, 8)], [⟨F.HLK_INT_EN_enable, .rw, 0x0⟩]⟩,
  /- HLK_CNT -/ ⟨P.HLK_CNT 0, [(0x2000, 8)], [⟨F.HLK_CNT_polls, .rc, 0x0⟩, ⟨F.HLK_CNT_replies, .rc, 0x0⟩]⟩,
  /- HLK_ERR_CNT -/ ⟨P.HLK_ERR_CNT 0, [(0x2000, 8)], [⟨F.HLK_ERR_CNT_frame, .rc, 0x0⟩, ⟨F.HLK_ERR_CNT_miss, .rc, 0x0⟩, ⟨F.HLK_ERR_CNT_stray, .rc, 0x0⟩, ⟨F.HLK_ERR_CNT_dup, .rc, 0x0⟩]⟩,
  /- HLK_RX_HEAD -/ ⟨P.HLK_RX_HEAD 0, [(0x2000, 8)], [⟨F.HLK_RX_HEAD_cell, .ro, 0x0⟩]⟩,
  /- HLK_RX_TAIL -/ ⟨P.HLK_RX_TAIL 0, [(0x2000, 8)], [⟨F.HLK_RX_TAIL_cell, .rw, 0x0⟩]⟩,
  /- HLK_ETYPE -/ ⟨P.HLK_ETYPE 0, [(0x2000, 8)], [⟨F.HLK_ETYPE_etype, .rw, 0x88B5⟩]⟩,
  /- HLK_NODE -/ ⟨P.HLK_NODE 0 0, [(0x2000, 8), (0x4, 64)], [⟨F.HLK_NODE_state, .ro, 0x0⟩, ⟨F.HLK_NODE_version, .ro, 0x0⟩, ⟨F.HLK_NODE_credit, .ro, 0x0⟩, ⟨F.HLK_NODE_misses, .ro, 0x0⟩, ⟨F.HLK_NODE_ep_m1, .ro, 0x0⟩]⟩,
  /- HLK_TX0 -/ ⟨P.HLK_TX0 0 0, [(0x2000, 8), (0x8, 16)], [⟨F.HLK_TX0_node, .rw, 0x0⟩, ⟨F.HLK_TX0_bcast, .rw, 0x0⟩, ⟨F.HLK_TX0_endpoint, .rw, 0x0⟩, ⟨F.HLK_TX0_len, .rw, 0x0⟩, ⟨F.HLK_TX0_state, .rw, 0x0⟩]⟩,
  /- HLK_TX1 -/ ⟨P.HLK_TX1 0 0, [(0x2000, 8), (0x8, 16)], [⟨F.HLK_TX1_cell, .rw, 0x0⟩]⟩,
  /- HLK_SLOT -/ ⟨P.HLK_SLOT 0 0, [(0x2000, 8), (0x4, 256)], [⟨F.HLK_SLOT_node, .rw, 0x0⟩, ⟨F.HLK_SLOT_endpoint, .rw, 0x0⟩, ⟨F.HLK_SLOT_kind, .rw, 0x0⟩]⟩]

/-- Registers of the FLR block. -/
def regsFLR : List RegSpec := [
  /- FLR_CTRL -/ ⟨P.FLR_CTRL, [], [⟨F.FLR_CTRL_run, .rw, 0x0⟩, ⟨F.FLR_CTRL_ipv6, .rw, 0x0⟩, ⟨F.FLR_CTRL_mode0, .rw, 0x0⟩, ⟨F.FLR_CTRL_mode1, .rw, 0x0⟩, ⟨F.FLR_CTRL_active, .rw, 0x0⟩, ⟨F.FLR_CTRL_ver_allow, .rw, 0x7⟩]⟩,
  /- FLR_STAT -/ ⟨P.FLR_STAT, [], [⟨F.FLR_STAT_running, .ro, 0x0⟩, ⟨F.FLR_STAT_link0, .ro, 0x0⟩, ⟨F.FLR_STAT_link1, .ro, 0x0⟩, ⟨F.FLR_STAT_port, .ro, 0x0⟩, ⟨F.FLR_STAT_session, .ro, 0x0⟩, ⟨F.FLR_STAT_version, .ro, 0x0⟩, ⟨F.FLR_STAT_failover, .w1c, 0x0⟩, ⟨F.FLR_STAT_refused, .w1c, 0x0⟩, ⟨F.FLR_STAT_lost, .w1c, 0x0⟩, ⟨F.FLR_STAT_host_key, .ro, 0x0⟩, ⟨F.FLR_STAT_tilt_cause, .ro, 0x0⟩]⟩,
  /- FLR_INT_EN -/ ⟨P.FLR_INT_EN, [], [⟨F.FLR_INT_EN_enable, .rw, 0x0⟩]⟩,
  /- FLR_DOMAIN -/ ⟨P.FLR_DOMAIN, [], [⟨F.FLR_DOMAIN_index, .ro, 0x0⟩, ⟨F.FLR_DOMAIN_valid, .ro, 0x0⟩]⟩,
  /- FLR_ADDR -/ ⟨P.FLR_ADDR 0, [(0x4, 4)], [⟨F.FLR_ADDR_word, .rw, 0x0⟩]⟩,
  /- FLR_HOST -/ ⟨P.FLR_HOST 0, [(0x4, 4)], [⟨F.FLR_HOST_word, .rw, 0x0⟩]⟩,
  /- FLR_GW -/ ⟨P.FLR_GW 0, [(0x4, 4)], [⟨F.FLR_GW_word, .rw, 0x0⟩]⟩,
  /- FLR_PORTS -/ ⟨P.FLR_PORTS, [], [⟨F.FLR_PORTS_dev, .rw, 0x102C⟩, ⟨F.FLR_PORTS_host, .rw, 0x102C⟩]⟩,
  /- FLR_TIMING -/ ⟨P.FLR_TIMING, [], [⟨F.FLR_TIMING_rto, .rw, 0x32⟩, ⟨F.FLR_TIMING_ckpt, .rw, 0x0⟩]⟩,
  /- FLR_PREFIX -/ ⟨P.FLR_PREFIX, [], [⟨F.FLR_PREFIX_prefix, .rw, 0x18⟩]⟩,
  /- FLR_BUF -/ ⟨P.FLR_BUF, [], [⟨F.FLR_BUF_base, .rw, 0x0⟩, ⟨F.FLR_BUF_size, .rw, 0x0⟩]⟩,
  /- FLR_CNT -/ ⟨P.FLR_CNT, [], [⟨F.FLR_CNT_sent, .rc, 0x0⟩, ⟨F.FLR_CNT_resent, .rc, 0x0⟩]⟩,
  /- FLR_ERR_CNT -/ ⟨P.FLR_ERR_CNT, [], [⟨F.FLR_ERR_CNT_auth, .rc, 0x0⟩, ⟨F.FLR_ERR_CNT_stale, .rc, 0x0⟩]⟩]

/-- Registers of the SEC block. -/
def regsSEC : List RegSpec := [
  /- SEC_STAT -/ ⟨P.SEC_STAT, [], [⟨F.SEC_STAT_es_ok, .ro, 0x0⟩, ⟨F.SEC_STAT_drbg_inst, .ro, 0x0⟩, ⟨F.SEC_STAT_es_intermittent, .w1c, 0x0⟩, ⟨F.SEC_STAT_pool_low, .w1c, 0x0⟩, ⟨F.SEC_STAT_fuse_done, .w1c, 0x0⟩, ⟨F.SEC_STAT_fuse_err, .w1c, 0x0⟩, ⟨F.SEC_STAT_tilt_cause, .ro, 0x0⟩]⟩,
  /- SEC_INT_EN -/ ⟨P.SEC_INT_EN, [], [⟨F.SEC_INT_EN_enable, .rw, 0x0⟩]⟩,
  /- SEC_ES_CNT -/ ⟨P.SEC_ES_CNT, [], [⟨F.SEC_ES_CNT_rct_fail, .rc, 0x0⟩, ⟨F.SEC_ES_CNT_apt_fail, .rc, 0x0⟩, ⟨F.SEC_ES_CNT_pool, .ro, 0x0⟩]⟩,
  /- SEC_DRBG_CFG -/ ⟨P.SEC_DRBG_CFG, [], [⟨F.SEC_DRBG_CFG_pr, .rw, 0x0⟩, ⟨F.SEC_DRBG_CFG_reseed, .w1s, 0x0⟩, ⟨F.SEC_DRBG_CFG_reseed_log2, .rw, 0x10⟩]⟩,
  /- SEC_DRBG_GEN -/ ⟨P.SEC_DRBG_GEN, [], [⟨F.SEC_DRBG_GEN_count, .ro, 0x0⟩]⟩,
  /- SEC_DRBG_RESEEDS -/ ⟨P.SEC_DRBG_RESEEDS, [], [⟨F.SEC_DRBG_RESEEDS_count, .ro, 0x0⟩]⟩,
  /- SEC_IDPUB -/ ⟨P.SEC_IDPUB 0, [(0x4, 8)], [⟨F.SEC_IDPUB_word, .ro, 0x0⟩]⟩,
  /- SEC_CKPUB -/ ⟨P.SEC_CKPUB 0, [(0x4, 8)], [⟨F.SEC_CKPUB_word, .ro, 0x0⟩]⟩,
  /- SEC_UID -/ ⟨P.SEC_UID 0, [(0x4, 4)], [⟨F.SEC_UID_word, .ro, 0x0⟩]⟩,
  /- SEC_ROOT -/ ⟨P.SEC_ROOT 0, [(0x4, 8)], [⟨F.SEC_ROOT_word, .ro, 0x0⟩]⟩,
  /- SEC_FUSE -/ ⟨P.SEC_FUSE, [], [⟨F.SEC_FUSE_v1_withdrawn, .ro, 0x0⟩, ⟨F.SEC_FUSE_svn_rows, .ro, 0x0⟩, ⟨F.SEC_FUSE_root_blank, .ro, 0x0⟩, ⟨F.SEC_FUSE_ident, .ro, 0x0⟩, ⟨F.SEC_FUSE_svn_min, .ro, 0x0⟩]⟩,
  /- SEC_KEYS -/ ⟨P.SEC_KEYS, [], [⟨F.SEC_KEYS_ckpt, .ro, 0x0⟩, ⟨F.SEC_KEYS_floor, .ro, 0x0⟩, ⟨F.SEC_KEYS_ckpt_gen, .ro, 0x0⟩, ⟨F.SEC_KEYS_floor_gen, .ro, 0x0⟩]⟩,
  /- SEC_FUSE_DATA -/ ⟨P.SEC_FUSE_DATA 0, [(0x4, 8)], [⟨F.SEC_FUSE_DATA_word, .wo, 0x0⟩]⟩,
  /- SEC_FUSE_CMD -/ ⟨P.SEC_FUSE_CMD, [], [⟨F.SEC_FUSE_CMD_op, .wo, 0x0⟩, ⟨F.SEC_FUSE_CMD_busy, .ro, 0x0⟩, ⟨F.SEC_FUSE_CMD_result, .ro, 0x0⟩]⟩,
  /- SEC_RAW_CTRL -/ ⟨P.SEC_RAW_CTRL, [], [⟨F.SEC_RAW_CTRL_enable, .rw, 0x0⟩, ⟨F.SEC_RAW_CTRL_overflow, .w1c, 0x0⟩, ⟨F.SEC_RAW_CTRL_avail, .ro, 0x0⟩]⟩,
  /- SEC_RAW_DATA -/ ⟨P.SEC_RAW_DATA, [], [⟨F.SEC_RAW_DATA_samples, .rc, 0x0⟩]⟩]

/-- Registers of the SEC block. -/
def regsSEC1 : List RegSpec := [
  /- SEC_DRBG_REQ -/ ⟨P.SEC_DRBG_REQ, [], [⟨F.SEC_DRBG_REQ_words, .wo, 0x0⟩]⟩,
  /- SEC_DRBG_PSTAT -/ ⟨P.SEC_DRBG_PSTAT, [], [⟨F.SEC_DRBG_PSTAT_busy, .ro, 0x0⟩, ⟨F.SEC_DRBG_PSTAT_ready, .ro, 0x0⟩, ⟨F.SEC_DRBG_PSTAT_words, .ro, 0x0⟩, ⟨F.SEC_DRBG_PSTAT_err, .w1c, 0x0⟩, ⟨F.SEC_DRBG_PSTAT_discarded, .rc, 0x0⟩]⟩,
  /- SEC_DRBG_OUT -/ ⟨P.SEC_DRBG_OUT 0, [(0x4, 16)], [⟨F.SEC_DRBG_OUT_word, .rc, 0x0⟩]⟩]

/-- Registers of the LDG block. -/
def regsLDG : List RegSpec := [
  /- LDG_STAT -/ ⟨P.LDG_STAT, [], [⟨F.LDG_STAT_ready, .ro, 0x0⟩, ⟨F.LDG_STAT_ledger_full, .ro, 0x0⟩, ⟨F.LDG_STAT_pending, .ro, 0x0⟩, ⟨F.LDG_STAT_sealed, .ro, 0x0⟩, ⟨F.LDG_STAT_remap, .w1c, 0x0⟩, ⟨F.LDG_STAT_event, .w1c, 0x0⟩, ⟨F.LDG_STAT_dip, .w1c, 0x0⟩, ⟨F.LDG_STAT_frozen, .ro, 0x0⟩, ⟨F.LDG_STAT_tilt_cause, .ro, 0x0⟩]⟩,
  /- LDG_INT_EN -/ ⟨P.LDG_INT_EN, [], [⟨F.LDG_INT_EN_enable, .rw, 0x0⟩]⟩,
  /- LDG_LEDGER -/ ⟨P.LDG_LEDGER, [], [⟨F.LDG_LEDGER_free, .ro, 0x0⟩, ⟨F.LDG_LEDGER_next, .ro, 0x0⟩]⟩,
  /- LDG_BOOTCNT -/ ⟨P.LDG_BOOTCNT, [], [⟨F.LDG_BOOTCNT_value, .ro, 0x0⟩]⟩,
  /- LDG_ACKED -/ ⟨P.LDG_ACKED, [], [⟨F.LDG_ACKED_value, .ro, 0x0⟩]⟩,
  /- LDG_EVT_SEQ -/ ⟨P.LDG_EVT_SEQ, [], [⟨F.LDG_EVT_SEQ_value, .ro, 0x0⟩]⟩,
  /- LDG_SPARES -/ ⟨P.LDG_SPARES 0, [(0x4, 8)], [⟨F.LDG_SPARES_free, .ro, 0x0⟩]⟩,
  /- LDG_MEV_GAME_LO -/ ⟨P.LDG_MEV_GAME_LO, [], [⟨F.LDG_MEV_GAME_LO_game, .rw, 0x0⟩]⟩,
  /- LDG_MEV_GAME_HI -/ ⟨P.LDG_MEV_GAME_HI, [], [⟨F.LDG_MEV_GAME_HI_game, .rw, 0x0⟩]⟩,
  /- LDG_MEV_M -/ ⟨P.LDG_MEV_M 0, [(0x4, 4)], [⟨F.LDG_MEV_M_meter, .rw, 0x0⟩, ⟨F.LDG_MEV_M_en, .rw, 0x0⟩]⟩,
  /- LDG_MEV_D -/ ⟨P.LDG_MEV_D 0, [(0x4, 4)], [⟨F.LDG_MEV_D_delta, .rw, 0x0⟩]⟩,
  /- LDG_MEV_HASH -/ ⟨P.LDG_MEV_HASH 0, [(0x4, 8)], [⟨F.LDG_MEV_HASH_word, .rw, 0x0⟩]⟩,
  /- LDG_MEV_CMD -/ ⟨P.LDG_MEV_CMD, [], [⟨F.LDG_MEV_CMD_kind, .wo, 0x0⟩]⟩,
  /- LDG_MEV_STAT -/ ⟨P.LDG_MEV_STAT, [], [⟨F.LDG_MEV_STAT_busy, .ro, 0x0⟩, ⟨F.LDG_MEV_STAT_done, .w1c, 0x0⟩, ⟨F.LDG_MEV_STAT_err, .w1c, 0x0⟩, ⟨F.LDG_MEV_STAT_result, .ro, 0x0⟩]⟩,
  /- LDG_MEV_SEQ_LO -/ ⟨P.LDG_MEV_SEQ_LO, [], [⟨F.LDG_MEV_SEQ_LO_seq, .ro, 0x0⟩]⟩,
  /- LDG_MEV_SEQ_HI -/ ⟨P.LDG_MEV_SEQ_HI, [], [⟨F.LDG_MEV_SEQ_HI_seq, .ro, 0x0⟩]⟩]

/-- Registers of the LDG block. -/
def regsLDG1 : List RegSpec := [
  /- LDG_METER_SEL -/ ⟨P.LDG_METER_SEL, [], [⟨F.LDG_METER_SEL_meter, .rw, 0x0⟩]⟩,
  /- LDG_METER_LO -/ ⟨P.LDG_METER_LO, [], [⟨F.LDG_METER_LO_value, .ro, 0x0⟩]⟩,
  /- LDG_METER_HI -/ ⟨P.LDG_METER_HI, [], [⟨F.LDG_METER_HI_value, .ro, 0x0⟩]⟩,
  /- LDG_DOOR_CFG -/ ⟨P.LDG_DOOR_CFG, [], [⟨F.LDG_DOOR_CFG_en, .rw, 0x3FF⟩, ⟨F.LDG_DOOR_CFG_tilt, .rw, 0x0⟩]⟩,
  /- LDG_DOOR_LVL -/ ⟨P.LDG_DOOR_LVL, [], [⟨F.LDG_DOOR_LVL_level, .ro, 0x0⟩]⟩,
  /- LDG_PD0_CNT -/ ⟨P.LDG_PD0_CNT, [], [⟨F.LDG_PD0_CNT_held, .ro, 0x0⟩, ⟨F.LDG_PD0_CNT_lost, .ro, 0x0⟩]⟩]

/-- Registers of the PLN block. -/
def regsPLN : List RegSpec := [
  /- PLN_CTRL -/ ⟨P.PLN_CTRL 0 0, [(0x10000, 4), (0x40, 8)], [⟨F.PLN_CTRL_enable, .rw, 0x0⟩, ⟨F.PLN_CTRL_tile16, .rw, 0x0⟩, ⟨F.PLN_CTRL_format, .rw, 0x0⟩, ⟨F.PLN_CTRL_map_w_log2, .rw, 0x3⟩, ⟨F.PLN_CTRL_map_h_log2, .rw, 0x3⟩, ⟨F.PLN_CTRL_wrap_x, .rw, 0x0⟩, ⟨F.PLN_CTRL_wrap_y, .rw, 0x0⟩, ⟨F.PLN_CTRL_zero_transparent, .rw, 0x0⟩, ⟨F.PLN_CTRL_premul, .rw, 0x0⟩, ⟨F.PLN_CTRL_hscale, .rw, 0x0⟩, ⟨F.PLN_CTRL_vscale, .rw, 0x0⟩, ⟨F.PLN_CTRL_coef_set, .rw, 0x0⟩, ⟨F.PLN_CTRL_idx_base, .rw, 0x0⟩, ⟨F.PLN_CTRL_win_invert, .rw, 0x0⟩]⟩,
  /- PLN_MAP_BASE -/ ⟨P.PLN_MAP_BASE 0 0, [(0x10000, 4), (0x40, 8)], [⟨F.PLN_MAP_BASE_base, .rw, 0x0⟩]⟩,
  /- PLN_PAT_BASE -/ ⟨P.PLN_PAT_BASE 0 0, [(0x10000, 4), (0x40, 8)], [⟨F.PLN_PAT_BASE_base, .rw, 0x0⟩]⟩,
  /- PLN_ORG_X -/ ⟨P.PLN_ORG_X 0 0, [(0x10000, 4), (0x40, 8)], [⟨F.PLN_ORG_X_org, .rw, 0x0⟩]⟩,
  /- PLN_ORG_Y -/ ⟨P.PLN_ORG_Y 0 0, [(0x10000, 4), (0x40, 8)], [⟨F.PLN_ORG_Y_org, .rw, 0x0⟩]⟩,
  /- PLN_STEP_X -/ ⟨P.PLN_STEP_X 0 0, [(0x10000, 4), (0x40, 8)], [⟨F.PLN_STEP_X_step, .rw, 0x10000⟩]⟩,
  /- PLN_STEP_Y -/ ⟨P.PLN_STEP_Y 0 0, [(0x10000, 4), (0x40, 8)], [⟨F.PLN_STEP_Y_step, .rw, 0x10000⟩]⟩,
  /- PLN_WIN_X -/ ⟨P.PLN_WIN_X 0 0, [(0x10000, 4), (0x40, 8)], [⟨F.PLN_WIN_X_lo, .rw, 0x0⟩, ⟨F.PLN_WIN_X_hi, .rw, 0xFFFF⟩]⟩,
  /- PLN_WIN_Y -/ ⟨P.PLN_WIN_Y 0 0, [(0x10000, 4), (0x40, 8)], [⟨F.PLN_WIN_Y_lo, .rw, 0x0⟩, ⟨F.PLN_WIN_Y_hi, .rw, 0xFFFF⟩]⟩,
  /- PLN_TALPHA -/ ⟨P.PLN_TALPHA 0 0, [(0x10000, 4), (0x40, 8)], [⟨F.PLN_TALPHA_talpha, .rw, 0xFF⟩]⟩,
  /- PLN_PAL_ADDR -/ ⟨P.PLN_PAL_ADDR 0, [(0x10000, 4)], [⟨F.PLN_PAL_ADDR_entry, .rw, 0x0⟩]⟩,
  /- PLN_PAL_LO -/ ⟨P.PLN_PAL_LO 0, [(0x10000, 4)], [⟨F.PLN_PAL_LO_low, .rw, 0x0⟩]⟩,
  /- PLN_PAL_HI -/ ⟨P.PLN_PAL_HI 0, [(0x10000, 4)], [⟨F.PLN_PAL_HI_high, .rw, 0x0⟩]⟩,
  /- PLN_COEF_ADDR -/ ⟨P.PLN_COEF_ADDR 0, [(0x10000, 4)], [⟨F.PLN_COEF_ADDR_tap, .rw, 0x0⟩, ⟨F.PLN_COEF_ADDR_phase, .rw, 0x0⟩, ⟨F.PLN_COEF_ADDR_vertical, .rw, 0x0⟩, ⟨F.PLN_COEF_ADDR_set, .rw, 0x0⟩]⟩,
  /- PLN_COEF_DATA -/ ⟨P.PLN_COEF_DATA 0, [(0x10000, 4)], [⟨F.PLN_COEF_DATA_coef, .rw, 0x0⟩]⟩,
  /- PLN_COEF_CTRL -/ ⟨P.PLN_COEF_CTRL 0, [(0x10000, 4)], [⟨F.PLN_COEF_CTRL_swap, .wo, 0x0⟩]⟩]

/-- Registers of the PLN block. -/
def regsPLN1 : List RegSpec := [
  /- PLN_STAT -/ ⟨P.PLN_STAT 0, [(0x10000, 4)], [⟨F.PLN_STAT_fill, .rc, 0x0⟩, ⟨F.PLN_STAT_compose_miss, .rc, 0x0⟩]⟩,
  /- PLN_PROBE_POS -/ ⟨P.PLN_PROBE_POS 0, [(0x10000, 4)], [⟨F.PLN_PROBE_POS_x, .rw, 0x0⟩, ⟨F.PLN_PROBE_POS_plane, .rw, 0x0⟩, ⟨F.PLN_PROBE_POS_y, .rw, 0x0⟩, ⟨F.PLN_PROBE_POS_arm, .w1s, 0x0⟩]⟩,
  /- PLN_PROBE_LO -/ ⟨P.PLN_PROBE_LO 0, [(0x10000, 4)], [⟨F.PLN_PROBE_LO_low, .ro, 0x0⟩]⟩,
  /- PLN_PROBE_HI -/ ⟨P.PLN_PROBE_HI 0, [(0x10000, 4)], [⟨F.PLN_PROBE_HI_high, .ro, 0x0⟩, ⟨F.PLN_PROBE_HI_prio, .ro, 0x0⟩, ⟨F.PLN_PROBE_HI_premul, .ro, 0x0⟩, ⟨F.PLN_PROBE_HI_valid, .ro, 0x0⟩]⟩,
  /- PLN_PCI_BASE -/ ⟨P.PLN_PCI_BASE, [], [⟨F.PLN_PCI_BASE_base, .rw, 0x0⟩]⟩,
  /- PLN_PCI_SIZE -/ ⟨P.PLN_PCI_SIZE, [], [⟨F.PLN_PCI_SIZE_lines, .rw, 0x0⟩]⟩,
  /- PLN_PCI_CTRL -/ ⟨P.PLN_PCI_CTRL, [], [⟨F.PLN_PCI_CTRL_start, .w1s, 0x0⟩, ⟨F.PLN_PCI_CTRL_all, .w1s, 0x0⟩, ⟨F.PLN_PCI_CTRL_busy, .ro, 0x0⟩]⟩]

/-- Registers of the CMT block. -/
def regsCMT : List RegSpec := [
  /- CMT_CTRL -/ ⟨P.CMT_CTRL 0, [(0x10000, 4)], [⟨F.CMT_CTRL_enable, .rw, 0x0⟩, ⟨F.CMT_CTRL_bufs, .ro, 0x0⟩]⟩,
  /- CMT_CTX_BASE -/ ⟨P.CMT_CTX_BASE 0, [(0x10000, 4)], [⟨F.CMT_CTX_BASE_base, .rw, 0x0⟩]⟩,
  /- CMT_VIEW -/ ⟨P.CMT_VIEW 0, [(0x10000, 4)], [⟨F.CMT_VIEW_view_x, .rw, 0x0⟩, ⟨F.CMT_VIEW_view_y, .rw, 0x0⟩]⟩,
  /- CMT_FETCHED -/ ⟨P.CMT_FETCHED 0, [(0x10000, 4)], [⟨F.CMT_FETCHED_band, .ro, 0x1FF⟩, ⟨F.CMT_FETCHED_frame, .ro, 0x0⟩]⟩,
  /- CMT_CLOCKS -/ ⟨P.CMT_CLOCKS 0, [(0x10000, 4)], [⟨F.CMT_CLOCKS_clocks, .ro, 0x0⟩]⟩,
  /- CMT_STAT -/ ⟨P.CMT_STAT 0, [(0x10000, 4)], [⟨F.CMT_STAT_fill, .rc, 0x0⟩, ⟨F.CMT_STAT_buf_wait, .rc, 0x0⟩]⟩,
  /- CMT_PROBE_POS -/ ⟨P.CMT_PROBE_POS 0, [(0x10000, 4)], [⟨F.CMT_PROBE_POS_x, .rw, 0x0⟩, ⟨F.CMT_PROBE_POS_y, .rw, 0x0⟩, ⟨F.CMT_PROBE_POS_arm, .w1s, 0x0⟩]⟩,
  /- CMT_PROBE_LO -/ ⟨P.CMT_PROBE_LO 0, [(0x10000, 4)], [⟨F.CMT_PROBE_LO_low, .ro, 0x0⟩]⟩,
  /- CMT_PROBE_HI -/ ⟨P.CMT_PROBE_HI 0, [(0x10000, 4)], [⟨F.CMT_PROBE_HI_high, .ro, 0x0⟩, ⟨F.CMT_PROBE_HI_group, .ro, 0x0⟩, ⟨F.CMT_PROBE_HI_valid, .ro, 0x0⟩]⟩]

/-- Registers of the EPH block. -/
def regsEPH : List RegSpec := [
  /- EPH_CAPS -/ ⟨P.EPH_CAPS 0, [(0x8000, 4)], [⟨F.EPH_CAPS_formats, .ro, 0x3⟩, ⟨F.EPH_CAPS_max_bands, .ro, 0x1F8⟩]⟩,
  /- EPH_CTRL -/ ⟨P.EPH_CTRL 0, [(0x8000, 4)], [⟨F.EPH_CTRL_run, .rw, 0x0⟩, ⟨F.EPH_CTRL_format, .rw, 0x0⟩, ⟨F.EPH_CTRL_lookahead, .rw, 0x2⟩, ⟨F.EPH_CTRL_window, .rw, 0x8⟩, ⟨F.EPH_CTRL_slots_log2, .rw, 0x0⟩]⟩,
  /- EPH_RING_BASE -/ ⟨P.EPH_RING_BASE 0, [(0x8000, 4)], [⟨F.EPH_RING_BASE_base, .rw, 0x0⟩]⟩,
  /- EPH_FRAME0 -/ ⟨P.EPH_FRAME0 0, [(0x8000, 4)], [⟨F.EPH_FRAME0_frame, .rw, 0x0⟩]⟩,
  /- EPH_COMMIT -/ ⟨P.EPH_COMMIT 0, [(0x8000, 4)], [⟨F.EPH_COMMIT_frame, .rw, 0xFFFFFFFF⟩]⟩,
  /- EPH_RETIRED -/ ⟨P.EPH_RETIRED 0, [(0x8000, 4)], [⟨F.EPH_RETIRED_frame, .ro, 0xFFFFFFFF⟩]⟩,
  /- EPH_POS -/ ⟨P.EPH_POS 0, [(0x8000, 4)], [⟨F.EPH_POS_band, .ro, 0x1FF⟩, ⟨F.EPH_POS_frame, .ro, 0x0⟩]⟩,
  /- EPH_DONE -/ ⟨P.EPH_DONE 0, [(0x8000, 4)], [⟨F.EPH_DONE_band, .ro, 0x1FF⟩, ⟨F.EPH_DONE_frame, .ro, 0x0⟩]⟩,
  /- EPH_RW_E0 -/ ⟨P.EPH_RW_E0 0, [(0x8000, 4)], [⟨F.EPH_RW_E0_word, .rw, 0x0⟩]⟩,
  /- EPH_RW_E1 -/ ⟨P.EPH_RW_E1 0, [(0x8000, 4)], [⟨F.EPH_RW_E1_word, .rw, 0x0⟩]⟩,
  /- EPH_RW_E2 -/ ⟨P.EPH_RW_E2 0, [(0x8000, 4)], [⟨F.EPH_RW_E2_word, .rw, 0x0⟩]⟩,
  /- EPH_RW_E3 -/ ⟨P.EPH_RW_E3 0, [(0x8000, 4)], [⟨F.EPH_RW_E3_word, .rw, 0x0⟩]⟩,
  /- EPH_REWRITE -/ ⟨P.EPH_REWRITE 0, [(0x8000, 4)], [⟨F.EPH_REWRITE_band, .wo, 0x0⟩, ⟨F.EPH_REWRITE_frame, .wo, 0x0⟩]⟩,
  /- EPH_REWRITE_STAT -/ ⟨P.EPH_REWRITE_STAT 0, [(0x8000, 4)], [⟨F.EPH_REWRITE_STAT_outcome, .ro, 0x0⟩, ⟨F.EPH_REWRITE_STAT_seq, .ro, 0x0⟩]⟩,
  /- EPH_STAT -/ ⟨P.EPH_STAT 0, [(0x8000, 4)], [⟨F.EPH_STAT_running, .ro, 0x0⟩, ⟨F.EPH_STAT_commit_err, .w1c, 0x0⟩, ⟨F.EPH_STAT_starve, .w1c, 0x0⟩, ⟨F.EPH_STAT_lookahead_miss, .w1c, 0x0⟩, ⟨F.EPH_STAT_fmt_refused, .w1c, 0x0⟩, ⟨F.EPH_STAT_pending, .ro, 0x0⟩, ⟨F.EPH_STAT_tilt_cause, .ro, 0x0⟩]⟩,
  /- EPH_INT_EN -/ ⟨P.EPH_INT_EN 0, [(0x8000, 4)], [⟨F.EPH_INT_EN_enable, .rw, 0x0⟩]⟩]

/-- Registers of the CMP block. -/
def regsCMP : List RegSpec := [
  /- CMP_CTRL -/ ⟨P.CMP_CTRL 0, [(0x8000, 4)], [⟨F.CMP_CTRL_out8, .rw, 0x0⟩]⟩,
  /- CMP_BG -/ ⟨P.CMP_BG 0, [(0x8000, 4)], [⟨F.CMP_BG_bg_r, .rw, 0x0⟩, ⟨F.CMP_BG_bg_g, .rw, 0x0⟩, ⟨F.CMP_BG_bg_b, .rw, 0x0⟩]⟩,
  /- CMP_LALPHA0 -/ ⟨P.CMP_LALPHA0 0, [(0x8000, 4)], [⟨F.CMP_LALPHA0_lalpha_a, .rw, 0xFF⟩, ⟨F.CMP_LALPHA0_lalpha_b, .rw, 0xFF⟩, ⟨F.CMP_LALPHA0_lalpha_c, .rw, 0xFF⟩, ⟨F.CMP_LALPHA0_lalpha_d, .rw, 0xFF⟩]⟩,
  /- CMP_LALPHA1 -/ ⟨P.CMP_LALPHA1 0, [(0x8000, 4)], [⟨F.CMP_LALPHA1_lalpha_a, .rw, 0xFF⟩, ⟨F.CMP_LALPHA1_lalpha_b, .rw, 0xFF⟩, ⟨F.CMP_LALPHA1_lalpha_c, .rw, 0xFF⟩, ⟨F.CMP_LALPHA1_lalpha_d, .rw, 0xFF⟩]⟩,
  /- CMP_MODE -/ ⟨P.CMP_MODE 0, [(0x8000, 4)], [⟨F.CMP_MODE_add, .rw, 0x0⟩, ⟨F.CMP_MODE_calpha, .rw, 0xFF⟩]⟩,
  /- CMP_GKEY0 -/ ⟨P.CMP_GKEY0 0, [(0x8000, 4)], [⟨F.CMP_GKEY0_gkey_a, .rw, 0x20⟩, ⟨F.CMP_GKEY0_gkey_b, .rw, 0x20⟩, ⟨F.CMP_GKEY0_gkey_c, .rw, 0x20⟩, ⟨F.CMP_GKEY0_gkey_d, .rw, 0x20⟩]⟩,
  /- CMP_GKEY1 -/ ⟨P.CMP_GKEY1 0, [(0x8000, 4)], [⟨F.CMP_GKEY1_gkey_a, .rw, 0x20⟩, ⟨F.CMP_GKEY1_gkey_b, .rw, 0x20⟩, ⟨F.CMP_GKEY1_gkey_c, .rw, 0x20⟩, ⟨F.CMP_GKEY1_gkey_d, .rw, 0x20⟩]⟩,
  /- CMP_OSCALE -/ ⟨P.CMP_OSCALE 0, [(0x8000, 4)], [⟨F.CMP_OSCALE_enable, .rw, 0x0⟩, ⟨F.CMP_OSCALE_hscale, .rw, 0x0⟩, ⟨F.CMP_OSCALE_vscale, .rw, 0x0⟩, ⟨F.CMP_OSCALE_coef_set, .rw, 0x0⟩]⟩,
  /- CMP_CANVAS -/ ⟨P.CMP_CANVAS 0, [(0x8000, 4)], [⟨F.CMP_CANVAS_width, .rw, 0x0⟩, ⟨F.CMP_CANVAS_height, .rw, 0x0⟩]⟩,
  /- CMP_OSIZE -/ ⟨P.CMP_OSIZE 0, [(0x8000, 4)], [⟨F.CMP_OSIZE_width, .rw, 0x0⟩, ⟨F.CMP_OSIZE_height, .rw, 0x0⟩]⟩,
  /- CMP_OSTEP_X -/ ⟨P.CMP_OSTEP_X 0, [(0x8000, 4)], [⟨F.CMP_OSTEP_X_step, .rw, 0x10000⟩]⟩,
  /- CMP_OSTEP_Y -/ ⟨P.CMP_OSTEP_Y 0, [(0x8000, 4)], [⟨F.CMP_OSTEP_Y_step, .rw, 0x10000⟩]⟩,
  /- CMP_OORG_X -/ ⟨P.CMP_OORG_X 0, [(0x8000, 4)], [⟨F.CMP_OORG_X_org, .rw, 0x0⟩]⟩,
  /- CMP_OORG_Y -/ ⟨P.CMP_OORG_Y 0, [(0x8000, 4)], [⟨F.CMP_OORG_Y_org, .rw, 0x0⟩]⟩,
  /- CMP_WB_CTRL -/ ⟨P.CMP_WB_CTRL 0, [(0x8000, 4)], [⟨F.CMP_WB_CTRL_enable, .rw, 0x0⟩, ⟨F.CMP_WB_CTRL_frames_m1, .rw, 0x0⟩]⟩,
  /- CMP_WB_BASE -/ ⟨P.CMP_WB_BASE 0, [(0x8000, 4)], [⟨F.CMP_WB_BASE_base, .rw, 0x0⟩]⟩]

/-- Registers of the CMP block. -/
def regsCMP1 : List RegSpec := [
  /- CMP_WB_PITCH -/ ⟨P.CMP_WB_PITCH 0, [(0x8000, 4)], [⟨F.CMP_WB_PITCH_pitch, .rw, 0x0⟩]⟩,
  /- CMP_WB_STRIDE -/ ⟨P.CMP_WB_STRIDE 0, [(0x8000, 4)], [⟨F.CMP_WB_STRIDE_stride, .rw, 0x0⟩]⟩,
  /- CMP_WB_DONE -/ ⟨P.CMP_WB_DONE 0, [(0x8000, 4)], [⟨F.CMP_WB_DONE_frame, .ro, 0xFFFFFFFF⟩]⟩,
  /- CMP_STAT -/ ⟨P.CMP_STAT 0, [(0x8000, 4)], [⟨F.CMP_STAT_slot_wait, .rc, 0x0⟩, ⟨F.CMP_STAT_wb_wait, .rc, 0x0⟩]⟩,
  /- CMP_CLOCKS -/ ⟨P.CMP_CLOCKS 0, [(0x8000, 4)], [⟨F.CMP_CLOCKS_clocks, .ro, 0x0⟩]⟩,
  /- CMP_PROBE_POS -/ ⟨P.CMP_PROBE_POS 0, [(0x8000, 4)], [⟨F.CMP_PROBE_POS_x, .rw, 0x0⟩, ⟨F.CMP_PROBE_POS_y, .rw, 0x0⟩, ⟨F.CMP_PROBE_POS_arm, .w1s, 0x0⟩]⟩,
  /- CMP_PROBE_VAL -/ ⟨P.CMP_PROBE_VAL 0, [(0x8000, 4)], [⟨F.CMP_PROBE_VAL_word, .ro, 0x0⟩]⟩,
  /- CMP_PROBE_BLEND -/ ⟨P.CMP_PROBE_BLEND 0, [(0x8000, 4)], [⟨F.CMP_PROBE_BLEND_rgb, .ro, 0x0⟩, ⟨F.CMP_PROBE_BLEND_valid, .ro, 0x0⟩]⟩,
  /- CMP_PART -/ ⟨P.CMP_PART 0, [(0x4, 8)], [⟨F.CMP_PART_base, .rw, 0x0⟩, ⟨F.CMP_PART_size, .rw, 0x0⟩, ⟨F.CMP_PART_cluster, .rw, 0x0⟩, ⟨F.CMP_PART_valid, .rw, 0x0⟩]⟩]

/-- Registers of the DSP block. -/
def regsDSP : List RegSpec := [
  /- DSP_CTRL -/ ⟨P.DSP_CTRL 0, [(0x8000, 4)], [⟨F.DSP_CTRL_mode, .rw, 0x0⟩, ⟨F.DSP_CTRL_iface, .rw, 0x0⟩, ⟨F.DSP_CTRL_gang, .rw, 0x0⟩]⟩,
  /- DSP_LINK -/ ⟨P.DSP_LINK 0, [(0x8000, 4)], [⟨F.DSP_LINK_rate, .rw, 0x3⟩, ⟨F.DSP_LINK_ssc, .rw, 0x0⟩, ⟨F.DSP_LINK_lanes, .ro, 0x4⟩]⟩,
  /- DSP_TRAIN -/ ⟨P.DSP_TRAIN 0, [(0x8000, 4)], [⟨F.DSP_TRAIN_start, .w1s, 0x0⟩, ⟨F.DSP_TRAIN_busy, .ro, 0x0⟩, ⟨F.DSP_TRAIN_result, .ro, 0x0⟩, ⟨F.DSP_TRAIN_su_ok, .ro, 0x0⟩, ⟨F.DSP_TRAIN_ygran, .ro, 0x0⟩]⟩,
  /- DSP_H0 -/ ⟨P.DSP_H0 0, [(0x8000, 4)], [⟨F.DSP_H0_active, .rw, 0x0⟩, ⟨F.DSP_H0_pol, .rw, 0x0⟩]⟩,
  /- DSP_H1 -/ ⟨P.DSP_H1 0, [(0x8000, 4)], [⟨F.DSP_H1_fp, .rw, 0x0⟩, ⟨F.DSP_H1_sync, .rw, 0x0⟩, ⟨F.DSP_H1_bp, .rw, 0x0⟩]⟩,
  /- DSP_V0 -/ ⟨P.DSP_V0 0, [(0x8000, 4)], [⟨F.DSP_V0_active, .rw, 0x0⟩, ⟨F.DSP_V0_pol, .rw, 0x0⟩]⟩,
  /- DSP_V1 -/ ⟨P.DSP_V1 0, [(0x8000, 4)], [⟨F.DSP_V1_fp, .rw, 0x0⟩, ⟨F.DSP_V1_sync, .rw, 0x0⟩, ⟨F.DSP_V1_bp, .rw, 0x0⟩]⟩,
  /- DSP_PCLK -/ ⟨P.DSP_PCLK 0, [(0x8000, 4)], [⟨F.DSP_PCLK_khz, .rw, 0x0⟩]⟩,
  /- DSP_PACE -/ ⟨P.DSP_PACE 0, [(0x8000, 4)], [⟨F.DSP_PACE_lc, .rw, 0x15F9⟩, ⟨F.DSP_PACE_floor_pct, .rw, 0x2D⟩, ⟨F.DSP_PACE_guard, .rw, 0x2⟩]⟩,
  /- DSP_WMARK -/ ⟨P.DSP_WMARK 0, [(0x8000, 4)], [⟨F.DSP_WMARK_lines, .rw, 0x20⟩]⟩,
  /- DSP_APPLY -/ ⟨P.DSP_APPLY 0, [(0x8000, 4)], [⟨F.DSP_APPLY_line, .rw, 0x0⟩, ⟨F.DSP_APPLY_arm, .w1s, 0x0⟩]⟩,
  /- DSP_BEAM -/ ⟨P.DSP_BEAM 0, [(0x8000, 4)], [⟨F.DSP_BEAM_line, .ro, 0x0⟩, ⟨F.DSP_BEAM_refresh, .ro, 0x0⟩]⟩,
  /- DSP_LAG -/ ⟨P.DSP_LAG 0, [(0x8000, 4)], [⟨F.DSP_LAG_clocks, .ro, 0x0⟩]⟩,
  /- DSP_LAG_MAX -/ ⟨P.DSP_LAG_MAX 0, [(0x8000, 4)], [⟨F.DSP_LAG_MAX_clocks, .rc, 0x0⟩]⟩,
  /- DSP_CNT -/ ⟨P.DSP_CNT 0, [(0x8000, 4)], [⟨F.DSP_CNT_late, .rc, 0x0⟩, ⟨F.DSP_CNT_held, .rc, 0x0⟩]⟩,
  /- DSP_ERR_CNT -/ ⟨P.DSP_ERR_CNT 0, [(0x8000, 4)], [⟨F.DSP_ERR_CNT_bursts, .rc, 0x0⟩, ⟨F.DSP_ERR_CNT_resent, .rc, 0x0⟩, ⟨F.DSP_ERR_CNT_underrun, .rc, 0x0⟩]⟩]

/-- Registers of the DSP block. -/
def regsDSP1 : List RegSpec := [
  /- DSP_STAT -/ ⟨P.DSP_STAT 0, [(0x8000, 4)], [⟨F.DSP_STAT_running, .ro, 0x0⟩, ⟨F.DSP_STAT_link_up, .ro, 0x0⟩, ⟨F.DSP_STAT_late, .w1c, 0x0⟩, ⟨F.DSP_STAT_held, .w1c, 0x0⟩, ⟨F.DSP_STAT_burst, .w1c, 0x0⟩, ⟨F.DSP_STAT_underrun, .w1c, 0x0⟩, ⟨F.DSP_STAT_su_refused, .w1c, 0x0⟩, ⟨F.DSP_STAT_tilt_cause, .ro, 0x0⟩]⟩,
  /- DSP_INT_EN -/ ⟨P.DSP_INT_EN 0, [(0x8000, 4)], [⟨F.DSP_INT_EN_enable, .rw, 0x0⟩]⟩]

/-- Registers of the DIG block. -/
def regsDIG : List RegSpec := [
  /- DIG_CTRL -/ ⟨P.DIG_CTRL 0, [(0x8000, 4)], [⟨F.DIG_CTRL_recall, .rw, 0x0⟩, ⟨F.DIG_CTRL_dump, .rw, 0x0⟩]⟩,
  /- DIG_STAT -/ ⟨P.DIG_STAT 0, [(0x8000, 4)], [⟨F.DIG_STAT_depth, .ro, 0x0⟩, ⟨F.DIG_STAT_mismatch, .w1c, 0x0⟩, ⟨F.DIG_STAT_recall_done, .w1c, 0x0⟩, ⟨F.DIG_STAT_tilt_cause, .ro, 0x0⟩]⟩,
  /- DIG_LAST -/ ⟨P.DIG_LAST 0, [(0x8000, 4)], [⟨F.DIG_LAST_frame, .ro, 0xFFFFFFFF⟩]⟩,
  /- DIG_EXP_BASE -/ ⟨P.DIG_EXP_BASE 0, [(0x8000, 4)], [⟨F.DIG_EXP_BASE_base, .rw, 0x0⟩]⟩,
  /- DIG_EXP_FIRST -/ ⟨P.DIG_EXP_FIRST 0, [(0x8000, 4)], [⟨F.DIG_EXP_FIRST_frame, .rw, 0x0⟩]⟩,
  /- DIG_EXP_COUNT -/ ⟨P.DIG_EXP_COUNT 0, [(0x8000, 4)], [⟨F.DIG_EXP_COUNT_count, .rw, 0x0⟩]⟩,
  /- DIG_DUMP_BASE -/ ⟨P.DIG_DUMP_BASE 0, [(0x8000, 4)], [⟨F.DIG_DUMP_BASE_base, .rw, 0x0⟩]⟩,
  /- DIG_RESULT -/ ⟨P.DIG_RESULT 0, [(0x8000, 4)], [⟨F.DIG_RESULT_compared, .ro, 0x0⟩, ⟨F.DIG_RESULT_mismatches, .ro, 0x0⟩]⟩,
  /- DIG_MISS_FRAME -/ ⟨P.DIG_MISS_FRAME 0, [(0x8000, 4)], [⟨F.DIG_MISS_FRAME_frame, .ro, 0xFFFFFFFF⟩]⟩,
  /- DIG_INT_EN -/ ⟨P.DIG_INT_EN 0, [(0x8000, 4)], [⟨F.DIG_INT_EN_enable, .rw, 0x0⟩]⟩]

/-- Registers of the KTL block. -/
def regsKTL : List RegSpec := [
  /- KTL_CTRL -/ ⟨P.KTL_CTRL, [], [⟨F.KTL_CTRL_run, .rw, 0x0⟩, ⟨F.KTL_CTRL_timebase, .rw, 0x0⟩, ⟨F.KTL_CTRL_slots_log2, .rw, 0x0⟩]⟩,
  /- KTL_CUE_BASE -/ ⟨P.KTL_CUE_BASE, [], [⟨F.KTL_CUE_BASE_base, .rw, 0x0⟩]⟩,
  /- KTL_SND -/ ⟨P.KTL_SND, [], [⟨F.KTL_SND_offset, .rw, 0x0⟩, ⟨F.KTL_SND_count, .rw, 0x0⟩]⟩,
  /- KTL_SAMPLE -/ ⟨P.KTL_SAMPLE, [], [⟨F.KTL_SAMPLE_period, .ro, 0x0⟩]⟩,
  /- KTL_CUE_POS -/ ⟨P.KTL_CUE_POS, [], [⟨F.KTL_CUE_POS_frame, .ro, 0xFFFFFFFF⟩]⟩,
  /- KTL_PROBE_AT -/ ⟨P.KTL_PROBE_AT, [], [⟨F.KTL_PROBE_AT_period, .rw, 0x0⟩]⟩,
  /- KTL_ACTIVE -/ ⟨P.KTL_ACTIVE, [], [⟨F.KTL_ACTIVE_voices, .ro, 0x0⟩, ⟨F.KTL_ACTIVE_streams, .ro, 0x0⟩, ⟨F.KTL_ACTIVE_clocks, .ro, 0x0⟩]⟩,
  /- KTL_STAT -/ ⟨P.KTL_STAT, [], [⟨F.KTL_STAT_running, .ro, 0x0⟩, ⟨F.KTL_STAT_cue_late, .w1c, 0x0⟩, ⟨F.KTL_STAT_cue_err, .w1c, 0x0⟩, ⟨F.KTL_STAT_stream_full, .w1c, 0x0⟩, ⟨F.KTL_STAT_underrun, .w1c, 0x0⟩, ⟨F.KTL_STAT_overrun, .w1c, 0x0⟩, ⟨F.KTL_STAT_fx_late, .w1c, 0x0⟩]⟩,
  /- KTL_CNT -/ ⟨P.KTL_CNT, [], [⟨F.KTL_CNT_underrun, .rc, 0x0⟩, ⟨F.KTL_CNT_overrun, .rc, 0x0⟩, ⟨F.KTL_CNT_fx_late, .rc, 0x0⟩]⟩,
  /- KTL_INT_EN -/ ⟨P.KTL_INT_EN, [], [⟨F.KTL_INT_EN_enable, .rw, 0x0⟩]⟩,
  /- KTL_TDM -/ ⟨P.KTL_TDM, [], [⟨F.KTL_TDM_out_en, .rw, 0x0⟩, ⟨F.KTL_TDM_out96, .rw, 0x0⟩, ⟨F.KTL_TDM_in_en, .rw, 0x0⟩]⟩,
  /- KTL_PROBE_CTRL -/ ⟨P.KTL_PROBE_CTRL, [], [⟨F.KTL_PROBE_CTRL_bus, .rw, 0x0⟩, ⟨F.KTL_PROBE_CTRL_arm, .w1s, 0x0⟩]⟩,
  /- KTL_PROBE_VAL -/ ⟨P.KTL_PROBE_VAL, [], [⟨F.KTL_PROBE_VAL_value, .ro, 0x0⟩, ⟨F.KTL_PROBE_VAL_valid, .ro, 0x0⟩]⟩,
  /- KTL_FX_CFG -/ ⟨P.KTL_FX_CFG 0, [(0x4, 2)], [⟨F.KTL_FX_CFG_in_first, .rw, 0x0⟩, ⟨F.KTL_FX_CFG_in_count, .rw, 0x0⟩, ⟨F.KTL_FX_CFG_ret_first, .rw, 0x0⟩, ⟨F.KTL_FX_CFG_ret_count, .rw, 0x0⟩, ⟨F.KTL_FX_CFG_block, .rw, 0x0⟩]⟩,
  /- KTL_FX_DONE -/ ⟨P.KTL_FX_DONE 0, [(0x4, 2)], [⟨F.KTL_FX_DONE_block, .rw, 0xFF⟩]⟩,
  /- KTL_BUS -/ ⟨P.KTL_BUS 0, [(0x4, 32)], [⟨F.KTL_BUS_domain, .rw, 0x0⟩, ⟨F.KTL_BUS_bridged, .rw, 0x0⟩, ⟨F.KTL_BUS_src, .rw, 0x0⟩, ⟨F.KTL_BUS_gain, .rw, 0x4000⟩]⟩]

/-- Registers of the KTL block. -/
def regsKTL1 : List RegSpec := [
  /- KTL_OUT -/ ⟨P.KTL_OUT 0, [(0x4, 24)], [⟨F.KTL_OUT_bus, .rw, 0x0⟩, ⟨F.KTL_OUT_enable, .rw, 0x0⟩]⟩,
  /- KTL_IN -/ ⟨P.KTL_IN 0, [(0x4, 12)], [⟨F.KTL_IN_bus, .rw, 0x0⟩, ⟨F.KTL_IN_enable, .rw, 0x0⟩, ⟨F.KTL_IN_gain, .rw, 0x4000⟩]⟩]

/-- Registers of the AAS block. -/
def regsAAS : List RegSpec := [
  /- AAS_CD -/ ⟨P.AAS_CD 0, [(0x4, 8)], [⟨F.AAS_CD_enable, .rw, 0x0⟩, ⟨F.AAS_CD_mute, .rw, 0x0⟩]⟩,
  /- AAS_MIC -/ ⟨P.AAS_MIC 0, [(0x4, 4)], [⟨F.AAS_MIC_enable, .rw, 0x0⟩, ⟨F.AAS_MIC_bias, .rw, 0x0⟩, ⟨F.AAS_MIC_fan, .rw, 0x0⟩, ⟨F.AAS_MIC_pga, .rw, 0x0⟩]⟩,
  /- AAS_CAL_REQ -/ ⟨P.AAS_CAL_REQ, [], [⟨F.AAS_CAL_REQ_cd, .w1s, 0x0⟩, ⟨F.AAS_CAL_REQ_mic, .w1s, 0x0⟩]⟩,
  /- AAS_CAL_DONE -/ ⟨P.AAS_CAL_DONE, [], [⟨F.AAS_CAL_DONE_cd, .w1c, 0x0⟩, ⟨F.AAS_CAL_DONE_mic, .w1c, 0x0⟩]⟩,
  /- AAS_CD_RPT -/ ⟨P.AAS_CD_RPT 0, [(0x4, 8)], [⟨F.AAS_CD_RPT_offset, .ro, 0x0⟩, ⟨F.AAS_CD_RPT_gain_err, .ro, 0x0⟩]⟩,
  /- AAS_MIC_RPT -/ ⟨P.AAS_MIC_RPT 0, [(0x4, 4)], [⟨F.AAS_MIC_RPT_offset, .ro, 0x0⟩, ⟨F.AAS_MIC_RPT_gain_err, .ro, 0x0⟩]⟩,
  /- AAS_STAT -/ ⟨P.AAS_STAT, [], [⟨F.AAS_STAT_cd_fault, .ro, 0x0⟩, ⟨F.AAS_STAT_tilt_cause, .ro, 0x0⟩, ⟨F.AAS_STAT_abandoned, .rc, 0x0⟩]⟩,
  /- AAS_INT_EN -/ ⟨P.AAS_INT_EN, [], [⟨F.AAS_INT_EN_cal, .rw, 0x0⟩]⟩]

/-- Registers of the CFG block. -/
def regsCFG : List RegSpec := [
  /- CFG_CAPS -/ ⟨P.CFG_CAPS, [], [⟨F.CFG_CAPS_manifest, .ro, 0x3⟩]⟩,
  /- CFG_STAT -/ ⟨P.CFG_STAT, [], [⟨F.CFG_STAT_stage, .ro, 0x0⟩, ⟨F.CFG_STAT_manifest_ver, .ro, 0x0⟩, ⟨F.CFG_STAT_ledger_full, .ro, 0x0⟩, ⟨F.CFG_STAT_d0_trained, .ro, 0x0⟩, ⟨F.CFG_STAT_sparge_pass, .w1c, 0x0⟩, ⟨F.CFG_STAT_sparge_slow, .w1c, 0x0⟩, ⟨F.CFG_STAT_tilt_cause, .ro, 0x0⟩]⟩,
  /- CFG_STOP -/ ⟨P.CFG_STOP, [], [⟨F.CFG_STOP_code, .ro, 0x0⟩, ⟨F.CFG_STOP_section, .ro, 0x0⟩]⟩,
  /- CFG_BOOTSET -/ ⟨P.CFG_BOOTSET, [], [⟨F.CFG_BOOTSET_ports, .ro, 0x0⟩, ⟨F.CFG_BOOTSET_devs, .ro, 0x0⟩, ⟨F.CFG_BOOTSET_density, .ro, 0x0⟩]⟩,
  /- CFG_T_RELEASE -/ ⟨P.CFG_T_RELEASE, [], [⟨F.CFG_T_RELEASE_us, .ro, 0x0⟩]⟩,
  /- CFG_SVN -/ ⟨P.CFG_SVN, [], [⟨F.CFG_SVN_svn, .ro, 0x0⟩, ⟨F.CFG_SVN_fused_min, .ro, 0x0⟩]⟩,
  /- CFG_MDIGEST -/ ⟨P.CFG_MDIGEST 0, [(0x4, 8)], [⟨F.CFG_MDIGEST_word, .ro, 0x0⟩]⟩,
  /- CFG_SPARGE_CFG -/ ⟨P.CFG_SPARGE_CFG, [], [⟨F.CFG_SPARGE_CFG_period, .ro, 0x0⟩, ⟨F.CFG_SPARGE_CFG_rate, .ro, 0x0⟩]⟩,
  /- CFG_SPARGE_POS -/ ⟨P.CFG_SPARGE_POS, [], [⟨F.CFG_SPARGE_POS_section, .ro, 0x0⟩, ⟨F.CFG_SPARGE_POS_pass, .ro, 0x0⟩]⟩,
  /- CFG_SPARGE_MISS -/ ⟨P.CFG_SPARGE_MISS, [], [⟨F.CFG_SPARGE_MISS_section, .ro, 0x0⟩, ⟨F.CFG_SPARGE_MISS_valid, .ro, 0x0⟩]⟩,
  /- CFG_INT_EN -/ ⟨P.CFG_INT_EN, [], [⟨F.CFG_INT_EN_enable, .rw, 0x0⟩]⟩]

/-- The rows of the block that holds port p (R496). -/
def specsOf (p : Nat) : List RegSpec :=
  if p ≤ 0xFFFF then (if 0x0 ≤ p then regsSYS ++ regsSYS1 else []) else
  if p ≤ 0x1FFFF then (if 0x10000 ≤ p then regsPWR ++ regsPWR1 else []) else
  if p ≤ 0x2FFFF then (if 0x20000 ≤ p then regsMON else []) else
  if p ≤ 0x3FFFF then (if 0x30000 ≤ p then regsINT else []) else
  if p ≤ 0x4FFFF then (if 0x40000 ≤ p then regsTMR else []) else
  if p ≤ 0x5FFFF then (if 0x50000 ≤ p then regsPMC else []) else
  if p ≤ 0x7FFFF then (if 0x60000 ≤ p then regsMEM ++ regsMEM1 else []) else
  if p ≤ 0x8FFFF then (if 0x80000 ≤ p then regsDMA else []) else
  if p ≤ 0x9FFFF then (if 0x90000 ≤ p then regsBLT else []) else
  if p ≤ 0xAFFFF then (if 0xA0000 ≤ p then regsPIN else []) else
  if p ≤ 0xBFFFF then (if 0xB0000 ≤ p then regsHLK else []) else
  if p ≤ 0xCFFFF then (if 0xC0000 ≤ p then regsFLR else []) else
  if p ≤ 0xDFFFF then (if 0xD0000 ≤ p then regsSEC ++ regsSEC1 else []) else
  if p ≤ 0xEFFFF then (if 0xE0000 ≤ p then regsLDG ++ regsLDG1 else []) else
  if p ≤ 0x13FFFF then (if 0x100000 ≤ p then regsPLN ++ regsPLN1 else []) else
  if p ≤ 0x17FFFF then (if 0x140000 ≤ p then regsCMT else []) else
  if p ≤ 0x19FFFF then (if 0x180000 ≤ p then regsEPH else []) else
  if p ≤ 0x1BFFFF then (if 0x1A0000 ≤ p then regsCMP ++ regsCMP1 else []) else
  if p ≤ 0x1DFFFF then (if 0x1C0000 ≤ p then regsDSP ++ regsDSP1 else []) else
  if p ≤ 0x1FFFFF then (if 0x1E0000 ≤ p then regsDIG else []) else
  if p ≤ 0x23FFFF then (if 0x200000 ≤ p then regsKTL ++ regsKTL1 else []) else
  if p ≤ 0x24FFFF then (if 0x240000 ≤ p then regsAAS else []) else
  if p ≤ 0x3FFFFF then (if 0x3F0000 ≤ p then regsCFG else []) else
  []

end Sys2Proof.Machine
end

