-- ==== Sys2Proof/Machine/Units.lean ====
section
/-! DEFINITION. The state of the units of the 7140, unit by unit, each with its value after device reset. -/
namespace Sys2Proof.Machine

/-- A line of the L2: its 64 bytes, and whether a store to it has not been written back (R230). -/
structure L2Line where
  data : List Byte
  dirty : Bool
  deriving DecidableEq, Repr

/-- One Ivros core: the architectural state of R225 and what R237 to R239 give it besides. -/
structure Core where
  /-- g0 to g15. -/
  g : Vector Word 16
  /-- ac0 to ac3. -/
  ac : Vector Acc72 4
  /-- SR[6:0]: V, C, Z, N, user, ie, ex; SR[31:7] is zero. -/
  sr : BitVec 7
  /-- PC. -/
  pc : Word
  /-- SYS_CORE_CTRL.run. -/
  run : Bool
  /-- SYS_CORE_CTRL.ugpio. -/
  ugpio : Bool
  /-- The core is in its reset state and begins at SYS_CORE_ENTRY when run is set (R237). -/
  fresh : Bool
  /-- The core waits in HALT (R236). -/
  halted : Bool
  /-- The core is halted in debug (R239). -/
  inDebug : Bool
  /-- A single step was requested: the core returns to debug after one instruction (R239). -/
  stepping : Bool
  /-- A debugger is attached to the core (R239). -/
  attached : Bool
  /-- EI has just executed: an interrupt is taken after the next instruction (R257). -/
  eiShadow : Bool
  /-- The four instruction breakpoints (R239). -/
  breaks : Vector (Option Word) 4
  /-- The two data watchpoints (R239). -/
  watches : Vector (Option Nat) 2
  /-- The data address of a watched access of the instruction under way. -/
  watchHit : Option Nat
  /-- I-cache lines that LDI brought in: line number and 64 bytes (R230). -/
  icache : List (Nat × List Byte)
  /-- D-cache lines of an audio core, over the resident area (R230). -/
  dcache : List (Nat × List Byte)
  /-- The private GPIO port's value, groups 0 to 3; and its values before, the latest first, with the CPU clocks since each
  ended, as far as a pad may still follow one (R238, R438). -/
  privOut : Vector Word 4
  privPast : List (Nat × Vector Word 4)
  /-- The moderation holdoff runs (R275). -/
  holdoff : Bool
  deriving DecidableEq, Repr

/-- A claimed source: the core that claimed it, its key and the priority recorded at the claim (R268). -/
structure Claimed where
  core : CoreId
  src : Nat
  prio : Nat
  deriving DecidableEq, Repr

/-- The interrupt controller's state beside its registers (R263 to R277). -/
structure Irq where
  /-- Sources claimed and not completed. -/
  claims : List Claimed
  /-- Line levels driven by INTERRUPT_LINE, by source key; absent: low. -/
  lines : List (Nat × Bool)
  /-- The PD0 edge latches that hold an edge, by source; absent: empty (R277). -/
  latches : List (Nat × Bool)
  deriving DecidableEq, Repr

/-- The power state (the table of R445 ff.). -/
inductive PwrMode where
  | run | eclipse | off
  deriving DecidableEq, Repr

/-- A core after device reset (R237). -/
def Core.reset : Core where
  g := Vector.replicate 16 0
  ac := Vector.replicate 4 0
  sr := 0
  pc := 0
  run := false
  ugpio := false
  fresh := true
  halted := false
  inDebug := false
  stepping := false
  attached := false
  eiShadow := false
  breaks := Vector.replicate 4 none
  watches := Vector.replicate 2 none
  watchHit := none
  icache := []
  dcache := []
  privOut := Vector.replicate 4 0
  privPast := []
  holdoff := false

/-- The interrupt controller after device reset. -/
def Irq.reset : Irq where
  claims := []
  lines := []
  latches := []

/-- The power sequencer, the clocks and the supply monitors (R441 to R463). -/
structure Power where
  /-- Bit d: PDd is on (R441). -/
  doms : BitVec 40
  /-- The domains of the group under logic self-test, which behave as if they were off (R476). -/
  testing : BitVec 40
  /-- Run, Eclipse or Off. -/
  mode : PwrMode
  /-- Device reset is asserted. -/
  inReset : Bool
  /-- Domains still to be removed and still to be powered by the request under way (R442). -/
  toOff : BitVec 40
  toOn : BitVec 40
  /-- Bit 0 CPU, 1 composition, 2 memory, 3 audio: the PLL is stopped (R445). -/
  stopped : BitVec 4
  /-- The same PLLs: locked (PWR_PLL). -/
  locked : BitVec 4
  /-- The PLLs that a wake demand has enabled and that have not locked (R447). -/
  restarting : BitVec 4
  /-- The link PLLs of D0 to D3: locked (PWR_PLL), and started by a training (R161). -/
  linkLocked : BitVec 4
  linkStarting : BitVec 4
  /-- The RTC and the uptime count, in 32.768 kHz ticks (R451). -/
  rtc : BitVec 64
  uptime : BitVec 64
  /-- PWR_RTC_SET_LO as staged, and RTC writes that apply at the next tick: the debug port's and the floor link's
  (R452). -/
  rtcStaged : Word
  rtcDebug : Option (BitVec 64)
  rtcFloor : Option (BitVec 64)
  /-- Bit 0 VDD_CORE, 1 VIO0, 2 VDDQ: the rail is in warning (R456). -/
  inWarn : BitVec 3
  /-- The rails whose rise above the clearing level has been detected, with no fall since: MON_STAT's ok bits (R463). -/
  railsOk : BitVec 3
  /-- A recovery hold begins at the next tick, and the ticks that remain of the one that runs (R456). -/
  holdDue : Bool
  holdLeft : Option Nat
  /-- PD0 runs from VBAT; VBAT is below 2.5 V (R458). -/
  onVbat : Bool
  vbatLow : Bool
  /-- VBAT fell below 2.5 V during this Off, and PD0 lost its contents (PWR_RESET_CAUSE). -/
  vbatLowSeen : Bool
  pd0Lost : Bool
  /-- RESET_N is low, and the ticks for which it has been, up to three (R459, R486). -/
  resetNLow : Bool
  resetNTicks : Nat
  /-- A reset has been recorded in this 32.768 kHz tick (R461). -/
  causeFresh : Bool
  /-- The RTC has passed PWR_ALARM with the alarm armed, and the alarm has not fired yet (R453). -/
  alarmDue : Bool
  /-- An Eclipse command waits for the supply hold and the held commits (R448), and a wake event waits for the end of
  Eclipse entry (R449). -/
  eclipseDue : Bool
  wakeDue : Option Nat
  /-- VIO0's level class as latched at the release of device reset: 3.3 V (R454). -/
  vio33 : Bool
  deriving DecidableEq, Repr

/-- The power state after device reset with PD0 powered for the first time: the domains of R355 on (R461). -/
def Power.reset : Power where
  doms := 0x17FFFFFFFF
  testing := 0
  mode := .run
  inReset := true
  toOff := 0
  toOn := 0
  stopped := 0
  locked := 0
  restarting := 0
  linkLocked := 0
  linkStarting := 0
  rtc := 0
  uptime := 0
  rtcStaged := 0
  rtcDebug := none
  rtcFloor := none
  inWarn := 0
  railsOk := 0
  holdDue := false
  holdLeft := none
  onVbat := false
  vbatLow := false
  vbatLowSeen := false
  pd0Lost := false
  resetNLow := false
  resetNTicks := 0
  causeFresh := false
  alarmDue := false
  eclipseDue := false
  wakeDue := none
  vio33 := true

/-- The tilt latch (R468). -/
structure Tilt where
  /-- The captured code, while tilt stands. -/
  code : Option Nat
  deriving DecidableEq, Repr

/-- A spare-row directory of one MRAM bank: rows remapped with their spare rows, and spare rows retired (R393, R477). -/
structure SpareDir where
  remaps : List (Nat × Nat)
  retired : List Nat
  deriving DecidableEq, Repr

/-- One copy of the control area: each value is absent when its granule fails its check (R392, R507). -/
structure Control where
  boot : Option Nat
  acked : Option Nat
  sealed : Bool
  dirs : Vector (Option SpareDir) 8
  deriving DecidableEq, Repr

/-- A write to the control area. -/
inductive CtlWrite where
  | boot (n : Nat)
  | acked (n : Nat)
  | sealMark
  | dir (bank : Fin 8) (d : SpareDir)
  deriving DecidableEq, Repr

/-- A granule write: an MRAM granule by number (offset / 32), a control granule of copy A or B, or a granule of a worn row
copied into the spare row, which leaves what the store holds as it is (R393). -/
inductive GWrite where
  | copy (bank : Fin 8) (row : Nat)
  | cell (g : Nat) (v : BitVec 256)
  | ctl (copyB : Bool) (w : CtlWrite)
  deriving DecidableEq, Repr

/-- A measurement of a boot: role and digest (R354). -/
structure Measure where
  role : Nat
  digest : List Byte
  deriving DecidableEq, Repr

/-- What a ledger record holds before it is signed (R397). -/
structure LedgerRec where
  kind : Nat
  boot : Nat
  cause : Nat
  time : Nat
  stop : Nat
  section_ : Nat
  manifestVer : Nat
  late : Bool
  meas : List Measure
  deriving DecidableEq, Repr

/-- An event of the event log before its sequence is given (R416). -/
structure LogEvent where
  kind : Nat
  subject : Nat
  data : Nat
  time : Nat
  deriving DecidableEq, Repr

/-- What becomes true once the granule writes before it are done. -/
inductive Mark where
  /-- The copy-A journal write begins (R411). -/
  | journal
  /-- The commit point: the new values, positions and sequence become visible (R407). -/
  | meters (k : Nat) (vals : List (Nat × Nat × Nat)) (seq : Nat) (game : Option Nat)
  /-- The event of core k ends with its result (R410). -/
  | meterEnd (k : Nat)
  /-- A remap is complete: its bank and row (R393). -/
  | remapped (bank row : Nat)
  /-- An event is in both copies of the log (R416). -/
  | logged (seq : Nat) (e : LogEvent)
  /-- A record is committed (R399). -/
  | record (slot boot : Nat) (hash : List Byte)
  /-- The acknowledged counter is set (R402). -/
  | acked (boot : Nat)
  /-- Recovery has rewritten what lagged (R408, R507). -/
  | ready
  /-- The seal marker is in both control copies; the event under way ends with its result (R394). -/
  | sealed (ends : Option (Nat × Nat))
  /-- A buffered event of an input has been moved into the log (R415, R417). -/
  | moved (input : Nat)
  deriving DecidableEq, Repr

/-- An item of the MRAM controller's work: a granule write or a mark. -/
inductive Job where
  | write (w : GWrite)
  | mark (m : Mark)
  deriving DecidableEq, Repr

/-- The newest committed ledger record (R399). -/
structure Newest where
  slot : Nat
  boot : Nat
  hash : List Byte
  deriving DecidableEq, Repr

/-- The MRAM, its controller and the always-on door latches (chapter 19). -/
structure Ledger where
  /-- The granules of the MRAM that are not blank, by number (R391). -/
  mram : List (Nat × BitVec 256)
  /-- The control area's two copies (R392). -/
  ctlA : Control
  ctlB : Control
  /-- Work in progress or held, in order (R396). -/
  jobs : List Job
  /-- The newest committed record (R399). -/
  newest : Option Newest
  /-- This boot's counter and the acknowledged counter (R400, R402). -/
  bootCnt : Nat
  acked : Nat
  /-- The committed meter values and the positions of their newest entries (R405, R408). -/
  meters : List (Nat × Nat)
  positions : List (Nat × Nat)
  /-- The sequence of the newest journal record, and the open game (R406, R410). -/
  seq : Nat
  game : Option Nat
  /-- Submitted meter events in arrival order: core and kind (R409). -/
  events : List (Nat × Nat)
  /-- Last event sequence given out (R416). -/
  evtSeq : Nat
  /-- Supply dips that enter the log once commits resume (R455). -/
  dips : List LogEvent
  /-- Dips that follow the commits that were held: how many queued meter events still come before each (R456). -/
  dipsDue : List (Nat × LogEvent)
  /-- The record that waits for its commit (R401, R403). -/
  held : Option LedgerRec
  /-- The record of a stop that came while another record was being committed (R360). -/
  stop : Option LedgerRec
  /-- This start-up has advanced the boot counter (R400). -/
  counted : Bool
  /-- Events captured in PD0 (R414). -/
  pd0 : List LogEvent
  deriving DecidableEq, Repr

/-- A control copy as formatted at final test: counters 0, nothing remapped (R392). -/
def Control.reset : Control := ⟨some 0, some 0, false, Vector.replicate 8 (some ⟨[], []⟩)⟩

/-- The store as formatted at final test (R392). -/
def Ledger.reset : Ledger where
  mram := []
  ctlA := Control.reset
  ctlB := Control.reset
  jobs := []
  newest := none
  bootCnt := 0
  acked := 0
  meters := []
  positions := []
  seq := 0
  game := none
  events := []
  evtSeq := 0
  dips := []
  dipsDue := []
  held := none
  stop := none
  counted := false
  pd0 := []

/-- An instance of Hash_DRBG: V and C of 440 bits, and the reseed counter (R382). -/
structure Drbg where
  v : Nat
  c : Nat
  count : Nat
  deriving DecidableEq, Repr

/-- The entropy source (R378 to R381). -/
structure Entropy where
  /-- Failed start-up tests (R379). -/
  startFails : Nat
  /-- The last sample and how often it has repeated. -/
  last : Bool
  run : Nat
  /-- The window under way: its first value, that value's count and the samples so far. -/
  first : Bool
  firstCount : Nat
  n : Nat
  /-- Samples since the last window that passed, newest first; and passed samples not yet conditioned, oldest first. -/
  fresh : List Bool
  passed : List Bool
  /-- Windows ended, and the windows of the intermittent failures, newest first. -/
  windows : Nat
  fails : List Nat
  /-- The pool of conditioned blocks (R380). -/
  pool : List (List Byte)
  /-- Raw samples collected towards SEC_RAW_DATA (R381). -/
  raw : List Bool
  deriving DecidableEq, Repr

def Entropy.reset : Entropy := ⟨0, false, 0, false, 0, 0, [], [], 0, [], [], []⟩

/-- The trust cluster (chapter 18). -/
structure Trust where
  /-- Fuses: root hash, version 1 withdrawal, security rows (R370). The identity pair is identitySk. -/
  root : Option (List Byte)
  v1Withdrawn : Bool
  svnRows : List Nat
  /-- The key-store array: checkpoint pair and floor key with their generations (R370). -/
  ckpt : Option (List Byte)
  ckptGen : Nat
  floorKey : Option (List Byte)
  floorGen : Nat
  /-- The SHA-256 that the key store keeps of its contents (R373); absent: the one written at final test, with the
  contents that Trust.reset names. -/
  storeSum : Option (List Byte)
  /-- A fuse or key command under way with its data, and whether no row of it is left to start (R375, R455). -/
  cmd : Option (Nat × List Byte)
  cmdStarted : Bool
  /-- The first check of the signature under way has failed, and its second opt_rand is not drawn yet (R368). -/
  redraw : Bool
  /-- The outcome instance's generates since its last reseed (R384). -/
  gens : Nat
  /-- The engine's last signature, and the result of its last verification (R366, R367). -/
  sig : List Byte
  verified : Bool
  /-- The entropy source and the two instances of Hash_DRBG, the outcome port's and the management one (R378, R382). -/
  entropy : Entropy
  outcome : Option Drbg
  mgmt : Option Drbg
  /-- The blocks that the instantiation under way has taken; absent: none is under way (R382, R383). -/
  inst : Option (List (List Byte))
  /-- The management instance waits for a block (R380, R384). -/
  mgmtWaits : Bool
  /-- Outcome requests in arrival order: core and words (R387). -/
  reqs : List (Nat × Nat)
  /-- Per core C0 to C7: the words not yet read (R386, R389). -/
  unread : Vector (BitVec 16) 8
  deriving DecidableEq, Repr

/-- The trust cluster of a part with blank root hash fuses (AH7140-B1-UB-T, R16), not commissioned. -/
def Trust.reset : Trust where
  root := none
  v1Withdrawn := false
  svnRows := []
  ckpt := none
  ckptGen := 0
  floorKey := none
  floorGen := 0
  storeSum := none
  cmd := none
  cmdStarted := false
  redraw := false
  gens := 0
  sig := []
  verified := false
  entropy := Entropy.reset
  outcome := none
  mgmt := none
  inst := none
  mgmtWaits := false
  reqs := []
  unread := Vector.replicate 8 0

/-- A section of the manifest's table (R349). -/
structure Section where
  role : Nat
  src : Nat
  len : Nat
  dst : Nat
  digest : List Byte
  deriving DecidableEq, Repr

/-- Start-up and sparge (chapter 17). -/
structure Boot where
  /-- The boot set being read, and whether DRAM training completes in this start-up (R339, R352). -/
  set : Option BootSet
  trains : Bool
  /-- The stages in which a read burst is yet to stall (R341), and the stalled one: 1 the directory, 2 the manifest, 3 the
  memory section; 0 none. -/
  stalls : BitVec 3
  stalled : Nat
  /-- The 64 words of the manifest's header and its section table, once both have been checked (R344, R349). -/
  hdr : List Nat
  sections : List Section
  /-- The manifest has been verified, and the last key of its chain (R346, R428). -/
  verified : Bool
  key : List Byte
  /-- The next section to stream, and whether section 1 has matched (R353). -/
  next : Nat
  screenOk : Bool
  /-- The measurements so far (R354). -/
  meas : List Measure
  /-- Sparge: the uptime at release, the period boundaries that have passed, whether a pass runs and another waits, the
  entry being swept and whether the pass has found a difference (R361, R362). -/
  releaseTick : Nat
  due : Nat
  passRuns : Bool
  waits : Bool
  at_ : Nat
  differs : Bool
  deriving DecidableEq, Repr

def Boot.reset : Boot where
  set := none
  trains := false
  stalls := 0
  stalled := 0
  hdr := []
  sections := []
  verified := false
  key := []
  next := 1
  screenOk := false
  meas := []
  releaseTick := 0
  due := 0
  passRuns := false
  waits := false
  at_ := 0
  differs := false

/-- A DRAM request at the arbiter: its address, the bytes of a write (none: a read), its lock mark, the channel it
addresses, the command clock of its arrival (R42 to R44), and the mark by which its unit knows it again: k + 1 for the
cache engine of core k; 512 × (frame + 1) + band for a writeback; i + 1 for a pattern fill that walk i asked for (8: the
comet unit); parkTag or more for an access that has been parked and whose unit waits for it; else 0. -/
structure MemReq where
  addr : Nat
  data : Option (List Byte)
  lock : Bool
  chan : Nat
  since : Nat
  tag : Nat
  deriving DecidableEq, Repr

/-- A requester: its pending queue, the request that waits at its port, the requests that its unit holds back until the
port is free, the channel of a locked sequence that it has issued without its release, and the parked requests that have
been served and that their unit has not taken up (R42, R44). -/
structure Requester where
  queue : List MemReq
  port : Option MemReq
  backlog : List MemReq
  opened : Option Nat
  landed : List MemReq
  deriving DecidableEq, Repr

/-- A granted read whose data has not returned: its requester, its address and bytes, whether it is being repeated, its
lock mark and its request's mark (R43, R55). -/
structure Flight where
  id : Nat
  addr : Nat
  data : List Byte
  repeating : Bool
  lock : Bool
  tag : Nat
  deriving DecidableEq, Repr

/-- A channel's arbiter (R44 to R46, R51). -/
structure Channel where
  fair : Nat
  owner : Option Nat
  lastPick : Nat
  owed : Nat
  emergency : Bool
  /-- Command clocks that the locked sequence has held the channel, and whether the watchdog has bitten. -/
  held : Nat
  bitten : Bool
  /-- Granted reads whose data has not returned, oldest first (R43). -/
  flights : List Flight
  /-- The next read that the channel grants does not come back good at once: READ_RETURN says how (R55). -/
  link : Bool
  deriving DecidableEq, Repr

/-- The DRAM arbiter and the error records (chapter 2). -/
structure MemCtl where
  /-- The requesters that hold something, by id (R40, R42). -/
  reqs : List (Nat × Requester)
  /-- The four channels (R38, R44). -/
  chans : Vector Channel 4
  /-- The requesters whose urgency signal is asserted, by id (R41). -/
  urgent : BitVec 17
  /-- The last burst delivered: requester, address, bytes (R43). -/
  delivered : Option (Nat × Nat × List Byte)
  /-- The address of the last corrected or recovered error, and whether it lay in shared SRAM (R55, R56). -/
  eccAddr : Nat
  eccSram : Bool
  deriving DecidableEq, Repr

def Requester.reset : Requester := ⟨[], none, [], none, []⟩

def Channel.reset : Channel where
  fair := 0
  owner := none
  lastPick := 16
  owed := 0
  emergency := false
  held := 0
  bitten := false
  flights := []
  link := false

def MemCtl.reset : MemCtl where
  reqs := []
  chans := Vector.replicate 4 Channel.reset
  urgent := 0
  delivered := none
  eccAddr := 0
  eccSram := false

/-! ## The display clusters (chapters 3 to 8) -/

/-- A line of the pattern cache: its number (data address / 64) and its 64 bytes (R72). -/
structure PatLine where
  line : Nat
  data : List Byte
  deriving DecidableEq, Repr

/-- A pixel: R, G, B and A (R57, R63). -/
structure Rgba where
  r : Nat
  g : Nat
  b : Nat
  a : Nat
  deriving DecidableEq, Repr

/-- An override of a band-table entry (R120, R122); also the entry of a band as its take latched it (R110). -/
structure Override where
  frame : Nat
  band : Nat
  e0 : Word
  e1 : Word
  e2 : Word
  e3 : Word
  deriving DecidableEq, Repr

/-- A fetcher's or the comet unit's walk over the lines that the band in Fetch reads: the lines still to be looked up, in
order; whether they are pattern lines, the map lines being over; the fills that it has asked for and that have not arrived,
each with whether an invalidation has met it; and the fills asked for so far (R73, R75, R86). -/
structure Walk where
  todo : List Nat
  pattern : Bool
  flights : List (Nat × Bool)
  asked : Nat
  deriving DecidableEq, Repr

/-- A band in the sequencer's or the pipeline's hands (R110 to R113). -/
structure Band where
  frame : Nat
  band : Nat
  /-- The table entry as the take latched it (R56, R110). -/
  entry : Override
  /-- The record's words, patched (R106). -/
  words : List Word
  /-- The frame header's band height in lines and its band count (R96). -/
  height : Nat
  count : Nat
  /-- The frame is the first after a start (R155). -/
  fresh : Bool
  /-- The composition clock of the take, and from then on that of the tick at which it entered Send. -/
  stamp : Nat
  /-- The band is skipped as unchanged (R34, R113, R170). -/
  skip : Bool
  /-- CMT_CTRL.enable, CMT_CTX_BASE and CMT_VIEW as they stood when its Fetch stage began (R93). -/
  cmtEnable : Bool
  cmtBase : Nat
  cmtView : Word
  /-- The work of the stage that the band stands in has ended. -/
  ended : Bool
  deriving DecidableEq, Repr

/-- A composed slot that holds a band: its first byte and size in the line-buffer pool; its output lines with their words,
and the clock in which each is completely composed; the clocks of its Compose stage; who has done with it, and the latest
clock of that (R138, R139). -/
structure Slot where
  frame : Nat
  band : Nat
  addr : Nat
  size : Nat
  lines : List (Nat × List Word)
  ready : List (Nat × Nat)
  started : Nat
  ended : Nat
  sent : Bool
  hashed : Bool
  freeAt : Nat
  deriving DecidableEq, Repr

/-- A comet band buffer that is in use: its first byte and size in the line-buffer pool (R138), and the pixels that are not (0, 0, 0, 0) with group 0, keyed 8192 × y + x, each
RGBA10 with the group above it (R87). -/
structure CometBuf where
  frame : Nat
  band : Nat
  addr : Nat
  size : Nat
  pixels : List (Nat × Nat)
  deriving DecidableEq, Repr

/-- What the digest unit and the output know of a frame under way (R169, R506). -/
structure FrameWork where
  frame : Nat
  count : Nat
  fresh : Bool
  /-- Band digests by band number, as far as they exist. -/
  digests : List (Nat × List Byte)
  carried : Nat
  late : Nat
  decided : Nat
  /-- The frame digest (R169). -/
  digest : Option (List Byte)
  /-- Skipped bands whose carried digest a lane has yet to finish, each with the frame that last composed it (R34,
  R170). -/
  awaits : List (Nat × Nat)
  deriving DecidableEq, Repr

/-- A band whose send is under way: the clock in which it began, the clocks that resent lines have added, the lines with
their words, the first line of the selective-update region that the lines being sent belong to, and the first and the last
line of each region resent, oldest first (R149, R151, R162). -/
structure Sending where
  frame : Nat
  band : Nat
  started : Nat
  extra : Nat
  lines : List (Nat × List Word)
  region : Nat
  resends : List (Nat × Nat)
  deriving DecidableEq, Repr

/-- A band of the fallback raster whose lateness is not decided: its output lines, and whether one underran (R150,
R157). -/
structure RasterBand where
  frame : Nat
  band : Nat
  first : Nat
  last : Nat
  under : Bool
  deriving DecidableEq, Repr

/-- An entry of the digest export queue (R171). -/
structure ExportEntry where
  frame : Nat
  isRecall : Bool
  fresh : Bool
  carried : Nat
  late : Nat
  digest : List Byte
  deriving DecidableEq, Repr

/-- The live timing position of a display output's beam and its shadow registers (R145, R159). -/
structure Beam where
  running : Bool
  line : Nat
  /-- Refreshes begun; DSP_BEAM shows it modulo 65,536. -/
  refresh : Nat
  /-- The composition clock at which the beam entered line originLine of refresh originRefresh. -/
  origin : Nat
  originRefresh : Nat
  originLine : Nat
  /-- The shadow copies: DSP_CTRL.mode, DSP_H0, DSP_H1, DSP_V0, DSP_V1, DSP_PCLK. -/
  mode : Nat
  timing : Vector Word 5
  /-- Mode 1 is run as the fallback raster (R154). -/
  refused : Bool
  /-- DSP_LINK.rate and DSP_CTRL.iface (1: eDP) as the last training took them (R160, R161). -/
  rate : Nat
  edp : Bool
  /-- The words of the active line that the fallback raster sends in this beam line (R156, R157, R470). -/
  sent : List Word
  /-- While it sends a raster: the level of vertical sync in this beam line, and that of horizontal sync in its pulse
  (R156). -/
  sync : Option (Bool × Bool)
  /-- The output shows its screen after tilt: since the first beam line 0 after it (R470). -/
  screen : Bool
  deriving DecidableEq, Repr

/-- A display cluster: what its sequencer, pipeline, composer, digest unit and output hold beside their registers. -/
structure Cluster where
  /-- A record has been copied into the stream buffer since its bank came on (R110). -/
  streamed : Bool
  /-- Names the contents that palettes and coefficient sets have at power-up (R70). -/
  seed : Nat
  /-- Palette entries written, by number; coefficients written, by copy (2 × set + which), table, phase and tap; the
  copy of each set that is live (R62, R70). -/
  pal : List (Nat × BitVec 40)
  coefs : List (Nat × BitVec 10)
  live : BitVec 4
  /-- The next band to take and its frame's band count and height, once band 0 has been taken (R110). -/
  nextFrame : Nat
  nextBand : Nat
  hdrCount : Nat
  hdrHeight : Nat
  /-- Taken bands that have not entered Record. -/
  taken : List Band
  /-- The overrides that stand, at most eight (R120, R122). -/
  overrides : List Override
  /-- band_count of each committed frame; absent while its header is being read; and rewrites that wait for it
  (R120). -/
  headers : List (Nat × Option Nat)
  rewrites : List (Nat × Override)
  /-- The first frame after the start, the clock in which run was set, and its first refresh (R123, R146). -/
  first : Nat
  runAt : Nat
  r0 : Option Nat
  /-- While R0 is not known: the refreshes that the beam has begun since the start, with EPH_COMMIT as it stood then
  (R118). -/
  begun : List (Nat × Nat)
  /-- EPH_CTRL.run has been cleared and the sequencer stops at the frame's end (R124). -/
  stopping : Bool
  /-- The pipeline: ticks since the start (at most 4), the clock of the last tick, and the clock at which the work begun
  at it has ended so far (R148, R505). -/
  ticks : Nat
  t : Nat
  done : Nat
  /-- The bands in the four stages (R32, R33). -/
  record : Option Band
  fetch : Option Band
  compose : Option Band
  send : Option Band
  /-- The walks of the eight fetchers and, last, of the comet unit (R73, R86). -/
  walks : Vector Walk 9
  /-- Bands that have entered Send and whose send has not begun, oldest first, the one being sent, and the clock at
  which the last send ended (R149). -/
  toSend : List Band
  sending : Option Sending
  sendEnd : Nat
  /-- The band sent last, and the first line of its region (R151). -/
  lastSent : Option (Nat × Nat × Nat)
  /-- The tear rule's hold of the band to be sent next has been counted (R152). -/
  held : Bool
  /-- The comet band buffers in use, and the clock at which the last one freed (R87, R88). -/
  bufs : List CometBuf
  bufFree : Nat
  /-- The two composed slots, when each freed, the slot that the next band takes, and the partition and band height in use (R112, R139). -/
  slots : Vector (Option Slot) 2
  slotFree : Vector Nat 2
  nextSlot : Nat
  part : Option (Nat × Nat)
  /-- Canvas rows that the output scaler keeps (R133). -/
  rows : List (Nat × List Rgba)
  /-- The writeback registers as band 0 of the frame found them: CTRL, BASE, PITCH, STRIDE (R131); and the frames whose
  last band is over and whose writes have not all been granted, oldest first (R140). -/
  wb : Vector Word 4
  wbPend : List Nat
  /-- A mismatch stands in DIG_MISS_FRAME (R177). -/
  missed : Bool
  /-- The carry table, the frames under way, and the export queue (R170, R171). -/
  carry : List (Nat × List Byte)
  frames : List FrameWork
  export_ : List ExportEntry
  /-- The output's beam (R145, R159). -/
  beam : Beam
  /-- Bands of the fallback raster whose lateness is not decided (R150, R157). -/
  raster : List RasterBand
  /-- The bands counted late since the start, newest first, as far as they can count again (R150, R165). -/
  lateSeen : List (Nat × Nat)
  deriving DecidableEq, Repr

def Walk.reset : Walk := ⟨[], false, [], 0⟩

def Beam.reset : Beam where
  running := false
  line := 0
  refresh := 0
  origin := 0
  originRefresh := 0
  originLine := 0
  mode := 0
  timing := Vector.replicate 5 0
  refused := false
  rate := 3
  edp := false
  sent := []
  sync := none
  screen := false

/-- A display cluster after device reset. -/
def Cluster.reset : Cluster where
  streamed := false
  seed := 0
  pal := []
  coefs := []
  live := 0
  nextFrame := 0
  nextBand := 0
  hdrCount := 0
  hdrHeight := 0
  taken := []
  overrides := []
  headers := []
  rewrites := []
  first := 0
  runAt := 0
  r0 := none
  begun := []
  stopping := false
  ticks := 0
  t := 0
  done := 0
  record := none
  fetch := none
  compose := none
  send := none
  walks := Vector.replicate 9 Walk.reset
  toSend := []
  sending := none
  sendEnd := 0
  lastSent := none
  held := false
  bufs := []
  bufFree := 0
  slots := Vector.replicate 2 none
  slotFree := Vector.replicate 2 0
  nextSlot := 0
  part := none
  rows := []
  wb := Vector.replicate 4 0
  wbPend := []
  missed := false
  carry := []
  frames := []
  export_ := []
  beam := Beam.reset
  raster := []
  lateSeen := []

/-- A sound's descriptor (R202). -/
structure Sound where
  addr : Nat
  stream : Bool
  format : Nat
  domain : Nat
  loop : Bool
  busA : Nat
  busB : Nat
  length : Nat
  loopStart : Nat
  step : Nat
  attack : Nat
  decay : Nat
  sustain : Nat
  release : Nat
  gainA : Int
  gainB : Int
  deriving DecidableEq, Repr

/-- Where a voice's envelope stands (R204). -/
inductive Env where
  | attack | decay | sustain | release
  deriving DecidableEq, Repr

/-- An active voice; laps counts how often it has looped (R204). -/
structure Voice where
  sound : Sound
  pos : Nat
  laps : Nat
  level : Nat
  env : Env
  step : Nat
  gainA : Int
  gainB : Int
  busA : Nat
  busB : Nat
  ring : Option Nat
  deriving DecidableEq, Repr

/-- A tone or noise channel (R209). -/
structure Tone where
  increment : Nat
  wave : Nat
  duty : Nat
  volume : Int
  bus : Nat
  phase : Nat
  lfsr : BitVec 17
  deriving DecidableEq, Repr

/-- A cue that has not fired: its frame, its words, a start cue's sound and stream ring, and the composition clock in
which its frame was committed (R199 to R201, R207). -/
structure Cue where
  frame : Nat
  line : Nat
  kind : Nat
  target : Nat
  w1 : Word
  w2 : Word
  w3 : Word
  sound : Option Sound
  ring : Option Nat
  handed : Nat
  deriving DecidableEq, Repr

/-- A cue slot that Kettle owns: its frame, the clock of the commit, and whether Kettle has read it (R196). -/
structure CueSlot where
  frame : Nat
  handed : Nat
  read : Bool
  deriving DecidableEq, Repr

/-- An assigned stream ring: its sound, the bytes of the unrolled stream that have arrived, and those that its voice has
passed (R207). -/
structure StreamRing where
  sound : Sound
  filled : Nat
  passed : Nat
  deriving DecidableEq, Repr

/-- The state of a high-pass filter; y in units of 2^-8 (R215). -/
structure Biquad where
  x1 : Int
  x2 : Int
  y1 : Int
  y2 : Int
  deriving DecidableEq, Repr

/-- Kettle (chapter 10). Histories are lists of samples, the latest first. -/
structure Kettle where
  /-- The next period to begin, and the composition clock in which period 0 began (R193). -/
  next : Nat
  origin : Nat
  /-- run has been cleared, and the next period boundary stops Kettle (R223). -/
  stopping : Bool
  /-- The active voices, by number, and the tone and noise channels (R203, R204, R209). -/
  voices : List (Nat × Voice)
  tones : Vector Tone 32
  /-- The values of each bus in its own domain (R210). -/
  buses : Vector (List Int) 32
  /-- The samples of each input, TDM slots 0 to 7 and microphones 0 to 3, in their path to the buses (R210, R212). -/
  inputs : Vector (List Int) 12
  /-- The cues that have not fired, the cue slots that Kettle owns, and the stream rings (R196, R199, R207). -/
  cues : List Cue
  slots : List CueSlot
  rings : Vector (Option StreamRing) 64
  /-- Tone and voice clocks of the last period (R205). -/
  clocks : Nat
  /-- For each audio core, its returns count in the block under way (R213). -/
  returns : Vector Bool 2
  deriving DecidableEq, Repr

/-- Calibration of a modulator or an ADC under way: its steps done, and the periods of the step under way (R221). -/
structure Calibration where
  steps : Nat
  periods : Nat
  deriving DecidableEq, Repr

/-- The analogue core and what stands before it (R211, R215 to R222). -/
structure Analogue where
  /-- The power-up calibration runs, and every enable is held back (R220). -/
  powerUp : Bool
  /-- AAS_CD.enable and mute as the last period boundary took them (R224). -/
  enabled : BitVec 8
  muted : BitVec 8
  /-- Modulators that run at 96 kHz (R211). -/
  fast : BitVec 8
  /-- The filter before each modulator, the filtered samples on their way, and those that it plays in this period. -/
  filters : Vector Biquad 8
  pipes : Vector (List Int) 8
  playing : Vector (List Int) 8
  /-- Samples on their way to each TDM output slot, and those that it sends in this period. -/
  slotPipes : Vector (List Int) 16
  sending : Vector (List Int) 16
  /-- The TDM ports have begun a frame since they were enabled: output, input (R433). -/
  framesOut : Bool
  framesIn : Bool
  /-- Consecutive periods of zero at each modulator, as far as 480 (R221). -/
  zeros : Vector Nat 8
  /-- The DC and the fan filter after each ADC, and AAS_MIC.fan and pga as the last period boundary took them. -/
  micDc : Vector Biquad 4
  micFan : Vector Biquad 4
  fans : Vector Nat 4
  pgas : Vector Nat 4
  /-- Calibrations under way, modulators 0 to 7 and ADCs 8 to 11. -/
  cal : Vector (Option Calibration) 12
  deriving DecidableEq, Repr

def Tone.reset : Tone := ⟨0, 0, 0, 0, 0, 0, 0x1FFFF⟩
def Biquad.reset : Biquad := ⟨0, 0, 0, 0⟩

def Kettle.reset : Kettle where
  next := 0
  origin := 0
  stopping := false
  voices := []
  tones := Vector.replicate 32 Tone.reset
  buses := Vector.replicate 32 []
  inputs := Vector.replicate 12 []
  cues := []
  slots := []
  rings := Vector.replicate 64 none
  clocks := 0
  returns := Vector.replicate 2 false

def Analogue.reset : Analogue where
  powerUp := false
  enabled := 0
  muted := 0
  fast := 0
  filters := Vector.replicate 8 Biquad.reset
  pipes := Vector.replicate 8 []
  playing := Vector.replicate 8 []
  slotPipes := Vector.replicate 16 []
  sending := Vector.replicate 16 []
  framesOut := false
  framesIn := false
  zeros := Vector.replicate 8 0
  micDc := Vector.replicate 4 Biquad.reset
  micFan := Vector.replicate 4 Biquad.reset
  fans := Vector.replicate 4 0
  pgas := Vector.replicate 4 0
  cal := Vector.replicate 12 none

/-! ## Timers, counters and DMA (chapters 14 and 15) -/

/-- A timer, beside its registers (R299 to R309). The TOP and the comparator in effect, the snap, the low halves and the
holds of the captures, down and out stand in the registers. -/
structure Timer where
  count : Nat
  /-- The low halves as staged since device reset, and the TOP that waits in the shadow (R301, R302). -/
  topStaged : Option Word
  cmpStaged : Option Word
  shadow : Option Nat
  /-- Ticks since the rising pin capture that a falling one may pair with (R307). -/
  since : Option Nat
  /-- Bits [47:32] of the captures, and whether each is unread (R308). -/
  rHigh : Nat
  fHigh : Nat
  rUnread : Bool
  fUnread : Bool
  /-- The accepted level of the pin (R306). -/
  level : Bool
  /-- Edges of the internal sources on their way: beam line 0 of D0 to D3, a Kettle period (R306). -/
  edges : BitVec 5
  deriving DecidableEq, Repr

/-- The performance counters, their sticky overflow bits and the histograms' bins (R311 to R317). -/
structure Pmc where
  vals : Vector Word 64
  ovf : BitVec 64
  bins : Vector (Vector Word 16) 4
  deriving DecidableEq, Repr

/-- An open accumulation of a DMA channel: the CRC-32C register, or the bytes read for SHA-256 (R291). -/
inductive Check where
  | crc (r : BitVec 32)
  | sha (bytes : List Byte)
  deriving DecidableEq, Repr

/-- What a DMA channel drains for (R287). -/
inductive Drain where
  | signal
  | finish
  | stop
  | fail (code : Nat)
  deriving DecidableEq, Repr

/-- A DMA channel, beside its registers (R282 to R296). -/
structure DmaChannel where
  /-- Open loops, innermost first: the instruction after LOOP and the passes that remain (R284). -/
  loops : List (Nat × Nat)
  /-- The open accumulation (R291). -/
  check : Option Check
  /-- Bytes of the MOVE in progress that have been read. -/
  moved : Option Nat
  /-- The granules that the channel's share of the FIFO pool holds, read and not yet written, oldest first (R293). -/
  fifo : List (List Byte)
  /-- The last granule written since the last drain (R287). -/
  last : Option Nat
  /-- The drain under way: what it is for (R287). -/
  drain : Option Drain
  /-- run was cleared while an instruction was in progress. -/
  stopDue : Bool
  /-- A begin of SHA-256 waits for a unit (R292). -/
  shaWaits : Bool
  /-- The granules written since the last drain, with their bytes before (R288). -/
  undrained : List (Nat × List Byte)
  /-- The limit of this window, and the granules that its allowance still covers; absent: no cap (R295). -/
  allowance : Option Nat
  /-- The instruction in progress has been fetched, and its store waits for the channel's turn (R294). -/
  fetched : Bool
  deriving DecidableEq, Repr

/-- Bits of a byte as they were before the blit command that writes them, and the pixel of the command that they belong
to (R190). -/
structure OldBits where
  pixel : Nat
  mask : Byte
  old : Byte
  deriving DecidableEq, Repr

/-- The blit engine, beside its registers: the destination bytes of the command in progress with their values before it
(R190), and its tag and irq bit (R181). -/
structure Blit where
  flux : List (Nat × List OldBits)
  tag : Word
  irq : Bool
  deriving DecidableEq, Repr

def Blit.reset : Blit := ⟨[], 0, false⟩

/-- A latched entry whose frame has been sent: its slot and pass, node, endpoint and version, whether the frame is a
hello, the TX descriptor it carries, whether it carries rx_ready, the RX cells reserved for its reply, and its retries so
far (R329, R332, R333). -/
structure HlkCycle where
  slot : Nat
  pass : Nat
  node : Nat
  endpoint : Nat
  version : Nat
  hello : Bool
  desc : Option (Fin 16)
  ready : Bool
  cells : Nat
  tries : Nat
  /-- The payload that the frame carries and its seq, kept for a retry (R333); and which queueing of desc it is. -/
  payload : List Byte
  seq : Nat
  gen : Nat
  deriving DecidableEq, Repr

/-- A Heto link port, beside its registers (chapter 16). -/
structure Hlk where
  /-- The next slot to latch, its pass, and the length of the pass (R327, R330). -/
  next : Nat
  pass : Nat
  len : Nat
  /-- The entry of this cycle's frame, the one whose reply arrives in this cycle, and one to be retried. -/
  cur : Option HlkCycle
  prev : Option HlkCycle
  retry : Option HlkCycle
  /-- run has been cleared; and the last cycle, without a frame of the 7140's own, has begun (R336). -/
  stopping : Bool
  lastCycle : Bool
  /-- For each node: the next outbound seq, the seq of the payload in state sent, and the last inbound seq (R324). -/
  outSeq : Vector Nat 64
  sentSeq : Vector Nat 64
  inSeq : Vector Nat 64
  /-- How often each TX descriptor has been queued (R331). -/
  gens : Vector Nat 16
  /-- The 7140's frame of this cycle, without FCS; empty when there is none (R320 to R323). -/
  frame : List Byte
  deriving DecidableEq, Repr

def Hlk.reset : Hlk where
  next := 0
  pass := 0
  len := 256
  cur := none
  prev := none
  retry := none
  stopping := false
  lastCycle := false
  outSeq := Vector.replicate 64 1
  sentSeq := Vector.replicate 64 0
  inSeq := Vector.replicate 64 0
  gens := Vector.replicate 16 0
  frame := []

/-- How a UDP datagram is addressed: the active port and whether it runs 2500BASE-X, the MAC address it comes from, IPv6 or
IPv4, the device's and the host's address, the next hop's address and its MAC address, and the two UDP ports (R419, R421). -/
structure FloorPath where
  port : Nat
  base2500 : Bool
  mac : List Byte
  ipv6 : Bool
  source : List Word
  host : List Word
  hop : List Word
  hopMac : List Byte
  sourcePort : Nat
  hostPort : Nat
  deriving DecidableEq, Repr

/-- What a frame of address resolution is for: to ask for the next hop, to answer for the device's own address, or to announce
it (R420, R421). -/
inductive Resolution where
  | ask
  | answer
  | announce
  deriving DecidableEq, Repr

/-- A frame of address resolution: the port and whether it runs 2500BASE-X, the device's MAC and IP address, the address that
it asks for or speaks of, and for an answer the IP and the MAC address of the one that asked (R419 to R421). -/
structure NeighbourFrame where
  kind : Resolution
  port : Nat
  base2500 : Bool
  mac : List Byte
  source : List Word
  target : List Word
  asker : Option (List Word × List Byte)
  deriving DecidableEq, Repr

/-- What the floor link puts on its wire: a UDP payload with its addressing, or a frame of ARP, or over IPv6 of neighbour
discovery (R420 to R422). -/
inductive FloorFrame where
  | udp (path : FloorPath) (payload : List Byte)
  | arp (f : NeighbourFrame)
  | neighbour (f : NeighbourFrame)
  deriving DecidableEq, Repr

/-- A message that is not acknowledged, a ledger record apart: its type, its body, and the seq of its fragment 0 once it
has been sent (R422 to R425). -/
structure FloorMsg where
  type_ : Nat
  body : List Byte
  msg : Option Nat
  deriving DecidableEq, Repr

/-- The floor link, beside its registers (chapter 20). -/
structure Flr where
  /-- Datagrams sent since reset release, and bits [31:0] of the last host datagram accepted in this boot (R422). -/
  sent : Nat
  lastHost : Option Nat
  /-- Messages in order of creation, and the ledger record under way: its boot counter and its msg (R424). -/
  queue : List FloorMsg
  ledger : Option (Nat × Nat)
  /-- The part of the open game's record being filled, and its items (R425). -/
  part : Nat
  items : List (List Byte)
  /-- The buffer could not take an item or a message (R425). -/
  full : Bool
  /-- The uptime at which ready was entered, the checkpoint periods that have passed since, and the body of a checkpoint
  that waits to be signed (R427). -/
  readyAt : Nat
  periods : Nat
  ckpt : Option (List Byte)
  /-- The host key: its set and its bytes (R428). -/
  hostKey : Option (Nat × List Byte)
  /-- What the last sending put on the wire (R420 to R422). -/
  wire : List FloorFrame
  /-- The next hop that has been resolved, with its MAC address (R421). -/
  hop : Option (List Word × List Byte)
  /-- The session's first HELLO has not gone out, for want of a port that is up (R424). -/
  helloDue : Bool
  deriving DecidableEq, Repr

def Flr.reset : Flr where
  sent := 0
  lastHost := none
  queue := []
  ledger := none
  part := 0
  items := []
  full := false
  readyAt := 0
  periods := 0
  ckpt := none
  hostKey := none
  wire := []
  hop := none
  helloDue := false

def Timer.reset : Timer where
  count := 0
  topStaged := none
  cmpStaged := none
  shadow := none
  since := none
  rHigh := 0
  fHigh := 0
  rUnread := false
  fUnread := false
  level := false
  edges := 0

def Pmc.reset : Pmc where
  vals := Vector.replicate 64 0
  ovf := 0
  bins := Vector.replicate 4 (Vector.replicate 16 0)

def DmaChannel.reset : DmaChannel where
  loops := []
  check := none
  moved := none
  fifo := []
  last := none
  drain := none
  stopDue := false
  shaWaits := false
  undrained := []
  allowance := none
  fetched := false

end Sys2Proof.Machine
end

