-- ==== Sys2Proof/Machine/State.lean ====
section
/-! DEFINITION. The whole state of the block as plain data, the faults and refusals, and the state after reset. -/
namespace Sys2Proof.Machine

/-- The state. Arrays are sparse tables or vectors; no field is a function. -/
structure State where
  /-- The commands that wait, first in, first out. -/
  pending : List Instr
  /-- The model's own counter: which free value comes next. -/
  free : Nat
  /-- The model's time: the latest composition clock that a command has reached. -/
  clock : Nat
  /-- The value that the last register read command returned on the bus. -/
  rdata : Word
  /-- Registers of the I/O space that do not hold their reset value, by key (R11). -/
  regs : List (Nat × Word)
  /-- Data space and the cores' X and Y RAMs, by key (R24, R37, R228). -/
  mem : List Host.Cell
  /-- The lines of the L2, by line number (R230). -/
  l2 : List (Nat × L2Line)
  /-- The ten cores (R225). -/
  cores : Vector Core 10
  /-- The core that an empty queue's step turns to next: the model's own (R236 gives no order among cores). -/
  turn : Fin 10
  /-- The interrupt controller (R263). -/
  irq : Irq
  /-- Power, clocks and supplies (R441). -/
  pwr : Power
  /-- The tilt latch (R468). -/
  tilt : Tilt
  /-- The MRAM, meters, ledger and door latches (chapter 19). -/
  ldg : Ledger
  /-- The trust cluster (chapter 18). -/
  sec : Trust
  /-- Start-up and sparge (chapter 17). -/
  cfg : Boot
  /-- The DRAM arbiter (chapter 2). -/
  mc : MemCtl
  /-- The pattern cache: for each set (address bits 20 to 6) its lines, most recently read first (R72). -/
  pat : List (Nat × List PatLine)
  /-- The four display clusters (chapters 3 to 8). -/
  clu : Vector Cluster 4
  /-- Kettle and the analogue core (chapter 10). -/
  ktl : Kettle
  aas : Analogue
  /-- The timers and the performance counters (chapter 15). -/
  tmr : Vector Timer 16
  pmc : Pmc
  /-- The DMA channels (chapter 14). -/
  dma : Vector DmaChannel 32
  /-- The channel that the DMA engine served last (R294). -/
  dmaLast : Fin 32
  /-- The blit engine (chapter 9). -/
  blt : Blit
  /-- The Heto link ports (chapter 16). -/
  hlk : Vector Hlk 8
  /-- The floor link (chapter 20). -/
  flr : Flr
  deriving DecidableEq, Repr

/-- Why the machine stops: cases for which the manual says that the outcome is unpredictable and gives no effect. -/
inductive Fault where
  /-- An access to the unpopulated DRAM range or an unmapped range (chapter 2). Raised by every data access. Safe. -/
  | unmappedData
  /-- An access to a shared SRAM region that R24 closes, or outside its regions (chapter 1). Safe. -/
  | closedSram
  /-- A write into an ephemeris stream buffer (chapter 1). Raised by stores. Safe. -/
  | streamBufferWrite
  /-- A write into image content (R21). Raised by stores, DMA and the blit engine. Safe. -/
  | imageContentWrite
  /-- An access to a shared SRAM bank whose domain is off (R26). Safe. -/
  | sramBankOff
  /-- An IN or OUT to a device register with a width other than 32 bits (R7). Raised by IN and OUT. Safe. -/
  | ioWidth
  /-- A 1 written to a reserved bit (R10). Raised by register writes. Safe. -/
  | reservedBit
  /-- An audio core's store to the resident area, or access to the other core's exchange area (chapter 11). Safe. -/
  | audioArea
  /-- A store into Kettle's stream area (R206, chapter 10). Raised by stores, DMA and the blit engine. Safe. -/
  | kettleAreaWrite
  /-- A target field of 10 to 15, or a doorbell that names core 10 to 15 (chapter 13). Raised by INT writes. Safe. -/
  | targetCore
  /-- A write to SYS_CMO_LO, SYS_CMO_HI or SYS_CMO_SIZE while busy is 1 (chapter 11). Raised by SYS writes. Safe. -/
  | cacheRangeBusy
  /-- A write to ENTRY, VBASE, XPC or XSR of a core that runs, by another core (chapter 11). Raised by SYS writes. Safe. -/
  | foreignCoreWrite
  /-- A locked sequence whose requests address more than one channel (chapter 2). Raised by MEMORY_REQUEST. Safe. -/
  | lockedChannels
  /-- A sequencer started on a cluster whose DSP_CTRL.mode is 0 (chapter 7). Raised by EPH_CTRL writes. Safe. -/
  | sequencerDark
  /-- A comet context whose format, mode or pitch R78 and R79 do not allow (chapter 4). Raised by RASTERISE_BAND. Safe. -/
  | cometContext
  /-- A partition smaller than the smallest legal one, or one that shares a unit or exceeds the pool (chapter 6).
  Raised by RASTERISE_BAND. Safe. -/
  | partitionForm
  /-- A writeback range outside populated DRAM or over image content (chapter 6). Raised by COMPOSE_BAND. Safe. -/
  | writebackRange
  /-- A frame header, band-table entry, band record or patch list that breaks R96 to R106 in a way that R109 does not
  check (chapter 5). Raised by TAKE. Safe. -/
  | ephemerisForm
  /-- A cue slot, sound or cue that breaks R195 to R209 in a way that R201 does not cover, or a send to a bus of another
  domain (chapter 10). Raised by CUE_SLOT_READ and PERIOD. Safe. -/
  | kettleForm
  /-- A change of the display mode or timing while the sequencer runs, of the link's settings while the mode is not 0, of
  gang while an output of the pair is not at mode 0 (R160, R165), or a DSP_APPLY.line that the running beam does not
  reach (chapter 7). Raised by DSP writes. Safe. -/
  | displayChange
  /-- A write of a TOP's or comparator's high half whose low half has not been written since device reset, or a reserved
  mode (chapter 15). Raised by TMR writes. Safe. -/
  | timerForm
  /-- A MOVE whose source and destination overlap or whose pointer wraps, or FIFO shares that overlap (chapter 14).
  Raised by MOVE and the channel start. Safe. -/
  | dmaForm
  /-- A blit command whose source and destination share bytes without being one surface (chapter 9). Raised by COPY, FILL
  and BLEND. Safe. -/
  | blitForm
  /-- A slot of kind 3, a payload longer than its node's largest, or HLK_RX_TAIL set beyond HLK_RX_HEAD (chapter 16).
  Raised by BEACON and RX_TAIL_WRITE. Safe. -/
  | hetoForm
  /-- The floor link started with a buffer outside populated DRAM or over image content, or switched to a port that is
  down (chapter 20). Raised by FLOOR_START and PORT_SWITCH. Safe. -/
  | floorForm
  /-- A write to MEM_CFG before locked is set, other than the boot ROM sequencer's (chapter 2). Raised by MEM writes. Safe. -/
  | memConfig
  deriving DecidableEq, Repr

/-- Why a command is rejected. -/
inductive Refusal where
  /-- The command has no meaning in the model yet. Safe: nothing is claimed of it. -/
  | notModelled (mnemonic : String)
  deriving DecidableEq, Repr

/-- The machine right after device reset, PD0 powered for the first time (R11, R237, R461). -/
def State.reset : State where
  pending := []
  free := 0
  clock := 0
  rdata := 0
  regs := []
  mem := []
  l2 := []
  cores := Vector.replicate 10 Core.reset
  turn := 0
  irq := Irq.reset
  pwr := Power.reset
  tilt := ⟨none⟩
  ldg := Ledger.reset
  sec := Trust.reset
  cfg := Boot.reset
  mc := MemCtl.reset
  pat := []
  clu := Vector.replicate 4 Cluster.reset
  ktl := Kettle.reset
  aas := Analogue.reset
  tmr := Vector.replicate 16 Timer.reset
  pmc := Pmc.reset
  dma := Vector.replicate 32 DmaChannel.reset
  dmaLast := 31
  blt := Blit.reset
  hlk := Vector.replicate 8 Hlk.reset
  flr := Flr.reset

end Sys2Proof.Machine
end

