-- ==== Sys2Proof/Machine/Regs.lean ====
section
/-! DEFINITION. Reading and writing the registers of the I/O space by their tables (R8 to R11). -/
namespace Sys2Proof.Machine

abbrev Out := Host.Outcome State Fault Refusal

/-- The port of core k's own instance of a register marked own (R498), as a key of the register table; k = 10 is the
debug port, where a hold register needs a place of its own. -/
def own (k port : Nat) : Nat := port + 0x1000000 * (k + 1)

/-- The rows of the block of port p that name p: base, instances, offsets (R496). -/
def RegSpec.names (r : RegSpec) (p : Nat) : Bool :=
  decide (r.base ≤ p) &&
  (match r.inst with
  | [] => decide (p = r.base)
  | [(a, n)] => decide ((p - r.base) % a = 0) && decide ((p - r.base) / a < n)
  | (a, n) :: (b, m) :: _ =>
    decide ((p - r.base) / a < n) && decide (((p - r.base) % a) % b = 0) && decide (((p - r.base) % a) / b < m))

/-- The table row of port p, if a register is named there (R497). -/
def specOf (p : Nat) : Option RegSpec := (specsOf p).find? (fun r => r.names p)

/-- The reset ranks of R40. -/
def resetRank (id : Nat) : Nat :=
  if id ≤ 3 then 12 else if id ≤ 7 then 11 else if id = 8 then 9 else if id = 9 then 5 else if id = 10 then 7
  else if id = 11 then 13 else if id = 12 then 8 else 6

/-- The edge sources of R278; 16 to 18 and the doorbells are private. -/
def edgeSource (s : Nat) : Bool :=
  decide (s ≤ 18) || decide (s = 109) || decide (s = 111) || decide (s = 112) || (decide (128 ≤ s) && decide (s ≤ 255))

/-- The async sources of R278. -/
def asyncSource (s : Nat) : Bool :=
  decide (s = 109) || decide (s = 111) || decide (s = 112) || (decide (128 ≤ s) && decide (s ≤ 255))

/-- The value of a register whose reset value its table gives by a table row. -/
def tableReset (p : Nat) : Word :=
  match specOf p with
  | none => 0
  | some r => BitVec.ofNat 32 (r.fields.foldl (fun n f => n + f.rst <<< f.fld.lo) 0)

/-- The value of a register after device reset, or after power first reaches PD0 (R11), by key. -/
def resetOf (key : Nat) : Word :=
  let p := key % 0x1000000
  if 0x60100 ≤ p ∧ p < 0x60144 then BitVec.ofNat 32 (0x11 * resetRank ((p - 0x60100) / 4))
  else if 0x30000 ≤ p ∧ p < 0x30800 then
    BitVec.ofNat 32 (0x200 * b2n (edgeSource ((p - 0x30000) / 4)) + 0x400 * b2n (asyncSource ((p - 0x30000) / 4)))
  else if 0x30800 ≤ p ∧ p < 0x30D00 then
    BitVec.ofNat 32 (0x10 * ((p - 0x30800) / 0x80) + 0x200 * b2n (edgeSource (((p - 0x30800) % 0x80) / 4)))
  else tableReset p

/-- The stored value of the register with this key. -/
def getReg (s : State) (key : Nat) : Word := (Tab.find s.regs key).getD (resetOf key)

/-- Store a value in the register with this key. -/
def setReg (s : State) (key : Nat) (v : Word) : State :=
  { s with regs := Tab.set s.regs (resetOf key) key v }

/-- A field of a stored register. -/
def getF (s : State) (key : Nat) (f : Fld) : Nat := f.get (getReg s key)

/-- A one-bit field of a stored register. -/
def onF (s : State) (key : Nat) (f : Fld) : Bool := f.on (getReg s key)

/-- Set a field of a stored register. -/
def setF (s : State) (key : Nat) (f : Fld) (n : Nat) : State := setReg s key (f.put n (getReg s key))

/-- Add to a counting field, saturating at its largest value. -/
def addF (s : State) (key : Nat) (f : Fld) (n : Nat) : State :=
  setF s key f (Nat.min (getF s key f + n) (2 ^ f.len - 1))

/-- What a write of v does to one field of the old value, by its access type (R8). -/
def Access.write (a : Access) (f : Fld) (v old : Word) : Word :=
  match a with
  | .rw => f.put (f.get v) old
  | .w1s => old ||| (v &&& f.mask)
  | .w1c => old &&& ~~~ (v &&& f.mask)
  | .ro => old
  | .wo => old
  | .rc => old

/-- What a write of v leaves in a register (R8). -/
def RegSpec.write (r : RegSpec) (v old : Word) : Word :=
  r.fields.foldl (fun w f => f.acc.write f.fld v w) old

/-- What a read returns of one field: zero for WO, the field otherwise (R8). -/
def RField.seen (f : RField) (w : Word) : Word :=
  match f.acc with
  | .wo => 0
  | _ => w &&& f.fld.mask

/-- What a read of a register returns: its fields, reserved bits zero (R8, R10). -/
def RegSpec.seen (r : RegSpec) (w : Word) : Word := r.fields.foldl (fun x f => x ||| f.seen w) 0

/-- What a read leaves in a register: RC fields cleared (R8). -/
def RegSpec.afterRead (r : RegSpec) (w : Word) : Word :=
  r.fields.foldl (fun x f => if f.acc = .rc then f.fld.put 0 x else x) w

/-- The bits of a register that no field names (R10). -/
def RegSpec.reserved (r : RegSpec) : Word := ~~~ (r.fields.foldl (fun x f => x ||| f.fld.mask) 0)

/-- A table write of v to the register at key. -/
def tableWrite (key : Nat) (v : Word) (s : State) : State :=
  match specOf (key % 0x1000000) with
  | none => s
  | some r => setReg s key (r.write v (getReg s key))

/-- The fields that take a code, or a count of things that exist: the first port of the register's row, the field, and the
values that its table lists (chapter 0, Cases left unpredictable). A field whose value is a number in an expression takes
any value: DEDUCED, its range is what the manual asks of software. -/
def listedCodes : List (Nat × Fld × List Nat) := [
  (P.PLN_CTRL 0 0, F.PLN_CTRL_format, List.range 6),
  (P.DSP_CTRL 0, F.DSP_CTRL_mode, List.range 3),
  (P.DSP_LINK 0, F.DSP_LINK_rate, [0, 1, 2, 3, 8, 9]),
  (P.BLT_RING_SIZE, F.BLT_RING_SIZE_log2, List.range 13),
  (P.KTL_FX_CFG 0, F.KTL_FX_CFG_in_count, List.range 9),
  (P.KTL_FX_CFG 0, F.KTL_FX_CFG_ret_count, List.range 9),
  (P.KTL_FX_CFG 0, F.KTL_FX_CFG_block, List.range 3),
  (P.KTL_BUS 0, F.KTL_BUS_domain, List.range 3),
  (P.PMC_HIST_CFG 0, F.PMC_HIST_CFG_req, List.range 17),
  (P.PIN_CFG 0, F.PIN_CFG_pull, List.range 3)]

/-- The rows of listedCodes of the register at port p. -/
def codesOf (p : Nat) : List (Nat × Fld × List Nat) :=
  match specOf (p % 0x1000000) with
  | none => []
  | some r => listedCodes.filter (fun e => decide (e.1 = r.base))

/-- No field of the register at port p is written with a code that its table does not list. -/
def encodingOk (p : Nat) (v : Word) : Bool := (codesOf p).all (fun e => e.2.2.contains (e.2.1.get v))

/-- The word that a write of v to port p leaves to be stored: a field given a code that its table does not list takes one
of those listed, which one the manual does not say. DESIGN CHOICE. -/
def listedWord (p : Nat) (v : Word) (s : State) : Word :=
  (codesOf p).foldl (fun w e =>
    if e.2.2.contains (e.2.1.get w) then w
    else e.2.1.put (e.2.2.getD (Config.unlistedCode s.free p % e.2.2.length) 0) w) v

/-- The state after a free code has been drawn for a write of v to port p, if one was needed. -/
def drawCode (p : Nat) (v : Word) (s : State) : State := if encodingOk p v then s else { s with free := s.free + 1 }

/-- A table write of v to the register at key, its codes listed ones. -/
def codeWrite (key : Nat) (v : Word) (s : State) : State :=
  tableWrite key (listedWord (key % 0x1000000) v s) (drawCode (key % 0x1000000) v s)

/-- A table read of the register at key: the value returned, and the state after it. -/
def tableRead (key : Nat) (s : State) : Word × State :=
  match specOf (key % 0x1000000) with
  | none => (0, s)
  | some r => (r.seen (getReg s key), setReg s key (r.afterRead (getReg s key)))

end Sys2Proof.Machine
end

