-- ==== Sys2Proof/Machine/Ops.lean ====
section
/-! DEFINITION. The named operations over memory, registers, domains, interrupts and tilt, and the exception entry. -/
namespace Sys2Proof.Machine

/-! ## Power domains -/

/-- The domain of a cluster's composer units, comet unit and display output (R441). -/
def pdComposer (d : Nat) : Nat := 12 + d
def pdComet (d : Nat) : Nat := 16 + d
def pdOutput (d : Nat) : Nat := 30 + d

/-- The domain of core k: PD3 + k for C0 to C7, PD34 for A0 and A1 (R441). -/
def pdCore (k : Nat) : Nat := if k < 8 then 3 + k else 34

/-- CFG_STAT.stage. -/
def bootStage (s : State) : Nat := getF s P.CFG_STAT F.CFG_STAT_stage

/-- PDd is on, not under self-test and, outside PD0, not held by device reset (R12, R441, R476). -/
def State.powered (s : State) (d : Nat) : Bool :=
  s.pwr.doms.getLsbD d && !s.pwr.testing.getLsbD d && (decide (d = 0) || !s.pwr.inReset)

/-- Non-volatile commits are held: a rail is in warning, or a recovery hold is due or runs (R455, R456). -/
def State.supplyHeld (s : State) : Bool := decide (s.pwr.inWarn ≠ 0) || s.pwr.holdDue || s.pwr.holdLeft.isSome

/-- The power domain of a port's register (R496, R498); none where no block lies. -/
def domainOf (p : Nat) : Option Nat :=
  if p ≤ 0xFFFF then (if 0x8000 ≤ p ∧ p ≤ 0x80FF then some 0 else some 11)
  else if p ≤ 0x1FFFF then (if 0x18000 ≤ p ∧ p ≤ 0x180FF then some 0 else some 11)
  else if p ≤ 0x2FFFF then some 0
  else if p ≤ 0x3FFFF then (if 0x31400 ≤ p ∧ p ≤ 0x3141F then some 0 else some 11)
  else if p ≤ 0x5FFFF then some 11
  else if p ≤ 0x7FFFF then some 36
  else if p ≤ 0x8FFFF then some 29
  else if p ≤ 0x9FFFF then some 28
  else if p ≤ 0xAFFFF then some 11
  else if p ≤ 0xBFFFF then some 37
  else if p ≤ 0xCFFFF then some 38
  else if p ≤ 0xDFFFF then some 2
  else if p ≤ 0xEFFFF then (if 0xE8000 ≤ p ∧ p ≤ 0xE80FF then some 0 else some 1)
  else if p ≤ 0xFFFFF then none
  else if p ≤ 0x13FFFF then
    (if 0x10F000 ≤ p ∧ p ≤ 0x10F00B then some 11 else some (pdComposer ((p - 0x100000) / 0x10000)))
  else if p ≤ 0x17FFFF then some (pdComet ((p - 0x140000) / 0x10000))
  else if p ≤ 0x19FFFF then some (pdComposer ((p - 0x180000) / 0x8000))
  else if p ≤ 0x1BFFFF then
    (if 0x1A7000 ≤ p ∧ p ≤ 0x1A701F then some 11 else some (pdComposer ((p - 0x1A0000) / 0x8000)))
  else if p ≤ 0x1DFFFF then some (pdOutput ((p - 0x1C0000) / 0x8000))
  else if p ≤ 0x1FFFFF then some (pdComposer ((p - 0x1E0000) / 0x8000))
  else if p ≤ 0x23FFFF then some 34
  else if p ≤ 0x24FFFF then some 35
  else if p ≤ 0x2FFFFF then none
  else if p ≤ 0x3EFFFF then some 39
  else if p ≤ 0x3FFFFF then some 2
  else none

/-- The domain of port p is on; a register of a domain that is off reads zero and discards writes (R12). -/
def State.portOn (s : State) (p : Nat) : Bool :=
  match domainOf p with
  | some d => s.powered d
  | none => false

/-- The CPU clock runs: the CPU PLL is not stopped (R445, R447). -/
def State.cpuClock (s : State) : Bool := !s.pwr.stopped.getLsbD 0

/-- The PLLs that run again with those of a set (0 CPU, 1 composition, 2 memory, 3 audio): composition stops only while CPU
and audio are stopped, and memory only while composition is (R445). -/
def pllsWith (m : BitVec 4) : BitVec 4 := if m.getLsbD 0 || m.getLsbD 3 then m ||| 6 else if m.getLsbD 1 then m ||| 4 else m

/-- The stopped PLLs of a set, and those that run with them, are enabled (R445, R447). -/
def State.restartPlls (m : BitVec 4) (s : State) : State :=
  { s with pwr := { s.pwr with restarting := s.pwr.restarting ||| (pllsWith m &&& s.pwr.stopped) } }

/-- An access to KTL or AAS restarts the audio PLL (R445). -/
def State.audioAccess (s : State) : State := s.restartPlls 8

/-- What an access to port p does besides: one to KTL or AAS is a demand for the audio PLL (R445). -/
def State.accessed (p : Nat) (s : State) : State := if 0x200000 ≤ p ∧ p ≤ 0x24FFFF then s.audioAccess else s

/-! ## Cores -/

/-- Core k with its state replaced. -/
def State.setCore (s : State) (k : CoreId) (c : Core) : State := { s with cores := s.cores.set k c }

/-- The flags and mode bits of SR (R225). -/
def Core.fV (c : Core) : Bool := c.sr.getLsbD 0
def Core.fC (c : Core) : Bool := c.sr.getLsbD 1
def Core.fZ (c : Core) : Bool := c.sr.getLsbD 2
def Core.fN (c : Core) : Bool := c.sr.getLsbD 3
def Core.user (c : Core) : Bool := c.sr.getLsbD 4
def Core.ie (c : Core) : Bool := c.sr.getLsbD 5
def Core.ex (c : Core) : Bool := c.sr.getLsbD 6

/-- SR from its fields. -/
def mkSr (v c z n user ie ex : Bool) : BitVec 7 :=
  BitVec.ofNat 7 (b2n v + 2 * b2n c + 4 * b2n z + 8 * b2n n + 16 * b2n user + 32 * b2n ie + 64 * b2n ex)

/-- The longest time in CPU clocks for which a pad follows an earlier value of a port: 2 and the 21 of the slowest pad
(R238, R438). -/
def padMemory : Nat := 23

/-- Earlier values of a port n CPU clocks on. -/
def agePast (n : Nat) (l : List (Nat × Vector Word 4)) : List (Nat × Vector Word 4) :=
  (l.map (fun e => (e.1 + n, e.2))).filter (fun e => e.1 ≤ padMemory)

/-- The port's value d CPU clocks ago. -/
def Core.portAt (c : Core) (d : Nat) : Vector Word 4 :=
  match (c.privPast.filter (fun e => e.1 ≤ d)).getLast? with
  | some e => e.2
  | none => c.privOut

/-- The base port of core k's SYS bank (R240). -/
def sysBank (k : Nat) : Nat := 0x1000 + 0x100 * k

/-! ## Memory -/

/-- The first and the last byte of shared SRAM, and the size of a bank (R24). -/
def sramBase : Nat := 0x8000000000
def sramSize : Nat := 0x3000000
def bankSize : Nat := 0x600000

/-- What an unlisted byte reads as: zero in shared SRAM (R502), nothing that the manual gives elsewhere (R501, R237). -/
def absentByte (key : Nat) : Option Byte :=
  if sramBase ≤ key ∧ key < sramBase + sramSize then some 0 else none

/-- The key of a byte of core k's X or Y RAM: its data address in a copy of the data space of its own (R228). -/
def ramKey (k a : Nat) : Nat := a + 0x10000000000 * (k + 1)

/-- The key lies in a stream buffer into which its sequencer has copied records, whose place in it the manual does not
give (R110). -/
def State.streamed (s : State) (key : Nat) : Bool :=
  decide (0x8002800000 ≤ key) &&
  (match s.clu[(key - 0x8002800000) / 0x100000]? with
  | some c => c.streamed
  | none => false)

/-- The byte stored at a key. -/
def State.stored (s : State) (key : Nat) : Byte :=
  match Tab.find s.mem key with
  | some b => b
  | none =>
    match absentByte key with
    | some b => if s.streamed key then Config.undefByte s.free key else b
    | none => Config.undefByte s.free key

/-- A byte with the bits of a pixel as they were, when that is what a reader sees of the pixel (R190). -/
def OldBits.seen (free : Nat) (b : Byte) (o : OldBits) : Byte :=
  if Config.blitOld free o.pixel then (b &&& ~~~o.mask) ||| (o.old &&& o.mask) else b

/-- The byte that a reader finds at a key: what is stored there, each pixel that a blit command in progress writes with
either its new value or the one before (R190). -/
def State.byte (s : State) (key : Nat) : Byte :=
  match Tab.find s.blt.flux key with
  | some l => l.foldl (OldBits.seen s.free) (s.stored key)
  | none => s.stored key

/-- The memory with one byte written, in canonical form. -/
def Memory.write (m : List Host.Cell) (key : Nat) (b : Byte) : List Host.Cell :=
  if absentByte key = some b then Tab.erase m key else Tab.insert m key b

/-- The canonical form of memory: addresses strictly rising, no entry equal to what an unlisted address reads as. -/
def Memory.wf (m : List Host.Cell) : Bool :=
  Tab.sortedFrom 0 m && m.all (fun e => decide (absentByte e.1 ≠ some e.2))

/-- The memory with bytes written from a key upward. -/
def Memory.writeBytes (m : List Host.Cell) (key : Nat) : List Byte → List Host.Cell
  | [] => m
  | b :: bs => Memory.writeBytes (Memory.write m key b) (key + 1) bs

/-- The state with bytes written from a key upward. -/
def State.writeBytes (s : State) (key : Nat) (bs : List Byte) : State :=
  { s with mem := Memory.writeBytes s.mem key bs }

/-- The n bytes from a key upward. -/
def State.readBytes (s : State) (key : Nat) : Nat → List Byte
  | 0 => []
  | n + 1 => s.byte key :: s.readBytes (key + 1) n

/-- The little-endian number of n bytes at a key. -/
def State.readLe (s : State) (key n : Nat) : Nat := leToNat (s.readBytes key n)

/-- The 32-bit word at a key. -/
def State.word (s : State) (key : Nat) : Word := BitVec.ofNat 32 (s.readLe key 4)

/-- An edge of an internal capture source, 0 to 3 for beam line 0 of D0 to D3 and 4 for a Kettle period, sets out for the
timers, which capture while the CPU clock runs (R299, R306). -/
def State.captureEdge (s : State) (i : Nat) : State :=
  if s.powered 11 && s.cpuClock then
    { s with tmr := s.tmr.map (fun t => { t with edges := t.edges ||| BitVec.ofNat 5 (1 <<< i) }) }
  else s

/-- The state whose next free values differ from those drawn so far. -/
def State.draw (s : State) : State := { s with free := s.free + 1 }

/-- The DRAM capacity in bytes that MEM_CFG selects (R36, R37). -/
def State.dramSize (s : State) : Nat :=
  let ch := getF s P.MEM_CFG F.MEM_CFG_channels
  let den := getF s P.MEM_CFG F.MEM_CFG_density
  (if ch = 1 then 2 else if ch = 2 then 4 else 0) * (if den ≤ 2 then 0x80000000 <<< den else 0)

/-- The regions of data space (chapter 2's map and R24, R206, R228). -/
inductive Region where
  | dram
  | comets
  | patternCache
  | lineBuffer
  | stream (d : Nat)
  | resident
  | exchange (a : Nat)
  | streamRings
  | l2Array
  | xRam
  | yRam
  | unmapped
  deriving DecidableEq, Repr

/-- The region of a data-space address. -/
def State.region (s : State) (a : Nat) : Region :=
  if a < s.dramSize then .dram
  else if 0x7FFFFF0000 ≤ a ∧ a ≤ 0x7FFFFF3FFF then .xRam
  else if 0x7FFFFF8000 ≤ a ∧ a ≤ 0x7FFFFFBFFF then .yRam
  else if a < 0x8000000000 then .unmapped
  else if a ≤ 0x80007FFFFF then .comets
  else if a ≤ 0x8001FFFFFF then .patternCache
  else if a ≤ 0x80027FFFFF then .lineBuffer
  else if a ≤ 0x8002BFFFFF then .stream ((a - 0x8002800000) / 0x100000)
  else if a ≤ 0x8002D5FFFF then .resident
  else if a ≤ 0x8002D6FFFF then .exchange 0
  else if a ≤ 0x8002D7FFFF then .exchange 1
  else if a ≤ 0x8002DFFFFF then .streamRings
  else if a ≤ 0x8002FFFFFF then .l2Array
  else .unmapped

/-- The region lies in shared SRAM. -/
def Region.sram : Region → Bool
  | .dram | .xRam | .yRam | .unmapped => false
  | _ => true

/-- The bank of a shared SRAM address is on (R24, R26). -/
def State.bankOn (s : State) (a : Nat) : Bool := s.powered (20 + (a - sramBase) / bankSize)

/-- The address lies in a region that the manifest marks as image content (R21). -/
def State.imageContent (s : State) (a : Nat) : Bool :=
  s.cfg.sections.any (fun e => decide (2 ≤ e.role) && decide (e.role ≤ 5) && decide (e.dst ≤ a) &&
    decide (a < e.dst + e.len))

/-- Some byte of a range is image content (R21). -/
def State.imageIn (s : State) (a n : Nat) : Bool :=
  s.cfg.sections.any (fun e => decide (2 ≤ e.role) && decide (e.role ≤ 5) && decide (e.dst < a + n) &&
    decide (a < e.dst + e.len))

/-! ## Interrupt sources -/

/-- The key of a source as core k names it: private sources below 32 have a bank per core (R263). -/
def srcKey (k n : Nat) : Nat := if n < 32 then 512 + 32 * k + n else n

/-- The source number of a key. -/
def keySrc (key : Nat) : Nat := if key < 512 then key else (key - 512) % 32

/-- The core whose private bank a key lies in. -/
def keyBank (key : Nat) : Nat := (key - 512) / 32

/-- The register key of the word of an array that holds a source, and the bit within it (R274). -/
def arrayKey (base key : Nat) : Nat :=
  if key < 512 then base + 4 * (key / 32) else own (keyBank key) base
def arrayBit (key : Nat) : Nat := keySrc key % 32

/-- A source's bit in an array. -/
def getSrcBit (base key : Nat) (s : State) : Bool :=
  (getReg s (arrayKey base key)).getLsbD (arrayBit key)

/-- Set or clear a source's bit in an array. -/
def setSrcBit (base key : Nat) (b : Bool) (s : State) : State :=
  setF s (arrayKey base key) ⟨arrayBit key, arrayBit key⟩ (b2n b)

/-- The stored pending bit, the enable bit and the active bit of a source. -/
def pendBit (s : State) (key : Nat) : Bool := getSrcBit (P.INT_PEND_SET 0) key s
def enBit (s : State) (key : Nat) : Bool := getSrcBit (P.INT_EN_SET 0) key s
def activeBit (s : State) (key : Nat) : Bool := getSrcBit (P.INT_ACTIVE 0) key s

/-- Set a source's pending bit: an edge of its line, a doorbell or a 1 written to INT_PEND_SET (R264, R265, R270). -/
def setPending (key : Nat) (s : State) : State :=
  if s.powered 11 then setSrcBit (P.INT_PEND_SET 0) key true s else s

/-- An edge of a private source of core k (R263, R264). -/
def raisePrivate (k n : Nat) (s : State) : State := setPending (srcKey k n) s

/-- An edge captured in a PD0 latch (R277). -/
def latchEdge (n : Nat) (s : State) : State :=
  { s with irq := { s.irq with latches := Tab.set s.irq.latches false n true } }

/-- A wake event that PWR_WAKE_EN enables ends Eclipse; one that arrives during entry waits for it (R449). -/
def wakeEvent (en : Fld) (code : Nat) (s : State) : State :=
  if onF s P.PWR_WAKE_EN en && (decide (s.pwr.mode = .eclipse) || s.pwr.eclipseDue) && s.pwr.wakeDue.isNone then
    { s with pwr := { s.pwr with wakeDue := some code } }
  else s

/-- An edge of an async source reaches its latch; one of a GP pin is a wake event too (R277, R449). -/
def latchAsync (n : Nat) (s : State) : State :=
  if 128 ≤ n then wakeEvent F.PWR_WAKE_EN_wake_gpio 3 (latchEdge n s) else latchEdge n s

/-! ## Tilt -/

/-- Tilt stands. -/
def State.tilted (s : State) : Bool := s.tilt.code.isSome

end Sys2Proof.Machine
end

