-- ==== Sys2Proof/Machine/PmcBase.lean ====
section
/-! DEFINITION. Counting an event in the performance counters (R311 to R314). -/
namespace Sys2Proof.Machine

/-- Counter c is the upper half of a chained pair, or the lower half of one (R314). -/
def pmcUpper (s : State) (c : Nat) : Bool := decide (c % 2 = 1) && onF s (P.PMC_CFG c) F.PMC_CFG_chain
def pmcChained (s : State) (c : Nat) : Bool := decide (c % 2 = 0) && onF s (P.PMC_CFG (c + 1)) F.PMC_CFG_chain

/-- Counter c counts at all (R311, R314). -/
def pmcOn (s : State) (c : Nat) : Bool :=
  onF s P.PMC_CTRL F.PMC_CTRL_enable && onF s (P.PMC_CFG c) F.PMC_CFG_en && !pmcUpper s c

/-- Counter c counts event ev; for a core event, of this core (R312). -/
def pmcCounts (s : State) (c ev core : Nat) : Bool :=
  pmcOn s c && decide (getF s (P.PMC_CFG c) F.PMC_CFG_event = ev) && decide (ev ≠ 0) &&
  (decide (16 ≤ ev) || decide (getF s (P.PMC_CFG c) F.PMC_CFG_core = core))

/-- Counter c, or the pair that it begins, n further: its overflow bit is set when it wraps (R313, R314). -/
def Pmc.add (p : Pmc) (pair : Bool) (c : Fin 64) (n : Nat) : Pmc :=
  let v := p.vals[c].toNat + n
  if h : pair = true ∧ c.val + 1 < 64 then
    let u := p.vals[c.val + 1].toNat + v / 4294967296
    { p with
      vals := (p.vals.set c (BitVec.ofNat 32 v)).set (c.val + 1) (BitVec.ofNat 32 u)
      ovf := if 4294967296 ≤ u then p.ovf ||| BitVec.ofNat 64 (1 <<< (c.val + 1)) else p.ovf }
  else
    { p with
      vals := p.vals.set c (BitVec.ofNat 32 v)
      ovf := if 4294967296 ≤ v then p.ovf ||| BitVec.ofNat 64 (1 <<< c.val) else p.ovf }

/-- The counters after n occurrences of an event; they hold while the CPU clock is stopped (R447). -/
def pmcAfter (s : State) (ev core n : Nat) : Pmc :=
  if !onF s P.PMC_CTRL F.PMC_CTRL_enable || !s.cpuClock then s.pmc
  else (List.finRange 64).foldl (fun p (c : Fin 64) => if pmcCounts s c ev core then p.add (pmcChained s c) c n else p) s.pmc

/-- n occurrences of an event, of a core for the core events. -/
def pmcEvent (ev core n : Nat) (s : State) : State := { s with pmc := pmcAfter s ev core n }

/-- The events that pass with clocks or with cache contents, which the model does not follow: clocks with run 1, cache
and L2 misses, IN and OUT waits, clocks in HALT, clocks of a full queue (R312). -/
def clockEvent (ev : Nat) : Bool :=
  ev == 1 || (decide (3 ≤ ev) && decide (ev ≤ 6)) || ev == 8 || (decide (0x030 ≤ ev) && decide (ev ≤ 0x040))

/-- Such an event can occur: the core that the counter names is powered, clocked and released, in HALT for 0x008, and one
of C0 to C7 for 0x005; for a queue the memory controller serves, and the counters' clock runs (R312, R447). -/
def eventLive (s : State) (ev core : Nat) : Bool :=
  if 16 ≤ ev then s.powered 36 && !s.pwr.stopped.getLsbD 2 && s.cpuClock
  else if h : core < 10 then
    let c := s.cores[core]
    s.powered (pdCore core) && s.cpuClock && c.run && (ev != 8 || c.halted) && (ev != 5 || decide (core < 8))
  else false

/-- Counter c counts such an event now. -/
def countsClocks (s : State) (c : Nat) : Bool :=
  let ev := getF s (P.PMC_CFG c) F.PMC_CFG_event
  pmcOn s c && clockEvent ev && eventLive s ev (getF s (P.PMC_CFG c) F.PMC_CFG_core)

/-- Counter c, and its partner in a pair, with a value. -/
def pmcSet (c : Fin 64) (v : Word) (s : State) : State := { s with pmc := { s.pmc with vals := s.pmc.vals.set c v } }

/-- The counter that counts for counter c: the lower of a chained pair. -/
def pmcLower (s : State) (c : Fin 64) : Fin 64 :=
  if pmcUpper s c then ⟨c.val - 1, Nat.lt_of_le_of_lt (Nat.sub_le c.val 1) c.isLt⟩ else c

/-- Counter c as it stands when it is looked at: a counter of clocks or misses holds a free value, both halves of a
chained pair. -/
def pmcLook (c : Fin 64) (s : State) : State :=
  let l := pmcLower s c
  if countsClocks s l then
    let s1 := pmcSet l (Config.clockCount s.free l.val) s
    let s2 := if h : pmcChained s l ∧ l.val + 1 < 64 then pmcSet ⟨l.val + 1, h.2⟩ (Config.clockCount s.free (l.val + 1)) s1
      else s1
    s2.draw
  else s

/-- Every counter of clocks or misses takes the count that it has come to, before something stops what it counts. -/
def pmcSettle (s : State) : State :=
  if onF s P.PMC_CTRL F.PMC_CTRL_enable then (List.finRange 64).foldl (fun t c => pmcLook c t) s else s

end Sys2Proof.Machine
end

