-- ==== Sys2Proof/Machine/Arbiter.lean ====
section
/-! DEFINITION. The DRAM channels' arbiters, and the accesses that cores and units make through them (chapter 2). -/
namespace Sys2Proof.Machine

/-- The state with its arbiter changed. -/
def setMc (m : MemCtl) (s : State) : State := { s with mc := m }

/-- The controller serves: PD36 is on and the memory PLL runs. -/
def memServes (s : State) : Bool := s.powered 36 && !s.pwr.stopped.getLsbD 2

/-- The ids that have a queue: requesters 0 to 16 and the debug port (R40). -/
def isRequester (id : Nat) : Bool := decide (id ≤ 16) || decide (id = 31)

/-- A requester. -/
def requester (s : State) (id : Nat) : Requester := Tab.get s.mc.reqs Requester.reset id

/-- A requester replaced, MEM_RANK.pending following its queue. -/
def setRequester (id : Nat) (r : Requester) (s : State) : State :=
  let s1 := setMc { s.mc with reqs := Tab.set s.mc.reqs Requester.reset id r } s
  if id ≤ 16 then setF s1 (P.MEM_RANK id) F.MEM_RANK_pending r.queue.length else s1

/-- A channel replaced. -/
def setChannel (c : Fin 4) (x : Channel) (s : State) : State := setMc { s.mc with chans := s.mc.chans.set c x } s

/-- The channel of a DRAM address (R37). -/
def chanOf (s : State) (a : Nat) : Nat :=
  if getF s P.MEM_CFG F.MEM_CFG_channels = 2 then (a >>> 8) % 4 else (a >>> 8) % 2

/-- The channel is trained and serves (MEM_STAT). -/
def chanReady (s : State) (c : Fin 4) : Bool := (getReg s P.MEM_STAT).getLsbD c.val

/-- The mask of the populated channels. -/
def populated (s : State) : Nat := if getF s P.MEM_CFG F.MEM_CFG_channels = 2 then 15 else 3

/-- DRAM is in self-refresh. -/
def inSelfRefresh (s : State) : Bool := decide (getF s P.MEM_SR_STAT F.MEM_SR_STAT_in_sr ≠ 0)

/-- Every populated channel is in self-refresh (R445). -/
def selfRefreshAll (s : State) : Bool := decide (getF s P.MEM_SR_STAT F.MEM_SR_STAT_in_sr = populated s)

/-! ## Requests -/

/-- What a requester has waiting, oldest first: its queue, its port, and what its unit holds back. -/
def Requester.waiting (r : Requester) : List MemReq := r.queue ++ r.port.toList ++ r.backlog

/-- A requester with these requests waiting: the first 64 in its queue, the next at its port (R42). -/
def Requester.holding (r : Requester) (l : List MemReq) : Requester :=
  { r with queue := l.take 64, port := (l.drop 64).head?, backlog := l.drop 65 }

/-- A request at its requester's port: into the queue while it has room, else it waits there (R42). -/
def issue (id : Nat) (r : MemReq) (s : State) : State :=
  let q := requester s id
  setRequester id { q.holding (q.waiting ++ [r]) with opened := if r.lock then some r.chan else none } s

/-- Requests that a unit issues one after another as its requester's port takes them (R42). -/
def issueAll (id : Nat) (rs : List MemReq) (s : State) : State :=
  let q := requester s id
  setRequester id (q.holding (q.waiting ++ rs)) s

/-- A requester has a request with this mark waiting. -/
def tagWaits (id tag : Nat) (s : State) : Bool := (requester s id).waiting.any (fun r => r.tag == tag)

/-! ## Ranks and arbitration -/

/-- The requester owns a locked sequence on some channel. -/
def ownsLock (s : State) (id : Nat) : Bool := s.mc.chans.any (fun c => c.owner = some id)

/-- The rank and urgency of a requester take part in arbitration, unless it owns a locked sequence (R41, R48, R49). -/
def applyRank (id : Nat) (s : State) : State :=
  if ownsLock s id then s
  else setF (setF s (P.MEM_RANK id) F.MEM_RANK_applied_rank (getF s (P.MEM_RANK id) F.MEM_RANK_rank))
    (P.MEM_RANK id) F.MEM_RANK_urgent (b2n (s.mc.urgent.getLsbD id))

/-- A requester's urgency signal (R41). -/
def setUrgent (id : Nat) (b : Bool) (s : State) : State :=
  let m := BitVec.ofNat 17 (1 <<< id)
  applyRank id (setMc { s.mc with urgent := if b then s.mc.urgent ||| m else s.mc.urgent &&& ~~~m } s)

/-- The effective rank (R41). -/
def effRank (s : State) (id : Nat) : Nat :=
  if onF s (P.MEM_RANK id) F.MEM_RANK_urgent then 15 else getF s (P.MEM_RANK id) F.MEM_RANK_applied_rank

/-! ## Arbitration -/

/-- The oldest request of a requester for a channel (R43). -/
def oldest (s : State) (id c : Nat) : Option MemReq := (requester s id).queue.find? (fun r => r.chan = c)

/-- The ids 0 to 16 that have a request for channel c. -/
def contenders (s : State) (c : Nat) : List Nat := (List.range 17).filter (fun id => (oldest s id c).isSome)

/-- The arrival of a requester's oldest request for a channel. -/
def sinceOf (s : State) (c id : Nat) : Nat :=
  match oldest s id c with
  | some r => r.since
  | none => 0

/-- The first of the best: the id that nothing later beats. -/
def pickBy (beats : Nat → Nat → Bool) : List Nat → Option Nat
  | [] => none
  | x :: xs => some (xs.foldl (fun b y => if beats y b then y else b) x)

/-- The longest-waiting contender, the lowest id on equal waiting time (R46). -/
def pickFair (s : State) (c : Nat) : Option Nat :=
  pickBy (fun y b => decide (sinceOf s c y < sinceOf s c b)) (contenders s c)

/-- How far an id follows the one last picked by rank, counting upward and wrapping from 16 to 0 (R46). -/
def after (last id : Nat) : Nat := (id + 16 - last) % 17

/-- The contender with the highest effective rank; on equal rank the first after the one last picked by rank (R46). -/
def pickRank (s : State) (c last : Nat) : Option Nat :=
  pickBy (fun y b => decide (effRank s b < effRank s y) ||
    (decide (effRank s b = effRank s y) && decide (after last y < after last b))) (contenders s c)

/-- The first request of a queue for a channel removed. -/
def dropFirst (c : Nat) : List MemReq → List MemReq
  | [] => []
  | r :: rs => if r.chan = c then rs else r :: dropFirst c rs

/-- The oldest request of id for channel c leaves the queue, and the one at the port enters it (R42). -/
def dequeue (id c : Nat) (s : State) : State :=
  let r := requester s id
  setRequester id (r.holding (dropFirst c r.waiting)) s

/-- The mark of an access that was parked; that of core k's locked sequence, and that of DMA channel k, has k + 1 more. -/
def parkTag : Nat := 0x1000000000000

/-- A parked request has been served: its unit finds it when it goes on. -/
def land (id : Nat) (r : MemReq) (s : State) : State :=
  if r.tag < parkTag then s
  else
    let q := requester s id
    setRequester id { q with landed := q.landed ++ [r] } s

/-- The channel serves a request: a write lands, a read is under way (R43). -/
def serve (c : Fin 4) (id : Nat) (r : MemReq) (s : State) : State :=
  match r.data with
  | some bs => land id r (s.writeBytes r.addr bs)
  | none =>
    let x := s.mc.chans[c]
    (setChannel c { x with flights := x.flights ++ [⟨id, r.addr, s.readBytes (r.addr - r.addr % 64) 64, false, r.lock, r.tag⟩] } s).draw

/-- MEM_ARB_STAT after a grant. -/
def noteGrant (c : Fin 4) (id : Nat) (arbitrated : Bool) (s : State) : State :=
  let p := P.MEM_ARB_STAT c
  let s1 := setF s p F.MEM_ARB_STAT_last_id id
  if arbitrated then setF s1 p F.MEM_ARB_STAT_grant_count (getF s1 p F.MEM_ARB_STAT_grant_count + 1) else s1

/-- MEM_ARB_STAT.locked and lock_owner follow the owner; a bitten owner stands (R51). -/
def noteOwner (c : Fin 4) (s : State) : State :=
  let p := P.MEM_ARB_STAT c
  let x := s.mc.chans[c]
  let s1 := setF s p F.MEM_ARB_STAT_locked (b2n x.owner.isSome)
  if x.bitten then s1 else setF s1 p F.MEM_ARB_STAT_lock_owner (x.owner.getD 0x1F)

/-- Grant channel c to requester id: its oldest request is served (R44, R46). -/
def grant (c : Fin 4) (id clocks : Nat) (arbitrated : Bool) (s : State) : State :=
  match oldest s id c with
  | none => s
  | some r =>
    let s := if arbitrated then pmcEvent (0x010 + id) 0 1 s else s
    let s1 := noteGrant c id arbitrated (serve c id r (dequeue id c s))
    if id = 31 then s1
    else
      let x := s1.mc.chans[c]
      let held := if x.owner.isSome then x.held + clocks else clocks
      let s2 := noteOwner c (setChannel c { x with owner := if r.lock then some id else none,
                                                   held := if r.lock then held else 0 } s1)
      if r.lock then s2 else applyRank id s2

/-- One refresh of channel c (R45). -/
def refresh (c : Fin 4) (s : State) : State :=
  let x := s.mc.chans[c]
  noteGrant c 30 false (setChannel c { x with owed := x.owed - 1, emergency := x.emergency && decide (2 < x.owed - 1) } s)

/-- An arbitrated grant: fairness or rank (R46). -/
def arbitrate (c : Fin 4) (clocks : Nat) (s : State) : State :=
  let x := s.mc.chans[c]
  if getF s P.MEM_ARB_CFG F.MEM_ARB_CFG_n ≤ x.fair + 1 then
    match pickFair s c with
    | some id => grant c id clocks true (setChannel c { x with fair := 0 } s)
    | none => s
  else
    match pickRank s c x.lastPick with
    | some id => grant c id clocks true (setChannel c { x with fair := x.fair + 1, lastPick := id } s)
    | none => s

/-- The procedure of R46 at a slot boundary of channel c; clocks is the length of the slot that it begins. -/
def slot (c : Fin 4) (clocks : Nat) (s : State) : State :=
  let x := s.mc.chans[c]
  if x.emergency then refresh c s
  else if (oldest s 31 c).isSome then grant c 31 clocks false s
  else
    match x.owner with
    | some id =>
      if (oldest s id c).isSome then grant c id clocks false s
      else setChannel c { x with held := x.held + clocks } s
    | none =>
      if contenders s c ≠ [] then arbitrate c clocks s
      else if 0 < x.owed then refresh c s
      else s

/-- The bin of a latency (R317). -/
def histBin (shift latency : Nat) : Nat := Nat.min (latency / 2 ^ shift) 15

/-- Histogram h measures a read by requester id on channel c (R317). -/
def histMeasure (c : Fin 4) (id : Nat) (s : State) (h : Fin 4) : State :=
  let w := getReg s (P.PMC_HIST_CFG h)
  if F.PMC_HIST_CFG_en.on w && decide (F.PMC_HIST_CFG_req.get w = id) && (F.PMC_HIST_CFG_ch_mask.get w).testBit c then
    let i := histBin (F.PMC_HIST_CFG_shift.get w) (Config.readLatency s.free)
    let row := s.pmc.bins[h]
    let v := (row.toList.getD i 0).toNat
    let new := if hi : i < 16 then row.set i (BitVec.ofNat 32 (Nat.min (v + 1) 4294967295)) else row
    { s with pmc := { s.pmc with bins := s.pmc.bins.set h new } }
  else s

/-- The first read under way on channel c is delivered. -/
def deliver (c : Fin 4) (f : Flight) (rest : List Flight) (s : State) : State :=
  let s := ((List.finRange 4).foldl (histMeasure c f.id) s).draw
  let s1 := setChannel c { s.mc.chans[c] with flights := rest, link := false } s
  land f.id ⟨f.addr, none, f.lock, c, 0, f.tag⟩ (setMc { s1.mc with delivered := some (f.id, f.addr, f.data) } s1)

/-! ## Accesses of the cores and the units -/

/-- The channel of a DRAM address as an index (R37). -/
def chanFin (s : State) (a : Nat) : Fin 4 := Fin.ofNat 4 (chanOf s a)

/-- Whom the next slot of channel c goes to (R45, R46); none: nobody asks for it. -/
def slotWinner (c : Fin 4) (s : State) : Option Nat :=
  let x := s.mc.chans[c]
  if x.emergency then some 30
  else if (oldest s 31 c).isSome then some 31
  else
    match x.owner with
    | some id => if (oldest s id c).isSome then some id else none
    | none =>
      if getF s P.MEM_ARB_CFG F.MEM_ARB_CFG_n ≤ x.fair + 1 then pickFair s c else pickRank s c x.lastPick

/-- A command clock after every request that waits for channel c has arrived. -/
def arrival (s : State) (c : Nat) : Nat :=
  (s.mc.reqs.flatMap (fun e => e.2.waiting)).foldl (fun n r => if r.chan = c then Nat.max n (r.since + 1) else n) 0

/-- The channels leave self-refresh: a request arrives at a port (R53). -/
def leaveSelfRefresh (s : State) : State :=
  if inSelfRefresh s then setF s P.MEM_SR_STAT F.MEM_SR_STAT_in_sr 0 else s

/-- The data of the last read that channel c granted returns to its requester. -/
def returnLast (c : Fin 4) (s : State) : State :=
  match s.mc.chans[c].flights.getLast? with
  | some f => deliver c f s.mc.chans[c].flights.dropLast s
  | none => s

/-- A read's request, or a write's, is the same access: its burst, bytes, lock and mark. -/
def MemReq.sameAs (q r : MemReq) : Bool := q.addr == r.addr && q.data == r.data && q.lock == r.lock && q.tag == r.tag

/-- A parked request waits, or its read has not returned. -/
def parkedAlready (id : Nat) (r : MemReq) (s : State) : Bool :=
  (requester s id).waiting.any (fun q => q.sameAs r) ||
  s.mc.chans.any (fun c => c.flights.any (fun f => f.id == id && (⟨f.addr, none, f.lock, 0, 0, f.tag⟩ : MemReq).sameAs r))

/-- An access that requester id makes for the given owner is parked, or served and not yet taken up. -/
def ownWaits (id owner : Nat) (s : State) : Bool :=
  let mine := fun (t : Nat) => t == parkTag + owner
  ((requester s id).waiting ++ (requester s id).landed).any (fun r => mine r.tag) ||
  s.mc.chans.any (fun c => c.flights.any (fun f => f.id == id && mine f.tag))

/-- Why an access has not come about: the request that is to be parked meanwhile (R42), or none where its port has no room
or it is parked already. -/
abbrev Held := Option (Nat × MemReq)

/-- The state once an access that has not come about is parked: its request enters its requester's queue, or waits at the
port (R42), and DRAM leaves self-refresh (R53). -/
def park (h : Held) (s : State) : State :=
  match h with
  | none => s
  | some (id, r) => issue id { r with since := arrival s r.chan } (leaveSelfRefresh s)

/-- A command that waits for DRAM: what it came to, or its request parked and nothing else changed. -/
def orPark (r : Except Held State) (s : State) : State :=
  match r with
  | .ok t => t
  | .error h => park h s

/-- The requester's port takes a new request: it is free, and no locked sequence stands open, unless the request is its
release (R42, R44). -/
def portTakes (id : Nat) (release : Bool) (s : State) : Bool :=
  (requester s id).port.isNone && ((requester s id).opened.isNone || release)

/-- The channel's next slot can go to a new request of requester id: it serves, none of the requester's own requests for the
channel stands before it (R43), and no read error is announced. -/
def slotOpen (id : Nat) (c : Fin 4) (s : State) : Bool :=
  memServes s && chanReady s c && !s.mc.chans[c].link && decide ((requester s id).queue.length < 64) &&
    (oldest s id c).isNone

/-- An access of a core or a unit as its requester id: a burst read, or a write of bytes of one burst; owner marks the core
that a locked sequence belongs to, or the DMA channel. A parked request that has been served is taken up. Otherwise the request enters the
requester's queue, and when R46 gives it the channel's next slot it is served, and a read's data returns, all in this step.
When R46 gives that slot to another, or the channel cannot serve, the access does not come about yet, and its request is to
be parked. -/
def accessAs (id a : Nat) (data : Option (List Byte)) (lock release : Bool) (owner : Nat) (s : State) :
    Except Held State :=
  let c := chanFin s a
  let r : MemReq := ⟨a, data, lock, c, arrival s c, parkTag + owner⟩
  let q := requester s id
  if q.landed.any (fun x => x.sameAs r) then
    .ok (setRequester id { q with landed := q.landed.eraseP (fun x => x.sameAs r) } s)
  else if parkedAlready id r s || !portTakes id release s || !s.powered 36 then .error none
  else if slotOpen id c s then
    let s1 := issue id { r with tag := 0 } (leaveSelfRefresh s)
    if slotWinner c s1 = some id then
      let s2 := slot c 2 s1
      .ok (if data.isNone then returnLast c s2 else s2)
    else .error (some (id, r))
  else .error (some (id, r))

/-- A DRAM access outside a locked sequence. -/
def dramAccess (id a : Nat) (data : Option (List Byte)) (s : State) : Except Held State :=
  accessAs id a data false false 0 s

/-- The addresses of the 64-byte bursts that hold n bytes from a upward (R36). -/
def burstsOf (a n : Nat) : List Nat :=
  if n = 0 then [] else (List.range ((a + n - 1) / 64 - a / 64 + 1)).map (fun i => 64 * (a / 64 + i))

/-- Requester id reads bursts, one after another. -/
def dramReads (id : Nat) : List Nat → State → Except Held State
  | [], s => .ok s
  | a :: as, s => (dramAccess id a none s).bind (dramReads id as)

/-- Requester id reads the n bytes from a upward. -/
def dramRead (id a n : Nat) (s : State) : Except Held State := dramReads id (burstsOf a n) s

/-- Requester id writes bytes from a upward, burst by burst; fuel bounds the number of bursts. -/
def dramWriteFrom (id : Nat) : Nat → Nat → List Byte → State → Except Held State
  | 0, _, _, s => .ok s
  | fuel + 1, a, bs, s =>
    if bs.isEmpty then .ok s
    else
      let n := 64 - a % 64
      (dramAccess id a (some (bs.take n)) s).bind (dramWriteFrom id fuel (a + n) (bs.drop n))

/-- Requester id writes bytes from a upward. -/
def dramWrite (id a : Nat) (bs : List Byte) (s : State) : Except Held State := dramWriteFrom id (bs.length + 1) a bs s

end Sys2Proof.Machine
end

