-- ==== Sys2Proof/Machine/Flags.lean ====
section
/-! DEFINITION. Conditions and flag computations of the Ivros cores (R242, R248, R249). -/
namespace Sys2Proof.Machine

/-- Whether an instruction with this condition executes (R242). -/
def condHolds (cond : BitVec 4) (c : Core) : Bool :=
  match cond.toNat with
  | 0x0 => true
  | 0x1 => c.fZ
  | 0x2 => !c.fZ
  | 0x3 => c.fC
  | 0x4 => !c.fC
  | 0x5 => c.fN
  | 0x6 => !c.fN
  | 0x7 => c.fV
  | 0x8 => !c.fV
  | 0x9 => !c.fC && !c.fZ
  | 0xA => c.fC || c.fZ
  | 0xB => c.fN != c.fV
  | 0xC => c.fN == c.fV
  | 0xD => !c.fZ && (c.fN == c.fV)
  | 0xE => c.fZ || (c.fN != c.fV)
  | _ => false

/-- The flags an operation writes; a flag it does not list keeps its value (R248). -/
structure FlagUpd where
  v : Option Bool
  c : Option Bool
  z : Option Bool
  n : Option Bool
  deriving DecidableEq, Repr

/-- A core with its flags updated, the mode bits as they were. -/
def Core.setFlags (k : Core) (f : FlagUpd) : Core :=
  { k with sr := mkSr (f.v.getD k.fV) (f.c.getD k.fC) (f.z.getD k.fZ) (f.n.getD k.fN) k.user k.ie k.ex }

/-- No flag written. -/
def noFlags : FlagUpd := ⟨none, none, none, none⟩

/-- N and Z of a result (R248). -/
def flagsNZ (r : Word) : FlagUpd := ⟨none, none, some (r == 0), some r.msb⟩

/-- The result of an ALU operation and the flags it writes. -/
structure AluRes where
  val : Word
  flags : FlagUpd
  deriving DecidableEq, Repr

/-- x + y + carry: C is the carry out of bit 31, V the signed overflow (R248). -/
def aluAdd (x y : Word) (cin : Bool) : AluRes :=
  let sum := x.toNat + y.toNat + b2n cin
  let isum := x.toInt + y.toInt + (b2n cin : Int)
  let r := BitVec.ofNat 32 sum
  ⟨r, { flagsNZ r with c := some (decide (2 ^ 32 ≤ sum)), v := some (decide (r.toInt ≠ isum)) }⟩

/-- x − y − borrow: C is the borrow, V the signed overflow (R242, R248). -/
def aluSub (x y : Word) (bin : Bool) : AluRes :=
  let idiff := x.toInt - y.toInt - (b2n bin : Int)
  let r := x - y - BitVec.ofNat 32 (b2n bin)
  ⟨r, { flagsNZ r with
    c := some (decide (x.toNat < y.toNat + b2n bin)), v := some (decide (r.toInt ≠ idiff)) }⟩

/-- A logical operation: N and Z (R248). -/
def aluLogic (r : Word) : AluRes := ⟨r, flagsNZ r⟩

/-- A result that writes no flag. -/
def aluPlain (r : Word) : AluRes := ⟨r, noFlags⟩

/-- SHL by n (R249). -/
def aluShl (x : Word) (n : Nat) : AluRes :=
  let r := x <<< n
  ⟨r, { flagsNZ r with
    c := if n = 0 then none else if n ≤ 32 then some (x.getLsbD (32 - n)) else some false }⟩

/-- SHR by n (R249). -/
def aluShr (x : Word) (n : Nat) : AluRes :=
  let r := x >>> n
  ⟨r, { flagsNZ r with
    c := if n = 0 then none else if n ≤ 32 then some (x.getLsbD (n - 1)) else some false }⟩

/-- ASR by n (R249). -/
def aluAsr (x : Word) (n : Nat) : AluRes :=
  let r := x.sshiftRight n
  ⟨r, { flagsNZ r with
    c := if n = 0 then none else if n ≤ 32 then some (x.getLsbD (n - 1)) else some x.msb }⟩

/-- ROR by n mod 32 (R249). -/
def aluRor (x : Word) (n : Nat) : AluRes :=
  let r := x.rotateRight (n % 32)
  ⟨r, { flagsNZ r with c := if n % 32 = 0 then none else some r.msb }⟩

/-- DIVS: rounded toward zero; by zero 0 with V 1; the one overflowing quotient with V 1 (R249). -/
def aluDivs (x y : Word) : AluRes :=
  if y = 0 then ⟨0, { flagsNZ 0 with v := some true }⟩
  else if x = 0x80000000 ∧ y = 0xFFFFFFFF then ⟨0x80000000, { flagsNZ 0x80000000 with v := some true }⟩
  else
    let r := BitVec.ofInt 32 (x.toInt.tdiv y.toInt)
    ⟨r, { flagsNZ r with v := some false }⟩

/-- DIVU: by zero 0 with V 1 (R249). -/
def aluDivu (x y : Word) : AluRes :=
  if y = 0 then ⟨0, { flagsNZ 0 with v := some true }⟩
  else
    let r := BitVec.ofNat 32 (x.toNat / y.toNat)
    ⟨r, { flagsNZ r with v := some false }⟩

/-- Bits [63:32] of the signed and of the unsigned product (R248). -/
def mulHighS (x y : Word) : Word := BitVec.ofInt 32 ((x.toInt * y.toInt) / 4294967296)
def mulHighU (x y : Word) : Word := BitVec.ofNat 32 ((x.toNat * y.toNat) / 4294967296)

/-- The number of leading zero bits of a word, 0 to 32 (R250). -/
def leadingZeros (x : Word) : Nat := if x = 0 then 32 else 31 - x.toNat.log2

/-- The part of an accumulator that r2 selects (R260). -/
def accPart (a : Acc72) (part : Nat) : Word :=
  if part = 0 then a.extractLsb' 0 32 else if part = 1 then a.extractLsb' 32 32
  else (a.extractLsb' 64 8).signExtend 32

end Sys2Proof.Machine
end

