-- ==== Sys2Proof/Machine/DspBase.lean ====
section
/-! DEFINITION. The shared operations of a display output: shadowed registers going live, the start of training, and
what a cluster does when tilt or a stop of start-up comes (R154, R159, R161, R352, R359, R469, R472). -/
namespace Sys2Proof.Machine

/-- A cluster replaced. -/
def setClu (d : Fin 4) (c : Cluster) (s : State) : State := { s with clu := s.clu.set d c }

/-- A cluster's beam replaced. -/
def setBeam (d : Fin 4) (b : Beam) (s : State) : State := setClu d { s.clu[d] with beam := b } s

/-- A clock that a command has reached: the model's time goes on to it. -/
def reach (x : Nat) (s : State) : State := { s with clock := Nat.max s.clock x }

/-- Mode 1 runs as the fallback raster: the sink lacks selective update, or CMP_OSCALE.vscale meets a y granularity above 1
(R154). -/
def modeRefused (s : State) (d : Fin 4) (mode : Nat) : Bool :=
  decide (mode = 1) &&
  (!onF s (P.DSP_TRAIN d) F.DSP_TRAIN_su_ok ||
    (onF s (P.CMP_OSCALE d) F.CMP_OSCALE_vscale && decide (1 < getF s (P.DSP_TRAIN d) F.DSP_TRAIN_ygran)))

/-- What cluster d declares apart from its bands: no requirement with the output disabled, 0 in the fallback raster
(R52). -/
def declareMode (d : Fin 4) (mode : Nat) (refused : Bool) (s : State) : State :=
  if !s.powered 36 then s
  else if mode = 0 then setReg s (P.MEM_LTR_D d) 0xFFFF
  else if mode = 2 ∨ refused = true then setReg s (P.MEM_LTR_D d) 0
  else s

/-- DSP_CTRL.mode goes live (R52, R154, R159). -/
def modeLive (d : Fin 4) (mode : Nat) (s : State) : State :=
  let refused := modeRefused s d mode
  let s := setF s (P.DSP_CTRL d) F.DSP_CTRL_mode mode
  let s := if refused then setF s (P.DSP_STAT d) F.DSP_STAT_su_refused 1 else s
  declareMode d mode refused (setBeam d { s.clu[d].beam with refused := refused } s)

/-- The port of shadowed timing register i: DSP_H0, DSP_H1, DSP_V0, DSP_V1, DSP_PCLK. -/
def timingPort (d : Fin 4) (i : Fin 5) : Nat :=
  match i with
  | 0 => P.DSP_H0 d
  | 1 => P.DSP_H1 d
  | 2 => P.DSP_V0 d
  | 3 => P.DSP_V1 d
  | 4 => P.DSP_PCLK d

/-- Every shadowed value goes live (R159). -/
def shadowLive (d : Fin 4) (s : State) : State :=
  let b := s.clu[d].beam
  let s := (List.finRange 5).foldl (fun t i => setReg t (timingPort d i) b.timing[i]) s
  modeLive d b.mode s

/-- A write to a shadowed timing register: the shadow copy takes it, and while mode is 0 the live value too (R159). -/
def timingWrite (d : Fin 4) (i : Fin 5) (v : Word) (s : State) : State :=
  let s1 := setBeam d { s.clu[d].beam with timing := s.clu[d].beam.timing.set i v } s
  if getF s (P.DSP_CTRL d) F.DSP_CTRL_mode = 0 then setReg s1 (timingPort d i) v else s1

/-- A write of DSP_CTRL.mode: as a shadowed field (R159). -/
def modeWrite (d : Fin 4) (mode : Nat) (s : State) : State :=
  let s1 := setBeam d { s.clu[d].beam with mode := mode } s
  if getF s (P.DSP_CTRL d) F.DSP_CTRL_mode = 0 then modeLive d mode s1 else s1

/-- The link engine begins training with DSP_LINK.rate and DSP_CTRL.iface as they stand: it starts the PHY PLL, and busy
reads 1 (R160, R161). A rate that eDP does not offer ends at once with result 6, no PLL started. -/
def startTraining (d : Fin 4) (s : State) : State :=
  let rate := getF s (P.DSP_LINK d) F.DSP_LINK_rate
  let edp := onF s (P.DSP_CTRL d) F.DSP_CTRL_iface
  if edp && decide (8 ≤ rate) then setF s (P.DSP_TRAIN d) F.DSP_TRAIN_result 6
  else
    let m := BitVec.ofNat 4 (1 <<< d.val)
    let s := setF s (P.DSP_STAT d) F.DSP_STAT_link_up 0
    let s := setBeam d { s.clu[d].beam with rate := rate, edp := edp } s
    let s := { s with pwr := { s.pwr with
      linkStarting := if s.pwr.linkLocked &&& m = 0 then s.pwr.linkStarting ||| m else s.pwr.linkStarting } }
    setF (setF s (P.DSP_TRAIN d) F.DSP_TRAIN_start 1) (P.DSP_TRAIN d) F.DSP_TRAIN_busy 1

/-- Training runs on output d. -/
def trainingRuns (s : State) (d : Fin 4) : Bool := onF s (P.DSP_TRAIN d) F.DSP_TRAIN_busy

/-! ## Start-up's output D0 (R352, R359) -/

/-- D0's timing, link and interface from six words: DSP_H0, DSP_H1, DSP_V0, DSP_V1, DSP_PCLK and DSP_LINK. -/
def loadD0 (ws : List Nat) (edp : Bool) (s : State) : State :=
  let s := (List.finRange 5).foldl (fun t i => timingWrite 0 i (BitVec.ofNat 32 (ws.getD i.val 0)) t) s
  let s := setF s (P.DSP_LINK 0) F.DSP_LINK_rate (bits (ws.getD 5 0) 3 0)
  let s := setF s (P.DSP_LINK 0) F.DSP_LINK_ssc (bits (ws.getD 5 0) 4 4)
  setF s (P.DSP_CTRL 0) F.DSP_CTRL_iface (b2n edp)

/-- Step 6: D0 trains with the manifest's values, words 18 to 24 of its header (R344, R352). -/
def trainD0 (hdr : List Nat) (s : State) : State := startTraining 0 (loadD0 (hdr.drop 18) (bit (hdr.getD 24 0) 0) s)

/-- The stop raster's own values: 1920 × 1080 at 60 Hz, Ht 2,200, Vt 1,125, 148,500 kHz, HBR (R359). PRESUMED: the split
of the blanking, which the rule gives only as totals, is that of the common 1080p timing. -/
def stopTiming : List Nat :=
  [1920 + 0x80000000, 88 + 44 <<< 10 + 148 <<< 20, 1080 + 0x80000000, 4 + 5 <<< 10 + 36 <<< 20, 148500, 1]

/-- After a stop D0 shows its screen: in mode 2 at once when trained, else once it has trained (R359). -/
def stopShows (s : State) : State :=
  let s := if s.cfg.verified then loadD0 (s.cfg.hdr.drop 18) (bit (s.cfg.hdr.getD 24 0) 0) s
    else setF (loadD0 stopTiming false s) (P.CMP_CTRL 0) F.CMP_CTRL_out8 1
  if onF s (P.DSP_STAT 0) F.DSP_STAT_link_up then modeWrite 0 2 s
  else if trainingRuns s 0 then s
  else startTraining 0 s

/-! ## Tilt -/

/-- A cluster whose sequencer and pipeline have stopped, the taken bands abandoned (R469). -/
def Cluster.halt (c : Cluster) : Cluster :=
  { c with
    taken := []
    stopping := false
    record := none
    fetch := none
    compose := none
    send := none
    toSend := []
    sending := none
    lastSent := none
    held := false
    walks := Vector.replicate 9 Walk.reset
    raster := [] }

/-- What the units of cluster d do on tilt: the sequencer stops and EPH_STAT.running reads 0, the comet unit, the
composer and the digest unit stop (R469). -/
def haltCluster (d : Fin 4) (s : State) : State :=
  let s := setF (setF s (P.EPH_CTRL d) F.EPH_CTRL_run 0) (P.EPH_STAT d) F.EPH_STAT_running 0
  setClu d s.clu[d].halt s

/-- The stop-raster cases that the capture of a code decides (R472). -/
def rasterCode (s : State) (code : Nat) : Bool :=
  decide (code = 0x0102 ∨ code = 0x0103) ||
  (decide (code = 0x3801) && decide (getF s P.CFG_SPARGE_MISS F.CFG_SPARGE_MISS_section = 1))

end Sys2Proof.Machine
end

