-- ==== Sys2Proof/Machine/Crypto.lean ====
section
/-! DEFINITION. SHA-256 (FIPS 180-4), HMAC-SHA-256 and CRC-32C over byte lists, as R167, R291, R349 and R427 use them. -/
namespace Sys2Proof.Machine

/-- The first 64 primes. -/
def shaPrimes : List Nat := (List.range 312).filter (fun n => decide (2 ≤ n) && (List.range n).all (fun d => decide (d ≤ 1) || decide (n % d ≠ 0)))

/-- The first 32 bits of the fraction of the k-th root of p: the integer root of p × 2^(32k), found bit by bit. -/
def rootFraction (k p : Nat) : Word :=
  BitVec.ofNat 32 ((List.range 40).foldl (fun r i =>
    let t := r + 2 ^ (39 - i)
    if t ^ k ≤ p * 2 ^ (32 * k) then t else r) 0)

/-- The round constants of SHA-256: from the cube roots of the first 64 primes. -/
def shaK : List Word := shaPrimes.map (rootFraction 3)

/-- The chaining value of SHA-256. -/
structure ShaState where
  a : Word
  b : Word
  c : Word
  d : Word
  e : Word
  f : Word
  g : Word
  h : Word
  deriving DecidableEq, Repr

/-- The initial chaining value: from the square roots of the first eight primes. -/
def shaInit : ShaState :=
  let h := fun i => rootFraction 2 (shaPrimes.getD i 2)
  ⟨h 0, h 1, h 2, h 3, h 4, h 5, h 6, h 7⟩

/-- One round with message word w and constant k. -/
def shaRound (s : ShaState) (k w : Word) : ShaState :=
  let s1 := s.e.rotateRight 6 ^^^ s.e.rotateRight 11 ^^^ s.e.rotateRight 25
  let ch := (s.e &&& s.f) ^^^ (~~~s.e &&& s.g)
  let t1 := s.h + s1 + ch + k + w
  let s0 := s.a.rotateRight 2 ^^^ s.a.rotateRight 13 ^^^ s.a.rotateRight 22
  let maj := (s.a &&& s.b) ^^^ (s.a &&& s.c) ^^^ (s.b &&& s.c)
  ⟨t1 + s0 + maj, s.a, s.b, s.c, s.d + t1, s.e, s.f, s.g⟩

/-- The next word of the message schedule from the sixteen before it, oldest first. -/
def shaSched (w : List Word) : Word :=
  let x := w.getD 1 0
  let y := w.getD 14 0
  let s0 := x.rotateRight 7 ^^^ x.rotateRight 18 ^^^ (x >>> 3)
  let s1 := y.rotateRight 17 ^^^ y.rotateRight 19 ^^^ (y >>> 10)
  w.getD 0 0 + s0 + w.getD 9 0 + s1

/-- The rounds, over the constants that remain and a window of sixteen message words. -/
def shaRounds : List Word → List Word → ShaState → ShaState
  | [], _, s => s
  | k :: ks, w, s => shaRounds ks (w.drop 1 ++ [shaSched w]) (shaRound s k (w.getD 0 0))

/-- Big-endian words of a byte list. -/
def beWords : List Byte → List Word
  | a :: b :: c :: d :: t => (a ++ b ++ c ++ d) :: beWords t
  | _ => []

/-- The compression of one 64-byte block. -/
def shaBlock (s : ShaState) (blk : List Byte) : ShaState :=
  let r := shaRounds shaK (beWords blk) s
  ⟨s.a + r.a, s.b + r.b, s.c + r.c, s.d + r.d, s.e + r.e, s.f + r.f, s.g + r.g, s.h + r.h⟩

/-- The message with its padding. -/
def shaPad (m : List Byte) : List Byte :=
  m ++ [0x80#8] ++ List.replicate ((119 - m.length % 64) % 64) 0#8 ++ natToBe 8 (8 * m.length)

/-- The compression of n blocks. -/
def shaBlocks : Nat → ShaState → List Byte → ShaState
  | 0, s, _ => s
  | n + 1, s, m => shaBlocks n (shaBlock s (m.take 64)) (m.drop 64)

/-- The digest's bytes. -/
def ShaState.bytes (s : ShaState) : List Byte :=
  [s.a, s.b, s.c, s.d, s.e, s.f, s.g, s.h].flatMap (fun w => natToBe 4 w.toNat)

/-- SHA-256 of a message. -/
def sha256 (m : List Byte) : List Byte :=
  let p := shaPad m
  (shaBlocks (p.length / 64) shaInit p).bytes

/-- HMAC-SHA-256 (FIPS 198-1). -/
def hmacSha256 (key msg : List Byte) : List Byte :=
  let k0 := if key.length > 64 then sha256 key else key
  let k := k0 ++ List.replicate (64 - k0.length) 0#8
  sha256 (k.map (· ^^^ 0x5c#8) ++ sha256 (k.map (· ^^^ 0x36#8) ++ msg))

/-- One bit of CRC-32C in reflected form. -/
def crcBit (r : Word) : Word := if r.getLsbD 0 then (r >>> 1) ^^^ 0x82F63B78 else r >>> 1

/-- One byte of CRC-32C. -/
def crcByte (r : Word) (b : Byte) : Word := iter crcBit 8 (r ^^^ b.setWidth 32)

/-- CRC-32C (R291): reflected 0x1EDC6F41, starting value and final XOR all ones. -/
def crc32c (m : List Byte) : Word := ~~~ (m.foldl crcByte 0xFFFFFFFF)

end Sys2Proof.Machine
end

