-- ==== Sys2Proof/Machine/FloorBase.lean ====
section
/-! DEFINITION. The floor link's messages and the buffer that holds them (R422 to R425). -/
namespace Sys2Proof.Machine

/-- The state with the floor link changed. -/
def setFlr (f : Flr) (s : State) : State := { s with flr := f }

/-- FLR_STAT.running, with PD38 on. -/
def floorRuns (s : State) : Bool := s.powered 38 && onF s P.FLR_STAT F.FLR_STAT_running

/-- Bytes of the buffer in use: unacknowledged messages, and the part being filled with its head (R425). -/
def Flr.use (f : Flr) : Nat :=
  (f.queue.map (fun m => m.body.length)).sum + (if f.items = [] then 0 else 64 + 40 * f.items.length)

/-- The buffer's size in bytes (R425). -/
def floorSize (s : State) : Nat := 65536 * getF s P.FLR_BUF F.FLR_BUF_size

/-- The first byte of the buffer (R425). -/
def floorBase (s : State) : Nat := 65536 * getF s P.FLR_BUF F.FLR_BUF_base

/-- The bursts of the buffer that n bytes take, from a place in it that R425 does not name. -/
def floorBursts (n : Nat) (s : State) : List Nat :=
  (List.range ((n + 63) / 64)).map (fun i => floorBase s + 64 * ((Config.floorPlace s.free + i) % (floorSize s / 64)))

/-- A request of requester 12 for a burst of the buffer (R40). -/
def floorRequest (s : State) (a : Nat) (data : Option (List Byte)) : MemReq :=
  ⟨a, data, false, chanFin s a, arrival s (chanFin s a), 0⟩

/-- Bytes go into the buffer, as writes of requester 12 (R40, R425). -/
def floorStore (bs : List Byte) (s : State) : State :=
  (issueAll 12 ((floorBursts bs.length s).zipIdx.map (fun x =>
    floorRequest s x.1 (some ((bs.drop (64 * x.2)).take 64)))) s).draw

/-- n bytes are fetched from the buffer, as reads of requester 12 (R40, R425). -/
def floorFetch (n : Nat) (s : State) : State :=
  (issueAll 12 ((floorBursts n s).map (fun a => floorRequest s a none)) s).draw

/-- A message is created: the buffer takes it, of which it holds the first bytes already, or cannot (R424, R425). -/
def floorPut (type_ held : Nat) (body : List Byte) (s : State) : State :=
  if !floorRuns s then s
  else if s.flr.use + body.length ≤ floorSize s then
    setFlr { s.flr with queue := s.flr.queue ++ [⟨type_, body, none⟩] } (floorStore (body.take (body.length - held)) s)
  else setFlr { s.flr with full := true } s

/-- A message is created, none of it in the buffer yet. -/
def floorMessage (type_ : Nat) (body : List Byte) (s : State) : State := floorPut type_ 0 body s

/-- The body of a GAME message: its head, with the close's seq and hash in the last part, and its items (R425). -/
def gameBody (game part : Nat) (last : Bool) (seq hash : List Byte) (items : List (List Byte)) : List Byte :=
  natToLe 8 game ++ natToLe 4 part ++ natToLe 4 (b2n last) ++ seq ++ hash ++ natToLe 4 items.length ++ natToLe 4 0 ++
    items.flatten

/-- The part being filled becomes a message, its items in the buffer already, and the next part begins. -/
def floorPart (body : List Byte) (next : Nat) (s : State) : State :=
  floorPut 0x30 (body.length - 64) body (setFlr { s.flr with items := [], part := next } s)

/-- The commit point of a meter event, with its copy-A journal record: a METER message and, at a close, the last part of
the game's record (R423, R425). -/
def floorMeter (record : List Byte) (closes : Bool) (s : State) : State :=
  let s1 := floorMessage 0x20 record s
  if closes then
    floorPart (gameBody (leToNat ((record.drop 8).take 8)) s1.flr.part true (record.take 8) ((record.drop 32).take 32)
      s1.flr.items) 0 s1
  else s1

/-- An item joins the open game; at 6,000 items the part becomes a message (R425). -/
def floorItem (game : Nat) (item : List Byte) (s : State) : State :=
  let f := s.flr
  if floorSize s < f.use + 40 + (if f.items = [] then 64 else 0) then setFlr { f with full := true } s
  else
    let items := f.items ++ [item]
    let t := floorStore item s
    if items.length < 6000 then setFlr { t.flr with items := items } t
    else floorPart (gameBody game f.part false (natToLe 8 0) (List.replicate 32 0) items) (f.part + 1) t

end Sys2Proof.Machine
end

