-- ==== Sys2Proof/Machine/LedgerBase.lean ====
section
/-! DEFINITION. The MRAM controller's work, the event log, the meter freeze, and the stop of start-up (chapters 17, 19). -/
namespace Sys2Proof.Machine

/-! ## Granules -/

/-- A granule from its 32-bit words, word 0 lowest. -/
def granuleOf : List Nat → Nat
  | [] => 0
  | w :: ws => w % 4294967296 + 4294967296 * granuleOf ws

/-- A granule of words 0 to 6 with their CRC-32C in word 7 (R398, R405, R416, R507). -/
def sealedGranule (ws : List Nat) : BitVec 256 :=
  let body := granuleOf ws % 2 ^ 224
  BitVec.ofNat 256 (body + (crc32c (natToLe 28 body)).toNat * 2 ^ 224)

/-- The granule's own check holds. -/
def granuleOk (g : BitVec 256) : Bool :=
  decide ((crc32c (natToLe 28 (g.toNat % 2 ^ 224))).toNat = g.toNat / 2 ^ 224)

/-- Word i of a granule. -/
def gWord (g : BitVec 256) (i : Nat) : Nat := (g.toNat >>> (32 * i)) % 4294967296

/-- The granule of the MRAM at a number; blank reads zero. -/
def mramAt (s : State) (g : Nat) : BitVec 256 := Tab.get s.ldg.mram 0 g

/-- Offsets of R392, as granule numbers: slot s, entry (m, p), journal record S, event n; copy B lies 0x10_0000 above. -/
def slotGranule (slot : Nat) : Nat := 352 * slot
def copyB : Nat := 0x100000 / 32
def entryGranule (m p : Nat) : Nat := 0x600000 / 32 + 1024 * p + m
def journalGranule (q : Nat) : Nat := 0x680000 / 32 + 4 * (q % 2048)
def eventGranule (n : Nat) : Nat := 0x6C0000 / 32 + n % 4096

/-- The state with its ledger changed. -/
def setLdg (l : Ledger) (s : State) : State := { s with ldg := l }

/-- One control copy written. -/
def Control.write (c : Control) : CtlWrite → Control
  | .boot n => { c with boot := some n }
  | .acked n => { c with acked := some n }
  | .sealMark => { c with sealed := true }
  | .dir b d => { c with dirs := c.dirs.set b (some d) }

/-- A granule write done, its verify good (R391). -/
def gDo (w : GWrite) (s : State) : State :=
  match w with
  | .copy _ _ => s
  | .cell g v => setLdg { s.ldg with mram := Tab.set s.ldg.mram 0 g v } s
  | .ctl false c => setLdg { s.ldg with ctlA := s.ldg.ctlA.write c } s
  | .ctl true c => setLdg { s.ldg with ctlB := s.ldg.ctlB.write c } s

/-- The directory of a bank as the controller has it: copy A's, or copy B's where A's fails (R507). -/
def spareDir (s : State) (b : Fin 8) : SpareDir :=
  ((s.ldg.ctlA.dirs[b]).orElse (fun _ => s.ldg.ctlB.dirs[b])).getD ⟨[], []⟩

/-- The free spare rows of a directory, lowest first (R391, R393). -/
def SpareDir.free (d : SpareDir) : List Nat :=
  (List.range 64).filter (fun r => !(d.remaps.any (fun x => x.2 == r)) && !(d.retired.contains r))
def freeSpares (s : State) (b : Fin 8) : List Nat := (spareDir s b).free

/-! ## Core ports -/

/-- Set the result of core k's event: done, busy clear (R410). -/
def mevEnd (k result : Nat) (s : State) : State :=
  let st := own k P.LDG_MEV_STAT
  setF (setF (setF s st F.LDG_MEV_STAT_busy 0) st F.LDG_MEV_STAT_done 1) st F.LDG_MEV_STAT_result result

/-- The bytes of n granules from g on. -/
def granuleBytes (s : State) (g n : Nat) : List Byte :=
  (List.range n).flatMap (fun i => natToLe 32 (mramAt s (g + i)).toNat)

/-- Work added behind what is under way. -/
def addJobs (js : List Job) (s : State) : State := setLdg { s.ldg with jobs := s.ldg.jobs ++ js } s

/-- A granule in copy A and in copy B. -/
def mirrored (g : Nat) (v : BitVec 256) : List Job := [.write (.cell g v), .write (.cell (g + copyB) v)]

/-- A control value in both copies. -/
def mirroredCtl (c : CtlWrite) : List Job := [.write (.ctl false c), .write (.ctl true c)]

/-- The entry of an event (R416). -/
def eventGranuleOf (q boot : Nat) (e : LogEvent) : BitVec 256 :=
  sealedGranule [q, e.kind + 256 * e.subject, e.data, e.time, e.time >>> 32, boot, 0]

/-- The store takes commits: ready and not sealed. -/
def storeOpen (s : State) : Bool :=
  s.powered 1 && onF s P.LDG_STAT F.LDG_STAT_ready && !onF s P.LDG_STAT F.LDG_STAT_sealed

/-- Log an event: the next sequence, both copies, copy A first (R416). -/
def logEvent (e : LogEvent) (s : State) : State :=
  if storeOpen s then
    let q := s.ldg.evtSeq + 1
    addJobs (mirrored (eventGranule q) (eventGranuleOf q s.ldg.bootCnt e) ++ [.mark (.logged q e)])
      (setLdg { s.ldg with evtSeq := q } s)
  else s

/-- The RTC as a number. -/
def rtcNow (s : State) : Nat := s.pwr.rtc.toNat

/-- What a mark does when the writes before it are done. -/
def markDo (m : Mark) (s : State) : State :=
  match m with
  | .journal => s
  | .meters k vals seq game =>
    let l := s.ldg
    let s1 := setLdg { l with
      meters := vals.foldl (fun t x => Tab.set t 0 x.1 x.2.1) l.meters
      positions := vals.foldl (fun t x => Tab.set t 0 x.1 x.2.2) l.positions
      seq := seq
      game := game } s
    let s2 := setReg (setReg s1 (own k P.LDG_MEV_SEQ_LO) (BitVec.ofNat 32 seq)) (own k P.LDG_MEV_SEQ_HI)
      (BitVec.ofNat 32 (seq >>> 32))
    floorMeter (granuleBytes s2 (journalGranule seq) 4) game.isNone s2
  | .meterEnd k => mevEnd k 1 s
  | .remapped b row => logEvent ⟨6, b, row, rtcNow s⟩ (setF s P.LDG_STAT F.LDG_STAT_remap 1)
  | .logged seq e =>
    let s1 := setReg s P.LDG_EVT_SEQ (BitVec.ofNat 32 seq)
    let s2 := if e.kind ≤ 3 then setF s1 P.LDG_STAT F.LDG_STAT_event 1 else s1
    let s3 := if e.kind = 5 then setF s2 P.SYS_TILT_LAST F.SYS_TILT_LAST_logged 1 else s2
    floorMessage 0x11 (granuleBytes s3 (eventGranule seq) 1) s3
  | .record slot boot hash =>
    setF (setLdg { s.ldg with newest := some ⟨slot, boot, hash⟩, held := s.ldg.stop, stop := none } s)
      P.LDG_STAT F.LDG_STAT_pending 0
  | .acked boot => setLdg { s.ldg with acked := boot } s
  | .ready => setF s P.LDG_STAT F.LDG_STAT_ready 1
  | .sealed _ | .moved _ => s

/-- Do the marks at the front of the work; the mark of a journal write waits for that write to begin, and those that may
raise tilt for settleMarks. -/
def runMarks : List Job → State → State
  | .mark .journal :: _, s => s
  | .mark (.sealed _) :: _, s => s
  | .mark (.moved _) :: _, s => s
  | .mark m :: js, s => runMarks js (markDo m (setLdg { s.ldg with jobs := js } s))
  | _, s => s

/-- The work with the copy-A journal write begun, when it is next (R411). -/
def beginJournal : List Job → List Job
  | .mark .journal :: js => js
  | js => js

/-- Write n granules of the work, each followed by the marks behind it, unless commits are held (R396, R455). -/
def runJobs : Nat → State → State
  | 0, s => s
  | n + 1, s =>
    let s0 := runMarks s.ldg.jobs s
    match beginJournal s0.ldg.jobs with
    | .write w :: js =>
      if s0.supplyHeld then s0
      else
        let s1 := gDo w (setLdg { s0.ldg with jobs := js } s0)
        runJobs n (runMarks s1.ldg.jobs s1)
    | _ => s0

/-- The dips with f applied to how many queued meter events come before each. -/
def dipsAhead (f : Nat → Nat) (s : State) : State :=
  setLdg { s.ldg with dipsDue := s.ldg.dipsDue.map (fun x => (f x.1, x.2)) } s

/-- The dips that no meter event precedes any more enter the event log (R455, R456). -/
def logDue (s : State) : State :=
  (s.ldg.dipsDue.filter (fun x => x.1 = 0)).foldl (fun t x => logEvent x.2 t)
    (setLdg { s.ldg with dipsDue := s.ldg.dipsDue.filter (fun x => x.1 ≠ 0) } s)

/-- End every event that is queued with a result, and log the dips behind them (R394, R411, R456). -/
def endQueued (result : Nat) (s : State) : State :=
  logDue (dipsAhead (fun _ => 0)
    (setLdg { s.ldg with events := [] } (s.ldg.events.foldl (fun t e => mevEnd e.1 result t) s)))

/-- The core whose event's commit is among the work. -/
def jobCore : List Job → Option Nat
  | [] => none
  | .mark (.meterEnd k) :: _ => some k
  | _ :: js => jobCore js

/-- The copy-A journal write of the event under way has not begun. -/
def journalWaits (js : List Job) : Bool := js.any (fun j => match j with | .mark .journal => true | _ => false)

/-- The work behind the event under way. -/
def afterMeter : List Job → List Job
  | [] => []
  | .mark (.meterEnd _) :: js => js
  | _ :: js => afterMeter js

/-- The item ends a remap. -/
def endsRemap : Job → Bool
  | .mark (.remapped _ _) => true
  | _ => false

/-- The remaps under way among the work of the event under way (R393). -/
def remapsUnderWay : List Job → List Job
  | [] => []
  | .mark (.meterEnd _) :: _ => []
  | j :: js => if endsRemap j || !(remapsUnderWay js).isEmpty then j :: remapsUnderWay js else []

/-- The work without the event under way; a remap that it met goes on to its end (R393, R411). -/
def dropMeterJobs (js : List Job) : List Job := remapsUnderWay js ++ afterMeter js

/-- The meter freeze: the event under way ends with result 3 when its copy-A journal write has not begun, every
queued event with it, and frozen is set (R411). -/
def freezeMeters (s : State) : State :=
  let s1 :=
    match jobCore s.ldg.jobs with
    | some k =>
      if journalWaits s.ldg.jobs then mevEnd k 3 (setLdg { s.ldg with jobs := dropMeterJobs s.ldg.jobs } s) else s
    | none => s
  setF (endQueued 3 s1) P.LDG_STAT F.LDG_STAT_frozen 1

/-- Tilt with the tilt event logged and the meters frozen (R411, R473); a tilt with code 0x3A01 is never logged. -/
def ledgerTilt (code : Nat) (s : State) : State :=
  let s1 := freezeMeters s
  if code = 0x3A01 then s1 else logEvent ⟨5, 0, code, rtcNow s⟩ s1

/-- The boot counter advances, once per start-up, in a mirrored control write; a sealed store takes none (R394, R395,
R400). -/
def countBoot (s : State) : State :=
  let n := s.ldg.bootCnt + 1
  if storeOpen s && !s.ldg.counted then
    setReg (addJobs (mirroredCtl (.boot n)) (setLdg { s.ldg with bootCnt := n, counted := true } s)) P.LDG_BOOTCNT
      (BitVec.ofNat 32 n)
  else s

/-- A record's commit is under way. -/
def recordUnderWay (s : State) : Bool := s.ldg.jobs.any (fun j => match j with | .mark (.record _ _ _) => true | _ => false)

/-- Start-up stops with a code: D0 shows its screen, the stop's event is logged, and for codes 4 and above it is recorded,
the boot counter advanced when this start-up has not done so (R357 to R360, R400, R416). -/
def bootStop (code sect : Nat) (s : State) : State :=
  let s1 := setF (setReg (stopShows s) P.CFG_STOP (BitVec.ofNat 32 (code + 256 * sect))) P.CFG_STAT F.CFG_STAT_stage 7
  let s2 := if 4 ≤ code then countBoot s1 else s1
  let s3 := logEvent ⟨8, 0, code + 256 * sect, rtcNow s⟩ s2
  if 4 ≤ code ∧ storeOpen s1 = true then
    let r : LedgerRec := ⟨2, s2.ldg.bootCnt, (getReg s P.PWR_RESET_CAUSE).toNat, rtcNow s, code, sect,
      getF s P.CFG_STAT F.CFG_STAT_manifest_ver, false, s.cfg.meas⟩
    if recordUnderWay s3 then setLdg { s3.ldg with stop := some r } s3 else setLdg { s3.ldg with held := some r } s3
  else s3

end Sys2Proof.Machine
end

