-- ==== Sys2Proof/Machine/Tilt.lean ====
section
/-! DEFINITION. Raising tilt (R467 to R474) and taking an exception (R234, R235). -/
namespace Sys2Proof.Machine

/-! ## What each unit does on tilt (R469) -/

/-- The unread words of core k's port are cleared and counted in discarded (R389, R469). -/
def discardUnread (k : Fin 8) (s : State) : State :=
  let n := ((List.range 16).map (fun i => b2n (s.sec.unread[k].getLsbD i))).sum
  let s1 := addF s (own k P.SEC_DRBG_PSTAT) F.SEC_DRBG_PSTAT_discarded n
  let s2 := (List.range 16).foldl (fun t i => setReg t (own k (P.SEC_DRBG_OUT i)) 0) s1
  let s3 := setF s2 (own k P.SEC_DRBG_PSTAT) F.SEC_DRBG_PSTAT_ready 0
  { s3 with sec := { s3.sec with unread := s3.sec.unread.set k 0 } }

/-- Kettle acts on tilt as if run were cleared (R223, R469). -/
def kettleTilt (s : State) : State :=
  if onF s P.KTL_STAT F.KTL_STAT_running then
    let s := setF s P.KTL_CTRL F.KTL_CTRL_run 0
    { s with ktl := { s.ktl with stopping := true } }
  else s

/-- Every unit acts on tilt: the display clusters halt, Kettle stops at its next period, unread outcome words are discarded, the meters freeze and the tilt event is logged, and
start-up stops with code 16 before release (R357, R411, R469, R473). -/
def unitsSeeTilt (code : Nat) (s : State) : State :=
  let s0 := (List.finRange 4).foldl (fun t d => haltCluster d t) (kettleTilt s)
  let s1 := (List.finRange 8).foldl (fun t k => discardUnread k t) s0
  let s2 := ledgerTilt code s1
  if 1 ≤ bootStage s2 ∧ bootStage s2 ≤ 5 then bootStop 16 0 s2 else s2

/-- The capture of the first tilt request: the PD0 registers load the code and the RTC, and the raster bit where R472
names the code (R468, R472, R473). -/
def captureTilt (code : Nat) (s : State) : State :=
  let s := setReg s P.SYS_TILT_LAST (BitVec.ofNat 32 (code % 65536 + 65536 * b2n (rasterCode s code)))
  let s := setReg s P.SYS_TILT_TIME_LO (BitVec.ofNat 32 s.pwr.rtc.toNat)
  let s := setReg s P.SYS_TILT_TIME_HI (BitVec.ofNat 32 (s.pwr.rtc.toNat >>> 32))
  let s := setF s P.SYS_TILT F.SYS_TILT_tilted 1
  unitsSeeTilt code { s with tilt := { s.tilt with code := some code } }

/-- A tilt request reaches the latch: ignored in device reset, counted when tilt stands, captured otherwise (R468). -/
def raiseTilt (code : Nat) (s : State) : State :=
  if s.pwr.inReset then s
  else if s.tilted then addF s P.SYS_TILT_CNT F.SYS_TILT_CNT_later 1
  else captureTilt code s

/-- The exceptions of R234 by their number n. -/
inductive Exn where
  | illegal | privilege | access | alignment | breakpoint | interrupt
  deriving DecidableEq, Repr

/-- n of R234. -/
def Exn.num : Exn → Nat
  | .illegal => 0
  | .privilege => 1
  | .access => 2
  | .alignment => 3
  | .breakpoint => 4
  | .interrupt => 5

/-- The exceptions for which R234 gives SYS_XADDR a content. -/
def Exn.hasAddress : Exn → Bool
  | .illegal | .privilege | .interrupt => false
  | .access | .alignment | .breakpoint => true

/-- Load SYS_XADDR_LO and SYS_XADDR_HI of core k, which keep their values when the exception gives none (R500). -/
def loadXaddr (k : Nat) (a : Option Nat) (s : State) : State :=
  match a with
  | none => s
  | some a =>
    setReg (setReg s (P.SYS_XADDR_LO k) (BitVec.ofNat 32 a)) (P.SYS_XADDR_HI k) (BitVec.ofNat 32 ((a >>> 32) % 256))

/-- The SR after exception entry: user 0, ie 0, ex 1, the flags as they were (R235). -/
def Core.srEntered (c : Core) : BitVec 7 := (c.sr &&& 0x0F) ||| 0x40

/-- Exception entry of core k with return address xpc, which takes 4 CPU clocks beyond the instruction (R235, R236). While SR.ex is 1 the core raises tilt with code 0x03kk
and stops instead (R235, R467): its run is cleared, and a later write of run 1 resumes it at the same PC. DESIGN CHOICE: R235
does not say what run and stopped read then. -/
def takeException (k : CoreId) (e : Exn) (xpc : Word) (xaddr : Option Nat) (s : State) : State :=
  let c := s.cores[k]
  if c.ex then
    raiseTilt (0x0300 + k.val) ((pmcSettle s).setCore k { c with run := false, eiShadow := false, stepping := false })
  else
    let s := setReg (pmcEvent 7 k 1 s) (P.SYS_XPC k) xpc
    let s := setReg s (P.SYS_XSR k) (c.sr.setWidth 32)
    let s := setReg s (P.SYS_XCAUSE k) (BitVec.ofNat 32 e.num)
    let s := if e.hasAddress then loadXaddr k xaddr s else s
    s.setCore k { c with
      sr := c.srEntered
      pc := (getReg s (P.SYS_VBASE k) &&& 0xFFFFFF00) + BitVec.ofNat 32 (32 * e.num)
      halted := false
      eiShadow := false
      privPast := agePast 4 c.privPast }

/-- The return from an exception: SR from SYS_XSR and PC from SYS_XPC (R235). -/
def returnFromException (k : CoreId) (s : State) : State :=
  s.setCore k { s.cores[k] with
    sr := (getReg s (P.SYS_XSR k)).setWidth 7
    pc := getReg s (P.SYS_XPC k) }

end Sys2Proof.Machine
end

