-- ==== Sys2Proof/Machine/Operands.lean ====
section
/-! DEFINITION. What every instruction of the Ivros cores shares: prefixes, operand forms, fetching, condition, and
the way an instruction ends (R241 to R247, R251). -/
namespace Sys2Proof

def Prefix.isAddr : Prefix → Bool
  | .addrImm _ | .addrReg _ => true
  | _ => false
def Prefix.isWidth : Prefix → Bool
  | .width8 | .width16 => true
  | _ => false
def Prefix.isReserved : Prefix → Bool
  | .reserved _ => true
  | _ => false

/-- The bytes of a prefix (R244). -/
def Prefix.len : Prefix → Nat
  | .addrImm _ | .addrReg _ => 2
  | _ => 1
/-- The second byte of a register address extension has zero in [7:4] (R245). -/
def Prefix.wellMade : Prefix → Bool
  | .addrReg b => decide (b.toNat < 16)
  | _ => true

/-- Bytes of displacement after byte 2 (R251). -/
def Mode.extra : Mode → Nat
  | .d8 _ => 1
  | .d16 _ => 2
  | .d32 _ => 4
  | _ => 0

/-- The low 32 address bits of a memory operand (R251). -/
def Mode.addr (m : Mode) (gb : Word) (w : Nat) : Word :=
  match m with
  | .base => gb
  | .d8 d => gb + d.signExtend 32
  | .d16 d => gb + d.signExtend 32
  | .d32 d => gb + d
  | .postInc => gb
  | .preDec => gb - BitVec.ofNat 32 w

/-- The base register's new value (R251). -/
def Mode.newBase (m : Mode) (gb : Word) (w : Nat) : Word :=
  match m with
  | .postInc => gb + BitVec.ofNat 32 w
  | .preDec => gb - BitVec.ofNat 32 w
  | _ => gb

/-- The mode updates the base register. -/
def Mode.updates : Mode → Bool
  | .postInc | .preDec => true
  | _ => false

end Sys2Proof

namespace Sys2Proof.Machine

/-- Which kinds of prefix a base instruction accepts (R245). -/
structure Accepts where
  addr : Bool
  width : Bool
  width16Only : Bool
  io : Bool
  lock : Bool
  deriving DecidableEq, Repr

def accNone : Accepts := ⟨false, false, false, false, false⟩
def accMem : Accepts := ⟨true, true, false, true, false⟩
def accLdi : Accepts := ⟨false, true, false, false, false⟩
def accRmw : Accepts := ⟨true, true, false, false, true⟩
def accStack : Accepts := ⟨true, false, false, false, false⟩
def accIoAbs : Accepts := ⟨false, true, false, false, false⟩
def accMac : Accepts := ⟨false, true, true, false, false⟩

/-- The bytes of all prefixes. -/
def prefixLen (ps : List Prefix) : Nat := ps.foldl (fun n p => n + p.len) 0

/-- The prefix rules of R245. -/
def prefixesOk (a : Accepts) (ps : List Prefix) : Bool :=
  ps.all (fun p => !p.isReserved && p.wellMade) &&
  decide (ps.countP Prefix.isAddr ≤ 1) && decide (ps.countP Prefix.isWidth ≤ 1) &&
  decide (ps.count .io ≤ 1) && decide (ps.count .lock ≤ 1) &&
  !(ps.any Prefix.isAddr && ps.contains .io) &&
  (a.addr || !ps.any Prefix.isAddr) && (a.width || !ps.any Prefix.isWidth) &&
  (!a.width16Only || !ps.contains .width8) &&
  (a.io || !ps.contains .io) && (a.lock || !ps.contains .lock)

/-- The operand width in bytes (R244). -/
def opWidth (ps : List Prefix) : Nat :=
  if ps.contains .width8 then 1 else if ps.contains .width16 then 2 else 4

/-- The number of a register field. -/
def regOf (n : Nat) : Reg := ⟨n % 16, Nat.mod_lt _ (by decide)⟩

/-- Data-address bits [39:32] (R244). -/
def addrExt (ps : List Prefix) (c : Core) : Nat :=
  ps.foldl (fun n p => match p with
    | .addrImm ii => ii.toNat
    | .addrReg b => c.g[regOf b.toNat].toNat % 256
    | _ => n) 0

/-- A core with register r set. -/
def Core.setG (c : Core) (r : Reg) (v : Word) : Core := { c with g := c.g.set r v }

/-- A core with accumulator a set. -/
def Core.setAc (c : Core) (a : Fin 4) (v : Acc72) : Core := { c with ac := c.ac.set a v }

/-- A core that has completed an instruction: PC at the address of the next one. -/
def Core.goTo (c : Core) (pc : Word) : Core := { c with pc := pc }

/-- The core issues instructions: released, not waiting, not in debug, its domain on and its clock running. -/
def State.issues (s : State) (k : CoreId) : Bool :=
  s.cores[k].run && !s.cores[k].halted && !s.cores[k].inDebug && s.powered (pdCore k) && s.cpuClock

/-- The instruction-space addresses that core k may fetch (R227). -/
def State.fetchable (s : State) (k : CoreId) (a : Word) : Bool :=
  if k.val < 8 then decide (a.toNat < s.dramSize) else decide (a.toNat < 0x160000)

/-- The first of n fetch addresses from a that lies outside the core's mapping (R229). -/
def State.fetchFault (s : State) (k : CoreId) (a : Word) : Nat → Option Word
  | 0 => none
  | n + 1 => if s.fetchable k a then s.fetchFault k (a + 1) n else some a

/-- After an instruction: a watched access takes exception 4 with its address, or halts the core in debug; a single
step ends in debug (R234, R239). -/
def afterInstruction (k : CoreId) (s : State) : State :=
  let c := s.cores[k]
  let s1 :=
    match c.watchHit with
    | none => s
    | some a =>
      let s0 := s.setCore k { c with watchHit := none }
      if c.attached then s0.setCore k { c with watchHit := none, inDebug := true }
      else takeException k .breakpoint c.pc (some a) s0
  if c.stepping then s1.setCore k { s1.cores[k] with stepping := false, inDebug := true } else s1

/-- Change the state of an outcome that is a next state. -/
def Out.then (o : Out) (f : State → State) : Out :=
  match o with
  | .next s => .next (f s)
  | .fault r => .fault r
  | .refused r => .refused r

/-- The history of core k's GPIO port after n CPU clocks that began with port value old (R238). -/
def agePort (k : CoreId) (old : Vector Word 4) (n : Nat) (s : State) : State :=
  let c := s.cores[k]
  s.setCore k { c with privPast := if old = c.privOut then agePast n c.privPast else (n, old) :: agePast n c.privPast }

/-- What an instruction does once it is known to execute: the core as it stands with the EI shadow over, the address
of the next instruction, and the state. -/
abbrev Body := Core → Word → State → Out

/-- The same of an instruction that may have to wait for DRAM: the request that is to be parked while it waits. -/
abbrev WaitBody := Core → Word → State → Except Held Out

/-- Execute one instruction: a core that issues nothing is left as it is; breakpoints (R234), the encoding and prefix
rules (R243, R245), fetch (R229) in the order of R500, the condition (R243), and then its body. clk is the number of CPU
clocks that R261 gives it, len the base instruction's length, def' whether every field of its encoding is defined. An
instruction whose DRAM access has not been granted has not executed yet, and its request is parked (R42). A single step
executes an instruction with a breakpoint at its address, and a resume halts at it again. DESIGN CHOICE: R239 does not say
how either leaves a breakpoint. -/
def isaWait (h : Hdr) (clk len : Nat) (a : Accepts) (def' : Bool) (body : WaitBody) (s : State) : Out :=
  let k := h.core
  let c := s.cores[k]
  if !s.issues k then .next s
  else
    let total := prefixLen h.pfx + len
    if c.breaks.contains (some c.pc) && !c.stepping then
      (if c.attached then .next (s.setCore k { c with inDebug := true })
      else .next (takeException k .breakpoint c.pc none s))
    else if !(def' && prefixesOk a h.pfx && h.cond != 15) then
      .next (afterInstruction k (takeException k .illegal c.pc none s))
    else
      match s.fetchFault k c.pc total with
      | some bad => .next (afterInstruction k (takeException k .access c.pc (some bad.toNat) s))
      | none =>
        let c' := { c with eiShadow := false }
        let npc := c.pc + BitVec.ofNat 32 total
        let s1 := pmcEvent 2 k 1 s
        let done := fun n t => afterInstruction k (agePort k c.privOut (if 8 < total then n + 1 else n) t)
        if !condHolds h.cond c then .next (done 1 (s1.setCore k (c'.goTo npc)))
        else
          match body c' npc s1 with
          | .ok o => Out.then o (done clk)
          | .error h => .next (park h s)

/-- Execute one instruction that waits for nothing. -/
def isaRun (h : Hdr) (clk len : Nat) (a : Accepts) (def' : Bool) (body : Body) (s : State) : Out :=
  isaWait h clk len a def' (fun c npc s => .ok (body c npc s)) s

/-- The instruction completes with the core as given. -/
def complete (k : CoreId) (c : Core) (s : State) : Out := .next (s.setCore k c)

/-- The instruction faults: it has no effect but the exception (R234, R235). -/
def faults (k : CoreId) (e : Exn) (xaddr : Option Nat) (s : State) : Out :=
  .next (takeException k e s.cores[k].pc xaddr s)

/-- A privileged operation in user mode raises exception 1 (R226, R257). -/
def privileged (k : CoreId) (body : Body) : Body := fun c npc s =>
  if c.user then faults k .privilege none s else body c npc s

end Sys2Proof.Machine
end

