-- ==== Sys2Proof/Machine/CoreMem.lean ====
section
/-! DEFINITION. Data and instruction-space accesses of the cores, through their caches and the L2 (R227 to R231). -/
namespace Sys2Proof.Machine

/-- How an access ends before it is made: an exception with its address, or a case the manual leaves unpredictable. -/
inductive Stop where
  | exn (e : Exn)
  | fault (f : Fault)
  deriving DecidableEq, Repr

/-- A control core's access by region (R24, R25, R227, R228). -/
def controlStop (write : Bool) (a : Nat) (s : State) : Option Stop :=
  match s.region a with
  | .dram | .xRam | .yRam => none
  | .comets => if s.bankOn a then none else some (.fault .sramBankOff)
  | .stream _ =>
    if write then some (.fault .streamBufferWrite)
    else if s.bankOn a then none else some (.fault .sramBankOff)
  | .resident | .exchange _ => if s.bankOn a then none else some (.fault .sramBankOff)
  | .streamRings =>
    if write then some (.fault .kettleAreaWrite)
    else if s.bankOn a then none else some (.fault .sramBankOff)
  | .patternCache | .lineBuffer | .l2Array => some (.fault .closedSram)
  | .unmapped => if a < sramBase then some (.fault .unmappedData) else some (.fault .closedSram)

/-- An audio core's access by region (R227, R228, R229). The stream rings raise the access exception. DESIGN CHOICE: R227 gives
the audio sample cache, and names its resident and its own exchange area only. -/
def audioStop (k : CoreId) (write : Bool) (a : Nat) (s : State) : Option Stop :=
  match s.region a with
  | .xRam | .yRam => none
  | .resident =>
    if write then some (.fault .audioArea) else if s.bankOn a then none else some (.fault .sramBankOff)
  | .exchange x =>
    if x + 8 ≠ k.val then some (.fault .audioArea)
    else if s.bankOn a then none else some (.fault .sramBankOff)
  | _ => some (.exn .access)

/-- Why core k cannot make an access of w bytes at a: alignment first, then reach (R229, R254, R500). -/
def accessStop (k : CoreId) (write lock : Bool) (a w : Nat) (s : State) : Option Stop :=
  if a % w ≠ 0 then some (.exn .alignment)
  else if lock && !(decide (s.region a = .dram) && decide (k.val < 8)) then some (.exn .access)
  else if k.val < 8 then
    (if write && s.imageIn a w then some (.fault .imageContentWrite) else controlStop write a s)
  else audioStop k write a s

/-- End an instruction that cannot make its access. -/
def stopWith (k : CoreId) (a : Nat) (st : Stop) (s : State) : Out :=
  match st with
  | .exn e => faults k e (some a) s
  | .fault f => .fault f

/-- The line of 64 bytes that holds an address. -/
def lineOf (a : Nat) : Nat := a / 64

/-- A line filled into the L2 from DRAM, as requester 8 (R40, R230). -/
def l2Fill (line : Nat) (s : State) : Except Held State :=
  (dramAccess 8 (64 * line) none s).map (fun s =>
    { s with l2 := Tab.insert s.l2 line ⟨s.readBytes (64 * line) 64, false⟩ })

/-- The L2 with a line in it: a line held is kept while dirty, and a clean one unless it was replaced; a line not
held is filled from DRAM (R230). -/
def l2Touch (line : Nat) (s : State) : Except Held State :=
  match Tab.find s.l2 line with
  | some l => if l.dirty || Config.l2Keeps s.free line then .ok s else l2Fill line s
  | none => l2Fill line s

/-- The bytes of a line held in the L2. -/
def l2Data (line : Nat) (s : State) : List Byte :=
  match Tab.find s.l2 line with
  | some l => l.data
  | none => s.readBytes (64 * line) 64

/-- Bytes of a line replaced from an offset upward. -/
def patchLine (data : List Byte) (off : Nat) (bs : List Byte) : List Byte :=
  data.take off ++ bs ++ data.drop (off + bs.length)

/-- A store through the L2: the line is allocated and marked dirty (R230). -/
def l2Store (a : Nat) (bs : List Byte) (s : State) : Except Held State :=
  (l2Touch (lineOf a) s).map (fun s =>
    { s with l2 := Tab.insert s.l2 (lineOf a) ⟨patchLine (l2Data (lineOf a) s) (a % 64) bs, true⟩ })

/-- The read of a locked sequence of the L2 for core k, which opens it (R44, R232). A dirty line keeps the stores that DRAM
has not seen; a clean one takes what the burst returns. -/
def lockedRead (k : CoreId) (a : Nat) (s : State) : Except Held State :=
  (accessAs 8 (64 * lineOf a) none true false (k.val + 1) s).map (fun s =>
    match Tab.find s.l2 (lineOf a) with
    | some l =>
      if l.dirty then s else { s with l2 := Tab.insert s.l2 (lineOf a) ⟨s.readBytes (64 * lineOf a) 64, false⟩ }
    | none => { s with l2 := Tab.insert s.l2 (lineOf a) ⟨s.readBytes (64 * lineOf a) 64, false⟩ })

/-- The write of a locked sequence of the L2, which is its release: DRAM and the L2's line take the bytes (R44, R232). -/
def lockedWrite (a : Nat) (bs : List Byte) (s : State) : Except Held State :=
  match accessAs 8 a (some bs) false true 0 s with
  | .error _ => .error none
  | .ok s =>
    .ok (match Tab.find s.l2 (lineOf a) with
    | some l => { s with l2 := Tab.insert s.l2 (lineOf a) { l with data := patchLine l.data (a % 64) bs } }
    | none => s)

/-- Core k's locked sequence stands open: its read has been parked, and its instruction has not gone on to the release. -/
def lockWaits (k : CoreId) (s : State) : Bool := ownWaits 8 (k.val + 1) s

/-- A line of a list of cached lines, if it is still there. -/
def cachedLine (lines : List (Nat × List Byte)) (line : Nat) (s : State) : Option (List Byte) :=
  match Tab.find lines line with
  | some d => if Config.l1Keeps s.free line then some d else none
  | none => none

/-- The w bytes at a in a line of 64 bytes, as a number. -/
def inLine (data : List Byte) (a w : Nat) : Nat := leToNat ((data.drop (a % 64)).take w)

/-- Memory as a control core sees it: DRAM through the L2, X and Y RAM its own, shared SRAM uncached (R228, R230).
The value of the w bytes at a, and the state after the access; a line fill that has not been granted is to be parked. -/
def controlRead (k : CoreId) (a w : Nat) (s : State) : Except Held (Nat × State) :=
  match s.region a with
  | .dram => (l2Touch (lineOf a) s).map (fun s1 => (inLine (l2Data (lineOf a) s1) a w, s1.draw))
  | .xRam | .yRam => .ok (s.readLe (ramKey k a) w, s.draw)
  | _ => .ok (s.readLe a w, s.draw)

/-- Memory as an audio core sees it: the resident area through its D-cache (R227, R230). -/
def audioRead (k : CoreId) (a w : Nat) (s : State) : Nat × State :=
  match s.region a with
  | .resident =>
    let d := (cachedLine s.cores[k].dcache (lineOf a) s).getD (s.readBytes (64 * lineOf a) 64)
    (inLine d a w,
      (s.setCore k { s.cores[k] with dcache := Tab.insert s.cores[k].dcache (lineOf a) d }).draw)
  | .xRam | .yRam => (s.readLe (ramKey k a) w, s.draw)
  | _ => (s.readLe a w, s.draw)

/-- A load of w bytes by core k. -/
def coreRead (k : CoreId) (a w : Nat) (s : State) : Except Held (Nat × State) :=
  if k.val < 8 then controlRead k a w s else .ok (audioRead k a w s)

/-- A store of w bytes by core k (R230). -/
def coreWrite (k : CoreId) (a w v : Nat) (s : State) : Except Held State :=
  match s.region a with
  | .dram => (l2Store a (natToLe w v) s).map State.draw
  | .xRam | .yRam => .ok (s.writeBytes (ramKey k a) (natToLe w v))
  | _ => .ok (s.writeBytes a (natToLe w v))

/-- A read-modify-write of w bytes by core k in two accesses (R254): the old value and the state after it; new gives the
value to store, none to leave memory as it is. With the bus lock the two are one locked sequence, whose release writes
the old value back where nothing is to be stored (R44, R232). -/
def coreModify (k : CoreId) (lock : Bool) (a w : Nat) (new : Nat → Option Nat) (s : State) :
    Except Held (Nat × State) :=
  if lock then
    (lockedRead k a s).bind (fun s1 =>
      let old := inLine (l2Data (lineOf a) s1) a w
      (lockedWrite a (natToLe w ((new old).getD old)) s1).map (fun s2 => (old, s2.draw)))
  else
    (coreRead k a w s).bind (fun r =>
      match new r.1 with
      | some v => (coreWrite k a w v r.2).map (fun s2 => (r.1, s2))
      | none => .ok r)

/-- A watched data access is noted, and taken after the instruction; of several in one instruction the last one's address
stands in SYS_XADDR (R234, R239). DESIGN CHOICE: R234 does not say which. -/
def noteAccess (k : CoreId) (a w : Nat) (s : State) : State :=
  let c := s.cores[k]
  if c.watches.any (fun x => match x with | some y => decide (a ≤ y) && decide (y < a + w) | none => false) then
    s.setCore k { c with watchHit := some a }
  else s

/-- The data-space address behind an instruction-space address (R227). -/
def instrToData (k : CoreId) (a : Nat) : Nat := if k.val < 8 then a else 0x8002C00000 + a

/-- A line of instruction space through core k's I-cache, a miss through the L2 on a control core (R230): its bytes
and the state after the access. -/
def instrLine (k : CoreId) (line : Nat) (s : State) : Except Held (List Byte × State) :=
  match cachedLine s.cores[k].icache line s with
  | some d => .ok (d, s.draw)
  | none =>
    let fill := fun (d : List Byte) (t : State) =>
      (d, (t.setCore k { t.cores[k] with icache := Tab.insert t.cores[k].icache line d }).draw)
    if k.val < 8 then (l2Touch line s).map (fun t => fill (l2Data line t) t)
    else .ok (fill (s.readBytes (64 * line) 64) s)

/-- A data read of instruction space (R227, R252). -/
def instrRead (k : CoreId) (a w : Nat) (s : State) : Except Held (Nat × State) :=
  let da := instrToData k a
  (instrLine k (lineOf da) s).map (fun r => (inLine r.1 da w, r.2))

end Sys2Proof.Machine
end

