-- ==== Sys2Proof/Machine/Bus.lean ====
section
/-! DEFINITION. Reaching a register: who may, and what a refused access does (R7, R12, R226, R227, R229, R496 to R498). -/
namespace Sys2Proof.Machine

/-- The port lies in a block's range (R496). -/
def assigned (p : Nat) : Bool := (domainOf p).isSome

/-- Ports marked own: each core reaches its own instance (R498). -/
def isOwn (p : Nat) : Bool :=
  (decide (0xF00 ≤ p) && decide (p ≤ 0xF2F)) || (decide (0x30000 ≤ p) && decide (p ≤ 0x3007F)) ||
  p == 0x31000 || p == 0x31040 || p == 0x31080 || p == 0x310C0 || p == 0x31100 ||
  (decide (0x31200 ≤ p) && decide (p ≤ 0x31217)) || p == 0x50014 ||
  (decide (0xA8000 ≤ p) && decide (p ≤ 0xA803F)) || (decide (0xD1000 ≤ p) && decide (p ≤ 0xD107F)) ||
  (decide (0xE1000 ≤ p) && decide (p ≤ 0xE106B))

/-- The private GPIO port (R238). -/
def isPrivGpio (p : Nat) : Bool := decide (0xA8000 ≤ p) && decide (p ≤ 0xA803F)

/-- The blocks an audio core reaches: its own SYS bank, INT, TMR, PMC, KTL and the private GPIO port (R227). -/
def audioReaches (k p : Nat) : Bool :=
  (decide (0xF00 ≤ p) && decide (p ≤ 0xF2F)) || (decide (sysBank k ≤ p) && decide (p < sysBank k + 0x100)) ||
  (decide (0x30000 ≤ p) && decide (p ≤ 0x5FFFF)) || (decide (0x200000 ≤ p) && decide (p ≤ 0x23FFFF)) || isPrivGpio p

/-- The DBG block (R239). -/
def isDbg (p : Nat) : Bool := decide (0x300000 ≤ p) && decide (p ≤ 0x3EFFFF)

/-- The counter reads that PMC_CTRL.user_rd opens to user mode (R316). -/
def isCounterRead (p : Nat) : Bool :=
  p == 0x50014 || (decide (0x50200 ≤ p) && decide (p < 0x50300)) ||
  (decide (0x50800 ≤ p) && decide (p < 0x50A00) && decide (0x40 ≤ (p - 0x50800) % 0x80))

/-- In user mode: the IN or OUT is allowed (R226). -/
def userMay (k : CoreId) (write : Bool) (p : Nat) (s : State) : Bool :=
  (isPrivGpio p && s.cores[k].ugpio) ||
  (!write && isCounterRead p && onF s P.PMC_CTRL F.PMC_CTRL_user_rd)

/-- Why core k cannot make an IN or OUT to port p: privilege, alignment, access in this order (R226, R229, R253,
R500). p may exceed 24 bits, as the register-addressed forms allow. -/
def ioStop (k : CoreId) (write : Bool) (p : Nat) (s : State) : Option Exn :=
  if s.cores[k].user && !userMay k write p s then some .privilege
  else if p % 4 ≠ 0 then some .alignment
  else if !assigned p || isDbg p || decide (0x1000000 ≤ p) then some .access
  else if decide (8 ≤ k.val) && !audioReaches k p then some .access
  else none

/-- The key under which a master reaches a port: own ports by the issuing core, the core's SYS bank at 0xF00, the
private source configuration, and one home for each pair of set and clear arrays (R240, R274, R279, R498). -/
def regKey (m : Master) (p : Nat) : Nat :=
  match m with
  | .debug => if 0x31040 ≤ p ∧ p < 0x31080 then p - 0x40 else if 0x310C0 ≤ p ∧ p < 0x31100 then p - 0x40 else p
  | .core k =>
    if 0xF00 ≤ p ∧ p ≤ 0xF2F then sysBank k + (p - 0xF00)
    else if 0x30000 ≤ p ∧ p ≤ 0x3007F then P.INT_PRIV_CFG k ((p - 0x30000) / 4)
    else if p = 0x31040 ∨ p = 0x310C0 then own k (p - 0x40)
    else if 0x31040 ≤ p ∧ p < 0x31080 then p - 0x40
    else if 0x310C0 ≤ p ∧ p < 0x31100 then p - 0x40
    else if isOwn p then own k p
    else p

/-- An access that finds no register: a write is discarded, a read returns zero (R12, R498). -/
def noRegister (write : Bool) (s : State) : State := if write then s else { s with rdata := 0 }

/-- A register access as a command: the core's checks, the debug port's (R498), and the domain (R12), and then f. -/
def gate (m : Master) (write : Bool) (p : Nat) (f : State → Out) (s : State) : Out :=
  match m with
  | .core k =>
    match ioStop k write p s with
    | some e => .next (if s.issues k then takeException k e s.cores[k].pc (some p) s else s)
    | none => if s.portOn p then f s else .next (noRegister write s)
  | .debug => if !isOwn p && s.portOn p then f s else .next (noRegister write s)

/-- A write whose value sets a reserved bit is unpredictable (R10). -/
def reservedOk (p : Nat) (v : Word) : Bool :=
  match specOf (p % 0x1000000) with
  | none => decide (v = 0)
  | some r => decide (v &&& r.reserved = 0)

end Sys2Proof.Machine
end

