-- ==== Sys2Proof/Machine/Pixels.lean ====
section
/-! DEFINITION. The pixels of the tile planes, exactly as R57 to R66 form them. -/
namespace Sys2Proof.Machine

/-- (0, 0, 0, 0). -/
def Rgba.zero : Rgba := ⟨0, 0, 0, 0⟩

/-- The pixel's components from a 40-bit word of format 0x5 (R57). -/
def Rgba.of (v : Nat) : Rgba := ⟨bits v 9 0, bits v 19 10, bits v 29 20, bits v 39 30⟩

/-- The 40-bit word of a pixel (R57). -/
def Rgba.word (p : Rgba) : Nat := p.r + p.g <<< 10 + p.b <<< 20 + p.a <<< 30

/-- The operators of R81: mul10 and scale8, on components from 0 to 1023. -/
def mul10 (x y : Nat) : Nat := (x * y * 1025 + 524288) >>> 20
def scale8 (x t : Nat) : Nat := (x * t * 257 + 32768) >>> 16

/-- x rounded up to a multiple of y, divided by y. -/
def ceilDiv (x y : Nat) : Nat := (x + y - 1) / y

/-- Bits per pixel of a format code (R57). -/
def bpp (f : Nat) : Nat :=
  if f = 0 then 2 else if f = 1 then 4 else if f = 2 then 8 else if f = 3 then 16 else if f = 4 then 32 else 40

/-- The expansion of a direct format to RGBA10 (R63). -/
def expand (f v : Nat) : Rgba :=
  if f = 3 then
    let r := bits v 15 11
    let g := bits v 10 5
    let b := bits v 4 0
    ⟨r <<< 5 ||| r, g <<< 4 ||| g >>> 2, b <<< 5 ||| b, 1023⟩
  else if f = 4 then
    let e := fun (c : Nat) => c <<< 2 ||| c >>> 6
    ⟨e (bits v 7 0), e (bits v 15 8), e (bits v 23 16), e (bits v 31 24)⟩
  else Rgba.of v

/-! ## Palettes, coefficients and the pattern cache -/

/-- A palette entry (R62). -/
def palEntry (s : State) (d : Fin 4) (n : Nat) : Nat :=
  (match Tab.find s.clu[d].pal n with
  | some e => e
  | none => Config.undefPalette s.clu[d].seed d.val n).toNat

/-- A palette entry written. -/
def palSet (d : Fin 4) (n : Nat) (v : BitVec 40) (s : State) : State :=
  setClu d { s.clu[d] with pal := Tab.insert s.clu[d].pal n v } s

/-- The key of a coefficient: physical copy, table, phase and tap (R70). -/
def coefKey (set : Nat) (copy : Bool) (vertical : Bool) (phase tap : Nat) : Nat :=
  1024 * (2 * set + b2n copy) + 512 * b2n vertical + 8 * phase + tap

/-- A coefficient by key. -/
def coefAt (s : State) (d : Fin 4) (key : Nat) : BitVec 10 :=
  match Tab.find s.clu[d].coefs key with
  | some c => c
  | none => Config.undefCoef s.clu[d].seed d.val key

/-- A live coefficient (R65, R70). -/
def liveCoef (s : State) (d : Fin 4) (set : Nat) (vertical : Bool) (phase tap : Nat) : Int :=
  (coefAt s d (coefKey set (s.clu[d].live.getLsbD set) vertical phase tap)).toInt

/-- The live and shadow copies of the sets of a mask exchanged (R70). -/
def swapCoefs (d : Fin 4) (mask : Nat) (s : State) : State :=
  setClu d { s.clu[d] with live := s.clu[d].live ^^^ BitVec.ofNat 4 mask } s

/-- The cached copy of a 64-byte line, if the pattern cache holds it (R72). -/
def patFind (s : State) (line : Nat) : Option (List Byte) :=
  ((Tab.get s.pat [] (line % 32768)).find? (fun l => l.line = line)).map (·.data)

/-- A pattern or map byte as the fetchers see it: the cached line, or DRAM (R72, R73). At an address outside populated DRAM,
which is unpredictable, it is a byte that nothing constrains, and the composer goes on. DESIGN CHOICE. -/
def patByte (s : State) (a : Nat) : Byte :=
  match patFind s (a / 64) with
  | some d => d.getD (a % 64) 0
  | none => s.byte a

/-- n bits at bit k of the pattern bytes from an address (R58). -/
def patBits (s : State) (base k n : Nat) : Nat :=
  ((leToNat ((List.range 6).map (fun i => patByte s (base + k / 8 + i)))) >>> (k % 8)) % 2 ^ n

/-! ## Plane pixels -/

/-- The RGBA10 value of a stored pixel (R62, R63): transparent (none) for an indexed zero under zero_transparent. -/
def storedPixel (s : State) (d : Fin 4) (fmt pal idxBase v : Nat) (zt : Bool) : Option Rgba :=
  if fmt ≤ 2 then
    if zt && v == 0 then none else some (Rgba.of (palEntry s d (256 * pal + (idxBase + v) % 256)))
  else some (expand fmt v)

/-- The tile size of plane p. -/
def tileSize (s : State) (d : Fin 4) (p : Nat) : Nat := if onF s (P.PLN_CTRL d p) F.PLN_CTRL_tile16 then 16 else 8

/-- The plane coordinates after wrapping, inside the plane; none outside it (R64). -/
def wrapped (s : State) (d : Fin 4) (p : Nat) (c r : Int) : Option (Nat × Nat) :=
  let w := getReg s (P.PLN_CTRL d p)
  let wp : Int := ((tileSize s d p * 2 ^ F.PLN_CTRL_map_w_log2.get w : Nat) : Int)
  let hp : Int := ((tileSize s d p * 2 ^ F.PLN_CTRL_map_h_log2.get w : Nat) : Int)
  if (!F.PLN_CTRL_wrap_x.on w && (decide (c < 0) || decide (wp ≤ c))) ||
      (!F.PLN_CTRL_wrap_y.on w && (decide (r < 0) || decide (hp ≤ r))) then none
  else some ((c % wp).toNat, (r % hp).toNat)

/-- The address of the map entry for plane coordinates (R61, R64). -/
def mapEntryAt (s : State) (d : Fin 4) (p : Nat) (c r : Int) : Option Nat :=
  (wrapped s d p c r).map (fun q =>
    let ts := tileSize s d p
    64 * getF s (P.PLN_MAP_BASE d p) F.PLN_MAP_BASE_base +
      4 * ((q.2 / ts) * 2 ^ getF s (P.PLN_CTRL d p) F.PLN_CTRL_map_w_log2 + q.1 / ts))

/-- The map entry at an address. -/
def mapEntry (s : State) (a : Nat) : Nat := patBits s a 0 32

/-- Where the pixel of plane coordinates lies: its tile's first byte, its first bit there and its bits; none for
coordinates outside the plane, and under force_transparent (R58, R59, R64). -/
def tilePixelAt (s : State) (d : Fin 4) (p : Nat) (c r : Int) : Option (Nat × Nat × Nat) :=
  match wrapped s d p c r, mapEntryAt s d p c r with
  | some q, some a =>
    let e := mapEntry s a
    if bit e 30 then none
    else
      let ts := tileSize s d p
      let n := bpp (getF s (P.PLN_CTRL d p) F.PLN_CTRL_format)
      let tx := if bit e 26 then ts - 1 - q.1 % ts else q.1 % ts
      let ty := if bit e 27 then ts - 1 - q.2 % ts else q.2 % ts
      some (64 * getF s (P.PLN_PAT_BASE d p) F.PLN_PAT_BASE_base + bits e 19 0 * (ts * ts * n / 8), (ty * ts + tx) * n, n)
  | _, _ => none

/-- The source pixel at plane coordinates (c, r), with its prio (R64). -/
def sourcePixel (s : State) (d : Fin 4) (p : Nat) (c r : Int) : Rgba × Nat :=
  match mapEntryAt s d p c r with
  | none => (Rgba.zero, 0)
  | some a =>
    let e := mapEntry s a
    let prio := bits e 29 28
    match tilePixelAt s d p c r with
    | none => (Rgba.zero, prio)
    | some (base, k, n) =>
      let w := getReg s (P.PLN_CTRL d p)
      match storedPixel s d (F.PLN_CTRL_format.get w) (bits e 25 20) (F.PLN_CTRL_idx_base.get w) (patBits s base k n)
          (F.PLN_CTRL_zero_transparent.on w) with
      | none => (Rgba.zero, prio)
      | some q =>
        if bit e 31 then
          let t := getF s (P.PLN_TALPHA d p) F.PLN_TALPHA_talpha
          if F.PLN_CTRL_premul.on w then (⟨scale8 q.r t, scale8 q.g t, scale8 q.b t, scale8 q.a t⟩, prio)
          else ({ q with a := scale8 q.a t }, prio)
        else (q, prio)

/-- A component of a pixel: 0 R, 1 G, 2 B, 3 A. -/
def Rgba.comp (q : Rgba) (k : Nat) : Int :=
  ((if k = 0 then q.r else if k = 1 then q.g else if k = 2 then q.b else q.a : Nat) : Int)

/-- The filter sum of coefficients and values, rounded: (Σ + 256) >> 9, not clamped (R65, R66). -/
def filterSum (cs vs : List Int) : Int := ((List.zipWith (· * ·) cs vs).sum + 256) / 512

/-- The filtered component k of a pixel: the horizontal pass over 8 source columns when hx gives their coefficients and
the vertical pass over the rows when vx gives theirs, clamped to 0 to 1023 (R65, R133). -/
def filtered (src : Int → Int → Rgba) (i : Int) (rows : List Int) (hx vx : Option (List Int)) (k : Nat) : Nat :=
  let h := rows.map (fun j =>
    match hx with
    | some cs => filterSum cs ((List.range 8).map (fun (m : Nat) => (src (i - 3 + (m : Int)) j).comp k))
    | none => (src i j).comp k)
  let t :=
    match vx with
    | some cs => filterSum cs h
    | none => h.headD 0
  (clampI 0 1023 t).toNat

/-- The coefficients of a phase. -/
def coefRow (s : State) (d : Fin 4) (set : Nat) (vertical : Bool) (phase : Nat) : List Int :=
  (List.range (if vertical then 4 else 8)).map (liveCoef s d set vertical phase)

/-- The position and phase on an axis: origin plus n steps, in 16.16 (R65). -/
def axisPos (org : Word) (step n : Nat) : Int × Nat :=
  let u := org.toInt + ((n * step : Nat) : Int)
  (u / 65536, ((u % 65536).toNat) >>> 10)

/-- The rows that a vertical pass reads. -/
def filterRows (vscale : Bool) (j : Int) : List Int := if vscale then [j - 1, j, j + 1, j + 2] else [j]

/-- Plane p is enabled and its window shows it at output column x and line y (R65, R67). -/
def planeVisible (s : State) (d : Fin 4) (p x y : Nat) : Bool :=
  let w := getReg s (P.PLN_CTRL d p)
  let wx := getReg s (P.PLN_WIN_X d p)
  let wy := getReg s (P.PLN_WIN_Y d p)
  let inside := decide (F.PLN_WIN_X_lo.get wx ≤ x) && decide (x < F.PLN_WIN_X_hi.get wx) &&
    decide (F.PLN_WIN_Y_lo.get wy ≤ y) && decide (y < F.PLN_WIN_Y_hi.get wy)
  F.PLN_CTRL_enable.on w && (inside != F.PLN_CTRL_win_invert.on w)

/-- The plane pixel at output column x and line y, with its prio (R65, R67). -/
def planePixel (s : State) (d : Fin 4) (p x y : Nat) : Rgba × Nat :=
  let w := getReg s (P.PLN_CTRL d p)
  if !planeVisible s d p x y then (Rgba.zero, 0)
  else
    let set := F.PLN_CTRL_coef_set.get w
    let hs := F.PLN_CTRL_hscale.on w
    let vs := F.PLN_CTRL_vscale.on w
    let h := axisPos (getReg s (P.PLN_ORG_X d p)) (if hs then getF s (P.PLN_STEP_X d p) F.PLN_STEP_X_step else 65536) x
    let v := axisPos (getReg s (P.PLN_ORG_Y d p)) (if vs then getF s (P.PLN_STEP_Y d p) F.PLN_STEP_Y_step else 65536) y
    let hx := if hs then some (coefRow s d set false h.2) else none
    let vx := if vs then some (coefRow s d set true v.2) else none
    let src := fun c r => (sourcePixel s d p c r).1
    let q := filtered src h.1 (filterRows vs v.1) hx vx
    (⟨q 0, q 1, q 2, q 3⟩, (sourcePixel s d p h.1 v.1).2)

/-- The descriptor words of a plane, PLN_CTRL to PLN_TALPHA (R68). -/
def planeDesc (s : State) (d : Fin 4) (p : Nat) : List Word := (List.range 10).map (fun i => getReg s (P.PLN_CTRL d p + 4 * i))

/-- The plane is enabled. -/
def planeOn (s : State) (d : Fin 4) (p : Nat) : Bool := onF s (P.PLN_CTRL d p) F.PLN_CTRL_enable

/-- The rows of source pixels that output line y needs (R65). -/
def planeRows (s : State) (d : Fin 4) (p y : Nat) : List Int :=
  let vs := onF s (P.PLN_CTRL d p) F.PLN_CTRL_vscale
  filterRows vs
    (axisPos (getReg s (P.PLN_ORG_Y d p)) (if vs then getF s (P.PLN_STEP_Y d p) F.PLN_STEP_Y_step else 65536) y).1

/-- The fetcher's clocks for a line of W columns that needs L new source rows (R74). -/
def planeClocks (s : State) (d : Fin 4) (p w l : Nat) : Nat :=
  let n := if onF s (P.PLN_CTRL d p) F.PLN_CTRL_hscale then
    ceilDiv (w * getF s (P.PLN_STEP_X d p) F.PLN_STEP_X_step) 65536 + 7 else w
  Nat.max (ceilDiv w 2) (l * Nat.max (ceilDiv n 8) (ceilDiv w 4))

end Sys2Proof.Machine
end

