-- ==== Sys2Proof/Machine/Pattern.lean ====
section
/-! DEFINITION. The pattern cache: its sets, the walks of the fetchers and the comet units, their fills and invalidation
(R72, R73, R75, R86). -/
namespace Sys2Proof.Machine

/-! ## Sets -/

/-- A byte of a pattern-cache set lies in SRAM bank b: its 12 lines stand one after another, the sets of a pattern bank in
order, and the pattern banks in order from the base of the range (R24, R29, R72). DESIGN CHOICE: the order. -/
def patInBank (b set : Nat) : Bool :=
  let a := 0x8000800000 + 0xC0000 * (set % 32) + 768 * (set / 32)
  decide (sramBase + bankSize * b < a + 768) && decide (a < sramBase + bankSize * (b + 1))

/-- The SRAM banks that hold a set are on (R26). -/
def patSetOn (s : State) (set : Nat) : Bool := (List.range 8).all (fun b => !patInBank b set || s.powered (20 + b))

/-- The lines of a set, the most recently read first. -/
def patSet (s : State) (set : Nat) : List PatLine := Tab.get s.pat [] set

/-- A set replaced. -/
def setPatSet (set : Nat) (ls : List PatLine) (s : State) : State := { s with pat := Tab.insert s.pat set ls }

/-- A line that the cache holds becomes the most recently read of its set (R72). -/
def patTouch (line : Nat) (s : State) : State :=
  let ls := patSet s (line % 32768)
  match ls.find? (fun l => l.line = line) with
  | some l => setPatSet (line % 32768) (l :: ls.filter (fun l => l.line ≠ line)) s
  | none => s

/-- A line put into its set, as if just read: the least recently read of more than twelve leaves (R72). -/
def patInsert (line : Nat) (s : State) : State :=
  let set := line % 32768
  if patSetOn s set then
    let new := ⟨line, s.readBytes (64 * line) 64⟩ :: (patSet s set).filter (fun l => l.line ≠ line)
    (setPatSet set (new.take 12) s).draw
  else s

/-- A line removed from its set. -/
def patErase (line : Nat) (s : State) : State :=
  setPatSet (line % 32768) ((patSet s (line % 32768)).filter (fun l => l.line ≠ line)) s

/-- A line of the pattern space in populated DRAM (R59, R61); another line is never asked for. -/
def patReach (s : State) (line : Nat) : Bool := decide (64 * line + 64 ≤ Nat.min s.dramSize 0x400000000)

/-! ## Fills -/

/-- The requester of walk i of cluster d: the composer, or for walk 8 the comet unit (R40). -/
def fillId (d : Fin 4) (i : Fin 9) : Nat := if i.val = 8 then 4 + d.val else d.val

/-- A fill counted where its unit counts the fills it requests (R77, R94). -/
def countFill (d : Fin 4) (i : Fin 9) (s : State) : State :=
  let s := pmcEvent (0x070 + d.val) 0 1 s
  if i.val = 8 then (if s.powered (pdComet d) then addF s (P.CMT_STAT d) F.CMT_STAT_fill 1 else s)
  else addF s (P.PLN_STAT d) F.PLN_STAT_fill 1

/-- Cluster d with walk i replaced. -/
def setWalk (d : Fin 4) (i : Fin 9) (w : Walk) (s : State) : State :=
  setClu d { s.clu[d] with walks := s.clu[d].walks.set i w } s

/-- Walk i of cluster d asks for a fill of a line: a read at its requester's port (R40, R73, R86). -/
def askFill (d : Fin 4) (i : Fin 9) (line : Nat) (s : State) : State :=
  let c := chanOf s (64 * line)
  let s1 := issueAll (fillId d i) [⟨64 * line, none, false, c, arrival s c, i.val + 1⟩] (countFill d i s)
  let w := s1.clu[d].walks[i]
  setWalk d i { w with flights := w.flights ++ [(line, false)], asked := w.asked + 1 } s1

/-- Walk i of cluster d goes on over the given lines: a line that the cache holds is read, another is asked for, while no
more than 16 fills are outstanding (R73, R86). -/
def walkOn (d : Fin 4) (i : Fin 9) : List Nat → State → State
  | [], s => setWalk d i { s.clu[d].walks[i] with todo := [] } s
  | l :: ls, s =>
    if !patReach s l then walkOn d i ls s
    else if (patFind s l).isSome then walkOn d i ls (patTouch l s)
    else if 16 ≤ s.clu[d].walks[i].flights.length then setWalk d i { s.clu[d].walks[i] with todo := l :: ls } s
    else walkOn d i ls (askFill d i l s)

/-- Nothing of the walk is left. -/
def Walk.done (w : Walk) : Bool := w.todo.isEmpty && w.flights.isEmpty

/-- The walk waits for the fill of a line: whether an invalidation has met it. -/
def Walk.flight (w : Walk) (line : Nat) : Option Bool := (w.flights.find? (fun f => f.1 = line)).map (·.2)

/-- The first entry for a line removed. -/
def dropFlight (line : Nat) : List (Nat × Bool) → List (Nat × Bool)
  | [] => []
  | f :: fs => if f.1 = line then fs else f :: dropFlight line fs

/-- The fill's read has not been granted, or its data has not returned (R43). -/
def fillUnderWay (d : Fin 4) (i : Fin 9) (line : Nat) (s : State) : Bool :=
  (requester s (fillId d i)).waiting.any (fun r => decide (r.addr = 64 * line) && decide (r.tag = i.val + 1)) ||
  s.mc.chans.any (fun c => c.flights.any (fun f => decide (f.id = fillId d i) && decide (f.addr = 64 * line)))

/-- The fill of a line arrives for walk i of cluster d: it enters the cache, unless an invalidation met it (R72, R75). -/
def fillArrives (d : Fin 4) (i : Fin 9) (line : Nat) (met : Bool) (s : State) : State :=
  let w := s.clu[d].walks[i]
  let s1 := setWalk d i { w with flights := dropFlight line w.flights } s
  let s2 := if met || (patFind s1 line).isSome then s1 else patInsert line s1
  walkOn d i s2.clu[d].walks[i].todo s2

/-- A line read again after its walk: one that has left the cache is asked for, waited for and counted (R73); the result
says whether it had left. -/
def patAgain (d : Fin 4) (i : Fin 9) (line : Nat) (s : State) : Except Held (Bool × State) :=
  if !patReach s line then .ok (false, s)
  else if (patFind s line).isSome then .ok (false, patTouch line s)
  else
    (dramAccess (fillId d i) (64 * line) none (countFill d i s)).map (fun s1 =>
      let s2 := patInsert line s1
      (true, if i.val = 8 then s2 else addF s2 (P.PLN_STAT d) F.PLN_STAT_compose_miss 1))

/-- Lines read again in order, with how many of them had left the cache. -/
def patAgainAll (d : Fin 4) (i : Fin 9) : List Nat → Nat × State → Except Held (Nat × State)
  | [], r => .ok r
  | l :: ls, r => (patAgain d i l r.2).bind (fun q => patAgainAll d i ls (r.1 + b2n q.1, q.2))

/-! ## Lines that a line of output reads -/

/-- A list without neighbours that are equal. -/
def squeeze : List Nat → List Nat
  | a :: b :: t => if a = b then squeeze (b :: t) else a :: squeeze (b :: t)
  | l => l

/-- The cache lines that hold the bytes of the bits k to k + n − 1 of the pattern at an address. -/
def bitLines (base k n : Nat) : List Nat :=
  let a := (base + k / 8) / 64
  let b := (base + (k + n - 1) / 8) / 64
  if a = b then [a] else [a, b]

/-- The plane coordinates that output line y of the visible part of plane p reads: columns and rows (R64, R65). -/
def planeReads (s : State) (d : Fin 4) (p w y : Nat) : List (Int × Int) :=
  let hs := onF s (P.PLN_CTRL d p) F.PLN_CTRL_hscale
  let step := if hs then getF s (P.PLN_STEP_X d p) F.PLN_STEP_X_step else 65536
  let rows := planeRows s d p y
  (List.range w).flatMap (fun x =>
    if planeVisible s d p x y then
      let i := (axisPos (getReg s (P.PLN_ORG_X d p)) step x).1
      let cols := if hs then (List.range 8).map (fun (m : Nat) => i - 3 + (m : Int)) else [i]
      rows.flatMap (fun r => cols.map (fun c => (c, r)))
    else [])

/-- The lines of map entries, and those of pattern data, that output line y of plane p reads (R64, R73). -/
def planeMapLines (s : State) (d : Fin 4) (p w y : Nat) : List Nat :=
  squeeze ((planeReads s d p w y).filterMap (fun q => (mapEntryAt s d p q.1 q.2).map (· / 64)))
def planePatLines (s : State) (d : Fin 4) (p w y : Nat) : List Nat :=
  squeeze ((planeReads s d p w y).flatMap (fun q =>
    match tilePixelAt s d p q.1 q.2 with
    | some (base, k, n) => bitLines base k n
    | none => []))

/-! ## Invalidation (R75) -/

/-- The pattern cache without the lines of a range. -/
def patDrop (hit : Nat → Bool) (s : State) : State :=
  { s with pat := (s.pat.map (fun e => (e.1, e.2.filter (fun l => !hit l.line)))).filter (fun e => e.2 ≠ []) }

/-- Every fill in flight for a line of the range is met. -/
def meetFills (hit : Nat → Bool) (s : State) : State :=
  { s with clu := s.clu.map (fun c =>
      { c with walks := c.walks.map (fun w => { w with flights := w.flights.map (fun f => (f.1, f.2 || hit f.1)) }) }) }

/-- An invalidation of a range, made whole when it starts. DESIGN CHOICE: no command lies within its walk. -/
def patInvalidate (hit : Nat → Bool) (s : State) : State := meetFills hit (patDrop hit s)

end Sys2Proof.Machine
end

