-- ==== Sys2Proof/Machine/Planes.lean ====
section
/-! DEFINITION. The commands of the tile planes, the coefficient sets and the pattern cache (chapter 3). -/
namespace Sys2Proof.Machine

/-- The cluster's ephemeris sequencer runs. -/
def seqRuns (s : State) (d : Fin 4) : Bool := onF s (P.EPH_STAT d) F.EPH_STAT_running

/-- A write of PLN_PAL_HI: the staged low bits and the high bits go into the selected entry, and the address advances;
ignored while the sequencer runs (R71, R77). -/
def palWrite (d : Fin 4) (high : Nat) (s : State) : State :=
  if seqRuns s d then s
  else
    let n := getF s (P.PLN_PAL_ADDR d) F.PLN_PAL_ADDR_entry
    let s1 := palSet d n (BitVec.ofNat 40 ((getReg s (P.PLN_PAL_LO d)).toNat + 4294967296 * high)) s
    setF s1 (P.PLN_PAL_ADDR d) F.PLN_PAL_ADDR_entry (n + 1)

/-- PALETTE_WRITE: a write to PLN_PAL_HI of cluster d (R71, R77). -/
def execPaletteWrite (m : Master) (d : Fin 4) (high : BitVec 8) (s : State) : Out :=
  gate m true (P.PLN_PAL_HI d) (fun s => .next (palWrite d high.toNat s)) s

/-- The shadow coefficient that PLN_COEF_ADDR selects; none for taps 4 to 7 of a vertical table (R77). -/
def shadowKey (s : State) (d : Fin 4) : Option Nat :=
  let a := getReg s (P.PLN_COEF_ADDR d)
  let set := F.PLN_COEF_ADDR_set.get a
  let vert := F.PLN_COEF_ADDR_vertical.on a
  let tap := F.PLN_COEF_ADDR_tap.get a
  if vert && decide (4 ≤ tap) then none
  else some (coefKey set (!s.clu[d].live.getLsbD set) vert (F.PLN_COEF_ADDR_phase.get a) tap)

/-- A write of PLN_COEF_DATA: the selected shadow coefficient, and the address advances as one 12-bit counter (R77). A write
that breaks R114 is unpredictable; it too sets the shadow copy as it stands then. DESIGN CHOICE. -/
def coefWrite (d : Fin 4) (v : BitVec 10) (s : State) : State :=
  let s1 := match shadowKey s d with
    | some k => setClu d { s.clu[d] with coefs := Tab.insert s.clu[d].coefs k v } s
    | none => s
  let a := P.PLN_COEF_ADDR d
  setReg s1 a (BitVec.ofNat 32 (((getReg s1 a).toNat % 4096 + 1) % 4096))

/-- COEF_WRITE: a write to PLN_COEF_DATA of cluster d (R70, R71). -/
def execCoefWrite (m : Master) (d : Fin 4) (v : BitVec 10) (s : State) : Out :=
  gate m true (P.PLN_COEF_DATA d) (fun s => .next (coefWrite d v s)) s

/-- COEF_SWAP: 1s written to PLN_COEF_CTRL.swap; ignored while the sequencer runs (R70, R71). -/
def execCoefSwap (m : Master) (d : Fin 4) (mask : Fin 16) (s : State) : Out :=
  gate m true (P.PLN_COEF_CTRL d) (fun s => .next (if seqRuns s d then s else swapCoefs d mask.val s)) s

/-- A probe armed: its position, and valid cleared. -/
def armProbe (pos valid : Nat) (validFld : Fld) (v : Word) (s : State) : State :=
  setF (setReg s pos v) valid validFld 0

/-- The word of a probe position with arm set. -/
def probeWord (x y : Fin 8192) : Nat := x.val + y.val <<< 16 + 0x80000000

/-- PLN_PROBE_ARM: PLN_PROBE_POS written with arm (R77). -/
def execPlnProbeArm (m : Master) (d : Fin 4) (plane : Fin 8) (x y : Fin 8192) (s : State) : Out :=
  gate m true (P.PLN_PROBE_POS d) (fun s => .next (armProbe (P.PLN_PROBE_POS d) (P.PLN_PROBE_HI d)
    F.PLN_PROBE_HI_valid (BitVec.ofNat 32 (probeWord x y + plane.val <<< 13)) s)) s

/-! ## The pattern cache -/

/-- A write of start and all to PLN_PCI_CTRL: both together run the whole-cache walk; ignored while busy (R75, R77). -/
def pciStart (start all : Bool) (s : State) : State :=
  if onF s P.PLN_PCI_CTRL F.PLN_PCI_CTRL_busy || !(start || all) then s
  else
    let first := getF s P.PLN_PCI_BASE F.PLN_PCI_BASE_base
    let n := getF s P.PLN_PCI_SIZE F.PLN_PCI_SIZE_lines
    let s1 := patInvalidate (fun l => all || (decide (first ≤ l) && decide (l < first + n))) s
    setReg s1 P.PLN_PCI_CTRL (BitVec.ofNat 32 (b2n start + 2 * b2n all + 0x100))

/-- INVALIDATE_RANGE: PLN_PCI_CTRL.start (R75). -/
def execInvalidateRange (m : Master) (s : State) : Out :=
  gate m true P.PLN_PCI_CTRL (fun s => .next (pciStart true false s)) s

/-- INVALIDATE_ALL: PLN_PCI_CTRL.all, with or without start (R75). -/
def execInvalidateAll (m : Master) (start : Bool) (s : State) : Out :=
  gate m true P.PLN_PCI_CTRL (fun s => .next (pciStart start true s)) s

/-- INVALIDATION_END: the walk ends; start, all and busy clear (R75). -/
def execInvalidationEnd (s : State) : Out :=
  if onF s P.PLN_PCI_CTRL F.PLN_PCI_CTRL_busy then .next (setReg s P.PLN_PCI_CTRL 0) else .next s

end Sys2Proof.Machine
end

