-- ==== Sys2Proof/Machine/Records.lean ====
section
/-! DEFINITION. Frame headers, band-table entries, band records and comet lists as R95 to R107 lay them out, and the
commands' views of them. -/
namespace Sys2Proof.Machine

/-! ## Fields of a band record (R99) -/

/-- Word i of a record. -/
def Band.word (b : Band) (i : Nat) : Nat := (b.words.getD i 0).toNat

def Band.unchanged (b : Band) : Bool := bit (b.word 0) 8
def Band.cmtLoad (b : Band) : Bool := bit (b.word 0) 9
def Band.coefSwap (b : Band) : Nat := bits (b.word 0) 13 10
def Band.firstLine (b : Band) : Nat := bits (b.word 1) 12 0
def Band.lines (b : Band) : Nat := bits (b.word 1) 19 13
def Band.part (b : Band) : Nat := bits (b.word 1) 22 20
def Band.deadline (b : Band) : Int := sext (b.word 2) 16
def Band.nWrites (b : Band) : Nat := bits (b.word 3) 15 0
def Band.nCwords (b : Band) : Nat := bits (b.word 3) 31 16

/-- The band is the last of its frame. -/
def Band.isLast (b : Band) : Bool := decide (b.band + 1 = b.count)

/-- The word of EPH_POS, EPH_DONE and CMT_FETCHED for a band (R94, R127). -/
def Band.pos (b : Band) : Word := BitVec.ofNat 32 (b.band + (b.frame % 0x800000) <<< 9)

/-! ## Raster-effect writes (R101 to R103) -/

/-- A raster-effect write. -/
structure RWrite where
  line : Nat
  pal : Bool
  target : Nat
  high : Nat
  value : Word
  deriving DecidableEq, Repr

/-- A write from its two words (R101). -/
def RWrite.of (w0 w1 : Nat) : RWrite := ⟨bits w0 5 0, bit w0 6, bits w0 21 8, bits w0 29 22, BitVec.ofNat 32 w1⟩

/-- The writes of a record, in list order. -/
def Band.writes (b : Band) : List RWrite :=
  (List.range b.nWrites).map (fun i => RWrite.of (b.word (8 + 2 * i)) (b.word (9 + 2 * i)))

/-- The target is one that R102 allows. -/
def RWrite.allowed (w : RWrite) : Bool :=
  let off := w.target % 4096
  w.pal || (decide (w.target / 4096 = 0) && decide (off < 128) && decide (off % 16 ≤ 9)) ||
    (decide (w.target / 4096 = 1) && decide (1 ≤ off) && decide (off ≤ 6))

/-- The state with a write in effect on cluster d (R102, R103). -/
def rasterWrite (d : Fin 4) (w : RWrite) (s : State) : State :=
  if w.pal then palSet d w.target (BitVec.ofNat 40 (w.value.toNat + 4294967296 * w.high)) s
  else if w.target / 4096 = 0 then codeWrite (P.PLN_CTRL d 0 + 4 * (w.target % 4096)) w.value s
  else codeWrite (P.CMP_CTRL d + 4 * (w.target % 4096)) w.value s

/-- The writes that apply from line n of the band. -/
def writesAt (d : Fin 4) (b : Band) (n : Nat) (s : State) : State :=
  (b.writes.filter (fun w => w.line = n)).foldl (fun t w => rasterWrite d w t) s

/-- Every write of a band. -/
def allWrites (d : Fin 4) (b : Band) (s : State) : State := b.writes.foldl (fun t w => rasterWrite d w t) s

/-! ## Comet lists (R104, R105) -/

/-- An entry of a comet list: its first line and line count in the band, and either a run of indices or a context. -/
structure CEntry where
  f : Nat
  n : Nat
  index : Nat
  run : Nat
  inline : Option (List Word)
  deriving DecidableEq, Repr

/-- The entries of a list of words; none when a kind is reserved, a run stands in format 1, or words are missing. -/
def parseComets (fmt : Nat) : Nat → List Word → Option (List CEntry)
  | 0, ws => if ws = [] then some [] else none
  | _ + 1, [] => some []
  | fuel + 1, w :: ws =>
    let v := w.toNat
    let f := bits v 23 18
    let n := bits v 29 24 + 1
    match bits v 31 30 with
    | 0 => (parseComets fmt fuel ws).map (fun t => ⟨f, n, bits v 17 0, 1, none⟩ :: t)
    | 1 =>
      if ws.length < 8 ∨ bits v 17 0 ≠ 0 then none
      else (parseComets fmt fuel (ws.drop 8)).map (fun t => ⟨f, n, 0, 1, some (ws.take 8)⟩ :: t)
    | 2 =>
      match ws with
      | c :: rest =>
        if fmt = 1 ∨ c.toNat ≥ 0x40000 then none
        else (parseComets fmt fuel rest).map (fun t => ⟨f, n, bits v 17 0, c.toNat + 1, none⟩ :: t)
      | [] => none
    | _ => none

/-- The comet words of a record. -/
def Band.cometWords (b : Band) : List Word := (b.words.drop (8 + 2 * b.nWrites)).take b.nCwords

/-- The format of a record. -/
def Band.format (b : Band) : Nat := bits (b.word 0) 7 0

/-- The comet list of a record. -/
def Band.comets (b : Band) : List CEntry := (parseComets b.format b.nCwords b.cometWords).getD []

/-! ## The ring (R95 to R97, R504) -/

/-- Frame a precedes frame b (R504). -/
def precedes (a b : Nat) : Bool :=
  let n := (b + 4294967296 - a % 4294967296) % 4294967296
  decide (1 ≤ n) && decide (n < 2147483648)

/-- Frame number arithmetic modulo 2^32. -/
def frameAdd (a n : Nat) : Nat := (a + n) % 4294967296
def frameSub (a n : Nat) : Nat := (a + 4294967296 - n % 4294967296) % 4294967296

/-- The number of slots S, the format and the slot size (R95). -/
def ringSlots (s : State) (d : Fin 4) : Nat := 4 <<< getF s (P.EPH_CTRL d) F.EPH_CTRL_slots_log2
def ringFormat (s : State) (d : Fin 4) : Nat := getF s (P.EPH_CTRL d) F.EPH_CTRL_format
def slotSize (s : State) (d : Fin 4) : Nat := if ringFormat s d = 1 then 4096 else 8192

/-- The address of frame F's slot (R95). -/
def slotAddr (s : State) (d : Fin 4) (frame : Nat) : Nat :=
  8192 * getF s (P.EPH_RING_BASE d) F.EPH_RING_BASE_base + (frame % ringSlots s d) * slotSize s d

/-- Word i of frame F's header. -/
def hdrWord (s : State) (d : Fin 4) (frame i : Nat) : Nat := s.readLe (slotAddr s d frame + 4 * i) 4

/-- band_count and the band height in lines of frame F's header (R96). -/
def hdrCount (s : State) (d : Fin 4) (frame : Nat) : Nat := bits (hdrWord s d frame 0) 24 16
def hdrHeight (s : State) (d : Fin 4) (frame : Nat) : Nat := 8 <<< bits (hdrWord s d frame 0) 9 8

/-- The frame is committed (R504). -/
def committed (s : State) (d : Fin 4) (frame : Nat) : Bool :=
  let c := (getReg s (P.EPH_COMMIT d)).toNat
  (decide (frame = c) || precedes frame c) && !precedes frame (getReg s (P.EPH_FRAME0 d)).toNat

/-- The frame has retired (R504). -/
def retired (s : State) (d : Fin 4) (frame : Nat) : Bool :=
  let r := (getReg s (P.EPH_RETIRED d)).toNat
  decide (frame = r) || precedes frame r

/-- The band-table entry of a band as the slot holds it, words 2 and 3 zero in format 1 (R97). -/
def slotEntry (s : State) (d : Fin 4) (frame band : Nat) : Override :=
  let w := fun (i : Nat) =>
    if ringFormat s d = 1 then
      (if i < 2 then s.word (slotAddr s d frame + 64 + 8 * band + 4 * i) else 0)
    else s.word (slotAddr s d frame + 64 + 16 * band + 4 * i)
  ⟨frame, band, w 0, w 1, w 2, w 3⟩

/-- The entry that a take latches: the override, or the slot's (R110). -/
def takeEntry (s : State) (d : Fin 4) (frame band : Nat) : Override :=
  (s.clu[d].overrides.find? (fun o => decide (o.frame = frame) && decide (o.band = band))).getD (slotEntry s d frame band)

/-- The record's length in 64-byte units, its words, and its patches: word index and value (R97, R106); a format 1 entry
has none. -/
def entryLen (e : Override) : Nat := bits e.e1.toNat 11 0
def entryWords (s : State) (e : Override) : List Word :=
  (List.range (16 * entryLen e)).map (fun i => s.word (64 * bits e.e0.toNat 28 0 + 4 * i))
def entryPatches (s : State) (d : Fin 4) (e : Override) : List (Nat × Word) :=
  (List.range (if ringFormat s d = 1 then 0 else bits e.e3.toNat 9 0)).map (fun i =>
    ((s.word (64 * bits e.e2.toNat 28 0 + 8 * i)).toNat, s.word (64 * bits e.e2.toNat 28 0 + 8 * i + 4)))

/-- The record with its patches applied in list order (R106). -/
def patchedWords (s : State) (d : Fin 4) (e : Override) : List Word :=
  (entryPatches s d e).foldl (fun ws p => setAt ws p.1 p.2) (entryWords s e)

/-! ## The forms that R109 does not check -/

/-- The write lines do not decrease. -/
def linesRise : List RWrite → Bool
  | a :: b :: t => decide (a.line ≤ b.line) && linesRise (b :: t)
  | _ => true

/-- The header keeps R96, its checked fields apart. Lines that differ from the composed height are no fault: the frame goes on
with the header's lines. DESIGN CHOICE: chapter 7 leaves unpredictable an active size other than the composed one, and header
lines other than Hc. -/
def headerForm (s : State) (d : Fin 4) (frame : Nat) : Bool :=
  let w0 := hdrWord s d frame 0
  let w2 := hdrWord s d frame 2
  let w3 := hdrWord s d frame 3
  let lines := bits w2 12 0
  decide (bits w0 15 13 = 0) && decide (w0 >>> 25 = 0) && decide (w2 >>> 13 = 0) && decide (w3 >>> 16 = 0) &&
  decide (1 ≤ lines) && decide (lines ≤ 4032) && decide (hdrCount s d frame ≤ 504) &&
  decide (hdrCount s d frame = ceilDiv lines (hdrHeight s d frame)) &&
  (decide (ringFormat s d = 2) || decide (hdrHeight s d frame ≤ 32)) &&
  (List.range 12).all (fun i => hdrWord s d frame (4 + i) == 0)

/-- The entry keeps R97, R98 and R106; words 2 and 3 are used only in format 2 (R127). -/
def entryForms (s : State) (d : Fin 4) (e : Override) : Bool :=
  let len := entryLen e
  let np := (entryPatches s d e).length
  decide (e.e0.toNat >>> 29 = 0) && decide (e.e1.toNat >>> 12 = 0) &&
  (decide (ringFormat s d = 1) || decide (e.e3.toNat >>> 10 = 0)) && decide (1 ≤ len) && decide (len ≤ 2048) && decide (64 * bits e.e0.toNat 28 0 + 64 * len ≤ s.dramSize) &&
  (decide (np = 0) || (decide (e.e2.toNat >>> 29 = 0) && decide (64 * bits e.e2.toNat 28 0 + 8 * np ≤ s.dramSize))) &&
  (entryPatches s d e).all (fun p => decide (p.1 < 16 * len))

/-- The record keeps R99 to R105 for band number n of a frame, lines its line count. -/
def recordForm (s : State) (d : Fin 4) (b : Band) (lines : Nat) : Bool :=
  let part := getReg s (P.CMP_PART b.part)
  decide (bits (b.word 0) 15 14 = 0) && decide (b.word 0 >>> 27 = 0) && decide (b.word 1 >>> 23 = 0) &&
  decide (b.word 2 >>> 16 = 0) && decide (b.word 4 >>> 19 = 0) && decide (b.word 6 = 0) && decide (b.word 7 = 0) &&
  decide (bits (b.word 0) 24 16 = b.band) && decide (bits (b.word 0) 26 25 = d.val) &&
  decide (b.firstLine = b.band * b.height) && decide (b.lines = Nat.min b.height (lines - b.band * b.height)) &&
  decide (8 + 2 * b.nWrites + b.nCwords ≤ b.words.length) &&
  F.CMP_PART_valid.on part && decide (F.CMP_PART_cluster.get part = d.val) &&
  b.writes.all (fun w => w.allowed && decide (w.line < b.lines)) && linesRise b.writes &&
  (match parseComets b.format b.nCwords b.cometWords with
  | none => false
  | some es => es.all (fun e => decide (e.f + e.n ≤ b.lines)))

end Sys2Proof.Machine
end

