-- ==== Sys2Proof/Machine/Raster.lean ====
section
/-! DEFINITION. The rasters of a cluster: the canvas, the emitted lines, the virtual beam's times and the refresh of a
frame (R132 to R135, R145 to R147, R154, R165). -/
namespace Sys2Proof.Machine

/-- The cluster is the second of a ganged pair (R165). -/
def gangSlave (s : State) (d : Fin 4) : Bool :=
  (decide (d = 1) && onF s (P.DSP_CTRL 0) F.DSP_CTRL_gang) || (decide (d = 3) && onF s (P.DSP_CTRL 2) F.DSP_CTRL_gang)

/-- The cluster leads a ganged pair. -/
def gangMaster (s : State) (d : Fin 4) : Bool :=
  decide (d = 0 ∨ d = 2) && onF s (P.DSP_CTRL d) F.DSP_CTRL_gang

/-- The cluster whose timing a cluster follows (R165). -/
def leader (s : State) (d : Fin 4) : Fin 4 := if gangSlave s d then (if d = 1 then 0 else 2) else d

/-- The clusters that share a tick sequence with d (R165). -/
def group (s : State) (d : Fin 4) : List (Fin 4) :=
  if gangMaster s d then (if d = 0 then [0, 1] else [2, 3]) else [d]

/-! ## Timing (R145) -/

/-- Active width and lines, and the totals Ht and Vt, of the timing that cluster d runs. -/
def activeW (s : State) (d : Fin 4) : Nat := getF s (P.DSP_H0 (leader s d)) F.DSP_H0_active
def activeH (s : State) (d : Fin 4) : Nat := getF s (P.DSP_V0 (leader s d)) F.DSP_V0_active
def totalH (s : State) (d : Fin 4) : Nat :=
  let w := getReg s (P.DSP_H1 (leader s d))
  activeW s d + F.DSP_H1_fp.get w + F.DSP_H1_sync.get w + F.DSP_H1_bp.get w
def totalV (s : State) (d : Fin 4) : Nat :=
  let w := getReg s (P.DSP_V1 (leader s d))
  activeH s d + F.DSP_V1_fp.get w + F.DSP_V1_sync.get w + F.DSP_V1_bp.get w
def pixelKhz (s : State) (d : Fin 4) : Nat := getF s (P.DSP_PCLK (leader s d)) F.DSP_PCLK_khz

/-- The beam that cluster d follows. -/
def beamOf (s : State) (d : Fin 4) : Beam := s.clu[leader s d].beam

/-- The composition clock, 1.5 GHz, in which the beam enters line v of refresh r: Ht pixel clocks a line from where the
beam started, the first composition clock not before it (R145, R147). -/
def lineTime (s : State) (d : Fin 4) (r v : Int) : Nat :=
  let b := beamOf s d
  let n := (r - (b.originRefresh : Int)) * (totalV s d : Int) + (v - (b.originLine : Int))
  ((b.origin : Int) - (-(n * (totalH s d : Int) * 1500000)) / (pixelKhz s d : Int)).toNat

/-- The refresh and line in which the beam stands in a composition clock. -/
def beamAt (s : State) (d : Fin 4) (x : Nat) : Int × Int :=
  let b := beamOf s d
  let n := (((x : Int) - (b.origin : Int)) * (pixelKhz s d : Int)) / ((totalH s d * 1500000 : Nat) : Int) +
    (b.originLine : Int)
  ((b.originRefresh : Int) + n / (totalV s d : Int), n % (totalV s d : Int))

/-! ## Canvas and output (R132 to R135) -/

/-- Output scaling is on; a ganged pair composes without it (R135). -/
def scaling (s : State) (d : Fin 4) : Bool :=
  onF s (P.CMP_OSCALE d) F.CMP_OSCALE_enable && !gangSlave s d && !gangMaster s d
def outHscale (s : State) (d : Fin 4) : Bool := scaling s d && onF s (P.CMP_OSCALE d) F.CMP_OSCALE_hscale
def outVscale (s : State) (d : Fin 4) : Bool := scaling s d && onF s (P.CMP_OSCALE d) F.CMP_OSCALE_vscale

/-- Wc, Hc, Wo and Ho. -/
def canvasW (s : State) (d : Fin 4) : Nat :=
  if scaling s d then getF s (P.CMP_CANVAS d) F.CMP_CANVAS_width else activeW s d
def canvasH (s : State) (d : Fin 4) : Nat :=
  if scaling s d then getF s (P.CMP_CANVAS d) F.CMP_CANVAS_height else activeH s d
def outW (s : State) (d : Fin 4) : Nat :=
  if scaling s d then getF s (P.CMP_OSIZE d) F.CMP_OSIZE_width else activeW s d
def outH (s : State) (d : Fin 4) : Nat :=
  if scaling s d then getF s (P.CMP_OSIZE d) F.CMP_OSIZE_height else activeH s d

/-- The canvas row of output line Y and its phase on the vertical axis (R133). -/
def outRow (s : State) (d : Fin 4) (y : Nat) : Int × Nat :=
  if outVscale s d then axisPos (getReg s (P.CMP_OORG_Y d)) (getF s (P.CMP_OSTEP_Y d) F.CMP_OSTEP_Y_step) y
  else ((y : Int), 0)

/-- The canvas row in whose band output line Y is emitted (R134). -/
def emitRow (s : State) (d : Fin 4) (y : Nat) : Int :=
  let j := (outRow s d y).1
  if outVscale s d then (if j + 2 < (canvasH s d : Int) - 1 then j + 2 else (canvasH s d : Int) - 1) else j

/-- The output lines that a band of canvas lines first to first + n − 1 emits (R134). -/
def emitted (s : State) (d : Fin 4) (first n : Nat) : List Nat :=
  if outVscale s d then
    (List.range (outH s d)).filter (fun y =>
      decide ((first : Int) ≤ emitRow s d y) && decide (emitRow s d y < ((first + n : Nat) : Int)))
  else (List.range n).map (fun i => first + i)

/-- The output lines of a band, their number, the first and the last. -/
def Band.out (s : State) (d : Fin 4) (b : Band) : List Nat := emitted s d b.firstLine b.lines
def Band.nb (s : State) (d : Fin 4) (b : Band) : Nat := (b.out s d).length
def Band.out0 (s : State) (d : Fin 4) (b : Band) : Nat := (b.out s d).headD b.firstLine
def Band.out1 (s : State) (d : Fin 4) (b : Band) : Nat := (b.out s d).getLastD b.firstLine

/-! ## Deadlines (R146, R147) -/

/-- DSP_CTRL.mode, live. -/
def modeOf (s : State) (d : Fin 4) : Nat := getF s (P.DSP_CTRL d) F.DSP_CTRL_mode

/-- The output runs the fallback raster: mode 2, or mode 1 where R154 refuses selective update. -/
def rasterMode (s : State) (d : Fin 4) : Bool :=
  decide (modeOf s d = 2) || (decide (modeOf s d = 1) && s.clu[d].beam.refused)

/-- DSP_PACE.lc. -/
def lineClocks (s : State) (d : Fin 4) : Nat := getF s (P.DSP_PACE (leader s d)) F.DSP_PACE_lc

/-- R0: the first refresh in which the beam enters band 0's deadline line at least four band periods after run was set,
the line counted from refresh R0's line 0 (R146). -/
def firstRefresh (s : State) (d : Fin 4) (b : Band) : Option Nat :=
  let from_ := s.clu[d].runAt + 4 * b.nb s d * lineClocks s d
  let base := ((beamAt s d s.clu[d].runAt).1 - 1).toNat
  if (beamOf s d).running then
    ((List.range 4096).find? (fun i =>
      decide (from_ ≤ lineTime s d ((base + i : Nat) : Int) ((b.out0 s d : Int) + b.deadline)))).map
      (fun i => base + i)
  else none

/-- The refresh of a frame, once R0 is known (R146). -/
def frameRefresh (s : State) (d : Fin 4) (frame : Nat) : Option Nat :=
  s.clu[d].r0.map (fun r => r + frameSub frame s.clu[d].first)

/-- σ of a band: the clock in which the beam enters its deadline line (R147). -/
def sigmaOf (s : State) (d : Fin 4) (b : Band) : Option Nat :=
  (frameRefresh s d b.frame).map (fun r => lineTime s d (r : Int) ((b.out0 s d : Int) + b.deadline))

/-- The beam has left output line y of a frame's refresh. -/
def beamPassed (s : State) (d : Fin 4) (frame y : Nat) : Bool :=
  match frameRefresh s d frame with
  | none => false
  | some r => decide (r < (beamOf s d).refresh) || (decide (r = (beamOf s d).refresh) && decide (y < (beamOf s d).line))

end Sys2Proof.Machine
end

