-- ==== Sys2Proof/Machine/KettleBase.lean ====
section
/-! DEFINITION. What the ephemeris tells Kettle: cue slots handed over with commits, and cues discarded (R196 to R199). -/
namespace Sys2Proof.Machine

/-- Kettle replaced. -/
def setKtl (k : Kettle) (s : State) : State := { s with ktl := k }

/-- Kettle runs. -/
def kettleOn (s : State) : Bool := onF s P.KTL_STAT F.KTL_STAT_running

/-- The domain of bus b (R210). -/
def busDomain (s : State) (b : Nat) : Nat := getF s (P.KTL_BUS b) F.KTL_BUS_domain

/-- The modulators that an enabled output feeds from a 96 kHz bus (R211). -/
def fastModulators (s : State) : BitVec 8 :=
  BitVec.ofNat 8 (((List.range 8).map (fun (o : Nat) =>
    b2n (onF s (P.KTL_OUT o) F.KTL_OUT_enable && decide (busDomain s (getF s (P.KTL_OUT o) F.KTL_OUT_bus) = 1)) <<< o)).sum)

/-- The modulators' rates when PD35 comes on, Kettle running or not (R211). -/
def modulatorsOn (s : State) : State :=
  { s with aas := { s.aas with fast := if kettleOn s then fastModulators s else 0 } }

/-- Kettle's timebase is cluster d (R195). -/
def isTimebase (s : State) (d : Fin 4) : Bool := decide (getF s P.KTL_CTRL F.KTL_CTRL_timebase = d.val)

/-- Cues of a frame that have not fired. -/
def cuesLeft (k : Kettle) (frame : Nat) : Bool := k.cues.any (fun c => decide (c.frame = frame))

/-- Slots at the head of the line that are done leave it, KTL_CUE_POS following (R196). -/
def settleSlots : List CueSlot → State → State
  | [], s => setKtl { s.ktl with slots := [] } s
  | x :: xs, s =>
    if x.read && !cuesLeft s.ktl x.frame then settleSlots xs (setReg s P.KTL_CUE_POS (BitVec.ofNat 32 x.frame))
    else setKtl { s.ktl with slots := x :: xs } s

/-- KTL_CUE_POS moved over the frames that are done. -/
def settle (s : State) : State := settleSlots s.ktl.slots s

/-- Every cue that has not fired is discarded, its ring freed, and every slot owned is done (R196, R199, R223). -/
def discardCues (s : State) : State :=
  let k := s.ktl
  let rings := k.cues.foldl (fun (r : Vector (Option StreamRing) 64) c =>
    match c.ring with
    | some i => if h : i < 64 then r.set i none else r
    | none => r) k.rings
  settle (setKtl { k with cues := [], rings := rings, slots := k.slots.map (fun x => { x with read := true }) } s)

/-- An accepted commit of cluster d hands Kettle the frame's cue slot, when d is the timebase, Kettle runs, and recall is
0 (R196 to R198). -/
def handCue (d : Fin 4) (frame : Nat) (s : State) : State :=
  if isTimebase s d && kettleOn s && !s.ktl.stopping && !onF s (P.DIG_CTRL d) F.DIG_CTRL_recall then
    setKtl { s.ktl with slots := s.ktl.slots ++ [⟨frame, s.clock, false⟩] } s
  else s

/-- A start of the timebase sequencer discards the cues that have not fired (R199). -/
def dropCues (d : Fin 4) (s : State) : State := if isTimebase s d && kettleOn s then discardCues s else s

/-- KTL_CUE_POS loaded from the timebase cluster's EPH_COMMIT (R197, R198). -/
def loadCuePos (d : Nat) (s : State) : State := setReg s P.KTL_CUE_POS (getReg s (P.EPH_COMMIT d))

/-- Recall cleared on the timebase cluster (R198). -/
def cueReload (d : Fin 4) (s : State) : State := if isTimebase s d && kettleOn s then loadCuePos d s else s

end Sys2Proof.Machine
end

