-- ==== Sys2Proof/Machine/Voices.lean ====
section
/-! DEFINITION. Kettle's arithmetic: sounds, voices, tones and filters (R202 to R209, R215). -/
namespace Sys2Proof.Machine

/-! ## Sounds (R202, R203, R206) -/

/-- The resident area (R206). -/
def residentBase : Nat := 0x8002C00000
def residentEnd : Nat := 0x8002D60000

/-- The address of entry n of the sound table (R202). -/
def soundAddr (s : State) (n : Nat) : Nat := residentBase + 32 * getF s P.KTL_SND F.KTL_SND_offset + 32 * n

/-- Entry n of the sound table (R202). -/
def soundAt (s : State) (n : Nat) : Sound :=
  let w := fun (i : Nat) => s.readLe (soundAddr s n + 4 * i) 4
  { addr := w 0 + 4294967296 * bits (w 1) 7 0
    stream := bit (w 1) 8
    format := bits (w 1) 10 9
    domain := bits (w 1) 12 11
    loop := bit (w 1) 13
    busA := bits (w 1) 18 14
    busB := bits (w 1) 23 19
    length := bits (w 2) 23 0
    loopStart := bits (w 3) 23 0
    step := bits (w 4) 23 0
    attack := bits (w 5) 15 0
    decay := bits (w 5) 31 16
    sustain := bits (w 6) 15 0
    release := bits (w 6) 31 16
    gainA := sext (bits (w 7) 15 0) 16
    gainB := sext (bits (w 7) 31 16) 16 }

/-- The byte offset at which sample i begins in a linear stream, and the bytes up to and including it (R203). -/
def sampleStart (x : Sound) (i : Nat) : Nat := if x.format = 3 then 64 * (i / 120) else (x.format + 1) * i
def sampleEnd (x : Sound) (i : Nat) : Nat := if x.format = 3 then 64 * (i / 120) + 64 else (x.format + 1) * (i + 1)

/-- The bytes of a sound's samples. -/
def soundBytes (x : Sound) : Nat := if x.length = 0 then 0 else sampleEnd x (x.length - 1)

/-- The sound is none of those that chapter 10 leaves unpredictable: its domain, loop, ADPCM multiples and place. -/
def soundOk (s : State) (n : Nat) (x : Sound) : Bool :=
  decide (soundAddr s n + 32 ≤ residentEnd) && decide (x.domain ≤ 2) &&
  (!x.loop || decide (x.loopStart < x.length)) &&
  (decide (x.format ≠ 3) || (decide (x.addr % 64 = 0) && decide (x.loopStart % 120 = 0) && decide (x.length % 120 = 0))) &&
  (if x.stream then decide (x.addr % 64 = 0) && decide (x.addr + soundBytes x ≤ s.dramSize)
   else decide (residentBase ≤ x.addr) && decide (x.addr + soundBytes x ≤ residentEnd))

/-! ### IMA ADPCM (R203; the tables are the algorithm's own, PRESUMED) -/

/-- The 89-entry step table. -/
def imaSteps : List Nat :=
  [7, 8, 9, 10, 11, 12, 13, 14, 16, 17, 19, 21, 23, 25, 28, 31, 34, 37, 41, 45, 50, 55, 60, 66, 73, 80, 88, 97, 107, 118] ++
  [130, 143, 157, 173, 190, 209, 230, 253, 279, 307, 337, 371, 408, 449, 494, 544, 598, 658, 724, 796, 876, 963, 1060] ++
  [1166, 1282, 1411, 1552, 1707, 1878, 2066, 2272, 2499, 2749, 3024, 3327, 3660, 4026, 4428, 4871, 5358, 5894, 6484] ++
  [7132, 7845, 8630, 9493, 10442, 11487, 12635, 13899, 15289, 16818, 18500, 20350, 22385, 24623, 27086, 29794, 32767]

/-- The index adjustment of a code. -/
def imaAdjust (code : Nat) : Int := if code % 8 < 4 then -1 else ((2 * (code % 8 - 3) : Nat) : Int)

/-- One code decoded: predictor and index. -/
def imaCode (p : Int × Int) (code : Nat) : Int × Int :=
  let st := imaSteps.getD p.2.toNat 0
  let diff : Nat := st / 8 + (if bit code 2 then st else 0) + (if bit code 1 then st / 2 else 0) +
    (if bit code 0 then st / 4 else 0)
  let q := if bit code 3 then p.1 - (diff : Int) else p.1 + (diff : Int)
  (clampI (-32768) 32767 q, clampI 0 88 (p.2 + imaAdjust code))

/-- Sample j, 0 to 119, of an ADPCM block of 64 bytes. -/
def imaSample (blk : List Byte) (j : Nat) : Int :=
  let start : Int × Int := (sext (leToNat (blk.take 2)) 16, clampI 0 88 (((blk.getD 2 0).toNat : Nat) : Int))
  let code := fun (k : Nat) =>
    let b := (blk.getD (4 + k / 2) 0).toNat
    if k % 2 = 0 then b % 16 else b / 16
  ((List.range (j + 1)).foldl (fun p k => imaCode p (code k)) start).1

/-- Sample i from the bytes that hold it: those from sampleStart to sampleEnd (R203). -/
def decodeSample (x : Sound) (i : Nat) (bs : List Byte) : Int :=
  if x.format = 3 then 256 * imaSample bs (i % 120)
  else sext (leToNat bs) (8 * (x.format + 1)) * ((256 ^ (2 - x.format) : Nat) : Int)

/-! ### Streams (R207, R208) -/

/-- The base of stream ring r (R206). -/
def ringBase (r : Nat) : Nat := 0x8002D80000 + 0x2000 * r

/-- The sample of the sound at unrolled sample u, the loop followed. -/
def rolled (x : Sound) (u : Nat) : Nat :=
  if u < x.length then u else x.loopStart + (u - x.loopStart) % (x.length - x.loopStart)

/-- The byte offset in the sound of byte n of the unrolled stream. -/
def streamByte (x : Sound) (n : Nat) : Nat :=
  let total := soundBytes x
  let start := sampleStart x x.loopStart
  if n < total then n else start + (n - start) % (total - start)

/-- The unrolled sample of a voice's sample i: whole laps lie before it. -/
def unrolled (v : Voice) (i : Nat) : Nat := i + v.laps * (v.sound.length - v.sound.loopStart)

/-- The bytes of unrolled sample u from ring r. -/
def ringBytes (s : State) (r : Nat) (x : Sound) (u : Nat) : List Byte :=
  (List.range (sampleEnd x u - sampleStart x u)).map (fun n => s.byte (ringBase r + (sampleStart x u + n) % 8192))

/-- Sample i of a voice's sound, u its place in the unrolled stream: from the resident area, or from the ring when its
bytes have arrived; none while they have not (R203, R208). -/
def voiceX (s : State) (v : Voice) (i u : Nat) : Option Int :=
  let x := v.sound
  match v.ring with
  | none => some (decodeSample x i (s.readBytes (x.addr + sampleStart x i) (sampleEnd x i - sampleStart x i)))
  | some r =>
    match s.ktl.rings[r]? with
    | some (some q) => if sampleEnd x u ≤ q.filled then some (decodeSample x i (ringBytes s r x u)) else none
    | _ => none

/-! ## Voices (R204) -/

/-- The envelope advanced: level, place, and whether the voice stays active. -/
def envelope (x : Sound) (level : Nat) (e : Env) : Nat × Env × Bool :=
  match e with
  | .attack =>
    let l := Nat.min (level + x.attack) 65536
    (l, if l = 65536 then .decay else .attack, true)
  | .decay =>
    if x.decay = 0 then (level, .decay, true)
    else
      let l := Nat.max (level - x.decay) x.sustain
      (l, if l = x.sustain then .sustain else .decay, true)
  | .sustain => (level, .sustain, true)
  | .release => if x.release = 0 ∨ level ≤ x.release then (0, .release, false) else (level - x.release, .release, true)

/-- The value y of a voice's next sample, and the number of the samples it needs that had not arrived: the second one
counts where the position lies between two (R204, R208). A sound of length 0 has no sample, and one that the manual does
not name is played. DESIGN CHOICE. -/
def voiceValue (s : State) (v : Voice) : Int × Nat :=
  let x := v.sound
  let i := v.pos / 65536
  let f : Int := ((v.pos % 65536 : Nat) : Int)
  let u := unrolled v i
  let a := if x.length = 0 then some (Config.emptySound s.free).toInt else voiceX s v i u
  let b := if i + 1 < x.length then voiceX s v (i + 1) (u + 1)
    else if x.loop then voiceX s v x.loopStart (u + 1) else some 0
  let x0 := a.getD 0
  let smp := x0 + ((b.getD 0 - x0) * f) / 65536
  ((smp * ((v.level : Nat) : Int) + 32768) / 65536, b2n a.isNone + b2n (b.isNone && decide (f ≠ 0)))

/-- A send: (y × gain + 8192) >> 14. -/
def send (y gain : Int) : Int := (y * gain + 8192) / 16384

/-- The voice after a sample: its position and envelope; none once it is off (R204). -/
def voiceNext (v : Voice) : Option Voice :=
  let x := v.sound
  let pos := v.pos + v.step
  let env := envelope x v.level v.env
  let w := { v with level := env.1, env := env.2.1 }
  if pos / 65536 < x.length then (if env.2.2 then some { w with pos := pos } else none)
  else if x.loop then
    (if env.2.2 then some { w with pos := pos - 65536 * (x.length - x.loopStart), laps := v.laps + 1 } else none)
  else none

/-- A voice that a start cue begins (R204). -/
def voiceStart (x : Sound) (gainA gainB : Int) (ring : Option Nat) : Voice :=
  ⟨x, 0, 0, if x.attack = 0 then 65536 else 0, .attack, x.step, gainA, gainB, x.busA, x.busB, ring⟩

/-! ## Tones (R209) -/

/-- The waveform value w of a channel. -/
def toneWave (t : Tone) : Int :=
  let ph : Int := (t.phase : Nat)
  if t.wave = 1 then (if t.phase < (t.duty + 1) * 1048576 then 4194304 else -4194304)
  else if t.wave = 2 then (if t.phase < 8388608 then ph else 16777215 - ph) - 4194304
  else if t.wave = 3 then ph / 2 - 4194304
  else if t.lfsr.getLsbD 0 then 4194304 else -4194304

/-- The noise register shifted: x^17 + x^14 + 1. -/
def noiseNext (r : BitVec 17) : BitVec 17 := (r >>> 1) ||| BitVec.ofNat 17 (b2n (r.getLsbD 0 != r.getLsbD 3) <<< 16)

/-- A channel after its sample. -/
def toneNext (t : Tone) : Tone :=
  let ph := t.phase + t.increment
  if ph < 16777216 then { t with phase := ph } else { t with phase := ph - 16777216, lfsr := noiseNext t.lfsr }

/-! ## Filters (R215) -/

/-- The coefficients b0, b1, b2, a1 and a2 of a high-pass in units of 2^-28, from R215's formulas. -/
structure Coefs where
  b0 : Int
  b1 : Int
  b2 : Int
  a1 : Int
  a2 : Int
  deriving DecidableEq, Repr

def dc48 : Coefs := ⟨268187107, -536374214, 268187107, -536373984, 267938988⟩
def dc96 : Coefs := ⟨268311253, -536622505, 268311253, -536622448, 268187107⟩
def fan80 : Coefs := ⟨266455085, -532910170, 266455085, -532895559, 264489324⟩
def fan120 : Coefs := ⟨265470385, -530940769, 265470385, -530908017, 262538066⟩
def fan160 : Coefs := ⟨264489323, -528978645, 264489323, -528920632, 260601202⟩

/-- x saturated to 24 bits. -/
def sat24i (x : Int) : Int := clampI (-8388608) 8388607 x

/-- A filter's step: its output, and its state (R215). -/
def Biquad.step (c : Coefs) (q : Biquad) (x : Int) : Int × Biquad :=
  let acc := (c.b0 * x + c.b1 * q.x1 + c.b2 * q.x2) * 256 - c.a1 * q.y1 - c.a2 * q.y2
  let y := (acc + 134217728) / 268435456
  (sat24i ((y + 128) / 256), ⟨x, q.x1, y, q.y1⟩)

end Sys2Proof.Machine
end

