-- ==== Sys2Proof/Machine/Kettle.lean ====
section
/-! DEFINITION. Kettle's periods: cues, voices, tones, buses and effects (R193 to R214, R223). -/
namespace Sys2Proof.Machine

/-- The samples of a domain in period n (R193). -/
def samplesIn (dom n : Nat) : Nat := if dom = 1 then 2 else if dom = 2 then b2n (decide (n % 3 = 0)) else 1

/-- Composition clocks in a period of 4,096 audio clocks of 196.608 MHz. -/
def periodClocks : Nat := 31250

/-! ## Run and stop (R197, R223) -/

/-- KTL_CTRL.run is set: a fresh Kettle, its filters cleared and the modulators' rates taken (R193, R197, R211, R215). -/
def kettleStart (s : State) : State :=
  let s := setF s P.KTL_CTRL F.KTL_CTRL_run 1
  let s := setF s P.KTL_STAT F.KTL_STAT_running 1
  let s := setReg s P.KTL_SAMPLE 0
  let s := loadCuePos (getF s P.KTL_CTRL F.KTL_CTRL_timebase) s
  let s := setKtl { Kettle.reset with origin := s.clock } s
  { s with aas := { s.aas with
      fast := fastModulators s
      filters := Vector.replicate 8 Biquad.reset
      micDc := Vector.replicate 4 Biquad.reset
      micFan := Vector.replicate 4 Biquad.reset } }

/-- A write of v to KTL_CTRL (R223); on tilt a write of 1 to run is ignored (R469). -/
def ktlCtrlWrite (v : Word) (s : State) : State :=
  let run := F.KTL_CTRL_run.on v
  if kettleOn s then
    if run then s else setKtl { s.ktl with stopping := true } (setF s P.KTL_CTRL F.KTL_CTRL_run 0)
  else
    let s := setF s P.KTL_CTRL F.KTL_CTRL_timebase (F.KTL_CTRL_timebase.get v)
    let s := setF s P.KTL_CTRL F.KTL_CTRL_slots_log2 (F.KTL_CTRL_slots_log2.get v)
    if run && !s.tilted then kettleStart s else s

/-- KETTLE_RUN: KTL_CTRL is written with run 1 (R197). -/
def execKettleRun (m : Master) (timebase slots : Fin 4) (s : State) : Out :=
  gate m true P.KTL_CTRL (fun s => .next (ktlCtrlWrite (BitVec.ofNat 32 (1 + 2 * timebase.val + 8 * slots.val)) s.audioAccess)) s

/-- KETTLE_STOP: KTL_CTRL is written with run 0, its other fields unchanged (R223). -/
def execKettleStop (m : Master) (s : State) : Out :=
  gate m true P.KTL_CTRL (fun s => .next (ktlCtrlWrite (F.KTL_CTRL_run.put 0 (getReg s P.KTL_CTRL)) s.audioAccess)) s

/-- Kettle stops at a period boundary (R223). -/
def kettleHalt (s : State) : State :=
  let s := discardCues s
  let s := setF s P.KTL_STAT F.KTL_STAT_running 0
  let s := setF s P.KTL_CTRL F.KTL_CTRL_run 0
  setKtl Kettle.reset s

/-! ## Reading a cue slot (R195, R200, R201, R207) -/

/-- The address of frame F's cue slot (R195). -/
def cueSlotAddr (s : State) (frame : Nat) : Nat :=
  4096 * getF s P.KTL_CUE_BASE F.KTL_CUE_BASE_base + 4096 * (frame % (4 <<< getF s P.KTL_CTRL F.KTL_CTRL_slots_log2))

/-- The lowest free stream ring. -/
def freeRing (k : Kettle) : Option (Fin 64) := (List.finRange 64).find? (fun i => k.rings[i].isNone)

/-- Kettle takes a cue into its list. -/
def addCue (c : Cue) (s : State) : State := setKtl { s.ktl with cues := s.ktl.cues ++ [c] } s

/-- A start cue: an index beyond the count is skipped; a streamed sound takes the lowest free ring, or is dropped. -/
def readStart (c : Cue) (s : State) : Out :=
  let n := bits c.w1.toNat 15 0
  if getF s P.KTL_SND F.KTL_SND_count ≤ n then .next (setF s P.KTL_STAT F.KTL_STAT_cue_err 1)
  else
    let x := soundAt s n
    if !soundOk s n x then .fault .kettleForm
    else if x.stream then
      match freeRing s.ktl with
      | none => .next (setF s P.KTL_STAT F.KTL_STAT_stream_full 1)
      | some r =>
        let s := setKtl { s.ktl with rings := s.ktl.rings.set r (some ⟨x, 0, 0⟩) } s
        .next (addCue { c with sound := some x, ring := some r.val } s)
    else .next (addCue { c with sound := some x } s)

/-- One cue of a slot. -/
def readCue (f : CueSlot) (a : Nat) (s : State) : Out :=
  let w0 := (s.word a).toNat
  let c : Cue :=
    { frame := f.frame
      line := bits w0 12 0
      kind := bits w0 19 16
      target := bits w0 28 20
      w1 := s.word (a + 4)
      w2 := s.word (a + 8)
      w3 := s.word (a + 12)
      sound := none
      ring := none
      handed := f.handed }
  if c.kind = 0 ∨ 8 ≤ c.kind then .next (setF s P.KTL_STAT F.KTL_STAT_cue_err 1)
  else if c.kind = 1 then readStart c s
  else if c.kind = 5 ∧ 5 ≤ bits c.w1.toNat 26 24 then .fault .kettleForm
  else .next (addCue c s)

/-- The cues of a slot, in list order: n cues, the first at address a. -/
def readCues (f : CueSlot) : Nat → Nat → State → Out
  | 0, _, s => .next s
  | n + 1, a, s =>
    match readCue f a s with
    | .next t => readCues f n (a + 16) t
    | .fault e => .fault e
    | .refused r => .refused r

/-- The first slot that Kettle has not read. -/
def nextSlotOf (k : Kettle) : Option CueSlot := k.slots.find? (fun x => !x.read)

/-- The slot has been read. -/
def slotRead (f : CueSlot) (s : State) : State :=
  settle (setKtl { s.ktl with slots := s.ktl.slots.map (fun x => if x.frame = f.frame then { x with read := true } else x) } s)

/-- CUE_SLOT_READ: Kettle reads the next slot handed to it, as requester 11, and waits while a read is not granted (R40,
R196, R200, R201, R207). -/
def execCueSlotRead (s : State) : Out :=
  match nextSlotOf s.ktl with
  | none => .next s
  | some f =>
    let a := cueSlotAddr s f.frame
    let n := bits (s.word (a + 4)).toNat 7 0
    if s.dramSize < a + 4096 then .fault .kettleForm
    else
      match dramRead 11 a (16 + 16 * n) s with
      | .error h => .next (park h s)
      | .ok s =>
        if (s.word a).toNat ≠ f.frame then .next (slotRead f (setF s P.KTL_STAT F.KTL_STAT_cue_err 1))
        else
          match readCues f n (a + 16) s with
          | .next t => .next (slotRead f t)
          | .fault e => .fault e
          | .refused r => .refused r

/-! ## Streams (R207) -/

/-- The bursts that hold n bytes of a sound's unrolled stream. -/
def fillBursts (x : Sound) (at_ n : Nat) : List Nat :=
  (List.range n).foldl (fun l i =>
    let b := 64 * ((x.addr + streamByte x (at_ + i)) / 64)
    if l.getLast? = some b then l else l ++ [b]) []

/-- STREAM_FILL: one 64-byte burst from DRAM into a ring with 1 KiB or more free, the loop followed, as requester 11; it
waits while its read is not granted (R40, R207). -/
def execStreamFill (r : Fin 64) (s : State) : Out :=
  match s.ktl.rings[r] with
  | none => .next s
  | some q =>
    let x := q.sound
    let n := if x.loop then 64 else Nat.min 64 (soundBytes x - q.filled)
    if 7168 < q.filled - q.passed ∨ n = 0 then .next s
    else
      match dramReads 11 (fillBursts x q.filled n) s with
      | .error h => .next (park h s)
      | .ok s =>
        let put := fun (t : State) (i : Nat) =>
          t.writeBytes (ringBase r + (q.filled + i) % 8192) [s.byte (x.addr + streamByte x (q.filled + i))]
        let s := (List.range n).foldl put s
        .next (setKtl { s.ktl with rings := s.ktl.rings.set r (some { q with filled := q.filled + n }) } s)

/-- A ring freed, if there is one. -/
def freeRingOf (r : Option Nat) (s : State) : State :=
  match r with
  | none => s
  | some i => if h : i < 64 then setKtl { s.ktl with rings := s.ktl.rings.set i none } s else s

/-! ## Firing (R199, R200, R204, R209, R214) -/

/-- Voice v replaced. -/
def setVoice (n : Nat) (v : Voice) (s : State) : State := setKtl { s.ktl with voices := Tab.insert s.ktl.voices n v } s

/-- A voice goes off. -/
def voiceOff (n : Nat) (s : State) : State :=
  match Tab.find s.ktl.voices n with
  | none => s
  | some v => freeRingOf v.ring (setKtl { s.ktl with voices := Tab.erase s.ktl.voices n } s)

/-- START_CUE (R204): the voice starts afresh in the firing period. -/
def fireStart (c : Cue) (s : State) : State :=
  match c.sound with
  | none => s
  | some x =>
    let newGains := c.w1.toNat.testBit 31
    let ga := if newGains then sext (bits c.w2.toNat 15 0) 16 else x.gainA
    let gb := if newGains then sext (bits c.w2.toNat 31 16) 16 else x.gainB
    setVoice c.target (voiceStart x ga gb c.ring) (voiceOff c.target s)

/-- PARAMETER_CUE (R200). -/
def voiceParam (sel : Nat) (w : Word) (v : Voice) : Voice :=
  if sel = 0 then { v with step := bits w.toNat 23 0 }
  else if sel = 1 then { v with gainA := sext (bits w.toNat 15 0) 16 }
  else if sel = 2 then { v with gainB := sext (bits w.toNat 15 0) 16 }
  else if sel = 3 then { v with busA := bits w.toNat 4 0 }
  else if sel = 4 then { v with busB := bits w.toNat 4 0 }
  else v

/-- TONE_CUE (R200, R209). -/
def toneCue (c : Cue) (t : Tone) : Tone :=
  let w1 := c.w1.toNat
  let w2 := c.w2.toNat
  let again := w1.testBit 31
  { increment := bits w1 23 0
    wave := bits w1 26 24
    duty := bits w1 30 27
    volume := sext (bits w2 15 0) 16
    bus := bits w2 20 16
    phase := if again then 0 else t.phase
    lfsr := if again then 0x1FFFF else t.lfsr }

/-- The base of audio core c's exchange area (R206). -/
def exchangeBase (c : Nat) : Nat := 0x8002D60000 + 0x10000 * c

/-- MESSAGE_CUE (R214), and the mailbox interrupt of the core (R278). -/
def messageCue (c : Cue) (n : Nat) (s : State) : State :=
  let base := exchangeBase c.target
  let idx := (s.word (base + 0x2100)).toNat
  let s := s.writeBytes (base + 0x2000 + 16 * (idx % 16))
    (natToLe 4 n ++ natToLe 4 c.w1.toNat ++ natToLe 4 c.w2.toNat ++ natToLe 4 c.w3.toNat)
  let s := s.writeBytes (base + 0x2100) (natToLe 4 (idx + 1))
  raisePrivate (8 + c.target) 17 s

/-- What a cue does to its target in firing period n (R200). A target or a parameter that R200 does not list is
ignored (DESIGN CHOICE). -/
def fireEffect (c : Cue) (n : Nat) (s : State) : State :=
  if c.kind = 1 then fireStart c s
  else if c.kind = 2 then
    match Tab.find s.ktl.voices c.target with
    | none => s
    | some v => setVoice c.target { v with env := .release } s
  else if c.kind = 3 then voiceOff c.target s
  else if c.kind = 4 then
    match Tab.find s.ktl.voices c.target with
    | none => s
    | some v => setVoice c.target (voiceParam c.w1.toNat c.w2 v) s
  else if c.kind = 5 then
    if h : c.target < 32 then setKtl { s.ktl with tones := s.ktl.tones.set c.target (toneCue c s.ktl.tones[c.target]) } s
    else s
  else if c.kind = 6 then
    if c.target < 32 then setF s (P.KTL_BUS c.target) F.KTL_BUS_gain (bits c.w1.toNat 15 0) else s
  else if c.target < 2 then messageCue c n s
  else s

/-- The clock in which the timebase beam enters a cue's line in the refresh of its frame, once that is known (R199). -/
def cueTime (s : State) (c : Cue) : Option Nat :=
  let d : Fin 4 := ⟨getF s P.KTL_CTRL F.KTL_CTRL_timebase % 4, by omega⟩
  if (beamOf s d).running then (frameRefresh s d c.frame).map (fun r => lineTime s d (r : Int) ((c.line : Nat) : Int))
  else none

/-- The cue is due at the start of a period that begins in clock x. -/
def cueDue (s : State) (x : Nat) (c : Cue) : Bool :=
  match cueTime s c with
  | none => false
  | some t => decide (t < x)

/-- A cue fires; cue_late when its line had been passed at the commit (R199). -/
def fireCue (n : Nat) (s : State) (c : Cue) : State :=
  let late := match cueTime s c with | some t => decide (t ≤ c.handed) | none => false
  let s1 := if late then setF s P.KTL_STAT F.KTL_STAT_cue_late 1 else s
  fireEffect c n s1

/-- The cues that are due fire, in list order (R199). -/
def fireCues (n : Nat) (s : State) : State :=
  let x := s.ktl.origin + periodClocks * n
  let due := s.ktl.cues.filter (cueDue s x)
  let s1 := setKtl { s.ktl with cues := s.ktl.cues.filter (fun c => !cueDue s x c) } s
  settle (due.foldl (fireCue n) s1)

/-! ## Tones and voices (R204, R205, R209) -/

/-- What a period's computation has gathered: the contributions of its first and its second samples by bus, the clocks,
and whether a voice overran. -/
structure Mix where
  first : List (Nat × Int)
  second : List (Nat × Int)
  clocks : Nat
  overrun : Bool
  deriving DecidableEq, Repr

/-- A tone channel's sample. -/
def toneSample (c : Fin 32) (p : Mix × State) : Mix × State :=
  let t := p.2.ktl.tones[c]
  if t.wave = 0 then p
  else ({ p.1 with first := (t.bus, send (toneWave t) t.volume) :: p.1.first, clocks := p.1.clocks + 1 },
    setKtl { p.2.ktl with tones := p.2.ktl.tones.set c (toneNext t) } p.2)

/-- A sample of a voice: its two sends, the samples that had not arrived, and the voice after it. -/
def voiceSample (s : State) (v : Voice) : List (Nat × Int) × Nat × Option Voice :=
  let y := voiceValue s v
  ([(v.busA, send y.1 v.gainA), (v.busB, send y.1 v.gainB)], y.2, voiceNext v)

/-- The ring of a voice after its samples: freed when the voice is off, its passed bytes otherwise. -/
def ringAfter (v : Voice) (w : Option Voice) (s : State) : State :=
  match w with
  | none => freeRingOf v.ring s
  | some w =>
    match w.ring with
    | none => s
    | some i =>
      if h : i < 64 then
        setKtl { s.ktl with rings := s.ktl.rings.set i (s.ktl.rings[i].map (fun q =>
          { q with passed := sampleStart w.sound (unrolled w (w.pos / 65536)) })) } s
      else s

/-- A voice after a period. -/
def voiceAfter (n : Nat) (v : Voice) (w : Option Voice) (s : State) : State :=
  let s := match w with
    | none => setKtl { s.ktl with voices := Tab.erase s.ktl.voices n } s
    | some w => setVoice n w s
  ringAfter v w s

/-- Samples counted as zero (R208). -/
def countUnder (n : Nat) (s : State) : State :=
  if n = 0 then s else setF (addF (pmcEvent 0x081 0 n s) P.KTL_CNT F.KTL_CNT_underrun n) P.KTL_STAT F.KTL_STAT_underrun 1

/-- A voice's samples of a period: 6 clocks each, or zero contributions from clock 3,840 on (R205). -/
def voicePeriod (n : Nat) (p : Mix × State) (e : Nat × Voice) : Mix × State :=
  let v := e.2
  let k := samplesIn v.sound.domain n
  let mute := decide (3840 ≤ p.1.clocks)
  if k = 0 then p
  else
    let a := voiceSample p.2 v
    let b : List (Nat × Int) × Nat × Option Voice := match a.2.2 with
      | none => ([], 0, none)
      | some w => if k = 2 then voiceSample p.2 w else ([], 0, some w)
    let made := 1 + b2n (decide (k = 2) && a.2.2.isSome)
    if mute then ({ p.1 with overrun := true }, voiceAfter e.1 v b.2.2 p.2)
    else ({ p.1 with
        first := a.1 ++ p.1.first
        second := b.1 ++ p.1.second
        clocks := p.1.clocks + 6 * made },
      voiceAfter e.1 v b.2.2 (countUnder (a.2.1 + b.2.1) p.2))

/-- The active voices and tones aim at buses of their own domain (R205, R209). -/
def sendsOk (s : State) (n : Nat) : Bool :=
  s.ktl.voices.all (fun e => decide (samplesIn e.2.sound.domain n = 0) ||
    ((e.2.gainA == 0 || busDomain s e.2.busA == e.2.sound.domain) &&
      (e.2.gainB == 0 || busDomain s e.2.busB == e.2.sound.domain))) &&
  s.ktl.tones.toList.all (fun t => t.wave == 0 || t.volume == 0 || busDomain s t.bus == 0)

/-- Tones, and then voices in ascending number (R205). -/
def computeVoices (n : Nat) (s : State) : Mix × State :=
  let p := (List.finRange 32).foldl (fun q c => toneSample c q) (⟨[], [], 0, false⟩, s)
  let q := p.2.ktl.voices.foldl (voicePeriod n) p
  if q.1.overrun then (q.1, setF (addF (pmcEvent 0x080 0 1 q.2) P.KTL_CNT F.KTL_CNT_overrun 1) P.KTL_STAT F.KTL_STAT_overrun 1) else q

/-! ## Effects (R213) -/

/-- KTL_FX_CFG of core c: first input bus, inputs, first return bus, returns, and the block length. -/
def fxIn0 (s : State) (c : Nat) : Nat := getF s (P.KTL_FX_CFG c) F.KTL_FX_CFG_in_first
def fxIns (s : State) (c : Nat) : Nat := getF s (P.KTL_FX_CFG c) F.KTL_FX_CFG_in_count
def fxRet0 (s : State) (c : Nat) : Nat := getF s (P.KTL_FX_CFG c) F.KTL_FX_CFG_ret_first
def fxRets (s : State) (c : Nat) : Nat := getF s (P.KTL_FX_CFG c) F.KTL_FX_CFG_ret_count
def fxLen (s : State) (c : Nat) : Nat := 16 <<< getF s (P.KTL_FX_CFG c) F.KTL_FX_CFG_block

/-- The bus of an effect: R213 gives no bus above 31, and there one that the manual does not name is taken. DESIGN
CHOICE. -/
def fxBus (s : State) (c b : Nat) : Nat := if b < 32 then b else Config.effectBus s.free c b % 32

/-- A sample between core c's effect and bus b: R213 has 48 kHz buses, and for another the sample is left open. DESIGN
CHOICE. -/
def fxSample (s : State) (c b : Nat) (x : Int) : Int :=
  if busDomain s (fxBus s c b) = 0 then x else (Config.effectSample s.free c b).toInt

/-- BLOCK_END (R213): the block interrupt at the end of a block, and the check of KTL_FX_DONE for the block two before
the one that begins. -/
def blockEnd (n : Nat) (s : State) (c : Fin 2) : State :=
  if (fxIns s c = 0 ∧ fxRets s c = 0) ∨ n % fxLen s c ≠ 0 then s
  else
    let k := n / fxLen s c
    let s1 := if 1 ≤ k then raisePrivate (8 + c.val) 16 s else s
    if k < 2 ∨ fxRets s c = 0 then setKtl { s1.ktl with returns := s1.ktl.returns.set c false } s1
    else if getF s (P.KTL_FX_DONE c) F.KTL_FX_DONE_block = (k - 2) % 256 then
      setKtl { s1.ktl with returns := s1.ktl.returns.set c true } s1
    else
      let s2 := setF (addF s1 P.KTL_CNT F.KTL_CNT_fx_late 1) P.KTL_STAT F.KTL_STAT_fx_late 1
      setKtl { s2.ktl with returns := s2.ktl.returns.set c false } s2

/-- The return values that period n adds to the buses. -/
def fxReturns (s : State) (n : Nat) : List (Nat × Int) :=
  (List.finRange 2).flatMap (fun c =>
    if s.ktl.returns[c] then
      let half := exchangeBase c + 0x1000 + 0x800 * (n / fxLen s c % 2)
      (List.range (fxRets s c)).map (fun j => (fxBus s c (fxRet0 s c + j),
        fxSample s c (fxRet0 s c + j) (sext (s.word (half + 4 * (8 * (n % fxLen s c) + j))).toNat 32)))
    else [])

/-- The latest value of a bus. -/
def busNow (s : State) (b : Nat) : Int := (s.ktl.buses.toList.getD b []).headD 0

/-- The input buses' values go into the input half of the block. -/
def fxInputs (n : Nat) (s : State) (c : Fin 2) : State :=
  let half := exchangeBase c + 0x800 * (n / fxLen s c % 2)
  (List.range (fxIns s c)).foldl (fun t j =>
    t.writeBytes (half + 4 * (8 * (n % fxLen s c) + j)) 
      (natToLe 4 (toBits 32 (fxSample s c (fxIn0 s c + j) (busNow s (fxBus s c (fxIn0 s c + j))))))) s

/-! ## Buses (R194, R210) -/

/-- The bridges of R194: 48 to 96 kHz (0), 96 to 48 kHz (1), 16 to 48 kHz (2), 48 to 16 kHz (3); their taps at the
higher rate, the same from either end. -/
def bridgeLen (k : Nat) : Nat := if k < 2 then 49 else 97
def tapOf (k j : Nat) : Int := Config.bridgeTap k (Nat.min j (bridgeLen k - 1 - j))

/-- A bridge's output: h holds samples of the source, the latest first, which meet taps p, p + step and so on. A bridge
upward fills with zeros, so its step is the ratio of the rates; one downward has step 1. The taps' values, and with them the pass band,
the ripple and the rejection, are left open (R194). -/
def fir (k p step : Nat) (h : List Int) : Int :=
  let sum := ((List.range ((bridgeLen k - p + step - 1) / step)).map (fun i => tapOf k (p + step * i) * h.getD i 0)).sum
  if sum = 0 then 0 else (Config.bridgeRound k sum).toInt

/-- 16 to 48 kHz in period n, h from the last sample of the source on. -/
def from16 (n : Nat) (h : List Int) : Int := fir 2 (n % 3) 3 h

/-- 96 to 48 kHz, h from the sample of the source that begins with the period on. -/
def from96 (h : List Int) : Int := fir 1 0 1 h

/-- A signal taken from one domain into another, for sample i of period n: h holds the source's samples from the last one
that begins no later than this sample. 16 and 96 kHz meet through 48 kHz (R194). -/
def bridged (src dst n i : Nat) (h : List Int) : Int :=
  if src = dst then h.headD 0
  else if src = 0 ∧ dst = 1 then fir 0 i 2 h
  else if src = 1 ∧ dst = 0 then from96 h
  else if src = 2 ∧ dst = 0 then from16 n h
  else if src = 0 then fir 3 0 1 h
  else if src = 2 then
    fir 0 i 2 ((List.range 25).map (fun q => if n < q then 0 else from16 (n - q) (h.drop (n / 3 - (n - q) / 3))))
  else fir 3 0 1 ((List.range 97).map (fun q => from96 (h.drop (2 * q))))

/-- An input's samples as they reach the buses: a TDM slot after 1 period, a microphone after 12 (R212). -/
def inputHistory (s : State) (k : Fin 12) : List Int := s.ktl.inputs[k].drop (if k.val < 8 then 0 else 11)

/-- The inputs that feed bus b. -/
def inputSum (s : State) (n i b : Nat) : Int :=
  ((List.finRange 12).map (fun (k : Fin 12) =>
    if onF s (P.KTL_IN k) F.KTL_IN_enable && decide (getF s (P.KTL_IN k) F.KTL_IN_bus = b) then
      send (bridged 0 (busDomain s b) n i (inputHistory s k)) (sext (getF s (P.KTL_IN k) F.KTL_IN_gain) 16)
    else 0)).sum

/-- The contributions to bus b. -/
def sumFor (l : List (Nat × Int)) (b : Nat) : Int := (l.map (fun e => if e.1 = b then e.2 else 0)).sum

/-- The source bus that bus b adds: its value from its previous sample, h being the buses' values at the period's start:
a 16 kHz source has had a sample since its previous one in two periods of three (R210). -/
def bridgeSum (s : State) (h : Vector (List Int) 32) (n i b : Nat) : Int :=
  if onF s (P.KTL_BUS b) F.KTL_BUS_bridged then
    let src := getF s (P.KTL_BUS b) F.KTL_BUS_src
    if busDomain s src = busDomain s b then busNow s src
    else
      let l := h.toList.getD src []
      bridged (busDomain s src) (busDomain s b) n i (if busDomain s src = 2 ∧ n % 3 ≠ 0 then l.drop 1 else l)
  else 0

/-- The value of bus b for sample i of period n. -/
def busValue (s : State) (h : Vector (List Int) 32) (l : List (Nat × Int)) (n i b : Nat) : Int :=
  sat24i (send (sumFor l b + inputSum s n i b + bridgeSum s h n i b) (sext (getF s (P.KTL_BUS b) F.KTL_BUS_gain) 16))

/-- Sample i of period n on every bus whose domain has one. -/
def mixHalf (h : Vector (List Int) 32) (l : List (Nat × Int)) (n i : Nat) (s : State) : State :=
  setKtl { s.ktl with buses := Vector.ofFn (fun (b : Fin 32) =>
    if i < samplesIn (busDomain s b) n then (busValue s h l n i b :: s.ktl.buses[b]).take 256 else s.ktl.buses[b]) } s

/-- The probe's capture (KTL_PROBE_CTRL): the first sample of the period, or a 16 kHz bus's last. -/
def probeCapture (n : Nat) (s : State) : State :=
  if onF s P.KTL_PROBE_CTRL F.KTL_PROBE_CTRL_arm && decide ((getReg s P.KTL_PROBE_AT).toNat = n % 4294967296) then
    let v := toBits 24 (busNow s (getF s P.KTL_PROBE_CTRL F.KTL_PROBE_CTRL_bus))
    setF (setReg s P.KTL_PROBE_VAL (BitVec.ofNat 32 (v + 0x80000000))) P.KTL_PROBE_CTRL F.KTL_PROBE_CTRL_arm 0
  else s

/-- KTL_PROBE_CTRL written (R223). -/
def ktlProbeWrite (v : Word) (s : State) : State :=
  let s := setF s P.KTL_PROBE_CTRL F.KTL_PROBE_CTRL_bus (F.KTL_PROBE_CTRL_bus.get v)
  if F.KTL_PROBE_CTRL_arm.on v then
    setF (setF s P.KTL_PROBE_CTRL F.KTL_PROBE_CTRL_arm 1) P.KTL_PROBE_VAL F.KTL_PROBE_VAL_valid 0
  else s

/-- KTL_PROBE_ARM: the probe is armed for a bus (R223). -/
def execKtlProbeArm (m : Master) (bus : Fin 32) (s : State) : Out :=
  gate m true P.KTL_PROBE_CTRL (fun s => .next (ktlProbeWrite (BitVec.ofNat 32 (bus.val + 0x80000000)) s.audioAccess)) s

/-! ## The tolerance that Kettle declares (R52) -/

/-- The samples of a sound whose bytes have arrived. -/
def arrived (x : Sound) (filled : Nat) : Nat := if x.format = 3 then filled / 64 * 120 else filled / (x.format + 1)

/-- The playing time left for a voice, in 100 ns; none when it cannot run dry. -/
def playingTime (s : State) (v : Voice) : Option Nat :=
  match v.ring with
  | none => none
  | some i =>
    match s.ktl.rings[i]? with
    | some (some q) =>
      if v.step = 0 ∨ (!v.sound.loop ∧ soundBytes v.sound ≤ q.filled) then none
      else
        let left := arrived v.sound q.filled * 65536 - (unrolled v (v.pos / 65536) * 65536 + v.pos % 65536)
        let rate := if v.sound.domain = 0 then 48000 else if v.sound.domain = 1 then 96000 else 16000
        some (left * 10000000 / (v.step * rate))
    | _ => none

/-- MEM_LTR_KTL: the soonest of them less 50 µs, 0xFFFF when no voice can run dry (R52). The spec does not say what is
declared for a time that the field cannot hold; 0xFFFE is, so that it differs from 0xFFFF. DESIGN CHOICE. -/
def kettleTolerance (s : State) : Nat :=
  match s.ktl.voices.filterMap (fun e => playingTime s e.2) with
  | [] => 0xFFFF
  | t :: ts => Nat.min (ts.foldl Nat.min t - 500) 0xFFFE

/-- Kettle's tolerance declared, while the memory system is powered. -/
def declareKettle (n : Nat) (s : State) : State :=
  if s.powered 36 then setReg s P.MEM_LTR_KTL (BitVec.ofNat 32 n) else s

/-! ## The period -/

/-- Period n of a running Kettle, up to its buses; tdm and mic are the input samples that enter in it. Its start is an edge
for the timers (R306). -/
def kettlePeriod (tdm : List (BitVec 24)) (mic : List Int) (s : State) : Out :=
  let n := s.ktl.next
  let s := reach (s.ktl.origin + periodClocks * n) s
  let s := (setReg s P.KTL_SAMPLE (BitVec.ofNat 32 n)).captureEdge 4
  let s := fireCues n s
  if !sendsOk s n then .fault .kettleForm
  else
    let s := (List.finRange 2).foldl (blockEnd n) s
    let r := fxReturns s n
    let p := computeVoices n s
    let s := p.2
    let h := s.ktl.buses
    let s := mixHalf h (r ++ p.1.first) n 0 s
    let s := (List.finRange 2).foldl (fxInputs n) s
    let s := probeCapture n s
    let s := mixHalf h p.1.second n 1 s
    let live := onF s P.KTL_TDM F.KTL_TDM_in_en
    let now := fun (k : Fin 12) =>
      if k.val < 8 then (if live then (tdm.getD k.val 0).toInt else 0) else mic.getD (k.val - 8) 0
    let s := setKtl { s.ktl with
      next := n + 1
      clocks := p.1.clocks
      inputs := Vector.ofFn (fun (k : Fin 12) => (now k :: s.ktl.inputs[k]).take 268) } s
    .next (declareKettle (kettleTolerance s) s.draw)

end Sys2Proof.Machine
end

