-- ==== Sys2Proof/Machine/Int.lean ====
section
/-! DEFINITION. The interrupt controller (chapter 13). -/
namespace Sys2Proof.Machine

/-- STAT AND EN is not zero within a mask. -/
def statLine (s : State) (stat en : Nat) (mask : Word) : Bool :=
  decide (getReg s stat &&& getReg s en &&& mask ≠ 0)

/-- The line of a level source, from the status and enable registers of its unit (R264, R278). -/
def unitLine (s : State) (n : Nat) : Bool :=
  if n < 32 ∨ edgeSource n then false
  else if n = 32 then statLine s P.MEM_INT_STAT P.MEM_INT_EN 0x1F
  else if n = 33 then statLine s P.BLT_STAT P.BLT_INT_EN 0x6
  else if n = 34 then statLine s P.KTL_STAT P.KTL_INT_EN 0x7E
  else if n = 35 then onF s P.AAS_INT_EN F.AAS_INT_EN_cal && decide (getReg s P.AAS_CAL_DONE ≠ 0)
  else if n ≤ 39 then statLine s (P.EPH_STAT (n - 36)) (P.EPH_INT_EN (n - 36)) 0x1E
  else if n ≤ 43 then statLine s (P.DSP_STAT (n - 40)) (P.DSP_INT_EN (n - 40)) 0x7C
  else if n ≤ 47 then statLine s (P.DIG_STAT (n - 44)) (P.DIG_INT_EN (n - 44)) 0x300
  else if n ≤ 63 then statLine s (P.TMR_STAT (n - 48)) (P.TMR_INT_EN (n - 48)) 0x1F
  else if n ≤ 95 then statLine s (P.DMA_CH_STAT (n - 64)) (P.DMA_CH_INT_EN (n - 64)) 0x30
  else if n = 96 then (List.range 32).any (fun (c : Nat) => onF s (P.DMA_CH_STAT c) F.DMA_CH_STAT_err)
  else if n = 97 then
    decide (s.pmc.ovf &&& (getReg s P.PMC_OVF_EN1 ++ getReg s P.PMC_OVF_EN0) ≠ 0)
  else if n ≤ 105 then statLine s (P.HLK_STAT (n - 98)) (P.HLK_INT_EN (n - 98)) 0x7C
  else if n = 106 then statLine s P.FLR_STAT P.FLR_INT_EN 0x700
  else if n = 107 then statLine s P.SEC_STAT P.SEC_INT_EN 0x1C
  else if n = 108 then statLine s P.LDG_STAT P.LDG_INT_EN 0x70
  else if n = 110 then statLine s P.PWR_STAT P.PWR_INT_EN 0x7
  else if n = 113 then statLine s P.CFG_STAT P.CFG_INT_EN 0x300
  else false

/-- The line of a source by key: its unit's, or the level that INTERRUPT_LINE drives. -/
def srcLine (s : State) (key : Nat) : Bool :=
  !edgeSource (keySrc key) && (unitLine s (keySrc key) || Tab.get s.irq.lines false key)

/-- A source is pending: its bit is set, or it is a level source whose line is high (R264, R270). -/
def srcPending (s : State) (key : Nat) : Bool := pendBit s key || srcLine s key

/-- A stored pending bit of a level source goes when its line falls before the claim (R264): from s to t, the falls of the
lines that the units drive. Only INT_PEND_SET leaves such a bit. -/
def settleFalls (s t : State) : State :=
  if getReg t (P.INT_PEND_SET 1) = 0 ∧ getReg t (P.INT_PEND_SET 2) = 0 ∧ getReg t (P.INT_PEND_SET 3) = 0 then t
  else
    (List.range 128).foldl (fun u n =>
      if unitLine s n && !srcLine t n && pendBit t n then setSrcBit (P.INT_PEND_SET 0) n false u else u) t

/-- The key of a source's configuration register (R279). -/
def cfgKey (key : Nat) : Nat :=
  if key < 512 then P.INT_SRC_CFG key else P.INT_PRIV_CFG (keyBank key) (keySrc key)

/-- Priority, target and moderation of a source (R263, R265, R275). -/
def srcPrio (s : State) (key : Nat) : Nat := getF s (cfgKey key) F.INT_SRC_CFG_prio
def srcModerate (s : State) (key : Nat) : Bool := onF s (cfgKey key) F.INT_SRC_CFG_moderate
def srcTarget (s : State) (key : Nat) : Nat :=
  if key < 512 then getF s (cfgKey key) F.INT_SRC_CFG_target else keyBank key

/-- A source is eligible (R265), its moderation holdoff over (R275, R276). -/
def eligible (s : State) (k : CoreId) (key : Nat) : Bool :=
  srcPending s key && enBit s key && decide (0 < srcPrio s key) && !activeBit s key &&
  decide (srcTarget s key = k.val) && !(srcModerate s key && s.cores[k].holdoff && !s.cores[k].halted)

/-- The running priority P of a core (R266). -/
def runPrio (s : State) (k : CoreId) : Nat :=
  s.irq.claims.foldl (fun p c => if c.core = k then Nat.max p c.prio else p) 0

/-- The better of the best source so far and another: higher priority, then lower number (R266). -/
def better (s : State) (k : CoreId) (floor : Nat) (best : Option (Nat × Nat)) (key : Nat) : Option (Nat × Nat) :=
  if eligible s k key && decide (floor < srcPrio s key) then
    match best with
    | none => some (key, srcPrio s key)
    | some (b, p) => if p < srcPrio s key then some (key, srcPrio s key) else some (b, p)
  else best

/-- The source that the controller presents to core k, by key, with its priority (R266, R267). -/
def presented (s : State) (k : CoreId) : Option (Nat × Nat) :=
  if s.cores[k].run && s.powered (pdCore k) && s.powered 11 then
    let floor := Nat.max (getF s (own k P.INT_THR) F.INT_THR_thr) (runPrio s k)
    ((List.range 512).map (srcKey k.val)).foldl (better s k floor) none
  else none

/-- A claim by core k: the value read, and the state after it (R268). -/
def claim (k : CoreId) (s : State) : Word × State :=
  match presented s k with
  | none => (0x80000000, s)
  | some (key, prio) =>
    let s1 := setSrcBit (P.INT_PEND_SET 0) key false s
    let s2 := setSrcBit (P.INT_ACTIVE 0) key true s1
    (BitVec.ofNat 32 (keySrc key + prio <<< 12),
      { s2 with irq := { s2.irq with claims := ⟨k, key, prio⟩ :: s2.irq.claims } })

/-- The key names a source that core k has claimed and not completed (R269). -/
def claimedBy (s : State) (k : CoreId) (key : Nat) : Bool :=
  s.irq.claims.any (fun c => decide (c.core = k) && decide (c.src = key))

/-- A completion by core k of source n (R269, R275). -/
def completeSource (k : CoreId) (n : Nat) (s : State) : State :=
  let key := srcKey k.val n
  if claimedBy s k key then
    let s1 := setSrcBit (P.INT_ACTIVE 0) key false s
    let s2 := { s1 with irq := { s1.irq with
      claims := s1.irq.claims.filter (fun c => !(decide (c.core = k) && decide (c.src = key))) } }
    if srcModerate s key && decide (getF s (own k P.INT_MOD) F.INT_MOD_interval ≠ 0) then
      s2.setCore k { s2.cores[k] with holdoff := true }
    else s2
  else setF s (own k P.INT_STAT) F.INT_STAT_bad_complete 1

/-- The key of a word of the pending or enable array, as a master reaches it. -/
def wordKey (m : Master) (base w : Nat) : Nat := regKey m (base + 4 * w)

/-- The level sources of word w whose lines are high, as a master reaches the word (R264). -/
def lineWord (m : Master) (w : Nat) (s : State) : Word :=
  let bank := match m with | .core k => k.val | .debug => 0
  BitVec.ofNat 32 (((List.range 32).map (fun i => b2n (srcLine s (srcKey bank (32 * w + i))) <<< i)).sum)

/-- Ones written to INT_PEND_SET word w (R274). A level source whose line is high is held pending by its line, so that the
line's fall clears it (R264). -/
def pendSet (m : Master) (w : Nat) (v : Word) (s : State) : State :=
  let key := wordKey m (P.INT_PEND_SET 0) w
  setReg s key (getReg s key ||| (v &&& ~~~lineWord m w s))

/-- Ones written to INT_PEND_CLR word w; a level source whose line is high stays pending through its line (R271, R274). -/
def pendClr (m : Master) (w : Nat) (v : Word) (s : State) : State :=
  let key := wordKey m (P.INT_PEND_SET 0) w
  setReg s key (getReg s key &&& ~~~v)

/-- The pending word as read: the bits set, and the level sources whose lines are high (R264, R274). -/
def pendWord (m : Master) (w : Nat) (s : State) : Word :=
  getReg s (wordKey m (P.INT_PEND_SET 0) w) ||| lineWord m w s

/-- A doorbell to core c (R278). -/
def doorbell (bell c : Nat) (s : State) : Out :=
  if 10 ≤ c then .fault .targetCore else .next (raisePrivate c bell s)

/-- INT_RUNPRI as read by core k (R266, R279). -/
def runPriWord (k : CoreId) (s : State) : Word :=
  match presented s k with
  | none => BitVec.ofNat 32 (runPrio s k)
  | some (_, p) => BitVec.ofNat 32 (runPrio s k + p <<< 4 + 0x100)

/-- The source exists: a reserved source has no line (R278). -/
def hasLine (k : CoreId) (n : Nat) : Bool :=
  (decide (n ≤ 15)) || (decide (n = 16 ∨ n = 17) && decide (8 ≤ k.val)) || n == 18 ||
  (decide (32 ≤ n) && decide (n ≤ 113)) || (decide (128 ≤ n) && decide (n ≤ 255))

/-- CLAIM: a read of INT_CLAIM by core k (R268). -/
def execIntClaim (k : CoreId) (s : State) : Out :=
  gate (.core k) false P.INT_CLAIM (fun s => let (v, s1) := claim k s; .next { s1 with rdata := v }) s

/-- COMPLETE: a write of a source to INT_COMPLETE by core k (R269). -/
def execIntComplete (k : CoreId) (n : Fin 512) (s : State) : Out :=
  gate (.core k) true P.INT_COMPLETE (fun s => .next (completeSource k n.val s)) s

/-- INT_PEND_SET: each 1 written sets the source's pending bit (R274). -/
def execIntPendSet (m : Master) (w : Fin 16) (v : Word) (s : State) : Out :=
  gate m true (P.INT_PEND_SET w) (fun s => .next (pendSet m w v s)) s

/-- INT_PEND_CLR: each 1 written clears the source's pending bit, subject to R271 (R274). -/
def execIntPendClr (m : Master) (w : Fin 16) (v : Word) (s : State) : Out :=
  gate m true (P.INT_PEND_CLR w) (fun s => .next (pendClr m w v s)) s

/-- DOORBELL: a write to INT_DOORBELL sets private source bell of the named core (R278). -/
def execDoorbell (m : Master) (bell : Fin 16) (c : Fin 16) (s : State) : Out :=
  gate m true P.INT_DOORBELL (fun s => doorbell bell.val c.val s) s

/-- HOLDOFF_END: core k's moderation holdoff expires (R275). -/
def execHoldoffEnd (k : CoreId) (s : State) : Out :=
  .next (s.setCore k { s.cores[k] with holdoff := false })

/-- The edge qualifies: under INT_EDGE_SEL for a GPIO source, always for the onset of another async event (R277). -/
def edgeQualifies (n : Nat) (rising : Bool) (s : State) : Bool :=
  if 128 ≤ n ∧ n ≤ 255 then
    let sel := bits (getReg s (P.INT_EDGE_SEL ((n - 128) / 16))).toNat (2 * ((n - 128) % 16) + 1) (2 * ((n - 128) % 16))
    if rising then decide (sel = 1 ∨ sel = 3) else decide (sel = 2 ∨ sel = 3)
  else rising

/-- EDGE_DELIVERY: once the CPU clock runs in PD11, the latch sets its source's pending bit and clears itself (R277). -/
def execEdgeDelivery (n : Fin 512) (s : State) : Out :=
  if Tab.get s.irq.latches false n.val && s.powered 11 && s.cpuClock then
    let s1 := setPending n.val s
    .next { s1 with irq := { s1.irq with latches := Tab.set s1.irq.latches false n.val false } }
  else .next s

/-- INTERRUPT_ENTRY: a presented request is taken between instructions as exception 5 while SR.ie is 1 (R236, R257). -/
def execInterruptEntry (k : CoreId) (s : State) : Out :=
  if s.issues k && s.cores[k].ie && !s.cores[k].eiShadow && (presented s k).isSome then
    .next (takeException k .interrupt s.cores[k].pc none s)
  else .next s

/-- HALT_WAKE: a core in HALT resumes when a request is presented, taking it when SR.ie is 1 (R236). -/
def execHaltWake (k : CoreId) (s : State) : Out :=
  if s.cores[k].halted && s.cores[k].run && !s.cores[k].inDebug && (presented s k).isSome && s.cpuClock then
    let s := pmcSettle s
    let c := s.cores[k]
    let s1 := s.setCore k { c with halted := false, privPast := [] }
    .next (if s.cores[k].ie then takeException k .interrupt s.cores[k].pc none s1 else s1)
  else .next s

end Sys2Proof.Machine
end

