-- ==== Sys2Proof/Machine/Pins.lean ====
section
/-! DEFINITION. The general-purpose pins: claims, what a pin drives and what reads back (chapter 21). -/
namespace Sys2Proof.Machine

/-- A word from a function of its bit numbers. -/
def wordOfBits (f : Nat → Bool) : Word :=
  BitVec.ofNat 32 (((List.range 32).map (fun (i : Nat) => b2n (f i) <<< i)).sum)

/-- A TDM output claims pin n (R432); while PD11 is off, and in device reset, every claim is void (R439). -/
def pinTdmOut (s : State) (n : Nat) : Bool :=
  s.powered 11 && ((decide (8 ≤ n) && decide (n ≤ 10) && onF s P.KTL_TDM F.KTL_TDM_out_en) ||
  (decide (11 ≤ n) && decide (n ≤ 12) && onF s P.KTL_TDM F.KTL_TDM_in_en))

/-- A TDM function claims pin n (R432). -/
def pinTdm (s : State) (n : Nat) : Bool := pinTdmOut s n || (s.powered 11 && decide (n = 13) && onF s P.KTL_TDM F.KTL_TDM_in_en)

/-- A timer output claims pin n (R432). -/
def pinTimerOut (s : State) (n : Nat) : Bool :=
  s.powered 11 && decide (n < 16) && decide (getF s (P.TMR_CTRL n) F.TMR_CTRL_out_mode ≠ 0)

/-- A capture input claims pin n (R432). -/
def pinTimerCap (s : State) (n : Nat) : Bool :=
  s.powered 11 && decide (16 ≤ n) && decide (n < 32) && decide (getF s (P.TMR_CAPCTRL (n - 16)) F.TMR_CAPCTRL_src = 0) &&
  (onF s (P.TMR_CAPCTRL (n - 16)) F.TMR_CAPCTRL_rise || onF s (P.TMR_CAPCTRL (n - 16)) F.TMR_CAPCTRL_fall)

/-- The highest-priority claiming function, as PIN_CFG.func gives it (R432, R440). -/
def pinFunc (s : State) (n : Nat) : Nat :=
  if pinTdm s n then 2 else if pinTimerOut s n || pinTimerCap s n then 1 else 0

/-- PIN_CFG.oe of pin n. -/
def pinOe (s : State) (n : Nat) : Bool := onF s (P.PIN_CFG n) F.PIN_CFG_oe

/-- The pin has at least one output source (R434). -/
def pinDrives (s : State) (n : Nat) : Bool := pinTdmOut s n || pinTimerOut s n || pinOe s n

/-- The GPIO source: the OR of the private ports of the cores that PIN_CFG names (R434). -/
def pinGpio (s : State) (n : Nat) : Bool :=
  (List.finRange 10).any (fun (k : Fin 10) =>
    (getReg s (P.PIN_CFG n)).getLsbD (16 + k.val) &&
      (match s.cores[k].privOut[n / 32]? with
      | some w => w.getLsbD (n % 32)
      | none => false))

/-- The half of a bit clock of the TDM output, of the 1,024 in a period, in which the pins are looked at: any (R219). -/
def tdmMoment (s : State) : Nat := Config.tdmMoment s.free % 1024

/-- The word of output slot k in frame f of the period: the sample in [31:8], zeros below (R219). -/
def slotWord (s : State) (k f : Nat) : Nat := 256 * toBits 24 ((s.aas.sending.toList.getD k []).getD f 0)

/-- The level of a TDM output: zero until its port's first frame; then the bit clock, high in the second half of a bit,
frame sync in the bit before slot 0, and the slots' bits from the most significant on (R219, R433). -/
def tdmLevel (s : State) (n : Nat) : Bool :=
  let h := tdmMoment s
  let b := h / 2
  let frame := if onF s P.KTL_TDM F.KTL_TDM_out96 then 256 else 512
  if n ≤ 10 then
    s.aas.framesOut &&
    (if n = 8 then decide (h % 2 = 1)
    else if n = 9 then decide (b % frame = frame - 1)
    else (slotWord s (b % frame / 32) (b / frame)).testBit (31 - b % 32))
  else s.aas.framesIn && (if n = 11 then decide (b % 2 = 1) else decide (b / 2 = 255))

/-- The OR of the values of all the pin's sources (R434). -/
def pinValue (s : State) (n : Nat) : Bool :=
  (pinTdmOut s n && tdmLevel s n) ||
  (pinTimerOut s n && onF s (P.TMR_STAT n) F.TMR_STAT_out) ||
  (pinOe s n && pinGpio s n)

/-- The pin releases its pad instead of driving it high (R435). -/
def pinOpenDrain (s : State) (n : Nat) : Bool := !pinTdmOut s n && onF s (P.PIN_CFG n) F.PIN_CFG_od

/-- The pin holds its pad at its value: it drives, and does not release the pad (R435). -/
def pinHeld (s : State) (n : Nat) : Bool := pinDrives s n && !(pinOpenDrain s n && pinValue s n)

/-- The pull of pin n, which applies in every mode and at all times: 1 down, 2 up (R435, R440). While the registers of PD11
are at reset it is the weak pull-down of R439. -/
def pinPull (s : State) (n : Nat) : Nat := getF s (P.PIN_CFG n) F.PIN_CFG_pull

/-- The level of a pad that the pin does not hold: what drives it outside, or else its pull; with neither, any (R435, R437,
R439). -/
def padOutside (s : State) (n : Nat) : Bool :=
  match Config.padDrive s.free n with
  | some b => b
  | none => if pinPull s n = 1 then false else if pinPull s n = 2 then true else Config.padLevel s.free n

/-- The pad level: what the pin drives, or, where it drives nothing or releases, what stands there otherwise (R436). -/
def pinLevel (s : State) (n : Nat) : Bool := if pinHeld s n then pinValue s n else padOutside s n

/-- What the 7140 gives a pad: the level that it holds it at, if any, and the pull. -/
def padDrive (s : State) (n : Nat) : Option Bool × Nat := (if pinHeld s n then some (pinValue s n) else none, pinPull s n)

/-- The edges of pad levels between s and t, among some pins: each that qualifies reaches its latch in PD0 (R277, R436). -/
def latchPads (pins : List Nat) (s t : State) : State :=
  let now := { t with free := s.free }
  pins.foldl (fun u n =>
    if padDrive s n = padDrive now n then u
    else if pinLevel s n != pinLevel now n && edgeQualifies (128 + n) (pinLevel now n) t then latchAsync (128 + n) u
    else u) t

/-- The pins whose pads move when registers of PD11 and PD34 go to reset: those of timers and TDM ports, and those whose
configuration has been written. -/
def movablePins (s : State) : List Nat :=
  (List.range 128).filter (fun n => decide (n < 16) || (Tab.find s.regs (P.PIN_CFG n)).isSome)

/-- A TDM output's pad toggles while its port runs: the bit clock and frame sync in every frame, the data line when some
bit is 1. A source at 1 besides it holds the pad high (R219, R434). -/
def tdmToggles (s : State) (n : Nat) : Bool :=
  pinTdmOut s n && !(pinTimerOut s n && onF s (P.TMR_STAT n) F.TMR_STAT_out) && !(pinOe s n && pinGpio s n) &&
  (if n ≤ 10 then s.aas.framesOut && (decide (n ≠ 10) || s.aas.sending.any (fun l => l.any (fun x => x != 0)))
   else s.aas.framesIn)

/-- The edges that the TDM outputs make at their pads in a period (R219, R277, R436). -/
def latchTdm (s : State) : State :=
  [8, 9, 10, 11, 12].foldl (fun u n =>
    if tdmToggles s n && (edgeQualifies (128 + n) true s || edgeQualifies (128 + n) false s) then latchAsync (128 + n) u
    else u) s

/-- What the TDM input port receives in a period: what comes in at GP13, or what the 7140 itself holds that pad at (R436). -/
def tdmReceived (tdm : List (BitVec 24)) (s : State) : List (BitVec 24) :=
  if pinHeld s 13 then List.replicate 8 (if pinValue s 13 then BitVec.allOnes 24 else 0) else tdm

/-! ## Edges from outside -/

/-- An edge of source n can come from outside: at a GP pin that the 7140 holds at a level there is none (R277, R436). -/
def edgeComes (n : Nat) (s : State) : Bool :=
  !(decide (128 ≤ n) && decide (n ≤ 255) && pinHeld s (n - 128))

/-- INTERRUPT_LINE: the line of a source, private to core k when n is below 32, goes to a level. An edge of an async
source that qualifies reaches its latch in PD0, whatever the clocks; a rising edge sets another edge source's pending
bit; a high level holds a level source pending; a fall before the claim clears it (R264, R270, R277). -/
def execInterruptLine (k : CoreId) (n : Fin 512) (high : Bool) (s : State) : Out :=
  let key := srcKey k.val n.val
  let was := Tab.get s.irq.lines false key
  let s1 := { s with irq := { s.irq with lines := Tab.set s.irq.lines false key high } }
  if !hasLine k n.val then .next s
  else if asyncSource n.val then
    .next (if (high != was) && edgeComes n.val s && edgeQualifies n.val high s1 then latchAsync n.val s1 else s1)
  else if !s.powered 11 then .next s
  else if edgeSource n.val then .next (if high && !was then setPending key s1 else s1)
  else .next (if !high && !srcLine s1 key && was then setSrcBit (P.INT_PEND_SET 0) key false s1 else s1)

/-- EDGE_LATCH: a PD0 latch captures a qualifying edge of an async source, whatever the clocks (R277). -/
def execEdgeLatch (n : Fin 512) (rising : Bool) (s : State) : Out :=
  .next (if asyncSource n.val && edgeComes n.val s && edgeQualifies n.val rising s then latchAsync n.val s else s)

/-! ## The private GPIO port -/

/-- The pins of group g whose bits differ between two words. -/
def changedPins (g : Nat) (v w : Word) : List Nat :=
  ((List.range 32).filter (fun i => v.getLsbD i != w.getLsbD i)).map (fun i => 32 * g + i)

/-- A new value of group g of core k's port, and the edges of the pads that follow it (R238, R277). -/
def privSet (k : CoreId) (g : Fin 4) (v : Word) (s : State) : State :=
  latchPads (changedPins g s.cores[k].privOut[g] v) s
    (s.setCore k { s.cores[k] with privOut := s.cores[k].privOut.set g v })

/-- The OUT that commands of the private port stand for takes one CPU clock (R261). -/
def privOutRun (k : CoreId) (g : Fin 4) (v : Word) (s : State) : State :=
  agePort k s.cores[k].privOut 1 (privSet k g v s)

/-- PIN_PRIV_OUT: the port value of the group becomes v (R238). -/
def execPinPrivOut (k : CoreId) (g : Fin 4) (v : Word) (s : State) : Out :=
  gate (.core k) true (P.PIN_PRIV_OUT g) (fun s => .next (privOutRun k g v s)) s

/-- PIN_PRIV_SET: each 1 written sets a bit of the port value (R238). -/
def execPinPrivSet (k : CoreId) (g : Fin 4) (v : Word) (s : State) : Out :=
  gate (.core k) true (P.PIN_PRIV_SET g) (fun s => .next (privOutRun k g (s.cores[k].privOut[g] ||| v) s)) s

/-- PIN_PRIV_CLR: each 1 written clears a bit of the port value (R238). -/
def execPinPrivClr (k : CoreId) (g : Fin 4) (v : Word) (s : State) : Out :=
  gate (.core k) true (P.PIN_PRIV_CLR g) (fun s => .next (privOutRun k g (s.cores[k].privOut[g] &&& ~~~v) s)) s

/-! ## The PIN block -/

/-- VIOb is in the 3.3 V class: what is sensed, and for bank 0 the class latched at reset release (R430, R454). -/
def bank33 (s : State) (b : Nat) : Bool := if b = 0 then s.pwr.vio33 else (Config.bankSense s.free b).getLsbD 1

/-- t_PO of pin n in ns (R438). -/
def padDelay (s : State) (n : Nat) : Nat :=
  let v33 := bank33 s (n / 16)
  let t := match getF s (P.PIN_CFG n) F.PIN_CFG_drive with
    | 0 => if v33 then 9 else 12
    | 1 => if v33 then 6 else 8
    | 2 => if v33 then 4 else 5
    | _ => if v33 then 3 else 4
  t + 4 * b2n (onF s (P.PIN_CFG n) F.PIN_CFG_slow)

/-- The CPU clocks for which PIN_PRIV_IN does not see core k's own OUT at pin n: 2, and ⌈1.2 × (t_PO + 1.5)⌉ (R238,
R438). -/
def privDelay (s : State) (n : Nat) : Nat := 2 + (12 * padDelay s n + 27) / 10

/-- The machine with core k's port as pin n's pad shows it to PIN_PRIV_IN (R238, R438). -/
def privSampled (k : CoreId) (n : Nat) (s : State) : State :=
  s.setCore k { s.cores[k] with privOut := s.cores[k].portAt (privDelay s n) }

/-- PIN_CFG as read (R440). -/
def pinCfgWord (n : Nat) (s : State) : Word := F.PIN_CFG_func.put (pinFunc s n) (getReg s (P.PIN_CFG n))

/-- PIN_BANK as read: what is sensed on VIOb. VIO0 below its warning level is outside its operating range (R430, R454,
R480). -/
def pinBankWord (b : Nat) (s : State) : Word :=
  let present := (Config.bankSense s.free b).getLsbD 0 && !(decide (b = 0) && s.pwr.inWarn.getLsbD 1)
  BitVec.ofNat 32 (b2n present + 2 * b2n (bank33 s b))

/-- A read in the PIN block by a core (R238, R440). -/
def pinRead (m : Master) (p : Nat) (s : State) : Word × State :=
  if p < 0xA0200 then (pinCfgWord ((p - 0xA0000) / 4) s, s)
  else if p < 0xA0210 then (wordOfBits (fun (i : Nat) => pinLevel s (32 * ((p - 0xA0200) / 4) + i)), s.draw)
  else if p < 0xA0220 then (wordOfBits (fun (i : Nat) => pinDrives s (32 * ((p - 0xA0210) / 4) + i)), s)
  else if p < 0xA0230 then (wordOfBits (fun (i : Nat) => pinValue s (32 * ((p - 0xA0220) / 4) + i)), s.draw)
  else if 0xA0300 ≤ p ∧ p < 0xA0320 then (pinBankWord ((p - 0xA0300) / 4) s, s.draw)
  else if 0xA8000 ≤ p ∧ p < 0xA8040 then
    match m with
    | .core k =>
      let g : Fin 4 := Fin.ofNat 4 ((p - 0xA8000) / 16)
      if (p - 0xA8000) % 16 = 0 then (s.cores[k].privOut[g], s)
      else if (p - 0xA8000) % 16 = 12 then
        (wordOfBits (fun (i : Nat) =>
          let n := 32 * ((p - 0xA8000) / 16) + i
          pinLevel (privSampled k n s) n), s.draw)
      else (0, s)
    | .debug => (0, s)
  else (0, s)

/-- A write in the PIN block beyond the pins' configuration (R238, R440). -/
def pinWrite (m : Master) (p : Nat) (v : Word) (s : State) : Out :=
  if 0xA8000 ≤ p ∧ p < 0xA8040 then
    match m with
    | .core k =>
      let g : Fin 4 := Fin.ofNat 4 ((p - 0xA8000) / 16)
      let old := s.cores[k].privOut[g]
      if (p - 0xA8000) % 16 = 0 then .next (privSet k g v s)
      else if (p - 0xA8000) % 16 = 4 then .next (privSet k g (old ||| v) s)
      else if (p - 0xA8000) % 16 = 8 then .next (privSet k g (old &&& ~~~v) s)
      else .next s
    | .debug => .next s
  else .next s

end Sys2Proof.Machine
end

