-- ==== Sys2Proof/Machine/Analogue.lean ====
section
/-! DEFINITION. The outputs and inputs of the audio units: filters, modulators, TDM slots, microphones, faults and
calibration (R211 to R224). -/
namespace Sys2Proof.Machine

/-- The analogue core replaced. -/
def setAas (a : Analogue) (s : State) : State := { s with aas := a }

/-- The audio clock runs: the audio PLL is not stopped (R445). -/
def audioClock (s : State) : Bool := !s.pwr.stopped.getLsbD 3

/-! ## Outputs (R211, R212, R215, R216, R219) -/

/-- The samples that bus b gives an output of rate 48 kHz (port 0) or 96 kHz (port 1) in period n. -/
def busFeed (s : State) (port n b : Nat) : List Int :=
  let h := s.ktl.buses.toList.getD b []
  let dom := busDomain s b
  if port = 1 then
    (if dom = 1 then [h.getD 1 0, h.headD 0] else [bridged dom 1 n 0 h, bridged dom 1 n 1 h])
  else [bridged dom 0 n 0 (if dom = 1 then h.drop 1 else h)]

/-- The samples of zero in a period. -/
def zeroFeed (port : Nat) : List Int := if port = 1 then [0, 0] else [0]

/-- What enters output k's path in a period: its bus while Kettle runs, zero when no enabled entry feeds it. -/
def outputFeed (s : State) (port n : Nat) (k : Nat) : List Int :=
  if kettleOn s && onF s (P.KTL_OUT k) F.KTL_OUT_enable then busFeed s port n (getF s (P.KTL_OUT k) F.KTL_OUT_bus)
  else zeroFeed port

/-- A sample through a path of len samples, the latest first: what leaves, and the path. -/
def pipeStep (len : Nat) (pipe : List Int) (x : Int) : Int × List Int := (pipe.getD (len - 1) 0, (x :: pipe).take len)

/-- Samples through a path. -/
def pipeRun (len : Nat) : List Int → List Int → List Int × List Int
  | [], pipe => ([], pipe)
  | x :: xs, pipe =>
    let p := pipeStep len pipe x
    let r := pipeRun len xs p.2
    (p.1 :: r.1, r.2)

/-- Samples through a filter. -/
def filterRun (c : Coefs) : List Int → Biquad → List Int × Biquad
  | [], q => ([], q)
  | x :: xs, q =>
    let p := q.step c x
    let r := filterRun c xs p.2
    (p.1 :: r.1, r.2)

/-- Modulator o in a period: the DC filter, the 3 samples to the output, mute, enable and its fault. -/
def modulatorPeriod (n : Nat) (s : State) (o : Fin 8) : State :=
  let a := s.aas
  let port := b2n (a.fast.getLsbD o)
  let f := filterRun (if port = 1 then dc96 else dc48) (outputFeed s port n o) a.filters[o]
  let p := pipeRun 3 f.1 a.pipes[o]
  let reach := if a.muted.getLsbD o then p.1.map (fun _ => 0) else p.1
  let drives := a.enabled.getLsbD o && !(getF s P.AAS_STAT F.AAS_STAT_cd_fault).testBit o
  setAas { a with
    filters := a.filters.set o f.2
    pipes := a.pipes.set o p.2
    playing := a.playing.set o (if drives then reach else [])
    zeros := a.zeros.set o (if reach.all (fun x => x == 0) then Nat.min (a.zeros[o] + 1) 480 else 0) } s

/-- TDM output slot i in a period: 2 samples at the port's rate; slots 8 to 15 carry nothing at 96 kHz. -/
def slotPeriod (n : Nat) (s : State) (i : Fin 16) : State :=
  let a := s.aas
  let wide := onF s P.KTL_TDM F.KTL_TDM_out96
  let port := b2n wide
  let x := if wide && decide (8 ≤ i.val) then zeroFeed port else outputFeed s port n (8 + i.val)
  let p := pipeRun 2 x a.slotPipes[i]
  let drives := onF s P.KTL_TDM F.KTL_TDM_out_en && !(wide && decide (8 ≤ i.val))
  setAas { a with
    slotPipes := a.slotPipes.set i p.2
    sending := a.sending.set i (if drives then p.1 else []) } s

/-! ## Microphones (R215, R218, R222) -/

/-- An ADC's step is under way. -/
def adcInStep (a : Analogue) (m : Fin 4) : Bool :=
  match a.cal[8 + m.val] with
  | none => false
  | some c => decide (c.periods ≠ 0)

/-- AUD_MICBIAS is supplied: while any AAS_MIC.bias is 1 (R218). -/
def micBias (s : State) : Bool :=
  s.powered 35 && (List.range 4).any (fun m => onF s (P.AAS_MIC m) F.AAS_MIC_bias)

/-- ADC m's sample of a period, from the level x at its input behind the PGA, through its filters, zero while it delivers
none; and the filters after it. -/
def micPeriod (x : BitVec 24) (m : Fin 4) (s : State) : Int × State :=
  let a := s.aas
  let on := onF s (P.AAS_MIC m) F.AAS_MIC_enable && !a.powerUp && !adcInStep a m && s.powered 35
  if !on then (0, s)
  else
    let p := a.micDc[m].step dc48 (Config.micSample (3 * a.pgas[m]) x).toInt
    let fan := a.fans[m]
    let q := if fan = 0 then (p.1, a.micFan[m])
      else a.micFan[m].step (if fan = 1 then fan80 else if fan = 2 then fan120 else fan160) p.1
    (q.1, setAas { a with micDc := a.micDc.set m p.2, micFan := a.micFan.set m q.2 } s)

/-- The four microphones' samples of a period. -/
def micSamples (mic : List (BitVec 24)) (s : State) : List Int × State :=
  (List.finRange 4).foldl (fun p m =>
    let r := micPeriod (mic.getD m.val 0) m p.2
    (p.1 ++ [r.1], r.2)) ([], s)

/-! ## Calibration (R220 to R222) -/

/-- The periods of one step. -/
def calPeriods : Nat := 96

/-- A period of unit u's calibration: a modulator's step goes on while it is idle, and a nonzero sample abandons it; an
ADC begins a step only while its enable is 0. -/
def calPeriod (s : State) (u : Fin 12) : State :=
  let a := s.aas
  match a.cal[u] with
  | none => s
  | some c =>
    if a.powerUp || decide (calPeriods ≤ c.periods) then s
    else
      let put := fun (p : Nat) => setAas { a with cal := a.cal.set u (some { c with periods := p }) } s
      if h : u.val < 8 then
        (if a.zeros[u.val] = 480 then put (c.periods + 1)
         else if c.periods = 0 then s
         else addF (put 0) P.AAS_STAT F.AAS_STAT_abandoned 1)
      else if c.periods = 0 ∧ onF s (P.AAS_MIC (u.val - 8)) F.AAS_MIC_enable then s
      else put (c.periods + 1)

/-- A 1 written to AAS_CAL_REQ (R220). -/
def calRequest (v : Word) (s : State) : State :=
  let s := setReg s P.AAS_CAL_REQ (getReg s P.AAS_CAL_REQ ||| (v &&& 0xFFF))
  setAas { s.aas with cal := Vector.ofFn (fun (u : Fin 12) =>
    match s.aas.cal[u] with
    | some c => some c
    | none => if v.getLsbD u then some ⟨0, 0⟩ else none) } s

/-- AAS_CAL_REQ: calibration of the modulators and ADCs whose bits are 1 is requested (R220). -/
def execAasCalReq (m : Master) (v : BitVec 12) (s : State) : Out :=
  gate m true P.AAS_CAL_REQ (fun s => .next (calRequest (v.setWidth 32) s.audioAccess)) s

/-- The port of unit u's report register. -/
def rptPort (u : Fin 12) : Nat := if u.val < 8 then P.AAS_CD_RPT u.val else P.AAS_MIC_RPT (u.val - 8)

/-- CALIBRATION_STEP: a step of 96 periods has ended; after the last one, the modulator still idle, the trims found are
applied and the request is done (R221, R222). -/
def execCalibrationStep (u : Fin 12) (rpt : BitVec 28) (s : State) : Out :=
  let a := s.aas
  match a.cal[u] with
  | none => .next s
  | some c =>
    if c.periods < calPeriods then .next s
    else if c.steps + 1 < (if u.val < 8 then 8 else 4) then
      .next (setAas { a with cal := a.cal.set u (some ⟨c.steps + 1, 0⟩) } s)
    else if u.val < 8 ∧ a.zeros.toList.getD u.val 0 < 480 then .next s
    else
      let s := setReg s (rptPort u) (rpt.setWidth 32)
      let s := setReg s P.AAS_CAL_DONE (getReg s P.AAS_CAL_DONE ||| BitVec.ofNat 32 (1 <<< u.val))
      let s := setReg s P.AAS_CAL_REQ (getReg s P.AAS_CAL_REQ &&& ~~~ BitVec.ofNat 32 (1 <<< u.val))
      .next (setAas { a with cal := a.cal.set u none } s)

/-- POWER_UP_CALIBRATION_DONE: the trims of every modulator and ADC are found, and the enables are no longer held back
(R220). -/
def execPowerUpCalibrationDone (rpts : List (BitVec 28)) (s : State) : Out :=
  if !s.aas.powerUp || !s.powered 35 then .next s
  else
    let s := (List.finRange 12).foldl (fun t u => setReg t (rptPort u) ((rpts.getD u.val 0).setWidth 32)) s
    .next (setAas { s.aas with powerUp := false } s)

/-! ## Faults (R217) -/

/-- CD_FAULT: modulator o's feedback has differed for 1.5 µs; the sensed output collapsed, or the feedback is lost. -/
def execCdFault (o : Fin 8) (collapsed : Bool) (s : State) : Out :=
  let a := s.aas
  let bit := getF s P.AAS_STAT F.AAS_STAT_cd_fault
  if !s.powered 35 || !a.enabled.getLsbD o || bit.testBit o then .next s
  else
    let cause := if collapsed then 1 else 2
    let s := setF s P.AAS_STAT F.AAS_STAT_cd_fault (bit + 2 ^ o.val)
    let s := if getF s P.AAS_STAT F.AAS_STAT_tilt_cause = 0 then setF s P.AAS_STAT F.AAS_STAT_tilt_cause cause else s
    .next (raiseTilt (0x2000 + cause) (setAas { a with playing := a.playing.set o [] } s))

/-! ## The 48 kHz period (R193, R224) -/

/-- AAS_CD, AAS_MIC.fan and AAS_MIC.pga as a period boundary takes them (R220, R224). -/
def latchEnables (s : State) : State :=
  let pack := fun (f : Fld) => BitVec.ofNat 8 (((List.range 8).map (fun (o : Nat) => b2n (onF s (P.AAS_CD o) f) <<< o)).sum)
  setAas { s.aas with
    enabled := if s.aas.powerUp then 0 else pack F.AAS_CD_enable
    muted := pack F.AAS_CD_mute
    fans := Vector.ofFn (fun (m : Fin 4) => getF s (P.AAS_MIC m) F.AAS_MIC_fan)
    pgas := Vector.ofFn (fun (m : Fin 4) => getF s (P.AAS_MIC m) F.AAS_MIC_pga) } s

/-- The outputs, the edges that they make at pads, and the calibration in period n. -/
def outputsPeriod (n : Nat) (s : State) : State :=
  let s := setAas { s.aas with
    framesOut := onF s P.KTL_TDM F.KTL_TDM_out_en
    framesIn := onF s P.KTL_TDM F.KTL_TDM_in_en } s
  let s := latchTdm ((List.finRange 16).foldl (slotPeriod n) s)
  if !s.powered 35 then s
  else (List.finRange 12).foldl calPeriod ((List.finRange 8).foldl (modulatorPeriod n) s)

/-- PERIOD: a 48 kHz period begins, with the samples that enter the inputs in it, the TDM port's at GP13 (R193 to R224, R436). A stop takes effect
here (R223). -/
def execKettlePeriod (tdm mic : List (BitVec 24)) (s : State) : Out :=
  if !s.powered 34 || !audioClock s then .next s
  else
    let s := if s.powered 35 then latchEnables s else s
    let s := if kettleOn s && s.ktl.stopping then kettleHalt s else s
    if kettleOn s then
      let n := s.ktl.next
      let x := micSamples mic s
      match kettlePeriod (tdmReceived tdm s) x.1 x.2 with
      | .next t => .next (outputsPeriod n t)
      | .fault e => .fault e
      | .refused r => .refused r
    else .next (outputsPeriod 0 (declareKettle 0xFFFF s))

end Sys2Proof.Machine
end

