-- ==== Sys2Proof/Machine/Timers.lean ====
section
/-! DEFINITION. The timers (R299 to R310, R503). -/
namespace Sys2Proof.Machine

/-- Timer n replaced. -/
def setTmr (n : Fin 16) (t : Timer) (s : State) : State := { s with tmr := s.tmr.set n t }

/-- DMA event flag e is set, while the engine is powered (R289, R305). -/
def setFlag (e : Nat) (s : State) : State :=
  if s.powered 29 then setF s (P.DMA_EVENT_SET (e / 32)) ⟨e % 32, e % 32⟩ 1 else s

/-- A 48-bit value held in a low and a high register. -/
def pairOf (s : State) (lo hi : Nat) : Nat := (getReg s lo).toNat + 4294967296 * (getReg s hi).toNat
def setPair (lo hi v : Nat) (s : State) : State :=
  setReg (setReg s lo (BitVec.ofNat 32 v)) hi (BitVec.ofNat 32 (v / 4294967296 % 65536))

/-- The TOP and the comparator in effect (R301, R302). -/
def tmrTop (s : State) (n : Fin 16) : Nat := pairOf s (P.TMR_TOP_LO n) (P.TMR_TOP_HI n)
def tmrCmp (s : State) (n : Fin 16) : Nat := pairOf s (P.TMR_CMP_LO n) (P.TMR_CMP_HI n)

/-- TMR_CTRL's fields. -/
def tmrRuns (s : State) (n : Fin 16) : Bool := onF s (P.TMR_CTRL n) F.TMR_CTRL_run
def tmrMode (s : State) (n : Fin 16) : Nat := getF s (P.TMR_CTRL n) F.TMR_CTRL_mode
def tmrOutMode (s : State) (n : Fin 16) : Nat := getF s (P.TMR_CTRL n) F.TMR_CTRL_out_mode

/-- The timer's output goes to a level. -/
def setOut (n : Fin 16) (b : Bool) (s : State) : State := setF s (P.TMR_STAT n) F.TMR_STAT_out (b2n b)

/-- The event names flag 48 + n when dma_sel is sel (R305). -/
def tmrFlag (n : Fin 16) (sel : Nat) (s : State) : State :=
  if getF s (P.TMR_CTRL n) F.TMR_CTRL_dma_sel = sel then setFlag (48 + n.val) s else s

/-! ## Counting (R299 to R301, R503) -/

/-- What a tick makes of a count: the count, whether it moves down, and whether the tick is the wrap tick. -/
def timerMove (mode top c : Nat) (down : Bool) : Nat × Bool × Bool :=
  if mode = 0 then (if top ≤ c then (0, false, true) else (c + 1, false, false))
  else if mode = 1 then (if c = 0 then (top, decide (top ≠ 0), true) else (c - 1, true, false))
  else if c = 0 ∧ top = 0 then (0, false, true)
  else if (!down || decide (c = 0)) && decide (c < top) then (c + 1, decide (c + 1 = top), false)
  else (c - 1, decide (c - 1 ≠ 0), decide (c - 1 = 0))

/-- The next tick's move. -/
def nextMove (s : State) (n : Fin 16) : Nat × Bool × Bool :=
  timerMove (tmrMode s n) (tmrTop s n) s.tmr[n].count (onF s (P.TMR_STAT n) F.TMR_STAT_down)

/-- The TOP waiting in the shadow takes effect; in down mode the count takes it (R301). -/
def loadShadow (n : Fin 16) (s : State) : State :=
  match s.tmr[n].shadow with
  | none => s
  | some v =>
    let s1 := setPair (P.TMR_TOP_LO n) (P.TMR_TOP_HI n) v s
    setTmr n { s.tmr[n] with shadow := none, count := if tmrMode s n = 1 then v else s.tmr[n].count } s1

/-- What the wrap tick does (R301, R305). -/
def wrapTick (n : Fin 16) (s : State) : State :=
  tmrFlag n 2 (setF (loadShadow n s) (P.TMR_STAT n) F.TMR_STAT_wrap 1)

/-- What a match does (R304, R305, R312). -/
def matchTick (n : Fin 16) (s : State) : State :=
  let o := tmrOutMode s n
  let s1 := setF s (P.TMR_STAT n) F.TMR_STAT_match 1
  let s2 :=
    if o = 1 then setOut n true s1
    else if o = 2 then setOut n false s1
    else if o = 3 then setOut n (!onF s (P.TMR_STAT n) F.TMR_STAT_out) s1
    else s1
  tmrFlag n 1 (pmcEvent (0x0F0 + n.val) 0 1 s2)

/-- A tick: the count moves; a wrap tick and a match have their effects; PWM drives the output (R299 to R304). -/
def tick (n : Fin 16) (s : State) : State :=
  let m := nextMove s n
  let t := s.tmr[n]
  let s1 := setTmr n { t with count := m.1, since := t.since.map (fun k => Nat.min (k + 1) 4294967295) } s
  let s2 := if tmrMode s n = 2 then setF s1 (P.TMR_STAT n) F.TMR_STAT_down (b2n m.2.1) else s1
  let s3 := if m.2.2 then wrapTick n s2 else s2
  let s4 := if s3.tmr[n].count = tmrCmp s3 n then matchTick n s3 else s3
  if tmrOutMode s4 n = 4 then setOut n (decide (s4.tmr[n].count < tmrCmp s4 n)) s4 else s4

/-- The count after the next tick, the shadow's TOP taken where the tick takes it. -/
def nextCount (s : State) (n : Fin 16) : Nat :=
  let m := nextMove s n
  match s.tmr[n].shadow with
  | some v => if m.2.2 ∧ tmrMode s n = 1 then v else m.1
  | none => m.1

/-- The timer ticks: it runs and so does the CPU clock (R299). -/
def tmrTicks (s : State) (n : Fin 16) : Bool := s.powered 11 && s.cpuClock && tmrRuns s n

/-- The edge that a change of timer n's output or claim makes at its pad (R277, R436). -/
def timerPad (n : Fin 16) (f : State → State) (s : State) : State := latchPads [n.val] s (f s)

/-- A tick and the edge that it makes at the timer's pad. -/
def tickPad (n : Fin 16) (s : State) : State := timerPad n (tick n) s

/-- TIMER_TICK: a tick, prescale + 1 CPU clocks after the last (R299). -/
def execTimerTick (n : Fin 16) (s : State) : Out := if tmrTicks s n then .next (tickPad n s) else .next s

/-- WRAP_TICK: a tick that is the wrap tick (R300). -/
def execWrapTick (n : Fin 16) (s : State) : Out :=
  if tmrTicks s n && (nextMove s n).2.2 then .next (tickPad n s) else .next s

/-- MATCH: a tick after which the count equals the comparator (R302). -/
def execMatchEvent (n : Fin 16) (s : State) : Out :=
  if tmrTicks s n && decide (nextCount s n = tmrCmp s n) then .next (tickPad n s) else .next s

/-! ## Register writes -/

/-- A write of v to TMR_CTRL: mode and prescale are ignored while run is 1 (R301); a reserved mode or out_mode is
unpredictable. -/
def tmrCtrlWrite (n : Fin 16) (v : Word) (s : State) : Out :=
  let keep := tmrRuns s n
  let old := getReg s (P.TMR_CTRL n)
  let w := if keep then F.TMR_CTRL_prescale.put (F.TMR_CTRL_prescale.get old) (F.TMR_CTRL_mode.put (F.TMR_CTRL_mode.get old) v)
    else v
  if F.TMR_CTRL_mode.get w = 3 ∨ 5 ≤ F.TMR_CTRL_out_mode.get w then .fault .timerForm
  else .next (timerPad n (fun s => setReg s (P.TMR_CTRL n) w) s)

/-- TIMER_RUN: TMR_CTRL is written with run 1 (R299). -/
def execTimerRun (m : Master) (n : Fin 16) (mode : Fin 3) (prescale : BitVec 8) (outMode : Fin 5) (dmaSel : Fin 4)
    (s : State) : Out :=
  gate m true (P.TMR_CTRL n) (tmrCtrlWrite n (BitVec.ofNat 32
    (1 + 2 * mode.val + 16 * prescale.toNat + 0x1000 * outMode.val + 0x10000 * dmaSel.val))) s

/-- A write of TMR_TOP_HI (R301). -/
def topWrite (n : Fin 16) (high : Nat) (s : State) : Out :=
  match s.tmr[n].topStaged with
  | none => .fault .timerForm
  | some lo =>
    let v := lo.toNat + 4294967296 * (high % 65536)
    if tmrRuns s n then .next (setTmr n { s.tmr[n] with shadow := some v } s)
    else .next (setTmr n { s.tmr[n] with shadow := none } (setPair (P.TMR_TOP_LO n) (P.TMR_TOP_HI n) v s))

/-- TOP_WRITE: a write of TMR_TOP_HI (R301). -/
def execTopWrite (m : Master) (n : Fin 16) (high : BitVec 16) (s : State) : Out :=
  gate m true (P.TMR_TOP_HI n) (topWrite n high.toNat) s

/-- A write of TMR_CMP_HI (R302). -/
def cmpWrite (n : Fin 16) (high : Nat) (s : State) : Out :=
  match s.tmr[n].cmpStaged with
  | none => .fault .timerForm
  | some lo => .next (setPair (P.TMR_CMP_LO n) (P.TMR_CMP_HI n) (lo.toNat + 4294967296 * (high % 65536)) s)

/-- COMPARATOR_WRITE: a write of TMR_CMP_HI (R302). -/
def execComparatorWrite (m : Master) (n : Fin 16) (high : BitVec 16) (s : State) : Out :=
  gate m true (P.TMR_CMP_HI n) (cmpWrite n high.toNat) s

/-- A clear (R300). -/
def tmrClear (n : Fin 16) (s : State) : State :=
  let s1 := setF s (P.TMR_STAT n) F.TMR_STAT_down 0
  setTmr n { s.tmr[n] with count := if tmrMode s n = 1 then tmrTop s n else 0 } s1

/-- A snap (R309). -/
def tmrSnap (n : Fin 16) (s : State) : State := setPair (P.TMR_SNAP_LO n) (P.TMR_SNAP_HI n) s.tmr[n].count s

/-- A write of v to TMR_CMD: snap, then clear, and the forced output; both forces at once change nothing (R300, R304,
R309). -/
def tmrCmdWrite (n : Fin 16) (v : Word) (s0 : State) : State := timerPad n (fun s =>
  let s1 := if F.TMR_CMD_snap.on v then tmrSnap n s else s
  let s2 := if F.TMR_CMD_clear.on v then tmrClear n s1 else s1
  if F.TMR_CMD_out_set.on v == F.TMR_CMD_out_clr.on v then s2 else setOut n (F.TMR_CMD_out_set.on v) s2) s0

/-- SNAP: TMR_CMD.snap (R309). -/
def execTimerSnap (m : Master) (n : Fin 16) (s : State) : Out :=
  gate m true (P.TMR_CMD n) (fun s => .next (tmrCmdWrite n 1 s)) s

/-- CLEAR: TMR_CMD.clear (R300). -/
def execTimerClear (m : Master) (n : Fin 16) (s : State) : Out :=
  gate m true (P.TMR_CMD n) (fun s => .next (tmrCmdWrite n 2 s)) s

/-- OUT_SET: TMR_CMD.out_set (R304). -/
def execOutSet (m : Master) (n : Fin 16) (s : State) : Out :=
  gate m true (P.TMR_CMD n) (fun s => .next (tmrCmdWrite n 4 s)) s

/-- OUT_CLR: TMR_CMD.out_clr (R304). -/
def execOutClr (m : Master) (n : Fin 16) (s : State) : Out :=
  gate m true (P.TMR_CMD n) (fun s => .next (tmrCmdWrite n 8 s)) s

/-! ## Capture (R306 to R308) -/

/-- The count goes into TMR_CAPR; an unread capture is overwritten and ovr set (R306, R308). -/
def captureRise (n : Fin 16) (s : State) : State :=
  let t := s.tmr[n]
  let s1 := setReg s (P.TMR_CAPR_LO n) (BitVec.ofNat 32 t.count)
  let s2 := setF s1 (P.TMR_STAT n) F.TMR_STAT_capr 1
  let s3 := if t.rUnread then setF s2 (P.TMR_STAT n) F.TMR_STAT_ovr 1 else s2
  setTmr n { t with rHigh := t.count / 4294967296, rUnread := true } s3

/-- The count goes into TMR_CAPF (R306, R308). -/
def captureFall (n : Fin 16) (s : State) : State :=
  let t := s.tmr[n]
  let s1 := setReg s (P.TMR_CAPF_LO n) (BitVec.ofNat 32 t.count)
  let s2 := setF s1 (P.TMR_STAT n) F.TMR_STAT_capf 1
  let s3 := if t.fUnread then setF s2 (P.TMR_STAT n) F.TMR_STAT_ovr 1 else s2
  tmrFlag n 3 (setTmr n { t with fHigh := t.count / 4294967296, fUnread := true } s3)

/-- A rising edge of the pin. -/
def pinRise (n : Fin 16) (s : State) : State :=
  if onF s (P.TMR_CAPCTRL n) F.TMR_CAPCTRL_rise then
    captureRise n (setTmr n { s.tmr[n] with since := some 0 } s)
  else s

/-- A falling edge of the pin: while pair is 1 only after a rising capture, whose distance it gives (R307). -/
def pinFall (n : Fin 16) (s : State) : State :=
  if onF s (P.TMR_CAPCTRL n) F.TMR_CAPCTRL_fall then
    let s1 := setTmr n { s.tmr[n] with since := none } s
    if onF s (P.TMR_CAPCTRL n) F.TMR_CAPCTRL_pair then
      match s.tmr[n].since with
      | none => s1
      | some k => captureFall n (setReg s1 (P.TMR_WIDTH n) (BitVec.ofNat 32 k))
    else captureFall n s1
  else s

/-- The number of a capture source (R306). -/
def capSrc : CapEdge → Nat
  | .pin _ => 0
  | .beam d => 1 + d.val
  | .kettle => 5

/-- CAPTURE: the timer accepts a level that its pin's pad can have, or an edge of an internal source that is on its way
arrives (R306, R436). -/
def execTimerCapture (n : Fin 16) (e : CapEdge) (s : State) : Out :=
  if !s.powered 11 || !s.cpuClock then .next s
  else
    let mine := decide (getF s (P.TMR_CAPCTRL n) F.TMR_CAPCTRL_src = capSrc e)
    match e with
    | .pin high =>
      if s.tmr[n].level == high || (pinHeld s (16 + n.val) && pinValue s (16 + n.val) != high) then .next s
      else
        let s1 := setTmr n { s.tmr[n] with level := high } s
        .next (if mine then (if high then pinRise n s1 else pinFall n s1) else s1)
    | .beam _ | .kettle =>
      let i := capSrc e - 1
      if !s.tmr[n].edges.getLsbD i then .next s
      else
        let s := setTmr n { s.tmr[n] with edges := s.tmr[n].edges &&& ~~~ BitVec.ofNat 5 (1 <<< i) } s
        .next (if mine && onF s (P.TMR_CAPCTRL n) F.TMR_CAPCTRL_rise then captureRise n s else s)

/-- A read of TMR_CAPR_LO or TMR_CAPF_LO: the hold takes the high bits, and the capture is read (R308). -/
def captureRead (n : Fin 16) (falling : Bool) (s : State) : Word × State :=
  let t := s.tmr[n]
  if falling then
    (getReg s (P.TMR_CAPF_LO n),
      setReg (setTmr n { t with fUnread := false } s) (P.TMR_CAPF_HI n) (BitVec.ofNat 32 t.fHigh))
  else
    (getReg s (P.TMR_CAPR_LO n),
      setReg (setTmr n { t with rUnread := false } s) (P.TMR_CAPR_HI n) (BitVec.ofNat 32 t.rHigh))

/-- CAPTURE_READ: a read of TMR_CAPR_LO or TMR_CAPF_LO (R308). -/
def execCaptureRead (m : Master) (n : Fin 16) (falling : Bool) (s : State) : Out :=
  gate m false (if falling then P.TMR_CAPF_LO n else P.TMR_CAPR_LO n) (fun s =>
    let r := captureRead n falling s
    .next { r.2 with rdata := r.1 }) s

end Sys2Proof.Machine
end

