-- ==== Sys2Proof/Machine/Dma.lean ====
section
/-! DEFINITION. The DMA engine (R280 to R298). -/
namespace Sys2Proof.Machine

/-! ## Reach (R24, R25, R280) -/

/-- Why an engine of the control cluster cannot access n bytes at a, within one region: a case that the manual leaves
unpredictable. -/
def engineStop (write : Bool) (a n : Nat) (s : State) : Option Fault :=
  if write && s.imageIn a n then some .imageContentWrite
  else
    match s.region a with
    | .dram => if a + n ≤ s.dramSize then none else some .unmappedData
    | .comets | .resident | .exchange _ => if s.bankOn a then none else some .sramBankOff
    | .stream _ => if write then some .streamBufferWrite else if s.bankOn a then none else some .sramBankOff
    | .streamRings => if write then some .kettleAreaWrite else if s.bankOn a then none else some .sramBankOff
    | .patternCache | .lineBuffer | .l2Array => some .closedSram
    | .xRam | .yRam => some .unmappedData
    | .unmapped => if a < sramBase then some .unmappedData else some .closedSram

/-! ## A channel's registers -/

/-- Channel n's state beside its registers, replaced. -/
def setCh (n : Fin 32) (c : DmaChannel) (s : State) : State := { s with dma := s.dma.set n c }

/-- DMA_CH_STAT.state: 0 idle, 1 running, 2 waiting, 3 stopped, 4 done, 5 error. -/
def chState (s : State) (n : Fin 32) : Nat := getF s (P.DMA_CH_STAT n) F.DMA_CH_STAT_state
def setChState (n : Fin 32) (x : Nat) (s : State) : State := setF s (P.DMA_CH_STAT n) F.DMA_CH_STAT_state x

/-- The channel is running or waiting (R297). -/
def chBusy (s : State) (n : Fin 32) : Bool := decide (chState s n = 1 ∨ chState s n = 2)

/-- DMA_CH_PC.index. -/
def chPc (s : State) (n : Fin 32) : Nat := getF s (P.DMA_CH_PC n) F.DMA_CH_PC_index
def setPc (n : Fin 32) (i : Nat) (s : State) : State := setF s (P.DMA_CH_PC n) F.DMA_CH_PC_index i

/-- The channel's loops, DMA_CH_PC.depth following. -/
def setLoops (n : Fin 32) (l : List (Nat × Nat)) (s : State) : State :=
  setF (setCh n { s.dma[n] with loops := l } s) (P.DMA_CH_PC n) F.DMA_CH_PC_depth l.length

/-- A 40-bit pointer held in a low and a high register. -/
def chPtr (s : State) (lo hi : Nat) : Nat := (getReg s lo).toNat + 4294967296 * (getReg s hi).toNat
def setPtr (lo hi v : Nat) (s : State) : State :=
  setReg (setReg s lo (BitVec.ofNat 32 v)) hi (BitVec.ofNat 32 (v / 4294967296 % 256))

/-- SP and DP (R283). -/
def chSp (s : State) (n : Fin 32) : Nat := chPtr s (P.DMA_CH_SRC_LO n) (P.DMA_CH_SRC_HI n)
def chDp (s : State) (n : Fin 32) : Nat := chPtr s (P.DMA_CH_DST_LO n) (P.DMA_CH_DST_HI n)
def setSp (n : Fin 32) (v : Nat) (s : State) : State := setPtr (P.DMA_CH_SRC_LO n) (P.DMA_CH_SRC_HI n) v s
def setDp (n : Fin 32) (v : Nat) (s : State) : State := setPtr (P.DMA_CH_DST_LO n) (P.DMA_CH_DST_HI n) v s

/-- The engine works: PD29 is on and the CPU clock runs. -/
def dmaOn (s : State) : Bool := s.powered 29 && s.cpuClock

/-! ## Fetching and checking an instruction (R282, R284, R285) -/

/-- The address of the instruction in progress. -/
def progAt (s : State) (n : Fin 32) : Nat := chPtr s (P.DMA_CH_PROG_LO n) (P.DMA_CH_PROG_HI n) + 16 * chPc s n

/-- Word i of the instruction in progress. -/
def progWord (s : State) (n : Fin 32) (i : Nat) : Nat := (s.word (progAt s n + 4 * i)).toNat

/-- Bits outside a mask. -/
def outside (w mask : Nat) : Bool := decide (w &&& mask ≠ w)

/-- The bits that R282 names in words 0 to 3 of an instruction; none for a reserved op or act. -/
def namedBits (w0 : Nat) : Option (Nat × Nat × Nat × Nat) :=
  let op := w0 % 16
  if op = 1 then some (0x00FFFF3F, 0xFFFFFFFF, 0xFFFFFFFF, 0x1FFFFFF)
  else if op = 2 then some (0xF, 0xFFFFFF, 0, 0)
  else if op = 3 then some (0xF, 0xFFFFFFFF, 0xFFFFFFFF, 0)
  else if op = 4 then some (0x13F0F, 0, 0, 0)
  else if op = 5 then some (0x33F0F, 0, 0, 0)
  else if op = 6 then
    (if bits w0 5 4 = 0 then some (0xFF7F, 0xFFFFFFFF, 0, 0)
    else if bits w0 5 4 = 1 then some (0xFF3F, 0xFFFFFFFF, 0, 0)
    else none)
  else if op = 7 then some (0xF, 0, 0, 0)
  else none

/-- The err_code of an instruction's checks, 0 when they hold; several failures give the lowest code (R285, R289,
R291). -/
def checkCode (c : DmaChannel) (w0 w1 w2 w3 : Nat) : Nat :=
  let op := w0 % 16
  match namedBits w0 with
  | none => 1
  | some (m0, m1, m2, m3) =>
    if outside w0 m0 || outside w1 m1 || outside w2 m2 || outside w3 m3 then 1
    else if (op = 1 ∧ (w1 % 32 ≠ 0 ∨ w2 % 32 ≠ 0)) ∨ (op = 6 ∧ w1 % 32 ≠ 0) then 2
    else if (op = 1 ∧ (w3 % 32 ≠ 0 ∨ w3 = 0 ∨ 16777216 < w3)) ∨ (op = 2 ∧ w1 = 0) ∨
        (op = 3 ∧ (w1 % 32 ≠ 0 ∨ w2 % 32 ≠ 0)) then 3
    else if (op = 2 ∧ 4 ≤ c.loops.length) ∨ (op = 3 ∧ c.loops = []) then 4
    else if op = 5 ∧ 48 ≤ bits w0 13 8 then 5
    else if op = 6 ∧ ((bits w0 5 4 = 0 ∧ c.check.isSome) ∨ (bits w0 5 4 = 1 ∧ c.check.isNone)) then 6
    else 0

/-- The channel begins to drain (R287). -/
def startDrain (n : Fin 32) (x : Drain) (s : State) : State := setCh n { s.dma[n] with drain := some x } s

/-- The instruction in progress has ended: the next one, or the drain of a stop that waits (R296). -/
def chNext (n : Fin 32) (i : Nat) (s : State) : State :=
  let s1 := setPc n i s
  if s1.dma[n].stopDue then startDrain n .stop (setCh n { s1.dma[n] with stopDue := false } s1) else s1

/-! ## MOVE (R283, R288, R291, R295) -/

/-- The bytes that a read of a granule returns: of one written since the last drain, the old or the new ones (R288). -/
def granuleRead (n : Fin 32) (a : Nat) (s : State) : List Byte :=
  match Tab.find s.dma[n].undrained a with
  | some old => if Config.granuleOld s.free a then old else s.readBytes a 32
  | none => s.readBytes a 32

/-- Bytes read enter the open accumulation (R291). -/
def Check.add (k : Check) (bs : List Byte) : Check :=
  match k with
  | .crc r => .crc (bs.foldl crcByte r)
  | .sha m => .sha (m ++ bs)

/-- A granule that the channel writes, with its bytes before (R287, R288). -/
def noteGranule (n : Fin 32) (a : Nat) (s : State) : State :=
  let c := s.dma[n]
  let old := (Tab.find c.undrained a).getD (s.readBytes a 32)
  setCh n { c with undrained := Tab.insert c.undrained a old, last := some a } s

/-- The granules of n bytes at a. -/
def granulesAt (a n : Nat) : List Nat := (List.range (n / 32)).map (fun i => a + 32 * i)

/-- Whole granules of one burst written by channel n: in DRAM as a request of requester 10, marked as the channel's,
and in shared SRAM at once (R280, R281). -/
def granuleWrite (n : Fin 32) (a : Nat) (bs : List Byte) (s : State) : State :=
  let s1 := (granulesAt a bs.length).foldl (fun s x => noteGranule n x s) s
  if s.region a = .dram then
    issue 10 ⟨a, some bs, false, chanOf s1 a, arrival s1 (chanOf s1 a), n.val + 1⟩ (leaveSelfRefresh s1)
  else s1.writeBytes a bs

/-- A write of channel n waits for its grant. -/
def writesWait (n : Fin 32) (s : State) : Bool := tagWaits 10 (n.val + 1) s

/-- The engine can write to an address now: in DRAM its port is free (R42, R293). -/
def writeOpen (a : Nat) (s : State) : Bool := decide (s.region a ≠ .dram) || portTakes 10 false s

/-- An access of channel n that reads the burst of an address: a request of requester 10 in DRAM (R280). -/
def engineRead (n : Fin 32) (a : Nat) (s : State) : Except Held State :=
  if s.region a = .dram then accessAs 10 (a - a % 64) none false false (n.val + 1) s else .ok s

/-- Channel n's FIFO share: base and size. -/
def fifoBase (s : State) (n : Fin 32) : Nat := getF s (P.DMA_CH_FIFO n) F.DMA_CH_FIFO_base
def fifoSize (s : State) (n : Fin 32) : Nat := getF s (P.DMA_CH_FIFO n) F.DMA_CH_FIFO_size

/-- Granules of the next access at an address of a MOVE with so many bytes to go: two adjacent ones that form an aligned
burst go together (R281). -/
def burstSize (a left : Nat) : Nat := if left = 0 then 0 else if a % 64 = 0 ∧ 64 ≤ left then 2 else 1

/-- Granules of the channel's next read, 0 when none is ready: its share has room and its allowance covers them. With a
limit of 1, which no window's allowance lifts to a burst, they are read one by one. DEDUCED: such a channel would else never
read a burst (R281, R293 to R295). -/
def readReady (s : State) (n : Fin 32) (len : Nat) : Nat :=
  let c := s.dma[n]
  let k := c.moved.getD len
  let g := burstSize (chSp s n + k) (len - k)
  let x := c.allowance.getD g
  if 32 * fifoSize s n < c.fifo.length + g then 0
  else if g ≤ x then g
  else if getF s (P.DMA_CH_RATE n) F.DMA_CH_RATE_limit = 1 then x
  else 0

/-- Granules of the channel's next write, 0 when none is ready: the granules are in its share, and the engine can issue the
write (R293). -/
def writeReady (s : State) (n : Fin 32) (len : Nat) : Nat :=
  let c := s.dma[n]
  let k := c.moved.getD len - 32 * c.fifo.length
  let g := burstSize (chDp s n + k) (len - k)
  if c.fifo.length < g || !writeOpen (chDp s n + k) s then 0 else g

/-- A request of channel n has been issued and is parked, or its data has not been taken up (R42). -/
def outstanding (s : State) (n : Fin 32) : Bool := ownWaits 10 (n.val + 1) s

/-- The address of the granule that the CRC store in progress writes (R291). -/
def storeAt (s : State) (n : Fin 32) : Nat := progWord s n 1 + 4294967296 * bits (progWord s n 0) 15 8

/-- Channel n has a request ready: the read-back of its drain, the fetch of its next instruction, a read or a write of its
MOVE, or the store of a check value (R294). -/
def requestReady (s : State) (n : Fin 32) : Bool :=
  let c := s.dma[n]
  if outstanding s n || decide (chState s n = 0) then false
  else if c.drain.isSome then c.last.isSome && !writesWait n s
  else if decide (chState s n ≠ 1) || c.shaWaits then false
  else if c.moved.isSome then decide (0 < readReady s n (progWord s n 3) + writeReady s n (progWord s n 3))
  else !c.fetched || writeOpen (storeAt s n) s

/-- The channel that the engine serves next: the first with a request ready after the one served last (R294). -/
def nextServed (s : State) : Option (Fin 32) :=
  ((List.range 32).map (fun i => s.dmaLast + Fin.ofNat 32 (i + 1))).find? (requestReady s)

/-- Channel n may go on with its request: the rotation has come to it, or the request has been issued (R294). -/
def served (n : Fin 32) (s : State) : Bool := outstanding s n || decide (nextServed s = some n)

/-- The rotation after channel n has issued a request: one that was issued before has had its turn. -/
def turnTaken (n : Fin 32) (issued : Bool) (s : State) : State := if issued then s else { s with dmaLast := n }

/-- Channel n's request has not been granted: it is parked, and the rotation has passed the channel. -/
def engineHeld (n : Fin 32) (h : Held) (s : State) : State :=
  park h (if h.isSome then { s with dmaLast := n } else s)

/-- Channel n executes its next instruction, when that is of kind op (its reserved ops fail whatever kind is named):
f has the words and the effect of one that passes its checks. The fetch is a read of requester 10 in the engine's
rotation, and the channel waits while it is not granted (R280, R282, R285, R286, R294). -/
def dmaStep (n : Fin 32) (kind : Nat → Bool) (f : Nat → Nat → Nat → Nat → State → Out) (s : State) : Out :=
  let c := s.dma[n]
  if !dmaOn s || decide (chState s n ≠ 1) || c.drain.isSome || c.shaWaits then .next s
  else if s.dramSize < progAt s n + 16 then .fault .unmappedData
  else
    let w0 := progWord s n 0
    if !kind w0 && (namedBits w0).isSome then .next s
    else if c.moved.isSome || c.fetched then f w0 (progWord s n 1) (progWord s n 2) (progWord s n 3) s
    else if !served n s then .next s
    else
      match engineRead n (progAt s n) s with
      | .error h => .next (engineHeld n h s)
      | .ok t =>
        let t := turnTaken n (outstanding s n) t
        let code := checkCode c w0 (progWord t n 1) (progWord t n 2) (progWord t n 3)
        if code ≠ 0 then .next (startDrain n (.fail code) t)
        else f w0 (progWord t n 1) (progWord t n 2) (progWord t n 3) t

/-- The granules of a read enter the share and the accumulation (R291, R293). -/
def takeGranules (n : Fin 32) (a g : Nat) (s : State) : State :=
  let gs := (List.range g).map (fun i => granuleRead n (a + 32 * i) s)
  let c := s.dma[n]
  pmcEvent 0x091 0 g (setCh n { c with
    fifo := c.fifo ++ gs
    moved := c.moved.map (fun k => k + 32 * g)
    check := c.check.map (fun k => k.add gs.flatten)
    allowance := c.allowance.map (fun x => x - g) } s).draw

/-- Why the next request of channel n's MOVE cannot be made. -/
def moveStop (n : Fin 32) (len : Nat) (s : State) : Option Fault :=
  let c := s.dma[n]
  let r := readReady s n len
  if 0 < r then engineStop false (chSp s n + c.moved.getD 0) (32 * r) s
  else engineStop true (chDp s n + (c.moved.getD 0 - 32 * c.fifo.length)) (32 * writeReady s n len) s

/-- The next request of channel n's MOVE: a read while the share has room, else a write of the oldest granules (R293).
-/
def moveServe (n : Fin 32) (len : Nat) (s : State) : Except Held State :=
  let c := s.dma[n]
  let k := c.moved.getD 0
  let r := readReady s n len
  if 0 < r then
    (engineRead n (chSp s n + k) s).map (fun t => turnTaken n (outstanding s n) (takeGranules n (chSp s n + k) r t))
  else
    let w := writeReady s n len
    let s1 := granuleWrite n (chDp s n + (k - 32 * c.fifo.length)) (c.fifo.take w).flatten s
    .ok (turnTaken n false (setCh n { s1.dma[n] with fifo := c.fifo.drop w } s1))

/-- The source and the destination of a MOVE overlap, or a pointer wraps. -/
def moveWild (src dst len : Nat) : Bool :=
  decide (1099511627776 < src + len) || decide (1099511627776 < dst + len) ||
  (decide (src < dst + len) && decide (dst < src + len))

/-- A MOVE begins: its pointers are loaded (R283). -/
def moveBegin (n : Fin 32) (w0 w1 w2 : Nat) (s : State) : State :=
  let s1 := if bit w0 4 then setSp n (w1 + 4294967296 * bits w0 15 8) s else s
  let s2 := if bit w0 5 then setDp n (w2 + 4294967296 * bits w0 23 16) s1 else s1
  setCh n { s2.dma[n] with moved := some 0 } s2

/-- A MOVE that has written its last granule: SP and DP have advanced by its length (R283). -/
def moveEnd (n : Fin 32) (len : Nat) (s : State) : State :=
  let s1 := setCh n { s.dma[n] with moved := none } s
  chNext n (chPc s n + 1) (setDp n (chDp s n + len) (setSp n (chSp s n + len) s1))

/-- Up to g requests of the MOVE in progress, as long as the engine's rotation comes to the channel (R294). -/
def moveSome (n : Fin 32) (len : Nat) : Nat → State → Out
  | 0, s => .next s
  | g + 1, s =>
    if !served n s then .next s
    else
      match moveStop n len s with
      | some f => .fault f
      | none =>
        match moveServe n len s with
        | .error h => .next (engineHeld n h s)
        | .ok s =>
          if s.dma[n].moved = some len ∧ s.dma[n].fifo = [] then .next (moveEnd n len s) else moveSome n len g s

/-- MOVE: channel n begins or goes on with a MOVE, by at most g requests (R283, R294). -/
def execDmaMove (n : Fin 32) (g : Nat) (s : State) : Out :=
  dmaStep n (fun w0 => w0 % 16 == 1) (fun w0 w1 w2 w3 s =>
    let s := if s.dma[n].moved.isNone then moveBegin n w0 w1 w2 s else s
    if moveWild (chSp s n) (chDp s n) w3 then .fault .dmaForm else moveSome n w3 g s) s

/-! ## Loops, events and check values (R284, R289 to R292) -/

/-- LOOP: opens a loop of count passes (R284). -/
def execDmaLoop (n : Fin 32) (s : State) : Out :=
  dmaStep n (fun w0 => w0 % 16 == 2) (fun _ w1 _ _ s =>
    let i := chPc s n + 1
    .next (chNext n i (setLoops n ((i, w1) :: s.dma[n].loops) s))) s

/-- A signed 32-bit skip added to a pointer modulo 2^40 (R283). -/
def addSkip (p w : Nat) : Nat := toBits 40 ((p : Int) + sext w 32)

/-- ENDL: the skips are added, and the loop goes on while passes remain (R284). -/
def execDmaEndl (n : Fin 32) (s : State) : Out :=
  dmaStep n (fun w0 => w0 % 16 == 3) (fun _ w1 w2 _ s =>
    let s1 := setDp n (addSkip (chDp s n) w2) (setSp n (addSkip (chSp s n) w1) s)
    match s.dma[n].loops with
    | [] => .next s1
    | (i, r) :: ls =>
      if 1 < r then .next (chNext n i (setLoops n ((i, r - 1) :: ls) s1))
      else .next (chNext n (chPc s n + 1) (setLoops n ls s1))) s

/-- WAIT: the channel waits for its flag (R290). -/
def execDmaWait (n : Fin 32) (s : State) : Out :=
  dmaStep n (fun w0 => w0 % 16 == 4) (fun _ _ _ _ s => .next (setChState n 2 s)) s

/-- Event flag e. -/
def eventFlag (s : State) (e : Nat) : Bool := (getReg s (P.DMA_EVENT_SET (e / 32))).getLsbD (e % 32)

/-- Channel n waits at a WAIT: the event it names, and whether it clears it. -/
def waits (s : State) (n : Fin 32) : Bool := decide (chState s n = 2) && s.dma[n].drain.isNone
def waitEvent (s : State) (n : Fin 32) : Nat := bits (progWord s n 0) 13 8
def waitClears (s : State) (n : Fin 32) : Bool := bit (progWord s n 0) 16

/-- Channel n's WAIT is over. -/
def waitOver (n : Fin 32) (s : State) : State := chNext n (chPc s n + 1) (setChState n 1 s)

/-- WAIT_PROCEED: the clock in which a channel, waiting, finds its flag set. Every channel that waits for that flag
without clear proceeds, and of those with clear the lowest-numbered, which clears it, unless the flag is set in the same
clock (R290). -/
def execWaitProceed (p : WaitClock) (s : State) : Out :=
  let n := p.ch
  if !dmaOn s || !waits s n then .next s
  else
    let e := waitEvent s n
    if !eventFlag s e then .next s
    else
      let ks := (List.finRange 32).filter (fun k => waits s k && decide (waitEvent s k = e))
      let s1 := (ks.filter (fun k => !waitClears s k)).foldl (fun t k => waitOver k t) s
      match ks.find? (waitClears s) with
      | none => .next s1
      | some k => .next (waitOver k (setF s1 (P.DMA_EVENT_SET (e / 32)) ⟨e % 32, e % 32⟩ (b2n p.set)))

/-- SIGNAL: the channel drains before the signal takes effect (R287, R289). -/
def execDmaSignal (n : Fin 32) (s : State) : Out :=
  dmaStep n (fun w0 => w0 % 16 == 5) (fun _ _ _ _ s => .next (startDrain n .signal s)) s

/-- SHA-256 units open on channels. -/
def shaOpen (s : State) : Nat :=
  (s.dma.toList.filter (fun c => match c.check with | some (.sha _) => true | _ => false)).length

/-- CRC_BEGIN: an accumulation begins; SHA-256 waits while no unit is free (R291, R292). -/
def execCrcBegin (n : Fin 32) (s : State) : Out :=
  dmaStep n (fun w0 => w0 % 16 == 6 && bits w0 5 4 == 0) (fun w0 _ _ _ s =>
    let c := s.dma[n]
    if !bit w0 6 then .next (chNext n (chPc s n + 1) (setCh n { c with check := some (.crc 0xFFFFFFFF) } s))
    else if 4 ≤ shaOpen s ∨ s.dma.toList.any (fun x => x.shaWaits) then .next (setCh n { c with shaWaits := true } s)
    else .next (chNext n (chPc s n + 1) (setCh n { c with check := some (.sha []) } s))) s

/-- SHA_UNIT_GRANT: a free unit goes to the lowest-numbered channel that waits for one (R292). -/
def execShaUnitGrant (s : State) : Out :=
  if !dmaOn s || decide (4 ≤ shaOpen s) then .next s
  else
    match (List.finRange 32).find? (fun n => s.dma[n].shaWaits) with
    | none => .next s
    | some n =>
      .next (chNext n (chPc s n + 1) (setCh n { s.dma[n] with shaWaits := false, check := some (.sha []) } s))

/-- The granule that a store writes (R291). -/
def Check.granule (k : Check) : List Byte :=
  match k with
  | .crc r => natToLe 4 (~~~r).toNat ++ List.replicate 28 0
  | .sha m => sha256 m

/-- CRC_STORE: the accumulation ends and its granule is written, once the engine's rotation comes to the store
(R291, R294). -/
def execCrcStore (n : Fin 32) (s : State) : Out :=
  dmaStep n (fun w0 => w0 % 16 == 6 && bits w0 5 4 == 1) (fun w0 w1 _ _ s =>
    let a := w1 + 4294967296 * bits w0 15 8
    match s.dma[n].check with
    | none => .next s
    | some k =>
      match engineStop true a 32 s with
      | some f => .fault f
      | none =>
        let s := setCh n { s.dma[n] with fetched := true } s
        if !served n s then .next s
        else
          let s1 := turnTaken n false (granuleWrite n a k.granule s)
          .next (chNext n (chPc s n + 1) (setCh n { s1.dma[n] with check := none, fetched := false } s1))) s

/-- END: the channel drains before it is done (R287, R296). -/
def execEndProgram (n : Fin 32) (s : State) : Out :=
  dmaStep n (fun w0 => w0 % 16 == 7) (fun _ _ _ _ s => .next (startDrain n .finish s)) s

/-! ## Drains (R286, R287, R296) -/

/-- DMA_CH_CTRL.run cleared by the engine. -/
def clearRun (n : Fin 32) (s : State) : State := setF s (P.DMA_CH_CTRL n) F.DMA_CH_CTRL_run 0

/-- The signal in progress takes effect (R289). -/
def signalDo (n : Fin 32) (s : State) : State :=
  let w0 := progWord s n 0
  let s1 := if bit w0 16 then setFlag (bits w0 13 8) s else s
  let s2 := if bit w0 17 then setF s1 (P.DMA_CH_STAT n) F.DMA_CH_STAT_sig 1 else s1
  chNext n (chPc s n + 1) s2

/-- A check has failed (R286). -/
def chFail (n : Fin 32) (code : Nat) (s : State) : State :=
  let s1 := setF (setF s (P.DMA_CH_STAT n) F.DMA_CH_STAT_err 1) (P.DMA_CH_STAT n) F.DMA_CH_STAT_err_code code
  clearRun n (setChState n 5 s1)

/-- What waited for a drain happens (R286, R287, R296). -/
def drainOver (n : Fin 32) (x : Drain) (s : State) : State :=
  let s1 := setCh n { s.dma[n] with drain := none, undrained := [], last := none } s
  let s2 := setCh n { s1.dma[n] with stopDue := false } s1
  match x with
  | .signal => signalDo n s1
  | .finish => clearRun n (setF (setChState n 4 s2) (P.DMA_CH_STAT n) F.DMA_CH_STAT_done 1)
  | .stop => setChState n 3 s1
  | .fail code => chFail n code s2

/-- The read-back of the last granule that channel n has written since its last drain (R287). -/
def readBack (n : Fin 32) (s : State) : Except Held State :=
  match s.dma[n].last with
  | none => .ok s
  | some a => if served n s then (engineRead n a s).map (turnTaken n (outstanding s n)) else .error none

/-- DRAIN_END: every write of the channel has been granted and the read-back returns; what waited for it happens
(R287). -/
def execDrainEnd (n : Fin 32) (s : State) : Out :=
  if !dmaOn s || writesWait n s then .next s
  else
    match s.dma[n].drain with
    | none => .next s
    | some x =>
      match readBack n s with
      | .error h => .next (engineHeld n h s)
      | .ok s => .next (drainOver n x s)

/-! ## Starting, stopping and resuming (R293, R296, R297) -/

/-- Channel k runs with a share that overlaps channel n's. -/
def fifoOverlap (s : State) (n k : Fin 32) : Bool :=
  decide (k ≠ n) && chBusy s k && decide (fifoBase s n < fifoBase s k + fifoSize s k) &&
  decide (fifoBase s k < fifoBase s n + fifoSize s n)

/-- The channel begins to run, its FIFO share checked (R293). -/
def chRun (n : Fin 32) (s : State) : Out :=
  if fifoSize s n = 0 ∨ 128 < fifoBase s n + fifoSize s n then .next (chFail n 7 s)
  else if (List.finRange 32).any (fifoOverlap s n) then .fault .dmaForm
  else
    let s1 := setF s (P.DMA_CH_STAT n) F.DMA_CH_STAT_err_code 0
    .next (setF (setChState n 1 s1) (P.DMA_CH_CTRL n) F.DMA_CH_CTRL_run 1)

/-- A start: the loops, any open accumulation and PC are cleared (R296). -/
def chFresh (n : Fin 32) (s : State) : State :=
  setPc n 0 (setLoops n [] (setCh n { s.dma[n] with check := none, moved := none, fifo := [], stopDue := false, fetched := false } s))

/-- A write of run 0: the instruction in progress completes or the WAIT is abandoned, and the channel drains (R296). -/
def chStop (n : Fin 32) (s : State) : State :=
  if !chBusy s n then s
  else
    let s1 := clearRun n s
    let c := s1.dma[n]
    if c.drain = some .stop then s1
    else if c.drain.isSome ∨ c.moved.isSome ∨ c.shaWaits ∨ c.fetched then setCh n { c with stopDue := true } s1
    else startDrain n .stop s1

/-- A write to DMA_CH_CTRL (R296). -/
def chCtrlWrite (n : Fin 32) (run : Bool) (s : State) : Out :=
  if !run then .next (chStop n s)
  else if chBusy s n then .next s
  else if chState s n = 0 ∨ chState s n = 4 then chRun n (chFresh n s)
  else chRun n s

/-- CHANNEL_START: a write of 1 to run (R296). -/
def execChannelStart (m : Master) (n : Fin 32) (s : State) : Out :=
  gate m true (P.DMA_CH_CTRL n) (chCtrlWrite n true) s

/-- CHANNEL_RESUME: a write of 1 to run (R296). -/
def execChannelResume (m : Master) (n : Fin 32) (s : State) : Out :=
  gate m true (P.DMA_CH_CTRL n) (chCtrlWrite n true) s

/-- CHANNEL_STOP: a write of 0 to run (R296). -/
def execChannelStop (m : Master) (n : Fin 32) (s : State) : Out :=
  gate m true (P.DMA_CH_CTRL n) (chCtrlWrite n false) s

/-! ## Events by register, and the rate windows -/

/-- Flags set by a write of DMA_EVENT_SET word w (R289). -/
def eventSet (w : Nat) (v : Word) (s : State) : State :=
  setReg s (P.DMA_EVENT_SET w) (getReg s (P.DMA_EVENT_SET w) ||| v)

/-- Flags cleared by a write of DMA_EVENT_CLR word w, sets that reach the engine in the same clock standing (R290). -/
def eventClr (w : Nat) (v : EventClear) (s : State) : State :=
  setReg s (P.DMA_EVENT_SET w) ((getReg s (P.DMA_EVENT_SET w) &&& ~~~v.ones) ||| v.sets)

/-- DMA_EVENT_SET: each 1 written sets a flag (R289). -/
def execDmaEventSet (m : Master) (w : Fin 2) (v : Word) (s : State) : Out :=
  gate m true (P.DMA_EVENT_SET w) (fun s => .next (eventSet w v s)) s

/-- DMA_EVENT_CLR: each 1 written clears a flag, one that is set in the same clock apart (R289, R290). -/
def execDmaEventClr (m : Master) (w : Fin 2) (v : EventClear) (s : State) : Out :=
  gate m true (P.DMA_EVENT_CLR w) (fun s => .next (eventClr w v s)) s

/-- RATE_WINDOW: a window of 1,200 CPU clocks begins; every allowance takes its limit (R295). -/
def execRateWindow (s : State) : Out :=
  if !dmaOn s then .next s
  else
    .next { s with dma := Vector.ofFn (fun (n : Fin 32) =>
      let l := getF s (P.DMA_CH_RATE n) F.DMA_CH_RATE_limit
      { s.dma[n] with allowance := if l = 0 then none else some l }) }

/-- DMA_ERR_SUM as read (R298). -/
def errSum (s : State) : Word :=
  BitVec.ofNat 32 (((List.range 32).map (fun (n : Nat) => b2n (onF s (P.DMA_CH_STAT n) F.DMA_CH_STAT_err) <<< n)).sum)

end Sys2Proof.Machine
end

