-- ==== Sys2Proof/Machine/BlitEngine.lean ====
section
/-! DEFINITION. The blit engine (R180 to R192). -/
namespace Sys2Proof.Machine

/-- The engine works: PD28 is on and the CPU clock runs. -/
def bltOn (s : State) : Bool := s.powered 28 && s.cpuClock

/-- The blit engine's state beside its registers, replaced. -/
def setBlt (b : Blit) (s : State) : State := { s with blt := b }

/-- The entries of the ring, head and tail (R180). -/
def ringLen (s : State) : Nat := 2 ^ getF s P.BLT_RING_SIZE F.BLT_RING_SIZE_log2
def bltHead (s : State) : Nat := getF s P.BLT_HEAD F.BLT_HEAD_index
def bltTail (s : State) : Nat := getF s P.BLT_TAIL F.BLT_TAIL_index
def bltBusy (s : State) : Bool := onF s P.BLT_STAT F.BLT_STAT_busy

/-- The address of the entry at the head. -/
def bltEntry (s : State) : Nat := 64 * getF s P.BLT_RING_BASE F.BLT_RING_BASE_base + 64 * bltHead s

/-- Word i of the entry at the head (R184). -/
def bltWord (s : State) (i : Nat) : Nat := (s.word (bltEntry s + 4 * i)).toNat

/-! ## Surfaces (R185, R186) -/

/-- A surface and a rectangle's top-left pixel on it. -/
structure Surface where
  base : Nat
  layout : Nat
  pitch : Nat
  x : Nat
  y : Nat
  deriving DecidableEq, Repr

/-- A command (R184). -/
structure BlitCmd where
  op : Nat
  irq : Bool
  clip : Bool
  premul : Bool
  clips : Nat
  alpha : Nat
  format : Nat
  width : Nat
  height : Nat
  dst : Surface
  src : Surface
  fill : Nat
  clipAt : Nat
  tag : Nat
  deriving DecidableEq, Repr

/-- The command at the head. Bits and words that its table gives as zero are not looked at. DESIGN CHOICE: R184 does not say
what a 1 there does. -/
def blitCmd (s : State) : BlitCmd :=
  let w := bltWord s
  { op := bits (w 0) 3 0
    irq := bit (w 0) 4
    clip := bit (w 0) 5
    premul := bit (w 0) 6
    clips := bits (w 0) 11 8 + 1
    alpha := bits (w 0) 19 12
    format := bits (w 2) 10 8
    width := bits (w 4) 13 0
    height := bits (w 4) 29 16
    dst := ⟨w 1 + 4294967296 * bits (w 2) 7 0, bits (w 2) 12 11, bits (w 2) 31 16, bits (w 3) 12 0, bits (w 3) 28 16⟩
    src := ⟨w 5 + 4294967296 * bits (w 6) 7 0, bits (w 6) 12 11, bits (w 6) 31 16, bits (w 7) 12 0, bits (w 7) 28 16⟩
    fill := w 8 + 4294967296 * bits (w 9) 7 0
    clipAt := w 10 + 4294967296 * bits (w 11) 7 0
    tag := w 12 }

/-- The surfaces of a command that its rules govern: the destination, and the source of a copy or blend. -/
def BlitCmd.surfaces (c : BlitCmd) : List Surface := if c.op = 1 then [c.dst] else [c.dst, c.src]

/-- A surface's base alignment in bytes, and the unit of a linear pitch (R186). -/
def baseUnit (layout format : Nat) : Nat :=
  if layout ≠ 0 ∨ format = 5 then 64 else if format = 3 then 2 else if format = 4 then 4 else 1
def pitchUnit (format : Nat) : Nat := if format = 5 then 320 else 64

/-- The unit of x and width (R186). -/
def xUnit (format : Nat) : Nat := if format = 0 then 4 else if format = 1 then 2 else 1

/-- The err_code of a command's checks, 0 when they hold; several failures give the lowest code (R186, R191). -/
def blitCode (c : BlitCmd) : Nat :=
  if 2 < c.op ∨ c.surfaces.any (fun q => q.layout = 3) then 1
  else if c.width = 0 ∨ 8192 < c.width ∨ c.height = 0 ∨ 8192 < c.height ∨
      c.surfaces.any (fun q => decide (8192 < q.x + c.width) || decide (8192 < q.y + c.height)) then 2
  else if c.surfaces.any (fun q => decide (q.base % baseUnit q.layout c.format ≠ 0)) then 3
  else if c.surfaces.any (fun q => decide (q.pitch = 0) ||
      (decide (q.layout = 0) && decide (q.pitch % pitchUnit c.format ≠ 0))) then 4
  else if c.width % xUnit c.format ≠ 0 ∨ c.surfaces.any (fun q => decide (q.x % xUnit c.format ≠ 0)) then 5
  else if c.op = 2 ∧ c.format ≠ 4 ∧ c.format ≠ 5 then 6
  else if c.clip ∧ c.clipAt % 64 ≠ 0 then 7
  else 0

/-- The bit address of pixel (x, y) of a surface (R185). -/
def pixelBit (q : Surface) (format x y : Nat) : Nat :=
  if q.layout = 0 then 8 * (q.base + y * q.pitch) + x * bpp format
  else
    let ts := if q.layout = 1 then 8 else 16
    let t := y / ts * q.pitch + x / ts
    8 * (q.base + t * (ts * ts * bpp format / 8)) + (y % ts * ts + x % ts) * bpp format

/-- The bytes that hold a pixel: the first, and their number. -/
def pixelBytes (q : Surface) (format x y : Nat) : Nat × Nat :=
  let k := pixelBit q format x y
  (k / 8, (k % 8 + bpp format + 7) / 8)

/-- A pixel's bits. -/
def pixelRead (s : State) (q : Surface) (format x y : Nat) : Nat :=
  let p := pixelBytes q format x y
  (s.readLe p.1 p.2 >>> (pixelBit q format x y % 8)) % 2 ^ bpp format

/-- A pixel written, no other bit changed. -/
def pixelWrite (q : Surface) (format x y v : Nat) (s : State) : State :=
  let p := pixelBytes q format x y
  let k := pixelBit q format x y % 8
  let old := leToNat ((List.range p.2).map (fun i => s.stored (p.1 + i)))
  let keep := old - (old >>> k) % 2 ^ bpp format * 2 ^ k
  s.writeBytes p.1 (natToLe p.2 (keep + v % 2 ^ bpp format * 2 ^ k))

/-! ## Operations (R187, R188) -/

/-- Clip rectangle i covers a destination pixel (R188). -/
def clipCovers (s : State) (at_ x y i : Nat) : Bool :=
  let w0 := (s.word (at_ + 8 * i)).toNat
  let w1 := (s.word (at_ + 8 * i + 4)).toNat
  decide (bits w0 12 0 ≤ x) && decide (x < bits w1 12 0) && decide (bits w0 28 16 ≤ y) && decide (y < bits w1 28 16)

/-- The pixels (k, m) of the rectangle that the command writes. -/
def blitPixels (s : State) (c : BlitCmd) : List (Nat × Nat) :=
  ((List.range c.height).flatMap (fun m => (List.range c.width).map (fun k => (k, m)))).filter (fun p =>
    !c.clip || (List.range c.clips).any (clipCovers s c.clipAt (c.dst.x + p.1) (c.dst.y + p.2)))

/-- min(s.q + mul10(d.q, 1023 − s.a), 1023) (R187). -/
def over10 (sq dq sa : Nat) : Nat := Nat.min (sq + mul10 dq (1023 - sa)) 1023

/-- The stored bits of a blended pixel (R187). -/
def blendStore (format : Nat) (p : Rgba) : Nat :=
  let q := fun (c : Nat) => (c * 255 + 511) / 1023
  if format = 4 then q p.r + q p.g <<< 8 + q p.b <<< 16 + q p.a <<< 24 else p.word

/-- A blend of source bits over destination bits (R187). -/
def blendPixel (c : BlitCmd) (sv dv : Nat) : Nat :=
  let p := expand c.format sv
  let p := if c.premul then p else ⟨mul10 p.r p.a, mul10 p.g p.a, mul10 p.b p.a, p.a⟩
  let p : Rgba := ⟨scale8 p.r c.alpha, scale8 p.g c.alpha, scale8 p.b c.alpha, scale8 p.a c.alpha⟩
  let d := expand c.format dv
  blendStore c.format ⟨over10 p.r d.r p.a, over10 p.g d.g p.a, over10 p.b d.b p.a, over10 p.a d.a p.a⟩

/-- The bits that the command gives its pixel (k, m), from the memory before it (R187, R189). -/
def blitValue (s : State) (c : BlitCmd) (k m : Nat) : Nat :=
  let sv := pixelRead s c.src c.format (c.src.x + k) (c.src.y + m)
  if c.op = 1 then c.fill % 2 ^ bpp c.format
  else if c.op = 0 then sv
  else blendPixel c sv (pixelRead s c.dst c.format (c.dst.x + k) (c.dst.y + m))

/-- The source and the destination are the same surface (R189). -/
def sameSurface (c : BlitCmd) : Bool :=
  decide (c.src.base = c.dst.base ∧ c.src.layout = c.dst.layout ∧ c.src.pitch = c.dst.pitch)

/-- The bytes of a surface's pixels. -/
def surfaceBytes (c : BlitCmd) (q : Surface) (ps : List (Nat × Nat)) : List Nat :=
  ps.flatMap (fun p =>
    let b := pixelBytes q c.format (q.x + p.1) (q.y + p.2)
    (List.range b.2).map (fun i => b.1 + i))

/-- Why the command cannot run: a case that the manual leaves unpredictable. -/
def blitStop (s : State) (c : BlitCmd) (ps : List (Nat × Nat)) : Option Fault :=
  let dst := surfaceBytes c c.dst ps
  let src := if c.op = 1 then [] else surfaceBytes c c.src ps
  if !sameSurface c && src.any (fun a => dst.contains a) then some .blitForm
  else
    match dst.findSome? (fun a => engineStop true a 1 s) with
    | some f => some f
    | none => src.findSome? (fun a => engineStop false a 1 s)

/-- BLT_STAT.dir of a command (R189). -/
def blitDir (c : BlitCmd) : Nat :=
  let overlap := decide (c.src.x < c.dst.x + c.width) && decide (c.dst.x < c.src.x + c.width) &&
    decide (c.src.y < c.dst.y + c.height) && decide (c.dst.y < c.src.y + c.height)
  if c.op ≠ 1 ∧ sameSurface c ∧ overlap then b2n (decide (c.src.y < c.dst.y)) + 2 * b2n (decide (c.src.x < c.dst.x))
  else 0

/-- BLIT_ERROR (R191). -/
def blitError (code : Nat) (s : State) : State :=
  let s1 := setF s P.BLT_CTRL F.BLT_CTRL_run 0
  setF (setF s1 P.BLT_STAT F.BLT_STAT_err 1) P.BLT_STAT F.BLT_STAT_err_code code

/-- The bits of a command's i-th pixel as they were, byte by byte (R190). -/
def pixelOld (s : State) (c : BlitCmd) (i : Nat) (p : Nat × Nat) : List (Nat × OldBits) :=
  let x := c.dst.x + p.1
  let y := c.dst.y + p.2
  let b := pixelBytes c.dst c.format x y
  let mask := (2 ^ bpp c.format - 1) <<< (pixelBit c.dst c.format x y % 8)
  (List.range b.2).map (fun j => (b.1 + j, ⟨i, BitVec.ofNat 8 (mask >>> (8 * j)), s.stored (b.1 + j)⟩))

/-- The bytes that a command writes, as they were (R190). -/
def blitFlux (s : State) (c : BlitCmd) (ps : List (Nat × Nat)) : List (Nat × List OldBits) :=
  (((List.range ps.length).zip ps).flatMap (fun e => pixelOld s c e.1 e.2)).foldl (fun l e =>
    Tab.insert l e.1 (e.2 :: (Tab.find l e.1).getD [])) []

/-- Runs of consecutive bytes, each within one burst, the latest first, with one more byte. -/
def runsAdd (l : List (Nat × Nat)) (a : Nat) : List (Nat × Nat) :=
  match l with
  | [] => [(a, 1)]
  | (b, n) :: r =>
    if b ≤ a ∧ a < b + n then l
    else if a = b + n ∧ a % 64 ≠ 0 then (b, n + 1) :: r
    else (a, 1) :: l

/-- Bytes as runs of consecutive ones, each within one burst. -/
def byteRuns (l : List Nat) : List (Nat × Nat) := (l.foldl runsAdd []).reverse

/-- Bytes in DRAM. -/
def inDram (s : State) (l : List Nat) : List Nat := l.filter (fun a => decide (a < s.dramSize))

/-- The mark of the requests that write a command's pixels. -/
def blitTag : Nat := 1

/-- The command's writes to DRAM, as requests of requester 9, from the state that holds the pixels written (R40, R181). -/
def blitRequests (c : BlitCmd) (ps : List (Nat × Nat)) (s : State) : State :=
  issueAll 9 ((byteRuns (inDram s (surfaceBytes c c.dst ps))).map (fun r =>
    ⟨r.1, some ((List.range r.2).map (fun i => s.stored (r.1 + i))), false, chanOf s r.1,
      arrival s (chanOf s r.1), blitTag⟩)) s

/-- The command's writes: until it completes a reader finds each pixel new or as it was (R187, R190). -/
def blitWrites (c : BlitCmd) (ps : List (Nat × Nat)) (s : State) : State :=
  let t := ps.foldl (fun t p =>
    pixelWrite c.dst c.format (c.dst.x + p.1) (c.dst.y + p.2) (blitValue s c p.1 p.2) t) s
  blitRequests c ps (setBlt ⟨blitFlux s c ps, BitVec.ofNat 32 c.tag, c.irq⟩ t).draw

/-- The bursts of DRAM that a command reads: its source and, when it blends, its destination (R187). -/
def blitBursts (c : BlitCmd) (ps : List (Nat × Nat)) (s : State) : List Nat :=
  (byteRuns (inDram s ((if c.op = 1 then [] else surfaceBytes c c.src ps) ++
    (if c.op = 2 then surfaceBytes c c.dst ps else [])))).map (fun r => r.1 - r.1 % 64)

/-- A command's format; 6 and 7 are no codes of R57, and the manual does not say what a copy or a fill takes for them.
DESIGN CHOICE: one of the codes listed. -/
def blitFormat (s : State) (c : BlitCmd) : BlitCmd :=
  if 6 ≤ c.format ∧ c.op ≠ 2 then { c with format := Config.unlistedCode s.free P.BLT_HEAD % 6 } else c

/-- A command begins: its source is read, its writes go out (R187, R189, R190). -/
def blitRun (c : BlitCmd) (ps : List (Nat × Nat)) (s : State) : State :=
  match dramReads 9 (blitBursts c ps s) s with
  | .error h => park h s
  | .ok s => setF (setF (blitWrites c ps s) P.BLT_STAT F.BLT_STAT_busy 1) P.BLT_STAT F.BLT_STAT_dir (blitDir c)

/-- A command that the engine has read: its checks, its clip list, and its start (R186, R188, R191). A clip list outside DRAM stops. DESIGN CHOICE: R183 has clip
lists read from DRAM, and no rule says what one in the comet store or the audio sample cache does. -/
def blitBegin (c : BlitCmd) (s : State) : Out :=
  if blitCode c ≠ 0 then .next (blitError (blitCode c) s)
  else if c.clip ∧ s.dramSize < c.clipAt + 8 * c.clips then .fault .unmappedData
  else
    match if c.clip then dramRead 9 c.clipAt (8 * c.clips) s else .ok s with
    | .error h => .next (park h s)
    | .ok s =>
      let ps := blitPixels s c
      match blitStop s c ps with
      | some f => .fault f
      | none => .next (blitRun c ps s)

/-- The engine executes the command at the head, when it is of kind op; one of a reserved op fails whatever kind is
named. Its reads of DRAM are requests of requester 9, and it waits while one is not granted (R40, R180, R187, R191). -/
def blitStart (op : Nat) (s : State) : Out :=
  if !bltOn s || !onF s P.BLT_CTRL F.BLT_CTRL_run || bltBusy s || decide (bltHead s = bltTail s) then .next s
  else if s.dramSize < bltEntry s + 64 then .fault .unmappedData
  else if (blitCmd s).op ≠ op ∧ (blitCmd s).op ≤ 2 then .next s
  else
    match dramRead 9 (bltEntry s) 64 s with
    | .error h => .next (park h s)
    | .ok s => blitBegin (blitFormat s (blitCmd s)) s

/-- COPY (R187). -/
def execBltCopy (s : State) : Out := blitStart 0 s

/-- FILL (R187). -/
def execBltFill (s : State) : Out := blitStart 1 s

/-- BLEND (R187). -/
def execBltBlend (s : State) : Out := blitStart 2 s

/-- BLIT_COMPLETE: every write of the command has been granted (R181). -/
def execBlitComplete (s : State) : Out :=
  if !bltOn s || !bltBusy s || tagWaits 9 blitTag s then .next s
  else
    let s1 := setF s P.BLT_HEAD F.BLT_HEAD_index ((bltHead s + 1) % ringLen s)
    let s2 := setReg s1 P.BLT_DONE_TAG s.blt.tag
    let s3 := if s.blt.irq then setF s2 P.BLT_STAT F.BLT_STAT_cmd_done 1 else s2
    .next (pmcEvent 0x090 0 1 (setBlt Blit.reset (setF s3 P.BLT_STAT F.BLT_STAT_busy 0)))

/-! ## Registers (R182, R192) -/

/-- BLT_TAIL_WRITE: a write of BLT_TAIL (R180, R182). -/
def execBltTailWrite (m : Master) (tail : Fin 4096) (s : State) : Out :=
  gate m true P.BLT_TAIL (fun s => .next (setF s P.BLT_TAIL F.BLT_TAIL_index tail.val)) s

/-- BLIT_STOP: BLT_CTRL.run is cleared (R182). -/
def execBlitStop (m : Master) (s : State) : Out :=
  gate m true P.BLT_CTRL (fun s => .next (setF s P.BLT_CTRL F.BLT_CTRL_run 0)) s

/-- A write of v to BLT_RING_SIZE (true) or BLT_RING_BASE: ignored while run or busy is 1, and it sets head and tail to
0 (R192). -/
def ringWrite (size : Bool) (v : Word) (s : State) : Out :=
  if onF s P.BLT_CTRL F.BLT_CTRL_run || bltBusy s then .next s
  else
    let s1 := codeWrite (if size then P.BLT_RING_SIZE else P.BLT_RING_BASE) v s
    .next (setReg (setReg s1 P.BLT_HEAD 0) P.BLT_TAIL 0)

/-- A write of v to BLT_STAT: err_code returns 0 once err is cleared (R192). -/
def bltStatWrite (v : Word) (s : State) : State :=
  let s := tableWrite P.BLT_STAT v s
  if onF s P.BLT_STAT F.BLT_STAT_err then s else setF s P.BLT_STAT F.BLT_STAT_err_code 0

/-- RING_CONFIG: a write of BLT_RING_BASE or BLT_RING_SIZE (R192). -/
def execRingConfig (m : Master) (size : Bool) (v : BitVec 29) (s : State) : Out :=
  gate m true (if size then P.BLT_RING_SIZE else P.BLT_RING_BASE) (ringWrite size (v.setWidth 32)) s

end Sys2Proof.Machine
end

