-- ==== Sys2Proof/Machine/Comets.lean ====
section
/-! DEFINITION. The comet unit's arithmetic (R78 to R87). -/
namespace Sys2Proof.Machine

/-- A comet context: its eight words (R78). -/
abbrev Ctx := List Word

/-- Bits of word w of a context. -/
def ctxF (k : Ctx) (w hi lo : Nat) : Nat := bits (k.getD w 0).toNat hi lo
/-- Signed bits of word w of a context. -/
def ctxS (k : Ctx) (w hi lo : Nat) : Int := sext (ctxF k w hi lo) (hi + 1 - lo)

/-- The contexts that an entry supplies, in order (R80, R105). -/
def entryContexts (s : State) (base : Nat) (e : CEntry) : List Ctx :=
  match e.inline with
  | some ws => [ws]
  | none => (List.range e.run).map (fun i =>
      (List.range 8).map (fun w => s.word (sramBase + 32 * ((e.index + i + base) % 262144) + 4 * w)))

/-- The format, mode and pitch keep R78 and R79. -/
def ctxOk (k : Ctx) : Bool :=
  decide (ctxF k 0 31 29 ≤ 5) && decide (ctxF k 7 9 8 ≤ 2) && decide (1 ≤ ctxF k 3 24 18) &&
  decide (ceilDiv ((ctxF k 3 8 0 + 1) * bpp (ctxF k 0 31 29)) 8 ≤ 64 * ctxF k 3 24 18)

/-- The sample of a comet at pattern pixel (sx, sy), scaled by its alpha; none when transparent (R79, R81). -/
def cometSample (s : State) (d : Fin 4) (k : Ctx) (sx sy : Nat) : Option Rgba :=
  let fmt := ctxF k 0 31 29
  let v := patBits s (64 * ctxF k 2 27 0 + 64 * ctxF k 3 24 18 * sy) (sx * bpp fmt) (bpp fmt)
  match storedPixel s d fmt (ctxF k 3 30 25) (ctxF k 7 20 13) v (decide (ctxF k 1 29 29 = 1)) with
  | none => none
  | some q =>
    let p : Rgba := if ctxF k 1 30 30 = 0 then ⟨mul10 q.r q.a, mul10 q.g q.a, mul10 q.b q.a, q.a⟩ else q
    let al := ctxF k 7 7 0
    some ⟨scale8 p.r al, scale8 p.g al, scale8 p.b al, scale8 p.a al⟩

/-- Component-wise combination. -/
def Rgba.zip (f : Nat → Nat → Nat) (p q : Rgba) : Rgba := ⟨f p.r q.r, f p.g q.g, f p.b q.b, f p.a q.a⟩

/-- A sample blended into a buffer value: RGBA10 with the group above it (R81, R87). -/
def cometBlend (k : Ctx) (q : Rgba) (old : Nat) : Nat :=
  let o := Rgba.of old
  let mode := ctxF k 7 9 8
  let n :=
    if mode = 0 then Rgba.zip (fun a b => Nat.min (a + mul10 b (1023 - q.a)) 1023) q o
    else if mode = 1 then Rgba.zip (fun a b => Nat.min (a + b) 1023) q o
    else q
  n.word + (if mode = 2 ∨ q ≠ Rgba.zero then ctxF k 7 12 10 else old >>> 40) <<< 40

/-- The buffer key of a pixel. -/
def bufKey (x y : Nat) : Nat := 8192 * y + x

/-- dx and dy of a pixel centre in a comet's box, in sixteenths (R81). -/
def cometDx (view : Word) (k : Ctx) (x : Nat) : Int := 16 * (x : Int) + 8 - (ctxS k 0 19 0 - 16 * sext view.toNat 16)
def cometDy (view : Word) (k : Ctx) (y : Nat) : Int :=
  16 * (y : Int) + 8 - (ctxS k 1 19 0 - 16 * sext (view.toNat >>> 16) 16)

/-- Inside the box on an axis of n pixels. -/
def inBox (v : Int) (n : Nat) : Bool := decide (0 ≤ v) && decide (v < ((16 * n : Nat) : Int))

/-- The pattern pixel under a pixel centre, when it lies in the pattern (R81). -/
def cometSource (k : Ctx) (dx dy : Int) : Option (Nat × Nat) :=
  let sx := (ctxS k 4 15 0 * dx + ctxS k 4 31 16 * dy + 4096 * ctxS k 6 15 0) / 65536
  let sy := (ctxS k 5 15 0 * dx + ctxS k 5 31 16 * dy + 4096 * ctxS k 6 31 16) / 65536
  if 0 ≤ sx ∧ sx ≤ (ctxF k 3 8 0 : Int) ∧ 0 ≤ sy ∧ sy ≤ (ctxF k 3 17 9 : Int) then some (sx.toNat, sy.toNat) else none

/-- One comet drawn on line y of an output W columns wide (R81). -/
def cometLine (s : State) (d : Fin 4) (view : Word) (w y : Nat) (buf : Tab Nat) (k : Ctx) : Tab Nat :=
  let dy := cometDy view k y
  if !inBox dy (ctxF k 1 28 20 + 1) then buf
  else
    (List.range w).foldl (fun (t : Tab Nat) x =>
      let dx := cometDx view k x
      if !inBox dx (ctxF k 0 28 20 + 1) then t
      else
        match cometSource k dx dy with
        | none => t
        | some (sx, sy) =>
          match cometSample s d k sx sy with
          | none => t
          | some q => Tab.upd t 0 (bufKey x y) (cometBlend k q)) buf

/-- The clocks that one comet costs on line y (R84). -/
def cometClocks (view : Word) (w y : Nat) (k : Ctx) : Nat :=
  let n := if inBox (cometDy view k y) (ctxF k 1 28 20 + 1) then
    ((List.range w).filter (fun x => inBox (cometDx view k x) (ctxF k 0 28 20 + 1))).length else 0
  4 + ceilDiv n 16

/-- The lines of the pattern cache that one comet reads on line y (R79, R81, R86). -/
def cometPatLines (view : Word) (w y : Nat) (k : Ctx) : List Nat :=
  let n := bpp (ctxF k 0 31 29)
  if !inBox (cometDy view k y) (ctxF k 1 28 20 + 1) then []
  else squeeze ((List.range w).flatMap (fun x =>
    if !inBox (cometDx view k x) (ctxF k 0 28 20 + 1) then []
    else
      match cometSource k (cometDx view k x) (cometDy view k y) with
      | none => []
      | some (sx, sy) => bitLines (64 * ctxF k 2 27 0 + 64 * ctxF k 3 24 18 * sy) (sx * n) n))

/-- The contexts that a band's list draws on line n of the band, in list order (R80, R83). -/
def lineContexts (s : State) (b : Band) (n : Nat) : List Ctx :=
  (b.comets.filter (fun e => decide (e.f ≤ n) && decide (n < e.f + e.n))).flatMap (entryContexts s b.cmtBase)

/-- The band's lines from n on, m of them: the buffer, and the clocks (R81, R84). The palette is the one in effect for
each line (R68, R103). -/
def rasteriseLines (d : Fin 4) (b : Band) (w : Nat) : Nat → Nat → State → Tab Nat → Nat → Tab Nat × Nat
  | 0, _, _, buf, clk => (buf, clk)
  | m + 1, n, s, buf, clk =>
    let s1 := writesAt d b n s
    let ks := lineContexts s1 b n
    rasteriseLines d b w m (n + 1) s1
      (ks.foldl (cometLine s1 d b.cmtView w (b.firstLine + n)) buf)
      (clk + (ks.map (cometClocks b.cmtView w (b.firstLine + n))).sum)

/-- The lines of the pattern cache that line n of a band reads, in list order (R80, R86). -/
def cometLines (s : State) (d : Fin 4) (b : Band) (n : Nat) : List Nat :=
  if b.cmtEnable then
    (lineContexts s b n).flatMap (cometPatLines b.cmtView (canvasW s d) (b.firstLine + n))
  else []

/-- The band's comets in a fresh buffer, with the comet clocks; s holds the state that the band's lines start from
(R81, R88). -/
def rasterise (s : State) (d : Fin 4) (b : Band) : Tab Nat × Nat :=
  if b.cmtEnable then rasteriseLines d b (canvasW s d) b.lines 0 s [] 0 else ([], 0)

/-- Every context that the band draws keeps R78 and R79. -/
def bandContextsOk (s : State) (b : Band) : Bool :=
  !b.cmtEnable || b.comets.all (fun e => (entryContexts s b.cmtBase e).all ctxOk)

end Sys2Proof.Machine
end

