-- ==== Sys2Proof/Machine/Compose.lean ====
section
/-! DEFINITION. The line composer's arithmetic (R128 to R137). -/
namespace Sys2Proof.Machine

/-! ## Composing a canvas pixel -/

/-- The layer alpha and add bit of plane p, the comet layer alpha, and the key of a group (R128 to R130). -/
def lalpha (s : State) (d : Fin 4) (p : Nat) : Nat :=
  bits (getReg s (if p < 4 then P.CMP_LALPHA0 d else P.CMP_LALPHA1 d)).toNat (8 * (p % 4) + 7) (8 * (p % 4))
def addMode (s : State) (d : Fin 4) (p : Nat) : Bool := (getReg s (P.CMP_MODE d)).getLsbD p
def calpha (s : State) (d : Fin 4) : Nat := getF s (P.CMP_MODE d) F.CMP_MODE_calpha
def groupKey (s : State) (d : Fin 4) (g : Nat) : Nat :=
  bits (getReg s (if g < 4 then P.CMP_GKEY0 d else P.CMP_GKEY1 d)).toNat (8 * (g % 4) + 5) (8 * (g % 4))

/-- A layer: its pixel, its alpha factor, whether it adds, and whether it is already premultiplied. -/
structure Layer where
  px : Rgba
  alpha : Nat
  add : Bool
  premul : Bool
  deriving DecidableEq, Repr

/-- A layer blended over d (R129). -/
def blendLayer (d : Rgba) (l : Layer) : Rgba :=
  let p := if l.premul then l.px else ⟨mul10 l.px.r l.px.a, mul10 l.px.g l.px.a, mul10 l.px.b l.px.a, l.px.a⟩
  let q : Rgba := ⟨scale8 p.r l.alpha, scale8 p.g l.alpha, scale8 p.b l.alpha, scale8 p.a l.alpha⟩
  if l.add then Rgba.zip (fun a b => Nat.min (a + b) 1023) d q
  else Rgba.zip (fun a b => Nat.min (b + mul10 a (1023 - q.a)) 1023) d q

/-- A keyed layer put into a list that rises by key. -/
def insertKey (k : Nat) (l : Layer) : List (Nat × Layer) → List (Nat × Layer)
  | [] => [(k, l)]
  | e :: t => if k ≤ e.1 then (k, l) :: e :: t else e :: insertKey k l t

/-- Plane p's layer at a pixel, with its key 8 × prio + p (R128). -/
def planeLayer (s : State) (d : Fin 4) (x y p : Nat) : Nat × Layer :=
  let q := planePixel s d p x y
  (8 * q.2 + p, ⟨q.1, lalpha s d p, addMode s d p, onF s (P.PLN_CTRL d p) F.PLN_CTRL_premul⟩)

/-- The layers in drawing order: the planes by key, the comet pixel before the first plane key that is equal to or
greater than its group's (R128). -/
def layers (s : State) (d : Fin 4) (comet x y : Nat) : List Layer :=
  let planes := (List.range 8).foldl (fun t p => let l := planeLayer s d x y p; insertKey l.1 l.2 t) []
  (insertKey (groupKey s d (comet >>> 40)) ⟨Rgba.of comet, calpha s d, false, true⟩ planes).map (·.2)

/-- The composed canvas pixel over the background (R129). -/
def composePixel (s : State) (d : Fin 4) (comet x y : Nat) : Rgba :=
  let bg := getReg s (P.CMP_BG d)
  (layers s d comet x y).foldl blendLayer ⟨F.CMP_BG_bg_r.get bg, F.CMP_BG_bg_g.get bg, F.CMP_BG_bg_b.get bg, 1023⟩

/-! ## Output pixels (R133, R136) -/

/-- A composed canvas pixel of the rows at hand, with edge replication (R133). -/
def canvasPixel (rows : Tab (List Rgba)) (wc hc : Nat) (c r : Int) : Rgba :=
  (Tab.get rows [] (clampI 0 ((hc : Int) - 1) r).toNat).getD (clampI 0 ((wc : Int) - 1) c).toNat Rgba.zero

/-- The output pixel at column X and line Y (R133). -/
def outputPixel (s : State) (d : Fin 4) (rows : Tab (List Rgba)) (x y : Nat) : Rgba :=
  let set := getF s (P.CMP_OSCALE d) F.CMP_OSCALE_coef_set
  let h := if outHscale s d then
    axisPos (getReg s (P.CMP_OORG_X d)) (getF s (P.CMP_OSTEP_X d) F.CMP_OSTEP_X_step) x else ((x : Int), 0)
  let v := outRow s d y
  let hx := if outHscale s d then some (coefRow s d set false h.2) else none
  let vx := if outVscale s d then some (coefRow s d set true v.2) else none
  let q := filtered (canvasPixel rows (canvasW s d) (canvasH s d)) h.1 (filterRows (outVscale s d) v.1) hx vx
  ⟨q 0, q 1, q 2, 1023⟩

/-- The dither matrix M (R136). -/
def ditherM (y x : Nat) : Nat :=
  ([0, 8, 2, 10, 12, 4, 14, 6, 3, 11, 1, 9, 15, 7, 13, 5].getD (4 * (y % 4) + x % 4) 0)

/-- An 8-bit component with dither (R136). -/
def dither (c x y : Nat) : Nat := (c * 8160 + 1023 * (2 * ditherM y x + 1)) / 32736

/-- The output word of a pixel (R136). -/
def outputWord (out8 : Bool) (q : Rgba) (x y : Nat) : Word :=
  if out8 then BitVec.ofNat 32 (dither q.r x y + (dither q.g x y) <<< 8 + (dither q.b x y) <<< 16)
  else BitVec.ofNat 32 (q.r + q.g <<< 10 + q.b <<< 20)

/-! ## A band's Compose stage -/

/-- What composing carries from line to line: the state in effect, the canvas rows, the clocks so far and those at the
end of each canvas line, per plane the source rows held and the last line's descriptor, and the lines that had to be fetched
again (R73, R74, R103, R137). -/
structure Comp where
  st : State
  rows : List (Nat × List Rgba)
  clocks : Nat
  marks : List (Nat × Nat)
  held : List (List Int)
  desc : List (List Word)
  missed : Nat
  deriving DecidableEq, Repr

/-- The number of rows that a plane's fetcher does not hold for line y (R74). -/
def missingRows (s : State) (d : Fin 4) (p y : Nat) (firstLine : Bool) (held : List Int) (desc : List Word) : Nat :=
  let rows := planeRows s d p y
  if rows.length = 1 then 1
  else if firstLine || decide (desc ≠ planeDesc s d p) then 4
  else (rows.filter (fun r => !held.contains r)).length

/-- The largest fetcher cost of line y among the enabled planes (R137). -/
def lineFetch (c : Comp) (d : Fin 4) (w y : Nat) (firstLine : Bool) : Nat :=
  (List.range 8).foldl (fun n p =>
    if planeOn c.st d p then
      Nat.max n (planeClocks c.st d p w (missingRows c.st d p y firstLine (c.held.getD p []) (c.desc.getD p [])))
    else n) 0

/-- A captured plane probe (R77); a column beyond the canvas is never delivered. -/
def probePlane (d : Fin 4) (y : Nat) (s : State) : State :=
  let w := getReg s (P.PLN_PROBE_POS d)
  if F.PLN_PROBE_POS_arm.on w && decide (F.PLN_PROBE_POS_y.get w = y) &&
      decide (F.PLN_PROBE_POS_x.get w < canvasW s d) then
    let p := F.PLN_PROBE_POS_plane.get w
    let q := planePixel s d p (F.PLN_PROBE_POS_x.get w) y
    let s1 := setReg s (P.PLN_PROBE_LO d) (BitVec.ofNat 32 q.1.word)
    let hi := q.1.word >>> 32 + q.2 <<< 8 + b2n (onF s (P.PLN_CTRL d p) F.PLN_CTRL_premul) <<< 10 + 0x80000000
    setF (setReg s1 (P.PLN_PROBE_HI d) (BitVec.ofNat 32 hi)) (P.PLN_PROBE_POS d) F.PLN_PROBE_POS_arm 0
  else s

/-- The lines of the pattern cache that output line y of plane p reads, map entries first (R73). -/
def planeLines (s : State) (d : Fin 4) (w y : Nat) (p : Fin 8) : List Nat :=
  planeMapLines s d p w y ++ planePatLines s d p w y

/-- The fetchers read the lines of output line y again; those that have left the cache since the walk are fetched and
counted (R73). -/
def readAgain (d : Fin 4) (w y : Nat) : List (Fin 8) → Nat × State → Except Held (Nat × State)
  | [], r => .ok r
  | p :: ps, r => (patAgainAll d p.castSucc (planeLines r.2 d w y p) r).bind (readAgain d w y ps)

/-- Line n of a band composed: its writes take effect, its fetchers read, its pixels are formed, and its clocks counted
(R73, R103, R129, R137). -/
def composeLine (d : Fin 4) (b : Band) (buf : Tab Nat) (w : Nat) (c : Comp) (n : Nat) : Except Held Comp :=
  let y := b.firstLine + n
  (readAgain d w y (List.finRange 8) (c.missed, writesAt d b n c.st)).map (fun r =>
    let s1 := probePlane d y r.2
    let c1 := { c with st := s1 }
    let row := (List.range w).map (fun x => composePixel s1 d (Tab.get buf 0 (bufKey x y)) x y)
    let clk := c.clocks + Nat.max (ceilDiv w 2) (lineFetch c1 d w y (decide (n = 0)))
    { st := s1
      rows := Tab.insert c.rows y row
      clocks := clk
      marks := c.marks ++ [(y, clk)]
      held := (List.range 8).map (fun p => if planeOn s1 d p then planeRows s1 d p y else c.held.getD p [])
      desc := (List.range 8).map (planeDesc s1 d)
      missed := r.1 })

/-- A band composed from the state that its first line starts from, with the kept rows and its comet buffer. -/
def composeLines (d : Fin 4) (b : Band) (buf : Tab Nat) (rows : List (Nat × List Rgba)) (s : State) : Except Held Comp :=
  (List.range b.lines).foldl (fun c n => c.bind (fun c => composeLine d b buf (canvasW s d) c n))
    (.ok ⟨s, rows, 0, [], [], [], 0⟩)

/-- A captured composer probe (R141). -/
def probeOutput (d : Fin 4) (rows : Tab (List Rgba)) (ys : List Nat) (s : State) : State :=
  let w := getReg s (P.CMP_PROBE_POS d)
  let x := F.CMP_PROBE_POS_x.get w
  let y := F.CMP_PROBE_POS_y.get w
  if F.CMP_PROBE_POS_arm.on w && ys.contains y && decide (x < outW s d) then
    let q := outputPixel s d rows x y
    let s1 := setReg s (P.CMP_PROBE_VAL d) (outputWord (onF s (P.CMP_CTRL d) F.CMP_CTRL_out8) q x y)
    let s2 := setReg s1 (P.CMP_PROBE_BLEND d) (BitVec.ofNat 32 (q.r + q.g <<< 10 + q.b <<< 20 + 0x80000000))
    setF s2 (P.CMP_PROBE_POS d) F.CMP_PROBE_POS_arm 0
  else s

/-- The output words of the lines that a band emits (R133, R134, R136). -/
def outputLines (s : State) (d : Fin 4) (rows : Tab (List Rgba)) (ys : List Nat) : List (Nat × List Word) :=
  ys.map (fun y => (y, (List.range (outW s d)).map (fun x =>
    outputWord (onF s (P.CMP_CTRL d) F.CMP_CTRL_out8) (outputPixel s d rows x y) x y)))

/-- The clocks after the start at which each of a band's output lines is completely composed: with the canvas line that
emits it, at two output pixels a clock (R134, R137). DEDUCED: R137 gives a band's total. -/
def lineClocksOf (s : State) (d : Fin 4) (c : Comp) (ys : List Nat) : List (Nat × Nat) :=
  (List.range ys.length).map (fun i =>
    let y := ys.getD i 0
    (y, Nat.max (Tab.get c.marks 0 (emitRow s d y).toNat) (ceilDiv (outW s d * (i + 1)) 2)))

/-- The clocks of a Compose stage without its waits (R137). -/
def composeClocks (s : State) (d : Fin 4) (c : Comp) (n : Nat) : Nat := Nat.max c.clocks (ceilDiv (outW s d * n) 2)

end Sys2Proof.Machine
end

