-- ==== Sys2Proof/Machine/Dram.lean ====
section
/-! DEFINITION. The DRAM arbiter, self-refresh and error correction (chapter 2). -/
namespace Sys2Proof.Machine

/-- Training has completed: the channels are ready, `fair` is 0, and MEM_SR_EXIT follows the rate (R38, R46). -/
def dramTrained (s : State) : State :=
  let s := setReg s P.MEM_STAT (BitVec.ofNat 32 (populated s + 0x100))
  let rate := getF s P.MEM_CFG F.MEM_CFG_rate
  setReg s P.MEM_SR_EXIT (if rate = 2 then 24 else if rate = 1 then 26 else 29)

/-! ## Requests -/

/-- A write of the control or data plane into image content (R21); requester 12, the trust cluster, places the image. -/
def foreignWrite (id a : Nat) (data : Option (List Byte)) (s : State) : Bool :=
  match data with
  | some bs => decide (id ≤ 16) && decide (id ≠ 12) && s.imageIn a bs.length
  | none => false

/-- MEMORY_REQUEST: requester id issues a request for the burst at address a at command clock now; data holds the bytes
of a write. While a request waits at the port the requester stalls (R42, R44). -/
def execMemoryRequest (id : Fin 32) (a : Nat) (data : Option (List (BitVec 8))) (lock : Bool) (now : Nat) (s : State) :
    Out :=
  if !s.powered 36 || !isRequester id || (requester s id).port.isSome then .next s
  else if s.dramSize ≤ a then .fault .unmappedData
  else if foreignWrite id a data s then .fault .imageContentWrite
  else
    let c := chanOf s a
    match (requester s id).opened with
    | some c' => if c' = c then .next (issue id ⟨a, data, lock, c, now, 0⟩ s) else .fault .lockedChannels
    | none => .next (issue id ⟨a, data, lock, c, now, 0⟩ s)

/-! ## Ranks -/

/-- A write of a rank (R48, R49). -/
def rankWrite (id : Nat) (rank : Nat) (s : State) : State :=
  applyRank id (setF s (P.MEM_RANK id) F.MEM_RANK_rank rank)

/-- RANK_WRITE: a write to MEM_RANK of requester id (R48, R49). -/
def execRankWrite (m : Master) (id : Fin 17) (rank : Fin 16) (s : State) : Out :=
  gate m true (P.MEM_RANK id) (fun s => .next (rankWrite id.val rank.val s)) s

/-- A write of n. -/
def arbNWrite (n : Nat) (s : State) : Out := .next (setReg s P.MEM_ARB_CFG (BitVec.ofNat 32 n))

/-- ARB_N_WRITE: a write to MEM_ARB_CFG; with n at or below a channel's fair its next arbitrated grant is a fairness
grant by R46's own comparison (R50). -/
def execArbNWrite (m : Master) (n : Fin 128) (s : State) : Out :=
  gate m true P.MEM_ARB_CFG (fun s => arbNWrite n.val s) s

/-- REFRESH_EMERGENCY: refreshes fall due on channel c; with six owed, refresh becomes an emergency (R45). -/
def execRefreshEmergency (c : Fin 4) (due : Nat) (s : State) : Out :=
  if memServes s && chanReady s c then
    let x := s.mc.chans[c]
    .next (setChannel c { x with owed := x.owed + due, emergency := x.emergency || decide (6 ≤ x.owed + due) } s)
  else .next s

/-- The requests of a locked sequence for channel c discarded, up to and with its release (R51). -/
def dropSequence (c : Nat) : List MemReq → List MemReq
  | [] => []
  | r :: rs => if r.chan = c then (if r.lock then dropSequence c rs else rs) else r :: dropSequence c rs

/-- The release of a locked sequence on channel c has been issued (R44). -/
def released (c : Nat) (l : List MemReq) : Bool := l.any (fun r => decide (r.chan = c) && !r.lock)

/-- WATCHDOG_BITE: a locked sequence has held channel c for MEM_WDOG.limit command clocks (R51). The requester's queue
takes in what waits at its port. -/
def execWatchdogBite (c : Fin 4) (s : State) : Out :=
  let x := s.mc.chans[c]
  match x.owner with
  | none => .next s
  | some id =>
    if memServes s && decide (getF s P.MEM_WDOG F.MEM_WDOG_limit ≤ x.held) then
      let r := requester s id
      let r1 := { r.holding (dropSequence c r.waiting) with
        opened := if released c r.waiting then r.opened else none
        landed := r.landed.filter (fun q => !(q.lock && decide (q.chan = c))) }
      let s2 := setF (setRequester id r1 s) (P.MEM_ARB_STAT c) F.MEM_ARB_STAT_lock_owner id
      let s3 := noteOwner c (setChannel c { s2.mc.chans[c] with owner := none, held := 0, bitten := true } s2)
      .next (raiseTilt 0x0101 (setF (applyRank id s3) P.MEM_INT_STAT F.MEM_INT_STAT_wdog 1))
    else .next s

/-! ## Self-refresh -/

/-- A declared tolerance exceeds the exit time (R53). -/
def tolerates (s : State) (p : Nat) : Bool :=
  decide (getF s P.MEM_SR_EXIT F.MEM_SR_EXIT_exit < bits (getReg s p).toNat 15 0)

/-- Every declared tolerance exceeds the exit time (R52, R53). -/
def allTolerate (s : State) : Bool :=
  (List.range 4).all (fun d => tolerates s (P.MEM_LTR_D d)) && tolerates s P.MEM_LTR_KTL && tolerates s P.MEM_LTR_SW

/-- A request waits in a queue or at a port. -/
def requestWaits (s : State) : Bool := s.mc.reqs.any (fun e => e.2.queue != [] || e.2.port.isSome)

/-- An emergency is due on a channel. -/
def emergencyDue (s : State) : Bool := s.mc.chans.any (fun c => c.emergency)

/-- SELF_REFRESH_ENTRY: the conditions of R53 have held for MEM_SR_CFG.hold. -/
def execSelfRefreshEntry (s : State) : Out :=
  if memServes s && onF s P.MEM_STAT F.MEM_STAT_init_done && onF s P.MEM_SR_CFG F.MEM_SR_CFG_enable &&
      allTolerate s && !requestWaits s && !emergencyDue s && !inSelfRefresh s then
    .next (addF (setF (pmcEvent 0x050 0 1 s) P.MEM_SR_STAT F.MEM_SR_STAT_in_sr (populated s)) P.MEM_SR_STAT F.MEM_SR_STAT_entries 1)
  else .next s

/-- SELF_REFRESH_EXIT: a request has arrived, or a tolerance has fallen to the exit time (R53). -/
def execSelfRefreshExit (s : State) : Out :=
  if inSelfRefresh s && memServes s && (requestWaits s || !allTolerate s) then
    .next (setF s P.MEM_SR_STAT F.MEM_SR_STAT_in_sr 0)
  else .next s

/-! ## Error correction -/

/-- The address of a corrected or recovered error (R55, R56). -/
def noteEcc (a : Nat) (sram : Bool) (s : State) : State := setMc { s.mc with eccAddr := a, eccSram := sram } s

/-- A correction by link ECC (R55). -/
def dramCorrected (a : Nat) (s : State) : State :=
  noteEcc a false (setF (addF (pmcEvent 0x051 0 1 s) P.MEM_ECC_STAT F.MEM_ECC_STAT_dram_ce 1) P.MEM_INT_STAT F.MEM_INT_STAT_dram_ce 1)

/-- READ_RETURN: the oldest granted read of channel c returns (R43, R55). With none under way, a return that is not good
announces that the next read which the channel grants meets a link error: that read does not return within its step. -/
def execReadReturn (c : Fin 4) (e : Ecc) (s : State) : Out :=
  match s.mc.chans[c].flights with
  | [] => .next (if e = .good then s else setChannel c { s.mc.chans[c] with link := true } s)
  | f :: rest =>
    if f.repeating || !memServes s then .next s
    else
      match e with
      | .good => .next (deliver c f rest s)
      | .corrected => .next (dramCorrected f.addr (deliver c f rest s))
      | .bad => .next (setChannel c { s.mc.chans[c] with flights := { f with repeating := true } :: rest } s)

/-- A repeated read delivered and counted (R55). -/
def dramRepeated (c : Fin 4) (f : Flight) (rest : List Flight) (s : State) : State :=
  noteEcc f.addr false
    (setF (addF (deliver c f rest s) P.MEM_ECC_STAT F.MEM_ECC_STAT_dram_retry 1) P.MEM_INT_STAT F.MEM_INT_STAT_dram_retry 1)

/-- DRAM_READ_REPEAT: the repeat of an uncorrectable read: delivered and counted, or tilt (R55). -/
def execDramReadRepeat (c : Fin 4) (e : Ecc) (s : State) : Out :=
  match s.mc.chans[c].flights with
  | [] => .next s
  | f :: rest =>
    if !f.repeating || !memServes s then .next s
    else
      match e with
      | .good => .next (dramRepeated c f rest s)
      | .corrected => .next (dramCorrected f.addr (dramRepeated c f rest s))
      | .bad => .next (raiseTilt 0x0102 (setChannel c { s.mc.chans[c] with flights := rest } s))

/-- A read of MEM_ECC_ADDR_LO: the low bits, and MEM_ECC_ADDR_HI captured. -/
def eccAddrRead (s : State) : Word × State :=
  (BitVec.ofNat 32 s.mc.eccAddr,
    setReg s P.MEM_ECC_ADDR_HI (BitVec.ofNat 32 ((s.mc.eccAddr >>> 32) % 256 + 0x100 * b2n s.mc.eccSram)))

/-- MEM_ECC_ADDR_LO_READ: a read of MEM_ECC_ADDR_LO (R56). -/
def execMemEccAddrLoRead (m : Master) (s : State) : Out :=
  gate m false P.MEM_ECC_ADDR_LO (fun s => let (v, t) := eccAddrRead s; .next { t with rdata := v }) s

end Sys2Proof.Machine
end

