-- ==== Sys2Proof/Machine/Ephemeris.lean ====
section
/-! DEFINITION. The ephemeris sequencer: commits, rewrites, starting and stopping, and taking bands (chapter 5). -/
namespace Sys2Proof.Machine

/-- The composer domain of cluster d is on and the composition clock runs. -/
def compRuns (s : State) (d : Fin 4) : Bool := s.powered (pdComposer d) && !s.pwr.stopped.getLsbD 1

/-! ## Commits (R115) -/

/-- A commit of frame F is accepted: it follows the last commit, and F − S has retired or precedes EPH_FRAME0 (R115). -/
def commitOk (s : State) (d : Fin 4) (frame : Nat) : Bool :=
  decide (frame = frameAdd (getReg s (P.EPH_COMMIT d)).toNat 1) &&
  (retired s d (frameSub frame (ringSlots s d)) ||
    precedes (frameSub frame (ringSlots s d)) (getReg s (P.EPH_FRAME0 d)).toNat)

/-- A write of F to EPH_COMMIT: an accepted commit hands Kettle its cue slot (R115, R196). -/
def commitWrite (d : Fin 4) (v : Word) (s : State) : State :=
  if commitOk s d v.toNat then
    let s1 := setReg s (P.EPH_COMMIT d) v
    handCue d v.toNat (setClu d { s1.clu[d] with headers := s1.clu[d].headers ++ [(v.toNat, none)] } s1)
  else setF s (P.EPH_STAT d) F.EPH_STAT_commit_err 1

/-- COMMIT: a write to EPH_COMMIT of cluster d (R115). -/
def execEphCommit (m : Master) (d : Fin 4) (frame : Word) (s : State) : Out :=
  gate m true (P.EPH_COMMIT d) (fun s => .next (commitWrite d frame s)) s

/-! ## Rewrites (R120 to R122) -/

/-- The overrides pending, EPH_STAT.pending following. -/
def setOverrides (d : Fin 4) (os : List Override) (s : State) : State :=
  setF (setClu d { s.clu[d] with overrides := os } s) (P.EPH_STAT d) F.EPH_STAT_pending os.length

/-- Band b of a committed frame that has not retired has been taken. -/
def bandTaken (s : State) (d : Fin 4) (frame band : Nat) : Bool :=
  decide (frame = s.clu[d].nextFrame) && decide (band < s.clu[d].nextBand)

/-- The outcome of a rewrite of band b of frame F, whose band_count is n (R120). -/
def rewriteOutcome (s : State) (d : Fin 4) (frame n : Nat) (o : Override) : Nat :=
  let os := s.clu[d].overrides
  if n ≤ o.band then 6
  else if bandTaken s d frame o.band then 2
  else if ringFormat s d = 1 ∧ bits o.e3.toNat 9 0 ≠ 0 then 5
  else if 8 ≤ os.length ∧ !os.any (fun p => decide (p.frame = frame) && decide (p.band = o.band)) then 4
  else 1

/-- A decision reported: its outcome, and the count of decisions (R120). -/
def reportRewrite (d : Fin 4) (outcome : Nat) (s : State) : State :=
  let seq := getF s (P.EPH_REWRITE_STAT d) F.EPH_REWRITE_STAT_seq
  setReg s (P.EPH_REWRITE_STAT d) (BitVec.ofNat 32 (outcome + ((seq + 1) % 16) <<< 4))

/-- A rewrite of frame bits f decided, or held while its frame's header is being read (R120). -/
def decideRewrite (d : Fin 4) (f : Nat) (o : Override) (s : State) : State :=
  match s.clu[d].headers.find? (fun h => h.1 % 8388608 = f) with
  | none => reportRewrite d 3 s
  | some (_, none) => setClu d { s.clu[d] with rewrites := s.clu[d].rewrites ++ [(f, o)] } s
  | some (frame, some n) =>
    let out := rewriteOutcome s d frame n o
    let s1 := reportRewrite d out s
    if out = 1 then
      setOverrides d ((s.clu[d].overrides.filter (fun p => !(decide (p.frame = frame) && decide (p.band = o.band)))) ++
        [{ o with frame := frame }]) s1
    else s1

/-- The rewrites that wait, each decided again. -/
def settleRewrites (d : Fin 4) (s : State) : State :=
  s.clu[d].rewrites.foldl (fun t r => decideRewrite d r.1 r.2 t) (setClu d { s.clu[d] with rewrites := [] } s)

/-- A write to EPH_REWRITE: the staged entry for a band of the frame whose number ends in f (R120). -/
def rewriteWrite (d : Fin 4) (f band : Nat) (s : State) : State :=
  decideRewrite d f ⟨0, band, getReg s (P.EPH_RW_E0 d), getReg s (P.EPH_RW_E1 d), getReg s (P.EPH_RW_E2 d),
    getReg s (P.EPH_RW_E3 d)⟩ s

/-- REWRITE: a write to EPH_REWRITE of cluster d (R120). -/
def execEphRewrite (m : Master) (d : Fin 4) (f : BitVec 23) (band : BitVec 9) (s : State) : Out :=
  gate m true (P.EPH_REWRITE d) (fun s => .next (rewriteWrite d f.toNat band.toNat s)) s

/-- The first committed frame whose header has not been read. -/
def unreadHeader (s : State) (d : Fin 4) : Option Nat := (s.clu[d].headers.find? (fun h => h.2 = none)).map (·.1)

/-- HEADER_READ: within 1 µs of a commit the sequencer reads the frame's band_count, as requester d, and decides the
rewrites that waited for it (R40, R120). -/
def execHeaderRead (d : Fin 4) (s : State) : Out :=
  match unreadHeader s d with
  | none => .next s
  | some frame =>
    match if compRuns s d then dramRead d (slotAddr s d frame) 64 s else .error none with
    | .error h => .next (park h s)
    | .ok s =>
      let hs := s.clu[d].headers.map (fun h => if h.1 = frame then (frame, some (hdrCount s d frame)) else h)
      .next (settleRewrites d (setClu d { s.clu[d] with headers := hs } s))

/-! ## Starting and stopping (R108, R123, R124) -/

/-- A write of F to EPH_FRAME0, ignored while the sequencer runs (R123). -/
def frame0Write (d : Fin 4) (v : Word) (s : State) : State :=
  if seqRuns s d then s
  else
    let s1 := setReg s (P.EPH_FRAME0 d) v
    let s2 := setReg (setReg s1 (P.EPH_COMMIT d) (v - 1)) (P.EPH_RETIRED d) (v - 1)
    let s3 := setClu d { s2.clu[d] with headers := [], nextFrame := v.toNat, nextBand := 0 } s2
    settleRewrites d (setOverrides d [] s3)

/-- EPH_FRAME0_WRITE: a write to EPH_FRAME0 of cluster d (R123). -/
def execEphFrame0Write (m : Master) (d : Fin 4) (v : Word) (s : State) : Out :=
  gate m true (P.EPH_FRAME0 d) (fun s => .next (frame0Write d v s)) s

/-- EPH_CAPS advertises the format (R108). -/
def advertised (s : State) (d : Fin 4) (fmt : Nat) : Bool :=
  decide (1 ≤ fmt) && decide (fmt ≤ 8) && (getReg s (P.EPH_CAPS d)).getLsbD (fmt - 1)

/-- A cluster at a start with frame F, in composition clock x: the pipeline is empty, the carry table too (R123, R146,
R155, R170). -/
def Cluster.started (c : Cluster) (frame x : Nat) : Cluster :=
  { c.halt with
    nextFrame := frame
    nextBand := 0
    first := frame
    runAt := x
    r0 := none
    begun := []
    ticks := 0
    t := x
    done := x
    nextSlot := 0
    rows := []
    carry := []
    lateSeen := []
    frames := c.frames.filter (fun f => f.decided = f.count) }

/-- The sequencer starts with band 0 of EPH_FRAME0; an uncommitted first frame starves the Record stage at once, and a
start on Kettle's timebase cluster discards its cue slots (R119, R123, R199). EPH_POS.band and EPH_DONE.band keep what the
run before left until this run's first band. DESIGN CHOICE: R127 does not say whether its 0x1FF before the first band counts
from this start. -/
def startSequencer (d : Fin 4) (s : State) : State :=
  let frame := (getReg s (P.EPH_FRAME0 d)).toNat
  let s := setF (setF s (P.EPH_CTRL d) F.EPH_CTRL_run 1) (P.EPH_STAT d) F.EPH_STAT_running 1
  let s := setClu d (s.clu[d].started frame s.clock) s
  let s := if committed s d frame then s else setF s (P.EPH_STAT d) F.EPH_STAT_starve 1
  dropCues d s

/-- A start with run set: refused after tilt and for a format that is not advertised (R108, R123, R469). -/
def tryStart (d : Fin 4) (s : State) : Out :=
  if s.tilted then .next s
  else if !advertised s d (ringFormat s d) then .next (setF s (P.EPH_STAT d) F.EPH_STAT_fmt_refused 1)
  else if modeOf s d = 0 then .fault .sequencerDark
  else .next (startSequencer d s)

/-- A stop of cluster d begins: a Record stage that waited for a band waits no longer (R119, R124, R148). -/
def stopCluster (d : Fin 4) (s : State) : State :=
  let c := s.clu[d]
  setClu d { c with
    stopping := true
    done := if c.ticks ≠ 0 ∧ c.record = none then Nat.max c.done s.clock else c.done } s

/-- A write of EPH_CTRL. While the sequencer runs only run is looked at, and while it stops not even that (R123, R124). -/
def ephCtrlWrite (d : Fin 4) (v : Word) (s : State) : Out :=
  if seqRuns s d then
    if s.clu[d].stopping || F.EPH_CTRL_run.on v then .next s
    else .next (setF (stopCluster d s) (P.EPH_CTRL d) F.EPH_CTRL_run 0)
  else
    let s1 := tableWrite (P.EPH_CTRL d) (F.EPH_CTRL_run.put 0 v) s
    if F.EPH_CTRL_run.on v then tryStart d s1 else .next s1

/-- SEQUENCER_START: EPH_CTRL written with run set; v holds its other fields (R123). -/
def execSequencerStart (m : Master) (d : Fin 4) (v : Word) (s : State) : Out :=
  gate m true (P.EPH_CTRL d) (fun s =>
    if reservedOk (P.EPH_CTRL d) v then ephCtrlWrite d (v ||| 1) s else .fault .reservedBit) s

/-- SEQUENCER_STOP: EPH_CTRL written with run clear; v holds its other fields (R124). -/
def execSequencerStop (m : Master) (d : Fin 4) (v : Word) (s : State) : Out :=
  gate m true (P.EPH_CTRL d) (fun s =>
    if reservedOk (P.EPH_CTRL d) v then ephCtrlWrite d (v &&& ~~~1) s else .fault .reservedBit) s

/-- Every band taken has passed the four stages: nothing is taken, staged, to be sent or being sent (R124). -/
def drained (c : Cluster) : Bool :=
  c.taken == [] && c.record == none && c.fetch == none && c.compose == none && c.toSend == [] && c.sending == none &&
  c.raster == []

/-- SEQUENCER_STOPPED: a stop has completed, and EPH_STAT.running reads 0 (R124). -/
def execSequencerStopped (d : Fin 4) (s : State) : Out :=
  if seqRuns s d && s.clu[d].stopping && drained s.clu[d] then
    .next (setF (setClu d { s.clu[d] with stopping := false, send := none } s) (P.EPH_STAT d) F.EPH_STAT_running 0)
  else .next s

/-! ## Taking (R109 to R111) -/

/-- The bytes of a band's record. -/
def Band.bytes (b : Band) : Nat := 4 * b.words.length

/-- The bytes of the stream buffer in use: taken bands, and those whose Compose stage has not ended (R111). -/
def streamUsed (c : Cluster) : Nat :=
  ((c.taken ++ c.record.toList ++ c.fetch.toList ++ c.compose.toList.filter (fun b => !b.ended)).map Band.bytes).sum

/-- The band that comes next lies no more than window bands after the one in the Record stage (R110). While no band has
entered Record, the first window + 1 bands of the sequence are let in, as if band 0 stood there. DESIGN CHOICE. -/
def inWindow (s : State) (d : Fin 4) : Bool :=
  let w := getF s (P.EPH_CTRL d) F.EPH_CTRL_window
  decide (s.clu[d].taken.length < (if s.clu[d].ticks = 0 then w + 1 else w))

/-- EPH_STAT.tilt_cause set, and tilt raised (R109, R467). -/
def headerTilt (d : Fin 4) (cause : Nat) (s : State) : State :=
  raiseTilt (0x1000 + 0x100 * d.val + cause) (setF s (P.EPH_STAT d) F.EPH_STAT_tilt_cause cause)

/-- The cause of a header that fails its checks; 0 when it passes (R109). -/
def headerCause (s : State) (d : Fin 4) (frame : Nat) : Nat :=
  let w := hdrWord s d frame 0
  if bits w 7 0 ≠ ringFormat s d then 1
  else if bits w 11 10 ≠ d.val then 2
  else if hdrWord s d frame 1 ≠ frame then 3
  else 0

/-- A band from its entry: its record patched, with the frame's height and band count (R106, R110). -/
def bandOf (s : State) (d : Fin 4) (frame band height count : Nat) (e : Override) : Band where
  frame := frame
  band := band
  entry := e
  words := patchedWords s d e
  height := height
  count := count
  fresh := decide (frame = s.clu[d].first)
  stamp := s.clock
  skip := false
  cmtEnable := false
  cmtBase := 0
  cmtView := 0
  ended := false

/-- cmt_load: the comet-unit registers from words 4 and 5 of the record (R99, R112); while the unit's domain is off they
take no write (R12). -/
def cmtLoad (d : Fin 4) (b : Band) (s : State) : State :=
  if b.cmtLoad && s.powered (pdComet d) then
    let s1 := setF s (P.CMT_CTX_BASE d) F.CMT_CTX_BASE_base (bits (b.word 4) 17 0)
    let s2 := setF s1 (P.CMT_CTRL d) F.CMT_CTRL_enable (bits (b.word 4) 18 18)
    setReg s2 (P.CMT_VIEW d) (BitVec.ofNat 32 (b.word 5))
  else s

/-- The band is skipped: marked unchanged, in selective update, not in the first frame after a start, and its number has
a carry-table entry (R34, R113, R155, R170). -/
def skips (s : State) (d : Fin 4) (b : Band) : Bool :=
  b.unchanged && !b.fresh && decide (modeOf s d = 1) && !rasterMode s d && (Tab.find s.clu[d].carry b.band).isSome

/-- The beam has entered output line y of a frame's refresh. -/
def beamEntered (s : State) (d : Fin 4) (frame y : Nat) : Bool :=
  match frameRefresh s d frame with
  | none => false
  | some r => decide (r < (beamOf s d).refresh) || (decide (r = (beamOf s d).refresh) && decide (y ≤ (beamOf s d).line))

/-- The first band of a frame opens the frame's work at the digest unit. -/
def openFrame (d : Fin 4) (b : Band) (s : State) : State :=
  if b.band = 0 then
    setClu d { s.clu[d] with frames := s.clu[d].frames ++ [⟨b.frame, b.count, b.fresh, [], 0, 0, 0, none, []⟩] } s
  else s

/-- A late band counted on output d, once (R150). -/
def countLate (frame band : Nat) (s : State) (d : Fin 4) : State :=
  if s.clu[d].lateSeen.contains (frame, band) then s
  else
    let s := setClu d { s.clu[d] with lateSeen := ((frame, band) :: s.clu[d].lateSeen).take 1024 } s
    setF (addF (pmcEvent (0x060 + d.val) 0 1 s) (P.DSP_CNT d) F.DSP_CNT_late 1) (P.DSP_STAT d) F.DSP_STAT_late 1

/-- A late band counted on both halves of a ganged pair, whether or not the other half sends its own (R150, R165). -/
def countPair (d : Fin 4) (frame band : Nat) (s : State) : State :=
  (group s (leader s d)).foldl (countLate frame band) s

/-- In the fallback raster the lateness of a band with output lines stands open from Record on; it is late at once when
the beam has entered its first line (R150, R157). -/
def openRaster (d : Fin 4) (b : Band) (s : State) : State :=
  if rasterMode s d && b.out s d != [] then
    let late := beamEntered s d b.frame (b.out0 s d)
    let r : RasterBand := ⟨b.frame, b.band, b.out0 s d, b.out1 s d, late⟩
    let s := setClu d { s.clu[d] with raster := s.clu[d].raster ++ [r] } s
    if late then countPair d b.frame b.band s else s
  else s

/-- A band enters the Record stage: EPH_POS follows, cmt_load applies, and in the fallback raster its lateness stands
open (R112, R127, R157). Whether the carry table lets it be skipped is decided here, for all four stages: R113 names no
stage. DEDUCED: R113's skip covers the fetchers, which come next. -/
def enterRecord (d : Fin 4) (b : Band) (s : State) : State :=
  let b := { b with skip := skips s d b, ended := true }
  let s := openFrame d b (cmtLoad d b (setReg s (P.EPH_POS d) b.pos))
  let s := openRaster d b s
  setClu d { s.clu[d] with record := some b, done := Nat.max s.clu[d].done b.stamp } s

/-- The band leaves the ring for the stream buffer; the last band of a frame retires it (R110, R117, R122). -/
def noteTake (d : Fin 4) (b : Band) (s : State) : State :=
  let os := s.clu[d].overrides.filter (fun p => !(decide (p.frame = b.frame) && decide (p.band = b.band)))
  let s := setOverrides d os s
  if b.isLast then
    let s := setReg s (P.EPH_RETIRED d) (BitVec.ofNat 32 b.frame)
    setClu d { s.clu[d] with
      headers := s.clu[d].headers.filter (fun h => h.1 ≠ b.frame)
      nextFrame := frameAdd b.frame 1
      nextBand := 0 } s
  else setClu d { s.clu[d] with nextBand := b.band + 1 } s

/-- Lines sent as zero counted (R157). -/
def countUnderrun (d : Fin 4) (n : Nat) (s : State) : State :=
  if n = 0 then s
  else setF (addF s (P.DSP_ERR_CNT d) F.DSP_ERR_CNT_underrun n) (P.DSP_STAT d) F.DSP_STAT_underrun 1

/-- The active lines that the beam has entered since line 0 of refresh r. -/
def linesSince (s : State) (d : Fin 4) (r : Nat) : Nat :=
  let b := beamOf s d
  if r ≤ b.refresh then (b.refresh - r) * activeH s d + Nat.min (b.line + 1) (activeH s d) else 0

/-- With frame c the last commit and EPH_FRAME0 the first, frame F was committed (R504). -/
def committedAt (s : State) (d : Fin 4) (c frame : Nat) : Bool :=
  (decide (frame = c) || precedes frame c) && !precedes frame (getReg s (P.EPH_FRAME0 d)).toNat

/-- Refresh q, in which EPH_COMMIT read c when the beam began it, began a frame whose lookahead was not committed; r is R0
(R118). -/
def lookaheadMissed (s : State) (d : Fin 4) (r q c : Nat) : Bool :=
  decide (r ≤ q) &&
  !committedAt s d c (frameAdd (frameAdd s.clu[d].first (q - r)) (getF s (P.EPH_CTRL d) F.EPH_CTRL_lookahead))

/-- The display output assigns the first frame to its refresh, once band 0 is known. Of that refresh and later ones that
the beam has begun by then, the lookahead is judged by the commits of their beginning, and the lines that the fallback
raster has sent as zero underran (R118, R146, R157). -/
def assignFirst (d : Fin 4) (b : Band) (s : State) : State :=
  if b.band = 0 ∧ b.frame = s.clu[d].first ∧ s.clu[d].r0 = none then
    match firstRefresh s d b with
    | some r =>
      let miss := s.clu[d].begun.any (fun q => lookaheadMissed s d r q.1 q.2)
      let s := setClu d { s.clu[d] with r0 := some r, begun := [] } s
      let s := if miss then setF s (P.EPH_STAT d) F.EPH_STAT_lookahead_miss 1 else s
      if rasterMode s d then countUnderrun d (linesSince s d r) s else s
    | none => s
  else s

/-- The taken band waits for its tick; a Record stage that starves takes it in at once (R110, R119). -/
def queueBand (d : Fin 4) (b : Band) (s : State) : State :=
  if s.clu[d].ticks ≠ 0 ∧ s.clu[d].record = none ∧ s.clu[d].taken = [] then enterRecord d b s
  else setClu d { s.clu[d] with taken := s.clu[d].taken ++ [b] } s

/-- The sequencer's DRAM reads of a band's entry, record and patch list, as requester d (R40, R110); an override stands in
for the entry. -/
def takeReads (d : Fin 4) (frame band : Nat) (e : Override) (s : State) : Except Held State :=
  let stands := s.clu[d].overrides.any (fun o => decide (o.frame = frame) && decide (o.band = band))
  let n := if ringFormat s d = 1 then 8 else 16
  let s1 := if stands then .ok s else dramRead d (slotAddr s d frame + 64 + n * band) n s
  (s1.bind (dramRead d (64 * bits e.e0.toNat 28 0) (64 * entryLen e))).bind
    (dramRead d (64 * bits e.e2.toNat 28 0) (8 * (entryPatches s d e).length))

/-- The take of a band whose frame header has been judged (R110). -/
def takeBand (d : Fin 4) (frame band height count : Nat) (s : State) : Out :=
  let e := takeEntry s d frame band
  if !entryForms s d e then .fault .ephemerisForm
  else
    match takeReads d frame band e s with
    | .error h => .next (park h s)
    | .ok s =>
      let b := bandOf s d frame band height count e
      if b.format ≠ ringFormat s d then .next (headerTilt d 4 s)
      else if !recordForm s d b (bits (hdrWord s d frame 2) 12 0) then .fault .ephemerisForm
      else
        let t := queueBand d b (assignFirst d b (noteTake d b s))
        .next (setClu d { t.clu[d] with streamed := true } t)

/-- The take of band 0 of a frame, whose header is read and judged first (R109, R110). -/
def takeFirst (d : Fin 4) (frame : Nat) (s : State) : Out :=
  match dramRead d (slotAddr s d frame) 64 s with
  | .error h => .next (park h s)
  | .ok t =>
    let cause := headerCause t d frame
    if cause ≠ 0 then .next (headerTilt d cause t)
    else if !headerForm t d frame then .fault .ephemerisForm
    else
      let n := hdrCount t d frame
      let h := hdrHeight t d frame
      takeBand d frame 0 h n (setClu d { t.clu[d] with hdrCount := n, hdrHeight := h } t)

/-- The stream buffer has room for the record of the next band (R110). -/
def streamRoom (s : State) (d : Fin 4) : Bool :=
  decide (streamUsed s.clu[d] + 64 * entryLen (takeEntry s d s.clu[d].nextFrame s.clu[d].nextBand) ≤ 1048576)

/-- TAKE: the sequencer of cluster d takes the next band when its frame is committed, it lies within the window and the
stream buffer has room; band 0 first has its frame header checked (R109, R110). -/
def execEphTake (d : Fin 4) (s : State) : Out :=
  let c := s.clu[d]
  if !seqRuns s d || c.stopping || s.tilted || !compRuns s d || !committed s d c.nextFrame || !inWindow s d ||
      !streamRoom s d then .next s
  else if c.nextBand ≠ 0 then takeBand d c.nextFrame c.nextBand c.hdrHeight c.hdrCount s
  else takeFirst d c.nextFrame s

end Sys2Proof.Machine
end

