-- ==== Sys2Proof/Machine/Pipeline.lean ====
section
/-! DEFINITION. The band pipeline: ticks, the comet unit's and the composer's stages (chapters 4, 6 and 7). -/
namespace Sys2Proof.Machine

/-! ## Partitions (R88, R112, R138) -/

/-- The first unit and the size of partition n. -/
def partBase (s : State) (n : Nat) : Nat := getF s (P.CMP_PART n) F.CMP_PART_base
def partSize (s : State) (n : Nat) : Nat := getF s (P.CMP_PART n) F.CMP_PART_size
def partValid (s : State) (n : Nat) : Bool := onF s (P.CMP_PART n) F.CMP_PART_valid

/-- Partition n lies in the pool and shares no unit with another valid one (R138). -/
def partAlone (s : State) (n : Nat) : Bool :=
  decide (partBase s n + partSize s n ≤ 128) &&
  (List.range 8).all (fun m => decide (m = n) || !partValid s m ||
    decide (partBase s m + partSize s m ≤ partBase s n) || decide (partBase s n + partSize s n ≤ partBase s m))

/-- The bytes of a composed slot and of a comet band buffer for band height h (R87, R134, R138). -/
def slotBytesOf (s : State) (d : Fin 4) (h : Nat) : Nat :=
  4 * outW s d * (if outVscale s d then ceilDiv ((h + 2) * 65536) (getF s (P.CMP_OSTEP_Y d) F.CMP_OSTEP_Y_step) else h)
def bufBytesOf (s : State) (d : Fin 4) (h : Nat) : Nat := 8 * canvasW s d * h

/-- Partition n holds two slots and k comet band buffers of height h. -/
def partHolds (s : State) (d : Fin 4) (n h k : Nat) : Bool :=
  decide (2 * slotBytesOf s d h + k * bufBytesOf s d h ≤ 65536 * partSize s n)

/-- The first byte of partition n (R138). -/
def partAddr (s : State) (n : Nat) : Nat := 0x8002000000 + 0x10000 * partBase s n

/-- The first bytes of composed slot i and of comet band buffer i of a band's partition (R138). Their contents stand in
Cluster.slots and Cluster.bufs: no access reaches the pool's bytes (R24). -/
def slotAddrOf (s : State) (d : Fin 4) (b : Band) (i : Nat) : Nat := partAddr s b.part + i * slotBytesOf s d b.height
def bufAddrOf (s : State) (d : Fin 4) (b : Band) (i : Nat) : Nat :=
  partAddr s b.part + 2 * slotBytesOf s d b.height + i * bufBytesOf s d b.height

/-- The comet band buffer that a band takes: the first of its partition's that no band holds. -/
def freeBuf (s : State) (d : Fin 4) (b : Band) : CometBuf :=
  let a := bufAddrOf s d b 0
  ⟨b.frame, b.band, if s.clu[d].bufs.any (fun z => z.addr = a) then bufAddrOf s d b 1 else a, bufBytesOf s d b.height, []⟩

/-- The number of comet band buffers of the band's partition (R88). -/
def bufCount (s : State) (d : Fin 4) (b : Band) : Nat := if partHolds s d b.part b.height 2 then 2 else 1

/-- The band's partition is one that the manual allows. -/
def partOk (s : State) (d : Fin 4) (b : Band) : Bool := partHolds s d b.part b.height 1 && partAlone s b.part

/-! ## Frames under way -/

/-- The work of a frame changed. -/
def onFrame (d : Fin 4) (frame : Nat) (f : FrameWork → FrameWork) (s : State) : State :=
  setClu d { s.clu[d] with frames := s.clu[d].frames.map (fun w => if w.frame = frame then f w else w) } s

/-- A band's lateness decided (R506). -/
def decideLate (d : Fin 4) (frame : Nat) (late : Bool) (s : State) : State :=
  onFrame d frame (fun w => { w with decided := w.decided + 1, late := w.late + b2n late }) s

/-- A band digest known for its frame; carried ones count (R169, R170). -/
def addDigest (d : Fin 4) (frame band : Nat) (h : List Byte) (carried : Bool) (s : State) : State :=
  onFrame d frame (fun w => { w with digests := Tab.insert w.digests band h, carried := w.carried + b2n carried }) s

/-! ## Writeback (R139, R140) -/

/-- The mark of a band's writeback requests. -/
def wbTag (frame band : Nat) : Nat := 512 * (frame + 1) + band

/-- Writes of frame F wait to be granted (R140). -/
def wbWaits (s : State) (d : Fin 4) (frame : Nat) : Bool :=
  (requester s (13 + d.val)).waiting.any (fun r => r.tag / 512 == frame + 1)

/-- The writeback still has writes of a slot's band to issue (R139). -/
def wbHolds (s : State) (d : Fin 4) (z : Slot) : Bool :=
  (requester s (13 + d.val)).backlog.any (fun r => r.tag == wbTag z.frame z.band)

/-- CMP_WB_DONE follows the frames that are over, in order, as their writes have been granted (R140); fuel bounds their
number. -/
def settleWb (d : Fin 4) : Nat → State → State
  | 0, s => s
  | n + 1, s =>
    match s.clu[d].wbPend with
    | f :: fs =>
      if wbWaits s d f then s
      else settleWb d n (setReg (setClu d { s.clu[d] with wbPend := fs } s) (P.CMP_WB_DONE d) (BitVec.ofNat 32 f))
    | [] => s

/-- A frame's last band is over. -/
def frameOver (d : Fin 4) (frame : Nat) (s : State) : State :=
  let s := setClu d { s.clu[d] with wbPend := s.clu[d].wbPend ++ [frame] } s
  settleWb d s.clu[d].wbPend.length s

/-- A band's Compose stage is over: EPH_DONE, and for a frame's last band CMP_WB_DONE once its writes have been granted
(R127, R140). -/
def composeDone (d : Fin 4) (b : Band) (s : State) : State :=
  let s := setReg s (P.EPH_DONE d) b.pos
  if b.isLast then frameOver d b.frame s else s

/-- The composed slots of cluster d that free once the output, the digest lane and the writeback have done with them
(R139); x: the clock of a writeback that has just issued a slot's last write, else 0. -/
def freeSlots (d : Fin 4) (x : Nat) (s : State) : State :=
  (List.finRange 2).foldl (fun t i =>
    match t.clu[d].slots[i] with
    | some z =>
      if z.sent && z.hashed && !wbHolds t d z then
        setClu d { t.clu[d] with
          slots := t.clu[d].slots.set i none
          slotFree := t.clu[d].slotFree.set i (Nat.max z.freeAt x) } t
      else t
    | none => t) s

/-- What the writebacks of the four clusters make of a slot boundary (R139, R140). -/
def wbFollow (s : State) : State :=
  (List.finRange 4).foldl (fun t d => settleWb d t.clu[d].wbPend.length (freeSlots d t.clock t)) s

/-- ARBITRATION: a slot boundary of channel c (R44 to R46); a writeback whose writes have been issued or granted goes on. -/
def execArbitration (c : Fin 4) (clocks : Nat) (s : State) : Out :=
  if memServes s && chanReady s c && !inSelfRefresh s then .next (wbFollow (slot c clocks s)) else .next s

/-! ## Ticks (R148, R505) -/

/-- The saturating word of a 24-bit clock count. -/
def sat24 (n : Nat) : Word := BitVec.ofNat 32 (Nat.min n 0xFFFFFF)

/-- The nominal period of a band: nb × lc. -/
def period (s : State) (d : Fin 4) (b : Band) : Nat := b.nb s d * lineClocks s d

/-- m nominal periods before a band's deadline (R505). -/
def sigmaBefore (s : State) (d : Fin 4) (b : Band) (m : Nat) : Option Nat :=
  (sigmaOf s d b).map (fun x => x - m * period s d b)

/-- The clock before which the next tick does not fall, from the deadline that R148 and R505 look at; none while there
is no band to tick for. -/
def tickSigma (s : State) (d : Fin 4) : Option Nat :=
  let c := s.clu[d]
  if c.ticks = 0 then
    match c.taken with
    | b :: _ => (sigmaBefore s d b 3).map (fun x => Nat.max x b.stamp)
    | [] => none
  else if c.ticks = 1 then c.record.bind (fun b => sigmaBefore s d b 2)
  else if c.ticks = 2 then c.fetch.bind (fun b => sigmaBefore s d b 1)
  else match c.compose with
    | some b => sigmaOf s d b
    | none => if c.fetch.isSome || c.record.isSome then some c.t else none

/-- pmin of the latest tick: floor_pct percent of the nominal period of the band that entered Send at it (R148). -/
def pmin (s : State) (d : Fin 4) : Nat :=
  match s.clu[d].send with
  | some b => ceilDiv (getF s (P.DSP_PACE (leader s d)) F.DSP_PACE_floor_pct * period s d b) 100
  | none => 0

/-- The Record stage waits for a band. -/
def recordWaits (c : Cluster) : Bool := decide (c.ticks ≠ 0) && c.record == none && !c.stopping

/-- The walks of the eight fetchers are over (R73). -/
def walksDone (c : Cluster) : Bool := (List.finRange 8).all (fun p => c.walks[p.castSucc].done)

/-- The Record, Fetch and Compose work of the latest tick has ended (R148). -/
def workEnded (c : Cluster) : Bool :=
  !recordWaits c && c.fetch.all (fun b => b.ended) && walksDone c && c.compose.all (fun b => b.ended)

/-- The clock of the cluster's next tick by its own pipeline, once its work has ended (R148). -/
def nextTick (s : State) (d : Fin 4) : Option Nat :=
  if workEnded s.clu[d] then
    (tickSigma s d).map (fun x => Nat.max (Nat.max x (s.clu[d].t + pmin s d)) s.clu[d].done)
  else none

/-- The deadline that the lag of the cluster's next tick counts from: that of the band that enters Send, and before band
0's Send that which R505 gives for the tick; none for a tick to which the rules give none (R148, R505). -/
def lagSigma (s : State) (d : Fin 4) : Option Nat :=
  let c := s.clu[d]
  if c.ticks = 1 then c.record.bind (fun b => sigmaBefore s d b 2)
  else if c.ticks = 2 then c.fetch.bind (fun b => sigmaBefore s d b 1)
  else c.compose.bind (fun b => sigmaOf s d b)

/-- DSP_LAG and DSP_LAG_MAX after a tick at clock t whose deadline was x (R148, R166). -/
def noteLag (d : Fin 4) (t : Nat) (x : Option Nat) (s : State) : State :=
  match x with
  | none => s
  | some x =>
    if s.powered (pdOutput d) then
      let lag := sat24 (t - x)
      let s := setReg s (P.DSP_LAG d) lag
      if (getReg s (P.DSP_LAG_MAX d)).toNat < lag.toNat then setReg s (P.DSP_LAG_MAX d) lag else s
    else s

/-- The writeback registers as band 0 of a frame, skipped or not, finds them when its Compose stage begins hold for the
frame (R131). -/
def latchWb (d : Fin 4) (b : Band) (s : State) : State :=
  if b.band = 0 then
    setClu d { s.clu[d] with
      wb := #v[getReg s (P.CMP_WB_CTRL d), getReg s (P.CMP_WB_BASE d), getReg s (P.CMP_WB_PITCH d),
        getReg s (P.CMP_WB_STRIDE d)] } s
  else s

/-- The state from which the lines of the band in Fetch start: the band before it has yet to apply its writes when its
Compose stage has not run (R68, R103). -/
def fetchState (s : State) (d : Fin 4) : State :=
  match s.clu[d].compose with
  | some b => if b.ended then s else allWrites d b s
  | none => s

/-! ## The walks of the Fetch stage (R73, R86) -/

/-- What f gives for each line of a band, under the writes of the lines up to it, each value once and in order. -/
def overLines (d : Fin 4) (b : Band) (f : State → Nat → List Nat) (s : State) : List Nat :=
  ((List.range b.lines).foldl (fun (r : State × List Nat) n =>
    let t := writesAt d b n r.1
    (t, r.2 ++ f t n)) (s, [])).2.eraseDups

/-- The map lines, and the pattern lines, that the fetcher of plane p reads for a band. -/
def walkMap (s : State) (d : Fin 4) (b : Band) (p : Fin 8) : List Nat :=
  overLines d b (fun t n => planeMapLines t d p (canvasW t d) (b.firstLine + n)) (fetchState s d)
def walkPat (s : State) (d : Fin 4) (b : Band) (p : Fin 8) : List Nat :=
  overLines d b (fun t n => planePatLines t d p (canvasW t d) (b.firstLine + n)) (fetchState s d)

/-- The pattern lines that the comet unit reads for a band. -/
def walkComets (s : State) (d : Fin 4) (b : Band) : List Nat :=
  overLines d b (fun t n => cometLines t d b n) (fetchState s d)

/-- A fetcher whose map lines have all arrived goes on to the pattern lines that their entries name (R73). -/
def nextPhase (d : Fin 4) (i : Fin 9) (s : State) : State :=
  let w := s.clu[d].walks[i]
  match s.clu[d].fetch with
  | some b =>
    if h : i.val < 8 then
      (if w.done && !w.pattern then
        let ls := walkPat s d b ⟨i.val, h⟩
        walkOn d i ls (setWalk d i { w with pattern := true } s)
      else s)
    else s
  | none => s

/-- A walk begins over the given lines. -/
def beginWalk (d : Fin 4) (i : Fin 9) (ls : List Nat) (s : State) : State :=
  nextPhase d i (walkOn d i ls (setWalk d i Walk.reset s))

/-- The walks of the band that enters Fetch begin (R73, R86). -/
def beginWalks (d : Fin 4) (b : Band) (s : State) : State :=
  let s := (List.finRange 8).foldl (fun t p => beginWalk d p.castSucc (walkMap t d b p) t) s
  beginWalk d 8 (walkComets s d b) s

/-- The walk of the unit that asks for a fill. -/
def userWalk : PatUser → Fin 9
  | .fetcher p => p.castSucc
  | .comet => 8

/-- The walks end the Fetch work in this clock, if they have just all ended (R148). -/
def noteWalks (d : Fin 4) (s : State) : State :=
  if walksDone s.clu[d] then setClu d { s.clu[d] with done := Nat.max s.clu[d].done s.clock } s else s

/-- PATTERN_FILL: a line that a fetcher or the comet unit of cluster d has asked for, and that DRAM has returned, arrives
through the fill port; one whose fill an invalidation met is delivered and marked invalid (R72, R73, R75, R86). -/
def execPatternFill (d : Fin 4) (u : PatUser) (tag : Nat) (set : Fin 32768) (s : State) : Out :=
  let i := userWalk u
  let line := 32768 * tag + set.val
  match s.clu[d].walks[i].flight line with
  | none => .next s
  | some met =>
    if !s.powered 11 || !s.powered (if i = 8 then pdComet d else pdComposer d) || fillUnderWay d i line s then .next s
    else .next (noteWalks d (nextPhase d i (fillArrives d i line met s)))

/-! ## Stages -/

/-- The frame whose composing of a band is the last, while a digest lane is still at it (R168). -/
def laneFrame (c : Cluster) (band : Nat) : Option Nat :=
  (((c.slots.toList.filterMap id).filter (fun z => decide (z.band = band) && !z.hashed)).foldl (fun o z =>
    match o with
    | some y => if y.started < z.started then some z else o
    | none => some z) (none : Option Slot)).map (·.frame)

/-- The digest of a skipped band carried forward from the frame that last composed it: the carry table's entry as it stands
when the band passes Compose, or, while a lane is still at that frame's band, the digest that the lane will give (R34, R170).
DEDUCED: the rules name no clock in which the entry is read. -/
def carryDigest (d : Fin 4) (b : Band) (s : State) : State :=
  match laneFrame s.clu[d] b.band with
  | some f => onFrame d b.frame (fun w => { w with awaits := w.awaits ++ [(b.band, f)] }) s
  | none => addDigest d b.frame b.band (Tab.get s.clu[d].carry [] b.band) true s

/-- The digest h of a band of frame f goes to a frame that waits to carry it (R34, R170). -/
def carryFrom (band f : Nat) (h : List Byte) (w : FrameWork) : FrameWork :=
  if w.awaits.contains (band, f) then
    { w with digests := Tab.insert w.digests band h, carried := w.carried + 1, awaits := w.awaits.erase (band, f) }
  else w

/-- A band whose pixels equal those carried passes Compose: its writes and its coef_swap apply, its digest is carried
forward (R34, R113, R170). An IN then returns what its writes have left, as after a composed band: DEDUCED from R103 and
R113, which give the two halves. -/
def passSkipped (d : Fin 4) (b : Band) (s : State) : State :=
  let s := allWrites d b (swapCoefs d b.coefSwap s)
  composeDone d b (carryDigest d b s)

/-- The band that enters Send at the tick of clock t takes its place in the line of sends; a skipped band sends nothing
(R148, R149, R506). -/
def enterSend (d : Fin 4) (t : Nat) (b : Band) (s : State) : State :=
  if b.skip || b.out s d == [] then decideLate d b.frame false s
  else if rasterMode s d then s
  else setClu d { s.clu[d] with toSend := s.clu[d].toSend ++ [{ b with stamp := t }] } s

/-- The band that enters Compose: band 0 latches the writeback registers, and a skipped band passes through (R113, R131). -/
def enterCompose (d : Fin 4) (b : Band) (s : State) : State :=
  let s := latchWb d b (setClu d { s.clu[d] with compose := some { b with ended := b.skip } } s)
  if b.skip then passSkipped d b s else s

/-- The band that enters Fetch: the comet-unit registers as they stand hold for it, and its walks begin (R73, R93). -/
def enterFetch (d : Fin 4) (b : Band) (s : State) : State :=
  let b := { b with
    ended := b.skip
    cmtEnable := onF s (P.CMT_CTRL d) F.CMT_CTRL_enable
    cmtBase := getF s (P.CMT_CTX_BASE d) F.CMT_CTX_BASE_base
    cmtView := getReg s (P.CMT_VIEW d) }
  let s := setClu d { s.clu[d] with fetch := some b, walks := Vector.replicate 9 Walk.reset } s
  if b.skip then s else beginWalks d b s

/-- The Record stage takes the next band; it starves when that band's frame is not committed (R119). -/
def nextRecord (d : Fin 4) (s : State) : State :=
  match s.clu[d].taken with
  | b :: bs => enterRecord d b (setClu d { s.clu[d] with taken := bs } s)
  | [] =>
    if s.clu[d].stopping || committed s d s.clu[d].nextFrame then s
    else setF s (P.EPH_STAT d) F.EPH_STAT_starve 1

/-- A stage's step for its band, if it has one. -/
def stageStep (b : Option Band) (f : Band → State → State) (s : State) : State :=
  match b with
  | some x => f x s
  | none => s

/-- One tick of a cluster at clock t: the four stages take their next bands (R32, R148). -/
def tickCluster (t : Nat) (s : State) (d : Fin 4) : State :=
  let c := s.clu[d]
  let lag := lagSigma s d
  let s := setClu d { c with
    ticks := Nat.min (c.ticks + 1) 4
    t := t
    done := t
    send := c.compose
    compose := none
    fetch := none
    record := none } s
  let s := noteLag d t lag (stageStep c.compose (enterSend d t) s)
  let s := stageStep c.fetch (enterCompose d) s
  let s := stageStep c.record (enterFetch d) s
  nextRecord d s

/-! ### The tolerance that a cluster declares (R52) -/

/-- The committed bands that no take has reached, with the count and height of their frames: from band b of frame F on,
n frames. -/
def untaken (s : State) (d : Fin 4) : Nat → Nat → Nat → List Band
  | 0, _, _ => []
  | n + 1, frame, band =>
    if committed s d frame then
      ((List.range (hdrCount s d frame - band)).map (fun i =>
        bandOf s d frame (band + i) (hdrHeight s d frame) (hdrCount s d frame) (takeEntry s d frame (band + i)))) ++
      untaken s d n (frameAdd frame 1) 0
    else []

/-- A band needs a DRAM fetch: it will not be skipped. -/
def needsFetch (s : State) (d : Fin 4) (b : Band) : Bool := !skips s d b

/-- The bands that stand before their Fetch stage, in order. -/
def ahead (s : State) (d : Fin 4) : List Band :=
  s.clu[d].record.toList ++ s.clu[d].taken ++ untaken s d 32 s.clu[d].nextFrame s.clu[d].nextBand

/-- MEM_LTR_D of a cluster at a band boundary in clock t: in normal service the time until the first committed band that
needs a DRAM fetch enters Fetch, two periods before its deadline, less three periods, in units of 150 clocks (R52). A time
beyond the field, for which the rule gives no value, declares 0xFFFE, the largest requirement. DESIGN CHOICE. -/
def tolerance (s : State) (d : Fin 4) (t : Nat) : Nat :=
  if modeOf s d = 0 then 0xFFFF
  else if rasterMode s d then 0
  else match (ahead s d).find? (needsFetch s d) with
    | none => 0xFFFF
    | some b => match sigmaBefore s d b 5 with
      | some x => Nat.min ((x - t) / 150) 0xFFFE
      | none => 0xFFFF

/-- MEM_LTR_D declared. -/
def declare (t : Nat) (s : State) (d : Fin 4) : State :=
  if s.powered 36 then setReg s (P.MEM_LTR_D d) (BitVec.ofNat 32 (tolerance s d t)) else s

/-- The latest of the next ticks of clusters; none when one of them has none. -/
def latest (s : State) : List (Fin 4) → Option Nat
  | [] => some 0
  | d :: ds =>
    match nextTick s d, latest s ds with
    | some x, some y => some (Nat.max x y)
    | _, _ => none

/-- The first band taken before the beam ran is assigned its refresh now (R146). -/
def retryFirst (d : Fin 4) (s : State) : State :=
  match s.clu[d].taken with
  | b :: _ => assignFirst d b s
  | [] => s

/-! ### The tear rule (R149, R152) -/

/-- The tear rule at beam line v for output lines y0 to y1 (R152). -/
def admits (v y0 y1 vt g : Nat) : Bool :=
  decide (y1 - y0 + 1 ≤ (v + vt - y0 % vt) % vt) && decide (g + 1 ≤ (y0 + vt - v % vt) % vt)

/-- The first clock from x on at which the tear rule admits a band, and whether the band is held; none when no line of
the raster admits it (R149, R152). -/
def admission (s : State) (d : Fin 4) (b : Band) (x : Nat) : Option (Nat × Bool) :=
  let vt := totalV s d
  let g := getF s (P.DSP_PACE (leader s d)) F.DSP_PACE_guard
  let p := beamAt s d x
  let ok := fun (k : Nat) => admits ((p.2.toNat + k) % vt) (b.out0 s d) (b.out1 s d) vt g
  if ok 0 then some (x, false)
  else ((List.range vt).find? (fun k => ok (k + 1))).map (fun k =>
    (Nat.max x (lineTime s d p.1 (p.2 + ((k + 1 : Nat) : Int))), true))

/-- The band that output d sends next and the clock at which its own rules let it begin; none while none waits or one is
being sent (R149). -/
def sendReady (s : State) (d : Fin 4) : Option (Band × Nat × Bool) :=
  match s.clu[d].toSend, s.clu[d].sending with
  | b :: _, none => (admission s d b (Nat.max b.stamp s.clu[d].sendEnd)).map (fun p => (b, p))
  | _, _ => none

/-- A band held by the tear rule, counted once (R152). -/
def countHeld (s : State) (d : Fin 4) : State :=
  if s.clu[d].held then s
  else
    let s := setClu d { s.clu[d] with held := true } s
    setF (addF (pmcEvent (0x064 + d.val) 0 1 s) (P.DSP_CNT d) F.DSP_CNT_held 1) (P.DSP_STAT d) F.DSP_STAT_held 1

/-- The outputs of cluster d's group whose sequencers run. -/
def sendGroup (s : State) (d : Fin 4) : List (Fin 4) := (group s d).filter (fun e => seqRuns s e)

/-- The band that waits longest to be sent on one of the outputs. -/
def oldestSend (s : State) (ds : List (Fin 4)) : Option Band :=
  (ds.filterMap (fun e => s.clu[e].toSend.head?)).foldl (fun o b =>
    match o with
    | some a => if b.stamp < a.stamp then some b else o
    | none => some b) none

/-- The outputs of cluster d's group that send the band that waits longest: a half of a ganged pair whose own half of that
band is skipped takes no part (R151, R165). The halves of a pair meet by equal frame and band number. DESIGN CHOICE: chapter 7
leaves unpredictable a pair whose clusters differ in frame numbers, band height or frame lines. -/
def senders (s : State) (d : Fin 4) : List (Fin 4) :=
  let ds := sendGroup s d
  match oldestSend s ds with
  | none => []
  | some b => ds.filter (fun e => s.clu[e].toSend.head?.any (fun c => decide (c.frame = b.frame) && decide (c.band = b.band)))

/-- Once each output that sends the next band has it and none of them is sending, the tear rule may hold them; a hold counts
on both halves of a ganged pair (R149, R152, R165). -/
def noteHold (d : Fin 4) (s : State) : State :=
  let ds := senders s d
  let rs := ds.map (sendReady s)
  if rs.all (fun r => r.isSome) && rs.any (fun r => r.any (fun p => p.2.2)) then (sendGroup s d).foldl countHeld s else s

/-- TICK: the next tick of cluster d, a ganged pair's together at the later clock of the two (R148, R165, R505). -/
def execComposeTick (d : Fin 4) (s : State) : Out :=
  let ds := (group s d).filter (fun e => seqRuns s e)
  if gangSlave s d || !seqRuns s d || s.tilted || !compRuns s d then .next s
  else
    let s := ds.foldl (fun t e => retryFirst e t) s
    match latest s ds with
    | none => .next s
    | some t => .next (noteHold d (ds.foldl (declare t) (ds.foldl (tickCluster t) (reach t s))))

/-! ## The comet unit's stage (R84, R88, R89) -/

/-- At most 1,024 entries cover any line of the band (R85). -/
def capOk (s : State) (b : Band) : Bool :=
  !b.cmtEnable || (List.range b.lines).all (fun n => decide ((lineContexts s b n).length ≤ 1024))

/-- The pattern bytes of every context lie in populated DRAM below d:0x04_0000_0000 (chapter 4). -/
def patternsIn (s : State) (b : Band) : Bool :=
  !b.cmtEnable || b.comets.all (fun e => (entryContexts s b.cmtBase e).all (fun k =>
    decide (64 * ctxF k 2 27 0 + 64 * ctxF k 3 24 18 * ctxF k 3 17 9 +
      ceilDiv ((ctxF k 3 8 0 + 1) * bpp (ctxF k 0 31 29)) 8 ≤ Nat.min s.dramSize 0x400000000)))

/-- A captured comet probe: the buffer pixel as the band's finished list leaves it (R94). A band that has no buffer, its
comets not enabled, leaves the probe armed. DESIGN CHOICE. -/
def probeComet (d : Fin 4) (b : Band) (px : Tab Nat) (s : State) : State :=
  let w := getReg s (P.CMT_PROBE_POS d)
  let x := F.CMT_PROBE_POS_x.get w
  let y := F.CMT_PROBE_POS_y.get w
  if b.cmtEnable && F.CMT_PROBE_POS_arm.on w && decide (b.firstLine ≤ y) && decide (y < b.firstLine + b.lines) &&
      decide (x < canvasW s d) then
    let v := Tab.get px 0 (bufKey x y)
    let s := setReg s (P.CMT_PROBE_LO d) (BitVec.ofNat 32 v)
    let s := setReg s (P.CMT_PROBE_HI d) (BitVec.ofNat 32 (bits v 39 32 + (v >>> 40) <<< 8 + 0x80000000))
    setF s (P.CMT_PROBE_POS d) F.CMT_PROBE_POS_arm 0
  else s

/-- What the comet unit's registers show of a band whose Fetch stage it has completed, begun in clock t, started in clock
start and ended in clock fin (R88, R89, R94); they take nothing while its domain is off (R12). -/
def noteComets (d : Fin 4) (b : Band) (px : Tab Nat) (t start fin : Nat) (s : State) : State :=
  if s.powered (pdComet d) then
    let s := setReg s (P.CMT_FETCHED d) b.pos
    let s := setReg s (P.CMT_CLOCKS d) (sat24 (fin - t))
    let s := setF s (P.CMT_CTRL d) F.CMT_CTRL_bufs (bufCount s d b)
    let s := if t < start then addF (pmcEvent (0x068 + d.val) 0 1 s) (P.CMT_STAT d) F.CMT_STAT_buf_wait 1 else s
    probeComet d b px s
  else s

/-- The comet unit's work on band b from clock start, wait being its clocks of waiting for pattern lines: its buffer, its
clocks, CMT_FETCHED (R84, R88, R89, R94). -/
def rasteriseNow (d : Fin 4) (b : Band) (start wait : Nat) (s : State) : State :=
  let (px, clk) := rasterise (fetchState s d) d b
  let fin := start + clk + wait
  let c := s.clu[d]
  let s := setClu d { c with
    fetch := some { b with ended := true }
    done := Nat.max c.done fin
    bufs := if b.cmtEnable then c.bufs ++ [{ freeBuf s d b with pixels := px }] else c.bufs } s
  reach fin (noteComets d b px c.t start fin s)

/-- The clock in which the comet unit starts a band: the tick's, or, with every buffer in use then, that in which the last
one freed (R88). Buffers of a partition that the cluster has left count until they free. DESIGN CHOICE. -/
def cometStart (s : State) (d : Fin 4) (b : Band) : Nat :=
  let c := s.clu[d]
  if b.cmtEnable && decide (c.t < c.bufFree) && decide (bufCount s d b ≤ c.bufs.length + 1) then c.bufFree else c.t

/-- RASTERISE_BAND: the comet unit of cluster d draws the band in Fetch once a band buffer is free and its pattern lines
have arrived; wait is the clocks that it waits for lines that the cache did not hold (R86, R88). A band whose comets are
not enabled needs no comet unit. -/
def execRasteriseBand (d : Fin 4) (wait : Nat) (s : State) : Out :=
  let c := s.clu[d]
  match c.fetch with
  | none => .next s
  | some b =>
    if b.ended || s.tilted || !compRuns s d || (b.cmtEnable && !s.powered (pdComet d)) then .next s
    else if !partOk s d b then .fault .partitionForm
    else if b.cmtEnable && (decide (bufCount s d b ≤ c.bufs.length) || !c.walks[8].done) then .next s
    else if !bandContextsOk s b || !capOk s b || !patternsIn s b then .fault .cometContext
    else
      match patAgainAll d 8 (walkComets s d b) (0, s) with
      | .error h => .next (park h s)
      | .ok r => .next (rasteriseNow d b (cometStart s d b) (if c.walks[8].asked + r.1 = 0 then 0 else wait) r.2)

/-- CMT_PROBE_ARM: CMT_PROBE_POS written with arm (R94). -/
def execCmtProbeArm (m : Master) (d : Fin 4) (x y : Fin 8192) (s : State) : Out :=
  gate m true (P.CMT_PROBE_POS d) (fun s => .next (armProbe (P.CMT_PROBE_POS d) (P.CMT_PROBE_HI d)
    F.CMT_PROBE_HI_valid (BitVec.ofNat 32 (probeWord x y)) s)) s

/-! ## The composer's stage (R112, R137, R139, R140) -/

/-- The band begins a partition, or a band height, that the composer does not use (R112). -/
def changesPart (c : Cluster) (b : Band) : Bool := decide (c.part ≠ some (b.part, b.height))

/-- The slot that the band needs, and whether it is free; a change waits for both (R112, R139). -/
def slotFor (c : Cluster) (b : Band) : Fin 2 :=
  if changesPart c b then 0 else ⟨c.nextSlot % 2, Nat.mod_lt _ (by decide)⟩
def slotReady (c : Cluster) (b : Band) : Bool :=
  if changesPart c b then c.slots[(0 : Fin 2)] == none && c.slots[(1 : Fin 2)] == none
  else c.slots[slotFor c b] == none

/-- The clock in which the Compose stage starts (R112, R139). -/
def composeStart (c : Cluster) (b : Band) : Nat :=
  if changesPart c b then Nat.max c.t (Nat.max c.slotFree[(0 : Fin 2)] c.slotFree[(1 : Fin 2)])
  else Nat.max c.t c.slotFree[slotFor c b]

/-- The writeback address of output line y of frame F (R140). -/
def wbLine (wb : Vector Word 4) (frame y : Nat) : Nat :=
  64 * F.CMP_WB_BASE_base.get wb[1] +
  (frame % (F.CMP_WB_CTRL_frames_m1.get wb[0] + 1)) * F.CMP_WB_STRIDE_stride.get wb[3] * 65536 +
  y * F.CMP_WB_PITCH_pitch.get wb[2] * 64

/-- Every byte that the band's writeback reaches lies in populated DRAM and in no image content. -/
def wbOk (s : State) (wb : Vector Word 4) (frame w : Nat) (ys : List Nat) : Bool :=
  ys.all (fun y => decide (wbLine wb frame y + 4 * w ≤ s.dramSize) &&
    (List.range w).all (fun x => !s.imageContent (wbLine wb frame y + 4 * x)))

/-- The bytes of output words, each least significant byte first (R140, R167). -/
def wordBytes (ws : List Word) : List Byte := ws.flatMap (fun w => natToLe 4 w.toNat)

/-- Bytes from an address upward, burst by burst; fuel bounds the number of bursts (R36). -/
def inBursts : Nat → Nat → List Byte → List (Nat × List Byte)
  | 0, _, _ => []
  | n + 1, a, bs =>
    if bs.isEmpty then [] else (a, bs.take (64 - a % 64)) :: inBursts n (a + (64 - a % 64)) (bs.drop (64 - a % 64))

/-- The writeback of a band's output words, as requester 13 + d, its writes issued as the port takes them (R40, R140). -/
def writeBack (d : Fin 4) (wb : Vector Word 4) (b : Band) (lines : List (Nat × List Word)) (s : State) : State :=
  let rs := lines.flatMap (fun l => inBursts (l.2.length + 1) (wbLine wb b.frame l.1) (wordBytes l.2))
  issueAll (13 + d.val) (rs.map (fun r =>
    ⟨r.1, some r.2, false, chanOf s r.1, arrival s (chanOf s r.1), wbTag b.frame b.band⟩)) s

/-- The comet pixels that the composer reads for a band: its buffer, or nothing (R87, R88). -/
def bandBuffer (c : Cluster) (b : Band) : Tab Nat :=
  match c.bufs.find? (fun f => decide (f.frame = b.frame) && decide (f.band = b.band)) with
  | some f => f.pixels
  | none => []

/-- The canvas rows that the scaler still needs after a band (R133). -/
def keepRows (b : Band) (rows : List (Nat × List Rgba)) : List (Nat × List Rgba) :=
  if b.isLast then [] else rows.filter (fun r => decide (b.firstLine + b.lines ≤ r.1 + 3))

/-- Completely composed lines that the beam has not entered: those that remain ahead of it (R158). -/
def linesAhead (s : State) (d : Fin 4) : Nat :=
  ((s.clu[d].slots.toList.filterMap id).map (fun x =>
    (x.ready.filter (fun l => decide (l.2 ≤ s.clock) && !beamEntered s d x.frame l.1)).length)).sum

/-- The composer's urgency: the fallback raster runs and too few composed lines remain ahead of the beam (R41, R158). -/
def composerUrgency (d : Fin 4) (s : State) : State :=
  if s.powered 36 then
    setUrgent d.val (s.powered (pdComposer d) && rasterMode s d && (beamOf s d).running &&
      decide (linesAhead s d < getF s (P.DSP_WMARK d) F.DSP_WMARK_lines)) s
  else s

/-- A slot whose last line has gone out waits for the writeback: counted (R141). -/
def noteWbWait (d : Fin 4) (frame band : Nat) (s : State) : State :=
  if s.clu[d].slots.any (fun o => o.any (fun z => decide (z.frame = frame) && decide (z.band = band) && wbHolds s d z)) then
    addF s (P.CMP_STAT d) F.CMP_STAT_wb_wait 1
  else s

/-- A band composed into its slot from clock start, wait being its clocks of waiting for line refetches: the slot, the
buffer freed, the registers (R103, R137, R139 to R141). -/
def composeInto (d : Fin 4) (b : Band) (start wait : Nat) (comp : Comp) : State :=
  let s := comp.st
  let c := s.clu[d]
  let i := slotFor c b
  let ys := b.out s d
  let lines := outputLines s d comp.rows ys
  let fin := start + composeClocks s d comp ys.length + wait
  let had := c.bufs.any (fun f => decide (f.frame = b.frame) && decide (f.band = b.band))
  let z : Slot :=
    { frame := b.frame
      band := b.band
      addr := slotAddrOf s d b i
      size := slotBytesOf s d b.height
      lines := lines
      ready := (lineClocksOf s d comp ys).map (fun l => (l.1, start + l.2))
      started := start
      ended := fin
      sent := ys.isEmpty || (rasterMode s d &&
        !c.raster.any (fun r => decide (r.frame = b.frame) && decide (r.band = b.band)))
      hashed := false
      freeAt := fin }
  let s := if F.CMP_WB_CTRL_enable.on c.wb[0] then writeBack d c.wb b lines s else s
  let s := setClu d { s.clu[d] with
    compose := some { b with ended := true }
    done := Nat.max c.done fin
    bufs := c.bufs.filter (fun f => !(decide (f.frame = b.frame) && decide (f.band = b.band)))
    bufFree := if had then fin else c.bufFree
    slots := c.slots.set i (some z)
    nextSlot := 1 - i.val
    part := some (b.part, b.height)
    rows := keepRows b comp.rows } s
  let s := composeDone d b (probeOutput d comp.rows ys s)
  let s := setReg s (P.CMP_CLOCKS d) (sat24 (fin - c.t))
  let s := if c.t < start ∧ changesPart c b = false then
    addF (pmcEvent (0x06C + d.val) 0 1 s) (P.CMP_STAT d) F.CMP_STAT_slot_wait 1 else s
  let s := if z.sent then noteWbWait d b.frame b.band s else s
  composerUrgency d (reach fin s)

/-- The composer's work on band b from clock start (R103, R137). -/
def composeNow (d : Fin 4) (b : Band) (start wait : Nat) (s : State) : Out :=
  let s1 := swapCoefs d b.coefSwap s
  let c := s1.clu[d]
  match composeLines d b (bandBuffer c b) c.rows s1 with
  | .error h => .next (park h s)
  | .ok comp =>
    if F.CMP_WB_CTRL_enable.on c.wb[0] && !wbOk comp.st c.wb b.frame (outW comp.st d) (b.out comp.st d) then
      .fault .writebackRange
    else .next (composeInto d b start (if comp.missed = 0 then 0 else wait) comp)

/-- COMPOSE_BAND: the composer of cluster d composes the band in Compose once its slot is free; wait is the clocks it
waits for line refetches, if there are any (R73, R137, R139). -/
def execComposeBand (d : Fin 4) (wait : Nat) (s : State) : Out :=
  let c := s.clu[d]
  match c.compose with
  | none => .next s
  | some b =>
    if b.ended || s.tilted || !compRuns s d || !slotReady c b then .next s
    else composeNow d b (composeStart c b) wait s

/-- CMP_PROBE_ARM: CMP_PROBE_POS written with arm (R141). -/
def execCmpProbeArm (m : Master) (d : Fin 4) (x y : Fin 8192) (s : State) : Out :=
  gate m true (P.CMP_PROBE_POS d) (fun s => .next (armProbe (P.CMP_PROBE_POS d) (P.CMP_PROBE_BLEND d)
    F.CMP_PROBE_BLEND_valid (BitVec.ofNat 32 (probeWord x y)) s)) s

end Sys2Proof.Machine
end

