-- ==== Sys2Proof/Machine/Display.lean ====
section
/-! DEFINITION. The display outputs: the virtual beam, sends, the fallback raster, training and link faults (chapter 7),
and the screens after tilt or a stop (R359, R470 to R472). -/
namespace Sys2Proof.Machine

/-- The display output's domain is on. -/
def outputOn (s : State) (d : Fin 4) : Bool := s.powered (pdOutput d)

/-! ## The tilt screen and the stop raster -/

/-- Output d shows a screen in place of frames: after tilt, from the next beam line 0 on, or after a stop of start-up (R359,
R470). -/
def showsScreen (s : State) (d : Fin 4) : Bool := (s.tilted && s.clu[d].beam.screen) || decide (bootStage s = 7)

/-- The tilt-screen section's base in data space, once its digest has matched (R353). -/
def screenBase (s : State) : Option Nat :=
  if s.cfg.screenOk then (s.cfg.sections.find? (fun e => e.role = 2)).map (·.dst) else none

/-- The section holds the magic and the format (R471, R472). -/
def screenGood (s : State) (a : Nat) : Bool :=
  decide (s.readLe a 4 = 0x544C4954) && decide (s.readLe (a + 4) 1 = 1)

/-- The base of the tilt screen to show; none: the stop raster (R359, R472). -/
def screenToShow (s : State) : Option Nat :=
  if s.tilted && onF s P.SYS_TILT_LAST F.SYS_TILT_LAST_raster then none
  else (screenBase s).filter (screenGood s)

/-- A word of a colour on the link's depth: each component all ones or zero. -/
def solid (out8 : Bool) (r g b : Bool) : Word :=
  if out8 then BitVec.ofNat 32 (0xFF * b2n r + 0xFF00 * b2n g + 0xFF0000 * b2n b)
  else BitVec.ofNat 32 (0x3FF * b2n r + 0xFFC00 * b2n g + 0x3FF00000 * b2n b)

/-- The sixteen bits that the stop raster shows: the tilt code while tilt stands, CFG_STOP otherwise (R359, R470). -/
def rasterBits (s : State) : Nat := s.tilt.code.getD ((getReg s P.CFG_STOP).toNat % 65536)

/-- A pixel of the stop raster (R359). -/
def stopPixel (out8 : Bool) (code wa va x y : Nat) : Word :=
  let w := wa / 16
  if va / 3 ≤ y ∧ y < 2 * va / 3 ∧ x < 16 * w then
    let on := bit code (15 - x / w)
    solid out8 on on on
  else solid out8 true false false

/-- The sixteen bits that the code strip shows: the tilt code; after a stop without a tilt the manual gives none. -/
def stripBits (s : State) : Nat :=
  match s.tilt.code with
  | some c => c
  | none => Config.stopStrip (getReg s P.CFG_STOP).toNat

/-- A 30-bit word on a link of either depth: 24-bit words take bits [9:2] of each component (R471). -/
def onLink (out8 : Bool) (w : Nat) : Word :=
  if out8 then BitVec.ofNat 32 (bits w 9 2 + (bits w 19 12) <<< 8 + (bits w 29 22) <<< 16) else BitVec.ofNat 32 w

/-- A pixel of output d's entry of the tilt screen at base a (R471). -/
def screenPixel (s : State) (d : Fin 4) (a wa x y : Nat) : Nat :=
  let e := fun (i : Nat) => s.readLe (a + 64 + 32 * d.val + 4 * i) 4
  let pal := fun (i : Nat) => s.readLe (a + 192 + 4 * i) 4
  let x0 := bits (e 2) 12 0
  let y0 := bits (e 2) 28 16
  let f := bits (e 4) 12 0
  if f ≤ y ∧ y < f + bits (e 4) 28 16 ∧ x < 16 * (wa / 16) then
    (if bit (stripBits s) (15 - x / (wa / 16)) then 0x3FFFFFFF else 0)
  else if x0 ≤ x ∧ x < x0 + bits (e 1) 12 0 ∧ y0 ≤ y ∧ y < y0 + bits (e 1) 28 16 then
    let byte := s.readLe (a + e 0 + e 3 * (y - y0) + (x - x0) / 2) 1
    pal (if (x - x0) % 2 = 0 then byte % 16 else byte / 16)
  else pal 0

/-- The bytes of the image that line y of output d's entry of the tilt screen at base a holds: where they begin, and how
many there are (R471). -/
def screenRow (s : State) (d : Fin 4) (a y : Nat) : Nat × Nat :=
  let e := fun (i : Nat) => s.readLe (a + 64 + 32 * d.val + 4 * i) 4
  let y0 := bits (e 2) 28 16
  if y0 ≤ y ∧ y < y0 + bits (e 1) 28 16 then (a + e 0 + e 3 * (y - y0), (bits (e 1) 12 0 + 1) / 2) else (0, 0)

/-- Output d reads what active line y of its screen takes, as its writeback requester: before line 0 the section's first two
words, and the image's line (R40, R470, R472). -/
def screenRead (d : Fin 4) (y : Nat) (s : State) : Except Held State :=
  match screenBase s with
  | none => .ok s
  | some a =>
    (if y = 0 then dramRead (13 + d.val) a 8 s else .ok s).bind (fun s =>
      match screenToShow s with
      | none => .ok s
      | some a => dramRead (13 + d.val) (screenRow s d a y).1 (screenRow s d a y).2 s)

/-- Output d, with its link up and its mode not 0, switches to its screen at this beam line 0 (R470). -/
def screenStarts (s : State) (d : Fin 4) : Bool :=
  s.tilted && decide (s.clu[d].beam.line = 0) && onF s (P.DSP_STAT d) F.DSP_STAT_link_up && decide (modeOf s d ≠ 0)

/-- The request that output d has yet to make for the screen's line on which its beam stands, when there is one. -/
def screenAsk (s : State) (d : Fin 4) : Option (Nat × MemReq) :=
  let y := s.clu[d].beam.line
  if y < activeH s d ∧ (screenStarts s d || (rasterMode s d && showsScreen s d)) = true then
    match screenRead d y s with
    | .error h => h
    | .ok _ => none
  else none

/-- The words of active line y that output d sends of its screen (R359, R471, R472). -/
def screenLine (s : State) (d : Fin 4) (y : Nat) : List Word :=
  let wa := activeW s d
  let out8 := onF s (P.CMP_CTRL d) F.CMP_CTRL_out8
  match screenToShow s with
  | none => (List.range wa).map (fun x => stopPixel out8 (rasterBits s) wa (activeH s d) x y)
  | some a => (List.range wa).map (fun x => onLink out8 (screenPixel s d a wa x y))

/-! ## The fallback raster (R157) -/

/-- The frame that the output sends in the beam's refresh; none before R0 or without one (R146, R157). -/
def beamFrame (s : State) (d : Fin 4) : Option Nat :=
  match s.clu[d].r0 with
  | none => none
  | some r => if r ≤ (beamOf s d).refresh then some (frameAdd s.clu[d].first ((beamOf s d).refresh - r)) else none

/-- The words of output line y of a frame, when it is completely composed by clock x. -/
def slotLine (s : State) (d : Fin 4) (frame y x : Nat) : Option (List Word) :=
  (s.clu[d].slots.toList.filterMap id).findSome? (fun z =>
    if z.frame = frame ∧ (z.ready.any (fun l => decide (l.1 = y) && decide (l.2 ≤ x))) = true then
      Tab.find z.lines y
    else none)

/-- A line of zeros. -/
def zeroLine (s : State) (d : Fin 4) : List Word := List.replicate (activeW s d) 0

/-- The level of vertical sync in beam line v, and that of horizontal sync in its pulse: the polarities of DSP_V0 and
DSP_H0; the sync lines follow the active and the front-porch lines (R145, R156). -/
def vsyncLevel (s : State) (d : Fin 4) (v : Nat) : Bool :=
  let w := getReg s (P.DSP_V1 (leader s d))
  let first := activeH s d + F.DSP_V1_fp.get w
  let pulse := decide (first ≤ v) && decide (v < first + F.DSP_V1_sync.get w)
  pulse == onF s (P.DSP_V0 (leader s d)) F.DSP_V0_pol
def hsyncLevel (s : State) (d : Fin 4) : Bool := onF s (P.DSP_H0 (leader s d)) F.DSP_H0_pol

/-- The words that beam line y sends of a frame set out on the output. -/
def setSent (d : Fin 4) (ws : List Word) (s : State) : State := setBeam d { s.clu[d].beam with sent := ws } s

/-- Output y's line lies in a band of the fallback raster. -/
def RasterBand.hasLine (frame y : Nat) (r : RasterBand) : Bool :=
  decide (r.frame = frame) && decide (r.first ≤ y) && decide (y ≤ r.last)

/-- A band of output d's fallback raster is late (R150). -/
def markOne (frame band : Nat) (s : State) (d : Fin 4) : State :=
  let hit := fun (r : RasterBand) => decide (r.frame = frame) && decide (r.band = band)
  setClu d { s.clu[d] with raster := s.clu[d].raster.map (fun r => if hit r then { r with under := true } else r) } s

/-- The band of an underrun line is late, on both halves of a ganged pair (R150, R165). -/
def markUnder (d : Fin 4) (frame y : Nat) (s : State) : State :=
  match s.clu[d].raster.find? (RasterBand.hasLine frame y) with
  | none => s
  | some r => countPair d frame r.band ((group s (leader s d)).foldl (markOne frame r.band) s)

/-- Beam line y of the fallback raster at clock x: the frame's line, or zeros, an underrun while the sequencer runs
(R157). -/
def rasterLine (d : Fin 4) (y x : Nat) (s : State) : State :=
  match beamFrame s d with
  | none => setSent d (zeroLine s d) s
  | some frame =>
    match slotLine s d frame y x with
    | some ws => setSent d ws s
    | none =>
      let s := setSent d (zeroLine s d) s
      if seqRuns s d then markUnder d frame y (countUnderrun d 1 s) else s

/-- The beam's line on the link, clock x: the raster's sync and blanking, and an active line of the screen or of the raster;
unread: the screen's line, though granted, had not been read in time (R156, R157, R470). -/
def sendLine (d : Fin 4) (unread : Bool) (x : Nat) (s : State) : State :=
  let y := s.clu[d].beam.line
  let sync := if rasterMode s d then some (vsyncLevel s d y, hsyncLevel s d) else none
  let s := setBeam d { s.clu[d].beam with sync := sync } s
  if !rasterMode s d || decide (activeH s d ≤ y) then setSent d [] s
  else if showsScreen s d then
    match screenRead d y s with
    | .ok t =>
      if unread && (screenToShow s).isSome then countUnderrun d 1 (setSent d (zeroLine t d) t)
      else setSent d (screenLine t d y) t
    | .error h => countUnderrun d 1 (setSent d (zeroLine s d) (park h s))
  else rasterLine d y x s

/-- A slot's last line has gone out at clock x. -/
def slotSent (d : Fin 4) (frame band x : Nat) (s : State) : State :=
  let s := noteWbWait d frame band s
  freeSlots d 0 (setClu d { s.clu[d] with
    slots := s.clu[d].slots.map (fun o => o.map (fun z =>
      if z.frame = frame ∧ z.band = band then { z with sent := true, freeAt := Nat.max z.freeAt x } else z)) } s)

/-- The raster bands whose last line the beam has left: their lateness is decided and their slots are sent (R139, R157,
R506). -/
def leaveBands (d : Fin 4) (x : Nat) (s : State) : State :=
  let (gone, rest) := s.clu[d].raster.partition (fun r => beamPassed s d r.frame r.last)
  gone.foldl (fun t r => slotSent d r.frame r.band x (decideLate d r.frame r.under t))
    (setClu d { s.clu[d] with raster := rest } s)

/-! ## Beam lines (R145, R159) -/

/-- DSP_BEAM and DSP_STAT.running follow the beam. -/
def showBeam (d : Fin 4) (s : State) : State :=
  let b := s.clu[d].beam
  setF (setReg s (P.DSP_BEAM d) (BitVec.ofNat 32 (b.line + (b.refresh % 65536) <<< 16)))
    (P.DSP_STAT d) F.DSP_STAT_running (b2n b.running)

/-- The armed change at its line, clock x: the shadow values go live, and the beam runs on from this line, or stops
(R159). -/
def applyArmed (d : Fin 4) (x : Nat) (s : State) : State :=
  let w := getReg s (P.DSP_APPLY d)
  if F.DSP_APPLY_arm.on w && decide (F.DSP_APPLY_line.get w = s.clu[d].beam.line) then
    let s := setF (shadowLive d s) (P.DSP_APPLY d) F.DSP_APPLY_arm 0
    let b := s.clu[d].beam
    setBeam d { b with
      running := decide (modeOf s d ≠ 0)
      origin := x
      originRefresh := b.refresh
      originLine := b.line } s
  else s

/-- After tilt an output with its link up runs mode 2 and shows its screen from line 0 on (R470, R472). -/
def tiltMode (d : Fin 4) (s : State) : State :=
  if screenStarts s d then
    let s := modeLive d 2 s
    let s := setBeam d { s.clu[d].beam with mode := 2, screen := true } s
    if (screenToShow s).isNone then setF s P.SYS_TILT_LAST F.SYS_TILT_LAST_raster 1 else s
  else s

/-- The beam begins frame F with frame F + L uncommitted; before R0 is known the commits are kept for its judgement
(R118). -/
def lookahead (d : Fin 4) (s : State) : State :=
  if s.clu[d].beam.line = 0 ∧ seqRuns s d = true then
    match beamFrame s d with
    | none =>
      if s.clu[d].r0.isSome then s
      else setClu d { s.clu[d] with
        begun := s.clu[d].begun ++ [((beamOf s d).refresh, (getReg s (P.EPH_COMMIT d)).toNat)] } s
    | some frame =>
      if committed s d (frameAdd frame (getF s (P.EPH_CTRL d) F.EPH_CTRL_lookahead)) then s
      else setF s (P.EPH_STAT d) F.EPH_STAT_lookahead_miss 1
  else s

/-- The urgencies that hang on the beam: the composer's, and the writeback requester's while the output reads the tilt
screen (R41, R158, R470). -/
def beamUrgency (d : Fin 4) (s : State) : State :=
  let s := composerUrgency d s
  if s.powered 36 then
    setUrgent (13 + d.val) (showsScreen s d && rasterMode s d && s.clu[d].beam.running && (screenToShow s).isSome) s
  else s

/-- What entering the beam's line at clock x brings about on output d; line 0 is an edge for the timers (R306). -/
def lineBegins (unread : Bool) (x : Nat) (s : State) (d : Fin 4) : State :=
  let s := if s.clu[d].beam.line = 0 then s.captureEdge d else s
  let s := leaveBands d x s
  let s := tiltMode d (applyArmed d x s)
  let s := if s.clu[d].beam.running then sendLine d unread x (lookahead d s)
    else setBeam d { s.clu[d].beam with sent := [], sync := none } s
  beamUrgency d (showBeam d s)

/-- BEAM_START: a mode other than 0 has gone live while the beam was stopped: the beam starts at line 0 at the next pixel
clock, and the refresh count advances; a ganged follower joins its master's beam (R159, R165). -/
def execBeamStart (d : Fin 4) (s : State) : Out :=
  let b := s.clu[d].beam
  if !outputOn s d || b.running || decide (modeOf s d = 0) then .next s
  else if gangSlave s d then
    if (beamOf s d).running then
      let s := setBeam d { b with running := true, line := (beamOf s d).line, refresh := b.refresh + 1 } s
      .next (lineBegins false s.clock s d)
    else .next s
  else
    let x := s.clock + ceilDiv 1500000 (pixelKhz s d)
    let b := { b with
      running := true
      line := 0
      refresh := b.refresh + 1
      origin := x
      originRefresh := b.refresh + 1
      originLine := 0 }
    .next (lineBegins false x (reach x (setBeam d b s)) d)

/-- The outputs whose beams go on together. -/
def beamGroup (s : State) (d : Fin 4) : List (Fin 4) := (group s d).filter (fun e => s.clu[e].beam.running)

/-- A beam on its next line; the refresh count advances at line 0 (R145). -/
def nextLine (vt : Nat) (s : State) (d : Fin 4) : State :=
  let b := s.clu[d].beam
  if b.line + 1 < vt then setBeam d { b with line := b.line + 1 } s
  else setBeam d { b with line := 0, refresh := b.refresh + 1 } s

/-- BEAM_LINE: the beam of output d enters its next line; unread: the line of the tilt screen that it sends was not fully
read in time (R145, R157). The command first makes the requests for that line which have not been made: one that the arbiter
does not grant at once is parked, the beam not yet in the line, and a line whose request still waits then is an underrun. -/
def execBeamLine (d : Fin 4) (unread : Bool) (s : State) : Out :=
  if gangSlave s d || !s.clu[d].beam.running || !outputOn s d then .next s
  else
    let ds := beamGroup s d
    let t := ds.foldl (nextLine (totalV s d)) s
    match ds.findSome? (screenAsk t) with
    | some h => .next (park (some h) s)
    | none =>
      let x := lineTime t d (t.clu[d].beam.refresh : Int) (t.clu[d].beam.line : Int)
      .next (ds.foldl (lineBegins unread x) (reach x t))

/-- A 1 written to DSP_APPLY.arm with a line: the shadowed values go live at the start of the next such line (R159). -/
def applyArm (d : Fin 4) (line : Nat) (s : State) : State := setReg s (P.DSP_APPLY d) (BitVec.ofNat 32 (line + 0x80000000))

/-- A write to DSP_APPLY: the line is set and, with arm, the change armed (R159). A line that a running beam does not
reach is unpredictable. -/
def applyWrite (d : Fin 4) (line : Nat) (arm : Bool) (s : State) : Out :=
  if modeOf s d ≠ 0 ∧ totalV s d ≤ line then .fault .displayChange
  else .next (if arm then applyArm d line s else setF s (P.DSP_APPLY d) F.DSP_APPLY_line line)

/-- APPLY_ARM: DSP_APPLY of output d written with arm (R159). -/
def execApplyArm (m : Master) (d : Fin 4) (line : Fin 8192) (s : State) : Out :=
  gate m true (P.DSP_APPLY d) (fun s => applyWrite d line.val true s) s

/-! ## Sends in selective update (R144, R149 to R153) -/

/-- The payload of a link rate on four lanes, in 10 Mb/s (R144). -/
def payload (rate : Nat) : Nat :=
  if rate = 0 then 518 else if rate = 1 then 864 else if rate = 2 then 1728 else if rate = 3 then 2592
  else if rate = 8 then 3879 else 5236

/-- The composition clocks in which output d sends a line of a region: its bits over the payload, to the nearest 0.01 µs as
the table of R144 gives it. DEDUCED: for other widths than the table's. -/
def lineSend (s : State) (d : Fin 4) : Nat :=
  let r := payload s.clu[d].beam.rate
  15 * ((20 * outW s d * (if onF s (P.CMP_CTRL d) F.CMP_CTRL_out8 then 24 else 30) + r) / (2 * r))

/-- The slot that holds a band. -/
def slotOf (c : Cluster) (frame band : Nat) : Option Slot :=
  (c.slots.toList.filterMap id).find? (fun z => decide (z.frame = frame) && decide (z.band = band))

/-- The first line of the region to which the band's lines belong when its send begins at clock x: that of the band before
it, of the same frame and sent up to this clock, else its own (R151). -/
def regionFirst (c : Cluster) (b : Band) (first x : Nat) : Nat :=
  match c.lastSent with
  | some (f, n, r) => if f = b.frame ∧ n + 1 = b.band ∧ c.sendEnd = x then r else first
  | none => first

/-- Output d begins to send a band at clock x: all columns of every line that the band emits; late: it, or the other half
of a ganged pair, is late (R149 to R151, R165). -/
def beginSend (d : Fin 4) (b : Band) (x : Nat) (late : Bool) (s : State) : State :=
  let lines := ((slotOf s.clu[d] b.frame b.band).map (·.lines)).getD []
  let s := setClu d { s.clu[d] with
    toSend := s.clu[d].toSend.drop 1
    sending := some ⟨b.frame, b.band, x, 0, lines, regionFirst s.clu[d] b (b.out0 s d) x, []⟩ } s
  decideLate d b.frame (late || s.clu[d].lateSeen.contains (b.frame, b.band)) s

/-- SEND_BAND: output d, with its ganged follower, begins the next send at the clock that R149 gives, the later of a pair
(R149, R165). -/
def execSendBand (d : Fin 4) (s : State) : Out :=
  let ds := senders s d
  let rs := ds.map (sendReady s)
  if gangSlave s d || s.tilted || !outputOn s d || ds == [] || rs.any (fun r => r.isNone) then .next s
  else
    let js := rs.filterMap id
    let x := js.foldl (fun n r => Nat.max n r.2.1) 0
    let late := (List.zip ds js).any (fun p => decide ((sigmaOf s p.1 p.2.1).getD x < x))
    let s := noteHold d s
    let s := if late then js.foldl (fun t r => countPair d r.1.frame r.1.band t) s else s
    let s := (List.zip ds js).foldl (fun t p => beginSend p.1 p.2.1 x late t) s
    .next (reach x ((group s d).foldl (fun t e => setClu e { t.clu[e] with held := false } t) s))

/-- The clock in which the lane monitor passes line i of the band under way, i = 0 the first (R144, R149). -/
def linePassed (s : State) (d : Fin 4) (z : Sending) (i : Nat) : Nat := z.started + z.extra + (i + 1) * lineSend s d

/-- SEND_END: the lane monitor has passed the last line of the band, by its number, that output d sends (R149). -/
def execSendEnd (d : Fin 4) (band : Nat) (s : State) : Out :=
  match s.clu[d].sending with
  | none => .next s
  | some z =>
    if z.band ≠ band then .next s
    else
    let x := z.started + z.extra + z.lines.length * lineSend s d
    let s := setClu d { s.clu[d] with sending := none, sendEnd := x, lastSent := some (z.frame, z.band, z.region) } s
    .next (reach x (noteHold (leader s d) (slotSent d z.frame z.band x s)))

/-! ## Training and link faults (R161 to R164, R470) -/

/-- A write of 1 to DSP_TRAIN.start: ignored while mode is not 0 or busy is 1 (R161). -/
def trainWrite (d : Fin 4) (s : State) : State :=
  if modeOf s d ≠ 0 ∨ trainingRuns s d = true then s else startTraining d s

/-- TRAIN: DSP_TRAIN.start (R161). -/
def execDspTrain (m : Master) (d : Fin 4) (s : State) : Out :=
  gate m true (P.DSP_TRAIN d) (fun s => .next (trainWrite d s)) s

/-- The sink and the link standard offer selective update: eDP, or DisplayPort at a 128b/132b rate, a capable sink, and a
y granularity that divides 8 (R142, R154). -/
def suOk (s : State) (d : Fin 4) (su : Bool) (ygran : Nat) : Bool :=
  su && (s.clu[d].beam.edp || decide (8 ≤ s.clu[d].beam.rate)) &&
  decide (0 < ygran) && decide (8 % ygran = 0)

/-- After a stop of start-up, a trained D0 shows its screen; before release the result shows in CFG_STAT (R352, R359). -/
def bootTrained (d : Fin 4) (s : State) : State :=
  if d ≠ 0 then s
  else if bootStage s = 7 then modeWrite 0 2 s
  else if 1 ≤ bootStage s ∧ bootStage s ≤ 5 then setF s P.CFG_STAT F.CFG_STAT_d0_trained 1
  else s

/-- TRAINING_END: training, its PLL locked, ends with a result from 1 to 5; su says whether the sink meets R142, ygran is its
y granularity (R154, R161). -/
def execTrainingEnd (d : Fin 4) (result : Fin 8) (su : Bool) (ygran : Fin 64) (s : State) : Out :=
  if !trainingRuns s d || !outputOn s d || !s.pwr.linkLocked.getLsbD d.val || decide (result.val = 0) ||
      decide (5 < result.val) then .next s
  else
    let ok := decide (result = 1)
    let v := 4 * result.val + 32 * b2n (ok && suOk s d su ygran.val) + ygran.val <<< 8
    let s := setReg s (P.DSP_TRAIN d) (BitVec.ofNat 32 v)
    let s := setF s (P.DSP_STAT d) F.DSP_STAT_link_up (b2n ok)
    .next (if ok then bootTrained d s else s)

/-- RETRAIN: after tilt an output whose mode is not 0 and whose link is down trains again, once each second (R470). -/
def execRetrain (d : Fin 4) (s : State) : Out :=
  if s.tilted && outputOn s d && decide (modeOf s d ≠ 0) && !onF s (P.DSP_STAT d) F.DSP_STAT_link_up &&
      !trainingRuns s d then .next (startTraining d s)
  else .next s

/-- A tilt by display output d (R164, R467). -/
def outputTilt (d : Fin 4) (cause : Nat) (s : State) : State :=
  raiseTilt (0x1400 + 0x100 * d.val + cause) (setF s (P.DSP_STAT d) F.DSP_STAT_tilt_cause cause)

/-- A burst found on output d, which resends n lines (R162, R166). -/
def noteBurst (d : Fin 4) (n : Nat) (s : State) : State :=
  let s := addF (setF s (P.DSP_STAT d) F.DSP_STAT_burst 1) (P.DSP_ERR_CNT d) F.DSP_ERR_CNT_bursts 1
  addF s (P.DSP_ERR_CNT d) F.DSP_ERR_CNT_resent n

/-- The resend of output line y at clock x: the tear rule admits the line alone (R152, R162). -/
def resendOk (s : State) (d : Fin 4) (y x : Nat) : Bool :=
  admits (beamAt s d x).2.toNat y y (totalV s d) (getF s (P.DSP_PACE (leader s d)) F.DSP_PACE_guard)

/-- A burst in the band that output d sends: lines i to k of the band, from 0, are marked, line k is in flight, and the
first mismatch lies clocks before its end. Every marked line is resent from the slot as one region, then the rest of the
band is sent; handled, when all are resent within 20 µs and each before the scan enters it (R162). The rest forms the region
from its own first line. DESIGN CHOICE: R151 and R162 do not say whether it belongs to the resent one. -/
def burstInSend (d : Fin 4) (z : Sending) (i k clocks : Nat) (s : State) : State :=
  let n := k + 1 - i
  let l := lineSend s d
  let x := linePassed s d z k
  let ys := z.lines.map (·.1)
  let inTime := decide (clocks + n * l ≤ 30000) &&
    (List.range n).all (fun j => resendOk s d (ys.getD (i + j) 0) (x + j * l))
  let first := ys.getD i 0
  let z1 := { z with
    extra := z.extra + n * l
    resends := z.resends ++ [(first, ys.getD k 0)]
    region := ys.getD (k + 1) first }
  let s1 := noteBurst d n (setClu d { s.clu[d] with sending := some z1 } s)
  if inTime then s1 else outputTilt d 4 s1

/-- LANE_MISMATCH: a burst of mismatches on output d, whichever lane they fall on. In selective update it marks output lines first to last of the band
that is sent, last in flight, clocks before whose end the first mismatch lies; between sends it marks none. In the fallback
raster clocks is the time over which the mismatches fall (R162, R163). -/
def execLaneMismatch (d : Fin 4) (_lane : Fin 4) (first last : Fin 8192) (clocks : Nat) (s : State) : Out :=
  if !outputOn s d || decide (modeOf s d = 0) then .next s
  else if rasterMode s d then
    .next (if 30000 < clocks then outputTilt d 4 (noteBurst d 0 s) else noteBurst d 0 s)
  else
    match s.clu[d].sending with
    | none => .next (noteBurst d 0 s)
    | some z =>
      let ys := z.lines.map (·.1)
      if ys.contains first.val && ys.contains last.val && decide (first.val ≤ last.val) &&
          decide (clocks ≤ (last.val + 1 - first.val) * lineSend s d) then
        .next (burstInSend d z (ys.idxOf first.val) (ys.idxOf last.val) clocks s)
      else .next s

/-- The link is lost, and tilt is raised (R164, R470). -/
def linkLost (d : Fin 4) (cause : Nat) (s : State) : Out :=
  if outputOn s d then .next (outputTilt d cause (setF s (P.DSP_STAT d) F.DSP_STAT_link_up 0)) else .next s

/-- HPD_LOST: HPD has been low for more than 2 ms (R164). -/
def execHpdLost (d : Fin 4) (s : State) : Out := linkLost d 1 s

/-- IRQ_HPD: the sink reports a loss of lock, or an update error (R164). -/
def execIrqHpd (d : Fin 4) (updateError : Bool) (s : State) : Out := linkLost d (if updateError then 3 else 2) s

end Sys2Proof.Machine
end

