-- ==== Sys2Proof/Machine/Digest.lean ====
section
/-! DEFINITION. The digest unit: band and frame digests, the export queue and recall (chapter 8). -/
namespace Sys2Proof.Machine

/-- The 64-byte blocks of a message of n bytes, padding included (R168, R169). -/
def shaBlockCount (n : Nat) : Nat := ceilDiv (n + 9) 64

/-- A lane may finish a slot's band the given clocks after its Compose stage has ended (R168). -/
def laneMayEnd (z : Slot) (after : Nat) : Bool :=
  let words := (z.lines.map (fun l => l.2.length)).sum
  decide (z.started + 16 * shaBlockCount (4 * words) ≤ z.ended + after) && decide (after ≤ words / 2 + 32)

/-- The band digest of a slot (R167). -/
def slotDigest (z : Slot) : List Byte := sha256 (wordBytes (z.lines.flatMap (·.2)))

/-- BAND_DIGEST: a lane finishes the band in slot i, the given clocks after its Compose stage ended: the digest goes to
the carry table, to its frame and to the frames that wait to carry it, and the lane is done with the slot (R34, R139, R167,
R168, R170). -/
def execBandDigest (d : Fin 4) (i : Fin 2) (after : Nat) (s : State) : Out :=
  match s.clu[d].slots[i] with
  | none => .next s
  | some z =>
    if z.hashed || s.tilted || !compRuns s d || !laneMayEnd z after then .next s
    else
      let h := slotDigest z
      let x := z.ended + after
      let s := setClu d { s.clu[d] with
        carry := Tab.insert s.clu[d].carry z.band h
        slots := s.clu[d].slots.set i (some { z with hashed := true, freeAt := Nat.max z.freeAt x })
        frames := s.clu[d].frames.map (carryFrom z.band z.frame h) } s
      .next (reach x (freeSlots d 0 (addDigest d z.frame z.band h false s)))

/-- Every band digest of the frame is known. -/
def FrameWork.full (w : FrameWork) : Bool := (List.range w.count).all (fun b => (Tab.find w.digests b).isSome)

/-- The frame digest (R169). -/
def FrameWork.hash (w : FrameWork) : List Byte := sha256 (w.digests.flatMap (·.2))

/-- FRAME_DIGEST: after the last band, the digest of the oldest frame that has all its band digests and no frame digest
(R169). -/
def execFrameDigest (d : Fin 4) (s : State) : Out :=
  match s.clu[d].frames.find? (fun w => w.full && w.digest.isNone) with
  | none => .next s
  | some w =>
    if s.tilted || !compRuns s d then .next s
    else .next (reach (s.clock + 16 * shaBlockCount (32 * w.count))
      (onFrame d w.frame (fun v => { v with digest := some w.hash }) s))

/-! ## Export and recall (R171, R172, R177, R506) -/

/-- DIG_STAT.depth follows the queue. -/
def setExport (d : Fin 4) (q : List ExportEntry) (s : State) : State :=
  setF (setClu d { s.clu[d] with export_ := q } s) (P.DIG_STAT d) F.DIG_STAT_depth q.length

/-- The entry of the expected table, and the place of the dump, for the frame n after the first (R177). -/
def expAddr (s : State) (d : Fin 4) (n : Nat) : Nat := 64 * getF s (P.DIG_EXP_BASE d) F.DIG_EXP_BASE_base + 32 * n
def dumpAddr (s : State) (d : Fin 4) (n : Nat) : Nat := 64 * getF s (P.DIG_DUMP_BASE d) F.DIG_DUMP_BASE_base + 16384 * n

/-- The result of a comparison (R177). -/
def noteCompare (d : Fin 4) (frame : Nat) (same : Bool) (s : State) : State :=
  let s := addF s (P.DIG_RESULT d) F.DIG_RESULT_compared 1
  if same then s
  else
    let s := setF (addF s (P.DIG_RESULT d) F.DIG_RESULT_mismatches 1) (P.DIG_STAT d) F.DIG_STAT_mismatch 1
    if s.clu[d].missed then s
    else setReg (setClu d { s.clu[d] with missed := true } s) (P.DIG_MISS_FRAME d) (BitVec.ofNat 32 frame)

/-- Band digests written to the dump, one after another, as requester 13 + d (R40, R177). -/
def dumpDigests (d : Fin 4) (n : Nat) : List (Nat × List Byte) → State → Except Held State
  | [], s => .ok s
  | e :: es, s => (dramWrite (13 + d.val) (dumpAddr s d n + 32 * e.1) e.2 s).bind (dumpDigests d n es)

/-- The band digests of a compared frame in the dump (R177): each of its writes has been granted, so that whoever sees
recall_done or the frame's entry sees them (R22). -/
def dumpFrame (d : Fin 4) (w : FrameWork) (n : Nat) (s : State) : Except Held State := dumpDigests d n w.digests s

/-- The table and the dump of the frame n after the first lie in populated DRAM. -/
def recallRange (s : State) (d : Fin 4) (w : FrameWork) (n : Nat) : Bool :=
  decide (expAddr s d n + 32 ≤ s.dramSize) &&
  (!onF s (P.DIG_CTRL d) F.DIG_CTRL_dump ||
    (decide (dumpAddr s d n + 32 * w.count ≤ s.dramSize) && !s.imageIn (dumpAddr s d n) (32 * w.count)))

/-- The place of a frame in the expected table, when recall compares it (R177). -/
def recallPlace (s : State) (d : Fin 4) (frame : Nat) : Option Nat :=
  let n := frameSub frame (getReg s (P.DIG_EXP_FIRST d)).toNat
  if onF s (P.DIG_CTRL d) F.DIG_CTRL_recall && decide (n < getF s (P.DIG_EXP_COUNT d) F.DIG_EXP_COUNT_count) then some n
  else none

/-- A frame digest compared while recall is 1, its table entry having been read and its dump written (R177). -/
def recallCompare (d : Fin 4) (w : FrameWork) (h : List Byte) (s : State) : State :=
  match recallPlace s d w.frame with
  | none => s
  | some n =>
    let s := noteCompare d w.frame (decide (s.readBytes (expAddr s d n) 32 = h)) s
    if n + 1 = getF s (P.DIG_EXP_COUNT d) F.DIG_EXP_COUNT_count then setF s (P.DIG_STAT d) F.DIG_STAT_recall_done 1 else s

/-- The queue entry of a frame (R171). Its recall flag is DIG_CTRL.recall as it stands when the entry is formed (R178).
DESIGN CHOICE: R171 names the frames composed while recall was 1, and does not say what a change in between brings. -/
def exportEntry (s : State) (d : Fin 4) (w : FrameWork) (h : List Byte) : ExportEntry :=
  ⟨w.frame, onF s (P.DIG_CTRL d) F.DIG_CTRL_recall, w.fresh, w.carried, w.late, h⟩

/-- A digest formed while the queue is full (R172). -/
def exportOverflow (d : Fin 4) (s : State) : State :=
  raiseTilt (0x1801 + 0x100 * d.val) (setF s (P.DIG_STAT d) F.DIG_STAT_tilt_cause 1)

/-- The DRAM accesses of a frame that recall compares, as requester 13 + d: its table entry is read, and with dump its band
digests are written (R40, R177). -/
def recallAccess (d : Fin 4) (w : FrameWork) (s : State) : Except Held State :=
  match recallPlace s d w.frame with
  | some n =>
    (dramRead (13 + d.val) (expAddr s d n) 32 s).bind (fun s =>
      if onF s (P.DIG_CTRL d) F.DIG_CTRL_dump then dumpFrame d w n s else .ok s)
  | none => .ok s

/-- Why recall cannot compare a frame: its table entry or its dump lies where the manual leaves it unpredictable. -/
def recallStop (s : State) (d : Fin 4) (w : FrameWork) : Bool :=
  match recallPlace s d w.frame with
  | some n => !recallRange s d w n
  | none => false

/-- A frame enters the export queue (R172, R177, R506). -/
def exportFrame (d : Fin 4) (w : FrameWork) (ws : List FrameWork) (h : List Byte) (s : State) : State :=
  let full := decide (16 ≤ s.clu[d].export_.length)
  let s1 := setReg (setClu d { s.clu[d] with frames := ws } s) (P.DIG_LAST d) (BitVec.ofNat 32 w.frame)
  let s2 := if full then s1 else setExport d (s.clu[d].export_ ++ [exportEntry s d w h]) s1
  let s3 := recallCompare d w h s2
  if full then exportOverflow d s3 else s3

/-- DIGEST_EXPORT: the oldest frame of cluster d whose digest exists and whose bands' lateness is decided enters the
export queue, DIG_LAST follows, and recall compares it; a full queue raises tilt (R172, R177, R506). While an access of
recall is not granted the frame waits. -/
def execDigestExport (d : Fin 4) (s : State) : Out :=
  match s.clu[d].frames with
  | [] => .next s
  | w :: ws =>
    match w.digest with
    | none => .next s
    | some h =>
      if w.decided < w.count || s.tilted || !compRuns s d then .next s
      else if recallStop s d w then .fault .writebackRange
      else
        match recallAccess d w s with
        | .ok t => .next (exportFrame d w ws h t)
        | .error h => .next (park h s)

/-- A write of DIG_CTRL: ignored while the sequencer runs; recall 1 over 0 clears the result, 0 over 1 reloads Kettle's
cue position on its timebase cluster (R177, R179, R198). -/
def digCtrlWrite (d : Fin 4) (recallOn dump : Bool) (s : State) : State :=
  if seqRuns s d then s
  else
    let was := onF s (P.DIG_CTRL d) F.DIG_CTRL_recall
    let s := setReg s (P.DIG_CTRL d) (BitVec.ofNat 32 (b2n recallOn + 2 * b2n dump))
    if recallOn && !was then
      setReg (setReg (setClu d { s.clu[d] with missed := false } s) (P.DIG_RESULT d) 0) (P.DIG_MISS_FRAME d) 0xFFFFFFFF
    else if was && !recallOn then cueReload d s
    else s

/-- RECALL_ENABLE: DIG_CTRL written with recall 1 (R177). -/
def execRecallEnable (m : Master) (d : Fin 4) (dump : Bool) (s : State) : Out :=
  gate m true (P.DIG_CTRL d) (fun s => .next (digCtrlWrite d true dump s)) s

/-- RECALL_CLEAR: DIG_CTRL written with recall 0 (R198). -/
def execRecallClear (m : Master) (d : Fin 4) (dump : Bool) (s : State) : Out :=
  gate m true (P.DIG_CTRL d) (fun s => .next (digCtrlWrite d false dump s)) s

end Sys2Proof.Machine
end

