-- ==== Sys2Proof/Machine/SlhDsa.lean ====
section
/-! DEFINITION. SLH-DSA (FIPS 205) with SHA-256, for the two parameter sets of R365. -/
namespace Sys2Proof.Machine

/-- A parameter set of R365; n is 16 and lg_w is 4 in both. -/
structure SlhSet where
  layers : Nat
  /-- The height of a layer's tree, h′. -/
  height : Nat
  forsHeight : Nat
  forsTrees : Nat
  digest : Nat
  deriving DecidableEq, Repr

/-- SLH-DSA-SHA2-128s (0) and SLH-DSA-SHA2-128f (1). -/
def slhSet (f : Nat) : SlhSet := if f = 0 then ⟨7, 9, 12, 14, 30⟩ else ⟨22, 3, 6, 33, 34⟩

/-- An address of a hash call: its layer, its tree, its kind, and the kind's three words. -/
structure Adrs where
  layer : Nat
  tree : Nat
  kind : Nat
  x : Nat
  y : Nat
  z : Nat
  deriving DecidableEq, Repr

/-- The compressed address. -/
def Adrs.bytes (a : Adrs) : List Byte :=
  natToBe 1 a.layer ++ natToBe 8 a.tree ++ natToBe 1 a.kind ++ natToBe 4 a.x ++ natToBe 4 a.y ++ natToBe 4 a.z

/-- F, H, T and PRF of R365: SHA-256 of the padded public seed, the address and the input, cut to n bytes. -/
def seedHash (seed : List Byte) (a : Adrs) (m : List Byte) : List Byte :=
  (sha256 (seed ++ List.replicate 48 0 ++ a.bytes ++ m)).take 16

/-- n digits of b bits, the highest first. -/
def digitsOf (b n : Nat) (bs : List Byte) : List Nat :=
  let len := (n * b + 7) / 8
  (List.range n).map (fun i => (beToNat (bs.take len) >>> (8 * len - b * (i + 1))) % 2 ^ b)

/-- The 16-byte pieces of a byte string. -/
def pieces : Nat → List Byte → List (List Byte)
  | 0, _ => []
  | n + 1, bs => bs.take 16 :: pieces n (bs.drop 16)

/-! ## Merkle trees -/

/-- A hash tree: its leaves, and how a node at a height and index follows from its two children. -/
structure HashTree where
  leaf : Nat → List Byte
  join : Nat → Nat → List Byte → List Byte

/-- The node at a height and index. -/
def HashTree.node (t : HashTree) : Nat → Nat → List Byte
  | 0, i => t.leaf i
  | h + 1, i => t.join (h + 1) i (t.node h (2 * i) ++ t.node h (2 * i + 1))

/-- The siblings on the way from leaf i up h levels. -/
def HashTree.path (t : HashTree) (h i : Nat) : List (List Byte) := (List.range h).map (fun j => t.node j ((i >>> j) ^^^ 1))

/-- The node that a leaf's value and its siblings lead to. -/
def HashTree.climb (t : HashTree) (i : Nat) (x : List Byte) (sibs : List (List Byte)) : List Byte :=
  sibs.zipIdx.foldl (fun y s => t.join (s.2 + 1) (i >>> (s.2 + 1)) (if bit i s.2 then s.1 ++ y else y ++ s.1)) x

/-! ## WOTS+ -/

/-- n further steps of a chain, from step i. -/
def wotsChain (seed : List Byte) (a : Adrs) : Nat → Nat → List Byte → List Byte
  | 0, _, x => x
  | n + 1, i, x => wotsChain seed a n (i + 1) (seedHash seed { a with z := i } x)

/-- The 35 steps that a 16-byte message names: its digits and their checksum. -/
def wotsSteps (m : List Byte) : List Nat :=
  let ds := digitsOf 4 32 m
  ds ++ digitsOf 4 3 (natToBe 2 (16 * (ds.map (fun d => 15 - d)).sum))

/-- The start of chain i of the key pair at a. -/
def wotsSecret (sk seed : List Byte) (a : Adrs) (i : Nat) : List Byte := seedHash seed { a with kind := 5, y := i, z := 0 } sk

/-- The public key from the ends of the chains. -/
def wotsPublic (seed : List Byte) (a : Adrs) (ends : List (List Byte)) : List Byte :=
  seedHash seed { a with kind := 1, y := 0, z := 0 } ends.flatten

/-- The signature of a message, and the public key that a signature leads to. -/
def wotsSign (sk seed : List Byte) (a : Adrs) (m : List Byte) : List (List Byte) :=
  (wotsSteps m).zipIdx.map (fun d => wotsChain seed { a with y := d.2 } d.1 0 (wotsSecret sk seed a d.2))
def wotsFrom (seed : List Byte) (a : Adrs) (sig : List (List Byte)) (m : List Byte) : List Byte :=
  wotsPublic seed a ((wotsSteps m).zipIdx.map (fun d =>
    wotsChain seed { a with y := d.2 } (15 - d.1) d.1 (sig.getD d.2 [])))

/-! ## The hypertree -/

/-- The address of key pair i of a tree. -/
def wotsAdrs (layer tree i : Nat) : Adrs := ⟨layer, tree, 0, i, 0, 0⟩

/-- A layer's tree. -/
def layerTree (sk seed : List Byte) (layer tree : Nat) : HashTree where
  leaf i := wotsPublic seed (wotsAdrs layer tree i)
    ((List.range 35).map (fun j => wotsChain seed { wotsAdrs layer tree i with y := j } 15 0
      (wotsSecret sk seed (wotsAdrs layer tree i) j)))
  join h i x := seedHash seed ⟨layer, tree, 2, 0, h, i⟩ x

/-- The signatures of the layers from one on: the message, then each layer's root, signed by leaf i of its tree. -/
def hyperSign (p : SlhSet) (sk seed : List Byte) : Nat → Nat → Nat → Nat → List Byte → List Byte
  | 0, _, _, _, _ => []
  | n + 1, layer, tree, i, m =>
    let t := layerTree sk seed layer tree
    let sig := wotsSign sk seed (wotsAdrs layer tree i) m
    sig.flatten ++ (t.path p.height i).flatten ++
      hyperSign p sk seed n (layer + 1) (tree / 2 ^ p.height) (tree % 2 ^ p.height) (t.node p.height 0)

/-- The root that the layers' signatures lead to. -/
def hyperRoot (p : SlhSet) (seed : List Byte) : Nat → Nat → Nat → Nat → List Byte → List Byte → List Byte
  | 0, _, _, _, m, _ => m
  | n + 1, layer, tree, i, m, sig =>
    let x := wotsFrom seed (wotsAdrs layer tree i) (pieces 35 sig) m
    let root := (layerTree [] seed layer tree).climb i x (pieces p.height (sig.drop 560))
    hyperRoot p seed n (layer + 1) (tree / 2 ^ p.height) (tree % 2 ^ p.height) root (sig.drop (560 + 16 * p.height))

/-! ## FORS -/

/-- The secret value of FORS leaf i. -/
def forsSecret (sk seed : List Byte) (tree pair i : Nat) : List Byte := seedHash seed ⟨0, tree, 6, pair, 0, i⟩ sk

/-- The FORS trees of key pair pair, their leaves numbered through. -/
def forsTree (sk seed : List Byte) (tree pair : Nat) : HashTree where
  leaf i := seedHash seed ⟨0, tree, 3, pair, 0, i⟩ (forsSecret sk seed tree pair i)
  join h i x := seedHash seed ⟨0, tree, 3, pair, h, i⟩ x

/-- The leaves that a digest picks, one of each tree. -/
def forsLeaves (p : SlhSet) (md : List Byte) : List Nat :=
  (digitsOf p.forsHeight p.forsTrees md).zipIdx.map (fun d => d.2 * 2 ^ p.forsHeight + d.1)

/-- The signature of a digest, and the public key that a signature leads to. -/
def forsSign (p : SlhSet) (sk seed : List Byte) (tree pair : Nat) (md : List Byte) : List Byte :=
  (forsLeaves p md).flatMap (fun i =>
    forsSecret sk seed tree pair i ++ ((forsTree sk seed tree pair).path p.forsHeight i).flatten)
def forsFrom (p : SlhSet) (seed : List Byte) (tree pair : Nat) (md sig : List Byte) : List Byte :=
  let len := 16 * (1 + p.forsHeight)
  let roots := (forsLeaves p md).zipIdx.map (fun l =>
    let part := pieces (1 + p.forsHeight) (sig.drop (len * l.2))
    (forsTree [] seed tree pair).climb l.1 (seedHash seed ⟨0, tree, 3, pair, 0, l.1⟩ (part.headD [])) part.tail)
  seedHash seed ⟨0, tree, 4, pair, 0, 0⟩ roots.flatten

/-! ## The functions of R366 -/

/-- H_msg: MGF1 with SHA-256. -/
def messageDigest (p : SlhSet) (r pk m : List Byte) : List Byte :=
  let x := r ++ pk.take 16 ++ sha256 (r ++ pk ++ m)
  (sha256 (x ++ natToBe 4 0) ++ sha256 (x ++ natToBe 4 1)).take p.digest

/-- What a digest names: the FORS digest, the tree of layer 0, and the leaf of that tree. -/
def digestParts (p : SlhSet) (d : List Byte) : List Byte × Nat × Nat :=
  let mdLen := (p.forsTrees * p.forsHeight + 7) / 8
  let treeBits := p.height * (p.layers - 1)
  let treeLen := (treeBits + 7) / 8
  (d.take mdLen, beToNat ((d.drop mdLen).take treeLen) % 2 ^ treeBits,
    beToNat ((d.drop (mdLen + treeLen)).take ((p.height + 7) / 8)) % 2 ^ p.height)

/-- slh_keygen_internal: the private key SK.seed ‖ SK.prf ‖ PK.seed ‖ PK.root; the public key is its last 32 bytes. -/
def slhKeygen (f : Nat) (skSeed skPrf pkSeed : List Byte) : List Byte :=
  let p := slhSet f
  skSeed ++ skPrf ++ pkSeed ++ (layerTree skSeed pkSeed (p.layers - 1) 0).node p.height 0

/-- The signature of the message proper under a private key. -/
def slhSignBody (f : Nat) (sk m optRand : List Byte) : List Byte :=
  let p := slhSet f
  let skSeed := sk.take 16
  let pk := sk.drop 32
  let seed := pk.take 16
  let r := (hmacSha256 ((sk.drop 16).take 16) (optRand ++ m)).take 16
  let (md, tree, leaf) := digestParts p (messageDigest p r pk m)
  let fors := forsSign p skSeed seed tree leaf md
  r ++ fors ++ hyperSign p skSeed seed p.layers 0 tree leaf (forsFrom p seed tree leaf md fors)

/-- The length of a signature (R365). -/
def sigLen (f : Nat) : Nat :=
  let p := slhSet f
  16 * (1 + p.forsTrees * (1 + p.forsHeight) + p.layers * (35 + p.height))

/-- A signature of the message proper holds under a public key. -/
def slhVerifyBody (f : Nat) (pk m sig : List Byte) : Bool :=
  let p := slhSet f
  let seed := pk.take 16
  let r := sig.take 16
  let (md, tree, leaf) := digestParts p (messageDigest p r pk m)
  let forsLen := 16 * p.forsTrees * (1 + p.forsHeight)
  let x := forsFrom p seed tree leaf md ((sig.drop 16).take forsLen)
  decide (sig.length = sigLen f) && decide (hyperRoot p seed p.layers 0 tree leaf x (sig.drop (16 + forsLen)) = pk.drop 16)

/-- The message proper: a domain byte, the context string, and the message or, in pre-hash form, the OID of SHA-256 and
the message's hash. -/
def slhMessage (pre : Bool) (ctx m : List Byte) : List Byte :=
  BitVec.ofNat 8 (b2n pre) :: BitVec.ofNat 8 ctx.length :: ctx ++
    (if pre then [0x06, 0x09, 0x60, 0x86, 0x48, 0x01, 0x65, 0x03, 0x04, 0x02, 0x01] ++ sha256 m else m)

/-- A message and a context that the engine takes in a form (R366). -/
def slhTakes (pre : Bool) (ctx m : List Byte) : Bool :=
  decide (ctx.length ≤ 255) && decide (m.length ≤ if pre then 2 ^ 32 - 1 else 2 ^ 20)

/-- slh_sign, or hash_slh_sign. -/
def slhSign (f : Nat) (pre : Bool) (sk ctx m optRand : List Byte) : List Byte := slhSignBody f sk (slhMessage pre ctx m) optRand

/-- slh_verify, or hash_slh_verify. -/
def slhVerify (f : Nat) (pre : Bool) (pk ctx m sig : List Byte) : Bool :=
  slhTakes pre ctx m && decide (pk.length = 32) && slhVerifyBody f pk (slhMessage pre ctx m) sig

end Sys2Proof.Machine
end

