-- ==== Sys2Proof/Machine/KeyStore.lean ====
section
/-! DEFINITION. What the key store holds from final test, and the digest that it keeps of its contents (R370 to R373). -/
namespace Sys2Proof.Machine

/-- The bytes f 0 to f (n − 1). -/
def bytesOf (n : Nat) (f : Nat → Byte) : List Byte := (List.range n).map f

/-- The bytes of an ASCII string. -/
def ascii (t : String) : List Byte := t.toList.map (fun c => BitVec.ofNat 8 c.toNat)

/-- The identity key pair, made at final test from two conditioned blocks, and its public key (R372). -/
def identitySk : List Byte :=
  let block := fun n => bytesOf 32 (Config.finalTestBlock n)
  slhKeygen 0 ((block 0).take 16) ((block 0).drop 16) ((block 1).take 16)
def identityPub : List Byte := identitySk.drop 32

/-- The unique ID (R372). -/
def uniqueId : List Byte := (sha256 (ascii "AH7140-UID" ++ identityPub)).take 16

/-- The bytes of an item that may be absent. -/
def itemBytes : Option (List Byte) → List Byte
  | none => [0]
  | some bs => 1 :: bs

/-- The contents of fuses and array, item by item in the order of R370: the root hash, the identity pair, the unique ID, the
withdrawal bit, the security rows, the checkpoint pair and the floor key with their generations. The order and the form
are a DESIGN CHOICE: the manual says only that a SHA-256 covers them (R373). -/
def storeImage (root : Option (List Byte)) (v1 : Bool) (rows : List Nat) (ckpt floor : Option (List Byte))
    (ckptGen floorGen : Nat) : List Byte :=
  itemBytes root ++ identitySk ++ uniqueId ++ [BitVec.ofNat 8 (b2n v1)] ++ natToLe 1 rows.length ++
    rows.flatMap (natToLe 2) ++ itemBytes ckpt ++ natToLe 1 ckptGen ++ itemBytes floor ++ natToLe 1 floorGen

/-- Bytes with the bits of another string flipped, where it reaches. -/
def flipped : List Byte → List Byte → List Byte
  | b :: bs, e :: es => (b ^^^ e) :: flipped bs es
  | bs, _ => bs

end Sys2Proof.Machine
end

