-- ==== Sys2Proof/Machine/Trust.lean ====
section
/-! DEFINITION. The trust cluster: signatures, the key store, entropy and the Hash_DRBGs (chapter 18). -/
namespace Sys2Proof.Machine

/-- Bytes 4k to 4k + 3 as a word, in the layout of R349. -/
def wordOf (bs : List Byte) (k : Nat) : Word := BitVec.ofNat 32 (leToNat ((bs.drop (4 * k)).take 4))

/-! ## Hash_DRBG (SP 800-90A, R382) -/

/-- Hash_df to 440 bits. -/
def hashDf (input : List Byte) : Nat :=
  beToNat ((sha256 ([1#8] ++ natToBe 4 440 ++ input) ++ sha256 ([2#8] ++ natToBe 4 440 ++ input)).take 55)

/-- V as 55 bytes. -/
def seedBytes (v : Nat) : List Byte := natToBe 55 v

/-- An instance from its seed material. -/
def drbgSeed (material : List Byte) : Drbg :=
  let v := hashDf material
  ⟨v, hashDf ([0#8] ++ seedBytes v), 1⟩

/-- Instantiation from an entropy block, a nonce and the personalization string (R382). -/
def drbgInstantiate (entropy nonce pers : List Byte) : Drbg := drbgSeed (entropy ++ nonce ++ pers)

/-- Reseeding from one block (R384). -/
def drbgReseed (d : Drbg) (entropy : List Byte) : Drbg := drbgSeed ([1#8] ++ seedBytes d.v ++ entropy)

/-- n blocks of Hashgen from data. -/
def hashgen : Nat → Nat → List Byte
  | 0, _ => []
  | n + 1, data => sha256 (seedBytes data) ++ hashgen n ((data + 1) % 2 ^ 440)

/-- A generate of n bytes, and the instance after it. -/
def drbgGenerate (d : Drbg) (n : Nat) : List Byte × Drbg :=
  let out := (hashgen ((n + 31) / 32) d.v).take n
  let h := beToNat (sha256 ([3#8] ++ seedBytes d.v))
  (out, ⟨(d.v + h + d.c + d.count) % 2 ^ 440, d.c, d.count + 1⟩)

/-- The state with the entropy source changed. -/
def setEntropy (e : Entropy) (s : State) : State := { s with sec := { s.sec with entropy := e } }

/-- SEC_ES_CNT.pool follows the pool (R390). -/
def notePool (s : State) : State := setF s P.SEC_ES_CNT F.SEC_ES_CNT_pool s.sec.entropy.pool.length

/-- A reseed of the outcome instance is due before the next generate (R384). -/
def reseedDue (s : State) : Bool :=
  onF s P.SEC_DRBG_CFG F.SEC_DRBG_CFG_reseed || onF s P.SEC_DRBG_CFG F.SEC_DRBG_CFG_pr ||
  decide (2 ^ getF s P.SEC_DRBG_CFG F.SEC_DRBG_CFG_reseed_log2 ≤ s.sec.gens)

/-- The outcome instance waits for a block: a request is at its port, and a reseed comes before its generate (R384, R388). -/
def outcomeWaits (s : State) : Bool := s.sec.outcome.isSome && !s.sec.reqs.isEmpty && reseedDue s

/-- While a consumer waits for a block and the pool is empty, pool_low is set (R380). -/
def noteLow (s : State) : State :=
  if s.powered 2 && s.sec.entropy.pool.isEmpty && (outcomeWaits s || s.sec.mgmtWaits || s.sec.inst.isSome) then
    setF s P.SEC_STAT F.SEC_STAT_pool_low 1
  else s

/-- One conditioned block from the pool, delivered once (R380). -/
def takeBlock (s : State) : Option (List Byte × State) :=
  match s.sec.entropy.pool with
  | b :: rest => some (b, notePool (setEntropy { s.sec.entropy with pool := rest } s))
  | [] => none

/-- The management instance after a generate, waiting for nothing. -/
def setMgmt (d : Drbg) (s : State) : State := { s with sec := { s.sec with mgmt := some d, mgmtWaits := false } }

/-- n bytes from the management DRBG, which reseeds every 2^16 generates; none while it is not instantiated, or waits for
a block, which the outcome instance takes first (R380, R382, R384). -/
def mgmtDraw (n : Nat) (s : State) : Option (List Byte) × State :=
  match s.sec.mgmt with
  | none => (none, s)
  | some d =>
    if d.count ≤ 65536 then (some (drbgGenerate d n).1, setMgmt (drbgGenerate d n).2 s)
    else
      let waits := (none, noteLow { s with sec := { s.sec with mgmtWaits := true } })
      if outcomeWaits s then waits
      else
        match takeBlock s with
        | none => waits
        | some (b, s1) => (some (drbgGenerate (drbgReseed d b) n).1, setMgmt (drbgGenerate (drbgReseed d b) n).2 s1)

/-! ## SLH-DSA (R365 to R369) -/

/-- The signature that the engine makes with opt_rand r: a fault in the work may flip the bits that e names. -/
def slhMade (set : Nat) (pre : Bool) (sk ctx msg r e : List Byte) : List Byte := flipped (slhSign set pre sk ctx msg r) e

/-- The signature holds under the public key of the signing key (R368). -/
def slhHolds (set : Nat) (pre : Bool) (sk ctx msg sig : List Byte) : Bool := slhVerify set pre (sk.drop 32) ctx msg sig

/-- How a signing job ends, or that it waits for opt_rand. -/
inductive SignResult where
  | waits
  | failed
  | signed (sig : List Byte)
  deriving DecidableEq, Repr

/-- A signature released. -/
def releaseSig (sig : List Byte) (s : State) : SignResult × State := (.signed sig, { s with sec := { s.sec with sig := sig } })

/-- The state with the second signature of a job still to be made, or not. -/
def setRedraw (b : Bool) (s : State) : State := { s with sec := { s.sec with redraw := b } }

/-- The second signature, with fresh opt_rand: when its check fails too, tilt with cause 4 (R368). -/
def slhAgain (set : Nat) (pre : Bool) (sk ctx msg e2 : List Byte) (s : State) : SignResult × State :=
  match mgmtDraw 16 s with
  | (none, s1) => (.waits, setRedraw true s1)
  | (some r, s1) =>
    let g := slhMade set pre sk ctx msg r e2
    if slhHolds set pre sk ctx msg g then releaseSig g (setRedraw false s1)
    else (.failed, raiseTilt 0x3904 (setF (setRedraw false s1) P.SEC_STAT F.SEC_STAT_tilt_cause 4))

/-- A hedged signature, checked before it is released: when the first check fails the engine signs once more with fresh
opt_rand, and a second failure raises tilt with cause 4 (R366, R368). e1 and e2 are the bits that a fault flips in the two
signatures; none when it works. Without opt_rand the job waits, and one whose first check has failed goes on from there. -/
def slhSignOp (set : Nat) (pre : Bool) (sk ctx msg e1 e2 : List Byte) (s : State) : SignResult × State :=
  if s.sec.redraw then slhAgain set pre sk ctx msg e2 s
  else
    match mgmtDraw 16 s with
    | (none, s1) => (.waits, s1)
    | (some r, s1) =>
      let g := slhMade set pre sk ctx msg r e1
      if slhHolds set pre sk ctx msg g then releaseSig g s1 else slhAgain set pre sk ctx msg e2 s1

/-- HASH_SLH_SIGN: the SHA-256 pre-hash form of a context and a message within R366's limits (R366, R368). No unit of R369
signs in this form, and the stored keys sign in the pure form only, so the job brings its key. DESIGN CHOICE. -/
def execHashSlhSign (key : SlhKey) (ctx msg e1 e2 : List Byte) (s : State) : Out :=
  if s.powered 2 && decide (key.sk.length = 64) && slhTakes true ctx msg then
    .next (slhSignOp (b2n key.set128f) true key.sk ctx msg e1 e2 s).2
  else .next s

/-- A verification job: its result is the engine's (R366). -/
def verifyJob (set : Nat) (pre : Bool) (pk ctx msg sig : List Byte) (s : State) : Out :=
  if s.powered 2 then
    .next { s with sec := { s.sec with verified := slhVerify set pre pk ctx msg sig } }
  else .next s

/-- SLH_VERIFY: the pure form (R366). -/
def execSlhVerify (set128f : Bool) (pk ctx msg sig : List Byte) (s : State) : Out :=
  verifyJob (b2n set128f) false pk ctx msg sig s

/-- HASH_SLH_VERIFY: the SHA-256 pre-hash form (R366). -/
def execHashSlhVerify (set128f : Bool) (pk ctx msg sig : List Byte) (s : State) : Out :=
  verifyJob (b2n set128f) true pk ctx msg sig s

/-! ## Fuses and keys (R375 to R377) -/

/-- The staged data of a command: SEC_FUSE_DATA0 to 7, in the byte layout of R349. -/
def fuseData (s : State) : List Byte :=
  (List.range 8).flatMap (fun k => natToLe 4 (getReg s (P.SEC_FUSE_DATA k)).toNat)

/-- svn_min: the value of the highest fused row, 0 when none is fused (R376). -/
def svnMin (s : State) : Nat := s.sec.svnRows.getLastD 0

/-- Why a command of R375 is refused, as the result code of SEC_FUSE_CMD: 2 already programmed or full, 3 value out of
range, 4 stage or manifest version; 0 when its condition holds. -/
def fuseRefusal (op : Nat) (s : State) : Nat :=
  let v := (getReg s (P.SEC_FUSE_DATA 0)).toNat % 65536
  if op = 1 then (if s.sec.root.isNone then 0 else 2)
  else if op = 2 then
    (if bootStage s = 6 ∧ getF s P.CFG_STAT F.CFG_STAT_manifest_ver = 2 then (if s.sec.v1Withdrawn then 2 else 0) else 4)
  else if bootStage s ≠ 6 then 4
  else if op = 3 then
    (if 8 ≤ s.sec.svnRows.length then 2
    else if svnMin s < v ∧ v ≤ getF s P.CFG_SVN F.CFG_SVN_svn then 0 else 3)
  else if op = 4 then (if s.sec.ckptGen < 255 then 0 else 2)
  else (if s.sec.floorGen < 255 then 0 else 2)

/-- The ops that R375 lists. -/
def fuseOps : List Nat := [1, 2, 3, 4, 5]

/-- The end of a command: data cleared, fuse_done set, the result reported (R375). -/
def fuseEnd (result : Nat) (s : State) : State :=
  let s1 := (List.range 8).foldl (fun t k => setReg t (P.SEC_FUSE_DATA k) 0) s
  let s2 := setF s1 P.SEC_STAT F.SEC_STAT_fuse_done 1
  let s3 := setF (setF s2 P.SEC_FUSE_CMD F.SEC_FUSE_CMD_busy 0) P.SEC_FUSE_CMD F.SEC_FUSE_CMD_result result
  { s3 with sec := { s3.sec with cmd := none } }

/-- A write of an op to SEC_FUSE_CMD from the debug port; ignored while busy (R375). An op that R375 does not list starts
no command: the manual leaves open what it does. DESIGN CHOICE. -/
def fuseCommand (op : Nat) (s : State) : State :=
  if onF s P.SEC_FUSE_CMD F.SEC_FUSE_CMD_busy || !fuseOps.contains op then s
  else if fuseRefusal op s ≠ 0 then fuseEnd (fuseRefusal op s) s
  else
    let s1 := setF (setF s P.SEC_FUSE_CMD F.SEC_FUSE_CMD_busy 1) P.SEC_FUSE_CMD F.SEC_FUSE_CMD_result 0
    { s1 with sec := { s1.sec with cmd := some (op, fuseData s), cmdStarted := !s1.supplyHeld } }

/-- A fuse command by a master: cores' writes are ignored (R375). -/
def fuseRow (m : Master) (op : Nat) (s : State) : Out :=
  gate m true P.SEC_FUSE_CMD (fun s => match m with
    | .debug => .next (fuseCommand op s)
    | .core _ => .next s) s

/-- PROGRAM_ROOT: op 0x1 (R375). -/
def execProgramRoot (m : Master) (s : State) : Out := fuseRow m 1 s

/-- WITHDRAW_VERSION_1: op 0x2 (R375). -/
def execWithdrawVersion1 (m : Master) (s : State) : Out := fuseRow m 2 s

/-- RAISE_SECURITY_MINIMUM: op 0x3 (R375). -/
def execRaiseSecurityMinimum (m : Master) (s : State) : Out := fuseRow m 3 s

/-- GENERATE_CHECKPOINT_KEY: op 0x4 (R375). -/
def execGenerateCheckpointKey (m : Master) (s : State) : Out := fuseRow m 4 s

/-- LOAD_FLOOR_KEY: op 0x5 (R375). -/
def execLoadFloorKey (m : Master) (s : State) : Out := fuseRow m 5 s

/-- A value of 16 bits that a row read back wrong holds. -/
def badRow (s : State) : Nat := leToNat (bytesOf 2 (Config.badFuse s.free))

/-- What a fuse or key command leaves in the key store, data its data and good saying whether its read-back agrees; none
while its key waits for the management DRBG (R375, R377). The 48 bytes of op 0x4 are SK.seed, SK.prf and PK.seed. -/
def fuseEffect (op : Nat) (data : List Byte) (good : Bool) (s : State) : Option Trust × State :=
  let t := s.sec
  if op = 1 then (some { t with root := some (if good then data else bytesOf 32 (Config.badFuse s.free)) }, s)
  else if op = 2 then (some { t with v1Withdrawn := good || (Config.badFuse s.free 0).getLsbD 0 }, s)
  else if op = 3 then
    (some { t with svnRows := t.svnRows ++ [if good then leToNat (data.take 2) else badRow s] }, s)
  else if op = 5 then (some { t with floorKey := some data, floorGen := t.floorGen + 1 }, s)
  else
    match mgmtDraw 48 s with
    | (some k, s1) =>
      let key := slhKeygen 1 (k.take 16) ((k.drop 16).take 16) (k.drop 32)
      (some { s1.sec with ckpt := some key, ckptGen := t.ckptGen + 1 }, s1)
    | (none, s1) => (none, s1)

/-- The contents of the key store (R370, R373). -/
def Trust.image (t : Trust) : List Byte :=
  storeImage t.root t.v1Withdrawn t.svnRows t.ckpt t.floorKey t.ckptGen t.floorGen

/-- The key store after a command, its SHA-256 updated in the same commit (R373). -/
def Trust.summed (t : Trust) : Trust := { t with storeSum := some (sha256 t.image) }

/-- FUSE_COMMAND_END: the command under way ends with its read-back; one with a row still to start waits while commits
are held, and a key waits for the management DRBG (R375, R377, R455). -/
def execFuseCommandEnd (good : Bool) (s : State) : Out :=
  match s.sec.cmd with
  | none => .next s
  | some (op, data) =>
    if s.supplyHeld && !s.sec.cmdStarted then .next s
    else
      let bad := !good && decide (op ≤ 3)
      match fuseEffect op data (!bad) s with
      | (none, s1) => .next s1
      | (some t, s1) =>
        let s2 := { s1 with sec := t.summed }.draw
        let s3 := if bad then setF s2 P.SEC_STAT F.SEC_STAT_fuse_err 1 else s2
        .next (fuseEnd (if bad then 5 else 1) s3)

/-- The key store's check at PD2 power-up: the SHA-256 of what its fuses and array read as, with the bits that damage has
flipped in them, against the one it keeps (R373). Undamaged, the contents of final test have the sum of final test. -/
def storeIntact (t : Trust) (damage : List Byte) : Bool :=
  match t.storeSum, damage with
  | none, [] => true
  | sum, e => decide (sha256 (flipped t.image e) = sum.getD (sha256 t.image))

/-! ## Entropy -/

/-- The repetition count test fails on a list of samples: one value 81 times in a row (R379). -/
def rctFails : Option Bool → Nat → List Bool → Bool
  | _, _, [] => false
  | last, run, b :: bs =>
    let r := if last = some b then run + 1 else 1
    decide (81 ≤ r) || rctFails (some b) r bs

/-- The adaptive proportion test fails on a window (R379). -/
def aptFails (w : List Bool) : Bool :=
  match w with
  | [] => false
  | b :: _ => decide (832 ≤ w.count b)

/-- An intermittent failure: the samples since the last window that passed are discarded, the failure counted (R379). -/
def intermittent (cnt : Fld) (s : State) : State :=
  let e := s.sec.entropy
  let s1 := setEntropy { e with fresh := [], n := 0, firstCount := 0, run := 0, windows := e.windows + 1,
                                fails := e.windows :: e.fails } s
  setF (addF s1 P.SEC_ES_CNT cnt 1) P.SEC_STAT F.SEC_STAT_es_intermittent 1

/-- The raw tap takes a sample: 32 of them fill SEC_RAW_DATA, or are lost unread (R381, R390). -/
def rawSample (b : Bool) (s : State) : State :=
  let e := s.sec.entropy
  let raw := e.raw ++ [b]
  if raw.length < 32 then setEntropy { e with raw := raw } s
  else
    let s1 := setEntropy { e with raw := [] } s
    if onF s1 P.SEC_RAW_CTRL F.SEC_RAW_CTRL_avail then setF s1 P.SEC_RAW_CTRL F.SEC_RAW_CTRL_overflow 1
    else
      let v := (raw.zipIdx.map (fun x => b2n x.1 <<< x.2)).sum
      setF (setReg s1 P.SEC_RAW_DATA (BitVec.ofNat 32 v)) P.SEC_RAW_CTRL F.SEC_RAW_CTRL_avail 1

/-- A sample reaches the raw tap while its enable is 1, before any health test (R381). -/
def tapSample (b : Bool) (s : State) : State := if onF s P.SEC_RAW_CTRL F.SEC_RAW_CTRL_enable then rawSample b s else s

/-- START_UP_TEST: 1,024 samples at PD2 power-up, repeated once, tilt cause 1 on the second failure, after which no further
test runs; the raw tap sees its samples too (R379, R381). -/
def execStartUpTest (samples : List Bool) (s : State) : Out :=
  let fails := s.sec.entropy.startFails
  if !s.powered 2 || onF s P.SEC_STAT F.SEC_STAT_es_ok || decide (samples.length ≠ 1024) || decide (2 ≤ fails) then .next s
  else
    let s1 := samples.foldl (fun t b => tapSample b t) s
    if !(rctFails none 0 samples) && !(aptFails samples) then .next (setF s1 P.SEC_STAT F.SEC_STAT_es_ok 1)
    else
      let s2 := setEntropy { s1.sec.entropy with startFails := fails + 1 } s1
      if fails = 0 then .next s2 else .next (raiseTilt 0x3901 (setF s2 P.SEC_STAT F.SEC_STAT_tilt_cause 1))

/-- ENTROPY_SAMPLE: a noise sample passes the repetition count and adaptive proportion tests; a window that passes
releases its samples to conditioning (R379, R381). -/
def execEntropySample (b : Bool) (s : State) : Out :=
  if !s.powered 2 then .next s
  else if !onF s P.SEC_STAT F.SEC_STAT_es_ok then .next (tapSample b s)
  else
    let tap := onF s P.SEC_RAW_CTRL F.SEC_RAW_CTRL_enable
    let s0 := tapSample b s
    let e := s0.sec.entropy
    let run := if decide (0 < e.run) && e.last == b then e.run + 1 else 1
    let first := if e.n = 0 then b else e.first
    let cnt := (if e.n = 0 then 0 else e.firstCount) + b2n (first == b)
    let n := e.n + 1
    let fresh := if tap then e.fresh else b :: e.fresh
    let e1 := { e with last := b, run := run, first := first, firstCount := cnt, n := n, fresh := fresh }
    let s1 := setEntropy e1 s0
    if 81 ≤ run then .next (intermittent F.SEC_ES_CNT_rct_fail s1)
    else if 832 ≤ cnt then .next (intermittent F.SEC_ES_CNT_apt_fail s1)
    else if n = 1024 then
      .next (setEntropy { e1 with n := 0, firstCount := 0, fresh := [], passed := e1.passed ++ fresh.reverse,
                                  windows := e1.windows + 1 } s1)
    else .next s1

/-- Three failures lie within 65,536 consecutive windows (R379). -/
def persistent (e : Entropy) : Bool :=
  match e.fails with
  | a :: _ :: c :: _ => decide (a < c + 65536)
  | _ => false

/-- PERSISTENT_FAILURE: three intermittent failures within 65,536 windows raise tilt with cause 2 (R379). -/
def execPersistentFailure (s : State) : Out :=
  if s.powered 2 && persistent s.sec.entropy then
    .next (raiseTilt 0x3902 (setF (setEntropy { s.sec.entropy with fails := [] } s)
      P.SEC_STAT F.SEC_STAT_tilt_cause 2))
  else .next s

/-- The message of a group of samples: sample j is bit j mod 8 of byte j div 8 (R380). -/
def packSamples (bs : List Bool) : List Byte :=
  natToLe 80 ((bs.zipIdx.map (fun x => b2n x.1 <<< x.2)).sum)

/-- The personalization strings of R382. -/
def persOutcome : List Byte := ascii "AH7140-OUTCOME" ++ uniqueId
def persMgmt : List Byte := ascii "AH7140-MGMT" ++ uniqueId

/-- The instantiation under way takes blocks from the pool, n at most; with four, the first two the outcome instance's,
both instances are instantiated (R380, R382, R383). -/
def feedInstances : Nat → State → State
  | 0, s => s
  | n + 1, s =>
    match s.sec.inst, takeBlock s with
    | some [b1, b2, b3], some (b4, s1) =>
      noteLow (setF { s1 with sec := { s1.sec with
        outcome := some (drbgInstantiate b1 (b2.take 16) persOutcome)
        mgmt := some (drbgInstantiate b3 (b4.take 16) persMgmt)
        inst := none } } P.SEC_STAT F.SEC_STAT_drbg_inst 1)
    | some got, some (b, s1) => feedInstances n { s1 with sec := { s1.sec with inst := some (got ++ [b]) } }
    | _, _ => noteLow s

/-- CONDITIONED_BLOCK: 640 consecutive passing samples become a pool block while the pool has room; an instantiation under
way takes it (R380). -/
def execConditionedBlock (s : State) : Out :=
  let e := s.sec.entropy
  if s.powered 2 && decide (640 ≤ e.passed.length) && decide (e.pool.length < 8) then
    .next (feedInstances 4 (notePool (setEntropy { e with
      passed := e.passed.drop 640
      pool := e.pool ++ [sha256 (packSamples (e.passed.take 640))] } s)))
  else .next s

/-- KNOWN_ANSWER_TEST: after the start-up test; a wrong answer raises tilt with cause 3, else both instances are
instantiated from two conditioned blocks each, as the pool gives them (R380, R382, R383). -/
def execKnownAnswerTest (ok : Bool) (s : State) : Out :=
  if !s.powered 2 || !onF s P.SEC_STAT F.SEC_STAT_es_ok || onF s P.SEC_STAT F.SEC_STAT_drbg_inst || s.sec.inst.isSome then
    .next s
  else if !ok then .next (raiseTilt 0x3903 (setF s P.SEC_STAT F.SEC_STAT_tilt_cause 3))
  else .next (feedInstances 4 { s with sec := { s.sec with inst := some [] } })

/-! ## The outcome port (R385 to R389) -/

/-- A core that has an outcome port: C0 to C7 (R385). -/
def portCore (k : CoreId) : Option (Fin 8) := if h : k.val < 8 then some ⟨k.val, h⟩ else none

/-- The words of a request for n: for an n outside 1 to 16 one of those, which one the manual does not say. DESIGN CHOICE. -/
def requestWords (n : Nat) (s : State) : Nat :=
  if n = 0 ∨ 16 < n then 1 + Config.unlistedCode s.free P.SEC_DRBG_REQ % 16 else n

/-- A write of n to core k's SEC_DRBG_REQ (R386, R389, R469). -/
def drbgRequest (k : Fin 8) (n : Nat) (s : State) : Out :=
  let st := own k P.SEC_DRBG_PSTAT
  if s.tilted || onF s st F.SEC_DRBG_PSTAT_busy then .next (setF s st F.SEC_DRBG_PSTAT_err 1)
  else
    let s1 := if onF s st F.SEC_DRBG_PSTAT_ready then discardUnread k s else s
    let s2 := setF (setF s1 st F.SEC_DRBG_PSTAT_busy 1) st F.SEC_DRBG_PSTAT_words (requestWords n s)
    .next (noteLow { s2 with
      sec := { s2.sec with reqs := s2.sec.reqs ++ [(k.val, requestWords n s)] }
      free := s2.free + b2n (decide (n = 0 ∨ 16 < n)) })

/-- DRBG_REQUEST: core k writes n to its SEC_DRBG_REQ (R386). -/
def execDrbgRequest (k : CoreId) (n : Fin 32) (s : State) : Out :=
  gate (.core k) true P.SEC_DRBG_REQ (fun s => match portCore k with
    | some p => drbgRequest p n.val s
    | none => .next s) s

/-- The outcome instance ready to generate: reseeded when due; absent while it waits for a block (R384, R388). -/
def outcomeReady (s : State) : Option Drbg × State :=
  match s.sec.outcome with
  | none => (none, s)
  | some d =>
    if reseedDue s then
      match takeBlock s with
      | none => (none, noteLow s)
      | some (b, s1) =>
        let n := (getReg s1 P.SEC_DRBG_RESEEDS).toNat
        let s2 := setReg s1 P.SEC_DRBG_RESEEDS (BitVec.ofNat 32 (Nat.min (n + 1) 0xFFFFFFFF))
        let s3 := setF (setReg s2 P.SEC_DRBG_GEN 0) P.SEC_DRBG_CFG F.SEC_DRBG_CFG_reseed 0
        (some (drbgReseed d b), { s3 with sec := { s3.sec with gens := 0 } })
    else (some d, s)

/-- GENERATE: the outcome instance serves the oldest request, reseeding when due, and sets ready (R384, R387). -/
def execDrbgGenerate (s : State) : Out :=
  if !s.powered 2 || !onF s P.SEC_STAT F.SEC_STAT_drbg_inst then .next s
  else
    match s.sec.reqs with
    | [] => .next s
    | (k, n) :: rest =>
      match outcomeReady s with
      | (none, s1) => .next s1
      | (some d, s1) =>
        let (out, d1) := drbgGenerate d (4 * n)
        let s2 := (List.range 16).foldl (fun t i => setReg t (own k (P.SEC_DRBG_OUT i)) (wordOf out i)) s1
        let s3 := setReg s2 P.SEC_DRBG_GEN (BitVec.ofNat 32 (s2.sec.gens + 1))
        let st := own k P.SEC_DRBG_PSTAT
        let s4 := setF (setF s3 st F.SEC_DRBG_PSTAT_busy 0) st F.SEC_DRBG_PSTAT_ready 1
        .next (noteLow { s4 with sec := { s4.sec with
          reqs := rest
          gens := s4.sec.gens + 1
          outcome := some d1
          unread := if h : k < 8 then s4.sec.unread.set k (BitVec.ofNat 16 (2 ^ n - 1)) else s4.sec.unread } })

/-- RESEED_REQUEST: a 1 written to SEC_DRBG_CFG.reseed (R384). -/
def execReseedRequest (m : Master) (s : State) : Out :=
  gate m true P.SEC_DRBG_CFG (fun s => .next (noteLow (setF s P.SEC_DRBG_CFG F.SEC_DRBG_CFG_reseed 1))) s

/-- A read of word i of core k's outcome: the word, and the state with it cleared; ready clears with the last of the n
words (R386, R389). -/
def outcomeRead (k : Fin 8) (i : Nat) (s : State) : Word × State :=
  let st := own k P.SEC_DRBG_PSTAT
  if onF s st F.SEC_DRBG_PSTAT_ready then
    let w := getReg s (own k (P.SEC_DRBG_OUT i))
    let s1 := setReg s (own k (P.SEC_DRBG_OUT i)) 0
    let left := s1.sec.unread[k] &&& ~~~(BitVec.ofNat 16 (1 <<< i))
    let s2 := { s1 with sec := { s1.sec with unread := s1.sec.unread.set k left } }
    (w, if left = 0 then setF s2 st F.SEC_DRBG_PSTAT_ready 0 else s2)
  else (0, s)

/-- OUTCOME_READ: core k reads SEC_DRBG_OUT i (R386). -/
def execOutcomeRead (k : CoreId) (i : Fin 16) (s : State) : Out :=
  gate (.core k) false (P.SEC_DRBG_OUT i) (fun s => match portCore k with
    | some p => let (w, s1) := outcomeRead p i.val s; .next { s1 with rdata := w }
    | none => .next s) s

/-- SEC_FUSE and SEC_KEYS as read (R390). -/
def secFuseWord (s : State) : Word :=
  BitVec.ofNat 32 (b2n s.sec.v1Withdrawn + 2 * s.sec.svnRows.length + 0x20 * b2n s.sec.root.isNone + 0x40 +
    0x10000 * svnMin s)
def secKeysWord (s : State) : Word :=
  BitVec.ofNat 32 (b2n s.sec.ckpt.isSome + 2 * b2n s.sec.floorKey.isSome + 0x100 * s.sec.ckptGen +
    0x10000 * s.sec.floorGen)

/-- The public keys, unique ID and root hash as read (R390). -/
def secPublicWord (p : Nat) (s : State) : Word :=
  if p < 0xD0120 then wordOf identityPub ((p - 0xD0100) / 4)
  else if p < 0xD0140 then wordOf ((s.sec.ckpt.getD []).drop 32) ((p - 0xD0120) / 4)
  else if p < 0xD0150 then wordOf uniqueId ((p - 0xD0140) / 4)
  else wordOf (s.sec.root.getD []) ((p - 0xD0150) / 4)

end Sys2Proof.Machine
end

