-- ==== Sys2Proof/Machine/FloorSend.lean ====
section
/-! DEFINITION. The floor link's datagrams and what it sends (R422 to R425), and a ledger slot's record. -/
namespace Sys2Proof.Machine

/-- The bytes of a ledger slot's first n granules. -/
def slotBytes (s : State) (slot n : Nat) : List Byte := granuleBytes s (slotGranule slot) n

/-- The boot counter of the committed record in a slot, with its hash (R399). -/
def slotRecord (s : State) (slot : Nat) : Option Newest :=
  let t0 := mramAt s (slotGranule slot + 350)
  let t1 := mramAt s (slotGranule slot + 351)
  if gWord t0 0 = 0x5452444C ∧ granuleOk t0 = true ∧ gWord t0 2 = slot then
    let h := sha256 ((slotBytes s slot 346).take 11056)
    if t1 = BitVec.ofNat 256 (leToNat h) then some ⟨slot, gWord t0 1, h⟩ else none
  else none

/-- The oldest committed record above the acknowledged counter (R424). -/
def oldestRecord (s : State) : Option Newest :=
  ((List.range 558).filterMap (slotRecord s)).foldl (fun x r =>
    if r.boot ≤ s.ldg.acked then x
    else
      match x with
      | none => some r
      | some y => if r.boot < y.boot then some r else some y) none

/-! ## Datagrams (R422) -/

/-- The session: 0 idle, 1 hello, 2 ready, 3 refused; and the negotiated version (R424). -/
def floorSession (s : State) : Nat := getF s P.FLR_STAT F.FLR_STAT_session
def floorVersion (s : State) : Nat := getF s P.FLR_STAT F.FLR_STAT_version

/-- A port's link status bit, and whether the active port is up (R420). -/
def floorLinkFld (p : Nat) : Fld := if p = 0 then F.FLR_STAT_link0 else F.FLR_STAT_link1
def floorUp (s : State) : Bool := onF s P.FLR_STAT (floorLinkFld (getF s P.FLR_STAT F.FLR_STAT_port))

/-- The floor key; a part that holds none has a value that the manual does not give (R370). -/
def floorKeyBytes (s : State) : List Byte := s.sec.floorKey.getD (bytesOf 32 Config.absentFloorKey)

/-- A header of 32 bytes. -/
def floorHeader (version type_ frag count domain seq msg len : Nat) : List Byte :=
  natToLe 1 version ++ natToLe 1 type_ ++ natToLe 1 frag ++ natToLe 1 count ++ natToLe 4 domain ++ natToLe 8 seq ++
    natToLe 8 msg ++ natToLe 2 len ++ List.replicate 6 0

/-- A datagram's tag: HMAC-SHA-256 under the floor key over header and body. -/
def floorTag (s : State) (bytes : List Byte) : List Byte := hmacSha256 (floorKeyBytes s) bytes

/-- A body cut into n fragments of 1,024 bytes, the last one shorter. -/
def floorFragments : Nat → List Byte → List (List Byte)
  | 0, _ => []
  | n + 1, body => body.take 1024 :: floorFragments n (body.drop 1024)

/-- The number of fragments of a body. -/
def fragCount (body : List Byte) : Nat := Nat.max 1 ((body.length + 1023) / 1024)

/-- The 7140's next seq. -/
def floorSeq (s : State) : Nat := 4294967296 * (getReg s P.LDG_BOOTCNT).toNat + s.flr.sent % 4294967296

/-- The words of an address: one for IPv4, four for IPv6 (R421). -/
def addressWords (port : Nat → Nat) (s : State) : List Word :=
  (List.range (if onF s P.FLR_CTRL F.FLR_CTRL_ipv6 then 4 else 1)).map (fun k => getReg s (port k))

/-- The bits of an address, its first byte highest. -/
def addressBits (ws : List Word) : Nat :=
  beToNat (ws.flatMap (fun w => if Config.addressHighFirst then natToBe 4 w.toNat else natToLe 4 w.toNat))

/-- Two addresses share the device's prefix (R421). -/
def samePrefix (a b : List Word) (s : State) : Bool :=
  let len := 32 * a.length
  let n := Nat.min len (getF s P.FLR_PREFIX F.FLR_PREFIX_prefix)
  decide (addressBits a >>> (len - n) = addressBits b >>> (len - n))

/-- The port runs 2500BASE-X, with its link status from PCS synchronisation, and not SGMII with the PHY's word (R419). -/
def floorMode (s : State) (p : Nat) : Bool := onF s P.FLR_CTRL (if p = 0 then F.FLR_CTRL_mode0 else F.FLR_CTRL_mode1)

/-- The active port, and the MAC address that serves it (R419, R420). -/
def floorPort (s : State) : Nat := getF s P.FLR_STAT F.FLR_STAT_port
def floorMac : List Byte := 2 :: uniqueId.take 5

/-- The device's own address, and that of the next hop: the host when it shares the device's prefix, and the gateway otherwise
(R421). -/
def floorOwn (s : State) : List Word := addressWords P.FLR_ADDR s
def nextHop (s : State) : List Word :=
  let host := addressWords P.FLR_HOST s
  if samePrefix (floorOwn s) host s then host else addressWords P.FLR_GW s

/-- A frame of address resolution: ARP, or neighbour discovery over IPv6 (R420, R421). -/
def resolution (kind : Resolution) (target : List Word) (asker : Option (List Word × List Byte)) (s : State) : FloorFrame :=
  let f : NeighbourFrame := ⟨kind, floorPort s, floorMode s (floorPort s), floorMac, floorOwn s, target, asker⟩
  if onF s P.FLR_CTRL F.FLR_CTRL_ipv6 then .neighbour f else .arp f

/-- The next hop's MAC address: the one it has been resolved to, or the one with which it answers (R421). -/
def hopMac (s : State) : List Byte :=
  match s.flr.hop with
  | some (a, m) => if a = nextHop s then m else bytesOf 6 (Config.hopMac (nextHop s))
  | none => bytesOf 6 (Config.hopMac (nextHop s))

/-- The next hop is resolved before a datagram goes to it, by asking where it is not yet. That it answers at once is a DESIGN
CHOICE (R421). -/
def resolveHop (s : State) : State :=
  if s.flr.hop = some (nextHop s, hopMac s) then s
  else setFlr { s.flr with
    wire := s.flr.wire ++ [resolution .ask (nextHop s) none s]
    hop := some (nextHop s, hopMac s) } s

/-- How a datagram goes to the host (R419, R421). -/
def floorPath (s : State) : FloorPath :=
  { port := floorPort s
    base2500 := floorMode s (floorPort s)
    mac := floorMac
    ipv6 := onF s P.FLR_CTRL F.FLR_CTRL_ipv6
    source := floorOwn s
    host := addressWords P.FLR_HOST s
    hop := nextHop s
    hopMac := hopMac s
    sourcePort := getF s P.FLR_PORTS F.FLR_PORTS_dev
    hostPort := getF s P.FLR_PORTS F.FLR_PORTS_host }

/-- One fragment of a message goes out, counted. -/
def sendFragment (type_ count msg : Nat) (again : Bool) (part : List Byte × Nat) (s : State) : State :=
  let s := resolveHop s
  let hello := decide (type_ = 1)
  let h := floorHeader (if hello then 1 else floorVersion s) type_ part.2 count
    (if hello then 0 else getF s P.FLR_DOMAIN F.FLR_DOMAIN_index) (floorSeq s) msg part.1.length
  let bytes := h ++ part.1
  let s1 := addF (addF s P.FLR_CNT F.FLR_CNT_sent 1) P.FLR_CNT F.FLR_CNT_resent (b2n again)
  setFlr { s1.flr with sent := s1.flr.sent + 1, wire := s1.flr.wire ++ [.udp (floorPath s) (bytes ++ floorTag s bytes)] } s1

/-- A message goes out whole; msg is its own when it goes out again. HELLO and a ledger record are not in the DRAM buffer
(R425). -/
def sendMessage (type_ : Nat) (body : List Byte) (again : Option Nat) (s : State) : State :=
  let msg := again.getD (floorSeq s)
  let n := fragCount body
  let t := if type_ = 1 ∨ type_ = 0x10 then s else floorFetch body.length s
  (floorFragments n body).zipIdx.foldl (fun t x => sendFragment type_ n msg again.isSome x t) t

/-- HELLO's body (R423). -/
def helloBody (s : State) : List Byte :=
  natToLe 4 (getF s P.FLR_CTRL F.FLR_CTRL_ver_allow) ++ natToLe 4 (getReg s P.LDG_BOOTCNT).toNat ++
    natToLe 4 s.ldg.acked ++ uniqueId ++ identityPub

/-- HELLO goes out while a port is up. -/
def sendHello (again : Bool) (s : State) : State :=
  if floorUp s then sendMessage 1 (helloBody s) (if again then some (floorSeq s) else none) s else s

/-- The session's first HELLO goes out once a port is up (R424). -/
def firstHello (s : State) : State :=
  if floorRuns s && decide (floorSession s = 1) && s.flr.helloDue && floorUp s then
    sendHello false (setFlr { s.flr with helloDue := false } s)
  else s

/-! ## What ready sends (R424) -/

/-- Send what may go out of the messages, with n of them unacknowledged so far: at most 16. -/
def sendQueued : Nat → List FloorMsg → State → List FloorMsg × State
  | _, [], s => ([], s)
  | n, m :: ms, s =>
    if m.msg.isSome then
      let r := sendQueued n ms s
      (m :: r.1, r.2)
    else if n < 16 then
      let r := sendQueued (n + 1) ms (sendMessage m.type_ m.body none s)
      ({ m with msg := some (floorSeq s) } :: r.1, r.2)
    else (m :: ms, s)

/-- The next ledger record goes out once the one before it is acknowledged. -/
def sendRecord (s : State) : State :=
  let waits := match s.flr.ledger with
    | some (b, _) => decide (s.ldg.acked < b)
    | none => false
  if waits then s
  else
    match oldestRecord s with
    | none => setFlr { s.flr with ledger := none } s
    | some r =>
      sendMessage 0x10 (slotBytes s r.slot 352) none (setFlr { s.flr with ledger := some (r.boot, floorSeq s) } s)

/-- In ready, with the active port up, everything that may go out does. -/
def floorPump (s : State) : State :=
  if floorRuns s && decide (floorSession s = 2) && floorUp s then
    let s1 := sendRecord s
    let r := sendQueued (s1.flr.queue.countP (fun m => m.msg.isSome)) s1.flr.queue s1
    setFlr { r.2.flr with queue := r.1 } r.2
  else s

/-- A buffer that could not take an item or a message raises tilt with cause 1 (R425). -/
def floorFull (s : State) : State :=
  if s.flr.full then raiseTilt 0x3001 (setF (setFlr { s.flr with full := false } s) P.FLR_STAT F.FLR_STAT_tilt_cause 1)
  else s

/-- The wire falls silent before a command's own sendings. -/
def floorQuiet (s : State) : State := setFlr { s.flr with wire := [] } s

/-- What the floor link does with messages that a command has created. -/
def floorSettle (s : State) : State := floorFull (floorPump (floorQuiet s))

end Sys2Proof.Machine
end

