-- ==== Sys2Proof/Machine/Ledger.lean ====
section
/-! DEFINITION. The MRAM, the boot ledger, the meters and the event log (chapter 19). -/
namespace Sys2Proof.Machine

/-- The store begins to seal: of the work, the marker in both control copies is all that is still written. The event under
way ends behind it, committed when it has passed its commit point (R394). -/
def sealStore (s : State) : State :=
  let passed := !s.ldg.jobs.any (fun j => match j with | .mark (.meters _ _ _ _) => true | _ => false)
  setLdg { s.ldg with jobs := mirroredCtl .sealMark ++
    [.mark (.sealed ((jobCore s.ldg.jobs).map (fun k => (k, if passed then 1 else 6))))] } s

/-- The marker is written: sealed is set, every further commit refused, and tilt raised (R394). -/
def storeSealed (ends : Option (Nat × Nat)) (s : State) : State :=
  let s1 := match ends with
    | some e => mevEnd e.1 e.2 s
    | none => s
  let s2 := endQueued 6 (setF (setLdg { s1.ldg with jobs := [] } s1) P.LDG_STAT F.LDG_STAT_sealed 1)
  raiseTilt 0x3A01 (setF s2 P.LDG_STAT F.LDG_STAT_tilt_cause 1)

/-- The tilt bit of an input (R417). -/
def doorTilts (i : Nat) (s : State) : Bool := (getReg s P.LDG_DOOR_CFG).getLsbD (16 + i)

/-- The moved event of a tilt-enabled input raises tilt once cores are released (R417). -/
def eventMoved (i : Nat) (s : State) : State :=
  if doorTilts i s && decide (bootStage s = 6) then
    raiseTilt 0x3A03 (setF s P.LDG_STAT F.LDG_STAT_tilt_cause 3)
  else s

/-- The mark at the front of the work is done, where it is one that may raise tilt. -/
def settleMarks (s : State) : State :=
  match s.ldg.jobs with
  | .mark (.sealed ends) :: _ => storeSealed ends s
  | .mark (.moved i) :: js => eventMoved i (setLdg { s.ldg with jobs := js } s)
  | _ => s

/-- Write n granules of the work with every mark behind each (R396, R455). -/
def runGranules : Nat → State → State
  | 0, s => s
  | n + 1, s => runGranules n (settleMarks (runJobs 1 s))

/-- Where a granule write goes: its bank and row (R391, R392). -/
def controlNumber : CtlWrite → Nat
  | .boot _ => 0
  | .acked _ => 1
  | .sealMark => 2
  | .dir b _ => 3 + b.val
def writeBank : GWrite → Fin 8
  | .cell g _ => Fin.ofNat 8 (g / 32768)
  | .ctl cb _ => if cb then 7 else 6
  | .copy b _ => b
def writeRow : GWrite → Nat
  | .cell g _ => (g / 32) % 1024
  | .ctl _ c => 0xE0000 / 1024 + Config.controlRow (controlNumber c) % 128
  | .copy _ row => row

/-- The directory of a bank with the writes of it that are yet to be made. -/
def dirAhead (s : State) (b : Fin 8) : SpareDir :=
  s.ldg.jobs.foldl (fun d j => match j with
    | .write (.ctl _ (.dir b' d')) => if b' = b then d' else d
    | _ => d) (spareDir s b)

/-- A write with another directory of bank b in place of the one that it carries. -/
def withDir (b : Fin 8) (d : SpareDir) : GWrite → GWrite
  | .ctl cb (.dir b' d') => .ctl cb (.dir b' (if b' = b then d else d'))
  | w => w
def jobWithDir (b : Fin 8) (d : SpareDir) : Job → Job
  | .write w => .write (withDir b d w)
  | j => j

/-- The row of write w, the next of the work with js behind it, is worn: a spare row of its bank takes its place, worn
spares on the way retired. Its other 31 granules are copied, w itself follows, and the directory in both copies; the remap
is then logged. Without a free spare the store seals; the worn row of a seal marker is left, for the other copy's marker
seals too (R393 to R395). -/
def remapRow (w : GWrite) (js : List Job) (spareFails : Nat) (s : State) : State :=
  let b := writeBank w
  let row := writeRow w
  let d := dirAhead s b
  if w = .ctl false .sealMark ∨ w = .ctl true .sealMark then settleMarks (setLdg { s.ldg with jobs := js } s)
  else
  match d.free.drop spareFails with
  | [] => sealStore s
  | r :: _ =>
    let d1 : SpareDir := ⟨(row, r) :: d.remaps.filter (fun x => x.1 ≠ row),
      d.retired ++ d.free.take spareFails ++ (d.remaps.filter (fun x => x.1 = row)).map (·.2)⟩
    setLdg { s.ldg with jobs := List.replicate 31 (.write (.copy b row)) ++ [.write (withDir b d1 w)] ++ mirroredCtl (.dir b d1) ++
      [.mark (.remapped b row)] ++ js.map (jobWithDir b d1) } s

/-- GRANULE_WRITE: the next granule of the work completes with its verify; after four failed attempts the remap of its row
begins, spareFails spare rows wearing in turn. A remap goes on granule by granule (R391, R393, R394, R396). -/
def execGranuleWrite (fails spareFails : Nat) (s : State) : Out :=
  if !s.powered 1 || s.supplyHeld then .next s
  else
    let s0 := runMarks s.ldg.jobs s
    match beginJournal s0.ldg.jobs with
    | .write w :: js => .next (floorSettle (if fails < 4 then runGranules 1 s0 else remapRow w js spareFails s0))
    | _ => .next (floorSettle s0)

/-! ## Meters -/

/-- The committed value of a meter (R404). -/
def meterValue (s : State) (m : Nat) : Nat := Tab.get s.ldg.meters 0 m

/-- The staged entries of core k: meter and delta of each enabled one (R409). -/
def stagedEntries (k : Nat) (s : State) : List (Nat × Nat) :=
  (List.range 4).filterMap (fun i =>
    if onF s (own k (P.LDG_MEV_M i)) F.LDG_MEV_M_en then
      some (getF s (own k (P.LDG_MEV_M i)) F.LDG_MEV_M_meter, (getReg s (own k (P.LDG_MEV_D i))).toNat)
    else none)

/-- The staged game number of core k. -/
def stagedGame (k : Nat) (s : State) : Nat :=
  (getReg s (own k P.LDG_MEV_GAME_LO)).toNat + 4294967296 * (getReg s (own k P.LDG_MEV_GAME_HI)).toNat

/-- No meter is named twice. -/
def distinct : List Nat → Bool
  | [] => true
  | x :: xs => !xs.contains x && distinct xs

/-- The result of an event of core k, 1 when it is to be committed (R410). -/
def mevResult (k kind : Nat) (s : State) : Nat :=
  let es := stagedEntries k s
  let g := stagedGame k s
  if onF s P.LDG_STAT F.LDG_STAT_sealed then 6
  else if onF s P.LDG_STAT F.LDG_STAT_frozen then 3
  else if onF s P.LDG_STAT F.LDG_STAT_pending || !onF s P.LDG_STAT F.LDG_STAT_ready then 2
  else if g = 0 ∨ (kind = 1 ∧ es = []) ∨ !distinct (es.map (·.1)) then 4
  else
    match s.ldg.game with
    | some o => if o = g then 1 else 5
    | none => 1

/-- A meter entry granule (R405). -/
def meterGranule (value seq meter : Nat) : BitVec 256 :=
  sealedGranule [value, value >>> 32, seq, seq >>> 32, meter, 0, 0]

/-- The 32 words of a journal record but the last (R406). -/
def journalWords (seq game kind core boot : Nat) (hash : List Nat) (vals : List (Nat × Nat × Nat)) : List Nat :=
  let ms := vals.flatMap (fun x => [x.1, x.2.1, x.2.1 >>> 32])
  [seq, seq >>> 32, game, game >>> 32, kind + 256 * vals.length + 65536 * core, boot, 0, 0] ++ hash ++
    (ms ++ List.replicate (15 - ms.length) 0)

/-- The four granules of a journal record, CRC-32C of words 0 to 30 in word 31 (R406). -/
def journalGranules (ws : List Nat) : List (BitVec 256) :=
  let all := ws ++ [(crc32c (natToLe 124 (granuleOf ws))).toNat]
  (List.range 4).map (fun i => BitVec.ofNat 256 (granuleOf ((all.drop (8 * i)).take 8)))

/-- The commit of an event: copy-A entries, copy-A journal, the commit point, copy-B journal, copy-B entries (R407). -/
def meterJobs (k kind : Nat) (s : State) : List Job :=
  let q := s.ldg.seq + 1
  let vals := (stagedEntries k s).map (fun e =>
    (e.1, (meterValue s e.1 + e.2) % 2 ^ 64, (Tab.get s.ldg.positions 0 e.1 + 1) % 16))
  let entry := fun (off : Nat) => vals.map (fun x => Job.write (.cell (entryGranule x.1 x.2.2 + off)
    (meterGranule x.2.1 q x.1)))
  let hash := if kind = 2 then (List.range 8).map (fun i => (getReg s (own k (P.LDG_MEV_HASH i))).toNat)
    else List.replicate 8 0
  let jg := journalGranules (journalWords q (stagedGame k s) kind k s.ldg.bootCnt hash vals)
  let journal := fun (off : Nat) => jg.zipIdx.map (fun x => Job.write (.cell (journalGranule q + x.2 + off) x.1))
  entry 0 ++ [.mark .journal] ++ journal 0 ++
    [.mark (.meters k vals q (if kind = 2 then none else some (stagedGame k s)))] ++ journal copyB ++
    entry copyB ++ [.mark (.meterEnd k)]

/-- A write of a kind to core k's LDG_MEV_CMD (R409). An event submitted behind an Eclipse command that waits is never
committed (R448). -/
def mevSubmit (k kind : Nat) (s : State) : State :=
  let st := own k P.LDG_MEV_STAT
  if onF s st F.LDG_MEV_STAT_busy then setF s st F.LDG_MEV_STAT_err 1
  else if kind = 1 ∨ kind = 2 then
    let s1 := setF s st F.LDG_MEV_STAT_busy 1
    if s.pwr.eclipseDue then s1 else setLdg { s1.ldg with events := s1.ldg.events ++ [(k, kind)] } s1
  else s

/-- A submission by core k, C0 to C7. -/
def mevRow (k : CoreId) (kind : Nat) (s : State) : Out :=
  gate (.core k) true P.LDG_MEV_CMD (fun s => .next (mevSubmit k.val kind s)) s

/-- ADVANCE: LDG_MEV_CMD kind 0x1 (R409, R410). -/
def execGameAdvance (k : CoreId) (s : State) : Out := mevRow k 1 s

/-- CLOSE: LDG_MEV_CMD kind 0x2 (R409, R410). -/
def execGameClose (k : CoreId) (s : State) : Out := mevRow k 2 s

/-- The oldest event is decided: it is refused, or its commit becomes the work and n granules of it are written. The dips
that follow it are logged behind it (R407, R409, R410, R456). -/
def serveEvent (n : Nat) (s : State) : State :=
  match s.ldg.events with
  | [] => s
  | (k, kind) :: rest =>
    let r := mevResult k kind s
    let s0 := setLdg { s.ldg with events := rest } s
    if r ≠ 1 then logDue (dipsAhead (fun i => i - 1) (mevEnd k r s0))
    else runGranules n (logDue (dipsAhead (fun i => i - 1) (addJobs (meterJobs k kind s) s0)))

/-- METER_COMMIT: the next event's result is decided; a commit writes n of its granules here, all of them when n
reaches 2k + 8, and the rest follow by GRANULE_WRITE. While commits are held the event waits with busy at 1 (R407, R409,
R410, R455). -/
def execMeterCommit (n : Nat) (s : State) : Out :=
  if !s.powered 1 || s.supplyHeld || decide (s.ldg.jobs ≠ []) then .next s else .next (floorSettle (serveEvent n s))

/-- METER_READ: core k reads LDG_METER_LO: the low half, and the hold loaded with the high half (R412). -/
def meterRead (k : Nat) (s : State) : Word × State :=
  let v := meterValue s (getF s (own k P.LDG_METER_SEL) F.LDG_METER_SEL_meter)
  (BitVec.ofNat 32 v, setReg s (own k P.LDG_METER_HI) (BitVec.ofNat 32 (v >>> 32)))

/-- METER_READ as a command (R412). -/
def execMeterRead (k : CoreId) (s : State) : Out :=
  gate (.core k) false P.LDG_METER_LO (fun s => let (v, t) := meterRead k s; .next { t with rdata := v }) s

/-- The key of the hold that LDG_MEV_SEQ_LO loads. -/
def seqHold (k : Nat) : Nat := own k P.LDG_MEV_SEQ_HI + 0x800000

/-- A read of core k's LDG_MEV_SEQ_LO: the low half of the last S, and the hold loaded (R410, R418). -/
def seqRead (k : Nat) (s : State) : Word × State :=
  (getReg s (own k P.LDG_MEV_SEQ_LO), setReg s (seqHold k) (getReg s (own k P.LDG_MEV_SEQ_HI)))

/-- SEQ_READ (R412, R418). -/
def execSeqRead (k : CoreId) (s : State) : Out :=
  gate (.core k) false P.LDG_MEV_SEQ_LO (fun s => let (v, t) := seqRead k s; .next { t with rdata := v }) s

/-! ## Doors and events -/

/-- A capture in PD0: buffered, or counted as lost while 32 are held; source 112 either way (R413, R414). -/
def capture (e : LogEvent) (s : State) : State :=
  let s1 := wakeEvent F.PWR_WAKE_EN_wake_door 2 (latchEdge 112 s)
  if s1.ldg.pd0.length < 32 then setLdg { s1.ldg with pd0 := s1.ldg.pd0 ++ [e] } s1
  else addF s1 P.LDG_PD0_CNT F.LDG_PD0_CNT_lost 1

/-- DOOR_EVENT: a new level of input i is accepted after its debounce (R413). -/
def execDoorEvent (i : Fin 10) (level : Bool) (s : State) : Out :=
  let bit : Fld := ⟨i, i⟩
  if bit.on (getReg s P.LDG_DOOR_LVL) = level then .next s
  else
    let s1 := setF s P.LDG_DOOR_LVL bit (b2n level)
    let en := bit.on (getReg s P.LDG_DOOR_CFG)
    if en && (decide (i.val < 8) || level) then
      let kind := if 8 ≤ i.val then 3 else if level then 1 else 2
      .next (capture ⟨kind, i.val, 0, rtcNow s⟩ s1)
    else .next s1

/-- EVENT_MOVE: the oldest buffered event sets out for the event log, both copies, and a tilt-enabled input raises tilt
behind it; once the buffer is empty a nonzero lost count is logged and cleared. GRANULE_WRITE writes the granules (R391,
R415, R417). -/
def execEventMove (s : State) : Out :=
  if !storeOpen s || s.supplyHeld || decide (s.ldg.jobs ≠ []) then .next s
  else
    match s.ldg.pd0 with
    | e :: rest =>
      .next (addJobs [.mark (.moved e.subject)] (logEvent e (setLdg { s.ldg with pd0 := rest } s)))
    | [] =>
      let lost := getF s P.LDG_PD0_CNT F.LDG_PD0_CNT_lost
      if lost = 0 then .next s
      else
        .next (logEvent ⟨7, 0, lost, rtcNow s⟩ (setF s P.LDG_PD0_CNT F.LDG_PD0_CNT_lost 0))

/-! ## Ledger records -/

/-- The slot that the next record takes (R401). -/
def nextSlot (s : State) : Nat :=
  match s.ldg.newest with
  | none => 0
  | some n => (n.slot + 1) % 558

/-- A slot is free: empty, or holding an acknowledged record (R401, R402). -/
def slotFree (s : State) (slot : Nat) : Bool :=
  match slotRecord s slot with
  | none => true
  | some r => decide (r.boot ≤ s.ldg.acked)

/-- Words of a byte list, little-endian. -/
def leWords : List Byte → List Nat
  | a :: b :: c :: d :: t => leToNat [a, b, c, d] :: leWords t
  | _ => []

/-- The last events of the range evt_first to evt_last, at most 16, as their granules' bytes (R397). -/
def eventBytes (s : State) (first last : Nat) : List Byte :=
  let n := Nat.min 16 (last + 1 - first)
  let qs := (List.range n).map (fun i => last + 1 - n + i)
  let bs := qs.flatMap (fun q => natToLe 32 (mramAt s (eventGranule q)).toNat)
  bs ++ List.replicate (512 - bs.length) 0#8

/-- The first event that no earlier record covered: one above evt_last of the newest committed record (R397). -/
def evtFirst (s : State) : Nat :=
  match s.ldg.newest with
  | none => 1
  | some n => leToNat (((slotBytes s n.slot 2).drop 52).take 4) + 1

/-- A measurement's 40 bytes (R397). -/
def measBytes (m : Measure) : List Byte := natToLe 4 m.role ++ natToLe 4 0 ++ (m.digest ++ List.replicate 32 0#8).take 32

/-- The 3,200-byte body of a record for a slot, the events up to the last one logged (R397). -/
def recordBody (r : LedgerRec) (slot : Nat) (s : State) : List Byte :=
  let last := s.ldg.evtSeq
  let first := evtFirst s
  let prev := match s.ldg.newest with | none => List.replicate 32 0#8 | some n => n.hash
  let ms := r.meas.flatMap measBytes
  natToLe 4 0x5247444C ++
  natToLe 4 (1 + 256 * r.kind + 65536 * r.meas.length + 0x1000000 * b2n r.late) ++
  natToLe 4 r.boot ++ natToLe 4 r.cause ++ natToLe 8 r.time ++
  natToLe 4 (r.stop + 256 * r.section_ + 65536 * r.manifestVer) ++ natToLe 4 slot ++ uniqueId ++
  natToLe 4 first ++ natToLe 4 last ++ natToLe 8 0 ++ prev ++ List.replicate 32 0#8 ++
  ms ++ List.replicate (2560 - ms.length) 0#8 ++ eventBytes s first last

/-- The granule writes of a slot: body, signature, zeros, trailer granule 0, and granule 1 last (R398, R399). -/
def recordJobs (r : LedgerRec) (slot : Nat) (body sig : List Byte) : List Job :=
  let hash := sha256 (body ++ sig)
  let bytes := body ++ sig ++ List.replicate 144 0#8
  (List.range 350).map (fun i =>
    Job.write (.cell (slotGranule slot + i) (BitVec.ofNat 256 (leToNat ((bytes.drop (32 * i)).take 32))))) ++
  [.write (.cell (slotGranule slot + 350) (sealedGranule [0x5452444C, r.boot, slot, 0, 0, 0, 0])),
   .write (.cell (slotGranule slot + 351) (BitVec.ofNat 256 (leToNat hash))),
   .mark (.record slot r.boot hash)]

/-- The record that waits is signed under the identity key and its writes are queued; when the slot after the newest is not
free a boot record is held pending and a stop record is dropped. A fault in signing flips the bits that e1 and e2 name in
the two signatures (R356, R360, R368, R397 to R403). -/
def recordSigned (r : LedgerRec) (e1 e2 : List Byte) (s : State) : State :=
  let slot := nextSlot s
  if slotFree s slot then
    let body := recordBody r slot s
    match slhSignOp 0 false identitySk (ascii "AH7140-LEDGER") body e1 e2 s with
    | (.signed sig, s1) => addJobs (recordJobs r slot body sig) s1
    | (_, s1) => s1
  else if r.kind = 2 then setLdg { s.ldg with held := none } s
  else setF (setF (setLdg { s.ldg with held := some { r with late := true } } s) P.LDG_STAT F.LDG_STAT_pending 1)
    P.CFG_STAT F.CFG_STAT_ledger_full 1

/-- LEDGER_COMMIT: the record that waits is signed and goes into the slot after the newest, n granules of it here; a sealed
store cannot commit the boot record (R356, R360, R395, R401, R403). -/
def execLedgerCommit (n : Nat) (e1 e2 : List Byte) (s : State) : Out :=
  match s.ldg.held with
  | none => .next s
  | some r =>
    if decide (s.ldg.jobs ≠ []) || !s.powered 1 then .next (floorSettle (runGranules n s))
    else if !storeOpen s then
      (if r.kind = 1 ∧ bootStage s = 5 then .next (bootStop 15 0 (setLdg { s.ldg with held := none } s)) else .next s)
    else .next (floorSettle (runGranules n (recordSigned r e1 e2 s)))

/-- The acknowledged counter once the work under way is done. -/
def ackAhead (s : State) : Nat :=
  s.ldg.jobs.foldl (fun n j => match j with
    | .mark (.acked b) => Nat.max n b
    | _ => n) s.ldg.acked

/-- An acknowledgement of boot counter b with a record hash: it takes effect when a committed record has both, and
never lowers the acknowledged counter (R402). -/
def ledgerAck (b : Nat) (hash : List Byte) (s : State) : State :=
  if storeOpen s && decide (ackAhead s < b) &&
      (List.range 558).any (fun t => match slotRecord s t with
        | some r => decide (r.boot = b) && decide (r.hash = hash) | none => false) then
    addJobs (mirroredCtl (.acked b) ++ [.mark (.acked b)]) s
  else s

/-- LDG_LEDGER, LDG_SPARES and the ledger_full bit as read (R418). -/
def ledgerWord (s : State) : Word :=
  BitVec.ofNat 32 (((List.range 558).countP (slotFree s)) + 65536 * nextSlot s)
def sparesWord (b : Fin 8) (s : State) : Word := BitVec.ofNat 32 (freeSpares s b).length
def ledgerFull (s : State) : Bool := !slotFree s (nextSlot s)

/-! ## Recovery at PD1 power-up (R395, R399, R408, R507) -/

/-- The higher of two control values; absent when both fail their checks. -/
def higher : Option Nat → Option Nat → Option Nat
  | some a, some b => some (Nat.max a b)
  | some a, none => some a
  | none, b => b

/-- Every remap and retirement that either copy of a directory records. -/
def mergeDir : Option SpareDir → Option SpareDir → Option SpareDir
  | some a, some b => some ⟨(a.remaps ++ b.remaps).eraseDups, (a.retired ++ b.retired).eraseDups⟩
  | some a, none => some a
  | none, b => b

/-- The meter entry of a granule, when its check holds: value and sequence. -/
def entryAt (s : State) (g : Nat) : Option (Nat × Nat) :=
  let v := mramAt s g
  if v ≠ 0 ∧ granuleOk v = true then some (gWord v 0 + 4294967296 * gWord v 1, gWord v 2 + 4294967296 * gWord v 3)
  else none

/-- The words of a journal record in one copy, when its CRC holds. -/
def journalAt (s : State) (g : Nat) : Option (List Nat) :=
  let ws := (List.range 4).flatMap (fun i => (List.range 8).map (gWord (mramAt s (g + i))))
  if ws.getD 0 0 + ws.getD 1 0 ≠ 0 ∧ (crc32c (natToLe 124 (granuleOf (ws.take 31)))).toNat = ws.getD 31 0 then some ws
  else none

/-- Every valid journal record in either copy, with its sequence. -/
def journalRecords (s : State) : List (Nat × List Nat) :=
  ((List.range 2048).flatMap (fun i => [journalGranule i, journalGranule i + copyB])).filterMap (fun g =>
    match journalAt s g with
    | some ws => some (ws.getD 0 0 + 4294967296 * ws.getD 1 0, ws)
    | none => none)

/-- What a journal record says of a meter. -/
def journalMeter (ws : List Nat) (m : Nat) : Option Nat :=
  ((List.range ((ws.getD 4 0 / 256) % 256)).filterMap (fun i =>
    if ws.getD (16 + 3 * i) 0 % 1024 = m then
      some (ws.getD (17 + 3 * i) 0 + 4294967296 * ws.getD (18 + 3 * i) 0) else none)).head?

/-- The value with the highest sequence not above top, with its position where an entry gave it. -/
def newestOf (top : Nat) (l : List (Nat × Nat × Option Nat)) : Option (Nat × Nat × Option Nat) :=
  l.foldl (fun b x => if top < x.2.1 then b else
    match b with
    | none => some x
    | some y => if y.2.1 < x.2.1 then some x else some y) none

/-- The entries of a meter in both copies: value, sequence, position. -/
def meterEntries (s : State) (m : Nat) : List (Nat × Nat × Option Nat) :=
  (List.range 16).flatMap (fun p => [entryGranule m p, entryGranule m p + copyB].filterMap (fun g =>
    (entryAt s g).map (fun x => (x.1, x.2, some p))))

/-- Granule g fails its check and is not blank. -/
def entryBad (s : State) (g : Nat) : Bool := decide (mramAt s g ≠ 0) && !granuleOk (mramAt s g)

/-- A meter is lost: an entry fails its check, none up to top is valid, no journal record names it (R408). -/
def meterLost (s : State) (js : List (Nat × List Nat)) (top m : Nat) : Bool :=
  (List.range 16).any (fun p => entryBad s (entryGranule m p) || entryBad s (entryGranule m p + copyB)) &&
  (newestOf top (meterEntries s m)).isNone && !js.any (fun j => (journalMeter j.2 m).isSome)

/-- The journal records of which no later one shares the place. -/
def standingRecords (js : List (Nat × List Nat)) : List (Nat × List Nat) :=
  js.filter (fun j => !js.any (fun k => decide (k.1 % 2048 = j.1 % 2048) && decide (j.1 < k.1)))

/-- The entries whose sequence exceeds top: blank after recovery, as R408 treats them. -/
def undoneEntries (s : State) (top : Nat) : List (Nat × BitVec 256) :=
  (List.range 1024).flatMap (fun m => (List.range 16).flatMap (fun p =>
    [entryGranule m p, entryGranule m p + copyB].filterMap (fun g =>
      match entryAt s g with
      | some x => if top < x.2 then some (g, 0) else none
      | none => none)))

/-- The meters with a value, after recovery: meter, value, sequence, position. -/
def recoveredMeters (s : State) (js : List (Nat × List Nat)) (top : Nat) : List (Nat × Nat × Nat × Nat) :=
  (List.range 1024).filterMap (fun m =>
    let es := meterEntries s m
    let named := js.filterMap (fun j => (journalMeter j.2 m).map (fun v => (v, j.1, (none : Option Nat))))
    let pos := match newestOf top es with | some (_, _, some p) => p | _ => 0
    (newestOf top (es ++ named)).map (fun x => (m, x.1, x.2.1, x.2.2.getD ((pos + 1) % 16))))

/-- The writes that bring a control copy up to what recovery takes (R507). -/
def controlLags (cb : Bool) (old new : Control) : List Job :=
  (match new.boot with
    | some n => if old.boot = some n then [] else [.write (.ctl cb (.boot n))]
    | none => []) ++
  (match new.acked with
    | some n => if old.acked = some n then [] else [.write (.ctl cb (.acked n))]
    | none => []) ++
  (List.finRange 8).flatMap (fun b =>
    match new.dirs[b] with
    | some d => if old.dirs[b] = some d then [] else [.write (.ctl cb (.dir b d))]
    | none => [])

/-- Recovery: the control area, the newest record, the journal, the meters, the open game; the copies that lag are
rewritten, unless commits are held then, and ready is set behind them; a lost control area or meter raises tilt (R395,
R399, R408, R455, R507). -/
def recoverLedger (s : State) : State :=
  let a := s.ldg.ctlA
  let b := s.ldg.ctlB
  let boot := higher a.boot b.boot
  let acked := higher a.acked b.acked
  let dirs := Vector.ofFn (fun i => mergeDir a.dirs[i] b.dirs[i])
  let lostCtl := boot.isNone || acked.isNone || dirs.any (·.isNone)
  let sealed := a.sealed || b.sealed
  let ctl : Control := ⟨boot, acked, sealed, dirs⟩
  let recs := (List.range 558).filterMap (slotRecord s)
  let newest := recs.foldl (fun x r => match x with
    | none => some r
    | some y => if y.boot < r.boot ∨ (y.boot = r.boot ∧ r.slot = (y.slot + 1) % 558) then some r else some y) none
  let js := journalRecords s
  let top := js.foldl (fun n j => Nat.max n j.1) 0
  let ms := recoveredMeters s js top
  let last := js.find? (fun j => j.1 = top)
  let game := match last with
    | some (_, ws) => if ws.getD 4 0 % 256 = 1 then some (ws.getD 2 0 + 4294967296 * ws.getD 3 0) else none
    | none => none
  let evt := ((List.range 4096).flatMap (fun i => [eventGranule i, eventGranule i + copyB])).foldl (fun n i =>
    let g := mramAt s i
    if g ≠ 0 ∧ granuleOk g = true then Nat.max n (gWord g 0) else n) 0
  let rewrites := undoneEntries s top ++ ms.flatMap (fun x =>
    [(entryGranule x.1 x.2.2.2, meterGranule x.2.1 x.2.2.1 x.1),
     (entryGranule x.1 x.2.2.2 + copyB, meterGranule x.2.1 x.2.2.1 x.1)]) ++
    (standingRecords js).flatMap (fun j => (journalGranules (j.2.take 31)).zipIdx.flatMap (fun g =>
      [(journalGranule j.1 + g.2, g.1), (journalGranule j.1 + g.2 + copyB, g.1)]))
  let lags := if sealed then [] else
    controlLags false a ctl ++ controlLags true b ctl ++
      (rewrites.filter (fun x => mramAt s x.1 ≠ x.2)).map (fun x => Job.write (.cell x.1 x.2))
  let s1 := setLdg { s.ldg with
    jobs := lags ++ [.mark .ready]
    newest := newest
    bootCnt := boot.getD 0
    acked := acked.getD 0
    meters := ms.foldl (fun t x => Tab.set t 0 x.1 x.2.1) []
    positions := ms.foldl (fun t x => Tab.set t 0 x.1 x.2.2.2) []
    seq := top
    game := game
    events := []
    evtSeq := evt
    dips := []
    dipsDue := []
    held := none
    stop := none
    counted := false } s
  let s2 := setF (runGranules lags.length (runMarks s1.ldg.jobs s1)) P.LDG_STAT F.LDG_STAT_sealed (b2n sealed)
  let s3 := setReg (setReg s2 P.LDG_EVT_SEQ (BitVec.ofNat 32 evt)) P.LDG_BOOTCNT (BitVec.ofNat 32 (boot.getD 0))
  let s4 := if lostCtl then raiseTilt 0x3A04 (setF s3 P.LDG_STAT F.LDG_STAT_tilt_cause 4) else s3
  if (List.range 1024).any (meterLost s js top) then
    raiseTilt 0x3A02 (setF s4 P.LDG_STAT F.LDG_STAT_tilt_cause 2)
  else s4

/-- The granule being written when device reset falls: old, new or a mixture; while commits are held none is being written
(R396, R507). -/
def cutWrite (s : State) : State :=
  if s.supplyHeld then s
  else
  match beginJournal (runMarks s.ldg.jobs s).ldg.jobs with
  | .write (.cell g v) :: _ =>
    let m := Config.cutGranule s.free
    setLdg { s.ldg with mram := Tab.set s.ldg.mram 0 g ((mramAt s g &&& ~~~m) ||| (v &&& m)) } s.draw
  | .write (.ctl cb c) :: _ =>
    let r := Config.cutControl s.free
    let w := if cb then s.ldg.ctlB else s.ldg.ctlA
    let broken : Control := match c with
      | .boot _ => { w with boot := none }
      | .acked _ => { w with acked := none }
      | .sealMark => w
      | .dir b _ => { w with dirs := w.dirs.set b none }
    let x := if r = 0 then w else if r = 1 then w.write c else broken
    setLdg (if cb then { s.ldg with ctlB := x } else { s.ldg with ctlA := x }) s.draw
  | _ => s

end Sys2Proof.Machine
end

