-- ==== Sys2Proof/Machine/Floor.lean ====
section
/-! DEFINITION. The floor link: session, host messages, digests, checkpoints and ports (chapter 20). -/
namespace Sys2Proof.Machine

/-! ## Session (R424, R429) -/

/-- The buffer lies in populated DRAM and clear of image content. -/
def floorBufferOk (s : State) : Bool :=
  decide (floorBase s + floorSize s ≤ s.dramSize) && !s.imageIn (floorBase s) (floorSize s)

/-- run is set: the session enters hello and HELLO goes out, at once or with the first port that comes up. -/
def floorStart (s : State) : Out :=
  if !floorBufferOk s then .fault .floorForm
  else
    let s1 := setF (setF s P.FLR_STAT F.FLR_STAT_running 1) P.FLR_STAT F.FLR_STAT_session 1
    .next (firstHello (setFlr { s1.flr with helloDue := true } (setF s1 P.FLR_STAT F.FLR_STAT_version 0)))

/-- run is cleared: the session ends. -/
def floorEnd (s : State) : State :=
  setF (setF s P.FLR_STAT F.FLR_STAT_running 0) P.FLR_STAT F.FLR_STAT_session 0

/-- The link runs and is not refused, in which state it sends nothing (R424). -/
def floorSpeaks (s : State) : Bool := floorRuns s && decide (floorSession s ≠ 3)

/-- Port p becomes active and, while the link sends, the new place of the address is announced; a first HELLO that waits for
the port follows (R420, R424). -/
def floorActivate (p : Nat) (s : State) : State :=
  let s1 := setF (setF s P.FLR_CTRL F.FLR_CTRL_active p) P.FLR_STAT F.FLR_STAT_port p
  if floorSpeaks s1 then
    firstHello (setFlr { s1.flr with wire := s1.flr.wire ++ [resolution .announce (floorOwn s1) none s1] } s1)
  else s1

/-- A write of FLR_CTRL.active; switching to a port that is down is unpredictable. -/
def floorSwitch (p : Nat) (s : State) : Out :=
  if p = getF s P.FLR_STAT F.FLR_STAT_port then .next s
  else if onF s P.FLR_STAT (floorLinkFld p) then .next (floorPump (floorActivate p s))
  else .fault .floorForm

/-- A write of FLR_CTRL.run; a stopped 7140 starts no floor link port (R358). -/
def floorRun (run : Bool) (s : State) : Out :=
  let s1 := setF s P.FLR_CTRL F.FLR_CTRL_run (b2n run)
  if run && !floorRuns s then (if bootStage s = 7 then .next s1 else floorStart s1)
  else if !run && floorRuns s then .next (floorEnd s1)
  else .next s1

/-- A write of v to FLR_CTRL: while running, only active and run take effect (R429). -/
def flrCtrlWrite (v : Word) (s : State) : Out :=
  let s1 := floorQuiet s
  let s2 :=
    if floorRuns s1 then s1
    else
      let keep := F.FLR_CTRL_active.put (getF s1 P.FLR_CTRL F.FLR_CTRL_active)
        (F.FLR_CTRL_run.put (getF s1 P.FLR_CTRL F.FLR_CTRL_run) v)
      setReg s1 P.FLR_CTRL keep
  match floorSwitch (F.FLR_CTRL_active.get v) s2 with
  | .next s3 => floorRun (F.FLR_CTRL_run.on v) s3
  | .fault f => .fault f
  | .refused r => .refused r

/-- FLOOR_START: FLR_CTRL is written with run 1, its other fields unchanged (R424). -/
def execFloorStart (m : Master) (s : State) : Out :=
  gate m true P.FLR_CTRL (fun s => flrCtrlWrite (F.FLR_CTRL_run.put 1 (getReg s P.FLR_CTRL)) s) s

/-- FLOOR_STOP: FLR_CTRL is written with run 0, its other fields unchanged (R429). -/
def execFloorStop (m : Master) (s : State) : Out :=
  gate m true P.FLR_CTRL (fun s => flrCtrlWrite (F.FLR_CTRL_run.put 0 (getReg s P.FLR_CTRL)) s) s

/-- PORT_SWITCH: FLR_CTRL is written with active p, its other fields unchanged (R420). -/
def execPortSwitch (m : Master) (p : Fin 2) (s : State) : Out :=
  gate m true P.FLR_CTRL (fun s => flrCtrlWrite (F.FLR_CTRL_active.put p.val (getReg s P.FLR_CTRL)) s) s

/-- FLOOR_PORT_DOWN: a port's link status, which its mode takes from the PHY's word or from PCS synchronisation, has read 0 for
10 µs: failover, or both ports are lost (R419, R420). -/
def execFloorPortDown (l : FloorLine) (s : State) : Out :=
  let p := l.port
  if !s.powered 38 || l.pcs != floorMode s p.val || !onF s P.FLR_STAT (floorLinkFld p.val) then .next s
  else
    let s1 := setF (floorQuiet s) P.FLR_STAT (floorLinkFld p.val) 0
    if !onF s1 P.FLR_STAT (floorLinkFld (1 - p.val)) then .next (setF s1 P.FLR_STAT F.FLR_STAT_lost 1)
    else if getF s1 P.FLR_STAT F.FLR_STAT_port = p.val then
      .next (floorPump (floorActivate (1 - p.val) (setF s1 P.FLR_STAT F.FLR_STAT_failover 1)))
    else .next s1

/-- FLOOR_PORT_UP: a port's link comes up, in the status that its mode takes; with both ports down it becomes active (R419,
R420). -/
def execFloorPortUp (l : FloorLine) (s : State) : Out :=
  let p := l.port
  if !s.powered 38 || l.pcs != floorMode s p.val || onF s P.FLR_STAT (floorLinkFld p.val) then .next s
  else
    let s1 := setF (floorQuiet s) P.FLR_STAT (floorLinkFld p.val) 1
    if onF s1 P.FLR_STAT (floorLinkFld (1 - p.val)) then .next s1
    else .next (floorPump (floorActivate p.val s1))

/-- The words of an address that the IP version has. -/
def addressOf (a : Vector Word 4) (s : State) : List Word := a.toList.take (floorOwn s).length

/-- ARP: a request, or a neighbour solicitation, for an address; the link answers for its own, unless it is refused (R421,
R424). -/
def execFloorArp (q : NeighbourQuery) (s : State) : Out :=
  if floorSpeaks s && floorUp s && decide (addressOf q.target s = floorOwn s) then
    .next (setFlr { s.flr with wire := [resolution .answer (floorOwn s) (some (addressOf q.asker s, q.mac)) s] } s)
  else .next s

/-- A message goes out again with the msg it has. -/
def resendMsg (msg : Nat) (s : State) : State :=
  match s.flr.queue.find? (fun m => decide (m.msg = some msg)) with
  | some m => sendMessage m.type_ m.body (some msg) s
  | none => s

/-- RESEND: rto has passed for HELLO, the ledger record or a message (R424). -/
def execFloorResend (w : FloorResend) (s : State) : Out :=
  if !floorRuns s || !floorUp s then .next s
  else
    let q := floorQuiet s
    match w with
    | .hello => if floorSession s = 1 then .next (sendHello true q) else .next s
    | .ledger =>
      match s.flr.ledger, oldestRecord s with
      | some (b, msg), some r =>
        if floorSession s = 2 ∧ r.boot = b then .next (sendMessage 0x10 (slotBytes s r.slot 352) (some msg) q)
        else .next s
      | _, _ => .next s
    | .message msg => if floorSession s = 2 then .next (resendMsg msg q) else .next s

/-! ## Host messages (R422, R423) -/

/-- A host datagram's header and body, for its message type. -/
def datagramBytes (type_ : Nat) (d : FloorDatagram) : List Byte :=
  floorHeader d.version.toNat type_ d.frag.toNat d.count.toNat d.domain.toNat d.seq.toNat d.msg.toNat d.body.length ++
    d.body

/-- The first protocol version that has a host message type; HELLO_REPLY needs no session. -/
def typeVersion (type_ : Nat) : Nat :=
  if type_ = 2 then 0 else if type_ = 0x82 then 2 else if type_ = 0x83 ∨ type_ = 0x84 then 3 else 1

/-- A host datagram is taken or rejected, and its rejection counted (R422, R423). -/
def floorAccept (type_ : Nat) (d : FloorDatagram) (s : State) : Bool × State :=
  let low := d.seq.toNat % 4294967296
  let stale := fun (t : State) => (false, addF t P.FLR_ERR_CNT F.FLR_ERR_CNT_stale 1)
  if !floorRuns s || !floorUp s then (false, s)
  else if d.tag ≠ floorTag s (datagramBytes type_ d) then (false, addF s P.FLR_ERR_CNT F.FLR_ERR_CNT_auth 1)
  else if d.seq.toNat / 4294967296 ≠ (getReg s P.LDG_BOOTCNT).toNat ∨ s.flr.lastHost.any (fun x => decide (low ≤ x)) = true
    then stale s
  else
    let s1 := setFlr { s.flr with lastHost := some low } s
    if floorVersion s1 < typeVersion type_ then stale s1 else (true, s1)

/-- The datagrams of a message, one after another; the message stands when every one is taken. -/
def floorAcceptAll (type_ : Nat) : List FloorDatagram → State → Bool × State
  | [], s => (true, s)
  | d :: ds, s =>
    let r := floorAccept type_ d s
    let t := floorAcceptAll type_ ds r.2
    (r.1 && t.1, t.2)

/-- The datagrams are the fragments of one message in order: indices, count and msg (R422). -/
def floorWhole (ds : List FloorDatagram) : Bool :=
  match ds with
  | [] => false
  | d :: _ => ds.zipIdx.all (fun x => decide (x.1.frag.toNat = x.2) && decide (x.1.count.toNat = ds.length) &&
      decide (x.1.msg = d.seq))

/-- A host message of one datagram: f acts on its body when it is taken. -/
def hostMessage (type_ : Nat) (d : FloorDatagram) (f : State → State) (s : State) : Out :=
  let r := floorAccept type_ d (floorQuiet s)
  .next (if r.1 then f r.2 else r.2)

/-- n bytes of a body from an offset, a byte beyond its end zero. -/
def bodyBytes (body : List Byte) (at_ n : Nat) : List Byte :=
  let bs := (body.drop at_).take n
  bs ++ List.replicate (n - bs.length) 0

/-- The highest version common to two masks (R424). -/
def highestCommon (a b : Nat) : Option Nat := [3, 2, 1].find? (fun v => bit a (v - 1) && bit b (v - 1))

/-- A HELLO_REPLY in hello: the version and the domain index are taken, or no version is common (R424). -/
def floorNegotiate (body : List Byte) (s : State) : State :=
  if floorSession s ≠ 1 then s
  else
    match highestCommon (getF s P.FLR_CTRL F.FLR_CTRL_ver_allow) (leToNat (body.take 1)) with
    | none => setF (setF s P.FLR_STAT F.FLR_STAT_session 3) P.FLR_STAT F.FLR_STAT_refused 1
    | some v =>
      let s1 := setF (setF s P.FLR_STAT F.FLR_STAT_session 2) P.FLR_STAT F.FLR_STAT_version v
      let s2 := setF (setF s1 P.FLR_DOMAIN F.FLR_DOMAIN_index (leToNat (bodyBytes body 4 4))) P.FLR_DOMAIN
        F.FLR_DOMAIN_valid 1
      floorPump (setFlr { s2.flr with readyAt := s2.pwr.uptime.toNat, periods := 0 } s2)

/-- HELLO_REPLY (R424). -/
def execHelloReply (d : FloorDatagram) (s : State) : Out := hostMessage 2 d (floorNegotiate d.body) s

/-- The message that msg names is acknowledged. -/
def floorAcked (msg : Nat) (s : State) : State :=
  floorPump (setFlr { s.flr with queue := s.flr.queue.filter (fun m => decide (m.msg ≠ some msg)) } s)

/-- ACK: the message that it names leaves the buffer (R424). -/
def execFloorAck (d : FloorDatagram) (s : State) : Out :=
  hostMessage 0x80 d (floorAcked (leToNat (bodyBytes d.body 0 8))) s

/-- LEDGER_ACK: passed to the ledger (R402, R423). -/
def execLedgerAck (d : FloorDatagram) (s : State) : Out :=
  hostMessage 0x81 d (fun t => ledgerAck (leToNat (bodyBytes d.body 0 4)) (bodyBytes d.body 8 32) t) s

/-! ## Digests (R425, R426) -/

/-- Word 1 of a queue entry of cluster d, and its 64 bytes (R171). -/
def exportWord1 (d : Fin 4) (e : ExportEntry) : Nat :=
  d.val + 4 * b2n e.isRecall + 8 * b2n e.fresh + 16 * (e.carried % 512) + 8192 * (e.late % 512)
def exportBytes (d : Fin 4) (e : ExportEntry) : List Byte :=
  natToLe 4 e.frame ++ natToLe 4 (exportWord1 d e) ++ List.replicate 24 0 ++ e.digest

/-- DIGEST_DRAIN: the oldest entry of cluster d's queue joins the open game, is reported as recall evidence, or is
discarded; recall evidence waits until a version is negotiated (R178, R425, R426). -/
def execDigestDrain (d : Fin 4) (s : State) : Out :=
  match s.clu[d].export_ with
  | [] => .next s
  | e :: rest =>
    if !floorRuns s || !s.powered (pdComposer d.val) || (e.isRecall && decide (floorSession s ≠ 2)) then .next s
    else
      let s1 := setExport d rest s
      if e.isRecall then
        (if floorVersion s < 2 then .next s1 else .next (floorSettle (floorMessage 0x31 (exportBytes d e) s1)))
      else
        match s.ldg.game with
        | none => .next s1
        | some g => .next (floorSettle (floorItem g (natToLe 4 e.frame ++ natToLe 4 (exportWord1 d e) ++ e.digest) s1))

/-! ## Checkpoints (R427) -/

/-- The first 8,256 bytes of a checkpoint. -/
def checkpointBody (s : State) : List Byte :=
  let hash := match s.ldg.newest with | some n => n.hash | none => List.replicate 32 0
  natToLe 8 (getReg s P.LDG_BOOTCNT).toNat ++ natToLe 8 (rtcNow s) ++ natToLe 8 (getReg s P.LDG_EVT_SEQ).toNat ++
    natToLe 8 s.ldg.seq ++ hash ++ (List.range 1024).flatMap (fun m => natToLe 8 (meterValue s m))

/-- A checkpoint starts: the body is captured, or merged with the one that waits; without a checkpoint key none is
taken. -/
def checkpointStart (s : State) : State :=
  if s.sec.ckpt.isNone || s.flr.ckpt.isSome then s else setFlr { s.flr with ckpt := some (checkpointBody s) } s

/-- CKPT_REQ (R427). -/
def execCkptReq (d : FloorDatagram) (s : State) : Out := hostMessage 0x82 d checkpointStart s

/-- The checkpoint periods that have passed since ready, counted in uptime ticks (R451). -/
def periodsPassed (s : State) : Nat := (s.pwr.uptime.toNat - s.flr.readyAt) / 32768 / getF s P.FLR_TIMING F.FLR_TIMING_ckpt

/-- A multiple of FLR_TIMING.ckpt seconds has been reached. -/
def checkpointDue (s : State) : State :=
  if getF s P.FLR_TIMING F.FLR_TIMING_ckpt ≠ 0 ∧ s.flr.periods < periodsPassed s then
    checkpointStart (setFlr { s.flr with periods := periodsPassed s } s)
  else s

/-- A tick of the RTC while the session is ready: a checkpoint period may have passed (R427). -/
def floorTick (s : State) : State :=
  if floorRuns s && decide (floorSession s = 2) && decide (2 ≤ floorVersion s) then checkpointDue s else s

/-- The checkpoint periods counted anew after a write of FLR_TIMING: those that have passed begin none (R427). -/
def checkpointRebase (s : State) : State := setFlr { s.flr with periods := periodsPassed s } s

/-- The checkpoint that is due or requested is signed under the checkpoint key and becomes a message. A fault in signing
flips the bits that e1 and e2 name in the two signatures (R366, R368, R427). -/
def checkpointSigned (e1 e2 : List Byte) (s : State) : State :=
  if !floorRuns s || decide (floorSession s ≠ 2) || decide (floorVersion s < 2) || !s.powered 2 then s
  else
    let s1 := checkpointDue s
    match s1.flr.ckpt, s1.sec.ckpt with
    | some body, some sk =>
      match slhSignOp 1 false sk (ascii "AH7140-CHECKPOINT") body e1 e2 s1 with
      | (.signed sig, s2) => floorSettle (floorMessage 0x40 (body ++ sig) (setFlr { s2.flr with ckpt := none } s2))
      | (.failed, s2) => setFlr { s2.flr with ckpt := none } s2
      | (.waits, s2) => s2
    | _, _ => s1

/-- CHECKPOINT (R427). -/
def execFloorCheckpoint (e1 e2 : List Byte) (s : State) : Out := .next (checkpointSigned e1 e2 s)

/-- The context and the message of the pure-form signing job that waits: the floor link's checkpoint, or the ledger's record
(R369, R397, R427). -/
def signingJob (ckpt : Bool) (s : State) : Option (List Byte × List Byte) :=
  if ckpt then (checkpointDue s).flr.ckpt.map (fun body => (ascii "AH7140-CHECKPOINT", body))
  else s.ldg.held.map (fun r => (ascii "AH7140-LEDGER", recordBody r (nextSlot s) s))

/-- SLH_SIGN: the engine does the pure-form signing job, with this context and message, of one of the two units that submit
one: the floor link's checkpoint, or the ledger's record, whose writes then wait for LEDGER_COMMIT (R366, R368, R369). -/
def execSlhSign (ckpt : Bool) (ctx msg e1 e2 : List Byte) (s : State) : Out :=
  if signingJob ckpt s ≠ some (ctx, msg) then .next s
  else if ckpt then .next (checkpointSigned e1 e2 s)
  else
    match s.ldg.held with
    | some r => if storeOpen s && s.powered 2 && decide (s.ldg.jobs = []) then .next (recordSigned r e1 e2 s) else .next s
    | none => .next s

/-! ## Host-signed material (R428) -/

/-- The engine's answer to a signature of the floor host. -/
def hostVerify (set : Nat) (pk ctx msg sig : List Byte) (s : State) : Bool :=
  s.powered 2 && decide (set ≤ 1) && slhVerify set false pk ctx msg sig

/-- A message whose signature fails is counted. -/
def floorAuthFails (s : State) : State := addF s P.FLR_ERR_CNT F.FLR_ERR_CNT_auth 1

/-- A HOST_KEY body: installed when it is signed by the last key of the running manifest's chain. -/
def installHostKey (body : List Byte) (s : State) : State :=
  let set := leToNat (body.take 1)
  if hostVerify 0 s.cfg.key (ascii "AH7140-FLOOR-KEY") (body.take 64) ((body.drop 64).take 7856) s && decide (set ≤ 1) then
    setF (setFlr { s.flr with hostKey := some (set, bodyBytes body 32 32) } s) P.FLR_STAT F.FLR_STAT_host_key 1
  else floorAuthFails s

/-- A message of several datagrams: f acts on its body when all are taken and make one message. -/
def hostFragments (type_ : Nat) (ds : List FloorDatagram) (f : List Byte → State → State) (s : State) : Out :=
  let r := floorAcceptAll type_ ds (floorQuiet s)
  .next (if r.1 && floorWhole ds then f (ds.flatMap (fun d => d.body)) r.2 else r.2)

/-- HOST_KEY (R428). -/
def execHostKey (ds : List FloorDatagram) (s : State) : Out := hostFragments 0x83 ds installHostKey s

/-- A SIGNED body with the message's seq: command 0x01 sets the RTC at its next tick (R428, R452). -/
def hostCommand (seq : BitVec 64) (body : List Byte) (s : State) : State :=
  match s.flr.hostKey with
  | none => floorAuthFails s
  | some (set, pk) =>
    let msg := bodyBytes body 0 16 ++ natToLe 8 seq.toNat
    if hostVerify set pk (ascii "AH7140-FLOOR-CMD") msg (body.drop 16) s then
      (if leToNat (body.take 1) = 1 then
        { s with pwr := { s.pwr with rtcFloor := some (BitVec.ofNat 64 (leToNat (bodyBytes body 8 8))) } }
      else s)
    else floorAuthFails s

/-- SIGNED (R428). -/
def execFloorSigned (ds : List FloorDatagram) (s : State) : Out :=
  hostFragments 0x84 ds (hostCommand ((ds.head?.map (fun d => d.seq)).getD 0)) s

end Sys2Proof.Machine
end

