-- ==== Sys2Proof/Machine/CoreCtl.lean ====
section
/-! DEFINITION. Reset and release of the cores, their cache operations, the L2 and the private GPIO port
(R230, R233, R237, R238). -/
namespace Sys2Proof.Machine

/-- Memory without the bytes of a range of keys. -/
def eraseRange (lo hi : Nat) (s : State) : State :=
  { s with mem := s.mem.filter (fun e => !(decide (lo ≤ e.1) && decide (e.1 < hi))) }

/-- Core k in its state after reset, its X and Y RAM undefined; what belongs to the debug port, to its port and bank in
PD11 and to the interrupt controller stays (R237, R238, R240, R275). -/
def coreReset (k : CoreId) (s : State) : State :=
  let c := s.cores[k]
  (eraseRange (ramKey k 0) (ramKey (k + 1) 0)
    (s.setCore k { Core.reset with attached := c.attached, breaks := c.breaks, watches := c.watches,
                                   privOut := c.privOut,
                                   ugpio := c.ugpio, holdoff := c.holdoff })).draw

/-- run set: a core in its reset state begins at SYS_CORE_ENTRY, a stopped one resumes (R237). -/
def coreRelease (k : CoreId) (s : State) : State :=
  let c := s.cores[k]
  if c.run then s
  else if c.fresh then
    s.setCore k { c with run := true, fresh := false, pc := getReg s (P.SYS_CORE_ENTRY k) }
  else s.setCore k { c with run := true }

/-- A write to SYS_CORE_CTRL of core k (R237, R240). -/
def coreCtrlWrite (k : CoreId) (v : Word) (s : State) : State :=
  let s := pmcSettle s
  let s := if F.SYS_CORE_CTRL_reset.on v then coreReset k s else s
  let s := s.setCore k { s.cores[k] with ugpio := F.SYS_CORE_CTRL_ugpio.on v }
  if F.SYS_CORE_CTRL_run.on v then (if bootStage s = 7 then s else coreRelease k s) else s.setCore k { s.cores[k] with run := false }

/-- SYS_CORE_CTRL as read (R240). -/
def coreCtrlWord (k : CoreId) (s : State) : Word :=
  let c := s.cores[k]
  BitVec.ofNat 32 (b2n c.run + 4 * b2n c.ugpio + 0x100 * b2n c.halted + 0x200 * b2n (!c.run) + 0x400 * b2n c.inDebug)

/-- The value of a write to SYS_CORE_CTRL. -/
def coreCtrlValue (run reset ugpio : Bool) : Word := BitVec.ofNat 32 (b2n run + 2 * b2n reset + 4 * b2n ugpio)

/-- CORE_RUN: SYS_CORE_CTRL.run of core k is written 1 (R237). -/
def execCoreRun (m : Master) (k : CoreId) (ugpio : Bool) (s : State) : Out :=
  gate m true (P.SYS_CORE_CTRL k) (fun s => .next (coreCtrlWrite k (coreCtrlValue true false ugpio) s)) s

/-- CORE_RESET: SYS_CORE_CTRL.reset is written 1, with run as given (R237). -/
def execCoreReset (m : Master) (k : CoreId) (run ugpio : Bool) (s : State) : Out :=
  gate m true (P.SYS_CORE_CTRL k) (fun s => .next (coreCtrlWrite k (coreCtrlValue run true ugpio) s)) s

/-- CORE_STOP: SYS_CORE_CTRL.run is written 0 (R237). -/
def execCoreStop (m : Master) (k : CoreId) (ugpio : Bool) (s : State) : Out :=
  gate m true (P.SYS_CORE_CTRL k) (fun s => .next (coreCtrlWrite k (coreCtrlValue false false ugpio) s)) s

/-! ## Cache operations -/

/-- The first line of core k's range and the number of its lines (R233, R240). -/
def cmoFirst (k : Nat) (s : State) : Nat :=
  ((getReg s (P.SYS_CMO_LO k)).toNat + 0x100000000 * (getReg s (P.SYS_CMO_HI k)).toNat) / 64
def cmoLines (k : Nat) (s : State) : Nat := getF s (P.SYS_CMO_SIZE k) F.SYS_CMO_SIZE_lines

/-- A line lies in a range. -/
def inLines (first n line : Nat) : Bool := decide (first ≤ line) && decide (line < first + n)

/-- The dirty lines of a range, in order. -/
def dirtyIn (first n : Nat) (s : State) : List (Nat × L2Line) :=
  s.l2.filter (fun e => inLines first n e.1 && e.2.dirty)

/-- The requests by which the engine of core k writes lines to DRAM, as requester 8 (R233). -/
def cleanRequests (k : Nat) (ls : List (Nat × L2Line)) (s : State) : List MemReq :=
  ls.map (fun e => let a := 64 * e.1
    ⟨a, some e.2.data, false, chanOf s a, arrival s (chanOf s a), k + 1⟩)

/-- Clean a range in core k's engine: each dirty line is on its way to DRAM and stays as clean (R233). -/
def cleanLines (k first n : Nat) (s : State) : State :=
  let s1 := issueAll 8 (cleanRequests k (dirtyIn first n s) s) s
  { s1 with l2 := s1.l2.map (fun e => if inLines first n e.1 then (e.1, { e.2 with dirty := false }) else e) }

/-- The core's caches without the lines of a range in its D-cache (R233). -/
def dropDcache (first n : Nat) (c : Core) : Core :=
  { c with dcache := c.dcache.filter (fun e => !inLines first n e.1) }

/-- Invalidate a range: each line leaves the L2 and every D-cache without being written back (R233). A write-back that
came before is the command L2_WRITE_BACK. -/
def invalidateLines (first n : Nat) (s : State) : State :=
  { s with
    l2 := s.l2.filter (fun e => !inLines first n e.1)
    cores := s.cores.map (dropDcache first n)
    free := s.free + 1 }

/-- The number of lines the operation wrote back, saturating at the field's 15 bits, busy set and op as started
(R233, R240). -/
def cmoStarted (k : Nat) (op dirty : Nat) (s : State) : State :=
  setReg s (P.SYS_CMO_CTRL k) (BitVec.ofNat 32 (op + 0x100 + (Nat.min dirty 0x7FFF) <<< 16))

/-- The op that a start takes: one that R233 does not list starts a listed one, left free (chapter 0). -/
def cmoOp (k : CoreId) (op : Nat) (s : State) : Nat :=
  if 1 ≤ op ∧ op ≤ 4 then op else 1 + Config.unlistedCode s.free (P.SYS_CMO_CTRL k) % 4

/-- A started cache operation of core k's engine, its walk made whole (R233). -/
def cmoStart (k : CoreId) (op : Nat) (s : State) : State :=
  if onF s (P.SYS_CMO_CTRL k) F.SYS_CMO_CTRL_busy then s
  else
    let first := cmoFirst k s
    let n := cmoLines k s
    match op with
    | 1 => cmoStarted k 1 (dirtyIn first n s).length (cleanLines k first n s)
    | 2 => cmoStarted k 2 0 (invalidateLines first n s)
    | 3 => cmoStarted k 3 (dirtyIn first n s).length (invalidateLines first n (cleanLines k first n s))
    | _ => cmoStarted k 4 0 (s.setCore k { s.cores[k] with icache := [] })

/-- A write to SYS_CMO_CTRL of core k (R240): op is set, and start starts it unless busy is 1. -/
def cmoCtrlWrite (k : CoreId) (v : Word) (s : State) : State :=
  let op := F.SYS_CMO_CTRL_op.get v
  if F.SYS_CMO_CTRL_start.on v && !onF s (P.SYS_CMO_CTRL k) F.SYS_CMO_CTRL_busy then
    cmoStart k (cmoOp k op s) (if 1 ≤ op ∧ op ≤ 4 then s else s.draw)
  else setF s (P.SYS_CMO_CTRL k) F.SYS_CMO_CTRL_op op

/-- CLEAN: op 0x1 started in core k's engine (R233). -/
def execCmoClean (m : Master) (k : CoreId) (s : State) : Out :=
  gate m true (P.SYS_CMO_CTRL k) (fun s => .next (cmoStart k 1 s)) s

/-- INVALIDATE: op 0x2 started in core k's engine (R233). -/
def execCmoInvalidate (m : Master) (k : CoreId) (s : State) : Out :=
  gate m true (P.SYS_CMO_CTRL k) (fun s => .next (cmoStart k 2 s)) s

/-- CLEAN_AND_INVALIDATE: op 0x3 started in core k's engine (R233). -/
def execCmoCleanInvalidate (m : Master) (k : CoreId) (s : State) : Out :=
  gate m true (P.SYS_CMO_CTRL k) (fun s => .next (cmoStart k 3 s)) s

/-- I_CACHE_INVALIDATE: op 0x4 started in core k's engine (R233). -/
def execICacheInvalidate (m : Master) (k : CoreId) (s : State) : Out :=
  gate m true (P.SYS_CMO_CTRL k) (fun s => .next (cmoStart k 4 s)) s

/-- CACHE_OPERATION_DONE: once every write of core k's operation has been granted, busy clears and private source 18
rises (R233). -/
def execCacheOperationDone (k : CoreId) (s : State) : Out :=
  if onF s (P.SYS_CMO_CTRL k) F.SYS_CMO_CTRL_busy && !tagWaits 8 (k.val + 1) s then
    .next (raisePrivate k 18 (setF s (P.SYS_CMO_CTRL k) F.SYS_CMO_CTRL_busy 0))
  else .next s

/-- L2_WRITE_BACK: a dirty line that the L2 replaces goes to DRAM whole, as requester 8, and leaves the L2, when the
requester's port takes the write (R42, R230). -/
def execL2WriteBack (line : Nat) (s : State) : Out :=
  match Tab.find s.l2 line with
  | some l =>
    let a := 64 * line
    if l.dirty && portTakes 8 false s then
      .next { issue 8 ⟨a, some l.data, false, chanOf s a, arrival s (chanOf s a), 0⟩ (leaveSelfRefresh s) with
        l2 := Tab.erase s.l2 line }
    else .next s
  | none => .next s

/-! ## Debug -/

/-- What the debug port does to a core (R239); a register is reached only while the core is halted in debug. A read of a
port is not the core's. -/
def debugOp (k : CoreId) (o : DebugOp) (s : State) : State :=
  let c := s.cores[k]
  match o with
  | .attach => s.setCore k { c with attached := true }
  | .detach => s.setCore k { c with attached := false, inDebug := false }
  | .halt => if c.run then s.setCore k { c with inDebug := true } else s
  | .step => if c.inDebug then s.setCore k { c with inDebug := false, stepping := true } else s
  | .resume => s.setCore k { c with inDebug := false, stepping := false }
  | .setBreak i a => s.setCore k { c with breaks := c.breaks.set i a }
  | .setWatch i a => s.setCore k { c with watches := c.watches.set i a }
  | .readG r => if c.inDebug then { s with rdata := c.g[r] } else s
  | .readAc a part => if c.inDebug then { s with rdata := accPart c.ac[a] part.val } else s
  | .readSr => if c.inDebug then { s with rdata := c.sr.setWidth 32 } else s
  | .readPc => if c.inDebug then { s with rdata := c.pc } else s
  | .writeG r v => if c.inDebug then s.setCore k { c with g := c.g.set r v } else s
  | .writeAc a v => if c.inDebug then s.setCore k { c with ac := c.ac.set a v } else s
  | .writeSr v => if c.inDebug then s.setCore k { c with sr := v } else s
  | .writePc v => if c.inDebug then s.setCore k { c with pc := v } else s
  | .readPort _ => s

end Sys2Proof.Machine
end

