-- ==== Sys2Proof/Machine/Reset.lean ====
section
/-! DEFINITION. What a domain loses when it goes off, and device reset (R11, R12, R237, R449, R457, R461, R502). -/
namespace Sys2Proof.Machine

/-- The key names a register of one of the domains that keep holds of: own instances lie 0x1000000 apart, and holds 0x800000
above their registers. -/
def keyIn (keep : Nat → Bool) (key : Nat) : Bool :=
  match domainOf (key % 0x800000) with
  | some d => keep d
  | none => false

/-- Registers of other domains at their reset values (R11, R12). -/
def dropRegs (keep : Nat → Bool) (s : State) : State := { s with regs := s.regs.filter (fun e => keyIn keep e.1) }

/-- A core as its domain leaves it at power-up; its port, its SYS bank with run and ugpio, and its holdoff lie in PD11
(R238, R240, R275). A core whose run is 1 then begins at SYS_CORE_ENTRY: DEDUCED from R237. -/
def coreLost (k : CoreId) (s : State) : State :=
  let c := s.cores[k]
  (eraseRange (ramKey k 0) (ramKey (k + 1) 0)
    (s.setCore k { Core.reset with attached := c.attached, breaks := c.breaks, watches := c.watches, ugpio := c.ugpio,
                                   run := c.run, fresh := !c.run,
                                   pc := if c.run then getReg s (P.SYS_CORE_ENTRY k) else 0,
                                   privOut := c.privOut,
                                   holdoff := c.holdoff })).draw

/-- A core once PD39 is off: nothing is attached, and the DBG block's breakpoints and watchpoints are gone (R12, R239). -/
def debugLost (c : Core) : Core :=
  { c with
    attached := false
    inDebug := false
    stepping := false
    breaks := Vector.replicate 4 none
    watches := Vector.replicate 2 none }

/-- Bytes from an address upward reach into SRAM bank b. -/
def rangeInBank (b a n : Nat) : Bool :=
  decide (sramBase + bankSize * b < a + n) && decide (a < sramBase + bankSize * (b + 1))

/-- The cluster without the composed slots and the comet band buffers that reach into bank b. -/
def Cluster.dropBank (b : Nat) (c : Cluster) : Cluster :=
  { c with
    slots := c.slots.map (fun o => o.filter (fun z => !rangeInBank b z.addr z.size))
    bufs := c.bufs.filter (fun z => !rangeInBank b z.addr z.size) }

/-- A shared SRAM bank cleared, with the pattern-cache and the L2 lines, the composed slots and the comet band buffers that
lie in it (R24, R26, R138, R502). -/
def bankClear (b : Nat) (s : State) : State :=
  let s := eraseRange (sramBase + bankSize * b) (sramBase + bankSize * (b + 1)) s
  { s with
    pat := s.pat.filter (fun e => !patInBank b e.1)
    l2 := if b = 7 then [] else s.l2
    clu := Vector.ofFn (fun (d : Fin 4) =>
      if b = 6 + d.val / 2 then { s.clu[d].dropBank b with streamed := false } else s.clu[d].dropBank b) }

/-- Cluster d's composer domain: fetchers, composer, sequencer and digest unit; palettes and coefficients take contents
that the manual does not give (R70). -/
def clusterLost (d : Fin 4) (s : State) : State :=
  let c : Cluster := { Cluster.reset with seed := s.free, streamed := s.clu[d].streamed }
  setUrgent d false { s with clu := s.clu.set d c }.draw

/-- Cluster d's comet unit, and its output with its link: no raster runs, and neither urgency stands (R41, R158). -/
def cometLost (d : Fin 4) (s : State) : State :=
  { s with clu := s.clu.set d { s.clu[d] with walks := s.clu[d].walks.set 8 Walk.reset } }
def outputLost (d : Fin 4) (s : State) : State :=
  let m := ~~~(BitVec.ofNat 4 (1 <<< d.val))
  setUrgent d false (setUrgent (13 + d.val) false { s with
    clu := s.clu.set d { s.clu[d] with beam := Beam.reset, raster := [], sending := none, held := false, lastSent := none }
    pwr := { s.pwr with linkLocked := s.pwr.linkLocked &&& m, linkStarting := s.pwr.linkStarting &&& m } })

/-- Kettle and the audio cores, and the analogue core. -/
def audioLost (s : State) : State :=
  let s1 := coreLost 9 (coreLost 8 s)
  { s1 with
    ktl := Kettle.reset
    aas := { s1.aas with slotPipes := Analogue.reset.slotPipes, sending := Analogue.reset.sending, framesOut := false, framesIn := false } }
def analogueLost (s : State) : State :=
  { s with aas := { Analogue.reset with
      slotPipes := s.aas.slotPipes
      sending := s.aas.sending
      framesOut := s.aas.framesOut
      framesIn := s.aas.framesIn } }

/-- The floor link; its count of datagrams and the last host seq last as long as the boot (R422). -/
def floorLost (s : State) : State := { s with flr := { Flr.reset with sent := s.flr.sent, lastHost := s.flr.lastHost } }

/-- The units of a domain at their reset values. -/
def unitsLost (d : Nat) (s : State) : State :=
  if h : 3 ≤ d ∧ d ≤ 10 then coreLost ⟨d - 3, by omega⟩ s
  else if h : 12 ≤ d ∧ d ≤ 15 then clusterLost ⟨d - 12, by omega⟩ s
  else if h : 16 ≤ d ∧ d ≤ 19 then cometLost ⟨d - 16, by omega⟩ s
  else if 20 ≤ d ∧ d ≤ 27 then bankClear (d - 20) s
  else if d = 28 then { s with blt := Blit.reset }
  else if d = 29 then { s with dma := State.reset.dma, dmaLast := State.reset.dmaLast }
  else if h : 30 ≤ d ∧ d ≤ 33 then outputLost ⟨d - 30, by omega⟩ s
  else if d = 34 then audioLost s
  else if d = 35 then analogueLost s
  else if d = 37 then { s with hlk := State.reset.hlk }
  else if d = 38 then floorLost s
  else if d = 39 then { s with cores := s.cores.map debugLost }
  else s

/-- A domain off and on again: its registers and units at reset, with the falls of its units' lines, and the edges at the
pads that its TDM ports leave (R12, R264, R436, R476). -/
def resetDomain (d : Nat) (s : State) : State :=
  let t := unitsLost d (dropRegs (fun x => decide (x ≠ d)) s)
  settleFalls s (if d = 34 then latchPads [8, 9, 10, 11, 12] s t else t)

/-- The ledger with what power at PD1 keeps: the MRAM itself and what PD0 holds (R11, R449). -/
def Ledger.kept (l : Ledger) : Ledger :=
  { Ledger.reset with mram := l.mram, ctlA := l.ctlA, ctlB := l.ctlB, pd0 := l.pd0 }

/-- The trust cluster with what its fuses and array keep (R370). -/
def Trust.kept (t : Trust) : Trust :=
  { Trust.reset with root := t.root, v1Withdrawn := t.v1Withdrawn, svnRows := t.svnRows, ckpt := t.ckpt,
                     ckptGen := t.ckptGen, floorKey := t.floorKey, floorGen := t.floorGen, storeSum := t.storeSum }

/-- The interrupt controller with what PD0 keeps, the edge latches, and the levels outside at the GP pins (R277, R439). -/
def Irq.kept (q : Irq) : Irq :=
  { Irq.reset with latches := q.latches, lines := q.lines.filter (fun e => decide (128 ≤ e.1) && decide (e.1 ≤ 255)) }

/-- The power sequencer through device reset: PD0 keeps its counts and supplies, the rest returns to reset. -/
def Power.kept (p : Power) : Power :=
  { p with doms := Power.reset.doms, testing := 0, toOff := 0, toOn := 0, stopped := 0, locked := 0, restarting := 0,
           linkLocked := 0, linkStarting := 0, eclipseDue := false, wakeDue := none }

/-- Everything but PD0 at its value after device reset; what stands outside the device, the fuses, the key-store
array and the MRAM stay; what palettes and coefficients hold then the manual does not give (R11, R70, R370, R391, R501).
Pads that were driven are released, which may be an edge at them (R439). -/
def deviceReset (s : State) : State :=
  let c := cutWrite s
  latchPads (movablePins c) c { State.reset with
    pending := c.pending
    free := c.free + 1
    clock := c.clock
    rdata := c.rdata
    regs := (dropRegs (fun d => decide (d = 0)) c).regs
    irq := c.irq.kept
    pwr := { c.pwr.kept with inReset := true, mode := if c.pwr.onVbat then .off else .run }
    ldg := c.ldg.kept
    sec := c.sec.kept
    clu := Vector.replicate 4 { Cluster.reset with seed := c.free + 1 } }

/-- PWR_RESET_CAUSE for a reset: the lowest code of one tick stands (R461). -/
def recordCause (cause rail wake : Nat) (s : State) : State :=
  let old := getF s P.PWR_RESET_CAUSE F.PWR_RESET_CAUSE_cause
  if s.pwr.causeFresh && decide (old ≤ cause) then s
  else
    let v := cause + 0x100 * rail + 0x1000 * wake + 0x10000 * b2n s.pwr.pd0Lost + 0x20000 * b2n s.pwr.vbatLowSeen
    let s1 := setReg s P.PWR_RESET_CAUSE (BitVec.ofNat 32 v)
    { s1 with pwr := { s1.pwr with causeFresh := true } }

/-- Device reset is asserted, its cause recorded (R457, R461). -/
def assertReset (cause rail wake : Nat) (s : State) : State := recordCause cause rail wake (deviceReset s)

end Sys2Proof.Machine
end

