-- ==== Sys2Proof/Machine/UnitStat.lean ====
section
/-! DEFINITION. Conditions on the units that the clocks and domains look at (R445). -/
namespace Sys2Proof.Machine
/-- PD35 has powered up: the shell calibrates every modulator and ADC, and holds every enable back (R220). -/
def startPowerUpCalibration (s : State) : State := { s with aas := { s.aas with powerUp := true } }
/-- A DMA channel is running or waiting (R445). -/
def dmaActive (s : State) : Bool :=
  (List.range 32).any (fun (n : Nat) =>
    let x := getF s (P.DMA_CH_STAT n) F.DMA_CH_STAT_state
    decide (x = 1 ∨ x = 2))
/-- A calibration runs or is requested (R220). -/
def calibrationPending (s : State) : Bool := s.aas.powerUp || decide (getReg s P.AAS_CAL_REQ ≠ 0)
end Sys2Proof.Machine
end

