-- ==== Sys2Proof/Machine/Power.lean ====
section
/-! DEFINITION. Power domains, states, clocks, the RTC and the supply monitors (chapter 22). -/
namespace Sys2Proof.Machine

/-- The domains that a domain needs (R441). -/
def needs (d : Nat) : List Nat :=
  if d = 0 then []
  else if d = 1 then [0]
  else if d = 2 then [1]
  else if d ≤ 10 then [11]
  else if d = 11 then [27, 36]
  else if d ≤ 15 then [11, 20, 21, 22, 23, 24, 25, 26] ++ (if 14 ≤ d then [27] else [])
  else if d ≤ 19 then [d - 4]
  else if d ≤ 27 then [0]
  else if d ≤ 29 then [11]
  else if d ≤ 33 then [d - 18]
  else if d = 34 then [11]
  else if d = 35 then [34]
  else if d = 36 then [0]
  else if d = 37 then [11]
  else if d = 38 then [2, 11]
  else [0]

/-- The domains that change only through the power states (R443). -/
def stateOnly (d : Nat) : Bool := d == 0 || d == 1 || d == 2 || d == 11 || d == 36

/-- The state with its power part changed. -/
def setPwr (p : Power) (s : State) : State := { s with pwr := p }

/-- All needs of domain d are in a set. -/
def needsIn (set : BitVec 40) (d : Nat) : Bool := (needs d).all (fun n => set.getLsbD n)

/-- Some domain of a set that satisfies p. -/
def anyDom (p : Nat → Bool) : Bool := (List.range 40).any p

/-- The refuse_cause of a request for the set want, 0 when it is accepted (R442, R443). -/
def domRefusal (want : BitVec 40) (s : State) : Nat :=
  let now := s.pwr.doms
  if s.pwr.toOff ≠ 0 ∨ s.pwr.toOn ≠ 0 then 5
  else if anyDom (fun d => stateOnly d && want.getLsbD d != now.getLsbD d) then 3
  else if anyDom (fun d => want.getLsbD d && now.getLsbD d && !needsIn want d) then 1
  else if anyDom (fun d => want.getLsbD d && !now.getLsbD d && !needsIn want d) then 2
  else 0

/-- The set that a write of v to PWR_DOM_REQ0 (hi false) or PWR_DOM_REQ1 (hi true) asks for. -/
def wanted (hi : Bool) (v : Word) (s : State) : BitVec 40 :=
  if hi then (v.setWidth 8) ++ (s.pwr.doms.setWidth 32) else (s.pwr.doms.extractLsb' 32 8) ++ v

/-- A write to PWR_DOM_REQ0 or PWR_DOM_REQ1: refused whole, or applied domain by domain (R442, R443). -/
def domainRequest (hi : Bool) (v : Word) (s : State) : State :=
  let want := wanted hi v s
  let r := domRefusal want s
  if r ≠ 0 then setF (setF s P.PWR_STAT F.PWR_STAT_refused 1) P.PWR_STAT F.PWR_STAT_refuse_cause r
  else
    let s1 := setReg s (if hi then P.PWR_DOM_REQ1 else P.PWR_DOM_REQ0) (if hi then v &&& 0xFF else v)
    setPwr { s1.pwr with toOff := s.pwr.doms &&& ~~~want, toOn := want &&& ~~~s.pwr.doms } s1

/-- DOMAIN_REQUEST: a write to PWR_DOM_REQ0 or PWR_DOM_REQ1 (R442, R443, R462). -/
def execDomainRequest (m : Master) (hi : Bool) (v : Word) (s : State) : Out :=
  gate m true (if hi then P.PWR_DOM_REQ1 else P.PWR_DOM_REQ0) (fun s => .next (domainRequest hi v s)) s

/-- The highest-numbered domain still to be removed that no powered domain needs (R442). -/
def nextOff (s : State) : Option Nat :=
  ((List.range 40).reverse).find? (fun d => s.pwr.toOff.getLsbD d &&
    !anyDom (fun e => s.pwr.doms.getLsbD e && (needs e).contains d))

/-- The lowest-numbered domain still to be powered whose needs are all on (R442). -/
def nextOn (s : State) : Option Nat :=
  (List.range 40).find? (fun d => s.pwr.toOn.getLsbD d && needsIn s.pwr.doms d)

/-- A domain bit of a set cleared or set. -/
def domBit (d : Nat) : BitVec 40 := BitVec.ofNat 40 (1 <<< d)

/-- One domain goes off. -/
def domainOff (d : Nat) (s : State) : State :=
  let s1 := resetDomain d (pmcSettle s)
  setPwr { s1.pwr with doms := s1.pwr.doms &&& ~~~domBit d, toOff := s1.pwr.toOff &&& ~~~domBit d } s1

/-- One domain comes on, its registers at reset; PD35 begins its power-up calibration, and its modulators take their
rates (R12, R211, R220). -/
def domainOn (d : Nat) (s : State) : State :=
  let s1 := resetDomain d s
  let s2 := setPwr { s1.pwr with doms := s1.pwr.doms ||| domBit d, toOn := s1.pwr.toOn &&& ~~~domBit d } s1
  if d = 35 then modulatorsOn (startPowerUpCalibration s2) else s2

/-- dom_done once the last change has ended (R442). -/
def domDone (s : State) : State :=
  if s.pwr.toOff = 0 ∧ s.pwr.toOn = 0 then setF s P.PWR_STAT F.PWR_STAT_dom_done 1 else s

/-- DOMAIN_SWITCH: the next domain of the request finishes going down or up (R442). -/
def execDomainSwitch (s : State) : Out :=
  if s.pwr.toOff ≠ 0 then
    match nextOff s with
    | some d => .next (domDone (domainOff d s))
    | none => .next s
  else
    match nextOn s with
    | some d => .next (domDone (domainOn d s))
    | none => .next s

/-! ## Eclipse and reset -/

/-- Complete the commits that began and the meter events that were queued, n of them (R448). -/
def finishCommits : Nat → State → State
  | 0, s => runGranules 1024 s
  | n + 1, s =>
    let s0 := runGranules 1024 s
    if s0.ldg.events = [] then s0 else finishCommits n (serveEvent 1024 s0)

/-- Every domain from PD39 to PD2 removed; what PD0 and PD1 hold stays, and an edge at a pad that is released is a wake
event (R439, R448, R449). -/
def enterEclipse (s : State) : State :=
  let c := finishCommits 16 s
  latchPads (movablePins c) c { State.reset with
    pending := c.pending
    free := c.free + 1
    clock := c.clock
    rdata := c.rdata
    regs := (dropRegs (fun d => decide (d ≤ 1)) c).regs
    irq := c.irq.kept
    pwr := { c.pwr with doms := 3, testing := 0, mode := .eclipse, toOff := 0, toOn := 0, stopped := 0, locked := 0,
                        restarting := 0, linkLocked := 0, linkStarting := 0, eclipseDue := false }
    tilt := c.tilt
    ldg := { c.ldg with events := [], held := none, stop := none }
    sec := c.sec.kept
    clu := Vector.replicate 4 { Cluster.reset with seed := c.free + 1 } }

/-- A write of 1 to PWR_CMD.eclipse (R448). -/
def eclipseCommand (s : State) : State :=
  let refuse := fun (c : Nat) =>
    setF (setF s P.PWR_STAT F.PWR_STAT_eclipse_refused 1) P.PWR_STAT F.PWR_STAT_refuse_cause c
  if onF s P.LDG_STAT F.LDG_STAT_pending then refuse 4
  else if onF s P.SEC_FUSE_CMD F.SEC_FUSE_CMD_busy then refuse 6
  else if s.supplyHeld then setPwr { s.pwr with eclipseDue := true } s
  else enterEclipse s

/-- ECLIPSE: PWR_CMD.eclipse written 1 (R448). -/
def execEclipse (m : Master) (s : State) : Out := gate m true P.PWR_CMD (fun s => .next (eclipseCommand s)) s

/-- RESET_COMMAND: PWR_CMD.reset written 1 (R461, R462). -/
def execResetCommand (m : Master) (s : State) : Out := gate m true P.PWR_CMD (fun s => .next (assertReset 6 0 0 s)) s

/-- ECLIPSE_WAKE: an enabled wake event, or WAKE_N low for two ticks, ends Eclipse by a reset with cause 0x04; WAKE_N during
entry waits for its end (R449). -/
def execEclipseWake (wakePin : Bool) (s : State) : Out :=
  if s.pwr.mode = .eclipse then
    match s.pwr.wakeDue with
    | some w => .next (assertReset 4 0 w s)
    | none =>
      if wakePin && onF s P.PWR_WAKE_EN F.PWR_WAKE_EN_wake_pin then .next (assertReset 4 0 4 s) else .next s
  else .next (if wakePin then wakeEvent F.PWR_WAKE_EN_wake_pin 4 s else s)

/-- RESET_N goes low, or high again, which lets the release wait begin (R459, R486). -/
def execResetN (low : Bool) (s : State) : Out :=
  .next (setPwr { s.pwr with resetNLow := low, resetNTicks := if low && s.pwr.resetNLow then s.pwr.resetNTicks else 0 } s)

/-- A tick with RESET_N low: the third in a row resets the device with cause 0x05; in Off, where everything but PD0 is off,
there is nothing to reset (R461, R486). -/
def resetNTick (s : State) : State :=
  if s.pwr.resetNLow then
    let s1 := setPwr { s.pwr with resetNTicks := Nat.min (s.pwr.resetNTicks + 1) 3 } s
    if s.pwr.resetNTicks = 2 ∧ s.pwr.onVbat = false then assertReset 5 0 0 s1 else s1
  else s

/-- DEBUG_CONNECT: the debug port's connect request powers PD39 (R443). -/
def execDebugConnect (s : State) : Out :=
  .next (setPwr { s.pwr with doms := s.pwr.doms ||| domBit 39 } s)

/-- DEBUG_RESET: a reset from the debug port, cause 0x07 (R461). -/
def execDebugReset (s : State) : Out := .next (assertReset 7 0 0 s)

/-! ## PLLs -/

/-- The bit of a PLL in PWR_PLL and PWR_DOZE_EN. -/
def pllBit : Pll → Nat
  | .cpu => 0
  | .comp => 1
  | .mem => 2
  | .audio => 3
  | .link d => 4 + d.val

/-- A PLL is stopped. -/
def pllStopped (p : Pll) (s : State) : Bool :=
  match p with
  | .link d => !s.pwr.linkLocked.getLsbD d.val
  | _ => s.pwr.stopped.getLsbD (pllBit p)

/-- Nothing that the CPU PLL clocks is under way (R445). -/
def cpuIdle (s : State) : Bool :=
  (List.finRange 10).all (fun k => !s.cores[k].run || !s.powered (pdCore k) ||
    (s.cores[k].halted && (presented s k).isNone)) &&
  (List.range 10).all (fun k => !onF s (P.SYS_CMO_CTRL k) F.SYS_CMO_CTRL_busy) &&
  !onF s P.BLT_STAT F.BLT_STAT_busy && s.sec.reqs.isEmpty && s.ldg.jobs.isEmpty && s.ldg.events.isEmpty &&
  !onF s P.SEC_FUSE_CMD F.SEC_FUSE_CMD_busy && !dmaActive s

/-- The conditions under which a PLL stops (R445). -/
def pllMayStop (p : Pll) (s : State) : Bool :=
  match p with
  | .audio =>
    onF s P.PWR_DOZE_EN F.PWR_DOZE_EN_audio && !onF s P.KTL_CTRL F.KTL_CTRL_run &&
    (List.range 8).all (fun i => !onF s (P.AAS_CD i) F.AAS_CD_enable) &&
    (List.range 4).all (fun i => !onF s (P.AAS_MIC i) F.AAS_MIC_enable) && !calibrationPending s
  | .link d => decide (getF s (P.DSP_CTRL d) F.DSP_CTRL_mode = 0) && !trainingRuns s d
  | .cpu => onF s P.PWR_DOZE_EN F.PWR_DOZE_EN_cpu && cpuIdle s
  | .comp =>
    onF s P.PWR_DOZE_EN F.PWR_DOZE_EN_comp && pllStopped .cpu s && pllStopped .audio s &&
    (List.range 4).all (fun d => !onF s (P.EPH_CTRL d) F.EPH_CTRL_run &&
      decide (getF s (P.DSP_CTRL d) F.DSP_CTRL_mode = 0))
  | .mem =>
    onF s P.PWR_DOZE_EN F.PWR_DOZE_EN_mem && pllStopped .comp s && selfRefreshAll s

/-- PLL_STOP: a fast PLL stops when every condition of its row holds (R445). -/
def execPllStop (p : Pll) (s : State) : Out :=
  if !pllStopped p s && pllMayStop p s then
    match p with
    | .link d => .next (setPwr { s.pwr with linkLocked := s.pwr.linkLocked &&& ~~~(BitVec.ofNat 4 (1 <<< d.val)) } s)
    | _ =>
      let b := BitVec.ofNat 4 (1 <<< pllBit p)
      .next (setPwr { s.pwr with stopped := s.pwr.stopped ||| b, locked := s.pwr.locked &&& ~~~b } (pmcSettle s))
  else .next s

/-- A source that would wake its core: enabled, priority above 0, its target in HALT (R446). -/
def wakesCore (n : Nat) (s : State) : Bool :=
  enBit s n && decide (0 < srcPrio s n) &&
  (List.finRange 10).any (fun k => decide (k.val = srcTarget s n) && s.cores[k].halted && s.cores[k].run)

/-- The PLLs that a demand restarts (R445, R446). -/
def demandPlls (d : Demand) (s : State) : BitVec 4 :=
  match d with
  | .source n =>
    if wakesCore n.val s && (Tab.get s.irq.latches false n.val ||
        (decide (98 ≤ n.val) && decide (n.val ≤ 106) && srcLine s n.val)) then 1 else 0
  | .floorDram => 1
  | .debugPort => 1
  | .memRequest => 4
  | .audioAccess => 8

/-- WAKE_DEMAND: the stopped PLLs that a sampled demand restarts are enabled (R446, R447). -/
def execWakeDemand (d : Demand) (s : State) : Out :=
  .next (s.restartPlls (demandPlls d s))

/-- A write of v to PWR_DOZE_EN: a PLL whose bit is 0 runs (R445, R462). -/
def dozeWrite (v : Word) (s : State) : State :=
  let off := fun (f : Fld) (b : Nat) => if f.on v then 0 else b
  let m := off F.PWR_DOZE_EN_cpu 1 + off F.PWR_DOZE_EN_comp 2 + off F.PWR_DOZE_EN_mem 4 + off F.PWR_DOZE_EN_audio 8
  (tableWrite P.PWR_DOZE_EN v s).restartPlls (BitVec.ofNat 4 m)

/-- PLL_LOCK: a restarted PLL locks and its units run (R447); a link PLL locks in training (R161, R450). -/
def execPllLock (p : Pll) (s : State) : Out :=
  match p with
  | .link d =>
    if s.pwr.linkStarting.getLsbD d.val then
      let m := BitVec.ofNat 4 (1 <<< d.val)
      .next (setPwr { s.pwr with linkLocked := s.pwr.linkLocked ||| m, linkStarting := s.pwr.linkStarting &&& ~~~m } s)
    else .next s
  | _ =>
    let b := BitVec.ofNat 4 (1 <<< pllBit p)
    if s.pwr.restarting &&& b ≠ 0 then
      .next (setPwr { s.pwr with restarting := s.pwr.restarting &&& ~~~b, stopped := s.pwr.stopped &&& ~~~b,
                                 locked := s.pwr.locked ||| b } s)
    else .next s

/-! ## The RTC -/

/-- The alarm time (R453). -/
def alarmTime (s : State) : Nat := (getReg s P.PWR_ALARM_LO).toNat + 4294967296 * (getReg s P.PWR_ALARM_HI).toNat

/-- The ticks of a recovery hold; a MON_CFG.hold below 33 leaves them open (cases left unpredictable of chapter 22). -/
def holdTicks (s : State) : Nat :=
  let h := getF s P.MON_CFG F.MON_CFG_hold
  if h < 33 then Config.holdTicks s.free else h

/-- RTC_TICK: the RTC and the uptime advance; a pending write loads the RTC instead, the floor link's before the debug
port's; a due recovery hold begins, and one that runs counts down; a checkpoint may come due, and RESET_N is sampled (R427, R451, R452,
R456, R486). -/
def execRtcTick (s : State) : Out :=
  let p := s.pwr
  let rtc := (p.rtcFloor.orElse (fun _ => p.rtcDebug)).getD (p.rtc + 1)
  let passes := onF s P.PWR_WAKE_EN F.PWR_WAKE_EN_alarm_en && decide (p.rtc.toNat < alarmTime s) &&
    decide (alarmTime s ≤ rtc.toNat)
  let hold := if p.holdDue then some (holdTicks s) else p.holdLeft.map (fun n => n - 1)
  .next (resetNTick (floorTick (setPwr { p with
    rtc := rtc
    uptime := if p.inReset then p.uptime else p.uptime + 1
    rtcFloor := none
    rtcDebug := none
    alarmDue := p.alarmDue || passes
    holdDue := false
    holdLeft := hold
    causeFresh := false } (if p.holdDue then s.draw else s))))

/-- ALARM: the RTC has passed PWR_ALARM: source 111 through its latch, alarm_en cleared, and a wake event (R449,
R453). -/
def execRtcAlarm (s : State) : Out :=
  if s.pwr.alarmDue then
    let s1 := setF (latchEdge 111 s) P.PWR_WAKE_EN F.PWR_WAKE_EN_alarm_en 0
    .next (wakeEvent F.PWR_WAKE_EN_wake_alarm 1 (setPwr { s1.pwr with alarmDue := false } s1))
  else .next s

/-- RTC_SET: the debug port writes PWR_RTC_SET_HI, which loads the RTC at the next tick (R452, R462). -/
def execRtcSet (m : Master) (hi : Word) (s : State) : Out :=
  gate m true P.PWR_RTC_SET_HI (fun s => match m with
    | .debug => .next (setPwr { s.pwr with rtcDebug := some (hi ++ s.pwr.rtcStaged) } s)
    | .core _ => .next s) s

/-! ## Supplies -/

/-- The number of a rail (R461, R416). -/
def railNum : Rail → Nat
  | .core => 0
  | .vio => 1
  | .vddq => 2

/-- The bit of a rail. -/
def railBit (r : Rail) : BitVec 3 := BitVec.ofNat 3 (1 <<< railNum r)

/-- The W1C warning bit and the crossing counter of a rail (R463). -/
def railWarn : Rail → Fld
  | .core => F.MON_STAT_core_warn
  | .vio => F.MON_STAT_vio_warn
  | .vddq => F.MON_STAT_vddq_warn
def railCnt : Rail → Fld
  | .core => F.MON_CNT_core
  | .vio => F.MON_CNT_vio
  | .vddq => F.MON_CNT_vddq

/-- A fuse command when commits begin to be held: of the eight rows of a root hash, whether the one under way is the last
is open; every other command has one row. DEDUCED from the times of R375. -/
def holdFuses (s : State) : State :=
  match s.sec.cmd with
  | some (1, _) => { s with sec := { s.sec with cmdStarted := s.sec.cmdStarted && Config.lastFuseRow s.free } }.draw
  | _ => s

/-- SUPPLY_WARNING: a rail falls below its warning level: commits are held, a running hold is cancelled, source 109 is
latched and the dip noted for the event log (R396, R455, R456). -/
def execSupplyWarning (r : Rail) (s : State) : Out :=
  if s.pwr.inWarn &&& railBit r ≠ 0 then .next s
  else
    let s1 := latchEdge 109 (addF (setF (if s.supplyHeld then s else holdFuses s) P.MON_STAT (railWarn r) 1) P.MON_CNT (railCnt r) 1)
    let s2 := setPwr { s1.pwr with
      inWarn := s1.pwr.inWarn ||| railBit r
      railsOk := s1.pwr.railsOk &&& ~~~railBit r
      holdDue := false
      holdLeft := none } s1
    .next (if s2.powered 1 then
      setF (setLdg { s2.ldg with dips := s2.ldg.dips ++ [⟨4, railNum r, 0, rtcNow s⟩] } s2)
        P.LDG_STAT F.LDG_STAT_dip 1
    else s2)

/-- SUPPLY_CLEAR: a rail in warning rises above its clearing level: a recovery hold begins at the next tick (R456). -/
def execSupplyClear (r : Rail) (s : State) : Out :=
  if s.pwr.inWarn &&& railBit r = 0 then .next s
  else
    .next (setPwr { s.pwr with
      inWarn := s.pwr.inWarn &&& ~~~railBit r
      railsOk := s.pwr.railsOk ||| railBit r
      holdDue := true
      holdLeft := none } s)

/-- The dips enter the event log behind the commits that were held: the granules under way and the meter events that
wait (R455, R456). -/
def logDips (s : State) : State :=
  logDue (setLdg { s.ldg with
    dips := []
    dipsDue := s.ldg.dipsDue ++ s.ldg.dips.map (fun e => (s.ldg.events.length, e)) } s)

/-- A fuse command that waits goes on once commits are no longer held (R455, R456). -/
def resumeFuses (s : State) : State := { s with sec := { s.sec with cmdStarted := s.sec.cmd.isSome } }

/-- HOLD_END: the recovery hold expires; with no rail in warning commits resume and the dips are logged, and an Eclipse
command that waited goes on (R448, R456). -/
def execHoldEnd (s : State) : Out :=
  if s.pwr.holdLeft = some 0 then
    let s1 := setPwr { s.pwr with holdLeft := none } s
    if s1.supplyHeld then .next s1
    else
      let s2 := resumeFuses (logDips s1)
      .next (if s2.pwr.eclipseDue then enterEclipse s2 else s2)
  else .next s

/-- SUPPLY_RESET: a rail at its reset level asserts device reset whole, cause 0x03 with the rail (R457, R461). -/
def execSupplyReset (r : Rail) (s : State) : Out :=
  let s1 := assertReset 3 (railNum r) 0 s
  .next (setPwr { s1.pwr with inWarn := s1.pwr.inWarn ||| railBit r, railsOk := s1.pwr.railsOk &&& ~~~railBit r } s1)

/-- VBAT_SWITCH: PD0 goes over to VBAT, which is Off, or back to VDD_AON, which is main power restored with cause 0x02, or
0x01 where PD0 has lost its contents; every PD0 register, latch and count stays (R458, R461). -/
def execVbatSwitch (toVbat : Bool) (s : State) : Out :=
  if toVbat then
    if s.pwr.onVbat then .next s
    else
      let s1 := deviceReset s
      .next (setPwr { s1.pwr with onVbat := true, mode := .off, vbatLowSeen := s.pwr.vbatLow } s1)
  else if s.pwr.onVbat then
    let s1 := setPwr { s.pwr with onVbat := false, mode := .run, causeFresh := false } s
    let s2 := recordCause (if s.pwr.pd0Lost then 1 else 2) 0 0 s1
    .next (setPwr { s2.pwr with vbatLowSeen := false, pd0Lost := false } s2)
  else .next s

/-- PD0's registers, latches and counts at the values after power first reaches it (R11, R458). -/
def pd0Reset (s : State) : State :=
  let s1 := dropRegs (fun d => decide (d ≠ 0)) s
  let s2 := { s1 with irq := { s1.irq with latches := [] } }
  let s3 := setLdg { s2.ldg with pd0 := [] } s2
  setPwr { s3.pwr with
    rtc := 0
    uptime := 0
    rtcStaged := 0
    rtcDebug := none
    rtcFloor := none
    railsOk := 0
    holdDue := false
    holdLeft := none
    alarmDue := false
    wakeDue := none } s3

/-- VBAT_LOSS: VBAT below 2.0 V with VDD_AON absent: PD0 loses its contents (R458). -/
def execVbatLoss (s : State) : Out :=
  if s.pwr.onVbat then
    let s1 := pd0Reset s
    .next (setPwr { s1.pwr with pd0Lost := true } s1)
  else .next s

/-- PD0_POWER_UP: power first reaches PD0, or reaches it again after its contents were lost: its registers take their
reset values, the RTC counts from 0, and the cause is 0x01 (R458, R461). -/
def execPd0PowerUp (fromVbat : Bool) (s : State) : Out :=
  let s1 := pd0Reset (deviceReset s)
  let s2 := recordCause 1 0 0 (setPwr { s1.pwr with
    causeFresh := false
    onVbat := fromVbat
    mode := if fromVbat then .off else .run } s1)
  .next (setPwr { s2.pwr with pd0Lost := false, vbatLowSeen := fromVbat && s2.pwr.vbatLow } s2)

/-- VBAT_LOW: VBAT crosses 2.5 V; low during Off is kept for the next reset cause (R458, R462). -/
def execVbatLow (low : Bool) (s : State) : Out :=
  .next (setPwr { s.pwr with
    vbatLow := low
    vbatLowSeen := s.pwr.vbatLowSeen || (low && decide (s.pwr.mode = .off)) } s)

/-- PWR_STAT and MON registers as read (R462, R463). -/
def domStatWord (hi : Bool) (s : State) : Word :=
  if hi then (s.pwr.doms.extractLsb' 32 8).setWidth 32 else s.pwr.doms.setWidth 32
def pllWord (s : State) : Word := BitVec.ofNat 32 (s.pwr.locked.toNat + 16 * s.pwr.linkLocked.toNat)
def monStatWord (s : State) : Word :=
  (getReg s P.MON_STAT &&& 0x70) ||| BitVec.ofNat 32 (s.pwr.railsOk.toNat + 0x100 * b2n s.supplyHeld +
    0x200 * b2n s.pwr.vbatLow + 0x400 * b2n s.pwr.onVbat)

end Sys2Proof.Machine
end

