-- ==== Sys2Proof/Machine/Boot.lean ====
section
/-! DEFINITION. Start-up from the configuration image, and the sparge sweep (chapter 17). -/
namespace Sys2Proof.Machine

/-- The state with its start-up part changed. -/
def setBoot (b : Boot) (s : State) : State := { s with cfg := b }

/-! ## The boot set -/

/-- The capacity in bytes of a device by its density code; 0 for a code that R339 does not list. -/
def densityBytes (d : Nat) : Nat := if 1 ≤ d ∧ d ≤ 3 then 0x2000000 <<< d else 0

/-- The populated ports and the devices per port, when R339 supports the population. -/
def population (b : BootSet) : Option (Nat × Nat) :=
  match b.devs[0], b.devs[1], b.devs[2], b.devs[3] with
  | some _, none, none, none => some (1, 1)
  | some _, some _, none, none => some (1, 2)
  | some _, none, some _, none => some (2, 1)
  | some _, some _, some _, some _ => some (2, 2)
  | _, _, _, _ => none

/-- The density code that every present device has, when they agree on one that R339 lists. -/
def bootDensity (b : BootSet) : Option Nat :=
  match b.devs[0] with
  | none => none
  | some d => if b.devs.all (fun x => x = none || x = some d) && decide (densityBytes d ≠ 0) then some d else none

/-- Where a byte of the boot set lies: 0x10000000 × (2 × port + CS) + device address (R340). -/
def flashKey (b : BootSet) (a : Nat) : Nat :=
  let cap := densityBytes ((b.devs[0]).getD 0)
  let two := (b.devs[2]).isSome
  let port := if two then (a >>> 12) % 2 else 0
  let p := if two then ((a >>> 13) <<< 12) + a % 4096 else a
  if p < cap then 0x10000000 * (2 * port) + p else 0x10000000 * (2 * port + 1) + (p - cap)

/-- A byte of the boot set. -/
def bootByte (b : BootSet) (a : Nat) : Byte := Tab.get b.flash 0xFF (flashKey b a)

/-- n bytes of the boot set from a upward. -/
def bootBytes (b : BootSet) (a n : Nat) : List Byte := (List.range n).map (fun i => bootByte b (a + i))

/-- A 32-bit word of the boot set. -/
def bootWord (b : BootSet) (a : Nat) : Nat := leToNat (bootBytes b a 4)

/-- The size of the boot set. -/
def bootSize (b : BootSet) : Nat :=
  match population b with
  | some (p, n) => p * n * densityBytes ((b.devs[0]).getD 0)
  | none => 0

/-! ## The manifest -/

/-- The highest manifest version that the directory offers and CFG_CAPS.manifest accepts, with its offset and length
(R342, R343). -/
def chooseManifest (b : BootSet) (caps : Nat) : Option (Nat × Nat × Nat) :=
  if bootWord b 16 ≠ 0 ∧ caps.testBit 1 = true then some (2, bootWord b 12, bootWord b 16)
  else if bootWord b 8 ≠ 0 ∧ caps.testBit 0 = true then some (1, bootWord b 4, bootWord b 8)
  else none

/-- Fields of the header (R344). -/
def hdrSections (h : List Nat) : Nat := bits (h.getD 1 0) 15 8
def hdrInter (h : List Nat) : Nat := bits (h.getD 1 0) 17 16
def hdrSvn (h : List Nat) : Nat := bits (h.getD 3 0) 15 0
def hdrRelease (h : List Nat) : Nat := bits (h.getD 5 0) 9 0
def hdrTrain (h : List Nat) : Bool := bit (h.getD 24 0) 1

/-- The header keeps R344, and the counts that R348 gives its version; svn is checked later (R348). -/
def headerOk (h : List Nat) (ver len : Nat) : Bool :=
  decide (h.getD 0 0 = 0x464D414C) && decide (bits (h.getD 1 0) 7 0 = ver) &&
  decide (2 ≤ hdrSections h) && decide (hdrSections h ≤ if ver = 1 then 24 else 56) &&
  decide (hdrInter h ≤ if ver = 1 then 1 else 2) &&
  decide (h.getD 2 0 = 256 + 32 + 7888 * hdrInter h + 64 * hdrSections h) &&
  decide (len = h.getD 2 0 + 7856) &&
  decide (10 ≤ bits (h.getD 4 0) 11 0) && decide (bits (h.getD 4 0) 11 0 ≤ 3600) &&
  decide (1 ≤ bits (h.getD 4 0) 19 16) &&
  decide ((h.getD 1 0) >>> 18 = 0) && decide ((h.getD 3 0) >>> 16 = 0) &&
  decide (bits (h.getD 4 0) 15 12 = 0) && decide ((h.getD 4 0) >>> 20 = 0) && decide ((h.getD 5 0) >>> 10 = 0) &&
  decide (bits (h.getD 16 0) 7 0 = 0) && decide (bits (h.getD 17 0) 7 0 = 0) && decide ((h.getD 24 0) >>> 2 = 0) &&
  (List.range 39).all (fun i => h.getD (25 + i) 0 == 0)

/-- An entry of the section table (R349). -/
def readSection (b : BootSet) (a : Nat) : Section where
  role := bits (bootWord b a) 7 0
  src := bootWord b (a + 4)
  len := bootWord b (a + 8)
  dst := bootWord b (a + 12) + 4294967296 * bits (bootWord b (a + 16)) 7 0
  digest := bootBytes b (a + 32) 32

/-- The entry keeps the form of R349: its multiples, and zero in the bits that the table does not name. -/
def entryForm (b : BootSet) (a : Nat) : Bool :=
  let e := readSection b a
  decide (bootWord b a < 256) && decide (1 ≤ e.role) && decide (e.role ≤ 6) && decide (e.src % 4096 = 0) &&
  decide (e.len % 64 = 0) && decide (64 ≤ e.len) && decide (bootWord b (a + 16) < 256) &&
  decide (bootWord b (a + 20) = 0) && decide (bootWord b (a + 24) = 0) && decide (bootWord b (a + 28) = 0)

/-- src increases, and each section ends at or before the next src and within the boot set (R351). -/
def srcRising (size : Nat) : List Section → Bool
  | [] => true
  | [e] => decide (e.src + e.len ≤ size)
  | e :: f :: t => decide (e.src + e.len ≤ f.src) && srcRising size (f :: t)

/-- The destination of a section lies where R350 puts its role; the capacity is checked later (R351). -/
def dstForm (e : Section) : Bool :=
  if e.role = 1 then decide (e.dst = 0) && decide (e.len = 64)
  else if e.role = 4 then decide (0x8002C00000 ≤ e.dst) && decide (e.dst + e.len ≤ 0x8002D60000)
  else decide (e.dst % 64 = 0)

/-- No two destinations overlap (R351). -/
def disjointDsts : List Section → Bool
  | [] => true
  | e :: t => t.all (fun f => decide (e.dst + e.len ≤ f.dst) || decide (f.dst + f.len ≤ e.dst)) && disjointDsts t

/-- The entry of core k lies within a control-code section, or within the audio section (R351). -/
def entryPlaced (es : List Section) (h : List Nat) (k : CoreId) : Bool :=
  let a := instrToData k (h.getD (6 + k.val) 0)
  es.any (fun e => decide (e.role = if k.val < 8 then 3 else 4) && decide (e.dst ≤ a) && decide (a < e.dst + e.len))

/-- The section table keeps R351, apart from the DRAM capacity. -/
def tableOk (es : List Section) (h : List Nat) (size : Nat) : Bool :=
  (match es with
  | e0 :: e1 :: t => decide (e0.role = 1) && decide (e1.role = 2) && t.all (fun e => decide (3 ≤ e.role)) &&
      decide ((t.filter (fun e => e.role = 4)).length ≤ 1)
  | _ => false) &&
  srcRising size es && es.all dstForm && disjointDsts (es.drop 1) &&
  (List.finRange 10).all (fun k => !(hdrRelease h).testBit k.val || entryPlaced es h k)

/-- The DRAM destinations end below the capacity (R351). -/
def capacityOk (es : List Section) (size : Nat) : Bool :=
  es.all (fun e => decide (e.role = 1) || decide (e.role = 4) || decide (e.dst + e.len ≤ size))

/-! ## Start-up -/

/-- CFG_STAT.stage set. -/
def setStage (n : Nat) (s : State) : State := setF s P.CFG_STAT F.CFG_STAT_stage n

/-- A measurement taken. -/
def measure (role : Nat) (d : List Byte) (s : State) : State :=
  setBoot { s.cfg with meas := s.cfg.meas ++ [⟨role, d⟩] } s

/-- CFG_MDIGEST, CFG_SVN and CFG_SPARGE_CFG loaded (R364). -/
def loadCfg (digest : List Byte) (h : List Nat) (s : State) : State :=
  let s := (List.range 8).foldl (fun t k => setReg t (P.CFG_MDIGEST k) (wordOf digest k)) s
  let s := setReg s P.CFG_SVN (BitVec.ofNat 32 (hdrSvn h + 65536 * svnMin s))
  setReg s P.CFG_SPARGE_CFG (BitVec.ofNat 32 (h.getD 4 0))

/-- Start streaming: stage 4, D0 training alongside when the header asks for it (R352, steps 5 to 7). -/
def startStreaming (s : State) : State :=
  let s := setStage 4 (dramTrained (setF s P.MEM_CFG F.MEM_CFG_locked 1))
  let s := setBoot { s.cfg with next := 1 } s
  if hdrTrain s.cfg.hdr then trainD0 s.cfg.hdr s else s

/-- A read burst of a step stalls: start-up rests there until the repeat of the burst has come or failed (R341). -/
def stallAt (step : Nat) (s : State) : State := setBoot { s.cfg with stalled := step } s
def stallDue (step : Nat) (s : State) : Bool := s.cfg.stalls.getLsbD (step - 1)

/-- Step 5: the memory section, MEM_CFG, the capacity rule, and training (R38, R350 to R353). -/
def readMemory (b : BootSet) (s : State) : State :=
  match s.cfg.sections with
  | [] => s
  | e :: _ =>
    let data := bootBytes b e.src e.len
    if sha256 data ≠ e.digest then bootStop 12 0 s
    else
      let s := measure 1 e.digest s
      let s := setReg s P.MEM_CFG (BitVec.ofNat 32 (leToNat (data.take 4) % 1024))
      if !capacityOk s.cfg.sections s.dramSize then bootStop 10 0 s
      else if s.cfg.trains then startStreaming s
      else s

def startMemory (b : BootSet) (s : State) : State :=
  let s := setStage 3 s
  if stallDue 3 s then stallAt 3 s else readMemory b s

/-- The chain from a key: each intermediate key verified by the key before it; the last key, none on a failure, with
each verified key measured (R345, R354). -/
def chainKeys (b : BootSet) : Nat → Nat → List Byte → State → Option (List Byte) × State
  | 0, _, key, s => (some key, s)
  | n + 1, a, key, s =>
    let next := bootBytes b a 32
    if slhVerify 0 false key (ascii "AH7140-KEY") next (bootBytes b (a + 32) 7856) then
      chainKeys b n (a + 7888) next (measure 0xF2 (sha256 next) s)
    else (none, s)

/-- Step 4 and what follows: the root hash, the chain, the signature and svn (R345 to R348). -/
def verifyManifest (b : BootSet) (ver off : Nat) (s : State) : State :=
  let h := s.cfg.hdr
  match s.sec.root with
  | none => bootStop 14 0 s
  | some root =>
    let rootKey := bootBytes b (off + 256) 32
    if sha256 rootKey ≠ root then bootStop 6 0 s
    else
      match chainKeys b (hdrInter h) (off + 288) rootKey (measure 0xF1 root s) with
      | (none, s1) => bootStop 7 0 s1
      | (some key, s1) =>
        let body := bootBytes b off (h.getD 2 0)
        if !slhVerify 0 false key (ascii "AH7140-MANIFEST") body (bootBytes b (off + h.getD 2 0) 7856) then
          bootStop 8 0 s1
        else
          let digest := sha256 body
          let s2 := loadCfg digest h (measure 0xF3 digest (setBoot { s1.cfg with verified := true, key := key } s1))
          if hdrSvn h < svnMin s2 ∨ (ver = 1 ∧ hdrSvn h ≠ 0) ∨ (ver = 1 ∧ svnMin s2 ≠ 0) then bootStop 9 0 s2
          else startMemory b s2

/-- Step 3, the chosen manifest's header and section table, and what follows (R344, R348, R351). -/
def checkManifest (b : BootSet) (ver off len : Nat) (s : State) : State :=
  let h := (List.range 64).map (fun i => bootWord b (off + 4 * i))
  if !headerOk h ver len then bootStop 5 0 s
  else
    let base := off + 288 + 7888 * hdrInter h
    let es := (List.range (hdrSections h)).map (fun i => readSection b (base + 64 * i))
    let formed := (List.range (hdrSections h)).all (fun i => entryForm b (base + 64 * i))
    if ver = 1 && es.any (fun e => decide (e.role = 6)) then bootStop 5 0 s
    else if !formed || !tableOk es h (bootSize b) then bootStop 10 0 s
    else verifyManifest b ver off (setBoot { s.cfg with hdr := h, sections := es } s)

/-- Step 3: the directory and the manifest that it leads to (R342, R343). -/
def readDirectory (b : BootSet) (s : State) : State :=
  if bootWord b 0 ≠ 0x5249444C then bootStop 3 0 s
  else
    match chooseManifest b (getF s P.CFG_CAPS F.CFG_CAPS_manifest) with
    | none => bootStop 4 0 s
    | some (ver, off, len) =>
      let s := setF s P.CFG_STAT F.CFG_STAT_manifest_ver ver
      if stallDue 2 s then stallAt 2 s else checkManifest b ver off len s

def readManifest (b : BootSet) (s : State) : State :=
  let s := setStage 2 s
  if stallDue 1 s then stallAt 1 s else readDirectory b s

/-- Step 2: the probe (R338, R339). -/
def probe (b : BootSet) (s : State) : State :=
  match b.devs[0] with
  | none => bootStop 1 0 s
  | some _ =>
    match population b, bootDensity b with
    | some (p, n), some d => readManifest b (setReg s P.CFG_BOOTSET (BitVec.ofNat 32 (p + 4 * n + 16 * d)))
    | _, _ => bootStop 2 0 s

/-- The key store's check at PD2 power-up (R373). -/
def keyStoreCheck (damage : List Byte) (s : State) : State :=
  if storeIntact s.sec damage then s else raiseTilt 0x3905 (setF s P.SEC_STAT F.SEC_STAT_tilt_cause 5)

/-- Step 1: the PLLs lock, PD1 recovers the ledger, PD2 checks the key store, and the count of uptime begins (R352,
R373, R408, R451, R454). -/
def startUp (env : StartEnv) (s : State) : State :=
  let s := setPwr { s.pwr with
    inReset := false
    uptime := 0
    locked := 0xF
    railsOk := ~~~s.pwr.inWarn
    vio33 := env.vio33 } s
  let s := setF (setStage 1 s) P.CFG_CAPS F.CFG_CAPS_manifest (if s.sec.v1Withdrawn then 2 else 3)
  let s := setBoot { Boot.reset with
    set := some env.boot
    trains := env.trains
    stalls := env.stalls
    meas := [⟨0xF0, bytesOf 32 Config.bootRomDigest⟩] } s
  let s := keyStoreCheck env.storeDamage (recoverLedger s)
  if bootStage s = 7 then s else probe env.boot s

/-- RESET_RELEASE: the power sequencer releases device reset once the rails and RESET_N have been good for 2 ms, and
start-up runs to its wait for training or to streaming (R352, R459). -/
def execResetRelease (env : StartEnv) (s : State) : Out :=
  if s.pwr.inReset && !s.pwr.resetNLow && !s.pwr.onVbat && !s.pwr.inWarn.getLsbD 0 && !s.pwr.inWarn.getLsbD 2 then
    .next (startUp env s)
  else .next s

/-- Start-up goes on behind a stalled burst whose repeat has come (R341). -/
def resumeStartUp (b : BootSet) (s : State) : State :=
  let step := s.cfg.stalled
  let s1 := setBoot { s.cfg with stalled := 0 } s
  if step = 1 then readDirectory b s1
  else if step = 2 then
    match chooseManifest b (getF s1 P.CFG_CAPS F.CFG_CAPS_manifest) with
    | some (ver, off, len) => checkManifest b ver off len s1
    | none => s1
  else if step = 3 then readMemory b s1
  else s1

/-- XSPI_BURST_TIMEOUT: a burst without a data strobe is repeated once; the repeat's failure stops with code 13, its
success lets start-up go on. The sequencer reads while a step is stalled, and all through streaming (R341). -/
def execXspiBurstTimeout (repeatFails : Bool) (s : State) : Out :=
  if decide (s.cfg.stalled ≠ 0 ∧ bootStage s ≠ 7) || decide (bootStage s = 4) then
    if repeatFails then .next (bootStop 13 0 (setBoot { s.cfg with stalled := 0 } s))
    else
      match s.cfg.set with
      | some b => .next (resumeStartUp b s)
      | none => .next s
  else .next s

/-- TRAINING_TIMEOUT: training has not completed within 40 ms: stop 11 (R352, R357). -/
def execTrainingTimeout (s : State) : Out :=
  if bootStage s = 3 ∧ s.cfg.stalled = 0 then .next (bootStop 11 0 s) else .next s

/-- Step 8: the boot record waits for its commit, the boot counter advanced (R354, R400). -/
def startRecord (s : State) : State :=
  let s := setStage 5 s
  let s := countBoot s
  let r : LedgerRec := ⟨1, s.ldg.bootCnt, (getReg s P.PWR_RESET_CAUSE).toNat, rtcNow s, 0, 0,
    getF s P.CFG_STAT F.CFG_STAT_manifest_ver, false, s.cfg.meas⟩
  setLdg { s.ldg with held := some r } s

/-- A section's bytes at their destination: into DRAM as requester 12, into the resident area directly (R40, R350, R353). -/
def placeSection (e : Section) (data : List Byte) (s : State) : Except Held State :=
  if e.role = 4 then .ok (s.writeBytes e.dst data) else dramWrite 12 e.dst data s

/-- SECTION_DIGEST_CHECK: the next section has streamed to its destination and its digest is compared: code 12 on a
difference; after the last section comes the record (R352, R353). -/
def execSectionDigestCheck (s : State) : Out :=
  if bootStage s ≠ 4 then .next s
  else
    match s.cfg.set, s.cfg.sections[s.cfg.next]? with
    | some b, some e =>
      let data := bootBytes b e.src e.len
      match placeSection e data s with
      | .error h => .next (park h s)
      | .ok s1 =>
        if sha256 data ≠ e.digest then .next (bootStop 12 s.cfg.next s1)
        else
          let s2 := measure e.role e.digest s1
          let s3 := setBoot { s2.cfg with next := s.cfg.next + 1, screenOk := s.cfg.screenOk || decide (s.cfg.next = 1) } s2
          .next (if s.cfg.next + 1 = s.cfg.sections.length then startRecord s3 else s3)
    | _, _ => .next s

/-- SYS_CORE_ENTRY and SYS_VBASE of core k from the header (R344, R355). -/
def loadEntry (k : CoreId) (s : State) : State :=
  let h := s.cfg.hdr
  setReg (setReg s (P.SYS_CORE_ENTRY k) (BitVec.ofNat 32 (h.getD (6 + k.val) 0)))
    (P.SYS_VBASE k) (BitVec.ofNat 32 (h.getD (if k.val < 8 then 16 else 17) 0))

/-- The index of the first image-content section at or after i (R350). -/
def nextImage (s : State) (i : Nat) : Option Nat :=
  (List.range s.cfg.sections.length).find? (fun j =>
    decide (i ≤ j) && (match s.cfg.sections[j]? with
      | some e => decide (2 ≤ e.role) && decide (e.role ≤ 5)
      | none => false))

/-- A sparge pass begins at the first image-content section (R361). -/
def beginPass (s : State) : State :=
  let i := (nextImage s 0).getD 1
  setF (setBoot { s.cfg with passRuns := true, waits := false, at_ := i, differs := false } s)
    P.CFG_SPARGE_POS F.CFG_SPARGE_POS_section i

/-- RELEASE: the record is committed, or no slot is free, and D0's training, which reports its result then, has ended:
every core of the release mask runs, stage 6, and sparge begins (R355, R356, R364). us is the time since reset release. -/
def execBootRelease (us : Word) (s : State) : Out :=
  if bootStage s = 5 ∧ trainingRuns s 0 = false ∧ (s.ldg.held = none ∨ onF s P.LDG_STAT F.LDG_STAT_pending = true) then
    let s1 := (List.finRange 10).foldl (fun t k => loadEntry k t) s
    let s2 := (List.finRange 10).foldl (fun t k =>
      if (hdrRelease s.cfg.hdr).testBit k.val then coreRelease k t else t) s1
    let s3 := setReg (setStage 6 s2) P.CFG_T_RELEASE us
    .next (beginPass (setBoot { s3.cfg with releaseTick := s3.pwr.uptime.toNat, due := 1 } s3))
  else .next s

/-- Sparge runs: start-up has ended in release, and the trust cluster's clock runs (R361, R363). -/
def spargeRuns (s : State) : Bool := decide (bootStage s = 6) && s.powered 2 && s.cpuClock

/-- SPARGE_PASS: a multiple of sparge_period seconds after release has come: a pass begins, or waits for the end of the
one that runs, which sets sparge_slow (R361). -/
def execSpargePass (s : State) : Out :=
  let period := 32768 * getF s P.CFG_SPARGE_CFG F.CFG_SPARGE_CFG_period
  if bootStage s = 6 ∧ period * s.cfg.due ≤ s.pwr.uptime.toNat - s.cfg.releaseTick then
    let s1 := setBoot { s.cfg with due := s.cfg.due + 1 } s
    if s.cfg.passRuns then
      .next (setF (setBoot { s1.cfg with waits := true } s1) P.CFG_STAT F.CFG_STAT_sparge_slow 1)
    else .next (beginPass s1)
  else .next s

/-- A mismatch of section i (R362). One of the tilt screen found while code 0x3801 stands brings the stop raster (R363,
R472). -/
def spargeMiss (i : Nat) (s : State) : State :=
  let s := setReg s P.CFG_SPARGE_MISS (BitVec.ofNat 32 (i + 0x80000000))
  let s := if s.tilt.code = some 0x3801 ∧ i = 1 then setF s P.SYS_TILT_LAST F.SYS_TILT_LAST_raster 1 else s
  raiseTilt 0x3801 (setF (setBoot { s.cfg with differs := true } s) P.CFG_STAT F.CFG_STAT_tilt_cause 1)

/-- The pass ends: counted when no section differed, and the pass that waits begins (R361, R362). -/
def endPass (s : State) : State :=
  let s1 :=
    if s.cfg.differs then s
    else setF (setF s P.CFG_SPARGE_POS F.CFG_SPARGE_POS_pass (getF s P.CFG_SPARGE_POS F.CFG_SPARGE_POS_pass + 1))
      P.CFG_STAT F.CFG_STAT_sparge_pass 1
  if s1.cfg.waits then beginPass s1 else setBoot { s1.cfg with passRuns := false } s1

/-- The sweep reads a section: from DRAM as requester 12, the audio section directly (R361). -/
def spargeRead (e : Section) (s : State) : Except Held State := if e.role = 4 then .ok s else dramRead 12 e.dst e.len s

/-- SPARGE_SECTION: the section under the sweep has been read whole and its hash is compared (R362). -/
def execSpargeSection (s : State) : Out :=
  if !spargeRuns s || !s.cfg.passRuns then .next s
  else
    match s.cfg.sections[s.cfg.at_]? with
    | none => .next s
    | some e =>
      match spargeRead e s with
      | .error h => .next (park h s)
      | .ok s0 =>
        let s1 := if sha256 (s.readBytes e.dst e.len) ≠ e.digest then spargeMiss s.cfg.at_ s0 else s0
        match nextImage s (s.cfg.at_ + 1) with
        | some i =>
          .next (setF (setBoot { s1.cfg with at_ := i } s1) P.CFG_SPARGE_POS F.CFG_SPARGE_POS_section i)
        | none => .next (endPass s1)

end Sys2Proof.Machine
end

