-- ==== Sys2Proof/Machine/Counters.lean ====
section
/-! DEFINITION. Reading, writing and clearing the performance counters and the histograms (R313 to R318). -/
namespace Sys2Proof.Machine

/-- A write of PMC_VAL (R313). -/
def pmcWrite (c : Fin 64) (v : Word) (s : State) : State := pmcSet c v s

/-- COUNTER_WRITE: a write of PMC_VAL (R313). -/
def execCounterWrite (m : Master) (c : Fin 64) (v : Word) (s : State) : Out :=
  gate m true (P.PMC_VAL c) (fun s => .next (pmcWrite c v s)) s

/-- The reader's PMC_HOLD (R315). -/
def holdKey (m : Master) : Nat :=
  match m with
  | .core k => own k P.PMC_HOLD
  | .debug => own 10 P.PMC_HOLD

/-- A read of PMC_VAL: the even counter of a pair loads the reader's hold (R315). -/
def pmcRead (m : Master) (c : Fin 64) (s : State) : Word × State :=
  let s1 := pmcLook c s
  let v := s1.pmc.vals[c]
  if h : pmcChained s c ∧ c.val + 1 < 64 then
    let u := s1.pmc.vals[c.val + 1]'h.2
    (v, setReg s1 (holdKey m) u)
  else (v, s1)

/-- COUNTER_READ: a read of PMC_VAL (R315). -/
def execCounterRead (m : Master) (c : Fin 64) (s : State) : Out :=
  gate m false (P.PMC_VAL c) (fun s =>
    let r := pmcRead m c s
    .next { r.2 with rdata := r.1 }) s

/-- COUNTER_OVERFLOW: counter c, counting clocks or misses, or the pair that it begins, wraps and goes on to n; the
counters of other events wrap in the command in which the event occurs (R313, R314). -/
def execCounterOverflow (c : Fin 64) (n : Fin 4) (s : State) : Out :=
  if !s.powered 11 || !countsClocks s c then .next s
  else
    let full := BitVec.ofNat 32 4294967295
    let s1 := pmcSet c full s
    let s2 := if h : pmcChained s c ∧ c.val + 1 < 64 then pmcSet ⟨c.val + 1, h.2⟩ full s1 else s1
    .next { s2 with pmc := s2.pmc.add (pmcChained s c) c (n.val + 1) }

/-- Every counter and every hold at zero (R318). -/
def pmcClear (s : State) : State :=
  let s1 := (List.range 11).foldl (fun t (k : Nat) => setReg t (own k P.PMC_HOLD) 0) s
  { s1 with pmc := { s1.pmc with vals := Vector.replicate 64 0 } }

/-- A write of v to PMC_CTRL: with enable cleared every counter keeps the count it has come to (R311, R318). -/
def pmcCtrlWrite (v : Word) (s : State) : State :=
  let s1 := setReg (pmcSettle s) P.PMC_CTRL (v &&& 3)
  if F.PMC_CTRL_clear.on v then pmcClear s1 else s1

/-- PMC_CLEAR: PMC_CTRL is written with clear 1, its other fields unchanged (R318). -/
def execPmcClear (m : Master) (s : State) : Out :=
  gate m true P.PMC_CTRL (fun s => .next (pmcCtrlWrite (getReg s P.PMC_CTRL ||| 4) s)) s

/-- A write of v to PMC_HIST_CFG, the requester one of 0 to 16 (R317). -/
def histWrite (h : Fin 4) (v : Word) (s : State) : Out :=
  let p := P.PMC_HIST_CFG h
  let s1 := setReg (drawCode p v s) p (F.PMC_HIST_CFG_clear.put 0 (listedWord p v s))
  .next (if F.PMC_HIST_CFG_clear.on v then
    { s1 with pmc := { s1.pmc with bins := s1.pmc.bins.set h (Vector.replicate 16 0) } } else s1)

/-- HISTOGRAM_CLEAR: PMC_HIST_CFG is written with clear 1, its other fields unchanged (R317). -/
def execHistogramClear (m : Master) (h : Fin 4) (s : State) : Out :=
  gate m true (P.PMC_HIST_CFG h) (fun s => histWrite h (getReg s (P.PMC_HIST_CFG h) ||| 0x4000) s) s

end Sys2Proof.Machine
end

