-- ==== Sys2Proof/Machine/Heto.lean ====
section
/-! DEFINITION. The Heto link ports (R319 to R337). -/
namespace Sys2Proof.Machine

/-- Port p's state beside its registers, replaced. -/
def setHlk (p : Fin 8) (h : Hlk) (s : State) : State := { s with hlk := s.hlk.set p h }

/-- HLK_STAT.running, and the port's clock. -/
def hlkRuns (s : State) (p : Fin 8) : Bool := s.powered 37 && onF s (P.HLK_STAT p) F.HLK_STAT_running

/-! ## Nodes (R325, R326, R334) -/

/-- HLK_NODE's fields: state 0 unknown, 1 ready, 2 refused, 3 lost. -/
def nodeState (s : State) (p : Fin 8) (n : Nat) : Nat := getF s (P.HLK_NODE p n) F.HLK_NODE_state
def nodeVersion (s : State) (p : Fin 8) (n : Nat) : Nat := getF s (P.HLK_NODE p n) F.HLK_NODE_version

/-- TX descriptor i's fields: state 0 free, 1 queued, 2 sent, 3 done. -/
def txState (s : State) (p : Fin 8) (i : Nat) : Nat := getF s (P.HLK_TX0 p i) F.HLK_TX0_state
def txNode (s : State) (p : Fin 8) (i : Nat) : Nat := getF s (P.HLK_TX0 p i) F.HLK_TX0_node
def txEndpoint (s : State) (p : Fin 8) (i : Nat) : Nat := getF s (P.HLK_TX0 p i) F.HLK_TX0_endpoint
def txBcast (s : State) (p : Fin 8) (i : Nat) : Bool := onF s (P.HLK_TX0 p i) F.HLK_TX0_bcast
def setTxState (p : Fin 8) (i x : Nat) (s : State) : State := setF s (P.HLK_TX0 p i) F.HLK_TX0_state x

/-- A descriptor is done (R331). -/
def txDone (p : Fin 8) (i : Nat) (s : State) : State := setF (setTxState p i 3 s) (P.HLK_STAT p) F.HLK_STAT_tx_done 1

/-- Every descriptor in state sent that a test picks returns to queued (R326, R336). -/
def requeue (p : Fin 8) (pick : Nat → Bool) (s : State) : State :=
  (List.range 16).foldl (fun t i => if txState t p i = 2 ∧ pick (txNode t p i) = true then setTxState p i 1 t else t) s

/-- A node returns to unknown (R326). -/
def nodeUnknown (p : Fin 8) (n : Nat) (s : State) : State :=
  let s1 := setF (setF s (P.HLK_NODE p n) F.HLK_NODE_state 0) (P.HLK_NODE p n) F.HLK_NODE_version 0
  requeue p (fun k => k == n) s1

/-- One above a sequence number (R324). -/
def oneAbove (q : Nat) : Nat := if q = 255 then 1 else q + 1

/-- The largest payload and the RX cells reserved per reply, by version (R323). -/
def largestPayload (v : Nat) : Nat := if v = 1 then 32 else if v = 2 then 256 else 1016
def replyCells (v : Nat) : Nat := if v = 1 then 1 else if v = 2 then 5 else 16

/-- The lowest version common to two masks, bit v − 1 for version v (R325). -/
def lowestCommon (a b : Nat) : Option Nat := [1, 2, 3].find? (fun v => bit a (v - 1) && bit b (v - 1))

/-! ## The RX ring (R332) -/

def rxHead (s : State) (p : Fin 8) : Nat := getF s (P.HLK_RX_HEAD p) F.HLK_RX_HEAD_cell
def rxTail (s : State) (p : Fin 8) : Nat := getF s (P.HLK_RX_TAIL p) F.HLK_RX_TAIL_cell

/-- Cells that hold unread records, and free cells. -/
def rxUsed (s : State) (p : Fin 8) : Nat := (rxHead s p + 64 - rxTail s p) % 64
def rxFree (s : State) (p : Fin 8) : Nat := 64 - rxUsed s p

/-- HLK_STAT.rx_avail follows head and tail. -/
def noteAvail (p : Fin 8) (s : State) : State :=
  setF s (P.HLK_STAT p) F.HLK_STAT_rx_avail (b2n (decide (rxHead s p ≠ rxTail s p)))

/-- The port of word i of port p's RX ring and TX area (R337). -/
def rxPort (p : Fin 8) (i : Nat) : Nat := 0xB1000 + 0x2000 * p.val + 4 * (i % 1024)
def txPort (p : Fin 8) (i : Nat) : Nat := 0xB0800 + 0x2000 * p.val + 4 * (i % 512)

/-- Words from the ring word at on. -/
def rxWords (p : Fin 8) : Nat → List Nat → State → State
  | _, [], s => s
  | at_, w :: ws, s => rxWords p (at_ + 1) ws (setReg s (rxPort p at_) (BitVec.ofNat 32 w))

/-- The little-endian words of bytes, the last filled up with zeros. -/
def ringWords : Nat → List Byte → List Nat
  | 0, _ => []
  | n + 1, bs => leToNat (bs.take 4) :: ringWords n (bs.drop 4)

/-- A record of type type_ for the poll c (R332). -/
def rxRecord (p : Fin 8) (c : HlkCycle) (type_ : Nat) (payload : List Byte) (s : State) : State :=
  let len := payload.length
  let w0 := c.node + c.endpoint <<< 8 + type_ <<< 12 + len <<< 16
  let w1 := c.slot + (c.pass % 16777216) <<< 8
  let head := rxHead s p
  let s1 := rxWords p (16 * head) (w0 :: w1 :: ringWords ((len + 3) / 4) payload) s
  noteAvail p (setF s1 (P.HLK_RX_HEAD p) F.HLK_RX_HEAD_cell ((head + (8 + len + 63) / 64) % 64))

/-! ## Frames (R321, R322, R331) -/

/-- The length of descriptor i, and the length it sends in version v: for 0, which is no length, one the manual leaves
open. DESIGN CHOICE. -/
def txLen (s : State) (p : Fin 8) (i : Nat) : Nat := getF s (P.HLK_TX0 p i) F.HLK_TX0_len
def sentLen (s : State) (p : Fin 8) (i v : Nat) : Nat :=
  if txLen s p i = 0 then 1 + Config.unstatedLength s.free % largestPayload v else txLen s p i

/-- The first len bytes of descriptor i's payload: the bytes of the TX area from its cell on, modulo 2 KiB. -/
def txPayload (s : State) (p : Fin 8) (i len : Nat) : List Byte :=
  let cell := getF s (P.HLK_TX1 p i) F.HLK_TX1_cell
  (List.range len).map (fun k =>
    BitVec.ofNat 8 ((getReg s (txPort p ((64 * cell + k) % 2048 / 4))).toNat >>> (8 * (k % 4))))

/-- A frame from destination address to padding, without FCS. -/
def hetoFrame (s : State) (p : Fin 8) (dst : List Byte) (header payload : List Byte) : List Byte :=
  let body := dst ++ [2, 0, 0, 0, 0, 0] ++ natToBe 2 (getF s (P.HLK_ETYPE p) F.HLK_ETYPE_etype) ++ header ++ payload
  body ++ List.replicate (60 - body.length) 0

/-- The Heto header of a frame of the 7140. -/
def hetoHeader (version type_ node endpoint : Nat) (flag : Bool) (seq ack len : Nat) (stamp : List Byte) : List Byte :=
  [BitVec.ofNat 8 (version + 16 * type_), BitVec.ofNat 8 node, BitVec.ofNat 8 (endpoint + 16 * b2n flag),
    BitVec.ofNat 8 seq, BitVec.ofNat 8 ack, 0] ++ natToLe 2 len ++
  (if version = 3 then stamp else [])

/-- The stamp of a version 3 poll; other version 3 frames carry zero in its place. -/
def pollStamp (slot pass : Nat) : List Byte := BitVec.ofNat 8 slot :: natToLe 3 pass

/-- The address of PLCA ID i. -/
def plcaAddress (i : Nat) : List Byte := [2, 0, 0, 0, 0, BitVec.ofNat 8 i]

/-- A payload's length is not above the largest of the version. -/
def lenOk (s : State) (p : Fin 8) (i : Fin 16) (v : Nat) : Bool := decide (txLen s p i ≤ largestPayload v)

/-- The lowest descriptor that a test picks. -/
def lowestTx (f : Fin 16 → Bool) : Option (Fin 16) := (List.finRange 16).find? f

/-- The descriptor whose payload a poll of node n and endpoint e in version v carries (R331). -/
def pollDesc (s : State) (p : Fin 8) (n e v : Nat) : Option (Fin 16) :=
  let for_ := fun (i : Fin 16) => decide (txNode s p i = n) && decide (txEndpoint s p i = e) && !txBcast s p i
  let queued := lowestTx (fun i => decide (txState s p i = 1) && for_ i)
  if v = 1 then queued
  else
    match lowestTx (fun i => decide (txState s p i = 2) && decide (txNode s p i = n)) with
    | some _ => lowestTx (fun i => decide (txState s p i = 2) && for_ i)
    | none => if 0 < getF s (P.HLK_NODE p n) F.HLK_NODE_credit then queued else none

/-- A queued payload of versions 2 and 3 takes the node's next seq and enters state sent (R331). -/
def takeSeq (p : Fin 8) (n v : Nat) (i : Fin 16) (s : State) : State :=
  if v = 1 ∨ txState s p i ≠ 1 then s
  else if hn : n < 64 then
    let h := s.hlk[p]
    setTxState p i 2 (setHlk p { h with
      sentSeq := h.sentSeq.set n h.outSeq[n]
      outSeq := h.outSeq.set n (oneAbove h.outSeq[n]) } s)
  else s

/-- The frame of the cycle c goes out in transmit opportunity 0: a hello or a poll (R322, R325, R331, R332). -/
def sendFrame (p : Fin 8) (c : HlkCycle) (s : State) : State :=
  let s1 := addF s (P.HLK_CNT p) F.HLK_CNT_polls 1
  let h := s1.hlk[p]
  let ack := if c.version = 1 then 0 else h.inSeq.toList.getD c.node 0
  let header := hetoHeader c.version (if c.hello then 3 else 1) c.node c.endpoint c.ready c.seq ack c.payload.length
    (pollStamp c.slot c.pass)
  setHlk p { h with cur := some c, frame := hetoFrame s1 p (plcaAddress (c.node + 1)) header c.payload } s1

/-- A hello (R325): it is always of version 1. -/
def helloCycle (s : State) (p : Fin 8) (slot pass n e : Nat) : HlkCycle where
  slot := slot
  pass := pass
  node := n
  endpoint := e
  version := 1
  hello := true
  desc := none
  ready := false
  cells := 1
  tries := 0
  payload := natToLe 4 (getF s (P.HLK_CTRL p) F.HLK_CTRL_ver_allow)
  seq := 0
  gen := 0

/-- A poll in version v that carries no payload. -/
def pollCycle (slot pass n e v : Nat) (ready : Bool) : HlkCycle where
  slot := slot
  pass := pass
  node := n
  endpoint := e
  version := v
  hello := false
  desc := none
  ready := ready
  cells := if ready then replyCells v else 0
  tries := 0
  payload := []
  seq := 0
  gen := 0

/-- A poll with the payload of descriptor i goes out; in versions 2 and 3 with its seq (R331). -/
def pollWith (p : Fin 8) (c : HlkCycle) (i : Fin 16) (s : State) : State :=
  let len := sentLen s p i c.version
  let s1 := takeSeq p c.node c.version i (if txLen s p i = 0 then { s with free := s.free + 1 } else s)
  sendFrame p { c with
    desc := some i
    payload := txPayload s1 p i len
    seq := if c.version = 1 then 0 else s1.hlk[p].sentSeq.toList.getD c.node 0
    gen := s1.hlk[p].gens[i] } s1

/-- A cycle with no frame of the 7140's own (R327). -/
def emptyCycle (p : Fin 8) (s : State) : State := setHlk p { s.hlk[p] with cur := none, frame := [] } s

/-- The cells reserved for the reply to the previous poll. -/
def reserved (s : State) (p : Fin 8) : Nat :=
  match s.hlk[p].prev with
  | some c => c.cells
  | none => 0

/-- A poll slot of node n and endpoint e (R325, R326, R331, R332). -/
def pollSlot (p : Fin 8) (slot pass n e : Nat) (s : State) : Out :=
  let st := nodeState s p n
  let free := rxFree s p - reserved s p
  if st = 2 then .next (emptyCycle p s)
  else if st ≠ 1 then
    .next (if free = 0 then emptyCycle p s else sendFrame p (helloCycle s p slot pass n e) s)
  else
    let v := nodeVersion s p n
    let c := pollCycle slot pass n e v (decide (replyCells v ≤ free))
    match pollDesc s p n e v with
    | none => .next (sendFrame p c s)
    | some i => if lenOk s p i v then .next (pollWith p c i s) else .fault .hetoForm

/-- The versions whose largest payload a broadcast of descriptor i does not exceed. -/
def broadcastVersions (s : State) (p : Fin 8) (i : Fin 16) : List Nat := [1, 2, 3].filter (fun v => lenOk s p i v)

/-- The version of a broadcast of descriptor i: one of those, which one the manual does not say. -/
def broadcastIn (s : State) (p : Fin 8) (i : Fin 16) : Nat :=
  (broadcastVersions s p i).getD (Config.broadcastVersion p.val % (broadcastVersions s p i).length) 1

/-- The broadcast frame of descriptor i. In versions 2 and 3 its payload has a seq and its header an ack, whose numbers the
manual does not say. -/
def broadcastFrame (s : State) (p : Fin 8) (i : Fin 16) : List Byte :=
  let v := broadcastIn s p i
  let payload := txPayload s p i (sentLen s p i v)
  let seq := if v = 1 then 0 else 1 + Config.broadcastSeq s.free % 255
  let ack := if v = 1 then 0 else (Config.broadcastAck s.free).toNat
  hetoFrame s p (List.replicate 6 0xFF)
    (hetoHeader v 5 0 (txEndpoint s p i) false seq ack payload.length [0, 0, 0, 0]) payload

/-- A broadcast slot (R327). -/
def broadcastSlot (p : Fin 8) (s : State) : Out :=
  match lowestTx (fun i => decide (txState s p i = 1) && txBcast s p i) with
  | none => .next (emptyCycle p s)
  | some i =>
    if broadcastVersions s p i = [] then .fault .hetoForm
    else
      let s1 := setHlk p { s.hlk[p] with cur := none, frame := broadcastFrame s p i } { s with free := s.free + 1 }
      .next (txDone p i s1)

/-- The slot to latch next, its pass, and the pass's length: at the end of a pass the next begins at slot 0 with the length
that HLK_TBL then holds (R327, R330). -/
def passOn (s : State) (p : Fin 8) : Nat × Nat × Nat :=
  let h := s.hlk[p]
  if h.len ≤ h.next then (0, h.pass + 1, getF s (P.HLK_TBL p) F.HLK_TBL_len) else (h.next, h.pass, h.len)

/-- The next slot's entry is latched and its frame sent (R327, R329, R330). -/
def latchSlot (p : Fin 8) (s : State) : Out :=
  let (slot, pass, len) := passOn s p
  let w := getReg s (P.HLK_SLOT p slot)
  let s1 := setReg s (P.HLK_POS p) (BitVec.ofNat 32 (slot + (pass % 16777216) <<< 8))
  let s2 := setHlk p { s.hlk[p] with next := slot + 1, pass := pass, len := len } s1
  let kind := F.HLK_SLOT_kind.get w
  if kind = 0 then .next (emptyCycle p s2)
  else if kind = 1 then pollSlot p slot pass (F.HLK_SLOT_node.get w) (F.HLK_SLOT_endpoint.get w) s2
  else if kind = 2 then broadcastSlot p s2
  else .fault .hetoForm

/-- A retry of a latched entry: the same payload and seq, with room for its reply judged afresh (R333). -/
def retryCycle (p : Fin 8) (c : HlkCycle) (s : State) : State :=
  let free := rxFree s p - reserved s p
  let s1 := setHlk p { s.hlk[p] with retry := none } s
  if c.hello then (if free = 0 then emptyCycle p s1 else sendFrame p c s1)
  else
    let ready := decide (replyCells c.version ≤ free)
    sendFrame p { c with ready := ready, cells := if ready then replyCells c.version else 0 } s1

/-- The port has stopped (R335, R336). -/
def hlkHalt (p : Fin 8) (s : State) : State :=
  let s1 := setF s (P.HLK_STAT p) F.HLK_STAT_running 0
  setHlk p { s1.hlk[p] with cur := none, prev := none, retry := none, stopping := false, lastCycle := false, frame := [] } s1

/-- BEACON: a PLCA cycle begins; the reply to the last cycle's frame arrives in it. A stopping port runs one more cycle
without a frame and stops when the next would begin (R329, R333, R336). -/
def execHlkBeacon (p : Fin 8) (s : State) : Out :=
  let h := s.hlk[p]
  if !hlkRuns s p || h.prev.isSome then .next s
  else if h.lastCycle then .next (hlkHalt p s)
  else
    let s1 := setHlk p { h with prev := h.cur, cur := none } s
    if h.stopping then .next (emptyCycle p (setHlk p { s1.hlk[p] with lastCycle := true } s1))
    else
      match h.retry with
      | some c => .next (retryCycle p c s1)
      | none => latchSlot p s1

/-! ## Replies (R325, R326, R328, R331 to R334) -/

/-- The node has a transmit opportunity (R320). -/
def hasTurn (s : State) (p : Fin 8) (n : Nat) : Bool := decide (n + 1 < getF s (P.HLK_PLCA p) F.HLK_PLCA_node_count)

/-- The reply awaited in this cycle is settled. -/
def settleReply (p : Fin 8) (s : State) : State := setHlk p { s.hlk[p] with prev := none } s

/-- A reply in error or missed: a retry, or the slot has failed and the node's miss count rises (R333, R334). -/
def replyFails (p : Fin 8) (c : HlkCycle) (miss : Bool) (s : State) : State :=
  let s1 := setF (settleReply p s) (P.HLK_STAT p) F.HLK_STAT_err 1
  let s2 := addF s1 (P.HLK_ERR_CNT p) (if miss then F.HLK_ERR_CNT_miss else F.HLK_ERR_CNT_frame) 1
  if c.tries < getF s (P.HLK_CTRL p) F.HLK_CTRL_retries then
    setHlk p { s2.hlk[p] with retry := some { c with tries := c.tries + 1 } } s2
  else
    let s3 := addF s2 (P.HLK_NODE p c.node) F.HLK_NODE_misses 1
    if getF s3 (P.HLK_CTRL p) F.HLK_CTRL_lost_after ≤ getF s3 (P.HLK_NODE p c.node) F.HLK_NODE_misses ∧
        nodeState s3 p c.node ≠ 2 ∧ nodeState s3 p c.node ≠ 3 then
      setF (setF s3 (P.HLK_NODE p c.node) F.HLK_NODE_state 3) (P.HLK_STAT p) F.HLK_STAT_node_lost 1
    else s3

/-- REPLY_ERROR: the reply awaited is in error, or no frame has begun in the node's opportunity (R333). -/
def execReplyError (p : Fin 8) (miss : Bool) (s : State) : Out :=
  match s.hlk[p].prev with
  | none => .next s
  | some c => if hlkRuns s p then .next (replyFails p c miss s) else .next s

/-- A good reply: counted, and the miss count returns to 0 (R334). -/
def goodReply (p : Fin 8) (n : Nat) (s : State) : State :=
  setF (addF (settleReply p s) (P.HLK_CNT p) F.HLK_CNT_replies 1) (P.HLK_NODE p n) F.HLK_NODE_misses 0

/-- The descriptor that a reply retires (R331). -/
def retire (p : Fin 8) (c : HlkCycle) (ack : Nat) (s : State) : State :=
  if c.version = 1 then
    match c.desc with
    | some i => if txState s p i = 1 ∧ s.hlk[p].gens[i] = c.gen then txDone p i s else s
    | none => s
  else
    match lowestTx (fun i => decide (txState s p i = 2) && decide (txNode s p i = c.node)) with
    | some i => if s.hlk[p].sentSeq.toList.getD c.node 0 = ack then txDone p i s else s
    | none => s

/-- A reply's payload: a record when it is in order, a duplicate otherwise (R332). -/
def takePayload (p : Fin 8) (c : HlkCycle) (r : HetoReply) (s : State) : State :=
  if r.payload = [] then s
  else if c.version = 1 then rxRecord p c 2 r.payload s
  else if hn : c.node < 64 then
    let h := s.hlk[p]
    if r.seq.toNat = oneAbove h.inSeq[c.node] then
      rxRecord p c 2 r.payload (setHlk p { h with inSeq := h.inSeq.set c.node r.seq.toNat } s)
    else addF s (P.HLK_ERR_CNT p) F.HLK_ERR_CNT_dup 1
  else s

/-- The reply is one that its poll allows: its node, endpoint and version, and a payload no longer than the version's
largest, none without rx_ready (R328, R332, R333). -/
def replyMatches (c : HlkCycle) (r : HetoReply) : Bool :=
  !c.hello && decide (r.node.val = c.node) && decide (r.endpoint.val = c.endpoint) && decide (r.version.val = c.version) &&
  decide (r.payload.length ≤ (if c.ready then largestPayload c.version else 0))

/-- REPLY: the node polled in the last cycle answers (R328, R331, R332). -/
def execHlkReply (p : Fin 8) (r : HetoReply) (s : State) : Out :=
  match s.hlk[p].prev with
  | none => .next s
  | some c =>
    if !hlkRuns s p || !hasTurn s p c.node then .next s
    else if !replyMatches c r then .next (replyFails p c false s)
    else
      let s1 := goodReply p c.node s
      let s2 := if c.version = 1 then s1 else setF s1 (P.HLK_NODE p c.node) F.HLK_NODE_credit r.credit.toNat
      let s3 := takePayload p c r (retire p c r.ack.toNat s2)
      .next (if r.helloNeeded ∧ nodeState s3 p c.node = 1 then nodeUnknown p c.node s3 else s3)

/-- The version negotiation (R325); a refused node stays so (R326). -/
def negotiate (p : Fin 8) (r : HetoHello) (s : State) : State :=
  let n := r.node.val
  if nodeState s p n = 2 then s
  else match lowestCommon (getF s (P.HLK_CTRL p) F.HLK_CTRL_ver_allow) r.mask.toNat with
  | none => setF (setF s (P.HLK_NODE p n) F.HLK_NODE_state 2) (P.HLK_STAT p) F.HLK_STAT_refused 1
  | some v =>
    let h := s.hlk[p]
    let s1 := setHlk p { h with
      outSeq := h.outSeq.set r.node.val 1
      inSeq := h.inSeq.set r.node.val 0 } s
    let k := P.HLK_NODE p n
    setF (setF s1 k F.HLK_NODE_state 1) k F.HLK_NODE_version v

/-- What a hello reply reports of its node (R325, R337). -/
def noteHello (p : Fin 8) (r : HetoHello) (s : State) : State :=
  let k := P.HLK_NODE p r.node
  setF (setF s k F.HLK_NODE_credit r.credit.toNat) k F.HLK_NODE_ep_m1 r.epM1.val

/-- NODE_HELLO_REPLY: the node answers a hello; from the lost state it returns to unknown (R325, R326). -/
def execNodeHelloReply (p : Fin 8) (r : HetoHello) (s : State) : Out :=
  match s.hlk[p].prev with
  | none => .next s
  | some c =>
    if !hlkRuns s p || !hasTurn s p c.node then .next s
    else if !(c.hello && decide (r.node.val = c.node) && decide (r.endpoint.val = c.endpoint)) then
      .next (replyFails p c false s)
    else
      let s1 := noteHello p r (goodReply p c.node s)
      let s2 := if nodeState s1 p c.node = 3 then nodeUnknown p c.node s1 else negotiate p r s1
      .next (rxRecord p c 4 ([r.mask, r.credit, BitVec.ofNat 8 r.epM1.val, 0] ++ r.identity.toList) s2)

/-- STRAY_FRAME: a frame of another destination or EtherType, or one sent outside R328, is discarded (R321). -/
def execStrayFrame (p : Fin 8) (s : State) : Out :=
  if hlkRuns s p then .next (addF s (P.HLK_ERR_CNT p) F.HLK_ERR_CNT_stray 1) else .next s

/-- The code of a port's tilt (R467). -/
def hlkTiltCode (p : Fin 8) (cause : Nat) : Nat := 0x2800 + 256 * p.val + cause

/-- PORT_DOWN: three collisions of the 7140's own frame, or a line fault (R335). -/
def execPortDown (p : Fin 8) (collisions : Bool) (s : State) : Out :=
  if !hlkRuns s p then .next s
  else
    let cause := if collisions then 1 else 2
    let s1 := setF (hlkHalt p s) (P.HLK_STAT p) F.HLK_STAT_down 1
    let s2 := setF s1 (P.HLK_STAT p) F.HLK_STAT_down_cause cause
    .next (if onF s2 (P.HLK_CTRL p) F.HLK_CTRL_crit then raiseTilt (hlkTiltCode p cause) s2 else s2)

/-! ## Registers (R329 to R332, R336, R337) -/

/-- run is set; the port's line may fall with it (R264, R336). -/
def hlkStart (p : Fin 8) (s : State) : State :=
  let s1 := (List.range 64).foldl (fun t n =>
    setF (setF t (P.HLK_NODE p n) F.HLK_NODE_state 0) (P.HLK_NODE p n) F.HLK_NODE_version 0) s
  let s2 := requeue p (fun _ => true) s1
  let s3 := setReg s2 (P.HLK_POS p) 0
  let s4 := setF (setF s3 (P.HLK_STAT p) F.HLK_STAT_down 0) (P.HLK_STAT p) F.HLK_STAT_down_cause 0
  settleFalls s
    (setF (setHlk p { Hlk.reset with len := getF s (P.HLK_TBL p) F.HLK_TBL_len } s4) (P.HLK_STAT p) F.HLK_STAT_running 1)

/-- A write of v to HLK_CTRL: ver_allow is ignored while running (R330), and a stopped 7140 starts no port (R358). -/
def hlkCtrlWrite (p : Fin 8) (v : Word) (s : State) : Out :=
  let runs := onF s (P.HLK_STAT p) F.HLK_STAT_running
  let w := if runs then F.HLK_CTRL_ver_allow.put (getF s (P.HLK_CTRL p) F.HLK_CTRL_ver_allow) v else v
  let s1 := setReg s (P.HLK_CTRL p) w
  if F.HLK_CTRL_run.on v then
    (if (runs && !s.hlk[p].stopping) || decide (bootStage s = 7) then .next s1 else .next (hlkStart p s1))
  else if runs then .next (setHlk p { s1.hlk[p] with stopping := true } s1)
  else .next s1

/-- PORT_START: HLK_CTRL is written with run 1, its other fields unchanged (R336). -/
def execPortStart (m : Master) (p : Fin 8) (s : State) : Out :=
  gate m true (P.HLK_CTRL p) (fun s => hlkCtrlWrite p (F.HLK_CTRL_run.put 1 (getReg s (P.HLK_CTRL p))) s) s

/-- PORT_STOP: HLK_CTRL is written with run 0, its other fields unchanged (R336). -/
def execPortStop (m : Master) (p : Fin 8) (s : State) : Out :=
  gate m true (P.HLK_CTRL p) (fun s => hlkCtrlWrite p (F.HLK_CTRL_run.put 0 (getReg s (P.HLK_CTRL p))) s) s

/-- A descriptor has been queued once more. -/
def noteQueued (p : Fin 8) (i : Fin 16) (s : State) : State :=
  setHlk p { s.hlk[p] with gens := s.hlk[p].gens.set i (s.hlk[p].gens[i] + 1) } s

/-- The word that a write of v to HLK_TX0 stores: 0 frees and 1 queues; which state a 2 or a 3 written leaves, the manual
does not say. DESIGN CHOICE. -/
def tx0Stored (p : Fin 8) (i : Fin 16) (v : Word) (s : State) : Word :=
  if F.HLK_TX0_state.get v ≤ 1 then v else F.HLK_TX0_state.put (Config.unlistedCode s.free (P.HLK_TX0 p i) % 4) v

/-- A write of v to HLK_TX0: ignored while the descriptor is queued or sent (R331, R337). -/
def tx0Write (p : Fin 8) (i : Fin 16) (v : Word) (s : State) : Out :=
  let st := txState s p i
  if st = 1 ∨ st = 2 then .next s
  else
    let w := tx0Stored p i v s
    let s1 := setReg (if F.HLK_TX0_state.get v ≤ 1 then s else { s with free := s.free + 1 }) (P.HLK_TX0 p i) w
    .next (if F.HLK_TX0_state.get w = 1 then noteQueued p i s1 else s1)

/-- The word of HLK_TX0 from its fields. -/
def tx0Word (node : Fin 64) (bcast : Bool) (endpoint : Fin 16) (len : Fin 1024) (state : Nat) : Word :=
  BitVec.ofNat 32 (node.val + 64 * b2n bcast + 256 * endpoint.val + 0x10000 * len.val + 0x40000000 * state)

/-- TX_QUEUE: HLK_TX0 is written with state 1 (R331). -/
def execTxQueue (m : Master) (p : Fin 8) (i : Fin 16) (node : Fin 64) (bcast : Bool) (endpoint : Fin 16) (len : Fin 1024)
    (s : State) : Out :=
  gate m true (P.HLK_TX0 p i) (tx0Write p i (tx0Word node bcast endpoint len 1)) s

/-- TX_FREE: HLK_TX0 is written with state 0 (R331). -/
def execTxFree (m : Master) (p : Fin 8) (i : Fin 16) (s : State) : Out :=
  gate m true (P.HLK_TX0 p i) (fun s => tx0Write p i (F.HLK_TX0_state.put 0 (getReg s (P.HLK_TX0 p i))) s) s

/-- SLOT_WRITE: a write of HLK_SLOT; a slot is latched from its register, so it applies from its next latch (R329). -/
def execSlotWrite (m : Master) (p : Fin 8) (slot : Fin 256) (node : Fin 64) (endpoint : Fin 16) (kind : Fin 3)
    (s : State) : Out :=
  gate m true (P.HLK_SLOT p slot) (fun s => .next (setReg s (P.HLK_SLOT p slot)
    (BitVec.ofNat 32 (node.val + 256 * endpoint.val + 0x10000 * kind.val)))) s

/-- A write of HLK_TBL: it applies at the end of the pass (R330). For a length outside 1 to 256 the one taken is one of
those, which one the manual does not say. DESIGN CHOICE. -/
def tblWrite (p : Fin 8) (len : Nat) (s : State) : Out :=
  if 1 ≤ len ∧ len ≤ 256 then .next (setF s (P.HLK_TBL p) F.HLK_TBL_len len)
  else .next (setF { s with free := s.free + 1 } (P.HLK_TBL p) F.HLK_TBL_len (1 + Config.unlistedCode s.free (P.HLK_TBL p) % 256))

/-- TABLE_LENGTH_WRITE: a write of HLK_TBL.len (R330). -/
def execTableLengthWrite (m : Master) (p : Fin 8) (len : Fin 257) (s : State) : Out :=
  gate m true (P.HLK_TBL p) (tblWrite p len.val) s

/-- A write of HLK_RX_TAIL; beyond the head it is unpredictable. The port's line may fall with it (R264, R332). -/
def rxTailWrite (p : Fin 8) (cell : Nat) (s : State) : Out :=
  if rxUsed s p < (cell + 64 - rxTail s p) % 64 then .fault .hetoForm
  else .next (settleFalls s (noteAvail p (setF s (P.HLK_RX_TAIL p) F.HLK_RX_TAIL_cell cell)))

/-- RX_TAIL_WRITE: a write of HLK_RX_TAIL (R332). -/
def execRxTailWrite (m : Master) (p : Fin 8) (cell : Fin 64) (s : State) : Out :=
  gate m true (P.HLK_RX_TAIL p) (rxTailWrite p cell.val) s

end Sys2Proof.Machine
end

