-- ==== Sys2Proof/Machine/SelfTest.lean ====
section
/-! DEFINITION. Tilt requests and self-test (chapter 23). -/
namespace Sys2Proof.Machine

/-! ## Tilt (R467, R468, R474) -/

/-- A code that some unit with tilt authority gives (R467). -/
def tiltCodeOk (code : Nat) : Bool :=
  let u := code / 256
  let c := code % 256
  let upTo := fun (n : Nat) => decide (1 ≤ c) && decide (c ≤ n)
  if u = 1 then upTo 3
  else if u = 2 then upTo 255
  else if u = 3 then decide (c ≤ 9)
  else if 0x10 ≤ u ∧ u ≤ 0x17 then upTo 4
  else if 0x18 ≤ u ∧ u ≤ 0x1B then upTo 1
  else if u = 0x20 ∨ (0x28 ≤ u ∧ u ≤ 0x2F) then upTo 2
  else if u = 0x30 ∨ u = 0x38 then upTo 1
  else if u = 0x39 then upTo 5
  else if u = 0x3A then upTo 4
  else decide (u = 0x40) && [3, 4, 5, 6, 7, 8, 9, 10, 12, 13, 14, 15, 28, 29, 34, 37].contains c

/-- The lowest of some codes. -/
def lowestCode : List Nat → Option Nat
  | [] => none
  | c :: cs =>
    match lowestCode cs with
    | none => some c
    | some x => some (Nat.min c x)

/-- TILT: requests of units arrive together: the lowest code is captured, and every other is counted (R468). -/
def execTilt (codes : List (BitVec 16)) (s : State) : Out :=
  let cs := (codes.map BitVec.toNat).filter tiltCodeOk
  match lowestCode cs with
  | none => .next s
  | some c => .next (iter (raiseTilt c) cs.length s)

/-- A write of a cause to SYS_TILT_REQ; 0 changes nothing (R474). -/
def tiltRequest (cause : Nat) (s : State) : State := if cause = 0 then s else raiseTilt (0x0200 + cause) s

/-- SYS_TILT_REQ (R474). -/
def execSysTiltReq (m : Master) (cause : BitVec 8) (s : State) : Out :=
  gate m true P.SYS_TILT_REQ (fun s => .next (tiltRequest cause.toNat s)) s

/-! ## Logic self-test (R475, R476) -/

/-- The domains of a group, the lowest first. -/
def testDomains (g : Nat) : List Nat :=
  if g < 8 then [3 + g]
  else if g < 12 then [4 + g, 8 + g, 22 + g]
  else if g = 12 then [28]
  else if g = 13 then [29]
  else if g = 14 then [34]
  else [37]

/-- Core k is stopped (R240). -/
def coreStopped (s : State) (k : Nat) : Bool :=
  match s.cores.toList[k]? with
  | some c => !c.run
  | none => true

/-- A group is idle (R475). -/
def testIdle (s : State) (g : Nat) : Bool :=
  if g < 8 then coreStopped s g
  else if g < 12 then
    !onF s (P.EPH_STAT (g - 8)) F.EPH_STAT_running && decide (getF s (P.DSP_CTRL (g - 8)) F.DSP_CTRL_mode = 0)
  else if g = 12 then !onF s P.BLT_STAT F.BLT_STAT_busy && !onF s P.BLT_CTRL F.BLT_CTRL_run
  else if g = 13 then !dmaActive s
  else if g = 14 then !onF s P.KTL_STAT F.KTL_STAT_running && coreStopped s 8 && coreStopped s 9
  else (List.range 8).all (fun p => !onF s (P.HLK_STAT p) F.HLK_STAT_running)

/-- The group may be taken: requested, its domains on, and idle. -/
def testReady (s : State) (g : Nat) : Bool :=
  (getReg s P.SYS_LST_REQ).getLsbD g && (testDomains g).all s.powered && testIdle s g

/-- A write of v to SYS_LST_REQ (R475). -/
def testRequest (v : BitVec 16) (s : State) : State := setReg s P.SYS_LST_REQ (getReg s P.SYS_LST_REQ ||| v.setWidth 32)

/-- SELF_TEST_REQUEST (R475). -/
def execSelfTestRequest (m : Master) (v : BitVec 16) (s : State) : Out :=
  gate m true P.SYS_LST_REQ (fun s => .next (testRequest v s)) s

/-- A group's domains at reset. -/
def testReset (g : Nat) (s : State) : State := (testDomains g).foldl (fun t d => resetDomain d t) s

/-- A set of domains. -/
def domSet (ds : List Nat) : BitVec 40 := ds.foldl (fun v d => v ||| BitVec.ofNat 40 (1 <<< d)) 0

/-- SELF_TEST_START: in a CPU clock the lowest pending group that is idle is taken, and behaves as if it were off (R475,
R476). -/
def execSelfTestStart (s : State) : Out :=
  if !s.powered 2 || !s.cpuClock || decide (s.pwr.testing ≠ 0) then .next s
  else
    match (List.range 16).find? (testReady s) with
    | none => .next s
    | some g =>
      let s1 := setReg s P.SYS_LST_REQ (getReg s P.SYS_LST_REQ &&& ~~~(BitVec.ofNat 32 (1 <<< g)))
      let s2 := setF (testReset g s1) P.SYS_LST_STAT F.SYS_LST_STAT_running g
      .next { s2 with pwr := { s2.pwr with testing := domSet (testDomains g) } }

/-- SELF_TEST_END: the group is at its reset values; a good signature sets done, another raises tilt with the lowest
domain (R476). -/
def execSelfTestEnd (good : Bool) (s : State) : Out :=
  let g := getF s P.SYS_LST_STAT F.SYS_LST_STAT_running
  if g = 0x1F then .next s
  else
    let s1 := testReset g { s with pwr := { s.pwr with testing := 0 } }
    let s2 := setF s1 P.SYS_LST_STAT F.SYS_LST_STAT_running 0x1F
    if good then .next (setReg s2 P.SYS_LST_DONE (getReg s2 P.SYS_LST_DONE ||| BitVec.ofNat 32 (1 <<< g)))
    else .next (raiseTilt (0x4000 + (testDomains g).headD 0) s2)

/-! ## Memory self-test (R477) -/

/-- A write of 1s to SYS_MBIST_CTRL (R477). -/
def mbistStart (mram dram : Bool) (s : State) : State :=
  setReg s P.SYS_MBIST_CTRL (getReg s P.SYS_MBIST_CTRL ||| BitVec.ofNat 32 (b2n mram + 2 * b2n dram))

/-- MRAM_TEST: SYS_MBIST_CTRL.mram is written 1 (R477). -/
def execMramTest (m : Master) (s : State) : Out := gate m true P.SYS_MBIST_CTRL (fun s => .next (mbistStart true false s)) s

/-- DRAM_TEST: SYS_MBIST_CTRL.dram is written 1 (R477). -/
def execDramTest (m : Master) (s : State) : Out := gate m true P.SYS_MBIST_CTRL (fun s => .next (mbistStart false true s)) s

/-- Retire spare rows of a bank, by writes of both copies of its directory, and count them. -/
def retireRows (b : Fin 8) (rows : List Nat) (s : State) : State :=
  let d := dirAhead s b
  let bad := d.free.filter (fun r => rows.contains r)
  if bad = [] then s
  else
    addF (addJobs (mirroredCtl (.dir b ⟨d.remaps, d.retired ++ bad⟩)) s) P.SYS_MBIST_STAT F.SYS_MBIST_STAT_retired bad.length

/-- The range that is marked spare. -/
def mbistBase (s : State) : Nat := 4096 * getF s P.SYS_MBIST_BASE F.SYS_MBIST_BASE_base
def mbistLen (s : State) : Nat := 4096 * getF s P.SYS_MBIST_SIZE F.SYS_MBIST_SIZE_pages

/-- MEMORY_TEST_END of the MRAM test: the free spare rows of each bank that failed are retired; it holds like a commit
while commits are held, and a sealed store takes no write of it (R394, R455, R477). -/
def mramTestEnd (fails : List (Fin 8 × Fin 64)) (s : State) : State :=
  if !onF s P.SYS_MBIST_CTRL F.SYS_MBIST_CTRL_mram || s.supplyHeld || !s.powered 1 then s
  else
    let s1 := if storeOpen s then (List.finRange 8).foldl (fun t b =>
      retireRows b ((fails.filter (fun x => decide (x.1 = b))).map (fun x => x.2.val)) t) s else s
    setF s1 P.SYS_MBIST_CTRL F.SYS_MBIST_CTRL_mram 0

/-- The DRAM test's traffic as requester 12: every burst of the range is written and read back (R40, R477). -/
def mbistTraffic : List Nat → State → Except Held State
  | [], s => .ok s
  | a :: as, s =>
    ((dramAccess 12 a (some (s.readBytes a 64)) s).bind (dramAccess 12 a none)).bind (mbistTraffic as)

/-- MEMORY_TEST_END of the DRAM test: the first page that differs, or that link ECC corrected, is recorded; the range holds
the test's patterns, which the manual does not give (R477). -/
def dramTestEnd (fail : Option Nat) (s : State) : Out :=
  if !onF s P.SYS_MBIST_CTRL F.SYS_MBIST_CTRL_dram || !s.powered 36 then .next s
  else if s.dramSize < mbistBase s + mbistLen s then .fault .unmappedData
  else if s.imageIn (mbistBase s) (mbistLen s) then .fault .imageContentWrite
  else
    match mbistTraffic (burstsOf (mbistBase s) (mbistLen s)) s with
    | .error h => .next (park h s)
    | .ok t =>
      let s1 := (eraseRange (mbistBase s) (mbistBase s + mbistLen s) t).draw
      let s2 := setF s1 P.SYS_MBIST_CTRL F.SYS_MBIST_CTRL_dram 0
      match fail with
      | some page =>
        if page * 4096 < mbistLen s then
          .next (setF (setF s2 P.SYS_MBIST_STAT F.SYS_MBIST_STAT_dram_fail 1) P.SYS_MBIST_STAT F.SYS_MBIST_STAT_page page)
        else .next s2
      | none => .next s2

/-- MEMORY_TEST_END (R477). -/
def execMemoryTestEnd (e : MemTest) (s : State) : Out :=
  match e with
  | .mram fails => .next (mramTestEnd fails s)
  | .dram fail => dramTestEnd fail s

end Sys2Proof.Machine
end

