-- ==== Sys2Proof/Machine/IoSys.lean ====
section
/-! DEFINITION. Writes and reads of the SYS, PWR, MON and INT blocks (chapters 11, 13, 22 and 23). -/
namespace Sys2Proof.Machine

/-- A write that only sets and clears fields as their access types say (R8), codes being listed ones. -/
def plainWrite (m : Master) (p : Nat) (v : Word) (s : State) : Out := .next (codeWrite (regKey m p) v s)

/-- A read that only returns fields as their access types say (R8). -/
def plainRead (m : Master) (p : Nat) (s : State) : Word × State := tableRead (regKey m p) s

/-- The port that a master means: a core's own SYS bank stands for its bank by number (R240, R498). -/
def localPort (m : Master) (p : Nat) : Nat :=
  match m with
  | .core k => if 0xF00 ≤ p ∧ p ≤ 0xF2F then sysBank k + (p - 0xF00) else p
  | .debug => p

/-- The key of a reader's hold of an upper half: one for each register and core (R451, R478). -/
def holdOf (m : Master) (p : Nat) : Nat :=
  match m with
  | .core k => own k p
  | .debug => own 10 p

/-- A read of a low half: the reader's hold of the high half is loaded with hi in the same access. -/
def loadHold (m : Master) (hiPort : Nat) (lo hi : Word) (s : State) : Word × State :=
  (lo, setReg s (holdOf m hiPort) hi)

/-- Another core writes a register of core k that only k or the debug port may write while k runs. -/
def foreign (m : Master) (k : CoreId) (s : State) : Bool :=
  match m with
  | .core j => decide (j ≠ k) && s.cores[k].run
  | .debug => false

/-- A write in core k's SYS bank (R233, R237, R240). -/
def coreBankWrite (m : Master) (k : CoreId) (p : Nat) (v : Word) (s : State) : Out :=
  if p = P.SYS_CORE_CTRL k then .next (coreCtrlWrite k v s)
  else if p = P.SYS_CORE_ENTRY k ∨ p = P.SYS_VBASE k ∨ p = P.SYS_XPC k ∨ p = P.SYS_XSR k then
    (if foreign m k s then .fault .foreignCoreWrite else plainWrite m p v s)
  else if p = P.SYS_CMO_LO k ∨ p = P.SYS_CMO_HI k ∨ p = P.SYS_CMO_SIZE k then
    (if onF s (P.SYS_CMO_CTRL k) F.SYS_CMO_CTRL_busy then .fault .cacheRangeBusy else plainWrite m p v s)
  else if p = P.SYS_CMO_CTRL k then .next (cmoCtrlWrite k v s)
  else plainWrite m p v s

/-- A write in the SYS block (R240, R478). -/
def sysWrite (m : Master) (p : Nat) (v : Word) (s : State) : Out :=
  if p = P.SYS_TILT_REQ then .next (tiltRequest (F.SYS_TILT_REQ_cause.get v) s)
  else if p = P.SYS_LST_REQ then .next (testRequest (v.setWidth 16) s)
  else if p = P.SYS_MBIST_CTRL then
    .next (mbistStart (F.SYS_MBIST_CTRL_mram.on v) (F.SYS_MBIST_CTRL_dram.on v) s)
  else if 0x1000 ≤ p ∧ p < 0x1A00 then coreBankWrite m (Fin.ofNat 10 ((p - 0x1000) / 0x100)) p v s
  else plainWrite m p v s

/-- A read in the SYS block (R240, R478). -/
def sysRead (m : Master) (p : Nat) (s : State) : Word × State :=
  if 0x1000 ≤ p ∧ p < 0x1A00 ∧ p % 0x100 = 0 then (coreCtrlWord (Fin.ofNat 10 ((p - 0x1000) / 0x100)) s, s)
  else if p = P.SYS_TILT_TIME_LO then
    loadHold m P.SYS_TILT_TIME_HI (getReg s P.SYS_TILT_TIME_LO) (getReg s P.SYS_TILT_TIME_HI) s
  else if p = P.SYS_TILT_TIME_HI then (getReg s (holdOf m P.SYS_TILT_TIME_HI), s)
  else plainRead m p s

/-! ## PWR and MON -/

/-- A write to PWR_CMD: a reset leaves nothing for Eclipse to do (R448, R461). -/
def pwrCommand (v : Word) (s : State) : State :=
  if F.PWR_CMD_reset.on v then assertReset 6 0 0 s
  else if F.PWR_CMD_eclipse.on v then eclipseCommand s else s

/-- A write in the PWR block (R442, R448, R452, R462). -/
def pwrWrite (m : Master) (p : Nat) (v : Word) (s : State) : Out :=
  if p = P.PWR_DOM_REQ0 then .next (domainRequest false v s)
  else if p = P.PWR_DOM_REQ1 then .next (domainRequest true v s)
  else if p = P.PWR_CMD then .next (pwrCommand v s)
  else if p = P.PWR_DOZE_EN then .next (dozeWrite v s)
  else if p = P.PWR_RTC_SET_LO then
    (match m with
    | .debug => .next (setPwr { s.pwr with rtcStaged := v } s)
    | .core _ => .next s)
  else if p = P.PWR_RTC_SET_HI then
    (match m with
    | .debug => .next (setPwr { s.pwr with rtcDebug := some (v ++ s.pwr.rtcStaged) } s)
    | .core _ => .next s)
  else plainWrite m p v s

/-- A read in the PWR block (R441, R447, R451). -/
def pwrRead (m : Master) (p : Nat) (s : State) : Word × State :=
  if p = P.PWR_DOM_STAT0 then (domStatWord false s, s)
  else if p = P.PWR_DOM_STAT1 then (domStatWord true s, s)
  else if p = P.PWR_PLL then (pllWord s, s)
  else if p = P.PWR_RTC_LO then
    loadHold m P.PWR_RTC_HI (s.pwr.rtc.setWidth 32) ((s.pwr.rtc >>> 32).setWidth 32) s
  else if p = P.PWR_RTC_HI then (getReg s (holdOf m P.PWR_RTC_HI), s)
  else if p = P.PWR_UP_LO then
    loadHold m P.PWR_UP_HI (s.pwr.uptime.setWidth 32) ((s.pwr.uptime >>> 32).setWidth 32) s
  else if p = P.PWR_UP_HI then (getReg s (holdOf m P.PWR_UP_HI), s)
  else plainRead m p s

/-- A read in the MON block (R463). -/
def monRead (m : Master) (p : Nat) (s : State) : Word × State :=
  if p = P.MON_STAT then (monStatWord s, s) else plainRead m p s

/-! ## INT -/

/-- Private sources 16 and 17 have no line on C0 to C7, and enabling one there is unpredictable. -/
def enablesReserved (m : Master) (w : Nat) (v : Word) : Bool :=
  match m with
  | .core k => decide (w = 0) && decide (k.val < 8) && decide (v &&& 0x30000 ≠ 0)
  | .debug => false

/-- A write in the INT block (R268 to R279). -/
def intWrite (m : Master) (p : Nat) (v : Word) (s : State) : Out :=
  if 0x30080 ≤ p ∧ p < 0x30800 then
    (if 10 ≤ F.INT_SRC_CFG_target.get v then .fault .targetCore else plainWrite m p v s)
  else if 0x31000 ≤ p ∧ p < 0x31040 then .next (pendSet m ((p - 0x31000) / 4) v s)
  else if 0x31040 ≤ p ∧ p < 0x31080 then .next (pendClr m ((p - 0x31040) / 4) v s)
  else if 0x31080 ≤ p ∧ p < 0x310C0 then
    (if enablesReserved m ((p - 0x31080) / 4) v then .fault .targetCore
    else .next (setReg s (regKey m p) (getReg s (regKey m p) ||| v)))
  else if 0x310C0 ≤ p ∧ p < 0x31100 then .next (setReg s (regKey m p) (getReg s (regKey m p) &&& ~~~v))
  else if p = P.INT_COMPLETE then
    (match m with
    | .core k => .next (completeSource k (F.INT_COMPLETE_source.get v) s)
    | .debug => .next s)
  else if p = P.INT_DOORBELL then doorbell (F.INT_DOORBELL_bell.get v) (F.INT_DOORBELL_core.get v) s
  else plainWrite m p v s

/-- A read in the INT block (R264, R268, R279). -/
def intRead (m : Master) (p : Nat) (s : State) : Word × State :=
  if 0x31000 ≤ p ∧ p < 0x31040 then (pendWord m ((p - 0x31000) / 4) s, s)
  else if 0x31040 ≤ p ∧ p < 0x31080 then (pendWord m ((p - 0x31040) / 4) s, s)
  else if p = P.INT_CLAIM then
    (match m with
    | .core k => claim k s
    | .debug => (0, s))
  else if p = P.INT_RUNPRI then
    (match m with
    | .core k => (runPriWord k s, s)
    | .debug => (0, s))
  else plainRead m p s

end Sys2Proof.Machine
end

