-- ==== Sys2Proof/Machine/IoUnit.lean ====
section
/-! DEFINITION. Writes and reads of the TMR, PMC, MEM, DMA, BLT, HLK, FLR, SEC and LDG blocks
(chapters 2, 9, 14 to 16 and 18 to 20). -/
namespace Sys2Proof.Machine

/-! ## TMR and PMC -/

/-- The timer whose registers port p lies among (R298). -/
def timerOf (p : Nat) : Fin 16 := Fin.ofNat 16 ((p - 0x40000) / 0x40)

/-- A write in the TMR block (R299 to R309): a low half is only staged. -/
def tmrWrite (m : Master) (p : Nat) (v : Word) (s : State) : Out :=
  let n := timerOf p
  if p = P.TMR_CTRL n then tmrCtrlWrite n v s
  else if p = P.TMR_TOP_LO n then .next (setTmr n { s.tmr[n] with topStaged := some v } s)
  else if p = P.TMR_TOP_HI n then topWrite n (F.TMR_TOP_HI_high.get v) s
  else if p = P.TMR_CMP_LO n then .next (setTmr n { s.tmr[n] with cmpStaged := some v } s)
  else if p = P.TMR_CMP_HI n then cmpWrite n (F.TMR_CMP_HI_high.get v) s
  else if p = P.TMR_CMD n then .next (tmrCmdWrite n v s)
  else if p = P.TMR_CAPCTRL n ∧ 5 < F.TMR_CAPCTRL_src.get v then .fault .timerForm
  else plainWrite m p v s

/-- TMR_STAT.down: the direction of R300, up while the count stays at a TOP of 0 (R503). -/
def tmrDown (s : State) (n : Fin 16) : Bool :=
  if tmrMode s n = 1 then decide (tmrTop s n ≠ 0 ∨ s.tmr[n].count ≠ 0)
  else if tmrMode s n = 2 then onF s (P.TMR_STAT n) F.TMR_STAT_down else false

/-- A read in the TMR block (R300, R308). -/
def tmrRead (m : Master) (p : Nat) (s : State) : Word × State :=
  let n := timerOf p
  if p = P.TMR_CAPR_LO n then captureRead n false s
  else if p = P.TMR_CAPF_LO n then captureRead n true s
  else if p = P.TMR_STAT n then (F.TMR_STAT_down.put (b2n (tmrDown s n)) (getReg s p), s)
  else plainRead m p s

/-- A PMC event number that R312 lists. -/
def pmcListed (e : Nat) : Bool :=
  decide (e ≤ 8) || (decide (0x10 ≤ e) && decide (e ≤ 0x20)) || (decide (0x30 ≤ e) && decide (e ≤ 0x40)) ||
  (decide (0x50 ≤ e) && decide (e ≤ 0x51)) || (decide (0x60 ≤ e) && decide (e ≤ 0x73)) ||
  (decide (0x80 ≤ e) && decide (e ≤ 0x81)) || (decide (0x90 ≤ e) && decide (e ≤ 0x91)) ||
  (decide (0xF0 ≤ e) && decide (e ≤ 0xFF))

/-- A write in the PMC block (R311 to R317). -/
def pmcBlockWrite (m : Master) (p : Nat) (v : Word) (s : State) : Out :=
  if p = P.PMC_CTRL then .next (pmcCtrlWrite v s)
  else if p = P.PMC_OVF0 then .next { s with pmc := { s.pmc with ovf := s.pmc.ovf &&& ~~~(v.setWidth 64) } }
  else if p = P.PMC_OVF1 then
    .next { s with pmc := { s.pmc with ovf := s.pmc.ovf &&& ~~~(v.setWidth 64 <<< 32) } }
  else if 0x50100 ≤ p ∧ p < 0x50200 then
    (if pmcListed (F.PMC_CFG_event.get v) &&
        !(F.PMC_CFG_chain.on v && decide ((p - 0x50100) / 4 % 2 = 0)) then plainWrite m p v (pmcSettle s)
    else .fault .timerForm)
  else if 0x50200 ≤ p ∧ p < 0x50300 then .next (pmcWrite (Fin.ofNat 64 ((p - 0x50200) / 4)) v s)
  else if 0x50800 ≤ p ∧ p < 0x50A00 ∧ (p - 0x50800) % 0x80 = 0 then
    histWrite (Fin.ofNat 4 ((p - 0x50800) / 0x80)) v s
  else plainWrite m p v s

/-- A read in the PMC block (R313 to R317). -/
def pmcBlockRead (m : Master) (p : Nat) (s : State) : Word × State :=
  if p = P.PMC_OVF0 then (s.pmc.ovf.setWidth 32, s)
  else if p = P.PMC_OVF1 then ((s.pmc.ovf >>> 32).setWidth 32, s)
  else if 0x50200 ≤ p ∧ p < 0x50300 then pmcRead m (Fin.ofNat 64 ((p - 0x50200) / 4)) s
  else if 0x50800 ≤ p ∧ p < 0x50A00 ∧ 0x40 ≤ (p - 0x50800) % 0x80 then
    ((s.pmc.bins[Fin.ofNat 4 ((p - 0x50800) / 0x80)])[Fin.ofNat 16 (((p - 0x50800) % 0x80 - 0x40) / 4)], s)
  else plainRead m p s

/-! ## MEM, DMA and BLT -/

/-- A write in the MEM block (R38, R40, R48, R50, R51). -/
def memBlockWrite (m : Master) (p : Nat) (v : Word) (s : State) : Out :=
  if p = P.MEM_CFG then (if onF s P.MEM_CFG F.MEM_CFG_locked then .next s else .fault .memConfig)
  else if p = P.MEM_ARB_CFG then arbNWrite (F.MEM_ARB_CFG_n.get v) s
  else if 0x60100 ≤ p ∧ p < 0x60144 then .next (rankWrite ((p - 0x60100) / 4) (F.MEM_RANK_rank.get v) s)
  else plainWrite m p v s

/-- A read in the MEM block (R55). -/
def memBlockRead (m : Master) (p : Nat) (s : State) : Word × State :=
  if p = P.MEM_ECC_ADDR_LO then eccAddrRead s else plainRead m p s

/-- The DMA channel whose registers port p lies among (R281). -/
def channelOf (p : Nat) : Fin 32 := Fin.ofNat 32 ((p - 0x80000) / 0x40)

/-- A write in the DMA block (R293 to R297). -/
def dmaBlockWrite (m : Master) (p : Nat) (v : Word) (s : State) : Out :=
  if p < 0x80800 then
    let n := channelOf p
    let o := (p - 0x80000) % 0x40
    if o = 0 then chCtrlWrite n (F.DMA_CH_CTRL_run.on v) s
    else if 4 ≤ o ∧ o ≤ 0x1C then
      (if chBusy s n then .next s
      else if o = 4 ∨ o = 8 then .next (setF (tableWrite p v s) (P.DMA_CH_STAT n) F.DMA_CH_STAT_state 0)
      else plainWrite m p v s)
    else plainWrite m p v s
  else if p < 0x81008 then .next (eventSet ((p - 0x81000) / 4) v s)
  else if p < 0x81010 then .next (eventClr ((p - 0x81008) / 4) ⟨v, 0⟩ s)
  else plainWrite m p v s

/-- A read in the DMA block: both names of the event flags read them (R290). -/
def dmaBlockRead (m : Master) (p : Nat) (s : State) : Word × State :=
  if 0x81008 ≤ p ∧ p < 0x81010 then (getReg s (p - 8), s)
  else if p = P.DMA_ERR_SUM then (errSum s, s)
  else plainRead m p s

/-- A write in the BLT block (R180, R182, R192). -/
def bltBlockWrite (m : Master) (p : Nat) (v : Word) (s : State) : Out :=
  if p = P.BLT_RING_BASE then ringWrite false v s
  else if p = P.BLT_RING_SIZE then ringWrite true v s
  else if p = P.BLT_STAT then .next (bltStatWrite v s)
  else plainWrite m p v s

/-! ## HLK and FLR -/

/-- The Heto link port in whose window p lies, and the offset in it (R337). -/
def hetoPortOf (p : Nat) : Fin 8 := Fin.ofNat 8 ((p - 0xB0000) / 0x2000)
def hetoOffset (p : Nat) : Nat := (p - 0xB0000) % 0x2000

/-- The TX area and the RX ring, which are cells and no named registers (R337). -/
def hetoArea (p : Nat) : Bool := decide (0xB0000 ≤ p) && decide (p ≤ 0xBFFFF) && decide (0x800 ≤ hetoOffset p)

/-- A write in the HLK block (R329 to R337). -/
def hlkBlockWrite (m : Master) (p : Nat) (v : Word) (s : State) : Out :=
  let q := hetoPortOf p
  let o := hetoOffset p
  let runs := onF s (P.HLK_STAT q) F.HLK_STAT_running
  if p = P.HLK_CTRL q then hlkCtrlWrite q v s
  else if p = P.HLK_PLCA q ∨ p = P.HLK_ETYPE q then (if runs then .next s else plainWrite m p v s)
  else if p = P.HLK_TBL q then tblWrite q (F.HLK_TBL_len.get v) s
  else if p = P.HLK_RX_TAIL q then rxTailWrite q (F.HLK_RX_TAIL_cell.get v) s
  else if 0x200 ≤ o ∧ o < 0x280 then
    let i := (o - 0x200) / 8
    (if o % 8 = 0 then tx0Write q (Fin.ofNat 16 i) v s
    else if txState s q i = 1 ∨ txState s q i = 2 then .next s
    else plainWrite m p v s)
  else if 0x800 ≤ o then (if o < 0x1000 then .next (setReg s p v) else .next s)
  else plainWrite m p v s

/-- Cells received and not yet taken are the RX ring's contents; a read elsewhere in it is left open (R332). -/
def rxHolds (s : State) (q : Fin 8) (cell : Nat) : Bool :=
  decide ((cell + 64 - rxTail s q) % 64 < rxUsed s q)

/-- A read in the HLK block (R337). -/
def hlkBlockRead (m : Master) (p : Nat) (s : State) : Word × State :=
  let o := hetoOffset p
  if 0x1000 ≤ o then
    (if rxHolds s (hetoPortOf p) ((o - 0x1000) / 64) then (getReg s p, s) else (Config.staleCell s.free p, s.draw))
  else if 0x800 ≤ o then (getReg s p, s)
  else plainRead m p s

/-- A write in the FLR block (R420, R424, R427, R429). -/
def flrBlockWrite (m : Master) (p : Nat) (v : Word) (s : State) : Out :=
  if p = P.FLR_CTRL then flrCtrlWrite v s
  else if (P.FLR_ADDR 0 ≤ p ∧ p ≤ P.FLR_PORTS) ∨ p = P.FLR_BUF then
    (if onF s P.FLR_STAT F.FLR_STAT_running then .next s else plainWrite m p v s)
  else if p = P.FLR_TIMING then Out.then (plainWrite m p v s) checkpointRebase
  else plainWrite m p v s

/-! ## SEC and LDG -/

/-- A write in the SEC block (R375, R381, R384, R386). -/
def secBlockWrite (m : Master) (p : Nat) (v : Word) (s : State) : Out :=
  if (0xD0200 ≤ p ∧ p < 0xD0220) ∨ p = P.SEC_RAW_CTRL then
    (match m with
    | .debug => if p = P.SEC_RAW_CTRL then plainWrite m p v s else .next (setReg s p v)
    | .core _ => .next (if p = P.SEC_RAW_CTRL ∧ F.SEC_RAW_CTRL_overflow.on v = true then setF s p F.SEC_RAW_CTRL_overflow 0 else s))
  else if p = P.SEC_FUSE_CMD then
    (match m with
    | .debug => .next (fuseCommand (F.SEC_FUSE_CMD_op.get v) s)
    | .core _ => .next s)
  else if p = P.SEC_DRBG_REQ then
    (match m with
    | .core k =>
      (match portCore k with
      | some c => drbgRequest c (F.SEC_DRBG_REQ_words.get v) s
      | none => .next s)
    | .debug => .next s)
  else
    match plainWrite m p v s with
    | .next t => .next (noteLow t)
    | o => o

/-- A read in the SEC block (R370, R381, R386). -/
def secBlockRead (m : Master) (p : Nat) (s : State) : Word × State :=
  if 0xD0100 ≤ p ∧ p < 0xD0170 then (secPublicWord p s, s)
  else if p = P.SEC_FUSE then (secFuseWord s, s)
  else if p = P.SEC_KEYS then (secKeysWord s, s)
  else if p = P.SEC_RAW_DATA then
    let (w, t) := plainRead m p s
    (w, setF t P.SEC_RAW_CTRL F.SEC_RAW_CTRL_avail 0)
  else if 0xD1040 ≤ p ∧ p < 0xD1080 then
    (match m with
    | .core k =>
      (match portCore k with
      | some c => outcomeRead c ((p - 0xD1040) / 4) s
      | none => (0, s))
    | .debug => (0, s))
  else plainRead m p s

/-- A write in the LDG block: while busy is 1, staging is ignored and a command sets err (R409). -/
def ldgBlockWrite (m : Master) (p : Nat) (v : Word) (s : State) : Out :=
  if 0xE1000 ≤ p ∧ p < P.LDG_MEV_CMD then
    (if onF s (regKey m P.LDG_MEV_STAT) F.LDG_MEV_STAT_busy then .next s else plainWrite m p v s)
  else if p = P.LDG_MEV_CMD then
    (match m with
    | .core k => .next (mevSubmit k (F.LDG_MEV_CMD_kind.get v) s)
    | .debug => .next s)
  else plainWrite m p v s

/-- A read in the LDG block (R394, R401, R408, R412, R414). -/
def ldgBlockRead (m : Master) (p : Nat) (s : State) : Word × State :=
  if p = P.LDG_STAT then (F.LDG_STAT_ledger_full.put (b2n (ledgerFull s)) (getReg s P.LDG_STAT), s)
  else if p = P.LDG_LEDGER then (ledgerWord s, s)
  else if p = P.LDG_ACKED then (BitVec.ofNat 32 s.ldg.acked, s)
  else if 0xE0020 ≤ p ∧ p < 0xE0040 then (sparesWord (Fin.ofNat 8 ((p - 0xE0020) / 4)) s, s)
  else if p = P.LDG_PD0_CNT then (F.LDG_PD0_CNT_held.put s.ldg.pd0.length (getReg s P.LDG_PD0_CNT), s)
  else
    match m with
    | .core k =>
      if p = P.LDG_MEV_SEQ_LO then seqRead k s
      else if p = P.LDG_MEV_SEQ_HI then (getReg s (seqHold k), s)
      else if p = P.LDG_METER_LO then meterRead k s
      else plainRead m p s
    | .debug => plainRead m p s

end Sys2Proof.Machine
end

