-- ==== Sys2Proof/Machine/IoDisp.lean ====
section
/-! DEFINITION. Writes and reads of the PLN, CMT, EPH, CMP, DSP, DIG, KTL and AAS blocks (chapters 3 to 8 and 10). -/
namespace Sys2Proof.Machine

/-- A write that the 7140 ignores while a condition holds. -/
def writeUnless (stop : Bool) (m : Master) (p : Nat) (v : Word) (s : State) : Out :=
  if stop then .next s else plainWrite m p v s

/-- The cluster whose registers port p lies among, in blocks of stride bytes from base (R496). -/
def clusterOf (base stride p : Nat) : Fin 4 := Fin.ofNat 4 ((p - base) / stride)

/-! ## PLN and CMT -/

/-- A write in the PLN block (R70, R71, R74, R77). -/
def plnWrite (m : Master) (p : Nat) (v : Word) (s : State) : Out :=
  let d := clusterOf 0x100000 0x10000 p
  if (p - 0x100000) % 0x10000 < 0x400 then writeUnless (seqRuns s d) m p v s
  else if p = P.PLN_PAL_HI d then .next (palWrite d (F.PLN_PAL_HI_high.get v) s)
  else if p = P.PLN_PAL_LO d then .next (setReg s p v)
  else if p = P.PLN_COEF_DATA d then .next (coefWrite d (v.setWidth 10) s)
  else if p = P.PLN_COEF_CTRL d then
    .next (if seqRuns s d then s else swapCoefs d (F.PLN_COEF_CTRL_swap.get v) s)
  else if p = P.PLN_PROBE_POS d then
    .next (if F.PLN_PROBE_POS_arm.on v then armProbe p (P.PLN_PROBE_HI d) F.PLN_PROBE_HI_valid v s
    else tableWrite p v s)
  else if p = P.PLN_PCI_CTRL then .next (pciStart (F.PLN_PCI_CTRL_start.on v) (F.PLN_PCI_CTRL_all.on v) s)
  else plainWrite m p v s

/-- A read in the PLN block (R70, R77). -/
def plnRead (m : Master) (p : Nat) (s : State) : Word × State :=
  let d := clusterOf 0x100000 0x10000 p
  let entry := palEntry s d (getF s (P.PLN_PAL_ADDR d) F.PLN_PAL_ADDR_entry)
  if p = P.PLN_PAL_LO d then (BitVec.ofNat 32 entry, s)
  else if p = P.PLN_PAL_HI d then (BitVec.ofNat 32 (entry / 4294967296), s)
  else if p = P.PLN_COEF_DATA d then
    (match shadowKey s d with
    | some k => ((coefAt s d k).setWidth 32, s)
    | none => (0, s))
  else plainRead m p s

/-- A write in the CMT block (R92 to R94). -/
def cmtWrite (m : Master) (p : Nat) (v : Word) (s : State) : Out :=
  let d := clusterOf 0x140000 0x10000 p
  if p = P.CMT_CTRL d ∨ p = P.CMT_CTX_BASE d ∨ p = P.CMT_VIEW d then writeUnless (seqRuns s d) m p v s
  else if p = P.CMT_PROBE_POS d then
    .next (if F.CMT_PROBE_POS_arm.on v then armProbe p (P.CMT_PROBE_HI d) F.CMT_PROBE_HI_valid v s
    else tableWrite p v s)
  else plainWrite m p v s

/-- CMT_CTRL.bufs as read: 0 while no partition is assigned to the cluster, else the count for the last band's partition
(R88, R94). Before a band has named its partition and a height is in use it reads 1. DESIGN CHOICE. -/
def bufsField (s : State) (d : Fin 4) : Nat :=
  if (List.range 8).all (fun n => !partValid s n || decide (getF s (P.CMP_PART n) F.CMP_PART_cluster ≠ d.val)) then 0
  else Nat.max 1 (getF s (P.CMT_CTRL d) F.CMT_CTRL_bufs)

/-- A read in the CMT block (R94). -/
def cmtRead (m : Master) (p : Nat) (s : State) : Word × State :=
  let d := clusterOf 0x140000 0x10000 p
  if p = P.CMT_CTRL d then (F.CMT_CTRL_bufs.put (bufsField s d) (getReg s p), s) else plainRead m p s

/-! ## EPH and CMP -/

/-- A write in the EPH block (R115, R120, R123, R124). -/
def ephBlockWrite (m : Master) (p : Nat) (v : Word) (s : State) : Out :=
  let d := clusterOf 0x180000 0x8000 p
  if p = P.EPH_CTRL d then ephCtrlWrite d v s
  else if p = P.EPH_RING_BASE d then writeUnless (seqRuns s d) m p v s
  else if p = P.EPH_FRAME0 d then .next (frame0Write d v s)
  else if p = P.EPH_COMMIT d then .next (commitWrite d v s)
  else if p = P.EPH_REWRITE d then
    .next (rewriteWrite d (F.EPH_REWRITE_frame.get v) (F.EPH_REWRITE_band.get v) s)
  else plainWrite m p v s

/-- A write in the CMP block (R130, R131, R138). -/
def cmpBlockWrite (m : Master) (p : Nat) (v : Word) (s : State) : Out :=
  let d := clusterOf 0x1A0000 0x8000 p
  if 0x1A7000 ≤ p ∧ p < 0x1A7020 then
    let was : Fin 4 := Fin.ofNat 4 (getF s p F.CMP_PART_cluster)
    let new : Fin 4 := Fin.ofNat 4 (F.CMP_PART_cluster.get v)
    writeUnless (seqRuns s was || seqRuns s new) m p v s
  else if (p - 0x1A0000) % 0x8000 < 0x40 then
    writeUnless (seqRuns s d) m p v s
  else if p = P.CMP_PROBE_POS d then
    .next (if F.CMP_PROBE_POS_arm.on v then
      armProbe p (P.CMP_PROBE_BLEND d) F.CMP_PROBE_BLEND_valid v s
    else tableWrite p v s)
  else plainWrite m p v s

/-! ## DSP and DIG -/

/-- The outputs of a cluster's pair (R165). -/
def outputPair (d : Fin 4) : List (Fin 4) := if d.val < 2 then [0, 1] else [2, 3]

/-- A write to DSP_CTRL (R159, R160, R165). -/
def dspCtrlWrite (d : Fin 4) (x : Word) (s : State) : Out :=
  let c := P.DSP_CTRL d
  let v := listedWord c x s
  let s := drawCode c x s
  if F.DSP_CTRL_gang.on v && decide (d.val % 2 = 1) then .fault .reservedBit
  else if seqRuns s d && decide (F.DSP_CTRL_mode.get v ≠ s.clu[d].beam.mode) then .fault .displayChange
  else if decide (modeOf s d ≠ 0) && (F.DSP_CTRL_iface.on v != onF s c F.DSP_CTRL_iface) then .fault .displayChange
  else if F.DSP_CTRL_gang.on v && !onF s c F.DSP_CTRL_gang && (outputPair d).any (fun e => decide (modeOf s e ≠ 0)) then
    .fault .displayChange
  else
    let s1 := setF s c F.DSP_CTRL_iface (F.DSP_CTRL_iface.get v)
    .next (modeWrite d (F.DSP_CTRL_mode.get v) (setF s1 c F.DSP_CTRL_gang (F.DSP_CTRL_gang.get v)))

/-- A write to a shadowed timing register (R159, R160). -/
def dspTimingWrite (d : Fin 4) (i : Fin 5) (v : Word) (s : State) : Out :=
  if seqRuns s d && decide (v ≠ s.clu[d].beam.timing[i]) then .fault .displayChange else .next (timingWrite d i v s)

/-- A write to DSP_LINK (R160, R161). -/
def dspLinkWrite (d : Fin 4) (v : Word) (s : State) : Out :=
  let t := codeWrite (P.DSP_LINK d) v s
  if decide (modeOf s d ≠ 0) && decide (getReg t (P.DSP_LINK d) ≠ getReg s (P.DSP_LINK d)) then
    .fault .displayChange
  else .next t

/-- A write in the DSP block (R159 to R161, R166). -/
def dspBlockWrite (m : Master) (p : Nat) (v : Word) (s : State) : Out :=
  let d := clusterOf 0x1C0000 0x8000 p
  if p = P.DSP_CTRL d then dspCtrlWrite d v s
  else if p = P.DSP_LINK d then dspLinkWrite d v s
  else if p = P.DSP_TRAIN d then .next (if F.DSP_TRAIN_start.on v then trainWrite d s else s)
  else if p = P.DSP_H0 d then dspTimingWrite d 0 v s
  else if p = P.DSP_H1 d then dspTimingWrite d 1 v s
  else if p = P.DSP_V0 d then dspTimingWrite d 2 v s
  else if p = P.DSP_V1 d then dspTimingWrite d 3 v s
  else if p = P.DSP_PCLK d then dspTimingWrite d 4 v s
  else if p = P.DSP_APPLY d then applyWrite d (F.DSP_APPLY_line.get v) (F.DSP_APPLY_arm.on v) s
  else if p = P.DSP_WMARK d then Out.then (plainWrite m p v s) (composerUrgency d)
  else plainWrite m p v s

/-- A write in the DIG block (R171, R177, R179). -/
def digBlockWrite (m : Master) (p : Nat) (v : Word) (s : State) : Out :=
  let d := clusterOf 0x1E0000 0x8000 p
  if p = P.DIG_CTRL d then .next (digCtrlWrite d (F.DIG_CTRL_recall.on v) (F.DIG_CTRL_dump.on v) s)
  else if P.DIG_EXP_BASE d ≤ p ∧ p ≤ P.DIG_DUMP_BASE d then writeUnless (seqRuns s d) m p v s
  else plainWrite m p v s

/-! ## KTL and AAS -/

/-- A TDM port whose claim has ended begins its next one before its first frame (R433). -/
def tdmClaims (s : State) : State :=
  setAas { s.aas with
    framesOut := s.aas.framesOut && onF s P.KTL_TDM F.KTL_TDM_out_en
    framesIn := s.aas.framesIn && onF s P.KTL_TDM F.KTL_TDM_in_en } s

/-- A write in the KTL block (R210, R223): while Kettle runs only run, the probe, KTL_FX_DONE and the status registers
take writes. -/
def ktlBlockWrite (m : Master) (p : Nat) (v : Word) (s : State) : Out :=
  if p = P.KTL_CTRL then .next (ktlCtrlWrite v s)
  else if p = P.KTL_PROBE_CTRL then .next (ktlProbeWrite v s)
  else if p = P.KTL_TDM then Out.then (writeUnless (kettleOn s) m p v s) tdmClaims
  else if p = P.KTL_CUE_BASE ∨ p = P.KTL_SND ∨ p = P.KTL_FX_CFG 0 ∨ p = P.KTL_FX_CFG 1 ∨
      P.KTL_BUS 0 ≤ p then
    writeUnless (kettleOn s) m p v s
  else plainWrite m p v s

/-- KTL_ACTIVE as read (R205, R223). -/
def ktlActiveWord (s : State) : Word :=
  F.KTL_ACTIVE_clocks.put s.ktl.clocks
    (F.KTL_ACTIVE_streams.put (s.ktl.rings.toList.countP Option.isSome)
      (F.KTL_ACTIVE_voices.put s.ktl.voices.length 0))

/-- A read in the KTL block. -/
def ktlRead (m : Master) (p : Nat) (s : State) : Word × State :=
  if p = P.KTL_ACTIVE then (ktlActiveWord s, s) else plainRead m p s

/-- A write in the AAS block (R221). -/
def aasBlockWrite (m : Master) (p : Nat) (v : Word) (s : State) : Out :=
  if p = P.AAS_CAL_REQ then .next (calRequest v s) else plainWrite m p v s

end Sys2Proof.Machine
end

