-- ==== Sys2Proof/Machine/IsaMem.lean ====
section
/-! DEFINITION. The memory, stack and dual-fetch instructions of the Ivros cores (R251 to R255, R258, R259). -/
namespace Sys2Proof.Machine

/-- The length of a memory-group instruction (R247, R251). -/
def memLen (m : MemOp) : Nat := 3 + m.mode.extra

/-- The 40-bit data address of a memory operand: the extension above the 32 address bits (R244, R251). -/
def memAddr (ps : List Prefix) (m : MemOp) (c : Core) : Nat :=
  (m.mode.addr c.g[m.b] (opWidth ps)).toNat + 0x100000000 * addrExt ps c

/-- The core with the base register updated as the mode says (R251). -/
def memUpdate (ps : List Prefix) (m : MemOp) (c : Core) : Core :=
  if m.mode.updates then c.setG m.b (m.mode.newBase c.g[m.b] (opWidth ps)) else c

/-- A mode that updates gb takes r unequal to b, except in a store (R251). -/
def memDefined (isStore : Bool) (m : MemOp) : Bool := isStore || !(m.mode.updates && decide (m.r = m.b))

/-- The value of w bytes sign-extended to a word (R252). -/
def signExtW (w v : Nat) : Word :=
  if w = 1 then (BitVec.ofNat 8 v).signExtend 32 else if w = 2 then (BitVec.ofNat 16 v).signExtend 32
  else BitVec.ofNat 32 v

/-- A load: gr becomes the value at the address, read through ext, and gb is updated (R251, R252). -/
def loadBody (h : Hdr) (m : MemOp) (ext : Nat → Word) : WaitBody := fun c npc s =>
  let k := h.core
  let w := opWidth h.pfx
  let a := memAddr h.pfx m c
  match accessStop k false false a w s with
  | some st => .ok (stopWith k a st s)
  | none =>
    (coreRead k a w s).map (fun (v, s1) =>
      let c1 := { memUpdate h.pfx m c with dcache := s1.cores[k].dcache }
      Out.then (complete k ((c1.setG m.r (ext v)).goTo npc) s1) (noteAccess k a w))

/-- A store: the low w bytes of gr go to the address, and gb is updated (R251, R252). -/
def storeBody (h : Hdr) (m : MemOp) : WaitBody := fun c npc s =>
  let k := h.core
  let w := opWidth h.pfx
  let a := memAddr h.pfx m c
  match accessStop k true false a w s with
  | some st => .ok (stopWith k a st s)
  | none =>
    (coreWrite k a w (c.g[m.r].toNat % 2 ^ (8 * w)) s).map (fun s1 =>
      Out.then (complete k ((memUpdate h.pfx m c).goTo npc) s1) (noteAccess k a w))

/-- LDI: gr becomes the w bytes at the instruction-space address, zero-extended (R227, R229, R252). -/
def execLdi (h : Hdr) (m : MemOp) (s : State) : Out :=
  isaWait h 2 (memLen m) accLdi (memDefined false m) (fun c npc s =>
    let k := h.core
    let w := opWidth h.pfx
    let a := m.mode.addr c.g[m.b] w
    if a.toNat % w ≠ 0 then .ok (faults k .alignment (some a.toNat) s)
    else if !s.fetchable k a then .ok (faults k .access (some a.toNat) s)
    else
      (instrRead k a.toNat w s).map (fun (v, s1) =>
        let c1 := { memUpdate h.pfx m c with icache := s1.cores[k].icache }
        complete k ((c1.setG m.r (BitVec.ofNat 32 v)).goTo npc) s1)) s

/-- A read-modify-write: new gives the value to store from the old one, none to leave memory as it is; gr becomes the
old value; flags are as fl gives (R252, R254). -/
def rmwBody (h : Hdr) (m : MemOp) (new : Core → Nat → Nat → Option Nat) (fl : Core → Nat → Nat → FlagUpd) : WaitBody :=
  fun c npc s =>
  let k := h.core
  let w := opWidth h.pfx
  let a := memAddr h.pfx m c
  let lock := h.pfx.contains .lock
  match accessStop k true lock a w s with
  | some st => .ok (stopWith k a st s)
  | none =>
    (coreModify k lock a w (fun old => new c old w) s).map (fun (old, s1) =>
      let c1 := memUpdate h.pfx m { c with dcache := s1.cores[k].dcache }
      let c2 := (c1.setG m.r (BitVec.ofNat 32 old)).setFlags (fl c old w)
      Out.then (complete k (c2.goTo npc) s1) (noteAccess k a w))

/-- The low w bytes of a register. -/
def lowBytes (v : Word) (w : Nat) : Nat := v.toNat % 2 ^ (8 * w)

/-- A read-modify-write instruction of the memory group. -/
def rmwRun (h : Hdr) (m : MemOp) (new : Core → Nat → Nat → Option Nat) (fl : Core → Nat → Nat → FlagUpd)
    (s : State) : Out :=
  isaWait h 3 (memLen m) accRmw (memDefined false m) (rmwBody h m new fl) s

/-- XCHG: mem := gr; gr := the old mem (R252). -/
def execXchg (h : Hdr) (m : MemOp) (s : State) : Out :=
  rmwRun h m (fun c _ w => some (lowBytes c.g[m.r] w)) (fun _ _ _ => noFlags) s

/-- CAS: when mem equals the low w bytes of gr, mem := g((r + 1) mod 16) and Z := 1, else Z := 0; gr := the old mem
(R252). -/
def execCas (h : Hdr) (m : MemOp) (s : State) : Out :=
  rmwRun h m
    (fun c old w => if old = lowBytes c.g[m.r] w then some (lowBytes c.g[regOf (m.r.val + 1)] w) else none)
    (fun c old w => { noFlags with z := some (decide (old = lowBytes c.g[m.r] w)) }) s

/-- ADDM: mem := mem + gr, truncated to w bytes (R252). -/
def execAddm (h : Hdr) (m : MemOp) (s : State) : Out :=
  rmwRun h m (fun c old w => some ((old + c.g[m.r].toNat) % 2 ^ (8 * w))) (fun _ _ _ => noFlags) s

/-- ANDM: mem := mem AND gr (R252). -/
def execAndm (h : Hdr) (m : MemOp) (s : State) : Out :=
  rmwRun h m (fun c old w => some (old &&& lowBytes c.g[m.r] w)) (fun _ _ _ => noFlags) s

/-- ORM: mem := mem OR gr (R252). -/
def execOrm (h : Hdr) (m : MemOp) (s : State) : Out :=
  rmwRun h m (fun c old w => some (old ||| lowBytes c.g[m.r] w)) (fun _ _ _ => noFlags) s

/-- XORM: mem := mem XOR gr (R252). -/
def execXorm (h : Hdr) (m : MemOp) (s : State) : Out :=
  rmwRun h m (fun c old w => some (old ^^^ lowBytes c.g[m.r] w)) (fun _ _ _ => noFlags) s

/-! ## The stack group -/

/-- The stack pointer g14 (R225, R255). -/
def spReg : Reg := 14

/-- The address extension of a stack instruction above 32 bits. -/
def stackAddr (ps : List Prefix) (c : Core) (lo : Word) : Nat := lo.toNat + 0x100000000 * addrExt ps c

/-- PUSH gr: g14 falls by 4, then the word at g14 becomes gr, g14 from before the instruction (R255). -/
def execPush (h : Hdr) (r : Reg) (s : State) : Out :=
  isaWait h 1 2 accStack true (fun c npc s =>
    let k := h.core
    let sp := c.g[spReg] - 4
    let a := stackAddr h.pfx c sp
    match accessStop k true false a 4 s with
    | some st => .ok (stopWith k a st s)
    | none =>
      (coreWrite k a 4 c.g[r].toNat s).map (fun s1 =>
        Out.then (complete k ((c.setG spReg sp).goTo npc) s1) (noteAccess k a 4))) s

/-- POP gr: gr becomes the word at g14, then g14 rises by 4; r = 14 is illegal (R255). -/
def execPop (h : Hdr) (r : Reg) (s : State) : Out :=
  isaWait h 2 2 accStack (decide (r ≠ spReg)) (fun c npc s =>
    let k := h.core
    let a := stackAddr h.pfx c c.g[spReg]
    match accessStop k false false a 4 s with
    | some st => .ok (stopWith k a st s)
    | none =>
      (coreRead k a 4 s).map (fun (v, s1) =>
        let c1 := { c with dcache := s1.cores[k].dcache }
        Out.then (complete k (((c1.setG r (BitVec.ofNat 32 v)).setG spReg (c.g[spReg] + 4)).goTo npc) s1)
          (noteAccess k a 4))) s

/-- The registers of a mask, lowest number first (R255). -/
def maskRegs (mask : BitVec 16) : List Reg := (List.finRange 16).filter (fun r => mask.getLsbD r.val)

/-- Why a word of a multi-register transfer from address lo upward cannot be reached: every word is checked before
the first access (R255). -/
def multiStop (k : CoreId) (write : Bool) (ps : List Prefix) (c : Core) (s : State) : Word → Nat → Option (Nat × Stop)
  | _, 0 => none
  | lo, n + 1 =>
    match accessStop k write false (stackAddr ps c lo) 4 s with
    | some st => some (stackAddr ps c lo, st)
    | none => multiStop k write ps c s (lo + 4) n

/-- Store registers to ascending words. -/
def pushWords (k : CoreId) (ps : List Prefix) (c : Core) : List Reg → Word → State → Except Held State
  | [], _, s => .ok s
  | r :: rs, lo, s =>
    (coreWrite k (stackAddr ps c lo) 4 c.g[r].toNat s).bind (fun s1 =>
      pushWords k ps c rs (lo + 4) (noteAccess k (stackAddr ps c lo) 4 s1))

/-- Load registers from ascending words. -/
def popWords (k : CoreId) (ps : List Prefix) (c0 : Core) : List Reg → Word → Core → State →
    Except Held (Core × State)
  | [], _, c, s => .ok (c, s)
  | r :: rs, lo, c, s =>
    (coreRead k (stackAddr ps c0 lo) 4 s).bind (fun (v, s1) =>
      popWords k ps c0 rs (lo + 4) (c.setG r (BitVec.ofNat 32 v)) (noteAccess k (stackAddr ps c0 lo) 4 s1))

/-- PUSHM: g14 falls by 4 for each register of the mask, the lowest-numbered one at the lowest address (R255). -/
def execPushm (h : Hdr) (r : Reg) (mask : BitVec 16) (s : State) : Out :=
  isaWait h (maskRegs mask).length 4 accStack (decide (r = 0) && decide (mask ≠ 0)) (fun c npc s =>
    let k := h.core
    let rs := maskRegs mask
    let sp := c.g[spReg] - BitVec.ofNat 32 (4 * rs.length)
    match multiStop k true h.pfx c s sp rs.length with
    | some (a, st) => .ok (stopWith k a st s)
    | none =>
      (pushWords k h.pfx c rs sp s).map (fun s1 =>
        complete k { (c.setG spReg sp).goTo npc with watchHit := s1.cores[k].watchHit } s1)) s

/-- POPM: registers load from ascending addresses, then g14 rises; g14 in the mask is illegal (R255). -/
def execPopm (h : Hdr) (r : Reg) (mask : BitVec 16) (s : State) : Out :=
  isaWait h ((maskRegs mask).length + 1) 4 accStack (decide (r = 0) && decide (mask ≠ 0) && !mask.getLsbD 14)
    (fun c npc s =>
    let k := h.core
    let rs := maskRegs mask
    match multiStop k false h.pfx c s c.g[spReg] rs.length with
    | some (a, st) => .ok (stopWith k a st s)
    | none =>
      (popWords k h.pfx c rs c.g[spReg] c s).map (fun (c1, s1) =>
        complete k { (c1.setG spReg (c.g[spReg] + BitVec.ofNat 32 (4 * rs.length))).goTo npc with
          watchHit := s1.cores[k].watchHit, dcache := s1.cores[k].dcache } s1)) s

/-! ## The dual-fetch MAC -/

/-- The step of an increment field, w the element width (R259). -/
def macStep (i : Fin 4) (w : Nat) : Int :=
  if i.val = 0 then 0 else if i.val = 1 then w else if i.val = 2 then -w else 2 * w

/-- A pointer register advanced within its 16 KiB RAM: bits [31:14] do not change (R259). -/
def macAdvance (g : Word) (i : Fin 4) (w : Nat) : Word :=
  (g &&& 0xFFFFC000) ||| BitVec.ofNat 32 (((((g.toNat % 16384 : Nat) : Int) + macStep i w) % 16384).toNat)

/-- The data addresses of the X and Y elements (R258). -/
def macX (g : Word) : Nat := 0x7FFFFF0000 + g.toNat % 16384
def macY (g : Word) : Nat := 0x7FFFFF8000 + g.toNat % 16384

/-- The signed product of two elements of w bytes, as 72 bits (R258). -/
def macProduct (w x y : Nat) : Acc72 := BitVec.ofInt 72 (sext x (8 * w) * sext y (8 * w))

/-- A dual-fetch MAC that combines the accumulator and the product by op (R258, R259). -/
def macRun (h : Hdr) (m : MacOp) (op : Acc72 → Acc72 → Acc72) (s : State) : Out :=
  isaRun h 1 3 accMac (!(decide (m.x = m.y) && (decide (m.ix ≠ 0) || decide (m.iy ≠ 0)))) (fun c npc s =>
    let k := h.core
    let w := opWidth h.pfx
    let ax := macX c.g[m.x]
    let ay := macY c.g[m.y]
    if ax % w ≠ 0 then faults k .alignment (some ax) s
    else if ay % w ≠ 0 then faults k .alignment (some ay) s
    else
      let p := macProduct w (s.readLe (ramKey k ax) w) (s.readLe (ramKey k ay) w)
      let c1 := c.setAc m.acc (op c.ac[m.acc] p)
      let c2 := (c1.setG m.x (macAdvance c.g[m.x] m.ix w))
      let c3 := if m.x = m.y then c2 else c2.setG m.y (macAdvance c.g[m.y] m.iy w)
      Out.then (complete k (c3.goTo npc) s.draw) (fun t => noteAccess k ay w (noteAccess k ax w t))) s

/-- MAC: ac := ac + p (R258). -/
def execMac (h : Hdr) (m : MacOp) (s : State) : Out := macRun h m (fun a p => a + p) s

/-- MSU: ac := ac − p (R258). -/
def execMsu (h : Hdr) (m : MacOp) (s : State) : Out := macRun h m (fun a p => a - p) s

/-- MPY: ac := p (R258). -/
def execMpy (h : Hdr) (m : MacOp) (s : State) : Out := macRun h m (fun _ p => p) s

/-! ## The accumulator group -/

/-- The signed 32 × 32 product as 72 bits (R260). -/
def accProduct (x y : Word) : Acc72 := BitVec.ofInt 72 (x.toInt * y.toInt)

/-- An accumulator-group instruction of three bytes whose new accumulator is op ac p (R260). -/
def accRun (h : Hdr) (m : AccOp) (op : Acc72 → Word → Word → Acc72) (s : State) : Out :=
  isaRun h 1 3 accNone true (fun c npc s =>
    complete h.core ((c.setAc m.acc (op c.ac[m.acc] c.g[m.r1] c.g[m.r2])).goTo npc) s) s

/-- MACR: ac := ac + gr1 × gr2, signed (R260). -/
def execMacr (h : Hdr) (m : AccOp) (s : State) : Out := accRun h m (fun a x y => a + accProduct x y) s

/-- MSUR: ac := ac − gr1 × gr2, signed (R260). -/
def execMsur (h : Hdr) (m : AccOp) (s : State) : Out := accRun h m (fun a x y => a - accProduct x y) s

/-- MPYR: ac := gr1 × gr2, signed (R260). -/
def execMpyr (h : Hdr) (m : AccOp) (s : State) : Out := accRun h m (fun _ x y => accProduct x y) s

/-- MACRU: ac := ac + gr1 × gr2, unsigned, zero-extended to 72 bits (R260). -/
def execMacru (h : Hdr) (m : AccOp) (s : State) : Out :=
  accRun h m (fun a x y => a + BitVec.ofNat 72 (x.toNat * y.toNat)) s

/-- (ac + rnd) >> sh, before clamping, in exact arithmetic (R260). -/
def mvaShifted (a : Acc72) (sh : Nat) : Int :=
  (a.toInt + (if sh = 0 then 0 else ((2 ^ (sh - 1) : Nat) : Int))) / ((2 ^ sh : Nat) : Int)

/-- MVA: gr1 := sat32((ac + rnd) >> sh); N and Z of the result, V when clamped (R260). -/
def execMva (h : Hdr) (m : AccOp) (sh : BitVec 8) (s : State) : Out :=
  isaRun h 1 4 accNone (decide (sh.toNat ≤ 40) && decide (m.r2 = 0)) (fun c npc s =>
    let x := mvaShifted c.ac[m.acc] sh.toNat
    let y := clampI (-2147483648) 2147483647 x
    let r := BitVec.ofInt 32 y
    complete h.core (((c.setG m.r1 r).setFlags { flagsNZ r with v := some (decide (x ≠ y)) }).goTo npc) s) s

/-- RDA: gr1 := the part of ac that r2 selects; r2 above 2 is illegal (R260). -/
def execRda (h : Hdr) (m : AccOp) (s : State) : Out :=
  isaRun h 1 3 accNone (decide (m.r2.val ≤ 2)) (fun c npc s =>
    complete h.core ((c.setG m.r1 (accPart c.ac[m.acc] m.r2.val)).goTo npc) s) s

/-- An accumulator with one part replaced (R260). -/
def accSetPart (a : Acc72) (part : Nat) (v : Word) : Acc72 :=
  if part = 0 then (a.extractLsb' 32 40) ++ v
  else if part = 1 then (a.extractLsb' 64 8) ++ v ++ (a.extractLsb' 0 32)
  else (v.extractLsb' 0 8) ++ (a.extractLsb' 0 64)

/-- WRA: the part of ac that r2 selects := gr1; r2 above 2 is illegal (R260). -/
def execWra (h : Hdr) (m : AccOp) (s : State) : Out :=
  isaRun h 1 3 accNone (decide (m.r2.val ≤ 2)) (fun c npc s =>
    complete h.core ((c.setAc m.acc (accSetPart c.ac[m.acc] m.r2.val c.g[m.r1])).goTo npc) s) s

/-- CLRA: ac := 0; r1 and r2 must be 0 (R260). -/
def execClra (h : Hdr) (m : AccOp) (s : State) : Out :=
  isaRun h 1 3 accNone (decide (m.r1 = 0) && decide (m.r2 = 0)) (fun c npc s =>
    complete h.core ((c.setAc m.acc 0).goTo npc) s) s

end Sys2Proof.Machine
end

