-- ==== Sys2Proof/Machine/Io.lean ====
section
/-! DEFINITION. The I/O space as a whole: a register write or read by port, and IN, OUT and the loads and stores, which
the I/O-space override turns into them (R7 to R12, R232, R252, R253, R496 to R499). -/
namespace Sys2Proof.Machine

/-- A write that reaches the register at port p, by block (R496). -/
def blockWrite (m : Master) (p : Nat) (v : Word) (s : State) : Out :=
  if p ≤ 0xFFFF then sysWrite m p v s
  else if p ≤ 0x1FFFF then pwrWrite m p v s
  else if p ≤ 0x2FFFF then plainWrite m p v s
  else if p ≤ 0x3FFFF then intWrite m p v s
  else if p ≤ 0x4FFFF then tmrWrite m p v s
  else if p ≤ 0x5FFFF then pmcBlockWrite m p v s
  else if p ≤ 0x7FFFF then memBlockWrite m p v s
  else if p ≤ 0x8FFFF then dmaBlockWrite m p v s
  else if p ≤ 0x9FFFF then bltBlockWrite m p v s
  else if p < 0xA0200 then plainWrite m p v s
  else if p ≤ 0xAFFFF then pinWrite m p v s
  else if p ≤ 0xBFFFF then hlkBlockWrite m p v s
  else if p ≤ 0xCFFFF then flrBlockWrite m p v s
  else if p ≤ 0xDFFFF then secBlockWrite m p v s
  else if p ≤ 0xEFFFF then ldgBlockWrite m p v s
  else if p ≤ 0x13FFFF then plnWrite m p v s
  else if p ≤ 0x17FFFF then cmtWrite m p v s
  else if p ≤ 0x19FFFF then ephBlockWrite m p v s
  else if p ≤ 0x1BFFFF then cmpBlockWrite m p v s
  else if p ≤ 0x1DFFFF then dspBlockWrite m p v s
  else if p ≤ 0x1FFFFF then digBlockWrite m p v s
  else if p ≤ 0x23FFFF then ktlBlockWrite m p v s
  else if p ≤ 0x24FFFF then aasBlockWrite m p v s
  else plainWrite m p v s

/-- A read that reaches the register at port p, by block (R496). -/
def blockRead (m : Master) (p : Nat) (s : State) : Word × State :=
  if p ≤ 0xFFFF then sysRead m p s
  else if p ≤ 0x1FFFF then pwrRead m p s
  else if p ≤ 0x2FFFF then monRead m p s
  else if p ≤ 0x3FFFF then intRead m p s
  else if p ≤ 0x4FFFF then tmrRead m p s
  else if p ≤ 0x5FFFF then pmcBlockRead m p s
  else if p ≤ 0x7FFFF then memBlockRead m p s
  else if p ≤ 0x8FFFF then dmaBlockRead m p s
  else if p ≤ 0x9FFFF then plainRead m p s
  else if p ≤ 0xAFFFF then pinRead m p s
  else if p ≤ 0xBFFFF then hlkBlockRead m p s
  else if p ≤ 0xCFFFF then plainRead m p s
  else if p ≤ 0xDFFFF then secBlockRead m p s
  else if p ≤ 0xEFFFF then ldgBlockRead m p s
  else if p ≤ 0x13FFFF then plnRead m p s
  else if p ≤ 0x17FFFF then cmtRead m p s
  else if 0x200000 ≤ p ∧ p ≤ 0x23FFFF then ktlRead m p s
  else plainRead m p s

/-- The pins whose configuration or TDM claims a write to port p can change (R432, R440). -/
def padsOf (p : Nat) : List Nat :=
  if 0xA0000 ≤ p ∧ p < 0xA0200 then [(p - 0xA0000) / 4] else if p = P.KTL_TDM then [8, 9, 10, 11, 12] else []

/-- A write of v by a master to port p, whose domain is on. A port that names no register behaves as one whose bits are
all reserved (R497); a 1 in a reserved bit is unpredictable (R10). A level source whose line the write lowers loses its
stored pending bit (R264), and an edge that it makes at a pad is latched (R277, R436). -/
def busWrite (m : Master) (port : Nat) (v : Word) (s : State) : Out :=
  let p := localPort m port
  let s := s.accessed p
  if hetoArea p then blockWrite m p v s
  else if !reservedOk p v then .fault .reservedBit
  else if (specOf p).isNone then .next s
  else Out.then (blockWrite m p v s) (fun t => settleFalls s (latchPads (padsOf p) s t))

/-- A read by a master of port p, whose domain is on: the value, and the state after it; the line of a level source may
fall with it (R264). -/
def busRead (m : Master) (port : Nat) (s : State) : Word × State :=
  let p := localPort m port
  let s := s.accessed p
  if (specOf p).isNone && !hetoArea p then (0, s)
  else
    let r := blockRead m p s
    (r.1, settleFalls s r.2)

/-- REGISTER_WRITE: a write to a device register sets or clears its fields as its access types and its block say (R8). -/
def execRegisterWrite (m : Master) (port : BitVec 24) (v : Word) (s : State) : Out :=
  gate m true port.toNat (busWrite m port.toNat v) s

/-- The debug port reads a port: an unassigned one and an own one read zero (R496, R498). -/
def debugRead (p : Nat) (s : State) : Out :=
  gate .debug false p (fun s => let (v, t) := busRead .debug p s; .next { t with rdata := v }) s

/-- DEBUG_HALT: a halt request, a single step, another hook of the DBG block, or the debug port's read of a port, with PD39
on (R239, R496, R498). -/
def execDebugHalt (k : CoreId) (o : DebugOp) (s : State) : Out :=
  if s.powered 39 then
    match o with
    | .readPort p => debugRead p.toNat s
    | _ => .next (debugOp k o s)
  else .next s

/-! ## IN, OUT, LD, LDS and ST -/

/-- IN by core k: the checks of R500, the width (R7), the domain (R12), and the read. c is the core as the instruction
leaves it but for the register read and the PC. -/
def inBody (h : Hdr) (r : Reg) (port : Core → Nat) (upd : Core → Core) : Body := fun c npc s =>
  let k := h.core
  let p := port c
  match ioStop k false p s with
  | some e => faults k e (some p) s
  | none =>
    if opWidth h.pfx ≠ 4 then .fault .ioWidth
    else
      let (v, s1) := if s.portOn p then busRead (.core k) p s else (0, s)
      complete k (((upd c).setG r v).goTo npc) s1

/-- OUT by core k: the same checks, and then the write, which finds the core past the instruction. -/
def outBody (h : Hdr) (r : Reg) (port : Core → Nat) (upd : Core → Core) : Body := fun c npc s =>
  let k := h.core
  let p := port c
  match ioStop k true p s with
  | some e => faults k e (some p) s
  | none =>
    if opWidth h.pfx ≠ 4 then .fault .ioWidth
    else
      let s1 := s.setCore k ((upd c).goTo npc)
      if s.portOn p then busWrite (.core k) p c.g[r] s1 else .next s1

/-- The port of a register-addressed IN or OUT: the 32 address bits of R251 (R253). -/
def memPort (h : Hdr) (m : MemOp) (c : Core) : Nat := (m.mode.addr c.g[m.b] (opWidth h.pfx)).toNat

/-- The CPU clocks of an IN or OUT: 1 at the private GPIO port, at least 8 elsewhere (R261). -/
def ioClocks (port : Nat) : Nat := if isPrivGpio port then 1 else 8

/-- The I/O-space override stands among the prefixes (R244). -/
def ioSpace (h : Hdr) : Bool := h.pfx.contains .io

/-- A load, or with the I/O-space override an IN (R252, R253). -/
def loadRun (h : Hdr) (m : MemOp) (ext : Nat → Word) (s : State) : Out :=
  if ioSpace h then
    isaRun h (ioClocks (memPort h m s.cores[h.core])) (memLen m) accMem (memDefined false m)
      (inBody h m.r (memPort h m) (memUpdate h.pfx m)) s
  else isaWait h 2 (memLen m) accMem (memDefined false m) (loadBody h m ext) s

/-- A store, or with the I/O-space override an OUT (R252, R253). -/
def storeRun (h : Hdr) (m : MemOp) (s : State) : Out :=
  if ioSpace h then
    isaRun h (ioClocks (memPort h m s.cores[h.core])) (memLen m) accMem (memDefined true m)
      (outBody h m.r (memPort h m) (memUpdate h.pfx m)) s
  else isaWait h 1 (memLen m) accMem (memDefined true m) (storeBody h m) s

/-- LD: gr becomes the w bytes at the address, zero-extended (R252). -/
def execLd (h : Hdr) (m : MemOp) (s : State) : Out := loadRun h m (BitVec.ofNat 32) s

/-- LDS: gr becomes the w bytes at the address, sign-extended (R252). -/
def execLds (h : Hdr) (m : MemOp) (s : State) : Out := loadRun h m (signExtW (opWidth h.pfx)) s

/-- ST: the w bytes at the address become the low w bytes of gr (R252). -/
def execSt (h : Hdr) (m : MemOp) (s : State) : Out := storeRun h m s

/-- IN: gr becomes the value read from the port (R253). -/
def execIoIn (h : Hdr) (f : IoForm) (s : State) : Out :=
  match f with
  | .abs r port => isaRun h (ioClocks port.toNat) 5 accIoAbs true (inBody h r (fun _ => port.toNat) id) s
  | .addr m => loadRun h m (BitVec.ofNat 32) s

/-- OUT: the port is written with gr (R253). -/
def execIoOut (h : Hdr) (f : IoForm) (s : State) : Out :=
  match f with
  | .abs r port => isaRun h (ioClocks port.toNat) 5 accIoAbs true (outBody h r (fun _ => port.toNat) id) s
  | .addr m => storeRun h m s

end Sys2Proof.Machine
end

