-- ==== Sys2Proof/Machine/IsaAlu.lean ====
section
/-! DEFINITION. The ALU, unary and compare instructions (R248 to R250). -/
namespace Sys2Proof.Machine

/-- The length of an ALU form (R247). -/
def aluLen : AluForm → Nat
  | .reg _ _ _ | .imm8 _ _ => 3
  | .imm32 _ _ => 6

/-- The destination of an ALU form (R248). -/
def aluDest : AluForm → Reg
  | .reg d _ _ | .imm8 d _ | .imm32 d _ => d

/-- The first operand x of an ALU form (R248). -/
def aluX (c : Core) : AluForm → Word
  | .reg _ a _ => c.g[a]
  | .imm8 d _ | .imm32 d _ => c.g[d]

/-- The second operand y, imm8 sign-extended (R248). -/
def aluY (c : Core) : AluForm → Word
  | .reg _ _ b => c.g[b]
  | .imm8 _ i => i.signExtend 32
  | .imm32 _ i => i

/-- The shift count: bits [7:0] of gb or of the immediate, imm8 unsigned (R248, R249). That an imm32's upper bits
do not count is DEDUCED: R249 names bits [7:0] of gb and imm8. -/
def aluCount (c : Core) : AluForm → Nat
  | .reg _ _ b => c.g[b].toNat % 256
  | .imm8 _ i => i.toNat
  | .imm32 _ i => i.toNat % 256

/-- Write an ALU result and its flags to core k, and go on to the next instruction. -/
def aluWrite (k : CoreId) (d : Reg) (r : AluRes) : Body := fun c npc s =>
  complete k (((c.setG d r.val).setFlags r.flags).goTo npc) s

/-- An ALU instruction of clk clocks that has the forms for which ok holds (R248, R261). -/
def aluRun (h : Hdr) (clk : Nat) (f : AluForm) (ok : Bool) (op : Core → AluRes) (s : State) : Out :=
  isaRun h clk (aluLen f) accNone ok (fun c npc s => aluWrite h.core (aluDest f) (op c) c npc s) s

/-- The register form only: MULHS, MULHU, DIVS and DIVU have no immediate form (R248). -/
def regOnly : AluForm → Bool
  | .reg _ _ _ => true
  | _ => false

/-- ADD: gd := x + y (R248). -/
def execAdd (h : Hdr) (f : AluForm) (s : State) : Out :=
  aluRun h 1 f true (fun c => aluAdd (aluX c f) (aluY c f) false) s

/-- ADC: gd := x + y + C (R248). -/
def execAdc (h : Hdr) (f : AluForm) (s : State) : Out :=
  aluRun h 1 f true (fun c => aluAdd (aluX c f) (aluY c f) c.fC) s

/-- SUB: gd := x − y (R248). -/
def execSub (h : Hdr) (f : AluForm) (s : State) : Out :=
  aluRun h 1 f true (fun c => aluSub (aluX c f) (aluY c f) false) s

/-- SBC: gd := x − y − C (R248). -/
def execSbc (h : Hdr) (f : AluForm) (s : State) : Out :=
  aluRun h 1 f true (fun c => aluSub (aluX c f) (aluY c f) c.fC) s

/-- AND: gd := x AND y (R248). -/
def execAndOp (h : Hdr) (f : AluForm) (s : State) : Out :=
  aluRun h 1 f true (fun c => aluLogic (aluX c f &&& aluY c f)) s

/-- OR: gd := x OR y (R248). -/
def execOrOp (h : Hdr) (f : AluForm) (s : State) : Out :=
  aluRun h 1 f true (fun c => aluLogic (aluX c f ||| aluY c f)) s

/-- XOR: gd := x XOR y (R248). -/
def execXor (h : Hdr) (f : AluForm) (s : State) : Out :=
  aluRun h 1 f true (fun c => aluLogic (aluX c f ^^^ aluY c f)) s

/-- SHL: shift left by the count (R249). -/
def execShl (h : Hdr) (f : AluForm) (s : State) : Out :=
  aluRun h 1 f true (fun c => aluShl (aluX c f) (aluCount c f)) s

/-- SHR: logical shift right by the count (R249). -/
def execShr (h : Hdr) (f : AluForm) (s : State) : Out :=
  aluRun h 1 f true (fun c => aluShr (aluX c f) (aluCount c f)) s

/-- ASR: arithmetic shift right by the count (R249). -/
def execAsr (h : Hdr) (f : AluForm) (s : State) : Out :=
  aluRun h 1 f true (fun c => aluAsr (aluX c f) (aluCount c f)) s

/-- ROR: rotate right by the count mod 32 (R249). -/
def execRor (h : Hdr) (f : AluForm) (s : State) : Out :=
  aluRun h 1 f true (fun c => aluRor (aluX c f) (aluCount c f)) s

/-- MUL: bits [31:0] of x × y (R248). -/
def execMul (h : Hdr) (f : AluForm) (s : State) : Out :=
  aluRun h 3 f true (fun c => aluLogic (aluX c f * aluY c f)) s

/-- MULHS: bits [63:32] of the signed x × y (R248). -/
def execMulhs (h : Hdr) (f : AluForm) (s : State) : Out :=
  aluRun h 3 f (regOnly f) (fun c => aluLogic (mulHighS (aluX c f) (aluY c f))) s

/-- MULHU: bits [63:32] of the unsigned x × y (R248). -/
def execMulhu (h : Hdr) (f : AluForm) (s : State) : Out :=
  aluRun h 3 f (regOnly f) (fun c => aluLogic (mulHighU (aluX c f) (aluY c f))) s

/-- DIVS: signed x ÷ y rounded toward zero (R248, R249). -/
def execDivs (h : Hdr) (f : AluForm) (s : State) : Out :=
  aluRun h 34 f (regOnly f) (fun c => aluDivs (aluX c f) (aluY c f)) s

/-- DIVU: unsigned x ÷ y (R248, R249). -/
def execDivu (h : Hdr) (f : AluForm) (s : State) : Out :=
  aluRun h 34 f (regOnly f) (fun c => aluDivu (aluX c f) (aluY c f)) s

/-- The length of a CMP, TST or MOV form (R247). -/
def unLen : UnForm → Nat
  | .unary _ _ | .imm8 _ _ => 3
  | .imm32 _ _ => 6

/-- The operands of a CMP, TST or MOV form: gd, and gs or the immediate (R248, R250). -/
def unDest : UnForm → Reg
  | .unary d _ | .imm8 d _ | .imm32 d _ => d
def unY (c : Core) : UnForm → Word
  | .unary _ src => c.g[src]
  | .imm8 _ i => i.signExtend 32
  | .imm32 _ i => i

/-- CMP: the flags of gd − y, no result (R248, R250). -/
def execCmp (h : Hdr) (f : UnForm) (s : State) : Out :=
  isaRun h 1 (unLen f) accNone true (fun c npc s =>
    complete h.core ((c.setFlags (aluSub c.g[unDest f] (unY c f) false).flags).goTo npc) s) s

/-- TST: the flags of gd AND y, no result (R248, R250). -/
def execTst (h : Hdr) (f : UnForm) (s : State) : Out :=
  isaRun h 1 (unLen f) accNone true (fun c npc s =>
    complete h.core ((c.setFlags (flagsNZ (c.g[unDest f] &&& unY c f))).goTo npc) s) s

/-- MOV: gd := y, no flag written (R248, R250). -/
def execMov (h : Hdr) (f : UnForm) (s : State) : Out :=
  isaRun h 1 (unLen f) accNone true (fun c npc s =>
    aluWrite h.core (unDest f) (aluPlain (unY c f)) c npc s) s

/-- A unary instruction of major 0x4 (R250). -/
def unaryRun (h : Hdr) (d src : Reg) (op : Word → AluRes) (s : State) : Out :=
  isaRun h 1 3 accNone true (fun c npc s => aluWrite h.core d (op c.g[src]) c npc s) s

/-- NEG: gd := 0 − gs (R250). -/
def execNeg (h : Hdr) (d src : Reg) (s : State) : Out :=
  unaryRun h d src (fun x => aluSub 0 x false) s

/-- NOT: gd := NOT gs (R250). -/
def execNotOp (h : Hdr) (d src : Reg) (s : State) : Out :=
  unaryRun h d src (fun x => aluLogic (~~~x)) s

/-- SXB: gd := gs bits [7:0], sign-extended (R250). -/
def execSxb (h : Hdr) (d src : Reg) (s : State) : Out :=
  unaryRun h d src (fun x => aluPlain ((x.setWidth 8).signExtend 32)) s

/-- SXH: gd := gs bits [15:0], sign-extended (R250). -/
def execSxh (h : Hdr) (d src : Reg) (s : State) : Out :=
  unaryRun h d src (fun x => aluPlain ((x.setWidth 16).signExtend 32)) s

/-- ZXB: gd := gs bits [7:0], zero-extended (R250). -/
def execZxb (h : Hdr) (d src : Reg) (s : State) : Out :=
  unaryRun h d src (fun x => aluPlain ((x.setWidth 8).setWidth 32)) s

/-- ZXH: gd := gs bits [15:0], zero-extended (R250). -/
def execZxh (h : Hdr) (d src : Reg) (s : State) : Out :=
  unaryRun h d src (fun x => aluPlain ((x.setWidth 16).setWidth 32)) s

/-- CLZ: gd := the number of leading zero bits of gs (R250). -/
def execClz (h : Hdr) (d src : Reg) (s : State) : Out :=
  unaryRun h d src (fun x => aluPlain (BitVec.ofNat 32 (leadingZeros x))) s

end Sys2Proof.Machine
end

