-- ==== Sys2Proof/Machine/IsaFlow.lean ====
section
/-! DEFINITION. NOP, control transfer and the SYS group of the Ivros cores (R235, R256, R257). -/
namespace Sys2Proof.Machine

/-- NOP (R242, R247). -/
def execNop (h : Hdr) (s : State) : Out :=
  isaRun h 1 1 accNone true (fun c npc s => complete h.core (c.goTo npc) s) s

/-- RET: PC := g15 (R256). -/
def execRet (h : Hdr) (s : State) : Out :=
  isaRun h 3 1 accNone true (fun c _ s => complete h.core (c.goTo c.g[(15 : Reg)]) s) s

/-- The length and the displacement of a branch form (R247, R256). -/
def branchLen : BranchForm → Nat
  | .short _ => 2
  | .long _ => 5
def branchRel : BranchForm → Word
  | .short r => r.signExtend 32
  | .long r => r

/-- BRANCH: PC := the following address + rel (R256). -/
def execBranch (h : Hdr) (f : BranchForm) (s : State) : Out :=
  isaRun h 3 (branchLen f) accNone true (fun c npc s => complete h.core (c.goTo (npc + branchRel f)) s) s

/-- CALL: g15 := the following address, then branch (R256). -/
def execCallRel (h : Hdr) (rel : Word) (s : State) : Out :=
  isaRun h 3 5 accNone true (fun c npc s => complete h.core ((c.setG 15 npc).goTo (npc + rel)) s) s

/-- JMP gr: PC := gr (R257). -/
def execJmp (h : Hdr) (r : Reg) (s : State) : Out :=
  isaRun h 3 2 accNone true (fun c _ s => complete h.core (c.goTo c.g[r]) s) s

/-- CALL gr: g15 := the address of the next instruction; PC := gr from before (R257). -/
def execCallRegister (h : Hdr) (r : Reg) (s : State) : Out :=
  isaRun h 3 2 accNone true (fun c npc s => complete h.core ((c.setG 15 npc).goTo c.g[r]) s) s

/-- RTE: SR from SYS_XSR, PC from SYS_XPC; privileged (R235, R257). -/
def execRte (h : Hdr) (r : Reg) (s : State) : Out :=
  isaRun h 4 2 accNone (decide (r = 0)) (privileged h.core (fun c _ s =>
    .next (returnFromException h.core (s.setCore h.core c)))) s

/-- HALT: the core waits, and its holdoff is ended; privileged (R236, R257, R276). -/
def execHalt (h : Hdr) (r : Reg) (s : State) : Out :=
  isaRun h 1 2 accNone (decide (r = 0)) (privileged h.core (fun c npc s =>
    complete h.core { c.goTo npc with halted := true, holdoff := false } s)) s

/-- BRK: exception 4 with the address after BRK, or a halt in debug when a debugger is attached (R234, R239, R257). -/
def execBrk (h : Hdr) (r : Reg) (s : State) : Out :=
  isaRun h 1 2 accNone (decide (r = 0)) (fun c npc s =>
    if c.attached then complete h.core { c.goTo npc with inDebug := true } s
    else .next (takeException h.core .breakpoint npc none s)) s

/-- MFSR gr: gr := SR (R257). -/
def execMfsr (h : Hdr) (r : Reg) (s : State) : Out :=
  isaRun h 1 2 accNone true (fun c npc s => complete h.core ((c.setG r (c.sr.setWidth 32)).goTo npc) s) s

/-- MTSR gr: SR[6:0] := gr[6:0]; privileged (R257). -/
def execMtsr (h : Hdr) (r : Reg) (s : State) : Out :=
  isaRun h 1 2 accNone true (privileged h.core (fun c npc s =>
    complete h.core { c.goTo npc with sr := c.g[r].setWidth 7 } s)) s

/-- MTF gr: SR[3:0] := gr[3:0] (R257). -/
def execMtf (h : Hdr) (r : Reg) (s : State) : Out :=
  isaRun h 1 2 accNone true (fun c npc s =>
    complete h.core { c.goTo npc with sr := (c.sr &&& 0x70) ||| (c.g[r].setWidth 7 &&& 0x0F) } s) s

/-- EI: SR.ie := 1; an interrupt presented meanwhile is taken after the next instruction; privileged (R257). -/
def execEi (h : Hdr) (r : Reg) (s : State) : Out :=
  isaRun h 1 2 accNone (decide (r = 0)) (privileged h.core (fun c npc s =>
    complete h.core { c.goTo npc with sr := c.sr ||| 0x20, eiShadow := true } s)) s

/-- DI: SR.ie := 0; privileged (R257). -/
def execDi (h : Hdr) (r : Reg) (s : State) : Out :=
  isaRun h 1 2 accNone (decide (r = 0)) (privileged h.core (fun c npc s =>
    complete h.core { c.goTo npc with sr := c.sr &&& 0x5F } s)) s

end Sys2Proof.Machine
end

