-- ==== Sys2Proof/Machine/Recovery.lean ====
section
/-! DEFINITION. Errors of shared SRAM words and their recovery (R56). -/
namespace Sys2Proof.Machine

/-- A recovery without tilt (R56). -/
def sramRecovered (a : Nat) (s : State) : State :=
  noteEcc a true (setF s P.MEM_INT_STAT F.MEM_INT_STAT_sram_refetch 1)

/-- A pattern-cache line invalidated and fetched again from DRAM (R56). The rule names no requester: the fetch goes as
composer requester 0. DESIGN CHOICE. -/
def refetchPat (line : Nat) (s : State) : Except Held State :=
  if (patFind s line).isSome && patReach s line then
    (dramAccess 0 (64 * line) none (patErase line s)).map (patInsert line)
  else .ok s

/-- The bands whose records the stream buffer holds, oldest first (R111). -/
def heldBands (c : Cluster) : List Band :=
  c.compose.toList.filter (fun b => !b.ended) ++ c.fetch.toList ++ c.record.toList ++ c.taken

/-- The record and the patch list of the n-th band of cluster d's stream buffer read again, through the entry that its take
latched (R56). -/
def rereadBand (d : Fin 4) (n : Nat) (s : State) : Except Held State :=
  match (heldBands s.clu[d])[n]? with
  | none => .ok s
  | some b =>
    ((dramRead d (64 * bits b.entry.e0.toNat 28 0) (64 * entryLen b.entry) s).bind
      (dramRead d (64 * bits b.entry.e2.toNat 28 0) (8 * (entryPatches s d b.entry).length))).map (fun t =>
        let same := fun (x : Band) => decide (x.frame = b.frame) && decide (x.band = b.band)
        let fix := fun (x : Band) => if same x then { x with words := patchedWords t d b.entry } else x
        setClu d { t.clu[d] with
          compose := t.clu[d].compose.map fix
          fetch := t.clu[d].fetch.map fix
          record := t.clu[d].record.map fix
          taken := t.clu[d].taken.map fix } t)

/-- An uncorrectable error at a shared SRAM address. line names what the word holds: in the L2 array and in the pattern
cache a line, if any, and in a stream buffer the place of its band, from the oldest (R56). -/
def sramBad (a : Nat) (line : Option Nat) (s : State) : Except Held State :=
  match s.region a, line with
  | .patternCache, some n => (refetchPat n s).map (sramRecovered a)
  | .patternCache, none => .ok (sramRecovered a s)
  | .stream d, n => (rereadBand (Fin.ofNat 4 d) (n.getD 0) s).map (sramRecovered a)
  | .l2Array, none => .ok (sramRecovered a s)
  | .l2Array, some n =>
    (match Tab.find s.l2 n with
    | none => .ok (sramRecovered a s)
    | some l => if l.dirty then .ok (raiseTilt 0x0103 s) else (l2Fill n s).map (sramRecovered a))
  | _, _ => .ok (raiseTilt 0x0103 s)

/-- SRAM_REFETCH: an error in a shared SRAM word: corrected and written back, recovered, or tilt (R56). -/
def execSramRefetch (a : Nat) (line : Option Nat) (correctable : Bool) (s : State) : Out :=
  if !(s.region a).sram || !s.bankOn a then .next s
  else if correctable then
    .next (noteEcc a true (setF (addF s P.MEM_ECC_STAT F.MEM_ECC_STAT_sram_ce 1) P.MEM_INT_STAT F.MEM_INT_STAT_sram_ce 1))
  else
    match sramBad a line s with
    | .ok t => .next t
    | .error h => .next (park h s)

end Sys2Proof.Machine
end

