-- ==== Sys2Proof/Machine/Dispatch.lean ====
section
/-! DEFINITION. One arm per command: each a direct call of its meaning, or a rejection by name. -/
namespace Sys2Proof.Machine

/-- The effect of a command on everything but the queue. -/
def exec (i : Instr) (s : State) : Host.Outcome State Fault Refusal :=
  match i with
  | .registerWrite m port v => Sys2Proof.Machine.execRegisterWrite m port v s
  | .tilt codes => Sys2Proof.Machine.execTilt codes s
  | .sysTiltReq m cause => Sys2Proof.Machine.execSysTiltReq m cause s
  | .retrain d => Sys2Proof.Machine.execRetrain d s
  | .memoryRequest id a data lock now => Sys2Proof.Machine.execMemoryRequest id a data lock now s
  | .arbitration c clocks => Sys2Proof.Machine.execArbitration c clocks s
  | .refreshEmergency c due => Sys2Proof.Machine.execRefreshEmergency c due s
  | .watchdogBite c => Sys2Proof.Machine.execWatchdogBite c s
  | .rankWrite m id rank => Sys2Proof.Machine.execRankWrite m id rank s
  | .arbNWrite m n => Sys2Proof.Machine.execArbNWrite m n s
  | .selfRefreshEntry => Sys2Proof.Machine.execSelfRefreshEntry s
  | .selfRefreshExit => Sys2Proof.Machine.execSelfRefreshExit s
  | .readReturn c e => Sys2Proof.Machine.execReadReturn c e s
  | .dramReadRepeat c e => Sys2Proof.Machine.execDramReadRepeat c e s
  | .sramRefetch a line correctable => Sys2Proof.Machine.execSramRefetch a line correctable s
  | .memEccAddrLoRead m => Sys2Proof.Machine.execMemEccAddrLoRead m s
  | .paletteWrite m d high => Sys2Proof.Machine.execPaletteWrite m d high s
  | .coefWrite m d v => Sys2Proof.Machine.execCoefWrite m d v s
  | .coefSwap m d mask => Sys2Proof.Machine.execCoefSwap m d mask s
  | .plnProbeArm m d plane x y => Sys2Proof.Machine.execPlnProbeArm m d plane x y s
  | .patternFill d u tag set => Sys2Proof.Machine.execPatternFill d u tag set s
  | .invalidateRange m => Sys2Proof.Machine.execInvalidateRange m s
  | .invalidateAll m start => Sys2Proof.Machine.execInvalidateAll m start s
  | .invalidationEnd => Sys2Proof.Machine.execInvalidationEnd s
  | .rasteriseBand d wait => Sys2Proof.Machine.execRasteriseBand d wait s
  | .cmtProbeArm m d x y => Sys2Proof.Machine.execCmtProbeArm m d x y s
  | .ephCommit m d frame => Sys2Proof.Machine.execEphCommit m d frame s
  | .headerRead d => Sys2Proof.Machine.execHeaderRead d s
  | .ephTake d => Sys2Proof.Machine.execEphTake d s
  | .ephRewrite m d f band => Sys2Proof.Machine.execEphRewrite m d f band s
  | .ephFrame0Write m d v => Sys2Proof.Machine.execEphFrame0Write m d v s
  | .sequencerStart m d v => Sys2Proof.Machine.execSequencerStart m d v s
  | .sequencerStop m d v => Sys2Proof.Machine.execSequencerStop m d v s
  | .sequencerStopped d => Sys2Proof.Machine.execSequencerStopped d s
  | .composeTick d => Sys2Proof.Machine.execComposeTick d s
  | .composeBand d wait => Sys2Proof.Machine.execComposeBand d wait s
  | .cmpProbeArm m d x y => Sys2Proof.Machine.execCmpProbeArm m d x y s
  | .beamLine d unread => Sys2Proof.Machine.execBeamLine d unread s
  | .applyArm m d line => Sys2Proof.Machine.execApplyArm m d line s
  | .sendBand d => Sys2Proof.Machine.execSendBand d s
  | .sendEnd d band => Sys2Proof.Machine.execSendEnd d band s
  | .dspTrain m d => Sys2Proof.Machine.execDspTrain m d s
  | .trainingEnd d result su ygran => Sys2Proof.Machine.execTrainingEnd d result su ygran s
  | .laneMismatch d lane first last clocks => Sys2Proof.Machine.execLaneMismatch d lane first last clocks s
  | .hpdLost d => Sys2Proof.Machine.execHpdLost d s
  | .irqHpd d updateError => Sys2Proof.Machine.execIrqHpd d updateError s
  | .bandDigest d lane after => Sys2Proof.Machine.execBandDigest d lane after s
  | .frameDigest d => Sys2Proof.Machine.execFrameDigest d s
  | .digestExport d => Sys2Proof.Machine.execDigestExport d s
  | .recallEnable m d dump => Sys2Proof.Machine.execRecallEnable m d dump s
  | .recallClear m d dump => Sys2Proof.Machine.execRecallClear m d dump s
  | .bltTailWrite m tail => Sys2Proof.Machine.execBltTailWrite m tail s
  | .bltCopy => Sys2Proof.Machine.execBltCopy s
  | .bltFill => Sys2Proof.Machine.execBltFill s
  | .bltBlend => Sys2Proof.Machine.execBltBlend s
  | .blitComplete => Sys2Proof.Machine.execBlitComplete s
  | .blitStop m => Sys2Proof.Machine.execBlitStop m s
  | .ringConfig m size v => Sys2Proof.Machine.execRingConfig m size v s
  | .kettleRun m timebase slots => Sys2Proof.Machine.execKettleRun m timebase slots s
  | .kettleStop m => Sys2Proof.Machine.execKettleStop m s
  | .kettlePeriod tdm mic => Sys2Proof.Machine.execKettlePeriod tdm mic s
  | .cueSlotRead => Sys2Proof.Machine.execCueSlotRead s
  | .streamFill r => Sys2Proof.Machine.execStreamFill r s
  | .cdFault o collapsed => Sys2Proof.Machine.execCdFault o collapsed s
  | .aasCalReq m v => Sys2Proof.Machine.execAasCalReq m v s
  | .calibrationStep u rpt => Sys2Proof.Machine.execCalibrationStep u rpt s
  | .ktlProbeArm m bus => Sys2Proof.Machine.execKtlProbeArm m bus s
  | .coreRun m k ugpio => Sys2Proof.Machine.execCoreRun m k ugpio s
  | .coreReset m k run ugpio => Sys2Proof.Machine.execCoreReset m k run ugpio s
  | .coreStop m k ugpio => Sys2Proof.Machine.execCoreStop m k ugpio s
  | .interruptEntry k => Sys2Proof.Machine.execInterruptEntry k s
  | .haltWake k => Sys2Proof.Machine.execHaltWake k s
  | .cmoClean m k => Sys2Proof.Machine.execCmoClean m k s
  | .cmoInvalidate m k => Sys2Proof.Machine.execCmoInvalidate m k s
  | .cmoCleanInvalidate m k => Sys2Proof.Machine.execCmoCleanInvalidate m k s
  | .iCacheInvalidate m k => Sys2Proof.Machine.execICacheInvalidate m k s
  | .cacheOperationDone k => Sys2Proof.Machine.execCacheOperationDone k s
  | .l2WriteBack line => Sys2Proof.Machine.execL2WriteBack line s
  | .pinPrivOut k g v => Sys2Proof.Machine.execPinPrivOut k g v s
  | .pinPrivSet k g v => Sys2Proof.Machine.execPinPrivSet k g v s
  | .pinPrivClr k g v => Sys2Proof.Machine.execPinPrivClr k g v s
  | .nop h => Sys2Proof.Machine.execNop h s
  | .ret h => Sys2Proof.Machine.execRet h s
  | .add h f => Sys2Proof.Machine.execAdd h f s
  | .adc h f => Sys2Proof.Machine.execAdc h f s
  | .sub h f => Sys2Proof.Machine.execSub h f s
  | .sbc h f => Sys2Proof.Machine.execSbc h f s
  | .andOp h f => Sys2Proof.Machine.execAndOp h f s
  | .orOp h f => Sys2Proof.Machine.execOrOp h f s
  | .xor h f => Sys2Proof.Machine.execXor h f s
  | .shl h f => Sys2Proof.Machine.execShl h f s
  | .shr h f => Sys2Proof.Machine.execShr h f s
  | .asr h f => Sys2Proof.Machine.execAsr h f s
  | .ror h f => Sys2Proof.Machine.execRor h f s
  | .mul h f => Sys2Proof.Machine.execMul h f s
  | .mulhs h f => Sys2Proof.Machine.execMulhs h f s
  | .mulhu h f => Sys2Proof.Machine.execMulhu h f s
  | .divs h f => Sys2Proof.Machine.execDivs h f s
  | .divu h f => Sys2Proof.Machine.execDivu h f s
  | .cmp h f => Sys2Proof.Machine.execCmp h f s
  | .tst h f => Sys2Proof.Machine.execTst h f s
  | .mov h f => Sys2Proof.Machine.execMov h f s
  | .neg h d src => Sys2Proof.Machine.execNeg h d src s
  | .notOp h d src => Sys2Proof.Machine.execNotOp h d src s
  | .sxb h d src => Sys2Proof.Machine.execSxb h d src s
  | .sxh h d src => Sys2Proof.Machine.execSxh h d src s
  | .zxb h d src => Sys2Proof.Machine.execZxb h d src s
  | .zxh h d src => Sys2Proof.Machine.execZxh h d src s
  | .clz h d src => Sys2Proof.Machine.execClz h d src s
  | .ld h m => Sys2Proof.Machine.execLd h m s
  | .lds h m => Sys2Proof.Machine.execLds h m s
  | .st h m => Sys2Proof.Machine.execSt h m s
  | .ldi h m => Sys2Proof.Machine.execLdi h m s
  | .xchg h m => Sys2Proof.Machine.execXchg h m s
  | .cas h m => Sys2Proof.Machine.execCas h m s
  | .addm h m => Sys2Proof.Machine.execAddm h m s
  | .andm h m => Sys2Proof.Machine.execAndm h m s
  | .orm h m => Sys2Proof.Machine.execOrm h m s
  | .xorm h m => Sys2Proof.Machine.execXorm h m s
  | .ioIn h f => Sys2Proof.Machine.execIoIn h f s
  | .ioOut h f => Sys2Proof.Machine.execIoOut h f s
  | .branch h f => Sys2Proof.Machine.execBranch h f s
  | .callRel h rel => Sys2Proof.Machine.execCallRel h rel s
  | .rte h r => Sys2Proof.Machine.execRte h r s
  | .halt h r => Sys2Proof.Machine.execHalt h r s
  | .brk h r => Sys2Proof.Machine.execBrk h r s
  | .mfsr h r => Sys2Proof.Machine.execMfsr h r s
  | .mtsr h r => Sys2Proof.Machine.execMtsr h r s
  | .mtf h r => Sys2Proof.Machine.execMtf h r s
  | .ei h r => Sys2Proof.Machine.execEi h r s
  | .di h r => Sys2Proof.Machine.execDi h r s
  | .jmp h r => Sys2Proof.Machine.execJmp h r s
  | .callRegister h r => Sys2Proof.Machine.execCallRegister h r s
  | .push h r => Sys2Proof.Machine.execPush h r s
  | .pop h r => Sys2Proof.Machine.execPop h r s
  | .pushm h r mask => Sys2Proof.Machine.execPushm h r mask s
  | .popm h r mask => Sys2Proof.Machine.execPopm h r mask s
  | .mac h m => Sys2Proof.Machine.execMac h m s
  | .msu h m => Sys2Proof.Machine.execMsu h m s
  | .mpy h m => Sys2Proof.Machine.execMpy h m s
  | .macr h m => Sys2Proof.Machine.execMacr h m s
  | .msur h m => Sys2Proof.Machine.execMsur h m s
  | .mpyr h m => Sys2Proof.Machine.execMpyr h m s
  | .macru h m => Sys2Proof.Machine.execMacru h m s
  | .mva h m sh => Sys2Proof.Machine.execMva h m sh s
  | .rda h m => Sys2Proof.Machine.execRda h m s
  | .wra h m => Sys2Proof.Machine.execWra h m s
  | .clra h m => Sys2Proof.Machine.execClra h m s
  | .interruptLine k n high => Sys2Proof.Machine.execInterruptLine k n high s
  | .intClaim k => Sys2Proof.Machine.execIntClaim k s
  | .intComplete k n => Sys2Proof.Machine.execIntComplete k n s
  | .intPendSet m w v => Sys2Proof.Machine.execIntPendSet m w v s
  | .intPendClr m w v => Sys2Proof.Machine.execIntPendClr m w v s
  | .doorbell m bell c => Sys2Proof.Machine.execDoorbell m bell c s
  | .holdoffEnd k => Sys2Proof.Machine.execHoldoffEnd k s
  | .edgeLatch n rising => Sys2Proof.Machine.execEdgeLatch n rising s
  | .edgeDelivery n => Sys2Proof.Machine.execEdgeDelivery n s
  | .channelStart m n => Sys2Proof.Machine.execChannelStart m n s
  | .channelResume m n => Sys2Proof.Machine.execChannelResume m n s
  | .channelStop m n => Sys2Proof.Machine.execChannelStop m n s
  | .dmaMove n g => Sys2Proof.Machine.execDmaMove n g s
  | .dmaLoop n => Sys2Proof.Machine.execDmaLoop n s
  | .dmaEndl n => Sys2Proof.Machine.execDmaEndl n s
  | .dmaWait n => Sys2Proof.Machine.execDmaWait n s
  | .waitProceed n => Sys2Proof.Machine.execWaitProceed n s
  | .dmaSignal n => Sys2Proof.Machine.execDmaSignal n s
  | .crcBegin n => Sys2Proof.Machine.execCrcBegin n s
  | .crcStore n => Sys2Proof.Machine.execCrcStore n s
  | .endProgram n => Sys2Proof.Machine.execEndProgram n s
  | .drainEnd n => Sys2Proof.Machine.execDrainEnd n s
  | .shaUnitGrant => Sys2Proof.Machine.execShaUnitGrant s
  | .dmaEventSet m w v => Sys2Proof.Machine.execDmaEventSet m w v s
  | .dmaEventClr m w v => Sys2Proof.Machine.execDmaEventClr m w v s
  | .rateWindow => Sys2Proof.Machine.execRateWindow s
  | .timerRun m n mode prescale outMode dmaSel => Sys2Proof.Machine.execTimerRun m n mode prescale outMode dmaSel s
  | .timerTick n => Sys2Proof.Machine.execTimerTick n s
  | .wrapTick n => Sys2Proof.Machine.execWrapTick n s
  | .matchEvent n => Sys2Proof.Machine.execMatchEvent n s
  | .topWrite m n high => Sys2Proof.Machine.execTopWrite m n high s
  | .comparatorWrite m n high => Sys2Proof.Machine.execComparatorWrite m n high s
  | .timerSnap m n => Sys2Proof.Machine.execTimerSnap m n s
  | .timerClear m n => Sys2Proof.Machine.execTimerClear m n s
  | .outSet m n => Sys2Proof.Machine.execOutSet m n s
  | .outClr m n => Sys2Proof.Machine.execOutClr m n s
  | .timerCapture n e => Sys2Proof.Machine.execTimerCapture n e s
  | .captureRead m n falling => Sys2Proof.Machine.execCaptureRead m n falling s
  | .counterWrite m c v => Sys2Proof.Machine.execCounterWrite m c v s
  | .counterRead m c => Sys2Proof.Machine.execCounterRead m c s
  | .counterOverflow c n => Sys2Proof.Machine.execCounterOverflow c n s
  | .pmcClear m => Sys2Proof.Machine.execPmcClear m s
  | .histogramClear m h => Sys2Proof.Machine.execHistogramClear m h s
  | .portStart m p => Sys2Proof.Machine.execPortStart m p s
  | .portStop m p => Sys2Proof.Machine.execPortStop m p s
  | .hlkBeacon p => Sys2Proof.Machine.execHlkBeacon p s
  | .hlkReply p r => Sys2Proof.Machine.execHlkReply p r s
  | .nodeHelloReply p r => Sys2Proof.Machine.execNodeHelloReply p r s
  | .replyError p miss => Sys2Proof.Machine.execReplyError p miss s
  | .strayFrame p => Sys2Proof.Machine.execStrayFrame p s
  | .portDown p collisions => Sys2Proof.Machine.execPortDown p collisions s
  | .txQueue m p desc node bcast endpoint len => Sys2Proof.Machine.execTxQueue m p desc node bcast endpoint len s
  | .txFree m p desc => Sys2Proof.Machine.execTxFree m p desc s
  | .slotWrite m p slot node endpoint kind => Sys2Proof.Machine.execSlotWrite m p slot node endpoint kind s
  | .tableLengthWrite m p len => Sys2Proof.Machine.execTableLengthWrite m p len s
  | .rxTailWrite m p cell => Sys2Proof.Machine.execRxTailWrite m p cell s
  | .resetRelease env => Sys2Proof.Machine.execResetRelease env s
  | .xspiBurstTimeout repeatFails => Sys2Proof.Machine.execXspiBurstTimeout repeatFails s
  | .trainingTimeout => Sys2Proof.Machine.execTrainingTimeout s
  | .sectionDigestCheck => Sys2Proof.Machine.execSectionDigestCheck s
  | .bootRelease us => Sys2Proof.Machine.execBootRelease us s
  | .spargePass => Sys2Proof.Machine.execSpargePass s
  | .spargeSection => Sys2Proof.Machine.execSpargeSection s
  | .slhSign ckpt ctx msg e1 e2 => Sys2Proof.Machine.execSlhSign ckpt ctx msg e1 e2 s
  | .slhVerify set128f pk ctx msg sig => Sys2Proof.Machine.execSlhVerify set128f pk ctx msg sig s
  | .hashSlhSign key ctx msg e1 e2 => Sys2Proof.Machine.execHashSlhSign key ctx msg e1 e2 s
  | .hashSlhVerify set128f pk ctx msg sig => Sys2Proof.Machine.execHashSlhVerify set128f pk ctx msg sig s
  | .programRoot m => Sys2Proof.Machine.execProgramRoot m s
  | .withdrawVersion1 m => Sys2Proof.Machine.execWithdrawVersion1 m s
  | .raiseSecurityMinimum m => Sys2Proof.Machine.execRaiseSecurityMinimum m s
  | .generateCheckpointKey m => Sys2Proof.Machine.execGenerateCheckpointKey m s
  | .loadFloorKey m => Sys2Proof.Machine.execLoadFloorKey m s
  | .fuseCommandEnd good => Sys2Proof.Machine.execFuseCommandEnd good s
  | .startUpTest samples => Sys2Proof.Machine.execStartUpTest samples s
  | .entropySample b => Sys2Proof.Machine.execEntropySample b s
  | .persistentFailure => Sys2Proof.Machine.execPersistentFailure s
  | .conditionedBlock => Sys2Proof.Machine.execConditionedBlock s
  | .knownAnswerTest ok => Sys2Proof.Machine.execKnownAnswerTest ok s
  | .drbgRequest k n => Sys2Proof.Machine.execDrbgRequest k n s
  | .drbgGenerate => Sys2Proof.Machine.execDrbgGenerate s
  | .reseedRequest m => Sys2Proof.Machine.execReseedRequest m s
  | .outcomeRead k word => Sys2Proof.Machine.execOutcomeRead k word s
  | .granuleWrite fails spareFails => Sys2Proof.Machine.execGranuleWrite fails spareFails s
  | .ledgerCommit n e1 e2 => Sys2Proof.Machine.execLedgerCommit n e1 e2 s
  | .gameAdvance k => Sys2Proof.Machine.execGameAdvance k s
  | .gameClose k => Sys2Proof.Machine.execGameClose k s
  | .meterCommit n => Sys2Proof.Machine.execMeterCommit n s
  | .meterRead k => Sys2Proof.Machine.execMeterRead k s
  | .seqRead k => Sys2Proof.Machine.execSeqRead k s
  | .doorEvent input level => Sys2Proof.Machine.execDoorEvent input level s
  | .eventMove => Sys2Proof.Machine.execEventMove s
  | .floorStart m => Sys2Proof.Machine.execFloorStart m s
  | .floorResend w => Sys2Proof.Machine.execFloorResend w s
  | .helloReply d => Sys2Proof.Machine.execHelloReply d s
  | .floorAck d => Sys2Proof.Machine.execFloorAck d s
  | .ledgerAck d => Sys2Proof.Machine.execLedgerAck d s
  | .digestDrain d => Sys2Proof.Machine.execDigestDrain d s
  | .ckptReq d => Sys2Proof.Machine.execCkptReq d s
  | .floorCheckpoint e1 e2 => Sys2Proof.Machine.execFloorCheckpoint e1 e2 s
  | .hostKey ds => Sys2Proof.Machine.execHostKey ds s
  | .floorSigned ds => Sys2Proof.Machine.execFloorSigned ds s
  | .floorArp q => Sys2Proof.Machine.execFloorArp q s
  | .floorPortDown l => Sys2Proof.Machine.execFloorPortDown l s
  | .floorPortUp l => Sys2Proof.Machine.execFloorPortUp l s
  | .portSwitch m p => Sys2Proof.Machine.execPortSwitch m p s
  | .domainRequest m hi v => Sys2Proof.Machine.execDomainRequest m hi v s
  | .domainSwitch => Sys2Proof.Machine.execDomainSwitch s
  | .eclipse m => Sys2Proof.Machine.execEclipse m s
  | .resetCommand m => Sys2Proof.Machine.execResetCommand m s
  | .eclipseWake wakePin => Sys2Proof.Machine.execEclipseWake wakePin s
  | .pllStop p => Sys2Proof.Machine.execPllStop p s
  | .wakeDemand d => Sys2Proof.Machine.execWakeDemand d s
  | .pllLock p => Sys2Proof.Machine.execPllLock p s
  | .rtcTick => Sys2Proof.Machine.execRtcTick s
  | .rtcAlarm => Sys2Proof.Machine.execRtcAlarm s
  | .rtcSet m hi => Sys2Proof.Machine.execRtcSet m hi s
  | .supplyWarning r => Sys2Proof.Machine.execSupplyWarning r s
  | .supplyClear r => Sys2Proof.Machine.execSupplyClear r s
  | .holdEnd => Sys2Proof.Machine.execHoldEnd s
  | .supplyReset r => Sys2Proof.Machine.execSupplyReset r s
  | .vbatSwitch toVbat => Sys2Proof.Machine.execVbatSwitch toVbat s
  | .vbatLoss => Sys2Proof.Machine.execVbatLoss s
  | .resetN low => Sys2Proof.Machine.execResetN low s
  | .debugConnect => Sys2Proof.Machine.execDebugConnect s
  | .debugReset => Sys2Proof.Machine.execDebugReset s
  | .selfTestRequest m v => Sys2Proof.Machine.execSelfTestRequest m v s
  | .selfTestStart => Sys2Proof.Machine.execSelfTestStart s
  | .selfTestEnd good => Sys2Proof.Machine.execSelfTestEnd good s
  | .mramTest m => Sys2Proof.Machine.execMramTest m s
  | .dramTest m => Sys2Proof.Machine.execDramTest m s
  | .memoryTestEnd e => Sys2Proof.Machine.execMemoryTestEnd e s
  | .pd0PowerUp fromVbat => Sys2Proof.Machine.execPd0PowerUp fromVbat s
  | .vbatLow low => Sys2Proof.Machine.execVbatLow low s
  | .debugHalt k o => Sys2Proof.Machine.execDebugHalt k o s
  | .floorStop m => Sys2Proof.Machine.execFloorStop m s
  | .beamStart d => Sys2Proof.Machine.execBeamStart d s
  | .powerUpCalibrationDone rpts => Sys2Proof.Machine.execPowerUpCalibrationDone rpts s

end Sys2Proof.Machine
end

