-- ==== Sys2Proof/Machine/Fetch.lean ====
section
/-! DEFINITION. The bytes of an Ivros instruction and the command they spell (R241 to R260), and a core's own step:
fetch, decode and execute at its PC (R229, R236, R246). -/
namespace Sys2Proof.Machine

/-- What bytes spell: an instruction, an encoding that R247 leaves undefined, or nothing yet: a byte more is needed. -/
inductive Spelled where
  | short
  | bad
  | done (i : Instr)
  deriving DecidableEq, Repr

/-- The fields [7:4] and [3:0] of a byte. -/
def hiNib (b : Byte) : Nat := b.toNat / 16
def loNib (b : Byte) : Nat := b.toNat % 16

/-- The prefix that byte b begins, with the bytes after it; none where its second byte is missing (R244). -/
def prefixOf (b : Byte) (bs : List Byte) : Option (Prefix × List Byte) :=
  let n := loNib b
  if n = 0 then bs.head?.map (fun x => (.addrImm x, bs.drop 1))
  else if n = 1 then bs.head?.map (fun x => (.addrReg x, bs.drop 1))
  else if n = 2 then some (.width8, bs)
  else if n = 3 then some (.width16, bs)
  else if n = 4 then some (.io, bs)
  else if n = 5 then some (.lock, bs)
  else some (.reserved b, bs)

/-- An instruction once the byte it needs is there. -/
def spell (o : Option Instr) : Spelled :=
  match o with
  | some i => .done i
  | none => .bad

/-- The little-endian number of the first n bytes; none while they are not all there. -/
def leadBytes (n : Nat) (bs : List Byte) : Option Nat := if bs.length < n then none else some (leToNat (bs.take n))

/-- An instruction whose last field is the number of n bytes. -/
def withBytes (n : Nat) (bs : List Byte) (f : Nat → Instr) : Spelled :=
  match leadBytes n bs with
  | none => .short
  | some v => .done (f v)

/-- The SYS group (R257). -/
def sysInstr (h : Hdr) (op : Nat) (r : Reg) : Option Instr :=
  if op = 0 then some (.rte h r) else if op = 1 then some (.halt h r) else if op = 2 then some (.brk h r)
  else if op = 3 then some (.mfsr h r) else if op = 4 then some (.mtsr h r) else if op = 5 then some (.mtf h r)
  else if op = 6 then some (.ei h r) else if op = 7 then some (.di h r) else if op = 8 then some (.jmp h r)
  else if op = 9 then some (.callRegister h r) else none

/-- The ALU operations that majors 0x3, 0x5 and 0x6 share: ops 0x0 to 0xA (R248). -/
def aluInstr (h : Hdr) (f : AluForm) (op : Nat) : Option Instr :=
  if op = 0 then some (.add h f) else if op = 1 then some (.adc h f) else if op = 2 then some (.sub h f)
  else if op = 3 then some (.sbc h f) else if op = 4 then some (.andOp h f) else if op = 5 then some (.orOp h f)
  else if op = 6 then some (.xor h f) else if op = 7 then some (.shl h f) else if op = 8 then some (.shr h f)
  else if op = 9 then some (.asr h f) else if op = 10 then some (.ror h f) else none

/-- Major 0x3 (R248). -/
def regInstr (h : Hdr) (f : AluForm) (op : Nat) : Option Instr :=
  if op ≤ 10 then aluInstr h f op
  else if op = 11 then some (.mul h f) else if op = 12 then some (.mulhs h f) else if op = 13 then some (.mulhu h f)
  else if op = 14 then some (.divs h f) else if op = 15 then some (.divu h f) else none

/-- Majors 0x5 and 0x6, by the immediate's two shapes (R248). -/
def immInstr (h : Hdr) (f : AluForm) (u : UnForm) (op : Nat) : Option Instr :=
  if op ≤ 10 then aluInstr h f op
  else if op = 11 then some (.cmp h u) else if op = 12 then some (.tst h u) else if op = 13 then some (.mov h u)
  else if op = 14 then some (.mul h f) else none

/-- Major 0x4 (R250). -/
def unInstr (h : Hdr) (d r : Reg) (op : Nat) : Option Instr :=
  if op = 0 then some (.mov h (.unary d r)) else if op = 1 then some (.cmp h (.unary d r))
  else if op = 2 then some (.tst h (.unary d r)) else if op = 3 then some (.neg h d r)
  else if op = 4 then some (.notOp h d r) else if op = 5 then some (.sxb h d r) else if op = 6 then some (.sxh h d r)
  else if op = 7 then some (.zxb h d r) else if op = 8 then some (.zxh h d r) else if op = 9 then some (.clz h d r)
  else none

/-- The memory group; with the I/O-space override loads and stores are IN and OUT (R252, R253). -/
def memInstr (h : Hdr) (m : MemOp) (op : Nat) : Option Instr :=
  let io := h.pfx.contains .io
  if op = 0 then some (if io then .ioIn h (.addr m) else .ld h m)
  else if op = 1 then some (if io then .ioIn h (.addr m) else .lds h m)
  else if op = 2 then some (if io then .ioOut h (.addr m) else .st h m)
  else if op = 3 then some (.ldi h m) else if op = 4 then some (.xchg h m) else if op = 5 then some (.cas h m)
  else if op = 6 then some (.addm h m) else if op = 7 then some (.andm h m) else if op = 8 then some (.orm h m)
  else if op = 9 then some (.xorm h m) else none

/-- A mode and the bytes of its displacement (R251). -/
def modeBytes (n : Nat) : Option Nat :=
  if n = 0 ∨ n = 4 ∨ n = 5 then some 0 else if n = 1 then some 1 else if n = 2 then some 2 else if n = 3 then some 4
  else none
def spelledMode (n d : Nat) : Mode :=
  if n = 0 then .base else if n = 1 then .d8 (BitVec.ofNat 8 d) else if n = 2 then .d16 (BitVec.ofNat 16 d)
  else if n = 3 then .d32 (BitVec.ofNat 32 d) else if n = 4 then .postInc else .preDec

/-- Major 0xC; byte 1 [3:0] of PUSHM and POPM is zero, whatever follows (R255). -/
def stackSpell (h : Hdr) (op : Nat) (r : Reg) (bs : List Byte) : Spelled :=
  if op = 0 then .done (.push h r) else if op = 1 then .done (.pop h r)
  else if (op = 2 ∨ op = 3) ∧ r ≠ 0 then .bad
  else if op = 2 then withBytes 2 bs (fun v => .pushm h r (BitVec.ofNat 16 v))
  else if op = 3 then withBytes 2 bs (fun v => .popm h r (BitVec.ofNat 16 v))
  else .bad

/-- Major 0xD (R258). -/
def macInstr (h : Hdr) (m : MacOp) (op : Nat) : Option Instr :=
  if op = 0 then some (.mac h m) else if op = 1 then some (.msu h m) else if op = 2 then some (.mpy h m) else none

/-- Major 0xE; bits [3:2] of byte 2 are zero, and so is r2 of MVA, whatever its byte 3 (R247, R260). -/
def accSpell (h : Hdr) (m : AccOp) (b : Byte) (bs : List Byte) : Spelled :=
  let op := hiNib b
  if loNib b / 4 ≠ 0 ∨ (op = 4 ∧ m.r2 ≠ 0) then .bad
  else if op = 0 then .done (.macr h m) else if op = 1 then .done (.msur h m) else if op = 2 then .done (.mpyr h m)
  else if op = 3 then .done (.macru h m) else if op = 4 then withBytes 1 bs (fun v => .mva h m (BitVec.ofNat 8 v))
  else if op = 5 then .done (.rda h m) else if op = 6 then .done (.wra h m) else if op = 7 then .done (.clra h m)
  else .bad

/-- A group of one further byte. -/
def oneByte (bs : List Byte) (f : Byte → List Byte → Spelled) : Spelled :=
  match bs with
  | b :: r => f b r
  | [] => .short

/-- A group of two further bytes. -/
def twoBytes (bs : List Byte) (f : Byte → Byte → List Byte → Spelled) : Spelled :=
  oneByte bs (fun b r => oneByte r (f b))

/-- The memory group's bytes after the first (R247, R251). -/
def memSpell (h : Hdr) (b1 b2 : Byte) (bs : List Byte) : Spelled :=
  match modeBytes (loNib b2) with
  | none => .bad
  | some n =>
    let m := fun d => memInstr h ⟨regOf (hiNib b1), regOf (loNib b1), spelledMode (loNib b2) d⟩ (hiNib b2)
    if (m 0).isNone then .bad
    else
      match leadBytes n bs with
      | none => .short
      | some d => spell (m d)

/-- The base instruction of major opcode n and the bytes after its first (R247). -/
def baseSpell (h : Hdr) (n : Nat) (bs : List Byte) : Spelled :=
  if n = 0 then .done (.nop h)
  else if n = 1 then .done (.ret h)
  else if n = 2 then oneByte bs (fun b _ => spell (sysInstr h (hiNib b) (regOf (loNib b))))
  else if n = 3 then twoBytes bs (fun b c _ =>
    spell (regInstr h (.reg (regOf (hiNib b)) (regOf (loNib b)) (regOf (loNib c))) (hiNib c)))
  else if n = 4 then twoBytes bs (fun b c _ => spell (unInstr h (regOf (hiNib b)) (regOf (loNib b)) c.toNat))
  else if n = 5 then twoBytes bs (fun b c _ =>
    spell (immInstr h (.imm8 (regOf (hiNib b)) c) (.imm8 (regOf (hiNib b)) c) (loNib b)))
  else if n = 6 then oneByte bs (fun b r =>
    let d := regOf (hiNib b)
    if loNib b = 15 then .bad
    else
      match leadBytes 4 r with
      | none => .short
      | some v => spell (immInstr h (.imm32 d (BitVec.ofNat 32 v)) (.imm32 d (BitVec.ofNat 32 v)) (loNib b)))
  else if n = 7 then twoBytes bs (memSpell h)
  else if n = 8 then oneByte bs (fun b r =>
    let port := fun v => IoForm.abs (regOf (hiNib b)) (BitVec.ofNat 24 v)
    if loNib b = 0 then withBytes 3 r (fun v => .ioIn h (port v))
    else if loNib b = 1 then withBytes 3 r (fun v => .ioOut h (port v))
    else .bad)
  else if n = 9 then withBytes 1 bs (fun v => .branch h (.short (BitVec.ofNat 8 v)))
  else if n = 10 then withBytes 4 bs (fun v => .branch h (.long (BitVec.ofNat 32 v)))
  else if n = 11 then withBytes 4 bs (fun v => .callRel h (BitVec.ofNat 32 v))
  else if n = 12 then oneByte bs (fun b r => stackSpell h (hiNib b) (regOf (loNib b)) r)
  else if n = 13 then twoBytes bs (fun b c _ =>
    spell (macInstr h ⟨regOf (hiNib b), regOf (loNib b), Fin.ofNat 4 (hiNib c), Fin.ofNat 4 (loNib c / 4),
      Fin.ofNat 4 (loNib c)⟩ (hiNib c / 4)))
  else if n = 14 then twoBytes bs (fun b c r =>
    accSpell h ⟨regOf (hiNib b), regOf (loNib b), Fin.ofNat 4 (loNib c)⟩ c r)
  else .bad

/-- What the base instruction of major opcode n may accept of prefixes, by the bytes after its first as far as they are
there (R245). -/
def baseAccepts (n : Nat) (bs : List Byte) : List Accepts :=
  if n = 7 then
    match bs[1]? with
    | none => [accMem, accLdi, accRmw]
    | some b => if hiNib b ≤ 2 then [accMem] else if hiNib b = 3 then [accLdi] else [accRmw]
  else if n = 8 then [accIoAbs]
  else if n = 12 then [accStack]
  else if n = 13 then [accMac]
  else [accNone]

/-- The prefixes, as far as no base instruction could accept them, break the rules of R245. -/
def prefixesBad (ps : List Prefix) : Bool := !prefixesOk ⟨true, true, false, true, true⟩ ps

/-- The instruction at the head of bytes, after prefixes ps, which the base instruction must accept even where its last bytes
are missing (R245, R500); fuel bounds the prefixes, of which six never keep R245. -/
def spellFrom (k : CoreId) : Nat → List Prefix → List Byte → Spelled
  | 0, _, _ => .bad
  | fuel + 1, ps, bs =>
    oneByte bs (fun b r =>
      if hiNib b = 15 then
        match prefixOf b r with
        | none => .short
        | some (p, r) => if prefixesBad (ps ++ [p]) then .bad else spellFrom k fuel (ps ++ [p]) r
      else if !(baseAccepts (loNib b) r).any (fun a => prefixesOk a ps) then .bad
      else baseSpell ⟨k, BitVec.ofNat 4 (hiNib b), ps⟩ (loNib b) r)

/-- The instruction that bytes spell for core k (R241 to R247). -/
def spellInstr (k : CoreId) (bs : List Byte) : Spelled := spellFrom k 6 [] bs

/-! ## Fetching (R229, R246) -/

/-- The longest instruction, prefixes included. -/
def longest : Nat := 11

/-- How many of n bytes from a upward core k may fetch. -/
def fetchRoom (k : CoreId) (s : State) : Nat → Word → Nat
  | 0, _ => 0
  | n + 1, a => if s.fetchable k a then fetchRoom k s n (a + 1) + 1 else 0

/-- Bytes from a upward, n at the most, as far as the line that holds a goes: through core k's I-cache. -/
def fetchLine (k : CoreId) (a : Word) (n : Nat) (s : State) : Except Held (List Byte × State) :=
  let da := instrToData k a.toNat
  (instrLine k (lineOf da) s).map (fun r => ((r.1.drop (da % 64)).take n, r.2))

/-- What the bytes at core k's PC spell, n of them fetchable, and the state after the fetch: the next line is fetched
when the first does not hold the whole instruction. -/
def fetchSpell (k : CoreId) (n : Nat) (s : State) : Except Held (Spelled × State) :=
  let pc := s.cores[k].pc
  (fetchLine k pc n s).bind (fun r =>
    let got := r.1.length
    if spellInstr k r.1 ≠ .short ∨ n ≤ got then .ok (spellInstr k r.1, r.2)
    else (fetchLine k (pc + BitVec.ofNat 32 got) (n - got) r.2).map (fun q => (spellInstr k (r.1 ++ q.1), q.2)))

/-- Core k raises the illegal exception of an undefined encoding (R247). -/
def execUndefined (k : CoreId) (s : State) : Out := isaRun ⟨k, 0, []⟩ 1 1 accNone false (fun c _ s => complete k c s) s

/-- Core k fetches n bytes that it may fetch, and needs one more (R229). -/
def fetchShort (k : CoreId) (n : Nat) (s : State) : Out :=
  isaRun ⟨k, 0, []⟩ 1 (n + 1) accNone true (fun c _ s => complete k c s) s

/-- Core k executes the instruction at its PC. -/
def fetchRun (k : CoreId) (s : State) : Out :=
  let n := fetchRoom k s longest s.cores[k].pc
  if n = 0 then fetchShort k 0 s
  else
    match fetchSpell k n s with
    | .error h => .next (park h s)
    | .ok (.short, t) => fetchShort k n t
    | .ok (.bad, t) => execUndefined k t
    | .ok (.done i, t) => exec i t

/-! ## A core's turn -/

/-- A halted core for which a request is presented (R236). -/
def wakes (s : State) (k : CoreId) : Bool :=
  s.cores[k].halted && s.cores[k].run && !s.cores[k].inDebug && (presented s k).isSome && s.cpuClock

/-- A presented request that core k takes before its next instruction (R236). -/
def interrupted (s : State) (k : CoreId) : Bool :=
  s.cores[k].ie && !s.cores[k].eiShadow && !lockWaits k s && (presented s k).isSome

/-- The cores in rotation from the one whose turn it is. -/
def rotation (s : State) : List CoreId := (List.range 10).map (fun i => s.turn + Fin.ofNat 10 i)

/-- The core whose turn it is: the first that issues or wakes. -/
def turnOf (s : State) : Option CoreId := (rotation s).find? (fun k => s.issues k || wakes s k)

/-- What core k does in its turn: it wakes, takes an interrupt, or executes an instruction. -/
def coreTurn (k : CoreId) (s : State) : Out :=
  if wakes s k then execHaltWake k s
  else if interrupted s k then execInterruptEntry k s
  else fetchRun k s

/-- The next core in rotation takes its turn; with none that issues nothing happens. DESIGN CHOICE: the manual gives no
order among the cores, and an empty queue leaves them the step. -/
def coresStep (s : State) : Out :=
  match turnOf s with
  | none => .next s
  | some k => Out.then (coreTurn k s) (fun t => { t with turn := k + 1 })

end Sys2Proof.Machine
end

