-- ==== Sys2Proof/Safety.lean ====
section
/-! DEFINITION. The terms of the statements: what a safe run is, which access reaches its register, when an instruction
executes normally, and what a command leaves as it was. -/
namespace Sys2Proof
open Sys2Proof.Machine

/-- Bit i of a field after a write of v over old, by the field's access type (R8). -/
def Access.bitAfter (a : Access) (v old : Bool) : Bool :=
  match a with
  | .rw => v
  | .w1s => old || v
  | .w1c => old && !v
  | .ro | .wo | .rc => old

/-- A step that neither faults nor is refused. -/
def Completes (o : Host.Outcome State Fault Refusal) : Prop := ∃ t, o = .next t

/-- A register access that reaches its register: a core that may make it in its mode, at a port that it reaches, or the
debug port at a port that no core owns; and the register's domain is on (R12, R226, R227, R229, R498). -/
def Machine.State.reaches (s : State) (m : Master) (write : Bool) (p : Nat) : Bool :=
  match m with
  | .core k => (ioStop k write p s).isNone && s.portOn p
  | .debug => !isOwn p && s.portOn p

/-- Only the registers with these keys may differ, and nothing beside the registers differs. -/
def OnlyRegs (s t : State) (keys : List Nat) : Prop :=
  t = { s with regs := t.regs } ∧ ∀ key, key ∉ keys → getReg t key = getReg s key

/-- Every register but those with these keys is as it was. -/
def RegsBut (s t : State) (keys : List Nat) : Prop := ∀ key, key ∉ keys → getReg t key = getReg s key

/-- The pending bits that a falling line of a level source takes with it (R264): the sources whose lines units drive. -/
def settleKeys : List Nat := [P.INT_PEND_SET 1, P.INT_PEND_SET 2, P.INT_PEND_SET 3]

/-- What an edge at a pad may change: the latches of async sources, and in Eclipse the wake event that it is (R277, R449). -/
def Machine.State.edged (s t : State) : State :=
  { s with irq := { s.irq with latches := t.irq.latches }, pwr := { s.pwr with wakeDue := t.pwr.wakeDue } }

/-- Only the registers with these keys, the stored pending bits of level sources whose lines fall, the latches of pad edges
and the model's free counter may differ. -/
def OnlyRegsSettled (s t : State) (keys : List Nat) : Prop :=
  t = { s.edged t with regs := t.regs, free := t.free } ∧ RegsBut s t (keys ++ settleKeys)

/-- Only the registers with these keys, and the latches of pad edges, may differ (R277). -/
def OnlyRegsLatched (s t : State) (keys : List Nat) : Prop := t = { s.edged t with regs := t.regs } ∧ RegsBut s t keys

/-- The register at port p, with the specification r, after a write of v: its fields as their access types say, a code that a
field's table does not list being a listed one; its reserved bits as they were (R8, R10). -/
def FieldsWritten (s t : State) (p : Nat) (r : RegSpec) (v : Word) : Prop :=
  (∃ w : Word, (encodingOk p v = true → w = v) ∧ encodingOk p w = true ∧
    (∀ i, (∀ e ∈ codesOf p, ¬(e.2.1.lo ≤ i ∧ i ≤ e.2.1.hi)) → w.getLsbD i = v.getLsbD i) ∧
    ∀ f ∈ r.fields, ∀ i, f.fld.lo ≤ i → i ≤ f.fld.hi → (getReg t p).getLsbD i =
      Access.bitAfter f.acc (w.getLsbD i) ((getReg s p).getLsbD i)) ∧
  ∀ i, r.reserved.getLsbD i = true → (getReg t p).getLsbD i = (getReg s p).getLsbD i

/-- The ports whose writes and reads do nothing beyond R8: MON, the pins' configuration, and what follows AAS. -/
def plainPort (p : Nat) : Bool :=
  (decide (0x20000 ≤ p) && decide (p ≤ 0x2FFFF)) || (decide (0xA0000 ≤ p) && decide (p < 0xA0200)) ||
  decide (0x250000 ≤ p)

/-! ## The cores -/

/-- The byte count of an instruction with its prefixes. -/
def instrLen (h : Hdr) (len : Nat) : Nat := prefixLen h.pfx + len

/-- The address of the next instruction. -/
def nextPc (h : Hdr) (len : Nat) (s : State) : Word := s.cores[h.core].pc + BitVec.ofNat 32 (instrLen h len)

/-- An instruction of len bytes with its prefixes executes normally: its core issues, its bytes lie where the core may
fetch, its prefixes are accepted, its condition holds, and no debug hook applies to it (R227, R239, R243, R245). -/
def executes (h : Hdr) (len : Nat) (a : Accepts) (s : State) : Bool :=
  let c := s.cores[h.core]
  s.issues h.core && (s.fetchFault h.core c.pc (instrLen h len)).isNone && !c.breaks.contains (some c.pc) &&
    prefixesOk a h.pfx && h.cond != 15 && condHolds h.cond c && !c.stepping && c.watchHit.isNone &&
    c.watches.all Option.isNone

/-- For an instruction of the cores: its header, the length of its base instruction, the prefixes that it accepts, and
whether every field of its encoding is defined (R245, R247, R251, R255). -/
def isaForm : Instr → Option (Hdr × Nat × Accepts × Bool)
  | .nop h | .ret h => some (h, 1, accNone, true)
  | .add h f | .adc h f | .sub h f | .sbc h f | .andOp h f | .orOp h f | .xor h f | .shl h f | .shr h f | .asr h f
  | .ror h f | .mul h f => some (h, aluLen f, accNone, true)
  | .mulhs h f | .mulhu h f | .divs h f | .divu h f => some (h, aluLen f, accNone, regOnly f)
  | .cmp h f | .tst h f | .mov h f => some (h, unLen f, accNone, true)
  | .neg h _ _ | .notOp h _ _ | .sxb h _ _ | .sxh h _ _ | .zxb h _ _ | .zxh h _ _ | .clz h _ _ => some (h, 3, accNone, true)
  | .ld h m | .lds h m | .ioIn h (.addr m) => some (h, memLen m, accMem, memDefined false m)
  | .st h m | .ioOut h (.addr m) => some (h, memLen m, accMem, true)
  | .ldi h m => some (h, memLen m, accLdi, memDefined false m)
  | .xchg h m | .cas h m | .addm h m | .andm h m | .orm h m | .xorm h m => some (h, memLen m, accRmw, memDefined false m)
  | .ioIn h (.abs _ _) | .ioOut h (.abs _ _) => some (h, 5, accIoAbs, true)
  | .branch h f => some (h, branchLen f, accNone, true)
  | .callRel h _ => some (h, 5, accNone, true)
  | .rte h r | .halt h r | .brk h r | .ei h r | .di h r => some (h, 2, accNone, decide (r = 0))
  | .mfsr h _ | .mtsr h _ | .mtf h _ | .jmp h _ | .callRegister h _ => some (h, 2, accNone, true)
  | .push h _ => some (h, 2, accStack, true)
  | .pop h r => some (h, 2, accStack, decide (r ≠ spReg))
  | .pushm h r mask => some (h, 4, accStack, decide (r = 0 ∧ mask ≠ 0))
  | .popm h r mask => some (h, 4, accStack, decide (r = 0 ∧ mask ≠ 0) && !mask.getLsbD 14)
  | .mac h m | .msu h m | .mpy h m => some (h, 3, accMac, decide (m.x = m.y → m.ix = 0 ∧ m.iy = 0))
  | .macr h _ | .msur h _ | .mpyr h _ | .macru h _ => some (h, 3, accNone, true)
  | .mva h m sh => some (h, 4, accNone, decide (sh.toNat ≤ 40 ∧ m.r2 = 0))
  | .rda h m | .wra h m => some (h, 3, accNone, decide (m.r2.val ≤ 2))
  | .clra h m => some (h, 3, accNone, decide (m.r1 = 0 ∧ m.r2 = 0))
  | _ => none

/-- Nothing but core k and the performance counters differs. -/
def OnlyCore (k : CoreId) (s t : State) : Prop :=
  t = { s with cores := t.cores, pmc := t.pmc } ∧ ∀ j : CoreId, j ≠ k → t.cores[j] = s.cores[j]

/-- The mode bits of SR are as they were. -/
def SameMode (c c' : Core) : Prop := c'.user = c.user ∧ c'.ie = c.ie ∧ c'.ex = c.ex

/-- The flags are as they were. -/
def SameFlags (c c' : Core) : Prop := c'.fN = c.fN ∧ c'.fZ = c.fZ ∧ c'.fC = c.fC ∧ c'.fV = c.fV

/-- Core c has become c', which is new but for the history of its private port, which is some CPU clocks older (R238). -/
def Becomes (c c' new : Core) : Prop := ∃ n : Nat, c' = { new with privPast := agePast n c.privPast }

/-- Core k has taken an exception in the course of an instruction, which counts as executed; its private port's history is
some CPU clocks older (R235, R238, R312). -/
def Excepted (k : CoreId) (e : Exn) (pc : Word) (xaddr : Option Nat) (s t : State) : Prop :=
  ∃ n : Nat, t = agePort k s.cores[k].privOut n (takeException k e pc xaddr (pmcEvent 2 k 1 s))

/-- The parts of a core that an instruction's own effect does not name are as they were; the shadow of EI is over. -/
def SameCore (c c' : Core) : Prop :=
  Becomes c c' { c with g := c'.g, ac := c'.ac, sr := c'.sr, pc := c'.pc, eiShadow := false }

/-- Register d of the core holds v, and every other general register is as it was. -/
def OnlyG (c c' : Core) (d : Reg) (v : Word) : Prop :=
  c'.g[d] = v ∧ ∀ r : Reg, r ≠ d → c'.g[r] = c.g[r]

/-- An instruction that writes gd with v and the flags N, Z, C and V as given, and nothing else, has been executed. -/
def WritesG (h : Hdr) (len : Nat) (s t : State) (d : Reg) (v : Word) (n z cc vv : Bool) : Prop :=
  OnlyCore h.core s t ∧
  SameCore s.cores[h.core] t.cores[h.core] ∧
  OnlyG s.cores[h.core] t.cores[h.core] d v ∧
  t.cores[h.core].ac = s.cores[h.core].ac ∧
  SameMode s.cores[h.core] t.cores[h.core] ∧
  t.cores[h.core].fN = n ∧ t.cores[h.core].fZ = z ∧ t.cores[h.core].fC = cc ∧ t.cores[h.core].fV = vv ∧
  t.cores[h.core].pc = nextPc h len s

/-- An instruction that writes the flags alone has been executed. -/
def WritesFlags (h : Hdr) (len : Nat) (s t : State) (n z cc vv : Bool) : Prop :=
  OnlyCore h.core s t ∧
  SameCore s.cores[h.core] t.cores[h.core] ∧
  t.cores[h.core].g = s.cores[h.core].g ∧
  t.cores[h.core].ac = s.cores[h.core].ac ∧
  SameMode s.cores[h.core] t.cores[h.core] ∧
  t.cores[h.core].fN = n ∧ t.cores[h.core].fZ = z ∧ t.cores[h.core].fC = cc ∧ t.cores[h.core].fV = vv ∧
  t.cores[h.core].pc = nextPc h len s

/-- An instruction that leaves registers and SR alone and goes on at pc has been executed. -/
def GoesTo (h : Hdr) (s t : State) (pc : Word) : Prop :=
  OnlyCore h.core s t ∧ Becomes s.cores[h.core] t.cores[h.core] { s.cores[h.core] with pc := pc, eiShadow := false }

/-- An instruction that writes accumulator a with v and nothing else has been executed. -/
def WritesAc (h : Hdr) (len : Nat) (s t : State) (a : Fin 4) (v : Acc72) : Prop :=
  OnlyCore h.core s t ∧
  Becomes s.cores[h.core] t.cores[h.core]
    { s.cores[h.core] with ac := s.cores[h.core].ac.set a v, pc := nextPc h len s, eiShadow := false }

/-- The general registers after a load into gr by a memory operand: gr holds v, gb is updated as its mode says, and every
other register is as it was (R251, R252). -/
def LoadsG (h : Hdr) (m : MemOp) (c c' : Core) (v : Word) : Prop :=
  c'.g[m.r] = v ∧ (m.mode.updates → c'.g[m.b] = m.mode.newBase c.g[m.b] (opWidth h.pfx)) ∧
  ∀ r : Reg, r ≠ m.r → ¬(m.mode.updates ∧ r = m.b) → c'.g[r] = c.g[r]

/-! IN and OUT, absolute or register-addressed (R253). -/

/-- The length of the base instruction, the prefixes that it accepts, and whether its fields are defined. -/
def ioLen : IoForm → Nat
  | .abs _ _ => 5
  | .addr m => memLen m
def ioAccepts : IoForm → Accepts
  | .abs _ _ => accIoAbs
  | .addr _ => accMem
def ioDefined (isOut : Bool) (h : Hdr) : IoForm → Bool
  | .abs _ _ => true
  | .addr m => ioSpace h && memDefined isOut m

/-- gr, the port, and the core with gb updated as the mode says. -/
def ioReg : IoForm → Reg
  | .abs r _ => r
  | .addr m => m.r
def ioPort (h : Hdr) (c : Core) : IoForm → Nat
  | .abs _ port => port.toNat
  | .addr m => memPort h m c
def ioBase (h : Hdr) (c : Core) : IoForm → Core
  | .abs _ _ => c
  | .addr m => memUpdate h.pfx m c

/-- The registers that an access of requester id to DRAM may change: the requester's rank, the channels' arbiters and
the status of self-refresh (R42, R46, R49, R53). -/
def dramKeys (id : Nat) : List Nat :=
  [P.MEM_RANK id, P.MEM_SR_STAT, P.MEM_ARB_STAT 0, P.MEM_ARB_STAT 1, P.MEM_ARB_STAT 2, P.MEM_ARB_STAT 3]

/-- No request waits or has been served and not been taken up, no read is under way, no channel is owned, in a refresh
emergency or in a read error, and every channel serves: a request that arrives is granted in the next slot (R42 to R46). -/
def ArbiterIdle (s : State) : Prop :=
  memServes s = true ∧ (∀ a : Nat, chanReady s (chanFin s a) = true) ∧
  (∀ id : Nat, (requester s id).waiting = [] ∧ (requester s id).opened = none ∧ (requester s id).landed = []) ∧
  ∀ c : Fin 4, s.mc.chans[c].owner = none ∧ s.mc.chans[c].emergency = false ∧ s.mc.chans[c].link = false ∧
    s.mc.chans[c].flights = []

/-- An access at address a does not have to wait: it reaches no DRAM, or DRAM whose arbiters are idle. -/
def AccessNow (s : State) (a : Nat) : Prop := s.region a = .dram → ArbiterIdle s

/-- What accesses of requester id to DRAM may change: memory, the arbiters and their registers, the counters, the model's free
counter, and the registers with these keys. -/
def OnlyDram (id : Nat) (s t : State) (keys : List Nat) : Prop :=
  t = { s with mem := t.mem, mc := t.mc, regs := t.regs, pmc := t.pmc, free := t.free } ∧
  RegsBut s t (keys ++ dramKeys id)

/-- What a core's access may change beside memory: its core, the counters, the L2, the model's free counter, and in DRAM
the arbiters. -/
def OnlyAccess (k : CoreId) (s t : State) : Prop :=
  t = { s with cores := t.cores, pmc := t.pmc, l2 := t.l2, free := t.free, mem := t.mem, mc := t.mc, regs := t.regs } ∧
  RegsBut s t (dramKeys 8) ∧ ∀ j : CoreId, j ≠ k → t.cores[j] = s.cores[j]

/-- A core after an access: its PC at pc, everything that an access does not name as it was. -/
def AccessCore (c c' : Core) (pc : Word) : Prop :=
  Becomes c c' { c with g := c'.g, sr := c'.sr, pc := pc, eiShadow := false, dcache := c'.dcache, icache := c'.icache }

/-- The key of memory at which core k's access to address a lies: its own X and Y RAM, or data space (R228). -/
def accessKey (k : CoreId) (a : Nat) (s : State) : Nat :=
  match s.region a with
  | .xRam | .yRam => ramKey k a
  | _ => a

/-- n is the number that the w bytes at a key hold; what a byte holds that nothing has written, and which value a pixel
shows that a blit command in progress writes, is free. -/
def ReadAs (s : State) (key w n : Nat) : Prop := ∃ f : Nat, n = State.readLe { s with free := f } key w

/-- bs are the n bytes that a read finds from a key upward, open in the same points as ReadAs. -/
def ReadBytes (s : State) (key n : Nat) (bs : List Byte) : Prop := ∃ f : Nat, bs = State.readBytes { s with free := f } key n

/-- n is what a read of w bytes at address a through a cache that holds lines as it does gives: the line's bytes where it is
held, but for a clean line the memory's too, as it may have been replaced; the memory's where it is not held (R230). -/
def Cached (s : State) (line : Option L2Line) (a w n : Nat) : Prop :=
  match line with
  | none => ReadAs s a w n
  | some ⟨d, dirty⟩ => n = inLine d a w ∨ (dirty = false ∧ ReadAs s a w n)

/-- n is what a read of w bytes at address a gives core k: DRAM through the L2, the resident area through an audio core's
D-cache, and elsewhere in shared SRAM and in X and Y RAM the bytes of the memory (R230). -/
def Fetched (k : CoreId) (s : State) (a w n : Nat) : Prop :=
  if s.region a = .dram then Cached s (Tab.find s.l2 (a / 64)) a w n
  else if 8 ≤ k.val ∧ s.region a = .resident then
    Cached s ((Tab.find s.cores[k].dcache (a / 64)).map (fun d => ⟨d, false⟩)) a w n
  else ReadAs s (accessKey k a s) w n

/-- d is the line at an address before a store: as the L2 held it, or for a line not held, or a clean one that was replaced or
is read by a locked sequence, as DRAM has it (R230, R232). -/
def LineBefore (s : State) (a : Nat) (lock : Bool) (d : List Byte) : Prop :=
  match Tab.find s.l2 (a / 64) with
  | none => ReadBytes s (64 * (a / 64)) 64 d
  | some l => if l.dirty then d = l.data else (lock = false ∧ d = l.data) ∨ ReadBytes s (64 * (a / 64)) 64 d

/-- Core k has stored the w low bytes of v at address a: in X and Y RAM and in shared SRAM they are in memory; in DRAM they
are in the L2, in the line as it was or as it was filled from DRAM, every other byte of it unchanged; the line is dirty, and
when the store was locked the bytes are in memory as well, which leaves the line as clean as it was (R230, R232, R254).
Nothing else in memory or in the L2 has changed. -/
def Landed (k : CoreId) (s t : State) (a w v : Nat) (lock : Bool) : Prop :=
  (s.region a ≠ .dram → t.l2 = s.l2 ∧ t.mem = Memory.writeBytes s.mem (accessKey k a s) (natToLe w v)) ∧
  (s.region a = .dram →
    t.mem = (if lock then Memory.writeBytes s.mem a (natToLe w v) else s.mem) ∧
    (∀ line, line ≠ a / 64 → Tab.find t.l2 line = Tab.find s.l2 line) ∧
    ∃ d, LineBefore s a lock d ∧
      Tab.find t.l2 (a / 64) = some ⟨patchLine d (a % 64) (natToLe w v),
        !lock || (Tab.find s.l2 (a / 64)).any L2Line.dirty⟩)

/-- Core k has stored words at addresses, one after another, and nothing else in memory or in the L2 has changed. -/
def LandedWords (k : CoreId) : List (Nat × Word) → State → State → Prop
  | [], s, t => t.mem = s.mem ∧ t.l2 = s.l2
  | (a, v) :: rest, s, t => ∃ m l, Landed k s { s with mem := m, l2 := l } a 4 v.toNat false ∧
      LandedWords k rest { s with mem := m, l2 := l } t

/-- Signed 32-bit arithmetic overflows. -/
def overflows (x : Int) : Bool := decide (x < -2147483648) || decide (2147483647 < x)

/-! ## The DMA engine -/

/-- DMA channel n runs, stands between instructions, and its next instruction is of op and passes its checks (R282,
R285). -/
def dmaReady (n : Fin 32) (op : Nat) (s : State) : Bool :=
  dmaOn s && decide (chState s n = 1) && (s.dma[n].drain).isNone && !s.dma[n].shaWaits &&
  decide (progAt s n + 16 ≤ s.dramSize) && decide (progWord s n 0 % 16 = op) && (s.dma[n].moved).isNone &&
  decide (checkCode s.dma[n] (progWord s n 0) (progWord s n 1) (progWord s n 2) (progWord s n 3) = 0)

/-- Channel n has ended its instruction and goes on at instruction i, or drains for a stop that was due (R296). -/
def DmaNext (n : Fin 32) (i : Nat) (s t : State) : Prop :=
  chPc t n = i % 1048576 ∧ t.dma[n].stopDue = false ∧
  t.dma[n].drain = if s.dma[n].stopDue then some .stop else none

/-! ## Signatures -/

/-- A hedged signature of msg has been made under sk, its two takings of opt_rand from the management instance d: the first
signature is released when it holds under the public key, else the second when that one does, and a second failure releases
none and raises tilt 0x3904 (R366, R368). e1 and e2 are the bits that a fault in the work flips. -/
def SignedAs (set : Nat) (pre : Bool) (sk ctx msg e1 e2 : List Byte) (d : Drbg) (s t : State) : Prop :=
  let a := drbgGenerate d 16
  let b := drbgGenerate a.2 16
  let g1 := slhMade set pre sk ctx msg a.1 e1
  let g2 := slhMade set pre sk ctx msg b.1 e2
  let one := slhHolds set pre sk ctx msg g1
  let two := slhHolds set pre sk ctx msg g2
  t.sec.sig = (if one then g1 else if two then g2 else s.sec.sig) ∧
  t.sec.mgmt = some (if one then a.2 else b.2) ∧
  ((!one && !two && !s.pwr.inReset && s.tilt.code.isNone) = true → t.tilt.code = some 0x3904)

/-- One of the two signatures of SignedAs is released. -/
def released (set : Nat) (pre : Bool) (sk ctx msg e1 e2 : List Byte) (d : Drbg) : Bool :=
  let a := drbgGenerate d 16
  let b := drbgGenerate a.2 16
  slhHolds set pre sk ctx msg (slhMade set pre sk ctx msg a.1 e1) ||
    slhHolds set pre sk ctx msg (slhMade set pre sk ctx msg b.1 e2)

/-! ## The floor link -/

/-- What goes ahead of the link's next datagram: the request for the next hop's MAC address, unless it has been resolved
(R421). -/
def asked (s : State) : List FloorFrame :=
  if s.flr.hop = some (nextHop s, hopMac s) then [] else [resolution .ask (nextHop s) none s]

/-! ## Power and reset -/

/-- The domain of a register, by its key; own instances lie 0x1000000 apart, holds 0x800000 above their registers (R496,
R498). -/
def regDomain (key : Nat) : Option Nat := domainOf (key % 0x800000)

/-- Every domain that is on has the domains that it needs (R441). -/
def DomainsClosed (set : BitVec 40) : Prop := ∀ d n, d < 40 → set.getLsbD d = true → n ∈ needs d → set.getLsbD n = true

/-- What a domain's loss may change of the registers of others: the pending bits of its units' lines, and for a composer and an
output the urgency of their requesters (R41, R158, R264). -/
def lossKeys (d : Nat) : List Nat :=
  settleKeys ++ (if 12 ≤ d ∧ d ≤ 15 then [P.MEM_RANK (d - 12)]
    else if 30 ≤ d ∧ d ≤ 33 then [P.MEM_RANK (d - 30), P.MEM_RANK (d - 17)] else [])

/-- The device has been reset whole with a cause, PD0 apart: its registers and the RTC stay (R11, R457, R461). -/
def ResetBy (cause : Nat) (s t : State) : Prop :=
  t.pwr.inReset = true ∧ t.pwr.mode = (if s.pwr.onVbat then .off else .run) ∧ t.tilt.code = none ∧ t.mem = [] ∧ t.cores = Vector.replicate 10 Core.reset ∧
  t.pwr.doms = State.reset.pwr.doms ∧ t.pwr.rtc = s.pwr.rtc ∧ t.pwr.uptime = s.pwr.uptime ∧ t.pending = s.pending ∧
  (∀ key, regDomain key ≠ some 0 → getReg t key = resetOf key) ∧
  (∀ key, regDomain key = some 0 → key ≠ P.PWR_RESET_CAUSE → getReg t key = getReg s key) ∧
  getF t P.PWR_RESET_CAUSE F.PWR_RESET_CAUSE_cause =
    (let old := getF s P.PWR_RESET_CAUSE F.PWR_RESET_CAUSE_cause
     if s.pwr.causeFresh && decide (old ≤ cause) then old else cause)

/-! ## The whole machine -/

/-- What every step keeps: registers and memory in canonical form, PD0 on and never asked to go off, and no domain on
without a domain that it needs (R11, R24, R441, R443). -/
def BlockInv (s : State) : Prop :=
  Tab.wf s.regs resetOf = true ∧ Memory.wf s.mem = true ∧ DomainsClosed s.pwr.doms ∧ s.pwr.doms.getLsbD 0 = true ∧
  s.pwr.toOff.getLsbD 0 = false

end Sys2Proof
end

