-- ==== Sys2Proof/Certificates/Slice0/Obligations.lean ====
section
/-! DEFINITION. The statements for the provers, by chapter of the spec. A rule that a docstring names is one that the
statement says something of; where a clause rests on the model's own choice the docstring says so. -/
open Sys2Proof Sys2Proof.Machine

/-! ## The whole block -/

/-- A step takes the command at the front of the queue and is exec of it on the state with the queue's rest; with
nothing waiting the cores take turns, and where none of them issues or wakes the block idles. (The queue and the turns are
the model's.) -/
def Obligations.StepTakesFrontCommand : Prop :=
  (∀ (c : Instr) (rest : List Instr) (s : State),
    step { s with pending := c :: rest } = exec c { s with pending := rest }) ∧
  ∀ s : State, s.pending = [] →
    (turnOf s = none → step s = .next s) ∧
    ∀ k : CoreId, turnOf s = some k → step s = (coreTurn k s).then (fun t => { t with turn := k + 1 })

/-- No command touches the queue of the commands behind it, so every step shortens the queue by the command it takes. -/
def Obligations.CommandsLeaveQueue : Prop :=
  (∀ (c : Instr) (s t : State), exec c s = .next t → t.pending = s.pending) ∧
  ∀ s t : State, step s = .next t → t.pending = s.pending.tail

/-- R11, R237, R441, R461: After the first power-up every register reads the reset value of its table, among them those
named here; every core is at reset, tilt does not stand, memory lists nothing, and the domains of R355 are on, each with
those that it needs. (Device reset is taken as still asserted in this state.) The invariant of StepKeepsInvariant holds
after reset. -/
def Obligations.ResetStateAndInvariant : Prop :=
  ((∀ key, getReg State.reset key = resetOf key) ∧
   (∀ pv : Nat × Word, pv ∈ ([(P.PWR_RESET_CAUSE, 1), (P.PWR_DOM_REQ0, 0xFFFFFFFF), (P.PWR_DOM_REQ1, 0x17), (P.MON_CFG, 328),
       (P.PWR_WAKE_EN, 0x14), (P.FLR_PORTS, 0x102C102C), (P.FLR_TIMING, 50), (P.FLR_PREFIX, 24), (P.FLR_CTRL, 0x700),
       (P.MEM_RANK 0, 0xCC), (P.MEM_RANK 8, 0x99), (P.SYS_TILT, 0), (P.LDG_STAT, 0)] : List (Nat × Word)) →
     getReg State.reset pv.1 = pv.2) ∧
   State.reset.tilt.code = none ∧ State.reset.mem = [] ∧ State.reset.pending = [] ∧ State.reset.pwr.inReset = true ∧
   (∀ k : CoreId, State.reset.cores[k] = Core.reset) ∧ DomainsClosed State.reset.pwr.doms ∧
   ∀ d, d < 40 → State.reset.pwr.doms.getLsbD d = decide (d ∉ [35, 37, 38, 39])) ∧
  (BlockInv State.reset)

/-- R11, R24, R441, R443: every step keeps registers and memory in canonical form, PD0 on, and every domain that is on
together with the domains that it needs. -/
def Obligations.StepKeepsInvariant : Prop :=
  ∀ s t : State, BlockInv s → step s = .next t → BlockInv t

/-- R468, R474: the code of the first tilt stands until device reset: no step changes or clears it but one that leaves
the device in reset. -/
def Obligations.TiltStandsUntilReset : Prop :=
  ∀ (s t : State) (code : Nat), s.tilt.code = some code → step s = .next t →
    t.tilt.code = some code ∨ t.pwr.inReset = true

/-- R228, R230: bytes written to memory read back where they were written, every other byte stays, and the canonical
form is kept; so it is by erasing a range. (A stream buffer's bytes after its sequencer's copies are not claimed of.) -/
def Obligations.MemoryCells : Prop :=
  ∀ (s : State) (key : Nat) (bs : List Byte),
    (∀ i (h : i < bs.length), s.streamed (key + i) = false → (s.writeBytes key bs).stored (key + i) = bs[i]) ∧
    (∀ a, a < key ∨ key + bs.length ≤ a → (s.writeBytes key bs).stored a = s.stored a) ∧
    (Memory.wf s.mem = true → Memory.wf (s.writeBytes key bs).mem = true ∧
      ∀ lo hi, Memory.wf (eraseRange lo hi s).mem = true ∧
        ∀ a, a < lo ∨ hi ≤ a → (eraseRange lo hi s).stored a = s.stored a)

/-- R8, R10, R497: a register write that reaches a register whose block gives its writes no further effect sets RW
fields, ORs W1S fields, clears W1C fields and leaves RO, WO and RC fields and every other register, but that a level
source whose line falls with it loses its stored pending bit; a code that its field's table does not list is stored as a
listed one (the model's choice, log 13); a 1 in a reserved bit or in a port that names no register stops by name; a read returns
every field but WO, which reads zero, reserved bits zero, and clears RC fields. -/
def Obligations.RegisterFields : Prop :=
  (∀ (m : Master) (port : BitVec 24) (v : Word) (r : RegSpec) (s : State), s.reaches m true port.toNat = true →
    plainPort port.toNat = true → specOf port.toNat = some r →
    v &&& r.reserved = 0 →
      ∃ t, exec (.registerWrite m port v) s = .next t ∧ OnlyRegsSettled s t [port.toNat] ∧
        FieldsWritten s t port.toNat r v) ∧
  (∀ (m : Master) (port : BitVec 24) (v : Word) (s : State), s.reaches m true port.toNat = true →
    hetoArea (localPort m port.toNat) = false →
    (reservedOk (localPort m port.toNat) v = false → exec (.registerWrite m port v) s = .fault .reservedBit) ∧
    (specOf (localPort m port.toNat) = none → v = 0 →
      exec (.registerWrite m port v) s = .next (s.accessed (localPort m port.toNat)))) ∧
  (∀ (m : Master) (p : Nat) (r : RegSpec) (s : State),
    (0xC0000 ≤ p ∧ p ≤ 0xCFFFF) ∨ (0x250000 ≤ p ∧ p < 0x1000000) → specOf p = some r →
    OnlyRegsSettled s (busRead m p s).2 [p] ∧
    (∀ i, r.reserved.getLsbD i = true → (busRead m p s).1.getLsbD i = false) ∧
    ∀ f ∈ r.fields, ∀ i, f.fld.lo ≤ i → i ≤ f.fld.hi →
      (busRead m p s).1.getLsbD i = (decide (f.acc ≠ .wo) && (getReg s p).getLsbD i) ∧
      (getReg (busRead m p s).2 p).getLsbD i = (decide (f.acc ≠ .rc) && (getReg s p).getLsbD i))

/-- R12, R226, R229, R239, R498: while the register's domain is off a command that writes it is discarded and one that
reads it returns zero, and so is the debug port's at a port that each core owns; a core that may not make the access
takes the exception instead: privilege in user mode, alignment at a port that is no multiple of 4, access at a port
outside every block, in the DBG block, or, for an audio core, outside the blocks that it reaches. -/
def Obligations.GatedAccess : Prop :=
  (∀ (m : Master) (w : Bool) (p : Nat) (i : Instr) (d : Fin 4) (n : Fin 32) (v : Word) (port : BitVec 24)
    (s : State),
    (w, p, i) ∈ [(true, P.PWR_CMD, Instr.eclipse m), (true, P.PWR_CMD, .resetCommand m), (true, P.PWR_DOM_REQ0, .domainRequest m false v),
      (true, P.BLT_CTRL, .blitStop m), (true, P.DMA_CH_CTRL n, .channelStart m n), (true, P.DMA_CH_CTRL n, .channelStop m n),
      (true, P.FLR_CTRL, .floorStart m), (true, P.KTL_CTRL, .kettleStop m), (true, P.EPH_COMMIT d, .ephCommit m d v),
      (true, P.EPH_FRAME0 d, .ephFrame0Write m d v), (true, P.DSP_TRAIN d, .dspTrain m d), (true, P.DIG_CTRL d, .recallEnable m d true),
      (true, P.PLN_PAL_HI d, .paletteWrite m d (v.setWidth 8)), (true, P.SEC_DRBG_CFG, .reseedRequest m),
      (true, P.SYS_TILT_REQ, .sysTiltReq m (v.setWidth 8)), (true, P.SYS_MBIST_CTRL, .mramTest m), (true, P.PMC_CTRL, .pmcClear m),
      (false, P.MEM_ECC_ADDR_LO, .memEccAddrLoRead m), (true, P.PWR_RTC_SET_HI, .rtcSet m v),
      (true, port.toNat, .registerWrite m port v)] →
    (m = .debug → isOwn p = true ∨ s.portOn p = false → exec i s = .next (noRegister w s)) ∧
    ∀ k, m = .core k →
      (ioStop k w p s = none → s.portOn p = false → exec i s = .next (noRegister w s)) ∧
      ∀ e, ioStop k w p s = some e →
        exec i s = .next (if s.issues k then takeException k e s.cores[k].pc (some p) s else s)) ∧
  ∀ (k : CoreId) (w : Bool) (p : Nat) (s : State),
    (s.cores[k].user = true → userMay k w p s = false → ioStop k w p s = some .privilege) ∧
    (s.cores[k].user = false → p % 4 ≠ 0 → ioStop k w p s = some .alignment) ∧
    (s.cores[k].user = false → p % 4 = 0 → domainOf p = none ∨ isDbg p = true → ioStop k w p s = some .access) ∧
    (s.cores[k].user = false → p % 4 = 0 → 8 ≤ k.val → audioReaches k p = false → ioStop k w p s = some .access)

/-- R12: while its domain is off a register reads zero, by IN and by the read commands, and a write to it is discarded,
by OUT and by REGISTER_WRITE; when the domain comes on again, its registers hold their reset values. -/
def Obligations.RegistersOfOffDomains : Prop :=
  (∀ (m : Master) (port : BitVec 24) (v : Word) (s : State), s.portOn port.toNat = false →
    (m = .debug ∨ ∃ k, m = .core k ∧ ioStop k true port.toNat s = none) →
    exec (.registerWrite m port v) s = .next s) ∧
  (∀ (m : Master) (c : Fin 64) (s : State), s.portOn (P.PMC_VAL c) = false →
    (m = .debug ∨ ∃ k, m = .core k ∧ ioStop k false (P.PMC_VAL c) s = none) →
    exec (.counterRead m c) s = .next { s with rdata := 0 }) ∧
  (∀ (h : Hdr) (r : Reg) (port : BitVec 24) (s : State), executes h 5 accIoAbs s = true → opWidth h.pfx = 4 →
    s.portOn port.toNat = false →
    (ioStop h.core false port.toNat s = none → ∃ t, exec (.ioIn h (.abs r port)) s = .next t ∧ OnlyCore h.core s t ∧
      OnlyG s.cores[h.core] t.cores[h.core] r 0) ∧
    (ioStop h.core true port.toNat s = none → ∃ t, exec (.ioOut h (.abs r port)) s = .next t ∧
      GoesTo h s t (nextPc h 5 s))) ∧
  ∀ (d : Nat) (s : State), s.pwr.toOff = 0 → nextOn s = some d → ∃ t, exec .domainSwitch s = .next t ∧
    t.pwr.doms.getLsbD d = true ∧ ∀ key, regDomain key = some d → key ≠ P.PWR_STAT → getReg t key = resetOf key

/-! ## The Ivros instruction set (chapter 12) -/

/-- R248, R249, R250: ADD, ADC, SUB, SBC, AND, OR, XOR, MUL, MULHS and MULHU write gd with their result and the flags of
their row, and nothing else but the PC; MULHS and MULHU have the register form only. The shifts by their count and the
divisions, with the flags of R248. CMP and TST write flags alone, MOV and the extensions gd alone, NEG and NOT gd and
the flags of their rows. -/
def Obligations.IntegerInstructions : Prop :=
  (∀ (h : Hdr) (f : AluForm) (s : State), executes h (aluLen f) accNone s = true →
     let c := s.cores[h.core]
     let x := aluX c f
     let y := aluY c f
     let k := b2n c.fC
     (∃ t, exec (.add h f) s = .next t ∧ WritesG h (aluLen f) s t (aluDest f) (x + y) (x + y).msb (decide (x + y = 0))
       (decide (4294967296 ≤ x.toNat + y.toNat)) (overflows (x.toInt + y.toInt))) ∧
     (∃ t, exec (.adc h f) s = .next t ∧
       let r := x + y + BitVec.ofNat 32 k
       WritesG h (aluLen f) s t (aluDest f) r r.msb (decide (r = 0))
         (decide (4294967296 ≤ x.toNat + y.toNat + k)) (overflows (x.toInt + y.toInt + k))) ∧
     (∃ t, exec (.sub h f) s = .next t ∧ WritesG h (aluLen f) s t (aluDest f) (x - y) (x - y).msb (decide (x = y))
       (decide (x.toNat < y.toNat)) (overflows (x.toInt - y.toInt))) ∧
     (∃ t, exec (.sbc h f) s = .next t ∧
       let r := x - y - BitVec.ofNat 32 k
       WritesG h (aluLen f) s t (aluDest f) r r.msb (decide (r = 0))
         (decide (x.toNat < y.toNat + k)) (overflows (x.toInt - y.toInt - k))) ∧
     (∃ t, exec (.andOp h f) s = .next t ∧ WritesG h (aluLen f) s t (aluDest f) (x &&& y) (x &&& y).msb
       (decide (x &&& y = 0)) c.fC c.fV) ∧
     (∃ t, exec (.orOp h f) s = .next t ∧ WritesG h (aluLen f) s t (aluDest f) (x ||| y) (x ||| y).msb
       (decide (x ||| y = 0)) c.fC c.fV) ∧
     (∃ t, exec (.xor h f) s = .next t ∧ WritesG h (aluLen f) s t (aluDest f) (x ^^^ y) (x ^^^ y).msb
       (decide (x ^^^ y = 0)) c.fC c.fV) ∧
     (∃ t, exec (.mul h f) s = .next t ∧ WritesG h (aluLen f) s t (aluDest f) (x * y) (x * y).msb
       (decide (x * y = 0)) c.fC c.fV) ∧
     ((∃ d a b, f = .reg d a b) →
       (∃ t, exec (.mulhs h f) s = .next t ∧
         let r := BitVec.ofInt 32 ((x.toInt * y.toInt).fdiv 4294967296)
         WritesG h (aluLen f) s t (aluDest f) r r.msb (decide (r = 0)) c.fC c.fV) ∧
       (∃ t, exec (.mulhu h f) s = .next t ∧
         let r := BitVec.ofNat 32 (x.toNat * y.toNat / 4294967296)
         WritesG h (aluLen f) s t (aluDest f) r r.msb (decide (r = 0)) c.fC c.fV))) ∧
  ((∀ (h : Hdr) (f : AluForm) (s : State), executes h (aluLen f) accNone s = true →
     let c := s.cores[h.core]
     let x := aluX c f
     let n := aluCount c f
     (∃ t, exec (.shl h f) s = .next t ∧
       let r := BitVec.ofNat 32 (x.toNat * 2 ^ n)
       WritesG h (aluLen f) s t (aluDest f) r r.msb (decide (r = 0))
         (if n = 0 then c.fC else if n ≤ 32 then x.toNat.testBit (32 - n) else false) c.fV) ∧
     (∃ t, exec (.shr h f) s = .next t ∧
       let r := BitVec.ofNat 32 (x.toNat / 2 ^ n)
       WritesG h (aluLen f) s t (aluDest f) r r.msb (decide (r = 0))
         (if n = 0 then c.fC else if n ≤ 32 then x.toNat.testBit (n - 1) else false) c.fV) ∧
     (∃ t, exec (.asr h f) s = .next t ∧
       let r := BitVec.ofInt 32 (x.toInt.fdiv (2 ^ n))
       WritesG h (aluLen f) s t (aluDest f) r r.msb (decide (r = 0))
         (if n = 0 then c.fC else if n ≤ 32 then x.toNat.testBit (n - 1) else x.msb) c.fV) ∧
     (∃ t, exec (.ror h f) s = .next t ∧
       let r := x.rotateRight (n % 32)
       WritesG h (aluLen f) s t (aluDest f) r r.msb (decide (r = 0)) (if n % 32 = 0 then c.fC else r.msb) c.fV)) ∧
   (∀ (h : Hdr) (d a b : Reg) (s : State), executes h 3 accNone s = true →
     let c := s.cores[h.core]
     let x := c.g[a]
     let y := c.g[b]
     (∃ t, exec (.divs h (.reg d a b)) s = .next t ∧
       (y = 0 → WritesG h 3 s t d 0 false true c.fC true) ∧
       (x = 0x80000000 → y = 0xFFFFFFFF → WritesG h 3 s t d 0x80000000 true false c.fC true) ∧
       (y ≠ 0 → ¬(x = 0x80000000 ∧ y = 0xFFFFFFFF) →
         let r := BitVec.ofInt 32 (x.toInt.tdiv y.toInt)
         WritesG h 3 s t d r r.msb (decide (r = 0)) c.fC false)) ∧
     (∃ t, exec (.divu h (.reg d a b)) s = .next t ∧
       (y = 0 → WritesG h 3 s t d 0 false true c.fC true) ∧
       (y ≠ 0 →
         let r := BitVec.ofNat 32 (x.toNat / y.toNat)
         WritesG h 3 s t d r r.msb (decide (r = 0)) c.fC false)))) ∧
  ((∀ (h : Hdr) (f : UnForm) (s : State), executes h (unLen f) accNone s = true →
     let c := s.cores[h.core]
     let x := c.g[unDest f]
     let y := unY c f
     (∃ t, exec (.cmp h f) s = .next t ∧ WritesFlags h (unLen f) s t (x - y).msb (decide (x = y))
       (decide (x.toNat < y.toNat)) (overflows (x.toInt - y.toInt))) ∧
     (∃ t, exec (.tst h f) s = .next t ∧ WritesFlags h (unLen f) s t (x &&& y).msb (decide (x &&& y = 0)) c.fC c.fV) ∧
     (∃ t, exec (.mov h f) s = .next t ∧ WritesG h (unLen f) s t (unDest f) y c.fN c.fZ c.fC c.fV)) ∧
   (∀ (h : Hdr) (d src : Reg) (s : State), executes h 3 accNone s = true →
     let c := s.cores[h.core]
     let x := c.g[src]
     (∃ t, exec (.neg h d src) s = .next t ∧ WritesG h 3 s t d (-x) (-x).msb (decide (x = 0)) (decide (x ≠ 0))
       (overflows (-x.toInt))) ∧
     (∃ t, exec (.notOp h d src) s = .next t ∧ WritesG h 3 s t d (~~~x) (~~~x).msb (decide (~~~x = 0)) c.fC c.fV) ∧
     (∃ t, exec (.sxb h d src) s = .next t ∧
       WritesG h 3 s t d ((x.setWidth 8).signExtend 32) c.fN c.fZ c.fC c.fV) ∧
     (∃ t, exec (.sxh h d src) s = .next t ∧
       WritesG h 3 s t d ((x.setWidth 16).signExtend 32) c.fN c.fZ c.fC c.fV) ∧
     (∃ t, exec (.zxb h d src) s = .next t ∧ WritesG h 3 s t d (x &&& 0xFF) c.fN c.fZ c.fC c.fV) ∧
     (∃ t, exec (.zxh h d src) s = .next t ∧ WritesG h 3 s t d (x &&& 0xFFFF) c.fN c.fZ c.fC c.fV) ∧
     (∃ t, exec (.clz h d src) s = .next t ∧ ∃ n ≤ 32, WritesG h 3 s t d (BitVec.ofNat 32 n) c.fN c.fZ c.fC c.fV ∧
       (∀ i < n, x.getLsbD (31 - i) = false) ∧ (n < 32 → x.getLsbD (31 - n) = true))))

/-- R256, R257: NOP, the branches, the calls and the returns go on where the rules say; a call leaves the following
address in g15. -/
def Obligations.ControlTransfer : Prop :=
  ∀ (h : Hdr) (s : State),
    let c := s.cores[h.core]
    (executes h 1 accNone s = true →
      (∃ t, exec (.nop h) s = .next t ∧ GoesTo h s t (nextPc h 1 s)) ∧
      (∃ t, exec (.ret h) s = .next t ∧ GoesTo h s t c.g[(15 : Reg)])) ∧
    (∀ rel : BitVec 8, executes h 2 accNone s = true →
      ∃ t, exec (.branch h (.short rel)) s = .next t ∧ GoesTo h s t (nextPc h 2 s + rel.signExtend 32)) ∧
    (∀ rel : Word, executes h 5 accNone s = true →
      (∃ t, exec (.branch h (.long rel)) s = .next t ∧ GoesTo h s t (nextPc h 5 s + rel)) ∧
      (∃ t, exec (.callRel h rel) s = .next t ∧ OnlyCore h.core s t ∧
        Becomes c t.cores[h.core] { c with g := c.g.set 15 (nextPc h 5 s), pc := nextPc h 5 s + rel, eiShadow := false })) ∧
    (∀ r : Reg, executes h 2 accNone s = true →
      (∃ t, exec (.jmp h r) s = .next t ∧ GoesTo h s t c.g[r]) ∧
      (∃ t, exec (.callRegister h r) s = .next t ∧ OnlyCore h.core s t ∧
        Becomes c t.cores[h.core] { c with g := c.g.set 15 (nextPc h 2 s), pc := c.g[r], eiShadow := false }))

/-- R235, R236, R257: the SYS group in supervisor mode: HALT waits, MFSR, MTSR and MTF move SR, EI and DI set and clear
SR.ie, and RTE reloads SR from SYS_XSR and the PC from SYS_XPC. MFSR, MTF run in user mode as well. -/
def Obligations.SystemInstructions : Prop :=
  ∀ (h : Hdr) (r : Reg) (s : State), executes h 2 accNone s = true →
    let c := s.cores[h.core]
    let pc := nextPc h 2 s
    (∃ t, exec (.mfsr h r) s = .next t ∧ OnlyCore h.core s t ∧
      Becomes c t.cores[h.core] { c with g := c.g.set r (c.sr.setWidth 32), pc := pc, eiShadow := false }) ∧
    (∃ t, exec (.mtf h r) s = .next t ∧ OnlyCore h.core s t ∧ ∃ sr : BitVec 7,
      Becomes c t.cores[h.core] { c with sr := sr, pc := pc, eiShadow := false } ∧
      (∀ i < 4, sr.getLsbD i = c.g[r].getLsbD i) ∧ (∀ i, 4 ≤ i → sr.getLsbD i = c.sr.getLsbD i)) ∧
    (c.user = false →
      (∃ t, exec (.mtsr h r) s = .next t ∧ OnlyCore h.core s t ∧
        Becomes c t.cores[h.core] { c with sr := c.g[r].setWidth 7, pc := pc, eiShadow := false }) ∧
      (∃ t, exec (.halt h 0) s = .next t ∧ OnlyCore h.core s t ∧
        Becomes c t.cores[h.core] { c with pc := pc, halted := true, holdoff := false, eiShadow := false }) ∧
      (∃ t, exec (.ei h 0) s = .next t ∧ OnlyCore h.core s t ∧
        Becomes c t.cores[h.core] { c with sr := c.sr ||| 0x20, pc := pc, eiShadow := true }) ∧
      (∃ t, exec (.di h 0) s = .next t ∧ OnlyCore h.core s t ∧
        Becomes c t.cores[h.core] { c with sr := c.sr &&& 0x5F, pc := pc, eiShadow := false }) ∧
      (∃ t, exec (.rte h 0) s = .next t ∧ OnlyCore h.core s t ∧
        Becomes c t.cores[h.core] { c with
          sr := (getReg s (P.SYS_XSR h.core)).setWidth 7
          pc := getReg s (P.SYS_XPC h.core)
          eiShadow := false }))

/-- R260, R258, R259: The accumulator group. The dual-fetch MAC multiplies an element of X RAM and one of Y RAM, signed,
into the accumulator, and then advances each pointer within its 16 KiB; the flags stay. -/
def Obligations.AccumulatorInstructions : Prop :=
  (∀ (h : Hdr) (m : AccOp) (s : State),
     let c := s.cores[h.core]
     let a := c.ac[m.acc]
     let x := c.g[m.r1]
     let y := c.g[m.r2]
     (executes h 3 accNone s = true →
       (∃ t, exec (.macr h m) s = .next t ∧ WritesAc h 3 s t m.acc (BitVec.ofInt 72 (a.toInt + x.toInt * y.toInt))) ∧
       (∃ t, exec (.msur h m) s = .next t ∧ WritesAc h 3 s t m.acc (BitVec.ofInt 72 (a.toInt - x.toInt * y.toInt))) ∧
       (∃ t, exec (.mpyr h m) s = .next t ∧ WritesAc h 3 s t m.acc (BitVec.ofInt 72 (x.toInt * y.toInt))) ∧
       (∃ t, exec (.macru h m) s = .next t ∧ WritesAc h 3 s t m.acc (BitVec.ofNat 72 (a.toNat + x.toNat * y.toNat))) ∧
       (m.r1 = 0 → m.r2 = 0 → ∃ t, exec (.clra h m) s = .next t ∧ WritesAc h 3 s t m.acc 0) ∧
       (m.r2.val ≤ 2 →
         (∃ t, exec (.rda h m) s = .next t ∧
           WritesG h 3 s t m.r1 (BitVec.ofInt 32 (a.toInt.fdiv (2 ^ (32 * m.r2.val)))) c.fN c.fZ c.fC c.fV) ∧
         (∃ t, exec (.wra h m) s = .next t ∧ ∃ v : Acc72, WritesAc h 3 s t m.acc v ∧
           ∀ i < 72, v.getLsbD i = if i / 32 = m.r2.val then x.getLsbD (i % 32) else a.getLsbD i))) ∧
     (∀ sh : BitVec 8, executes h 4 accNone s = true → sh.toNat ≤ 40 → m.r2 = 0 →
       ∃ t, exec (.mva h m sh) s = .next t ∧
         let e := (a.toInt + if sh.toNat = 0 then 0 else 2 ^ (sh.toNat - 1)).fdiv (2 ^ sh.toNat)
         let r := BitVec.ofInt 32 (max (-2147483648) (min 2147483647 e))
         WritesG h 4 s t m.r1 r r.msb (decide (r = 0)) c.fC (overflows e))) ∧
  (∀ (h : Hdr) (m : MacOp) (s : State),
     let c := s.cores[h.core]
     let w := opWidth h.pfx
     let gx := c.g[m.x]
     let gy := c.g[m.y]
     let p := sext (s.readLe (ramKey h.core (0x7FFFFF0000 + gx.toNat % 16384)) w) (8 * w) *
       sext (s.readLe (ramKey h.core (0x7FFFFF8000 + gy.toNat % 16384)) w) (8 * w)
     let a := c.ac[m.acc].toInt
     executes h 3 accMac s = true → (m.x = m.y → m.ix = 0 ∧ m.iy = 0) → gx.toNat % w = 0 → gy.toNat % w = 0 →
     let Done (t : State) (v : Int) := OnlyAccess h.core s t ∧ t.mem = s.mem ∧ t.l2 = s.l2 ∧
       Becomes c t.cores[h.core] { c with
         g := (c.g.set m.x (macAdvance gx m.ix w)).set m.y (macAdvance gy m.iy w)
         ac := c.ac.set m.acc (BitVec.ofInt 72 v)
         pc := nextPc h 3 s
         eiShadow := false } ∧
       (macAdvance gx m.ix w).toNat / 16384 = gx.toNat / 16384 ∧
       (macAdvance gy m.iy w).toNat / 16384 = gy.toNat / 16384
     (∃ t, exec (.mac h m) s = .next t ∧ Done t (a + p)) ∧
     (∃ t, exec (.msu h m) s = .next t ∧ Done t (a - p)) ∧
     (∃ t, exec (.mpy h m) s = .next t ∧ Done t p))

/-- R251, R252: A load that its core may make, and that does not have to wait for a DRAM channel, answers gr with the bytes
at its address, extended as the instruction says, updates gb as the mode says, and leaves memory, flags and every other core
as they were. LDI answers gr with the bytes at the instruction-space address, which for a control core is the DRAM address,
and for an audio core lies in the resident area (R227); memory and flags stay. (A byte that nothing has written has no
stated value: the model leaves it free.) -/
def Obligations.LoadsOfBothSpaces : Prop :=
  (∀ (h : Hdr) (m : MemOp) (s : State),
     let c := s.cores[h.core]
     let w := opWidth h.pfx
     let a := memAddr h.pfx m c
     executes h (memLen m) accMem s = true → ioSpace h = false → memDefined false m = true →
     accessStop h.core false false a w s = none → AccessNow s a →
     ∃ n : Nat, Fetched h.core s a w n ∧
       (∃ t, exec (.ld h m) s = .next t ∧ OnlyAccess h.core s t ∧ t.mem = s.mem ∧
         AccessCore c t.cores[h.core] (nextPc h (memLen m) s) ∧ t.cores[h.core].sr = c.sr ∧
         LoadsG h m c t.cores[h.core] (BitVec.ofNat 32 n)) ∧
       (∃ t, exec (.lds h m) s = .next t ∧ OnlyAccess h.core s t ∧ t.mem = s.mem ∧
         AccessCore c t.cores[h.core] (nextPc h (memLen m) s) ∧ t.cores[h.core].sr = c.sr ∧
         LoadsG h m c t.cores[h.core] (BitVec.ofInt 32 (sext n (8 * w))))) ∧
  (∀ (h : Hdr) (m : MemOp) (s : State),
     let c := s.cores[h.core]
     let w := opWidth h.pfx
     let a := m.mode.addr c.g[m.b] w
     let da := instrToData h.core a.toNat
     executes h (memLen m) accLdi s = true → memDefined false m = true → a.toNat % w = 0 → s.fetchable h.core a = true →
     AccessNow s da →
     ∃ n t, exec (.ldi h m) s = .next t ∧ OnlyAccess h.core s t ∧ t.mem = s.mem ∧
       AccessCore c t.cores[h.core] (nextPc h (memLen m) s) ∧ t.cores[h.core].sr = c.sr ∧
       LoadsG h m c t.cores[h.core] (BitVec.ofNat 32 n) ∧
       (Tab.find c.icache (da / 64) = none → (8 ≤ h.core.val ∨ Tab.find s.l2 (da / 64) = none) → ReadAs s da w n))

/-- R230, R251, R252: a store that its core may make, and that does not have to wait for a DRAM channel: the w bytes at the
address become the low w bytes of gr, gr from before an update of gb, and every other register, the flags and the rest of
memory are as they were. In DRAM the bytes go into the L2's line, the other bytes of which are as they were, or as DRAM holds
them. -/
def Obligations.Stores : Prop :=
  ∀ (h : Hdr) (m : MemOp) (s : State),
    let c := s.cores[h.core]
    let w := opWidth h.pfx
    let a := memAddr h.pfx m c
    executes h (memLen m) accMem s = true → ioSpace h = false → accessStop h.core true false a w s = none →
    AccessNow s a →
    ∃ t, exec (.st h m) s = .next t ∧ OnlyAccess h.core s t ∧
      AccessCore c t.cores[h.core] (nextPc h (memLen m) s) ∧ t.cores[h.core].sr = c.sr ∧
      (∀ r : Reg, ¬(m.mode.updates ∧ r = m.b) → t.cores[h.core].g[r] = c.g[r]) ∧
      (m.mode.updates → t.cores[h.core].g[m.b] = m.mode.newBase c.g[m.b] w) ∧
      Landed h.core s t a w (c.g[m.r].toNat % 256 ^ w) false

/-- R252, R254: the read-modify-writes of the memory group, where they do not have to wait for a DRAM channel, read the
location, write what their row gives, answer gr with the old bytes, and leave the flags, but for CAS, which writes Z. With
the lock, which is for DRAM alone, the two accesses are one locked sequence and the store reaches DRAM (R232); where a
locked CAS finds another value it releases the channel with a write of the value that it found (the model's choice, log 18). -/
def Obligations.ReadModifyWrites : Prop :=
  ∀ (h : Hdr) (m : MemOp) (s : State),
    let c := s.cores[h.core]
    let w := opWidth h.pfx
    let a := memAddr h.pfx m c
    let lock := h.pfx.contains .lock
    let gr := c.g[m.r].toNat % 256 ^ w
    executes h (memLen m) accRmw s = true → memDefined false m = true → accessStop h.core true lock a w s = none →
    AccessNow s a →
    ∃ old, Fetched h.core s a w old ∧
    let Done (t : State) := OnlyAccess h.core s t ∧ AccessCore c t.cores[h.core] (nextPc h (memLen m) s) ∧
      LoadsG h m c t.cores[h.core] (BitVec.ofNat 32 old) ∧ SameMode c t.cores[h.core]
    (∃ t, exec (.xchg h m) s = .next t ∧ Done t ∧ SameFlags c t.cores[h.core] ∧ Landed h.core s t a w gr lock) ∧
    (∃ t, exec (.cas h m) s = .next t ∧ Done t ∧ t.cores[h.core].fZ = decide (old = gr) ∧
      t.cores[h.core].fN = c.fN ∧ t.cores[h.core].fC = c.fC ∧ t.cores[h.core].fV = c.fV ∧
      (old ≠ gr → (lock = false → t.mem = s.mem) ∧ (lock = true → Landed h.core s t a w old true)) ∧
      (old = gr → Landed h.core s t a w (c.g[regOf (m.r.val + 1)].toNat % 256 ^ w) lock)) ∧
    (∃ t, exec (.addm h m) s = .next t ∧ Done t ∧ SameFlags c t.cores[h.core] ∧
      Landed h.core s t a w ((old + gr) % 256 ^ w) lock) ∧
    (∃ t, exec (.andm h m) s = .next t ∧ Done t ∧ SameFlags c t.cores[h.core] ∧
      Landed h.core s t a w (old &&& gr) lock) ∧
    (∃ t, exec (.orm h m) s = .next t ∧ Done t ∧ SameFlags c t.cores[h.core] ∧
      Landed h.core s t a w (old ||| gr) lock) ∧
    (∃ t, exec (.xorm h m) s = .next t ∧ Done t ∧ SameFlags c t.cores[h.core] ∧
      Landed h.core s t a w (old ^^^ gr) lock)

/-- R230, R255: PUSH and POP of a register by the stack pointer g14, and PUSHM and POPM of a mask's registers, the
lowest-numbered register at the lowest address, wherever the stack lies, where their core may make the accesses and they do
not have to wait for a DRAM channel. -/
def Obligations.StackInstructions : Prop :=
  (∀ (h : Hdr) (r : Reg) (s : State),
    let c := s.cores[h.core]
    let sp := c.g[spReg]
    executes h 2 accStack s = true →
    (accessStop h.core true false (stackAddr h.pfx c (sp - 4)) 4 s = none → AccessNow s (stackAddr h.pfx c (sp - 4)) →
      ∃ t, exec (.push h r) s = .next t ∧ OnlyAccess h.core s t ∧
        Becomes c t.cores[h.core] { c with g := c.g.set spReg (sp - 4), pc := nextPc h 2 s, eiShadow := false } ∧
        Landed h.core s t (stackAddr h.pfx c (sp - 4)) 4 c.g[r].toNat false) ∧
    (r ≠ spReg → accessStop h.core false false (stackAddr h.pfx c sp) 4 s = none → AccessNow s (stackAddr h.pfx c sp) →
      ∃ n t, exec (.pop h r) s = .next t ∧ Fetched h.core s (stackAddr h.pfx c sp) 4 n ∧ OnlyAccess h.core s t ∧
        t.mem = s.mem ∧ AccessCore c t.cores[h.core] (nextPc h 2 s) ∧ t.cores[h.core].sr = c.sr ∧
        t.cores[h.core].g = (c.g.set r (BitVec.ofNat 32 n)).set spReg (sp + 4))) ∧
  (∀ (h : Hdr) (mask : BitVec 16) (s : State),
    let c := s.cores[h.core]
    let sp := c.g[spReg]
    let rs := maskRegs mask
    let low := sp - BitVec.ofNat 32 (4 * rs.length)
    executes h 4 accStack s = true → mask ≠ 0 →
    (multiStop h.core true h.pfx c s low rs.length = none →
      (∀ i < rs.length, AccessNow s (stackAddr h.pfx c (low + BitVec.ofNat 32 (4 * i)))) →
      ∃ t, exec (.pushm h 0 mask) s = .next t ∧ OnlyAccess h.core s t ∧
        Becomes c t.cores[h.core] { c with g := c.g.set spReg low, pc := nextPc h 4 s, eiShadow := false } ∧
        LandedWords h.core
          (rs.zipIdx.map (fun x => (stackAddr h.pfx c (low + BitVec.ofNat 32 (4 * x.2)), c.g[x.1]))) s t) ∧
    (mask.getLsbD 14 = false → multiStop h.core false h.pfx c s sp rs.length = none →
      (∀ i < rs.length, AccessNow s (stackAddr h.pfx c (sp + BitVec.ofNat 32 (4 * i)))) →
      ∃ t, exec (.popm h 0 mask) s = .next t ∧ OnlyAccess h.core s t ∧ t.mem = s.mem ∧
        AccessCore c t.cores[h.core] (nextPc h 4 s) ∧ t.cores[h.core].sr = c.sr ∧
        t.cores[h.core].g[spReg] = sp + BitVec.ofNat 32 (4 * rs.length) ∧
        (∀ r : Reg, r ≠ spReg → mask.getLsbD r.val = false → t.cores[h.core].g[r] = c.g[r]) ∧
        ∀ (i : Nat) (r : Reg), rs[i]? = some r →
          ∃ n, Fetched h.core s (stackAddr h.pfx c (sp + BitVec.ofNat 32 (4 * i))) 4 n ∧
            t.cores[h.core].g[r] = BitVec.ofNat 32 n))

/-- R7, R8, R12, R253: a 32-bit IN answers gr with what a read of the port gives, and zero where the register's domain is
off; an OUT writes gr, from before the update of gb, to the port, which finds the core past the instruction, and nothing is
written where the domain is off. The register-addressed forms, which LD, LDS and ST become under the I/O-space override, take
the port from gb and update gb besides as their mode says. At a port whose block gives its writes no further effect the OUT
completes with the fields written as R8 says (a code that a field's table does not list is stored as a listed one, the
model's choice, log 13); at any other port its write is the block's own. -/
def Obligations.InputOutput : Prop :=
  (∀ (h : Hdr) (f : IoForm) (s : State),
    let c := s.cores[h.core]
    let p := ioPort h c f
    let s1 := pmcEvent 2 h.core 1 s
    let base := ioBase h c f
    let past : Core := { base with pc := nextPc h (ioLen f) s, eiShadow := false }
    executes h (ioLen f) (ioAccepts f) s = true → opWidth h.pfx = 4 →
    (ioDefined false h f = true → ioStop h.core false p s = none →
      (s.portOn p = false → ∃ t, exec (.ioIn h f) s = .next t ∧ OnlyCore h.core s t ∧
        Becomes c t.cores[h.core] { past with g := base.g.set (ioReg f) 0 }) ∧
      (s.portOn p = true → ∃ t, exec (.ioIn h f) s = .next t ∧
        t = (busRead (.core h.core) p s1).2.setCore h.core t.cores[h.core] ∧
        Becomes c t.cores[h.core] { past with g := base.g.set (ioReg f) (busRead (.core h.core) p s1).1 })) ∧
    (ioDefined true h f = true → ioStop h.core true p s = none →
      (s.portOn p = false → ∃ t, exec (.ioOut h f) s = .next t ∧ OnlyCore h.core s t ∧ Becomes c t.cores[h.core] past) ∧
      (s.portOn p = true →
        exec (.ioOut h f) s = (busWrite (.core h.core) p c.g[ioReg f] (s1.setCore h.core past)).then (fun t =>
          afterInstruction h.core (agePort h.core c.privOut
            (if 8 < instrLen h (ioLen f) then ioClocks p + 1 else ioClocks p) t)) ∧
        ∀ r, plainPort p = true → specOf p = some r → c.g[ioReg f] &&& r.reserved = 0 →
          ∃ t, exec (.ioOut h f) s = .next t ∧ FieldsWritten s t p r c.g[ioReg f] ∧
            t = { s.edged t with regs := t.regs, cores := t.cores, pmc := t.pmc, free := t.free } ∧
            RegsBut s t (p :: settleKeys) ∧ (∀ j : CoreId, j ≠ h.core → t.cores[j] = s.cores[j]) ∧
            Becomes c t.cores[h.core] past))) ∧
  (∀ (h : Hdr) (m : MemOp) (s : State), ioSpace h = true →
    exec (.ld h m) s = exec (.ioIn h (.addr m)) s ∧ exec (.lds h m) s = exec (.ioIn h (.addr m)) s ∧
    exec (.st h m) s = exec (.ioOut h (.addr m)) s ∧
    (m.mode.updates = true → (memUpdate h.pfx m s.cores[h.core]).g =
      s.cores[h.core].g.set m.b (m.mode.newBase s.cores[h.core].g[m.b] (opWidth h.pfx))) ∧
    (m.mode.updates = false → memUpdate h.pfx m s.cores[h.core] = s.cores[h.core]))

/-- R234, R235, R226, R243, R245, R500: Exception entry saves the return address, SR and the cause, loads SYS_XADDR
where the exception gives an address, enters supervisor mode with interrupts off and SR.ex set, and goes on at the
vector; a core whose SR.ex is 1 stops instead and raises tilt with its number (that its run reads 0 then is the model's
choice, log 141). BRK, taken without a debugger, is exception 4 with the address after it, and under one halts in debug.
Where an instruction faults, for every instruction: one whose prefixes break R245, whose condition is the undefined one or
whose encoding has an undefined field takes the illegal exception even when its condition fails, and bytes that spell no
instruction take it as well; one of well-formed bytes that lie beyond the fetch mapping takes the access exception with the
first of those addresses; one whose condition fails has no effect but the PC. A privileged one in user mode, an IN or OUT
that the core may not make, and a misaligned or unmapped load or store take theirs, with the instruction's address in
SYS_XPC. -/
def Obligations.ExceptionsAndFaults : Prop :=
  ((∀ (k : CoreId) (e : Exn) (pc : Word) (xa : Option Nat) (s : State), s.cores[k].ex = false →
     let c := s.cores[k]
     let t := takeException k e pc xa s
     t = { s with regs := t.regs, cores := t.cores, pmc := t.pmc } ∧
     getReg t (P.SYS_XPC k) = pc ∧ getReg t (P.SYS_XSR k) = c.sr.setWidth 32 ∧
     getReg t (P.SYS_XCAUSE k) = BitVec.ofNat 32 e.num ∧
     (xa = none ∨ e = .illegal ∨ e = .privilege ∨ e = .interrupt → getReg t (P.SYS_XADDR_LO k) = getReg s (P.SYS_XADDR_LO k) ∧
       getReg t (P.SYS_XADDR_HI k) = getReg s (P.SYS_XADDR_HI k)) ∧
     (∀ a, xa = some a → (e = .access ∨ e = .alignment ∨ e = .breakpoint) → getReg t (P.SYS_XADDR_LO k) = BitVec.ofNat 32 a ∧
       getReg t (P.SYS_XADDR_HI k) = BitVec.ofNat 32 (a / 0x100000000 % 256)) ∧
     Becomes c t.cores[k] { c with
       sr := (c.sr &&& 0x0F) ||| 0x40
       pc := (getReg s (P.SYS_VBASE k) &&& 0xFFFFFF00) + BitVec.ofNat 32 (32 * e.num)
       halted := false
       eiShadow := false } ∧
     (∀ j : CoreId, j ≠ k → t.cores[j] = s.cores[j]) ∧
     RegsBut s t [P.SYS_XPC k, P.SYS_XSR k, P.SYS_XCAUSE k, P.SYS_XADDR_LO k, P.SYS_XADDR_HI k]) ∧
   (∀ (k : CoreId) (e : Exn) (pc : Word) (xa : Option Nat) (s : State), s.cores[k].ex = true →
     ∃ u : State, u = { s with pmc := u.pmc, free := u.free } ∧ takeException k e pc xa s = raiseTilt (0x0300 + k.val)
       (u.setCore k { s.cores[k] with run := false, eiShadow := false, stepping := false })) ∧
   (∀ (h : Hdr) (s : State), executes h 2 accNone s = true →
     let c := s.cores[h.core]
     (c.attached = false → c.ex = false → ∃ t, exec (.brk h 0) s = .next t ∧
       Excepted h.core .breakpoint (nextPc h 2 s) none s t) ∧
     (c.attached = true → ∃ t, exec (.brk h 0) s = .next t ∧ OnlyCore h.core s t ∧
       Becomes c t.cores[h.core] { c with pc := nextPc h 2 s, inDebug := true, eiShadow := false }))) ∧
  ((∀ (i : Instr) (h : Hdr) (len : Nat) (a : Accepts) (whole : Bool) (s : State), isaForm i = some (h, len, a, whole) →
     let c := s.cores[h.core]
     let good := whole && prefixesOk a h.pfx && h.cond != 15
     s.issues h.core = true → c.breaks.contains (some c.pc) = false → c.stepping = false → c.watchHit = none →
     c.ex = false →
     (good = false → exec i s = .next (takeException h.core .illegal c.pc none s)) ∧
     (∀ bad, good = true → s.fetchFault h.core c.pc (instrLen h len) = some bad →
       exec i s = .next (takeException h.core .access c.pc (some bad.toNat) s)) ∧
     (good = true → s.fetchFault h.core c.pc (instrLen h len) = none → condHolds h.cond c = false →
       ∃ t, exec i s = .next t ∧ GoesTo h s t (nextPc h len s))) ∧
   (∀ (k : CoreId) (s : State), s.issues k = true → s.cores[k].breaks.contains (some s.cores[k].pc) = false →
     s.cores[k].stepping = false → s.cores[k].watchHit = none → s.cores[k].ex = false →
     execUndefined k s = .next (takeException k .illegal s.cores[k].pc none s)) ∧
   (∀ (h : Hdr) (r : Reg) (i : Instr) (s : State), executes h 2 accNone s = true → s.cores[h.core].ex = false →
     s.cores[h.core].user = true → i ∈ [Instr.rte h 0, .halt h 0, .mtsr h r, .ei h 0, .di h 0] →
     ∃ t, exec i s = .next t ∧ Excepted h.core .privilege s.cores[h.core].pc none s t) ∧
   (∀ (h : Hdr) (m : MemOp) (s : State) (e : Exn),
     let c := s.cores[h.core]
     let a := memAddr h.pfx m c
     executes h (memLen m) accMem s = true → ioSpace h = false → c.ex = false →
     (∀ i ∈ [Instr.ld h m, .lds h m], memDefined false m = true →
       accessStop h.core false false a (opWidth h.pfx) s = some (.exn e) →
       ∃ t, exec i s = .next t ∧ Excepted h.core e c.pc (some a) s t) ∧
     (accessStop h.core true false a (opWidth h.pfx) s = some (.exn e) →
       ∃ t, exec (.st h m) s = .next t ∧ Excepted h.core e c.pc (some a) s t)) ∧
   (∀ (h : Hdr) (f : IoForm) (s : State) (e : Exn),
     let c := s.cores[h.core]
     executes h (ioLen f) (ioAccepts f) s = true → c.ex = false →
     (ioDefined false h f = true → ioStop h.core false (ioPort h c f) s = some e →
       ∃ t, exec (.ioIn h f) s = .next t ∧ Excepted h.core e c.pc (some (ioPort h c f)) s t) ∧
     (ioDefined true h f = true → ioStop h.core true (ioPort h c f) s = some e →
       ∃ t, exec (.ioOut h f) s = .next t ∧ Excepted h.core e c.pc (some (ioPort h c f)) s t)))

/-! ## The Ivros cores (chapter 11) -/

/-- R237, R239, R240, R496, R498: Writes to SYS_CORE_CTRL, but while start-up stands stopped (R358). run 1 starts a core in
its reset state at SYS_CORE_ENTRY and lets a stopped one go on; run 0 stops it and keeps its state; reset 1 returns it to the
state of R237 and then applies run. (That a core reset keeps the private port's value, ugpio and the holdoff is the model's
choice, log 7.) With PD39 on, the debug port halts, steps and resumes a core, sets its breakpoints and watchpoints, and, while
the core is halted in debug, reads and writes its registers, and nothing but the core changes; it reads a port, an unassigned
or an own one as zero. (That attaching and detaching are operations of their own, and that a detach ends a halt, is the
model's choice, log 26. Counters of clocks take the count that they have come to, which the model leaves free, before a
core's clock counting changes.) -/
def Obligations.CoreControlAndDebug : Prop :=
  (∀ (m : Master) (k : CoreId) (ugpio : Bool) (s : State), s.reaches m true (P.SYS_CORE_CTRL k) = true →
     bootStage s ≠ 7 →
     let c := s.cores[k]
     let Sets (t : State) (c' : Core) := t = { s.setCore k c' with pmc := t.pmc, free := t.free }
     (∃ t, exec (.coreRun m k ugpio) s = .next t ∧
       (c.run = true → Sets t { c with ugpio := ugpio }) ∧
       (c.run = false → c.fresh = false → Sets t { c with ugpio := ugpio, run := true }) ∧
       (c.run = false → c.fresh = true → Sets t { c with
         ugpio := ugpio
         run := true
         fresh := false
         pc := getReg s (P.SYS_CORE_ENTRY k) })) ∧
     (∃ t, exec (.coreStop m k ugpio) s = .next t ∧ Sets t { c with ugpio := ugpio, run := false }) ∧
     (∀ run : Bool, ∃ t, exec (.coreReset m k run ugpio) s = .next t ∧
       t = { s with cores := t.cores, mem := t.mem, free := t.free, pmc := t.pmc } ∧
       (∀ j : CoreId, j ≠ k → t.cores[j] = s.cores[j]) ∧
       (∀ r : Reg, t.cores[k].g[r] = 0) ∧ (∀ a : Fin 4, t.cores[k].ac[a] = 0) ∧ t.cores[k].sr = 0 ∧
       t.cores[k].icache = [] ∧ t.cores[k].dcache = [] ∧ t.cores[k].halted = false ∧
       t.cores[k].run = run ∧ t.cores[k].fresh = !run ∧ t.cores[k].ugpio = ugpio ∧
       t.cores[k].privOut = c.privOut ∧ t.cores[k].holdoff = c.holdoff ∧
       (run = true → t.cores[k].pc = getReg s (P.SYS_CORE_ENTRY k)) ∧
       (∀ a, Tab.find t.mem (ramKey k a) = none ∨ 0x10000000000 ≤ a) ∧
       (∀ key, (key < ramKey k 0 ∨ ramKey (k.val + 1) 0 ≤ key) → Tab.find t.mem key = Tab.find s.mem key))) ∧
  (∀ (k : CoreId) (p : BitVec 24) (s : State), s.powered 39 = true →
     (isOwn p.toNat = true ∨ s.portOn p.toNat = false →
       exec (.debugHalt k (.readPort p)) s = .next { s with rdata := 0 }) ∧
     (isOwn p.toNat = false → s.portOn p.toNat = true → exec (.debugHalt k (.readPort p)) s =
       .next { (busRead .debug p.toNat s).2 with rdata := (busRead .debug p.toNat s).1 })) ∧
  (∀ (k : CoreId) (o : DebugOp) (s : State), s.powered 39 = true → (∀ p, o ≠ .readPort p) →
     let c := s.cores[k]
     ∃ t, exec (.debugHalt k o) s = .next t ∧ t = { s.setCore k t.cores[k] with rdata := t.rdata } ∧
       (c.inDebug = true → (∀ r, o = .readG r → t.rdata = c.g[r]) ∧ (o = .readSr → t.rdata = c.sr.setWidth 32) ∧
         (o = .readPc → t.rdata = c.pc) ∧
         (∀ a part, o = .readAc a part → t.rdata = accPart c.ac[a] part.val)) ∧
       (o = .attach → t.cores[k] = { c with attached := true }) ∧
       (o = .detach → t.cores[k] = { c with attached := false, inDebug := false }) ∧
       (o = .halt → c.run = true → t.cores[k] = { c with inDebug := true }) ∧
       (o = .step → c.inDebug = true → t.cores[k] = { c with inDebug := false, stepping := true }) ∧
       (o = .resume → t.cores[k] = { c with inDebug := false, stepping := false }) ∧
       (∀ i a, o = .setBreak i a → t.cores[k] = { c with breaks := c.breaks.set i a }) ∧
       (∀ i a, o = .setWatch i a → t.cores[k] = { c with watches := c.watches.set i a }) ∧
       (∀ r v, o = .writeG r v → c.inDebug = true → t.cores[k] = { c with g := c.g.set r v }) ∧
       (∀ a v, o = .writeAc a v → c.inDebug = true → t.cores[k] = { c with ac := c.ac.set a v }) ∧
       (∀ v, o = .writeSr v → c.inDebug = true → t.cores[k] = { c with sr := v }) ∧
       (∀ v, o = .writePc v → c.inDebug = true → t.cores[k] = { c with pc := v }) ∧
       (c.inDebug = false → (∃ r v, o = .writeG r v) ∨ (∃ a v, o = .writeAc a v) ∨ (∃ v, o = .writeSr v) ∨
         (∃ v, o = .writePc v) → t = s))

/-- R42, R230, R233, R238, R277: An operation started in a core's cache engine while it is not busy. Clean issues the dirty
lines of the range as writes of requester 8 and keeps every line as clean; invalidate drops the lines of the range from the L2
and from every D-cache; op 0x4 drops the core's whole I-cache; busy is set. (That the walk is whole at its start is the
model's choice, log 28; R233 gives a line a clock.) Once every write of the operation has been granted, busy clears and
private source 18 rises. A dirty line that the L2 replaces leaves it and waits as a write of requester 8, whose port takes it.
An OUT to the private GPIO port changes the issuing core's port value, and nothing else but the latches of the edges that its
pads make: PIN_PRIV_OUT sets the group's value, PIN_PRIV_SET sets and PIN_PRIV_CLR clears the bits written 1. In user mode
SYS_CORE_CTRL.ugpio admits it. -/
def Obligations.CachesAndPrivatePins : Prop :=
  ((∀ (m : Master) (k : CoreId) (s : State), s.reaches m true (P.SYS_CMO_CTRL k) = true →
     onF s (P.SYS_CMO_CTRL k) F.SYS_CMO_CTRL_busy = false →
     let inRange (line : Nat) := cmoFirst k s ≤ line ∧ line < cmoFirst k s + cmoLines k s
     let Started (t : State) (op : Nat) := getF t (P.SYS_CMO_CTRL k) F.SYS_CMO_CTRL_op = op ∧
       onF t (P.SYS_CMO_CTRL k) F.SYS_CMO_CTRL_busy = true
     let dirty := dirtyIn (cmoFirst k s) (cmoLines k s) s
     let Writes (t : State) := (requester t 8).waiting = (requester s 8).waiting ++ cleanRequests k dirty s ∧
       RegsBut s t [P.SYS_CMO_CTRL k, P.MEM_RANK 8] ∧ t.mem = s.mem ∧
       getF t (P.SYS_CMO_CTRL k) F.SYS_CMO_CTRL_dirty = min dirty.length 0x7FFF
     (∃ t, exec (.cmoClean m k) s = .next t ∧ Started t 1 ∧ Writes t ∧
       t = { s with regs := t.regs, l2 := t.l2, mc := t.mc } ∧
       (∀ line l, Tab.find s.l2 line = some l → inRange line → Tab.find t.l2 line = some { l with dirty := false }) ∧
       (∀ line, ¬ inRange line → Tab.find t.l2 line = Tab.find s.l2 line)) ∧
     (∃ t, exec (.cmoInvalidate m k) s = .next t ∧ Started t 2 ∧ RegsBut s t [P.SYS_CMO_CTRL k] ∧
       t = { s with regs := t.regs, mem := t.mem, l2 := t.l2, cores := t.cores, free := t.free } ∧
       (∀ line, inRange line → Tab.find t.l2 line = none) ∧
       (∀ line, ¬ inRange line → Tab.find t.l2 line = Tab.find s.l2 line) ∧
       (∀ (j : CoreId) line, inRange line → Tab.find t.cores[j].dcache line = none) ∧
       (∀ (j : CoreId) line, ¬ inRange line → Tab.find t.cores[j].dcache line = Tab.find s.cores[j].dcache line)) ∧
     (∃ t, exec (.cmoCleanInvalidate m k) s = .next t ∧ Started t 3 ∧ Writes t ∧
       (∀ line, inRange line → Tab.find t.l2 line = none) ∧
       (∀ line, ¬ inRange line → Tab.find t.l2 line = Tab.find s.l2 line)) ∧
     (∃ t, exec (.iCacheInvalidate m k) s = .next t ∧ Started t 4 ∧ RegsBut s t [P.SYS_CMO_CTRL k] ∧
       t = { s.setCore k { s.cores[k] with icache := [] } with regs := t.regs })) ∧
   (∀ (k : CoreId) (s : State), onF s (P.SYS_CMO_CTRL k) F.SYS_CMO_CTRL_busy = true → s.powered 11 = true →
     (∀ r ∈ (requester s 8).waiting, r.tag ≠ k.val + 1) →
     ∃ t, exec (.cacheOperationDone k) s = .next t ∧ onF t (P.SYS_CMO_CTRL k) F.SYS_CMO_CTRL_busy = false ∧
       pendBit t (srcKey k 18) = true ∧
       OnlyRegs s t [P.SYS_CMO_CTRL k, arrayKey (P.INT_PEND_SET 0) (srcKey k 18)]) ∧
   (∀ (line : Nat) (l : L2Line) (s : State), Tab.find s.l2 line = some l → l.dirty = true → portTakes 8 false s = true →
     ∃ t r, exec (.l2WriteBack line) s = .next t ∧ t = { s with regs := t.regs, mc := t.mc, l2 := t.l2 } ∧
       RegsBut s t [P.MEM_RANK 8, P.MEM_SR_STAT] ∧
       Tab.find t.l2 line = none ∧ (∀ j, j ≠ line → Tab.find t.l2 j = Tab.find s.l2 j) ∧
       (requester t 8).waiting = (requester s 8).waiting ++ [r] ∧ r.addr = 64 * line ∧ r.data = some l.data)) ∧
  (∀ (k : CoreId) (g : Fin 4) (v : Word) (s : State),
     (s.cores[k].user = false ∨ s.cores[k].ugpio = true) → s.powered 11 = true →
     let c := s.cores[k]
     let Drives (t : State) (w : Word) :=
       t = { s.edged t with cores := t.cores } ∧ (∀ j : CoreId, j ≠ k → t.cores[j] = s.cores[j]) ∧
       t.cores[k] = { c with privOut := c.privOut.set g w, privPast := t.cores[k].privPast } ∧
       ((∀ e ∈ c.privPast, 0 < e.1) → t.cores[k].portAt 0 = c.privOut.set g w ∧ t.cores[k].portAt 1 = c.privOut)
     (∃ t, exec (.pinPrivOut k g v) s = .next t ∧ Drives t v) ∧
     (∃ t, exec (.pinPrivSet k g v) s = .next t ∧ ∃ w : Word, Drives t w ∧
       ∀ i, w.getLsbD i = (c.privOut[g].getLsbD i || v.getLsbD i)) ∧
     (∃ t, exec (.pinPrivClr k g v) s = .next t ∧ ∃ w : Word, Drives t w ∧
       ∀ i, w.getLsbD i = (c.privOut[g].getLsbD i && !v.getLsbD i)))

/-! ## The interrupt controller (chapter 13) -/

/-- R42, R229, R235, R236, R246: between instructions a core that takes interrupts takes a presented one as exception 5, with the
address of the next instruction in SYS_XPC; a core in HALT resumes when a request is presented, and takes it when SR.ie is 1.
In its turn a core that neither wakes nor is interrupted executes the instruction that the bytes at its PC spell, raises the
illegal exception where they spell none, and waits while a line of them has not been fetched, the request for which is
parked; bytes outside its mapping it does not fetch, and a locked sequence that stands open is not interrupted. -/
def Obligations.InterruptTaking : Prop :=
  (∀ (k : CoreId) (s : State), wakes s k = false → interrupted s k = false →
    (fetchRoom k s longest s.cores[k].pc = 0 → coreTurn k s = fetchShort k 0 s) ∧
    ∀ n, fetchRoom k s longest s.cores[k].pc = n → 0 < n →
      (∀ w, fetchSpell k n s = .error w → coreTurn k s = .next (park w s)) ∧
      (∀ i t, fetchSpell k n s = .ok (.done i, t) → coreTurn k s = exec i t) ∧
      (∀ t, fetchSpell k n s = .ok (.bad, t) → coreTurn k s = execUndefined k t) ∧
      ∀ t, fetchSpell k n s = .ok (.short, t) → coreTurn k s = fetchShort k n t) ∧
  (∀ (k : CoreId) (s : State), lockWaits k s = true → wakes s k = false → coreTurn k s = fetchRun k s) ∧
  ∀ (k : CoreId) (s : State), (presented s k).isSome = true → s.cores[k].ex = false →
    let c := s.cores[k]
    let vector := (getReg s (P.SYS_VBASE k) &&& 0xFFFFFF00) + 160
    (s.issues k = true → c.ie = true → c.eiShadow = false →
      ∃ t, exec (.interruptEntry k) s = .next t ∧ getReg t (P.SYS_XPC k) = c.pc ∧
        getReg t (P.SYS_XSR k) = c.sr.setWidth 32 ∧ getReg t (P.SYS_XCAUSE k) = 5 ∧
        Becomes c t.cores[k] { c with sr := (c.sr &&& 0x0F) ||| 0x40, pc := vector, halted := false, eiShadow := false } ∧
        RegsBut s t [P.SYS_XPC k, P.SYS_XSR k, P.SYS_XCAUSE k]) ∧
    (c.halted = true → c.run = true → c.inDebug = false → s.cpuClock = true →
      (c.ie = false → ∃ t, exec (.haltWake k) s = .next t ∧
        t = { s.setCore k { c with halted := false, privPast := [] } with pmc := t.pmc, free := t.free }) ∧
      (c.ie = true → ∃ t, exec (.haltWake k) s = .next t ∧ getReg t (P.SYS_XPC k) = c.pc ∧
        getReg t (P.SYS_XCAUSE k) = 5 ∧
        t.cores[k] = { c with sr := (c.sr &&& 0x0F) ||| 0x40, pc := vector, halted := false, eiShadow := false,
                              privPast := [] }))

/-- R268, R269, R275, R264, R270, R274, R277, R278: A claim by core k of the source that the controller presents clears
its pending bit, sets its active bit and records its priority, which becomes the running priority P; a claim with
nothing presented returns none and changes nothing. A completion by the core that claimed the source clears its active
bit and takes it out of P, and begins the core's holdoff for a moderated source; one that names any other source sets
INT_STAT.bad_complete and changes nothing else. What sets and clears pending bits. Ones written to INT_PEND_SET set
those bits of the word, but for level sources whose line is high, which the line itself holds pending, and ones written
to INT_PEND_CLR clear them; a doorbell sets the named core's private source, and one to a core 10 to 15 stops; a rising
line sets an edge source's bit, and a fallen one clears a level source's; a PD0 latch catches a qualifying edge of an async
source that can come from outside, at a pin an event that wakes from Eclipse as well (R449), and hands it over once the CPU
clock runs in PD11. A holdoff ends. -/
def Obligations.ClaimsAndCompletions : Prop :=
  (∀ (k : CoreId) (s : State), s.reaches (.core k) false P.INT_CLAIM = true →
     (presented s k = none → ∃ t, exec (.intClaim k) s = .next t ∧ t = { s with rdata := 0x80000000 }) ∧
     (∀ key prio, presented s k = some (key, prio) →
       ∃ t, exec (.intClaim k) s = .next t ∧
         prio = srcPrio s key ∧ eligible s k key = true ∧ runPrio s k < prio ∧
         (t.rdata.toNat % 512 = keySrc key ∧ t.rdata.toNat / 4096 = prio) ∧
         pendBit t key = false ∧ activeBit t key = true ∧ claimedBy t k key = true ∧ runPrio t k = prio ∧
         (∀ j : CoreId, j ≠ k → runPrio t j = runPrio s j) ∧
         t = { s with regs := t.regs, irq := t.irq, rdata := t.rdata } ∧
         RegsBut s t [arrayKey (P.INT_PEND_SET 0) key, arrayKey (P.INT_ACTIVE 0) key])) ∧
  (∀ (k : CoreId) (n : Fin 512) (s : State), s.reaches (.core k) true P.INT_COMPLETE = true →
     let key := srcKey k n
     (claimedBy s k key = true →
       ∃ t, exec (.intComplete k n) s = .next t ∧ activeBit t key = false ∧ claimedBy t k key = false ∧
         runPrio t k ≤ runPrio s k ∧ (∀ j : CoreId, j ≠ k → runPrio t j = runPrio s j) ∧
         (∀ j : CoreId, j ≠ k → t.cores[j] = s.cores[j]) ∧
         (t.cores[k].holdoff = (s.cores[k].holdoff ||
           (srcModerate s key && decide (getF s (own k P.INT_MOD) F.INT_MOD_interval ≠ 0)))) ∧
         RegsBut s t [arrayKey (P.INT_ACTIVE 0) key]) ∧
     (claimedBy s k key = false →
       ∃ t, exec (.intComplete k n) s = .next t ∧ onF t (own k P.INT_STAT) F.INT_STAT_bad_complete = true ∧
         OnlyRegs s t [own k P.INT_STAT])) ∧
  ((∀ (m : Master) (w : Fin 16) (v : Word) (s : State),
     (s.reaches m true (P.INT_PEND_SET w) = true → ∃ t, exec (.intPendSet m w v) s = .next t ∧
       OnlyRegs s t [regKey m (P.INT_PEND_SET w)] ∧
       getReg t (regKey m (P.INT_PEND_SET w)) = (getReg s (regKey m (P.INT_PEND_SET w)) ||| (v &&& ~~~lineWord m w s))) ∧
     (s.reaches m true (P.INT_PEND_CLR w) = true → ∃ t, exec (.intPendClr m w v) s = .next t ∧
       OnlyRegs s t [regKey m (P.INT_PEND_SET w)] ∧
       getReg t (regKey m (P.INT_PEND_SET w)) = (getReg s (regKey m (P.INT_PEND_SET w)) &&& ~~~v))) ∧
   (∀ (m : Master) (bell c : Fin 16) (s : State), s.reaches m true P.INT_DOORBELL = true → s.powered 11 = true →
     (c.val < 10 → ∃ t, exec (.doorbell m bell c) s = .next t ∧ pendBit t (srcKey c bell) = true ∧
       OnlyRegs s t [arrayKey (P.INT_PEND_SET 0) (srcKey c bell)]) ∧
     (10 ≤ c.val → exec (.doorbell m bell c) s = .fault .targetCore)) ∧
   (∀ (k : CoreId) (n : Fin 512) (high : Bool) (s : State), hasLine k n = true → asyncSource n = true →
     Tab.get s.irq.lines false n ≠ high → edgeComes n s = true → edgeQualifies n high s = true →
     ∃ t, exec (.interruptLine k n high) s = .next t ∧ Tab.get t.irq.latches false n = true ∧
       Tab.get t.irq.lines false n = high ∧ t = { s.edged t with irq := t.irq }) ∧
   (∀ (k : CoreId) (n : Fin 512) (s : State), s.powered 11 = true → hasLine k n = true → asyncSource n = false →
     let key := srcKey k n
     (edgeSource n = true → Tab.get s.irq.lines false key = false →
       ∃ t, exec (.interruptLine k n true) s = .next t ∧ pendBit t key = true ∧ Tab.get t.irq.lines false key = true ∧
         t = { s with regs := t.regs, irq := { s.irq with lines := t.irq.lines } } ∧
         RegsBut s t [arrayKey (P.INT_PEND_SET 0) key]) ∧
     (edgeSource n = false →
       (∃ t, exec (.interruptLine k n true) s = .next t ∧ srcPending t key = true ∧ t.regs = s.regs) ∧
       (unitLine s (keySrc key) = false → Tab.get s.irq.lines false key = true →
         ∃ t, exec (.interruptLine k n false) s = .next t ∧ srcPending t key = false ∧
           RegsBut s t [arrayKey (P.INT_PEND_SET 0) key]))) ∧
   (∀ (k : CoreId) (s : State), ∃ t, exec (.holdoffEnd k) s = .next t ∧
     t = s.setCore k { s.cores[k] with holdoff := false }) ∧
   (∀ (n : Fin 512) (rising : Bool) (s : State), asyncSource n = true → edgeQualifies n rising s = true →
     edgeComes n s = true →
     ∃ t, exec (.edgeLatch n rising) s = .next t ∧ Tab.get t.irq.latches false n = true ∧ t = s.edged t ∧
       (128 ≤ n.val → s.pwr.mode = .eclipse → onF s P.PWR_WAKE_EN F.PWR_WAKE_EN_wake_gpio = true → s.pwr.wakeDue = none →
         t.pwr.wakeDue = some 3) ∧
       ∀ j, j ≠ n.val → Tab.get t.irq.latches false j = Tab.get s.irq.latches false j) ∧
   (∀ (n : Fin 512) (s : State), Tab.get s.irq.latches false n = true → s.powered 11 = true → s.cpuClock = true →
     ∃ t, exec (.edgeDelivery n) s = .next t ∧ pendBit t n = true ∧ Tab.get t.irq.latches false n = false ∧
       RegsBut s t [arrayKey (P.INT_PEND_SET 0) n]))

/-! ## Faults, tilt and self-test (chapter 23) -/

/-- R468, R473, R469: The tilt latch. Outside device reset, with no tilt standing, requests that arrive together capture
the lowest code, which SYS_TILT and SYS_TILT_LAST show, with the RTC of the capture; while tilt stands a request changes
nothing but SYS_TILT_CNT; in device reset it is ignored. When tilt is captured, no sequencer holds a band or runs,
Kettle is to stop at its next period and its run bit is 0, and no core's port holds an unread outcome word. -/
def Obligations.TiltLatchAndUnits : Prop :=
  ((∀ (codes : List (BitVec 16)) (c : BitVec 16) (s : State),
     c ∈ codes → tiltCodeOk c.toNat = true → (∀ x ∈ codes, tiltCodeOk x.toNat = true → c.toNat ≤ x.toNat) →
     (s.pwr.inReset = true → exec (.tilt codes) s = .next s) ∧
     (s.pwr.inReset = false → s.tilt.code = none →
       ∃ t, exec (.tilt codes) s = .next t ∧ t.tilt.code = some c.toNat ∧
         onF t P.SYS_TILT F.SYS_TILT_tilted = true ∧ getF t P.SYS_TILT_LAST F.SYS_TILT_LAST_code = c.toNat ∧
         getReg t P.SYS_TILT_TIME_LO = s.pwr.rtc.setWidth 32 ∧
         getReg t P.SYS_TILT_TIME_HI = (s.pwr.rtc >>> 32).setWidth 32) ∧
     (s.pwr.inReset = false → s.tilt.code.isSome = true →
       ∃ t, exec (.tilt codes) s = .next t ∧ OnlyRegs s t [P.SYS_TILT_CNT] ∧
         getF t P.SYS_TILT_CNT F.SYS_TILT_CNT_later =
           min (getF s P.SYS_TILT_CNT F.SYS_TILT_CNT_later +
             (codes.filter (fun x => tiltCodeOk x.toNat)).length) 65535))) ∧
  (∀ (code : Nat) (s : State), s.pwr.inReset = false → s.tilt.code = none →
     let t := raiseTilt code s
     (∀ d : Fin 4, onF t (P.EPH_STAT d) F.EPH_STAT_running = false ∧ onF t (P.EPH_CTRL d) F.EPH_CTRL_run = false ∧
       t.clu[d].taken = [] ∧ t.clu[d].record = none ∧ t.clu[d].fetch = none ∧ t.clu[d].compose = none ∧
       t.clu[d].send = none) ∧
     (onF s P.KTL_STAT F.KTL_STAT_running = true → t.ktl.stopping = true ∧
       onF t P.KTL_CTRL F.KTL_CTRL_run = false) ∧
     (∀ k : Fin 8, t.sec.unread[k] = 0 ∧ onF t (own k P.SEC_DRBG_PSTAT) F.SEC_DRBG_PSTAT_ready = false) ∧
     t.pending = s.pending ∧ t.mem = s.mem ∧ t.cores = s.cores)

/-- R474: a core's write of a cause to SYS_TILT_REQ in supervisor mode raises tilt 0x02cc, a cause of 0 changes nothing,
and in user mode the write raises the privilege exception. (R474 speaks of the cores; that a write of the debug port acts
as theirs does is the model's reading, log 108.) -/
def Obligations.TiltRequests : Prop :=
  (∀ (m : Master) (cause : BitVec 8) (s : State), s.reaches m true P.SYS_TILT_REQ = true →
    (cause = 0 → exec (.sysTiltReq m cause) s = .next s) ∧
    (cause ≠ 0 → exec (.sysTiltReq m cause) s = exec (.tilt [0x0200 + cause.setWidth 16]) s ∧
      ∃ t, exec (.sysTiltReq m cause) s = .next t ∧ t.mem = s.mem ∧ t.cores = s.cores ∧ t.pending = s.pending ∧
        (s.pwr.inReset = false → s.tilt.code = none → t.tilt.code = some (0x0200 + cause.toNat))))
  ∧
  (∀ (k : CoreId) (cause : BitVec 8) (s : State), s.cores[k].user = true → s.issues k = true →
    exec (.sysTiltReq (.core k) cause) s =
      .next (takeException k .privilege s.cores[k].pc (some P.SYS_TILT_REQ) s))

/-- R475, R476, R477: A 1 written to SYS_LST_REQ stands until the lowest requested group that is idle and powered is
taken; the group is then at reset and behaves as if it were off; when its test ends it is at reset and on again, and a
good signature sets its done bit. The memory self-tests start with a 1 written to their bit of SYS_MBIST_CTRL, which
clears when they end. The MRAM test retires the free spare rows that failed, by writes of their directories, and none in a
sealed store (R394). The DRAM test, whose traffic the idle arbiters grant, records the first page that differs, and no byte
outside the marked range changes. -/
def Obligations.SelfTests : Prop :=
  ((∀ (m : Master) (v : BitVec 16) (s : State), s.reaches m true P.SYS_LST_REQ = true →
     ∃ t, exec (.selfTestRequest m v) s = .next t ∧ OnlyRegs s t [P.SYS_LST_REQ] ∧
       getReg t P.SYS_LST_REQ = (getReg s P.SYS_LST_REQ ||| v.setWidth 32)) ∧
   (∀ (g : Nat) (s : State), g < 16 → s.powered 2 = true → s.cpuClock = true → s.pwr.testing = 0 → testReady s g = true →
     (∀ j < g, testReady s j = false) →
     ∃ t, exec .selfTestStart s = .next t ∧ getF t P.SYS_LST_STAT F.SYS_LST_STAT_running = g ∧
       (getReg t P.SYS_LST_REQ).getLsbD g = false ∧ (∀ d ∈ testDomains g, t.powered d = false) ∧
       ∀ d, d ∉ testDomains g → t.powered d = s.powered d) ∧
   (∀ (g : Nat) (s : State), g < 16 → getF s P.SYS_LST_STAT F.SYS_LST_STAT_running = g →
     s.pwr.testing = domSet (testDomains g) →
     ∃ t, exec (.selfTestEnd true) s = .next t ∧ (getReg t P.SYS_LST_DONE).getLsbD g = true ∧
       getF t P.SYS_LST_STAT F.SYS_LST_STAT_running = 31 ∧ t.pwr.testing = 0 ∧
       ∀ key, (∃ d ∈ testDomains g, domainOf (key % 0x1000000) = some d) → getReg t key = resetOf key)) ∧
  ((∀ (m : Master) (s : State), s.reaches m true P.SYS_MBIST_CTRL = true →
     (∃ t, exec (.mramTest m) s = .next t ∧ OnlyRegs s t [P.SYS_MBIST_CTRL] ∧
       onF t P.SYS_MBIST_CTRL F.SYS_MBIST_CTRL_mram = true ∧
       onF t P.SYS_MBIST_CTRL F.SYS_MBIST_CTRL_dram = onF s P.SYS_MBIST_CTRL F.SYS_MBIST_CTRL_dram) ∧
     (∃ t, exec (.dramTest m) s = .next t ∧ OnlyRegs s t [P.SYS_MBIST_CTRL] ∧
       onF t P.SYS_MBIST_CTRL F.SYS_MBIST_CTRL_dram = true ∧
       onF t P.SYS_MBIST_CTRL F.SYS_MBIST_CTRL_mram = onF s P.SYS_MBIST_CTRL F.SYS_MBIST_CTRL_mram)) ∧
   (∀ (fails : List (Fin 8 × Fin 64)) (s : State), onF s P.SYS_MBIST_CTRL F.SYS_MBIST_CTRL_mram = true →
     s.supplyHeld = false → s.powered 1 = true →
     ∃ t, exec (.memoryTestEnd (.mram fails)) s = .next t ∧ onF t P.SYS_MBIST_CTRL F.SYS_MBIST_CTRL_mram = false ∧
       t = { s with regs := t.regs, ldg := t.ldg } ∧ RegsBut s t [P.SYS_MBIST_CTRL, P.SYS_MBIST_STAT] ∧
       (∀ b : Fin 8, freeSpares t b = freeSpares s b) ∧ (storeOpen s = false → t.ldg = s.ldg) ∧
       (storeOpen s = true → (∀ x ∈ fails, x.2.val ∉ (dirAhead t x.1).free) ∧
         ∀ b : Fin 8, ∀ r ∈ (dirAhead t b).free, r ∈ (dirAhead s b).free)) ∧
   (∀ (fail : Option Nat) (s : State), onF s P.SYS_MBIST_CTRL F.SYS_MBIST_CTRL_dram = true → s.powered 36 = true →
     ArbiterIdle s →
     mbistBase s + mbistLen s ≤ s.dramSize → s.imageIn (mbistBase s) (mbistLen s) = false →
     ∃ t, exec (.memoryTestEnd (.dram fail)) s = .next t ∧ onF t P.SYS_MBIST_CTRL F.SYS_MBIST_CTRL_dram = false ∧
       (∀ page, fail = some page → page * 4096 < mbistLen s →
         onF t P.SYS_MBIST_STAT F.SYS_MBIST_STAT_dram_fail = true ∧
         getF t P.SYS_MBIST_STAT F.SYS_MBIST_STAT_page = page % 8388608) ∧
       (fail = none → getReg t P.SYS_MBIST_STAT = getReg s P.SYS_MBIST_STAT) ∧
       OnlyDram 12 s t [P.SYS_MBIST_CTRL, P.SYS_MBIST_STAT] ∧
       ∀ key, (key < mbistBase s ∨ mbistBase s + mbistLen s ≤ key) → Tab.find t.mem key = Tab.find s.mem key))

/-! ## The memory system (chapter 2) -/

/-- R42, R44, R44, R45, R46: A request enters its requester's queue while that holds fewer than 64, and waits at the
port otherwise; nothing of another requester and no memory changes. A locked sequence stays on one channel. What a slot
boundary of a channel grants, in order: an emergency refresh, the debug port, the owner of a locked sequence, and
otherwise an arbitrated grant, which counts. When fair comes to n the grant goes to the request that has waited longest;
else to a requester of the highest effective rank. -/
def Obligations.RequestsAndGrants : Prop :=
  (∀ (id : Fin 32) (a : Nat) (data : Option (List Byte)) (lock : Bool) (now : Nat) (s : State),
     let q := requester s id
     let r : MemReq := ⟨a, data, lock, chanOf s a, now, 0⟩
     s.powered 36 = true → isRequester id = true → q.port = none → q.backlog = [] → q.queue.length ≤ 64 →
     a < s.dramSize → foreignWrite id a data s = false →
     (q.opened = none ∨ q.opened = some (chanOf s a)) →
     ∃ t, exec (.memoryRequest id a data lock now) s = .next t ∧
       t = { s with regs := t.regs, mc := { s.mc with reqs := t.mc.reqs } } ∧
       RegsBut s t [P.MEM_RANK id] ∧
       (∀ j, j ≠ id.val → requester t j = requester s j) ∧
       (q.queue.length < 64 → (requester t id).queue = q.queue ++ [r] ∧ (requester t id).port = none) ∧
       (64 ≤ q.queue.length → (requester t id).queue = q.queue ∧ (requester t id).port = some r) ∧
       (requester t id).opened = (if lock then some (chanOf s a) else none)) ∧
  (∀ (c : Fin 4) (clocks : Nat) (s : State), memServes s = true → chanReady s c = true → inSelfRefresh s = false →
     let x := s.mc.chans[c]
     let n := getF s P.MEM_ARB_CFG F.MEM_ARB_CFG_n
     let last (t : State) := getF t (P.MEM_ARB_STAT c) F.MEM_ARB_STAT_last_id
     let count (t : State) := getF t (P.MEM_ARB_STAT c) F.MEM_ARB_STAT_grant_count
     ∃ t, exec (.arbitration c clocks) s = .next t ∧
       (x.emergency = true → last t = 30 ∧ t.mc.chans[c].owed = x.owed - 1 ∧ t.mc.chans[c].fair = x.fair ∧
         t.mc.reqs = s.mc.reqs ∧ count t = count s) ∧
       (x.emergency = false → (oldest s 31 c).isSome = true →
         last t = 31 ∧ t.mc.chans[c].fair = x.fair ∧ t.mc.chans[c].owner = x.owner ∧ count t = count s) ∧
       (∀ id, id ≤ 16 → x.emergency = false → oldest s 31 c = none → x.owner = some id →
         (∀ r, oldest s id c = some r → last t = id ∧ count t = count s ∧ t.mc.chans[c].fair = x.fair ∧
           t.mc.chans[c].owner = if r.lock then some id else none) ∧
         (oldest s id c = none → t.mc.reqs = s.mc.reqs ∧ t.mc.chans[c].owner = some id ∧ count t = count s)) ∧
       (x.emergency = false → oldest s 31 c = none → x.owner = none → contenders s c ≠ [] →
         ∃ id r, id ∈ contenders s c ∧ oldest s id c = some r ∧ last t = id ∧ count t = (count s + 1) % 65536 ∧
           (t.mc.chans[c].owner = if r.lock then some id else none) ∧
           (n ≤ x.fair + 1 → t.mc.chans[c].fair = 0 ∧ ∀ j ∈ contenders s c, sinceOf s c id ≤ sinceOf s c j) ∧
           (x.fair + 1 < n → t.mc.chans[c].fair = x.fair + 1 ∧ ∀ j ∈ contenders s c, effRank s j ≤ effRank s id)) ∧
       (x.emergency = false → oldest s 31 c = none → x.owner = none → contenders s c = [] → 0 < x.owed →
         last t = 30 ∧ t.mc.chans[c].owed = x.owed - 1))

/-- R45, R51, R48, R49, R50, R53: Refreshes that fall due are owed, and six owed are an emergency; the watchdog takes
the channel from an owner that has held it for MEM_WDOG.limit clocks, records it, and raises tilt 0x0101. A rank written
takes part at once unless its requester owns a locked sequence, when applied_rank keeps the rank before; a write of n
sets it. With every condition of the rule, all populated channels enter self-refresh together, and leave it together
when a request waits or a tolerance has fallen; memory keeps its contents (R501). -/
def Obligations.RefreshAndArbiter : Prop :=
  ((∀ (c : Fin 4) (due : Nat) (s : State), memServes s = true → chanReady s c = true →
     let x := s.mc.chans[c]
     ∃ t, exec (.refreshEmergency c due) s = .next t ∧
       t = { s with mc := { s.mc with chans := s.mc.chans.set c { x with
         owed := x.owed + due
         emergency := x.emergency || decide (6 ≤ x.owed + due) } } }) ∧
   (∀ (c : Fin 4) (id : Nat) (s : State), id ≤ 16 → s.mc.chans[c].owner = some id → memServes s = true →
     getF s P.MEM_WDOG F.MEM_WDOG_limit ≤ s.mc.chans[c].held → s.pwr.inReset = false → s.tilt.code = none →
     ∃ t, exec (.watchdogBite c) s = .next t ∧ t.mc.chans[c].owner = none ∧
       onF t P.MEM_INT_STAT F.MEM_INT_STAT_wdog = true ∧
       getF t (P.MEM_ARB_STAT c) F.MEM_ARB_STAT_lock_owner = id ∧ t.tilt.code = some 0x0101)) ∧
  ((∀ (m : Master) (id : Fin 17) (rank : Fin 16) (s : State), s.reaches m true (P.MEM_RANK id) = true →
     ∃ t, exec (.rankWrite m id rank) s = .next t ∧ OnlyRegs s t [P.MEM_RANK id] ∧
       getF t (P.MEM_RANK id) F.MEM_RANK_rank = rank ∧
       getF t (P.MEM_RANK id) F.MEM_RANK_applied_rank =
         if ownsLock s id then getF s (P.MEM_RANK id) F.MEM_RANK_applied_rank else rank) ∧
   (∀ (m : Master) (n : Fin 128) (s : State), s.reaches m true P.MEM_ARB_CFG = true →
     ∃ t, exec (.arbNWrite m n) s = .next t ∧ OnlyRegs s t [P.MEM_ARB_CFG] ∧
       getF t P.MEM_ARB_CFG F.MEM_ARB_CFG_n = n)) ∧
  (∀ s : State, memServes s = true →
     (onF s P.MEM_STAT F.MEM_STAT_init_done = true → onF s P.MEM_SR_CFG F.MEM_SR_CFG_enable = true →
       allTolerate s = true → requestWaits s = false → emergencyDue s = false → inSelfRefresh s = false →
       ∃ t, exec .selfRefreshEntry s = .next t ∧ getF t P.MEM_SR_STAT F.MEM_SR_STAT_in_sr = populated s ∧
         selfRefreshAll t = true ∧ RegsBut s t [P.MEM_SR_STAT] ∧ t = { s with regs := t.regs, pmc := t.pmc }) ∧
     (inSelfRefresh s = true → (requestWaits s = true ∨ allTolerate s = false) →
       ∃ t, exec .selfRefreshExit s = .next t ∧ getF t P.MEM_SR_STAT F.MEM_SR_STAT_in_sr = 0 ∧
         OnlyRegs s t [P.MEM_SR_STAT]))

/-- R43, R55, R56: The oldest granted read of a channel is delivered, corrected and counted where link ECC corrects it,
and repeated once where it cannot; a good repeat is delivered and counted, and a second failure raises tilt 0x0102. A unit
whose read was parked finds it served. With no read under way an error is announced for the next one (the model's form, log
142). An
error in a shared SRAM word: corrected, or, in the pattern cache, a stream buffer or an L2 word without a dirty line,
recovered, a line that is held being read from DRAM again when the arbiters are idle, with its address kept, which a read of
MEM_ECC_ADDR_LO returns; in a dirty L2 line, the comet store or the line buffer it raises tilt 0x0103. (As composer
requester 0, for a pattern line, is the model's choice, log 129.) -/
def Obligations.MemoryErrors : Prop :=
  (∀ (c : Fin 4) (s : State), s.mc.chans[c].flights = [] → exec (.readReturn c .good) s = .next s ∧
     ∀ e, e ≠ .good → exec (.readReturn c e) s =
       .next { s with mc := { s.mc with chans := s.mc.chans.set c { s.mc.chans[c] with link := true } } }) ∧
  (∀ (c : Fin 4) (f : Flight) (rest : List Flight) (s : State), s.mc.chans[c].flights = f :: rest → memServes s = true →
     let rank := if f.tag < parkTag then [] else [P.MEM_RANK f.id]
     let Served (t : State) : Prop := parkTag ≤ f.tag → ∃ r ∈ (requester t f.id).landed, r.addr = f.addr ∧ r.tag = f.tag
     (f.repeating = false →
       (∃ t, exec (.readReturn c .good) s = .next t ∧ t.mc.delivered = some (f.id, f.addr, f.data) ∧
         t.mc.chans[c].flights = rest ∧ RegsBut s t rank ∧ t.mem = s.mem ∧ Served t) ∧
       (∃ t, exec (.readReturn c .corrected) s = .next t ∧ t.mc.delivered = some (f.id, f.addr, f.data) ∧
         t.mc.eccAddr = f.addr ∧ t.mc.eccSram = false ∧ onF t P.MEM_INT_STAT F.MEM_INT_STAT_dram_ce = true ∧
         RegsBut s t ([P.MEM_ECC_STAT, P.MEM_INT_STAT] ++ rank) ∧ Served t) ∧
       (∃ t, exec (.readReturn c .bad) s = .next t ∧ t.mc.delivered = s.mc.delivered ∧
         t.mc.chans[c].flights = { f with repeating := true } :: rest ∧ t.regs = s.regs)) ∧
     (f.repeating = true →
       (∃ t, exec (.dramReadRepeat c .good) s = .next t ∧ t.mc.delivered = some (f.id, f.addr, f.data) ∧
         t.mc.chans[c].flights = rest ∧ onF t P.MEM_INT_STAT F.MEM_INT_STAT_dram_retry = true ∧
         RegsBut s t ([P.MEM_ECC_STAT, P.MEM_INT_STAT] ++ rank) ∧ Served t) ∧
       (s.pwr.inReset = false → s.tilt.code = none →
         ∃ t, exec (.dramReadRepeat c .bad) s = .next t ∧ t.tilt.code = some 0x0102 ∧
           t.mc.delivered = s.mc.delivered))) ∧
  ((∀ (a : Nat) (line : Option Nat) (s : State), (s.region a).sram = true → s.bankOn a = true →
     (∃ t, exec (.sramRefetch a line true) s = .next t ∧ onF t P.MEM_INT_STAT F.MEM_INT_STAT_sram_ce = true ∧
       t.mc.eccAddr = a ∧ t.mc.eccSram = true ∧ t.mem = s.mem ∧ RegsBut s t [P.MEM_ECC_STAT, P.MEM_INT_STAT]) ∧
     let Recovered (t : State) : Prop :=
       onF t P.MEM_INT_STAT F.MEM_INT_STAT_sram_refetch = true ∧ t.mc.eccAddr = a ∧ t.mc.eccSram = true ∧
         t.mem = s.mem ∧ t.tilt = s.tilt
     ((s.region a = .patternCache ∧ (∀ n, line = some n → patFind s n = none) ∨
         (∃ d, s.region a = .stream d ∧ (heldBands s.clu[Fin.ofNat 4 d])[line.getD 0]? = none) ∨
         s.region a = .l2Array ∧ (∀ n, line = some n → Tab.find s.l2 n = none)) →
       ∃ t, exec (.sramRefetch a line false) s = .next t ∧ Recovered t ∧ RegsBut s t [P.MEM_INT_STAT]) ∧
     (∀ n bs, s.region a = .patternCache → line = some n → patFind s n = some bs → patReach s n = true →
       patSetOn s (n % 32768) = true → ArbiterIdle s →
       ∃ t, exec (.sramRefetch a line false) s = .next t ∧ Recovered t ∧
         (∃ new, patFind t n = some new ∧ ReadBytes s (64 * n) 64 new) ∧
         RegsBut s t (P.MEM_INT_STAT :: dramKeys 0)) ∧
     (∀ n bs, s.region a = .l2Array → line = some n → Tab.find s.l2 n = some ⟨bs, false⟩ → ArbiterIdle s →
       ∃ t, exec (.sramRefetch a line false) s = .next t ∧ Recovered t ∧
         (∃ new, Tab.find t.l2 n = some ⟨new, false⟩ ∧ ReadBytes s (64 * n) 64 new) ∧
         RegsBut s t (P.MEM_INT_STAT :: dramKeys 8)) ∧
     (s.pwr.inReset = false → s.tilt.code = none →
       (s.region a = .comets ∨ s.region a = .lineBuffer ∨
         ∃ n d, s.region a = .l2Array ∧ line = some n ∧ Tab.find s.l2 n = some ⟨d, true⟩) →
       ∃ t, exec (.sramRefetch a line false) s = .next t ∧ t.tilt.code = some 0x0103)) ∧
   (∀ (m : Master) (s : State), s.reaches m false P.MEM_ECC_ADDR_LO = true →
     ∃ t, exec (.memEccAddrLoRead m) s = .next t ∧ t.rdata = BitVec.ofNat 32 s.mc.eccAddr ∧
       getReg t P.MEM_ECC_ADDR_HI =
         BitVec.ofNat 32 (s.mc.eccAddr / 0x100000000 % 256 + (if s.mc.eccSram then 256 else 0)) ∧
       t = { s with regs := t.regs, rdata := t.rdata } ∧ RegsBut s t [P.MEM_ECC_ADDR_HI]))

/-! ## The planes and the pattern cache (chapter 3) -/

/-- R62, R70, R71, R77, R87, R141: While a cluster's sequencer is stopped, a write of PLN_PAL_HI stores the staged
low word with it in the selected palette entry and advances PLN_PAL_ADDR, and a swap exchanges the live and shadow
copies; while the sequencer runs both are ignored. A write of PLN_COEF_DATA takes effect at all times: it stores the
selected shadow coefficient, but no tap of 4 to 7 of a vertical table, and advances PLN_COEF_ADDR. A write of a probe
position with arm set, of planes, comets or composer, arms the probe and clears its valid bit. -/
def Obligations.PalettesAndProbes : Prop :=
  ((∀ (m : Master) (d : Fin 4) (high : BitVec 8) (s : State), s.reaches m true (P.PLN_PAL_HI d) = true →
     (seqRuns s d = true → exec (.paletteWrite m d high) s = .next s) ∧
     (seqRuns s d = false →
       ∃ t, exec (.paletteWrite m d high) s = .next t ∧
         (∀ n, Tab.find t.clu[d].pal n =
           if n = getF s (P.PLN_PAL_ADDR d) F.PLN_PAL_ADDR_entry then
             some (high ++ getReg s (P.PLN_PAL_LO d)) else Tab.find s.clu[d].pal n) ∧
         getF t (P.PLN_PAL_ADDR d) F.PLN_PAL_ADDR_entry =
           (getF s (P.PLN_PAL_ADDR d) F.PLN_PAL_ADDR_entry + 1) % 16384 ∧
         RegsBut s t [P.PLN_PAL_ADDR d] ∧ (∀ j : Fin 4, j ≠ d → t.clu[j] = s.clu[j]) ∧
         t = { s with regs := t.regs, clu := t.clu } ∧ t.clu[d] = { s.clu[d] with pal := t.clu[d].pal })) ∧
   (∀ (m : Master) (d : Fin 4) (v : BitVec 10) (s : State), s.reaches m true (P.PLN_COEF_DATA d) = true →
     ∃ t, exec (.coefWrite m d v) s = .next t ∧
       (∀ key, Tab.find t.clu[d].coefs key =
         if shadowKey s d = some key then some v else Tab.find s.clu[d].coefs key) ∧
       (getReg t (P.PLN_COEF_ADDR d)).toNat = ((getReg s (P.PLN_COEF_ADDR d)).toNat % 4096 + 1) % 4096 ∧
       RegsBut s t [P.PLN_COEF_ADDR d] ∧ (∀ j : Fin 4, j ≠ d → t.clu[j] = s.clu[j]) ∧
       t = { s with regs := t.regs, clu := t.clu } ∧ t.clu[d] = { s.clu[d] with coefs := t.clu[d].coefs }) ∧
   (∀ (m : Master) (d : Fin 4) (mask : Fin 16) (s : State), s.reaches m true (P.PLN_COEF_CTRL d) = true →
     (seqRuns s d = true → exec (.coefSwap m d mask) s = .next s) ∧
     (seqRuns s d = false → ∃ t, exec (.coefSwap m d mask) s = .next t ∧
       (∀ set : Fin 4, t.clu[d].live.getLsbD set = (s.clu[d].live.getLsbD set != mask.val.testBit set)) ∧
       t = { s with clu := t.clu } ∧ (∀ j : Fin 4, j ≠ d → t.clu[j] = s.clu[j]) ∧
       t.clu[d] = { s.clu[d] with live := t.clu[d].live }))) ∧
  ((∀ (m : Master) (d : Fin 4) (plane : Fin 8) (x y : Fin 8192) (s : State),
     s.reaches m true (P.PLN_PROBE_POS d) = true →
     ∃ t, exec (.plnProbeArm m d plane x y) s = .next t ∧ OnlyRegs s t [P.PLN_PROBE_POS d, P.PLN_PROBE_HI d] ∧
       onF t (P.PLN_PROBE_POS d) F.PLN_PROBE_POS_arm = true ∧ getF t (P.PLN_PROBE_POS d) F.PLN_PROBE_POS_x = x ∧
       getF t (P.PLN_PROBE_POS d) F.PLN_PROBE_POS_y = y ∧ getF t (P.PLN_PROBE_POS d) F.PLN_PROBE_POS_plane = plane ∧
       onF t (P.PLN_PROBE_HI d) F.PLN_PROBE_HI_valid = false) ∧
   (∀ (m : Master) (d : Fin 4) (x y : Fin 8192) (s : State), s.reaches m true (P.CMT_PROBE_POS d) = true →
     ∃ t, exec (.cmtProbeArm m d x y) s = .next t ∧ OnlyRegs s t [P.CMT_PROBE_POS d, P.CMT_PROBE_HI d] ∧
       onF t (P.CMT_PROBE_POS d) F.CMT_PROBE_POS_arm = true ∧ getF t (P.CMT_PROBE_POS d) F.CMT_PROBE_POS_x = x ∧
       getF t (P.CMT_PROBE_POS d) F.CMT_PROBE_POS_y = y ∧ onF t (P.CMT_PROBE_HI d) F.CMT_PROBE_HI_valid = false) ∧
   (∀ (m : Master) (d : Fin 4) (x y : Fin 8192) (s : State), s.reaches m true (P.CMP_PROBE_POS d) = true →
     ∃ t, exec (.cmpProbeArm m d x y) s = .next t ∧ OnlyRegs s t [P.CMP_PROBE_POS d, P.CMP_PROBE_BLEND d] ∧
       onF t (P.CMP_PROBE_POS d) F.CMP_PROBE_POS_arm = true ∧ getF t (P.CMP_PROBE_POS d) F.CMP_PROBE_POS_x = x ∧
       getF t (P.CMP_PROBE_POS d) F.CMP_PROBE_POS_y = y ∧ onF t (P.CMP_PROBE_BLEND d) F.CMP_PROBE_BLEND_valid = false))

/-- R72, R73, R75, R86: a line that a fetcher or the comet unit has asked for, once DRAM has returned it, leaves the fills
outstanding and is in the cache as DRAM held it, unless an invalidation met its fill; nothing else enters the cache. A walk
that goes on never has more than 16 fills outstanding. An invalidation takes the lines of its range, or all, out of the
cache, and no other, and meets the fills outstanding for them; busy stands until its walk ends, and start and all are ignored
while it stands. (That an invalidation is made whole at its start is the model's choice, log 55.) -/
def Obligations.PatternCache : Prop :=
  (∀ (d : Fin 4) (u : PatUser) (tag : Nat) (set : Fin 32768) (s : State),
    let i := userWalk u
    let w := s.clu[d].walks[i]
    let line := 32768 * tag + set.val
    (w.flight line = none → exec (.patternFill d u tag set) s = .next s) ∧
    (fillUnderWay d i line s = true → exec (.patternFill d u tag set) s = .next s) ∧
    ∀ met, w.flight line = some met → fillUnderWay d i line s = false → s.powered 11 = true →
      s.powered (if i = 8 then pdComet d else pdComposer d) = true →
      ∃ t, exec (.patternFill d u tag set) s = .next t ∧ t.mem = s.mem ∧
        RegsBut s t [P.MEM_RANK (fillId d i), P.PLN_STAT d, P.CMT_STAT d] ∧
        (met = false → patFind s line = none → patSetOn s set = true →
          ∃ new, patFind t line = some new ∧ ReadBytes s (64 * line) 64 new) ∧
        (∀ l x, (met = true ∨ l ≠ line) → patFind t l = some x → patFind s l = some x) ∧
        (met = true → ∀ l, patFind t l = patFind s l) ∧
        (w.flights.length ≤ 16 → t.clu[d].walks[i].flights.length ≤ 16) ∧
        (w.todo = [] → w.pattern = true → t.regs = s.regs ∧
          t.clu[d].walks[i] = { w with flights := dropFlight line w.flights })) ∧
  (∀ (m : Master) (s : State), s.reaches m true P.PLN_PCI_CTRL = true →
    let first := getF s P.PLN_PCI_BASE F.PLN_PCI_BASE_base
    let last := first + getF s P.PLN_PCI_SIZE F.PLN_PCI_SIZE_lines
    (onF s P.PLN_PCI_CTRL F.PLN_PCI_CTRL_busy = true →
      exec (.invalidateRange m) s = .next s ∧ ∀ start, exec (.invalidateAll m start) s = .next s) ∧
    (onF s P.PLN_PCI_CTRL F.PLN_PCI_CTRL_busy = false →
      (∃ t, exec (.invalidateRange m) s = .next t ∧ onF t P.PLN_PCI_CTRL F.PLN_PCI_CTRL_busy = true ∧
        t = { s with regs := t.regs, pat := t.pat, clu := t.clu } ∧ RegsBut s t [P.PLN_PCI_CTRL] ∧
        (∀ line, first ≤ line → line < last → patFind t line = none) ∧
        (Tab.sortedFrom 0 s.pat = true → ∀ line, (line < first ∨ last ≤ line) → patFind t line = patFind s line) ∧
        ∀ (d : Fin 4) (i : Fin 9), t.clu[d].walks[i].flights =
          s.clu[d].walks[i].flights.map (fun f => (f.1, f.2 || (decide (first ≤ f.1) && decide (f.1 < last))))) ∧
      ∀ start, ∃ t, exec (.invalidateAll m start) s = .next t ∧ t.pat = [] ∧
        onF t P.PLN_PCI_CTRL F.PLN_PCI_CTRL_busy = true ∧ t = { s with regs := t.regs, pat := [], clu := t.clu } ∧
        RegsBut s t [P.PLN_PCI_CTRL] ∧
        ∀ (d : Fin 4) (i : Fin 9), t.clu[d].walks[i].flights = s.clu[d].walks[i].flights.map (fun f => (f.1, true)))) ∧
  (∀ s : State, onF s P.PLN_PCI_CTRL F.PLN_PCI_CTRL_busy = true →
    ∃ t, exec .invalidationEnd s = .next t ∧ getReg t P.PLN_PCI_CTRL = 0 ∧ OnlyRegs s t [P.PLN_PCI_CTRL])

/-! ## The ephemeris (chapter 5) -/

/-- R115, R120 to R123, R108, R119, R124, R469: A commit of the next frame whose slot is free is accepted, and any
other sets commit_err; a header is read after its commit, when the arbiters grant it; a rewrite is decided once its frame's header has been read,
with the outcomes of R120, and an accepted one is the entry that a take latches; EPH_FRAME0 sets EPH_COMMIT and
EPH_RETIRED while the sequencer is stopped, and is ignored while it runs. A start with an advertised format and a mode
other than 0 begins with band 0 of EPH_FRAME0, and starves at once when that frame is not committed; a start is refused
after tilt and for a format that is not advertised; a stop leaves the sequencer running until every taken band has
passed the stages. (That such a start sets STARVE at once, and not a later tick, is the model's choice, log 61.) -/
def Obligations.CommitsAndSequencers : Prop :=
  ((∀ (m : Master) (d : Fin 4) (frame : Word) (s : State), s.reaches m true (P.EPH_COMMIT d) = true →
     (commitOk s d frame.toNat = true → ∃ t, exec (.ephCommit m d frame) s = .next t ∧
       getReg t (P.EPH_COMMIT d) = frame ∧ RegsBut s t [P.EPH_COMMIT d] ∧ t.mem = s.mem ∧
       t.clu[d] = { s.clu[d] with headers := s.clu[d].headers ++ [(frame.toNat, none)] }) ∧
     (commitOk s d frame.toNat = false → ∃ t, exec (.ephCommit m d frame) s = .next t ∧
       OnlyRegs s t [P.EPH_STAT d] ∧ onF t (P.EPH_STAT d) F.EPH_STAT_commit_err = true)) ∧
   (∀ (d : Fin 4) (frame : Nat) (s : State), unreadHeader s d = some frame → compRuns s d = true → ArbiterIdle s →
     ∃ t, exec (.headerRead d) s = .next t ∧
       (∃ n, (frame, some (hdrCount { s with free := n } d frame)) ∈ t.clu[d].headers) ∧ t.mem = s.mem ∧
       RegsBut s t ([P.EPH_REWRITE_STAT d, P.EPH_STAT d] ++ dramKeys d)) ∧
   (∀ (m : Master) (d : Fin 4) (f : BitVec 23) (band : BitVec 9) (s : State), s.reaches m true (P.EPH_REWRITE d) = true →
     let found := s.clu[d].headers.find? (fun h => h.1 % 8388608 = f.toNat)
     let o : Override := ⟨0, band.toNat, getReg s (P.EPH_RW_E0 d), getReg s (P.EPH_RW_E1 d), getReg s (P.EPH_RW_E2 d),
       getReg s (P.EPH_RW_E3 d)⟩
     ∃ t, exec (.ephRewrite m d f band) s = .next t ∧ RegsBut s t [P.EPH_REWRITE_STAT d, P.EPH_STAT d] ∧
       t.mem = s.mem ∧ (∀ j : Fin 4, j ≠ d → t.clu[j] = s.clu[j]) ∧
       (∀ frame, found = some (frame, none) → t.regs = s.regs ∧
         t.clu[d].rewrites = s.clu[d].rewrites ++ [(f.toNat, o)]) ∧
       (∀ out, (found = none ∧ out = 3) ∨
           (∃ frame n, found = some (frame, some n) ∧ out = rewriteOutcome s d frame n o) →
         getF t (P.EPH_REWRITE_STAT d) F.EPH_REWRITE_STAT_outcome = out ∧
         getF t (P.EPH_REWRITE_STAT d) F.EPH_REWRITE_STAT_seq =
           (getF s (P.EPH_REWRITE_STAT d) F.EPH_REWRITE_STAT_seq + 1) % 16 ∧
         (out ≠ 1 → t.clu[d] = s.clu[d])) ∧
       (∀ frame n, found = some (frame, some n) → rewriteOutcome s d frame n o = 1 →
         takeEntry t d frame band.toNat = { o with frame := frame })) ∧
   (∀ (m : Master) (d : Fin 4) (v : Word) (s : State), s.reaches m true (P.EPH_FRAME0 d) = true →
     (seqRuns s d = true → exec (.ephFrame0Write m d v) s = .next s) ∧
     (seqRuns s d = false → ∃ t, exec (.ephFrame0Write m d v) s = .next t ∧
       getReg t (P.EPH_FRAME0 d) = v ∧ getReg t (P.EPH_COMMIT d) = v - 1 ∧ getReg t (P.EPH_RETIRED d) = v - 1 ∧
       t.clu[d].nextFrame = v.toNat ∧ t.clu[d].nextBand = 0 ∧ t.clu[d].overrides = [] ∧ t.mem = s.mem ∧
       RegsBut s t [P.EPH_FRAME0 d, P.EPH_COMMIT d, P.EPH_RETIRED d, P.EPH_STAT d, P.EPH_REWRITE_STAT d]))) ∧
  ((∀ (m : Master) (d : Fin 4) (v : Word) (s : State), s.reaches m true (P.EPH_CTRL d) = true →
     reservedOk (P.EPH_CTRL d) v = true →
     let first := (getReg s (P.EPH_FRAME0 d)).toNat
     (seqRuns s d = true → exec (.sequencerStart m d v) s = .next s) ∧
     (seqRuns s d = false → s.tilted = true → ∃ t, exec (.sequencerStart m d v) s = .next t ∧
       OnlyRegs s t [P.EPH_CTRL d] ∧ onF t (P.EPH_CTRL d) F.EPH_CTRL_run = false) ∧
     (seqRuns s d = false → s.tilted = false → advertised s d (F.EPH_CTRL_format.get v) = false →
       ∃ t, exec (.sequencerStart m d v) s = .next t ∧ OnlyRegs s t [P.EPH_CTRL d, P.EPH_STAT d] ∧
         onF t (P.EPH_STAT d) F.EPH_STAT_fmt_refused = true ∧ seqRuns t d = false) ∧
     (seqRuns s d = false → s.tilted = false → advertised s d (F.EPH_CTRL_format.get v) = true → modeOf s d ≠ 0 →
       ∃ t, exec (.sequencerStart m d v) s = .next t ∧ seqRuns t d = true ∧
         onF t (P.EPH_CTRL d) F.EPH_CTRL_run = true ∧ ringFormat t d = F.EPH_CTRL_format.get v ∧
         t.clu[d].nextFrame = first ∧ t.clu[d].nextBand = 0 ∧ t.clu[d].ticks = 0 ∧ t.clu[d].carry = [] ∧
         t.clu[d].taken = [] ∧ t.clu[d].stopping = false ∧
         onF t (P.EPH_STAT d) F.EPH_STAT_starve = (onF s (P.EPH_STAT d) F.EPH_STAT_starve || !committed s d first) ∧
         RegsBut s t [P.EPH_CTRL d, P.EPH_STAT d, P.KTL_CUE_POS] ∧ t.mem = s.mem)) ∧
   (∀ (m : Master) (d : Fin 4) (v : Word) (s : State), s.reaches m true (P.EPH_CTRL d) = true →
     reservedOk (P.EPH_CTRL d) v = true →
     (seqRuns s d = true → s.clu[d].stopping = false → ∃ t, exec (.sequencerStop m d v) s = .next t ∧
       OnlyRegs { s with clu := t.clu } t [P.EPH_CTRL d] ∧ onF t (P.EPH_CTRL d) F.EPH_CTRL_run = false ∧
       seqRuns t d = true ∧ t.clu[d].stopping = true ∧ t.clu[d].taken = s.clu[d].taken) ∧
     (seqRuns s d = true → s.clu[d].stopping = true → exec (.sequencerStop m d v) s = .next s) ∧
     (seqRuns s d = false → ∃ t, exec (.sequencerStop m d v) s = .next t ∧ OnlyRegs s t [P.EPH_CTRL d] ∧
       onF t (P.EPH_CTRL d) F.EPH_CTRL_run = false ∧ ringFormat t d = F.EPH_CTRL_format.get v)) ∧
   (∀ (d : Fin 4) (s : State), seqRuns s d = true → s.clu[d].stopping = true → drained s.clu[d] = true →
     ∃ t, exec (.sequencerStopped d) s = .next t ∧ seqRuns t d = false ∧ t.clu[d].stopping = false ∧
       RegsBut s t [P.EPH_STAT d] ∧ t.mem = s.mem))

/-- R109, R110, R117: with room and within the window the sequencer takes the next band of a committed frame, whose header,
entry, record and patches the idle arbiters let it read: the record joins the bands taken, or enters a Record stage that
starves, and the frame retires with its last band. A frame header that fails a check raises tilt, and no band is taken.
(What is read must hold no byte that nothing has written, which is free.) -/
def Obligations.BandTakes : Prop :=
  ∀ (d : Fin 4) (s : State),
    let c := s.clu[d]
    let frame := c.nextFrame
    let n := if c.nextBand = 0 then hdrCount s d frame else c.hdrCount
    let h := if c.nextBand = 0 then hdrHeight s d frame else c.hdrHeight
    let e := takeEntry s d frame c.nextBand
    let b := bandOf s d frame c.nextBand h n e
    let header (u : State) := (headerCause u d frame, headerForm u d frame, hdrCount u d frame, hdrHeight u d frame,
      bits (hdrWord u d frame 2) 12 0, takeEntry u d frame c.nextBand)
    let record (u : State) := (entryForms u d e, (entryPatches u d e).length, patchedWords u d e)
    seqRuns s d = true → c.stopping = false → s.tilted = false → compRuns s d = true → committed s d frame = true →
    inWindow s d = true → streamRoom s d = true → ArbiterIdle s →
    (∀ f, header { s with free := f } = header s) →
    (c.nextBand = 0 → headerCause s d frame ≠ 0 → s.pwr.inReset = false → ∃ t, exec (.ephTake d) s = .next t ∧
      t.tilt.code = some (0x1000 + 0x100 * d.val + headerCause s d frame) ∧
      getF t (P.EPH_STAT d) F.EPH_STAT_tilt_cause = headerCause s d frame ∧ seqRuns t d = false ∧
      t.clu[d].nextBand = 0 ∧ t.clu[d].streamed = c.streamed ∧ t.mem = s.mem) ∧
    ((c.nextBand = 0 → headerCause s d frame = 0 ∧ headerForm s d frame = true) →
      (∀ f, record { s with free := f } = record s) → entryForms s d e = true → b.format = ringFormat s d →
      recordForm s d b (bits (hdrWord s d frame 2) 12 0) = true →
      ∃ t, exec (.ephTake d) s = .next t ∧ t.mem = s.mem ∧ t.tilt = s.tilt ∧ t.clu[d].streamed = true ∧
        (if c.ticks ≠ 0 ∧ c.record = none ∧ c.taken = [] then
          t.clu[d].record.map Band.words = some b.words ∧ getReg t (P.EPH_POS d) = b.pos
        else t.clu[d].taken = c.taken ++ [b] ∧ getReg t (P.EPH_POS d) = getReg s (P.EPH_POS d)) ∧
        (if b.isLast then getReg t (P.EPH_RETIRED d) = BitVec.ofNat 32 frame ∧
          t.clu[d].nextFrame = frameAdd frame 1 ∧ t.clu[d].nextBand = 0
        else getReg t (P.EPH_RETIRED d) = getReg s (P.EPH_RETIRED d) ∧ t.clu[d].nextFrame = frame ∧
          t.clu[d].nextBand = c.nextBand + 1))

/-! ## Comets, composition and the pipeline (chapters 4, 6 and 7) -/

/-- R32, R146, R148, R165, R505: a tick moves each band one stage on, at the clock that R148 gives, the Record stage takes the
next band taken, and DSP_LAG holds the tick's lag behind its deadline; both clusters of a ganged pair tick at the later clock
of the two, and the second of them has no tick of its own. Before the first frame has its refresh there is no tick while no
band has been taken or the beam lets none be assigned; once R146 gives the refresh, the frame has it, and the first tick falls
three band periods before band 0's deadline, or when that band was taken. -/
def Obligations.PipelineTick : Prop :=
  (let Ticks (x : Nat) (s t : State) (j : Fin 4) : Prop :=
     t.clu[j].send.map Band.pos = s.clu[j].compose.map Band.pos ∧
     t.clu[j].compose.map Band.pos = s.clu[j].fetch.map Band.pos ∧
     t.clu[j].fetch.map Band.pos = s.clu[j].record.map Band.pos ∧
     t.clu[j].record.map Band.pos = s.clu[j].taken.head?.map Band.pos ∧
     t.clu[j].taken = s.clu[j].taken.drop 1 ∧ t.clu[j].ticks = min (s.clu[j].ticks + 1) 4 ∧ t.clu[j].t = x
   (∀ (d : Fin 4) (x : Nat) (s : State),
     let ds := (group s d).filter (fun e => seqRuns s e)
     gangSlave s d = false → seqRuns s d = true → s.tilted = false → compRuns s d = true →
     (∀ j ∈ ds, s.clu[j].r0.isSome = true) → latest s ds = some x →
     ∃ t, exec (.composeTick d) s = .next t ∧ t.clock = max s.clock x ∧ t.mem = s.mem ∧
       ∀ j ∈ ds, Ticks x s t j ∧ s.clu[j].t + pmin s j ≤ x ∧ s.clu[j].done ≤ x ∧
         (∀ y, tickSigma s j = some y → y ≤ x) ∧
         (s.powered (pdOutput j) = true → ∀ y, lagSigma s j = some y → getReg t (P.DSP_LAG j) = sat24 (x - y))) ∧
   (∀ (d : Fin 4) (s : State), group s d = [d] → gangSlave s d = false → seqRuns s d = true → s.tilted = false →
     compRuns s d = true → s.clu[d].r0 = none → s.clu[d].ticks = 0 →
     (s.clu[d].taken = [] ∨ (∃ b bs, s.clu[d].taken = b :: bs ∧ firstRefresh s d b = none) →
       exec (.composeTick d) s = .next s) ∧
     ∀ b bs r, s.clu[d].taken = b :: bs → b.band = 0 → b.frame = s.clu[d].first → firstRefresh s d b = some r →
       workEnded s.clu[d] = true →
       let sigma := lineTime s d (r : Int) ((b.out0 s d : Int) + b.deadline) - 3 * period s d b
       let x := max (max (max sigma b.stamp) (s.clu[d].t + pmin s d)) s.clu[d].done
       ∃ t, exec (.composeTick d) s = .next t ∧ t.clock = max s.clock x ∧ t.mem = s.mem ∧ Ticks x s t d ∧
         t.clu[d].r0 = some r ∧ frameRefresh t d b.frame = some r)) ∧
  ∀ (d : Fin 4) (s : State), gangSlave s d = true → exec (.composeTick d) s = .next s

/-- R84, R86 to R89, R94, R129, R133, R136, R137, R139 to R141: With a band buffer free and its pattern lines there, the comet
unit draws the band in Fetch into one, reports the band in CMT_FETCHED, its clocks in CMT_CLOCKS and the number of buffers in
CMT_CTRL, and changes no memory. With a slot free the composer composes the band in Compose into it: the output words of
every line that the band emits, the clocks of its stage in CMP_CLOCKS, EPH_DONE, and, with the writeback on, a request for
each burst of the band's words at the addresses of the frame's latched registers; CMP_WB_DONE takes a frame that is over and
has no write waiting. A band whose writeback leaves populated DRAM or meets image content stops the block (R21), as do a
partition and a context that the manual does not allow. -/
def Obligations.CometAndComposedBands : Prop :=
  (∀ (d : Fin 4) (wait : Nat) (b : Band) (s : State), s.clu[d].fetch = some b → b.ended = false → s.tilted = false →
     compRuns s d = true → (b.cmtEnable = true → s.powered (pdComet d) = true) →
     (partOk s d b = false → exec (.rasteriseBand d wait) s = .fault .partitionForm) ∧
     (partOk s d b = true →
       (b.cmtEnable = true → s.clu[d].bufs.length < bufCount s d b ∧ s.clu[d].walks[(8 : Fin 9)].done = true) →
       ((bandContextsOk s b && capOk s b && patternsIn s b) = false →
         exec (.rasteriseBand d wait) s = .fault .cometContext) ∧
       ∀ n u, (bandContextsOk s b && capOk s b && patternsIn s b) = true →
         patAgainAll d 8 (walkComets s d b) (0, s) = .ok (n, u) →
         let drawn := rasterise (fetchState u d) d b
         let waits := if s.clu[d].walks[(8 : Fin 9)].asked + n = 0 then 0 else wait
         ∃ t, exec (.rasteriseBand d wait) s = .next t ∧ t.clu[d].fetch = some { b with ended := true } ∧
           t.clu[d].bufs = (if b.cmtEnable then s.clu[d].bufs ++ [{ freeBuf u d b with pixels := drawn.1 }]
             else s.clu[d].bufs) ∧
           (s.powered (pdComet d) = true → getReg t (P.CMT_FETCHED d) = b.pos ∧
             getReg t (P.CMT_CLOCKS d) = sat24 (cometStart s d b + drawn.2 + waits - s.clu[d].t) ∧
             getF t (P.CMT_CTRL d) F.CMT_CTRL_bufs = bufCount u d b) ∧ t.mem = s.mem ∧
           RegsBut s t ([P.CMT_FETCHED d, P.CMT_CLOCKS d, P.CMT_CTRL d, P.CMT_STAT d, P.CMT_PROBE_LO d,
             P.CMT_PROBE_HI d, P.CMT_PROBE_POS d] ++ dramKeys (4 + d.val)))) ∧
  (∀ (d : Fin 4) (ls : List Nat) (i : Fin 9) (s : State), (∀ l ∈ ls, patFind s l ≠ none) →
     ∃ u, patAgainAll d i ls (0, s) = .ok (0, u) ∧ u = { s with pat := u.pat } ∧ ∀ l, patFind u l = patFind s l) ∧
  (∀ (d : Fin 4) (wait : Nat) (b : Band) (s : State), s.clu[d].compose = some b → b.ended = false → s.tilted = false →
     compRuns s d = true → slotReady s.clu[d] b = true →
     let s1 := swapCoefs d b.coefSwap s
     let wb := s1.clu[d].wb
     let on := F.CMP_WB_CTRL_enable.on wb[0]
     ∀ c, composeLines d b (bandBuffer s1.clu[d] b) s1.clu[d].rows s1 = .ok c →
     let ys := b.out c.st d
     let lines := outputLines c.st d c.rows ys
     (on = true → wbOk c.st wb b.frame (outW c.st d) ys = false →
       exec (.composeBand d wait) s = .fault .writebackRange) ∧
     ((on = true → wbOk c.st wb b.frame (outW c.st d) ys = true) →
       ∃ t, exec (.composeBand d wait) s = .next t ∧ t.clu[d].compose = some { b with ended := true } ∧
         (∃ z, t.clu[d].slots[slotFor s.clu[d] b] = some z ∧ z.frame = b.frame ∧ z.band = b.band ∧ z.lines = lines ∧
           z.hashed = false) ∧
         getReg t (P.EPH_DONE d) = b.pos ∧
         (b.isLast = true → s.clu[d].wbPend = [] → wbWaits t d b.frame = false →
           getReg t (P.CMP_WB_DONE d) = BitVec.ofNat 32 b.frame) ∧
         getReg t (P.CMP_CLOCKS d) = sat24 (composeStart s.clu[d] b + composeClocks c.st d c ys.length +
           (if c.missed = 0 then 0 else wait) - s.clu[d].t) ∧
         t.mem = s.mem ∧
         ∃ rs, (requester t (13 + d.val)).waiting = (requester s (13 + d.val)).waiting ++ rs ∧
           rs.map (fun r => (r.addr, r.data)) =
             if on then (lines.flatMap (fun l => inBursts (l.2.length + 1) (wbLine wb b.frame l.1) (wordBytes l.2))).map
               (fun r => (r.1, some r.2))
             else []))

/-! ## Display outputs (chapter 7) -/

/-- R145, R156, R159, R165: a mode other than 0 that has gone live starts a stopped beam at line 0 of the next refresh; a
running beam enters its next line, and its refresh count advances at line 0; DSP_BEAM and DSP_STAT.running show it. The
second output of a ganged pair joins its master's beam in the line in which that stands, and its beam goes on with the
master's. An armed change goes live at its line: the timing and the mode are the shadow copies, and the beam stops for mode 0.
In the fallback raster a line after the active ones sends no pixel, with the sync levels of R156. (Without a tilt. A line of
a screen that the arbiter does not let the output read parks its request, log 143. The clock in which a beam starts, and an arm at mode 0 that completes whatever its line, where R159 calls a line of Vt
or above unpredictable, are the model's choices, logs 70 and 69.) -/
def Obligations.BeamLines : Prop :=
  (∀ (d : Fin 4) (s : State), outputOn s d = true → s.tilted = false → s.clu[d].beam.running = false →
    modeOf s d ≠ 0 → onF s (P.DSP_APPLY d) F.DSP_APPLY_arm = false →
    (gangSlave s d = true → s.clu[leader s d].beam.running = false → exec (.beamStart d) s = .next s) ∧
    (gangSlave s d = true → s.clu[leader s d].beam.running = true → ∃ t, exec (.beamStart d) s = .next t ∧
      t.clu[d].beam.running = true ∧ t.clu[d].beam.line = s.clu[leader s d].beam.line ∧
      t.clu[d].beam.refresh = s.clu[d].beam.refresh + 1 ∧ onF t (P.DSP_STAT d) F.DSP_STAT_running = true ∧
      getReg t (P.DSP_BEAM d) = BitVec.ofNat 32
        (s.clu[leader s d].beam.line + ((s.clu[d].beam.refresh + 1) % 65536) <<< 16) ∧
      t.clu[leader s d].beam = s.clu[leader s d].beam ∧ t.clock = s.clock ∧ t.mem = s.mem) ∧
    (gangSlave s d = false → ∃ t, exec (.beamStart d) s = .next t ∧ t.clu[d].beam.running = true ∧ t.clu[d].beam.line = 0 ∧
      t.clu[d].beam.refresh = s.clu[d].beam.refresh + 1 ∧ t.clu[d].beam.origin = t.clock ∧
      t.clock = s.clock + ceilDiv 1500000 (pixelKhz s d) ∧
      getF t (P.DSP_BEAM d) F.DSP_BEAM_line = 0 ∧
      getF t (P.DSP_BEAM d) F.DSP_BEAM_refresh = (s.clu[d].beam.refresh + 1) % 65536 ∧
      onF t (P.DSP_STAT d) F.DSP_STAT_running = true ∧ t.mem = s.mem)) ∧
  (∀ (d : Fin 4) (unread : Bool) (s : State), outputOn s d = true → gangSlave s d = false → s.tilted = false →
    s.clu[d].beam.running = true →
    let asks := (beamGroup s d).findSome? (screenAsk ((beamGroup s d).foldl (nextLine (totalV s d)) s))
    let line (j : Fin 4) := if s.clu[j].beam.line + 1 < totalV s d then s.clu[j].beam.line + 1 else 0
    let refresh (j : Fin 4) :=
      if s.clu[j].beam.line + 1 < totalV s d then s.clu[j].beam.refresh else s.clu[j].beam.refresh + 1
    let armed (j : Fin 4) :=
      onF s (P.DSP_APPLY j) F.DSP_APPLY_arm && decide (getF s (P.DSP_APPLY j) F.DSP_APPLY_line = line j)
    (∀ h, asks = some h → exec (.beamLine d unread) s = .next (park (some h) s)) ∧
    (asks = none → ∃ t, exec (.beamLine d unread) s = .next t ∧ t.mem = s.mem ∧
      t.clock = max s.clock (lineTime s d (refresh d) (line d)) ∧
      ∀ j ∈ beamGroup s d, t.clu[j].beam.line = line j ∧ t.clu[j].beam.refresh = refresh j ∧
        getReg t (P.DSP_BEAM j) = BitVec.ofNat 32 (line j + (refresh j % 65536) <<< 16) ∧
        (armed j = false → t.clu[j].beam.running = true ∧ modeOf t j = modeOf s j ∧
          (∀ i : Fin 5, getReg t (timingPort j i) = getReg s (timingPort j i)) ∧
          (armed d = false → rasterMode s j = true → activeH s d ≤ line j →
            t.clu[j].beam.sent = [] ∧ t.clu[j].beam.sync = some (vsyncLevel s d (line j), hsyncLevel s d))) ∧
        (armed j = true → onF t (P.DSP_APPLY j) F.DSP_APPLY_arm = false ∧ modeOf t j = s.clu[j].beam.mode % 4 ∧
          t.clu[j].beam.running = decide (s.clu[j].beam.mode % 4 ≠ 0) ∧
          ∀ i : Fin 5, getReg t (timingPort j i) = s.clu[j].beam.timing[i]))) ∧
  (∀ (d : Fin 4) (unread : Bool) (s : State), gangSlave s d = true → exec (.beamLine d unread) s = .next s) ∧
  (∀ (m : Master) (d : Fin 4) (line : Fin 8192) (s : State), s.reaches m true (P.DSP_APPLY d) = true →
    (modeOf s d = 0 ∨ line < totalV s d → ∃ t, exec (.applyArm m d line) s = .next t ∧
      OnlyRegs s t [P.DSP_APPLY d] ∧ onF t (P.DSP_APPLY d) F.DSP_APPLY_arm = true ∧
      getF t (P.DSP_APPLY d) F.DSP_APPLY_line = line) ∧
    (modeOf s d ≠ 0 → totalV s d ≤ line → exec (.applyArm m d line) s = .fault .displayChange))

/-- R144, R149 to R152, R165: in selective update an output begins its next send, all columns of every line of the slot, at the
clock that the tear rule admits, counts the band late once when that lies after its deadline, and ends it when its last line has
passed at the link's rate. The outputs of a ganged pair that send a band begin together, at the later of their clocks; a hold
or a late band of one of them counts on both, also on one whose own half of the band is skipped. (That the halves of a pair
meet by equal frame and band number is the model's choice, log 145.) -/
def Obligations.Sends : Prop :=
  (∀ (d : Fin 4) (b : Band) (f : Fin 4 → Band × Nat × Bool) (x : Nat) (s : State), gangSlave s d = false →
    s.tilted = false → outputOn s d = true → oldestSend s (sendGroup s d) = some b →
    let ds := senders s d
    (∀ j ∈ ds, sendReady s j = some (f j)) → x = ds.foldl (fun n j => max n (f j).2.1) 0 →
    let late := ds.any (fun j => decide ((sigmaOf s j (f j).1).getD x < x))
    let hold := ds.any (fun j => (f j).2.2)
    ∃ t, exec (.sendBand d) s = .next t ∧ t.clock = max s.clock x ∧ t.mem = s.mem ∧
      (∀ j ∈ ds, let a := (f j).1
        a.frame = b.frame ∧ a.band = b.band ∧
        t.clu[j].sending = some ⟨a.frame, a.band, x, 0, ((slotOf s.clu[j] a.frame a.band).map (·.lines)).getD [],
          regionFirst s.clu[j] a (a.out0 s j) x, []⟩ ∧
        t.clu[j].toSend = s.clu[j].toSend.drop 1) ∧
      (∀ j ∈ group s d, getF t (P.DSP_CNT j) F.DSP_CNT_late =
        (if late && !s.clu[j].lateSeen.contains (b.frame, b.band) then
          min (getF s (P.DSP_CNT j) F.DSP_CNT_late + 1) (2 ^ F.DSP_CNT_late.len - 1)
        else getF s (P.DSP_CNT j) F.DSP_CNT_late)) ∧
      (∀ j ∈ sendGroup s d, getF t (P.DSP_CNT j) F.DSP_CNT_held =
        (if hold && !s.clu[j].held then min (getF s (P.DSP_CNT j) F.DSP_CNT_held + 1) (2 ^ F.DSP_CNT_held.len - 1)
        else getF s (P.DSP_CNT j) F.DSP_CNT_held)) ∧
      RegsBut s t ((group s d).flatMap (fun j => [P.DSP_CNT j, P.DSP_STAT j]))) ∧
  (∀ (d : Fin 4) (s : State), gangSlave s d = true → exec (.sendBand d) s = .next s) ∧
  (∀ (d : Fin 4) (z : Sending) (s : State), s.clu[d].sending = some z →
    (∀ band, band ≠ z.band → exec (.sendEnd d band) s = .next s) ∧
    let x := z.started + z.extra + z.lines.length * lineSend s d
    ∃ t, exec (.sendEnd d z.band) s = .next t ∧ t.clu[d].sending = none ∧ t.clu[d].sendEnd = x ∧
      t.clu[d].lastSent = some (z.frame, z.band, z.region) ∧ t.clock = max s.clock x ∧ t.mem = s.mem)

/-- R154, R160 to R164, R470: Training starts from DSP_TRAIN.start while the mode is 0 and none runs, with the rate and the
interface as they then stand: it takes the link down and has the PHY PLL locked or starting, and at a rate that the interface
does not offer it is refused with result 6 and nothing else changes. With its PLL locked it ends with a result from 1 to 5, a
link that is up for result 1, and su_ok for a sink that meets R142. After tilt an output whose link is down trains again. A
burst of mismatches is counted with the lines of the band under way that it has resent, which lengthens the send; one that
ends in time, each line as the tear rule admits it, is handled, and one that does not raises tilt with cause 4. A lost
hot-plug detect, a loss of lock and an update error take the link down and raise tilt with causes 1, 2 and 3. (That the start
of a training takes the link down is the model's choice, log 74; that an update error does so is too, log 73; and so is the
region that the rest of a band belongs to after a resend, log 146.) -/
def Obligations.LinkTrainingAndFaults : Prop :=
  (let Trains (d : Fin 4) (s t : State) : Prop :=
     let rate := getF s (P.DSP_LINK d) F.DSP_LINK_rate
     let edp := onF s (P.DSP_CTRL d) F.DSP_CTRL_iface
     (edp = true ∧ 8 ≤ rate → OnlyRegs s t [P.DSP_TRAIN d] ∧ getF t (P.DSP_TRAIN d) F.DSP_TRAIN_result = 6 ∧
       trainingRuns t d = trainingRuns s d) ∧
     (¬(edp = true ∧ 8 ≤ rate) →
       t = { s with regs := t.regs, clu := t.clu, pwr := t.pwr } ∧ RegsBut s t [P.DSP_STAT d, P.DSP_TRAIN d] ∧
       onF t (P.DSP_STAT d) F.DSP_STAT_link_up = false ∧ onF t (P.DSP_TRAIN d) F.DSP_TRAIN_start = true ∧
       trainingRuns t d = true ∧ t.clu[d] = { s.clu[d] with beam := { s.clu[d].beam with rate := rate, edp := edp } } ∧
       t.pwr = { s.pwr with linkStarting := t.pwr.linkStarting } ∧
       (t.pwr.linkStarting.getLsbD d || t.pwr.linkLocked.getLsbD d) = true)
   (∀ (m : Master) (d : Fin 4) (s : State), s.reaches m true (P.DSP_TRAIN d) = true →
     (modeOf s d ≠ 0 ∨ trainingRuns s d = true → exec (.dspTrain m d) s = .next s) ∧
     (modeOf s d = 0 → trainingRuns s d = false → ∃ t, exec (.dspTrain m d) s = .next t ∧ Trains d s t)) ∧
   (∀ (d : Fin 4) (result : Fin 8) (su : Bool) (ygran : Fin 64) (s : State), trainingRuns s d = true →
     outputOn s d = true → s.pwr.linkLocked.getLsbD d = true → 1 ≤ result.val → result.val ≤ 5 →
     ∃ t, exec (.trainingEnd d result su ygran) s = .next t ∧ trainingRuns t d = false ∧
       onF t (P.DSP_TRAIN d) F.DSP_TRAIN_start = false ∧ getF t (P.DSP_TRAIN d) F.DSP_TRAIN_result = result ∧
       getF t (P.DSP_TRAIN d) F.DSP_TRAIN_ygran = ygran ∧
       onF t (P.DSP_TRAIN d) F.DSP_TRAIN_su_ok = (decide (result = 1) && suOk s d su ygran) ∧
       onF t (P.DSP_STAT d) F.DSP_STAT_link_up = decide (result = 1) ∧ t.mem = s.mem ∧
       (d ≠ 0 → OnlyRegs s t [P.DSP_STAT d, P.DSP_TRAIN d])) ∧
   (∀ (d : Fin 4) (s : State), s.tilted = true → outputOn s d = true → modeOf s d ≠ 0 →
     (onF s (P.DSP_STAT d) F.DSP_STAT_link_up = false → trainingRuns s d = false →
       ∃ t, exec (.retrain d) s = .next t ∧ Trains d s t) ∧
     (onF s (P.DSP_STAT d) F.DSP_STAT_link_up = true → exec (.retrain d) s = .next s))) ∧
  (let Burst (d : Fin 4) (n : Nat) (s t : State) : Prop :=
     onF t (P.DSP_STAT d) F.DSP_STAT_burst = true ∧
     getF t (P.DSP_ERR_CNT d) F.DSP_ERR_CNT_bursts =
       min (getF s (P.DSP_ERR_CNT d) F.DSP_ERR_CNT_bursts + 1) (2 ^ F.DSP_ERR_CNT_bursts.len - 1) ∧
     getF t (P.DSP_ERR_CNT d) F.DSP_ERR_CNT_resent =
       min (getF s (P.DSP_ERR_CNT d) F.DSP_ERR_CNT_resent + n) (2 ^ F.DSP_ERR_CNT_resent.len - 1)
   (∀ (d lane : Fin 4) (first last : Fin 8192) (clocks : Nat) (s : State), outputOn s d = true → modeOf s d ≠ 0 →
     (rasterMode s d = true ∨ s.clu[d].sending = none) →
     (rasterMode s d = false ∨ clocks ≤ 30000 → ∃ t, exec (.laneMismatch d lane first last clocks) s = .next t ∧ Burst d 0 s t ∧
       OnlyRegs s t [P.DSP_STAT d, P.DSP_ERR_CNT d]) ∧
     (rasterMode s d = true → 30000 < clocks → s.pwr.inReset = false → s.tilt.code = none →
       ∃ t, exec (.laneMismatch d lane first last clocks) s = .next t ∧ Burst d 0 s t ∧
         t.tilt.code = some (0x1404 + 0x100 * d.val) ∧ getF t (P.DSP_STAT d) F.DSP_STAT_tilt_cause = 4)) ∧
   (∀ (d lane : Fin 4) (first last : Fin 8192) (clocks i k : Nat) (z : Sending) (s : State), outputOn s d = true →
     modeOf s d ≠ 0 → rasterMode s d = false → s.clu[d].sending = some z →
     let ys := z.lines.map (·.1)
     let n := k + 1 - i
     let l := lineSend s d
     ys.idxOf first.val = i → ys.idxOf last.val = k → i < ys.length → k < ys.length → first.val ≤ last.val →
     clocks ≤ (last.val + 1 - first.val) * l →
     let inTime := clocks + n * l ≤ 30000 ∧ ∀ j < n, resendOk s d (ys.getD (i + j) 0) (linePassed s d z k + j * l) = true
     (inTime → ∃ t, exec (.laneMismatch d lane first last clocks) s = .next t ∧ Burst d n s t ∧
       t.clu[d].sending = some { z with
         extra := z.extra + n * l
         resends := z.resends ++ [(first.val, last.val)]
         region := ys.getD (k + 1) first.val } ∧ t.tilt = s.tilt ∧ t.mem = s.mem ∧
       RegsBut s t [P.DSP_STAT d, P.DSP_ERR_CNT d]) ∧
     (¬inTime → s.pwr.inReset = false → s.tilt.code = none →
       ∃ t, exec (.laneMismatch d lane first last clocks) s = .next t ∧ Burst d n s t ∧
         t.tilt.code = some (0x1404 + 0x100 * d.val) ∧ getF t (P.DSP_STAT d) F.DSP_STAT_tilt_cause = 4)) ∧
   (∀ (d : Fin 4) (s : State), outputOn s d = true → s.pwr.inReset = false → s.tilt.code = none →
     (∃ t, exec (.hpdLost d) s = .next t ∧ onF t (P.DSP_STAT d) F.DSP_STAT_link_up = false ∧
       t.tilt.code = some (0x1401 + 0x100 * d.val) ∧ getF t (P.DSP_STAT d) F.DSP_STAT_tilt_cause = 1) ∧
     ∀ err : Bool, ∃ t, exec (.irqHpd d err) s = .next t ∧ onF t (P.DSP_STAT d) F.DSP_STAT_link_up = false ∧
       t.tilt.code = some (0x1400 + 0x100 * d.val + (if err then 3 else 2)) ∧
       getF t (P.DSP_STAT d) F.DSP_STAT_tilt_cause = if err then 3 else 2))

/-! ## Digests and recall (chapter 8) -/

/-- R167 to R172, R177, R506: a lane gives a band its SHA-256 digest over its output words, which the carry table and
the frame then hold, and the frames that wait to carry it; a frame's digest is SHA-256 over its band digests; the oldest
finished frame enters the export queue, and a queue of 16 raises tilt instead; a frame compared with its table entry, which
the idle arbiters let the unit read, counts, its dump stands in memory, and a mismatch is recorded with its first frame. (That
DIG_LAST moves also when the queue is full is the model's choice, log 78; that recall is looked at as the entry is formed is
too, log 147.) -/
def Obligations.Digests : Prop :=
  (∀ (d : Fin 4) (i : Fin 2) (after : Nat) (z : Slot) (s : State), s.clu[d].slots[i] = some z → z.hashed = false →
    s.tilted = false → compRuns s d = true → laneMayEnd z after = true →
    let h := sha256 (wordBytes (z.lines.flatMap (·.2)))
    ∃ t, exec (.bandDigest d i after) s = .next t ∧ Tab.find t.clu[d].carry z.band = some h ∧
      (∀ w ∈ t.clu[d].frames, w.frame = z.frame → Tab.find w.digests z.band = some h) ∧
      (∀ w ∈ s.clu[d].frames, w.frame ≠ z.frame →
        (if w.awaits.contains (z.band, z.frame) then
          { w with
            digests := Tab.insert w.digests z.band h
            carried := w.carried + 1
            awaits := w.awaits.erase (z.band, z.frame) }
        else w) ∈ t.clu[d].frames) ∧
      (z.sent = true → wbHolds s d z = false → t.clu[d].slots[i] = none) ∧
      (z.sent = false ∨ wbHolds s d z = true → ∃ y, t.clu[d].slots[i] = some y ∧ y.hashed = true ∧ y.lines = z.lines) ∧
      t.regs = s.regs ∧ t.mem = s.mem ∧ t.clock = max s.clock (z.ended + after)) ∧
  (∀ (d : Fin 4) (w : FrameWork) (s : State), s.clu[d].frames.find? (fun w => w.full && w.digest.isNone) = some w →
    s.tilted = false → compRuns s d = true →
    ∃ t, exec (.frameDigest d) s = .next t ∧ t.regs = s.regs ∧ t.mem = s.mem ∧
      (∀ v ∈ t.clu[d].frames, v.frame = w.frame → v.digest = some (sha256 (w.digests.flatMap (·.2)))) ∧
      t.clu[d].frames.length = s.clu[d].frames.length) ∧
  (∀ (d : Fin 4) (w : FrameWork) (ws : List FrameWork) (h : List Byte) (s : State), s.clu[d].frames = w :: ws →
    w.digest = some h → w.count ≤ w.decided → s.tilted = false → compRuns s d = true →
    let n := frameSub w.frame (getReg s (P.DIG_EXP_FIRST d)).toNat
    let compares := onF s (P.DIG_CTRL d) F.DIG_CTRL_recall && decide (n < getF s (P.DIG_EXP_COUNT d) F.DIG_EXP_COUNT_count)
    (compares = true → ArbiterIdle s) →
    (compares = true → recallRange s d w n = false → exec (.digestExport d) s = .fault .writebackRange) ∧
    (16 ≤ s.clu[d].export_.length → s.pwr.inReset = false → (compares = true → recallRange s d w n = true) →
      ∃ t, exec (.digestExport d) s = .next t ∧ t.tilt.code = some (0x1801 + 0x100 * d.val) ∧
        getReg t (P.DIG_LAST d) = BitVec.ofNat 32 w.frame) ∧
    (s.clu[d].export_.length < 16 → (compares = true → recallRange s d w n = true) →
      ∃ t, exec (.digestExport d) s = .next t ∧
        t.clu[d].export_ = s.clu[d].export_ ++
          [⟨w.frame, onF s (P.DIG_CTRL d) F.DIG_CTRL_recall, w.fresh, w.carried, w.late, h⟩] ∧
        t.clu[d].frames = ws ∧ getF t (P.DIG_STAT d) F.DIG_STAT_depth = s.clu[d].export_.length + 1 ∧
        getReg t (P.DIG_LAST d) = BitVec.ofNat 32 w.frame ∧
        t.mem = (if compares && onF s (P.DIG_CTRL d) F.DIG_CTRL_dump then
          w.digests.foldl (fun m e => Memory.writeBytes m (dumpAddr s d n + 32 * e.1) e.2) s.mem else s.mem) ∧
        RegsBut s t ([P.DIG_LAST d, P.DIG_STAT d, P.DIG_RESULT d, P.DIG_MISS_FRAME d] ++ dramKeys (13 + d.val)) ∧
        (compares = false → getReg t (P.DIG_RESULT d) = getReg s (P.DIG_RESULT d)) ∧
        (compares = true → getF t (P.DIG_RESULT d) F.DIG_RESULT_compared =
          min (getF s (P.DIG_RESULT d) F.DIG_RESULT_compared + 1) (2 ^ F.DIG_RESULT_compared.len - 1)) ∧
        (compares = true → (∀ f, State.readBytes { t with free := f } (expAddr s d n) 32 ≠ h) →
          onF t (P.DIG_STAT d) F.DIG_STAT_mismatch = true ∧ t.clu[d].missed = true ∧
          (s.clu[d].missed = false → getReg t (P.DIG_MISS_FRAME d) = BitVec.ofNat 32 w.frame)))) ∧
  (∀ (m : Master) (d : Fin 4) (dump : Bool) (s : State), s.reaches m true (P.DIG_CTRL d) = true →
    (seqRuns s d = true → exec (.recallEnable m d dump) s = .next s ∧ exec (.recallClear m d dump) s = .next s) ∧
    (seqRuns s d = false →
      (∃ t, exec (.recallEnable m d dump) s = .next t ∧ onF t (P.DIG_CTRL d) F.DIG_CTRL_recall = true ∧
        onF t (P.DIG_CTRL d) F.DIG_CTRL_dump = dump ∧
        t = { s with regs := t.regs, clu := t.clu } ∧ RegsBut s t [P.DIG_CTRL d, P.DIG_RESULT d, P.DIG_MISS_FRAME d] ∧
        t.clu[d] = { s.clu[d] with missed := t.clu[d].missed } ∧
        (onF s (P.DIG_CTRL d) F.DIG_CTRL_recall = false → getReg t (P.DIG_RESULT d) = 0 ∧
          getReg t (P.DIG_MISS_FRAME d) = 0xFFFFFFFF ∧ t.clu[d].missed = false)) ∧
      (∃ t, exec (.recallClear m d dump) s = .next t ∧ onF t (P.DIG_CTRL d) F.DIG_CTRL_recall = false ∧
        onF t (P.DIG_CTRL d) F.DIG_CTRL_dump = dump ∧ OnlyRegs s t [P.DIG_CTRL d, P.KTL_CUE_POS])))

/-! ## The blit engine (chapter 9) -/

/-- R180 to R182, R184 to R187, R190 to R192: the engine takes the command at the head of its ring: one that fails a
check stops it with err_code, and one that passes writes its destination pixels from the memory before it and no byte
outside them; when its writes have been granted it completes, the head advances, BLT_DONE_TAG takes its tag and cmd_done its
irq bit. The tail, the run bit and the ring's base and size are written as R182 and R192 say. (The idle arbiters let the
engine read; its entry and its clip list hold no byte that nothing has written, which is free. Which format a copy or a fill
of format 6 or 7 takes is free as well.) -/
def Obligations.BlitCommands : Prop :=
  (let Runs (op : Nat) (i : Instr) : Prop := ∀ s : State,
     bltOn s = true → onF s P.BLT_CTRL F.BLT_CTRL_run = true → bltBusy s = false → bltHead s ≠ bltTail s →
     bltEntry s + 64 ≤ s.dramSize → ArbiterIdle s → (∀ f, blitCmd { s with free := f } = blitCmd s) →
     (∀ f, blitPixels { s with free := f } (blitCmd s) = blitPixels s (blitCmd s)) →
     let c := blitCmd s
     let ps := blitPixels s c
     let form (n : Nat) : Prop := if 6 ≤ c.format ∧ c.op ≠ 2 then n < 6 else n = c.format
     (2 < c.op → ∃ t, exec i s = .next t ∧ OnlyDram 9 s t [P.BLT_CTRL, P.BLT_STAT] ∧ t.mem = s.mem ∧
       onF t P.BLT_STAT F.BLT_STAT_err = true ∧ getF t P.BLT_STAT F.BLT_STAT_err_code = 1) ∧
     (c.op = op → (∀ n, form n → blitCode { c with format := n } ≠ 0) →
       ∃ t n, form n ∧ exec i s = .next t ∧ OnlyDram 9 s t [P.BLT_CTRL, P.BLT_STAT] ∧ t.mem = s.mem ∧
         onF t P.BLT_CTRL F.BLT_CTRL_run = false ∧ onF t P.BLT_STAT F.BLT_STAT_err = true ∧
         getF t P.BLT_STAT F.BLT_STAT_err_code = blitCode { c with format := n }) ∧
     (c.op = op → (c.clip = true → c.clipAt + 8 * c.clips ≤ s.dramSize) →
       (∀ n, form n → blitCode { c with format := n } = 0 ∧ blitStop s { c with format := n } ps = none) →
       ∃ t n f, form n ∧ exec i s = .next t ∧ RegsBut s t (P.BLT_STAT :: dramKeys 9) ∧
         bltBusy t = true ∧ getF t P.BLT_STAT F.BLT_STAT_dir = blitDir c ∧ t.blt.tag = BitVec.ofNat 32 c.tag ∧
         t.blt.irq = c.irq ∧
         t.mem = (ps.foldl (fun t p =>
           pixelWrite c.dst n (c.dst.x + p.1) (c.dst.y + p.2)
             (blitValue { s with free := f } { c with format := n } p.1 p.2) t) { s with free := f }).mem ∧
         ∀ key, key ∉ surfaceBytes { c with format := n } c.dst ps → Tab.find t.mem key = Tab.find s.mem key) ∧
     (∀ e, c.op = op → (c.clip = true → c.clipAt + 8 * c.clips ≤ s.dramSize) →
       (∀ n, form n → blitCode { c with format := n } = 0 ∧ blitStop s { c with format := n } ps = some e) →
       exec i s = .fault e)
   Runs 0 .bltCopy ∧ Runs 1 .bltFill ∧ Runs 2 .bltBlend) ∧
  (∀ s : State, bltOn s = true → bltBusy s = true → tagWaits 9 blitTag s = false →
    ∃ t, exec .blitComplete s = .next t ∧
    bltHead t = (bltHead s + 1) % ringLen s % 4096 ∧ getReg t P.BLT_DONE_TAG = s.blt.tag ∧ bltBusy t = false ∧
    onF t P.BLT_STAT F.BLT_STAT_cmd_done = (onF s P.BLT_STAT F.BLT_STAT_cmd_done || s.blt.irq) ∧
    RegsBut s t [P.BLT_HEAD, P.BLT_DONE_TAG, P.BLT_STAT] ∧ t.mem = s.mem) ∧
  (∀ (m : Master) (tail : Fin 4096) (s : State), s.reaches m true P.BLT_TAIL = true →
    ∃ t, exec (.bltTailWrite m tail) s = .next t ∧ OnlyRegs s t [P.BLT_TAIL] ∧ bltTail t = tail) ∧
  (∀ (m : Master) (s : State), s.reaches m true P.BLT_CTRL = true →
    ∃ t, exec (.blitStop m) s = .next t ∧ OnlyRegs s t [P.BLT_CTRL] ∧ onF t P.BLT_CTRL F.BLT_CTRL_run = false) ∧
  (∀ (m : Master) (size : Bool) (v : BitVec 29) (s : State),
    s.reaches m true (if size then P.BLT_RING_SIZE else P.BLT_RING_BASE) = true →
    (onF s P.BLT_CTRL F.BLT_CTRL_run = true ∨ bltBusy s = true → exec (.ringConfig m size v) s = .next s) ∧
    (onF s P.BLT_CTRL F.BLT_CTRL_run = false → bltBusy s = false → (size = true → v.toNat % 16 ≤ 12) →
      ∃ t, exec (.ringConfig m size v) s = .next t ∧ bltHead t = 0 ∧ bltTail t = 0 ∧
        OnlyRegs s t [P.BLT_RING_BASE, P.BLT_RING_SIZE, P.BLT_HEAD, P.BLT_TAIL] ∧
        (size = true → ringLen t = 2 ^ (v.toNat % 16)) ∧
        (size = false → getF t P.BLT_RING_BASE F.BLT_RING_BASE_base = v.toNat)))

/-! ## Audio (chapter 10) -/

/-- R193 to R216, R219, R223, R469: Run starts a fresh Kettle at period 0, and is ignored after tilt; run 0 stops it at the next
period, and a stopped Kettle holds no voice and no cue. A period counts in KTL_SAMPLE and fires the cues that are due, in list
order, each with the effect of its kind; then the tones sound, the voices in rising number until the clocks are used up, the
effects return their block, every bus takes its sample or samples, the inputs theirs, and the outputs take the buses through
their filters and delays. The bridges between domains are linear-phase, and pass silence. The next cue slot handed to Kettle is
read once, when the arbiters are idle: a slot of another frame sets cue_err, and a well-formed one gives its cues to Kettle. A
stream fill copies the sound's next bytes into its ring and no other byte. A slot outside DRAM, a cue or a sound that chapter 10
calls unpredictable, and a send to a bus of another domain stop the block. (Bytes that nothing has written are free, and so are
the taps and the rounding of the bridges, log 82.) -/
def Obligations.KettlePlay : Prop :=
  ((∀ (m : Master) (timebase slots : Fin 4) (s : State), s.reaches m true P.KTL_CTRL = true → kettleOn s = false →
     (s.tilted = false → ∃ t, exec (.kettleRun m timebase slots) s = .next t ∧ kettleOn t = true ∧
       getF t P.KTL_CTRL F.KTL_CTRL_timebase = timebase ∧ getReg t P.KTL_SAMPLE = 0 ∧
       getReg t P.KTL_CUE_POS = getReg s (P.EPH_COMMIT timebase) ∧
       t.ktl = { Kettle.reset with origin := s.clock } ∧
       RegsBut s t [P.KTL_CTRL, P.KTL_STAT, P.KTL_SAMPLE, P.KTL_CUE_POS] ∧ t.mem = s.mem) ∧
     (s.tilted = true → ∃ t, exec (.kettleRun m timebase slots) s = .next t ∧ kettleOn t = false ∧
       OnlyRegs s.audioAccess t [P.KTL_CTRL])) ∧
   (∀ (m : Master) (s : State), s.reaches m true P.KTL_CTRL = true →
     (kettleOn s = true → ∃ t, exec (.kettleStop m) s = .next t ∧ kettleOn t = true ∧
       t.ktl = { s.ktl with stopping := true } ∧ onF t P.KTL_CTRL F.KTL_CTRL_run = false ∧ RegsBut s t [P.KTL_CTRL]) ∧
     (kettleOn s = false → ∃ t, exec (.kettleStop m) s = .next t ∧ kettleOn t = false ∧
       OnlyRegs s.audioAccess t [P.KTL_CTRL])) ∧
   (∀ (tdm mic : List (BitVec 24)) (s : State), s.powered 34 = true → audioClock s = true →
     let n := s.ktl.next
     let begins := s.ktl.origin + periodClocks * n
     let s0 := if s.powered 35 then latchEnables s else s
     let x := micSamples mic s0
     let s1 := fireCues n ((setReg (reach (x.2.ktl.origin + periodClocks * n) x.2) P.KTL_SAMPLE
       (BitVec.ofNat 32 n)).captureEdge 4)
     (kettleOn s = false → ∃ t, exec (.kettlePeriod tdm mic) s = .next t ∧ kettleOn t = false ∧
       (s.powered 36 = true → getReg t P.MEM_LTR_KTL = 0xFFFF) ∧ t.mem = s.mem ∧ t.ktl = s.ktl) ∧
     (kettleOn s = true → s.ktl.stopping = true → ∃ t, exec (.kettlePeriod tdm mic) s = .next t ∧
       kettleOn t = false ∧ t.ktl = Kettle.reset ∧ t.mem = s.mem) ∧
     (kettleOn s = true → s.ktl.stopping = false → sendsOk s1 n = false →
       exec (.kettlePeriod tdm mic) s = .fault .kettleForm) ∧
     (kettleOn s = true → s.ktl.stopping = false → sendsOk s1 n = true →
       let s2 := (List.finRange 2).foldl (blockEnd n) s1
       let mix := computeVoices n s2
       let all := fxReturns s2 n ++ mix.1.first
       let old := s.ktl.buses
       let half := mixHalf old all n 0 mix.2
       ∃ t, exec (.kettlePeriod tdm mic) s = .next t ∧ kettleOn t = true ∧ t.ktl.next = n + 1 ∧
         getReg t P.KTL_SAMPLE = BitVec.ofNat 32 n ∧ t.clock = max s.clock begins ∧
         t.ktl.cues = s.ktl.cues.filter (fun c => !cueDue s begins c) ∧
         t.ktl.voices = mix.2.ktl.voices ∧ t.ktl.tones = mix.2.ktl.tones ∧ t.ktl.rings = mix.2.ktl.rings ∧
         t.ktl.clocks = mix.1.clocks ∧ t.mem = ((List.finRange 2).foldl (fxInputs n) half).mem ∧
         (∀ b : Fin 32,
           let v0 := busValue mix.2 old all n 0 b
           let v1 := busValue half old mix.1.second n 1 b
           t.ktl.buses[b] =
             if busDomain mix.2 b = 2 ∧ n % 3 ≠ 0 then old[b]
             else if busDomain mix.2 b = 1 then (v1 :: v0 :: old[b]).take 256
             else (v0 :: old[b]).take 256) ∧
         (∀ k : Fin 12,
           let now := if k.val < 8 then
               (if onF s P.KTL_TDM F.KTL_TDM_in_en then ((tdmReceived tdm s).getD k 0).toInt else 0)
             else x.1.getD (k.val - 8) 0
           t.ktl.inputs[k] = (now :: s.ktl.inputs[k]).take 268) ∧
         (onF s P.KTL_PROBE_CTRL F.KTL_PROBE_CTRL_arm = true → (getReg s P.KTL_PROBE_AT).toNat = n % 4294967296 →
           onF t P.KTL_PROBE_CTRL F.KTL_PROBE_CTRL_arm = false ∧
           getReg t P.KTL_PROBE_VAL = BitVec.ofNat 32
             (toBits 24 (busNow half (getF s P.KTL_PROBE_CTRL F.KTL_PROBE_CTRL_bus)) + 0x80000000)) ∧
         (s.powered 35 = true → ∀ o : Fin 8,
           let port := b2n (s.aas.fast.getLsbD o)
           let f := filterRun (if port = 1 then dc96 else dc48) (outputFeed t port n o) s.aas.filters[o]
           let p := pipeRun 3 f.1 s.aas.pipes[o]
           let heard := if s0.aas.muted.getLsbD o then p.1.map (fun _ => 0) else p.1
           t.aas.filters[o] = f.2 ∧ t.aas.pipes[o] = p.2 ∧
           t.aas.playing[o] =
             if s0.aas.enabled.getLsbD o && !(getF s P.AAS_STAT F.AAS_STAT_cd_fault).testBit o then heard else []) ∧
         (∀ i : Fin 16,
           let wide := onF s P.KTL_TDM F.KTL_TDM_out96
           let feed := if wide && decide (8 ≤ i.val) then [0, 0] else outputFeed t (b2n wide) n (8 + i.val)
           let p := pipeRun 2 feed s.aas.slotPipes[i]
           t.aas.slotPipes[i] = p.2 ∧
           t.aas.sending[i] =
             if onF s P.KTL_TDM F.KTL_TDM_out_en && !(wide && decide (8 ≤ i.val)) then p.1 else []) ∧
         t.aas.framesOut = onF s P.KTL_TDM F.KTL_TDM_out_en ∧ t.aas.framesIn = onF s P.KTL_TDM F.KTL_TDM_in_en)) ∧
   (∀ (m : Master) (bus : Fin 32) (s : State), s.reaches m true P.KTL_PROBE_CTRL = true →
     ∃ t, exec (.ktlProbeArm m bus) s = .next t ∧ OnlyRegs s.audioAccess t [P.KTL_PROBE_CTRL, P.KTL_PROBE_VAL] ∧
       getF t P.KTL_PROBE_CTRL F.KTL_PROBE_CTRL_bus = bus ∧ onF t P.KTL_PROBE_CTRL F.KTL_PROBE_CTRL_arm = true ∧
       onF t P.KTL_PROBE_VAL F.KTL_PROBE_VAL_valid = false)) ∧
  -- the firing of cues (R199, R200, R204, R209, R214)
  (∀ (n : Nat) (s : State),
    let x := s.ktl.origin + periodClocks * n
    let w := (s.ktl.cues.filter (cueDue s x)).foldl (fireCue n)
      { s with ktl := { s.ktl with cues := s.ktl.cues.filter (fun c => !cueDue s x c) } }
    let t := fireCues n s
    t = { w with regs := t.regs, ktl := { w.ktl with slots := t.ktl.slots } } ∧ RegsBut w t [P.KTL_CUE_POS]) ∧
  (∀ (c : Cue) (n : Nat) (s : State),
    let t := fireCue n s c
    let before := Tab.find s.ktl.voices c.target
    let freed := ∀ v r, before = some v → v.ring = some r → ∀ h : r < 64, t.ktl.rings[r] = none
    (onF t P.KTL_STAT F.KTL_STAT_cue_late = (onF s P.KTL_STAT F.KTL_STAT_cue_late ||
      (match cueTime s c with | some y => decide (y ≤ c.handed) | none => false))) ∧
    (c.kind ≤ 4 → ∀ j, j ≠ c.target → Tab.find t.ktl.voices j = Tab.find s.ktl.voices j) ∧
    (c.kind = 1 → ∀ y, c.sound = some y →
      let given := c.w1.getLsbD 31
      Tab.find t.ktl.voices c.target = some
        { sound := y, pos := 0, laps := 0, level := if y.attack = 0 then 65536 else 0, env := .attack, step := y.step,
          gainA := if given then sext (c.w2.toNat % 65536) 16 else y.gainA,
          gainB := if given then sext (c.w2.toNat / 65536) 16 else y.gainB, busA := y.busA, busB := y.busB, ring := c.ring } ∧
      freed) ∧
    (c.kind = 2 → Tab.find t.ktl.voices c.target = before.map (fun v => { v with env := .release })) ∧
    (c.kind = 3 → Tab.find t.ktl.voices c.target = none ∧ freed) ∧
    (c.kind = 4 → ∀ v, before = some v → Tab.find t.ktl.voices c.target = some
      (match c.w1.toNat with
      | 0 => { v with step := c.w2.toNat % 16777216 }
      | 1 => { v with gainA := sext c.w2.toNat 16 }
      | 2 => { v with gainB := sext c.w2.toNat 16 }
      | 3 => { v with busA := c.w2.toNat % 32 }
      | 4 => { v with busB := c.w2.toNat % 32 }
      | _ => v)) ∧
    (c.kind = 5 → ∀ h : c.target < 32,
      let again := c.w1.getLsbD 31
      t.ktl.tones[c.target] =
        { increment := c.w1.toNat % 16777216, wave := c.w1.toNat / 16777216 % 8, duty := c.w1.toNat / 134217728 % 16,
          volume := sext c.w2.toNat 16, bus := c.w2.toNat / 65536 % 32,
          phase := if again then 0 else s.ktl.tones[c.target].phase,
          lfsr := if again then 0x1FFFF else s.ktl.tones[c.target].lfsr } ∧
      ∀ (k : Nat) (hk : k < 32), k ≠ c.target → t.ktl.tones[k] = s.ktl.tones[k]) ∧
    (c.kind = 6 → c.target < 32 → getF t (P.KTL_BUS c.target) F.KTL_BUS_gain = c.w1.toNat % 65536 ∧ t.ktl = s.ktl) ∧
    (c.kind = 7 → c.target < 2 →
      let area := 0x8002D60000 + 0x10000 * c.target
      let i := (s.word (area + 0x2100)).toNat
      t.mem = Memory.writeBytes (Memory.writeBytes s.mem (area + 0x2000 + 16 * (i % 16))
        (natToLe 4 n ++ natToLe 4 c.w1.toNat ++ natToLe 4 c.w2.toNat ++ natToLe 4 c.w3.toNat)) (area + 0x2100)
        (natToLe 4 (i + 1)) ∧
      (s.powered 11 = true → pendBit t (srcKey (8 + c.target) 17) = true))) ∧
  -- tones, voices, buses and bridges (R194, R204, R205, R209, R210)
  (∀ (c : Fin 32) (a : Mix) (s : State),
    let q := s.ktl.tones[c]
    let r := toneSample c (a, s)
    let w : Int :=
      if q.wave = 1 then (if q.phase < (q.duty + 1) * 1048576 then 4194304 else -4194304)
      else if q.wave = 2 then ((min q.phase (16777215 - q.phase) : Nat) : Int) - 4194304
      else if q.wave = 3 then ((q.phase / 2 : Nat) : Int) - 4194304
      else if q.lfsr.getLsbD 0 then 4194304 else -4194304
    (q.wave = 0 → r = (a, s)) ∧
    (q.wave ≠ 0 → q.phase < 16777216 → q.increment < 16777216 →
      r.1 = { a with first := (q.bus, (w * q.volume + 8192) / 16384) :: a.first, clocks := a.clocks + 1 } ∧
      r.2.ktl.tones[c] = { q with
        phase := (q.phase + q.increment) % 16777216
        lfsr := if q.phase + q.increment < 16777216 then q.lfsr
          else (q.lfsr >>> 1) ||| (((q.lfsr ^^^ (q.lfsr >>> 3)) &&& 1) <<< 16) } ∧
      r.2 = { s with ktl := { s.ktl with tones := r.2.ktl.tones } } ∧
      ∀ k : Fin 32, k ≠ c → r.2.ktl.tones[k] = s.ktl.tones[k])) ∧
  (∀ (v : Voice) (s : State), v.sound.length ≠ 0 → v.pos / 65536 < v.sound.length → v.level ≤ 65536 →
    v.sound.sustain ≤ 65536 →
    let y := v.sound
    (∀ a, v.pos % 65536 = 0 → voiceX s v (v.pos / 65536) (unrolled v (v.pos / 65536)) = some a →
      voiceValue s v = ((a * (v.level : Int) + 32768) / 65536, 0)) ∧
    (∀ w, voiceNext v = some w → w.level ≤ 65536 ∧ w.sound = y ∧ w.step = v.step ∧ w.ring = v.ring ∧
      (if (v.pos + v.step) / 65536 < y.length then w.pos = v.pos + v.step ∧ w.laps = v.laps
        else y.loop = true ∧ w.pos + 65536 * (y.length - y.loopStart) = v.pos + v.step ∧ w.laps = v.laps + 1) ∧
      (v.env = .attack → w.level = min (v.level + y.attack) 65536 ∧ (w.env = .decay ↔ w.level = 65536)) ∧
      (v.env = .sustain → w.level = v.level ∧ w.env = .sustain) ∧
      (v.env = .release → w.level + y.release = v.level ∧ 0 < w.level)) ∧
    (voiceNext v = none ↔ (v.env = .release ∧ (y.release = 0 ∨ v.level ≤ y.release)) ∨
      (y.loop = false ∧ y.length ≤ (v.pos + v.step) / 65536))) ∧
  (∀ (n i : Nat) (v : Voice) (a : Mix) (s : State), samplesIn v.sound.domain n ≠ 0 →
    let r := voicePeriod n (a, s) (i, v)
    let made := if v.sound.domain = 1 ∧ (voiceNext v).isSome = true then 2 else 1
    (3840 ≤ a.clocks → r.1 = { a with overrun := true }) ∧
    (a.clocks < 3840 → r.1.clocks = a.clocks + 6 * made ∧ r.1.overrun = a.overrun ∧
      r.1.first = (v.busA, ((voiceValue s v).1 * v.gainA + 8192) / 16384) ::
        (v.busB, ((voiceValue s v).1 * v.gainB + 8192) / 16384) :: a.first ∧
      ∀ w, made = 2 → voiceNext v = some w →
        r.1.second = (w.busA, ((voiceValue s w).1 * w.gainA + 8192) / 16384) ::
          (w.busB, ((voiceValue s w).1 * w.gainB + 8192) / 16384) :: a.second)) ∧
  (∀ (s : State) (old : Vector (List Int) 32) (l : List (Nat × Int)) (n i b : Nat),
    let sum := (l.map (fun e => if e.1 = b then e.2 else 0)).sum + inputSum s n i b + bridgeSum s old n i b
    let y := (sum * sext (getF s (P.KTL_BUS b) F.KTL_BUS_gain) 16 + 8192) / 16384
    busValue s old l n i b = max (-8388608) (min y 8388607)) ∧
  (∀ k j, j < bridgeLen k → tapOf k j = tapOf k (bridgeLen k - 1 - j)) ∧
  (∀ (src dst n i : Nat) (l : List Int), src ≤ 2 → dst ≤ 2 → (∀ x ∈ l, x = 0) → bridged src dst n i l = 0) ∧
  ((∀ (f : CueSlot) (s : State), nextSlotOf s.ktl = some f →
     let a := cueSlotAddr s f.frame
     let n := bits (s.word (a + 4)).toNat 7 0
     let w0 (i : Nat) := (s.word (a + 16 + 16 * i)).toNat
     let w1 (i : Nat) := (s.word (a + 16 + 16 * i + 4)).toNat
     let view (u : State) := (u.word a, (List.range (16 * n)).map (fun i => u.byte (a + 16 + i)))
     let good := ∀ i < n, (bits (w0 i) 19 16 = 5 → bits (w1 i) 26 24 < 5) ∧
       (bits (w0 i) 19 16 = 1 → bits (w1 i) 15 0 < getF s P.KTL_SND F.KTL_SND_count →
         soundOk s (bits (w1 i) 15 0) (soundAt s (bits (w1 i) 15 0)) = true)
     (s.dramSize < a + 4096 → exec .cueSlotRead s = .fault .kettleForm) ∧
     (a + 4096 ≤ s.dramSize → ArbiterIdle s → (∀ f, view { s with free := f } = view s) →
       (∀ f k, k < getF s P.KTL_SND F.KTL_SND_count → soundAt { s with free := f } k = soundAt s k) →
       ((s.word a).toNat ≠ f.frame → ∃ t, exec .cueSlotRead s = .next t ∧
         onF t P.KTL_STAT F.KTL_STAT_cue_err = true ∧ t.ktl.cues = s.ktl.cues ∧
         RegsBut s t ([P.KTL_STAT, P.KTL_CUE_POS] ++ dramKeys 11) ∧ t.mem = s.mem ∧
         ∀ x ∈ t.ktl.slots, x.frame = f.frame → x.read = true) ∧
       ((s.word a).toNat = f.frame → ¬good → exec .cueSlotRead s = .fault .kettleForm) ∧
       ((s.word a).toNat = f.frame → good →
         ∃ t, exec .cueSlotRead s = .next t ∧ RegsBut s t ([P.KTL_STAT, P.KTL_CUE_POS] ++ dramKeys 11) ∧
           t.mem = s.mem ∧
           (∃ new, t.ktl.cues = s.ktl.cues ++ new ∧ new.length ≤ n ∧ ∀ c ∈ new, c.frame = f.frame) ∧
           ∀ x ∈ t.ktl.slots, x.frame = f.frame → x.read = true))) ∧
   (∀ (r : Fin 64) (q : StreamRing) (s : State), s.ktl.rings[r] = some q →
     let n := if q.sound.loop then 64 else min 64 (soundBytes q.sound - q.filled)
     (7168 < q.filled - q.passed ∨ n = 0 → exec (.streamFill r) s = .next s) ∧
     (q.filled - q.passed ≤ 7168 → n ≠ 0 → ArbiterIdle s → ∃ t, exec (.streamFill r) s = .next t ∧
       RegsBut s t (dramKeys 11) ∧ t.ktl.rings[r] = some { q with filled := q.filled + n } ∧
       (∃ f, ∀ i < n, t.stored (ringBase r + (q.filled + i) % 8192) =
         State.byte { s with free := f } (q.sound.addr + streamByte q.sound (q.filled + i))) ∧
       ∀ key, (∀ i < n, key ≠ ringBase r + (q.filled + i) % 8192) → Tab.find t.mem key = Tab.find s.mem key)))

/-- R217, R220 to R222: a Class-D output whose feedback fails stops, sets its fault bit and the cause, and raises tilt;
calibration is requested by bit, goes on step by step, and reports and sets its done bit after its last step; the
power-up calibration reports for every unit and gives the enables free. -/
def Obligations.Analogue : Prop :=
  (∀ (o : Fin 8) (collapsed : Bool) (s : State), s.powered 35 = true → s.aas.enabled.getLsbD o = true →
    (getF s P.AAS_STAT F.AAS_STAT_cd_fault).testBit o = false → s.pwr.inReset = false → s.tilt.code = none →
    let cause := if collapsed then 1 else 2
    ∃ t, exec (.cdFault o collapsed) s = .next t ∧ t.tilt.code = some (0x2000 + cause) ∧
      (getF t P.AAS_STAT F.AAS_STAT_cd_fault).testBit o = true ∧ t.aas.playing[o] = [] ∧
      getF t P.AAS_STAT F.AAS_STAT_tilt_cause =
        if getF s P.AAS_STAT F.AAS_STAT_tilt_cause = 0 then cause else getF s P.AAS_STAT F.AAS_STAT_tilt_cause) ∧
  (∀ (m : Master) (v : BitVec 12) (s : State), s.reaches m true P.AAS_CAL_REQ = true →
    ∃ t, exec (.aasCalReq m v) s = .next t ∧ getReg t P.AAS_CAL_REQ = (getReg s P.AAS_CAL_REQ ||| v.setWidth 32) ∧
      RegsBut s t [P.AAS_CAL_REQ] ∧
      ∀ u : Fin 12, t.aas.cal[u] = if s.aas.cal[u].isSome then s.aas.cal[u] else if v.getLsbD u then some ⟨0, 0⟩ else none) ∧
  (∀ (u : Fin 12) (rpt : BitVec 28) (c : Calibration) (s : State), s.aas.cal[u] = some c → calPeriods ≤ c.periods →
    let steps := if u.val < 8 then 8 else 4
    (c.steps + 1 < steps → ∃ t, exec (.calibrationStep u rpt) s = .next t ∧ t.aas.cal[u] = some ⟨c.steps + 1, 0⟩ ∧
      t.regs = s.regs) ∧
    (steps ≤ c.steps + 1 → (∀ h : u.val < 8, 480 ≤ s.aas.zeros[u.val]) →
      ∃ t, exec (.calibrationStep u rpt) s = .next t ∧ t.aas.cal[u] = none ∧
        getReg t (rptPort u) = rpt.setWidth 32 ∧ (getReg t P.AAS_CAL_DONE).getLsbD u = true ∧
        (getReg t P.AAS_CAL_REQ).getLsbD u = false ∧ RegsBut s t [rptPort u, P.AAS_CAL_DONE, P.AAS_CAL_REQ])) ∧
  (∀ (rpts : List (BitVec 28)) (s : State), s.aas.powerUp = true → s.powered 35 = true →
    ∃ t, exec (.powerUpCalibrationDone rpts) s = .next t ∧ t.aas = { s.aas with powerUp := false } ∧
      (∀ u : Fin 12, getReg t (rptPort u) = (rpts.getD u 0).setWidth 32) ∧
      RegsBut s t ((List.finRange 12).map rptPort))

/-! ## The DMA engine (chapter 14) -/

/-- R287, R289, R290, R292 to R297: Run 1 starts a channel that is idle or done at instruction 0 with no loop open,
and resumes a stopped or failed one where it stood; a share that is empty or leaves the FIFO fails with code 7; run 0
lets a busy channel drain; other writes change nothing. A drain ends when the channel's writes have been granted and the
last granule has been read back, in the channel's turn, and what waited for it then happens. Event flags are set and cleared by
their registers, a flag that is set in the clock of its clear standing set; a free SHA-256 unit goes to the lowest-numbered
channel that waits; a rate window gives every channel its limit, and none to a channel without one. (That a resume checks the
share and clears err_code as a start does is the model's choice, log 93.) -/
def Obligations.DmaRegisters : Prop :=
  (let Starts (n : Fin 32) (i : Instr) (s : State) : Prop :=
     let fresh := decide (chState s n = 0 ∨ chState s n = 4)
     let bad := decide (fifoSize s n = 0 ∨ 128 < fifoBase s n + fifoSize s n)
     (chBusy s n = true → exec i s = .next s) ∧
     (chBusy s n = false → bad = true → ∃ t, exec i s = .next t ∧ chState t n = 5 ∧
       getF t (P.DMA_CH_STAT n) F.DMA_CH_STAT_err_code = 7 ∧ onF t (P.DMA_CH_STAT n) F.DMA_CH_STAT_err = true ∧
       onF t (P.DMA_CH_CTRL n) F.DMA_CH_CTRL_run = false) ∧
     (chBusy s n = false → bad = false → (∀ k : Fin 32, fifoOverlap s n k = false) → ∃ t, exec i s = .next t ∧
       chState t n = 1 ∧ onF t (P.DMA_CH_CTRL n) F.DMA_CH_CTRL_run = true ∧
       getF t (P.DMA_CH_STAT n) F.DMA_CH_STAT_err_code = 0 ∧
       (fresh = true → chPc t n = 0 ∧ t.dma[n].loops = [] ∧ t.dma[n].check = none ∧ t.dma[n].moved = none ∧
         t.dma[n].fifo = [] ∧ t.dma[n].fetched = false) ∧
       (fresh = false → chPc t n = chPc s n ∧ t.dma = s.dma) ∧
       RegsBut s t [P.DMA_CH_CTRL n, P.DMA_CH_STAT n, P.DMA_CH_PC n] ∧ t.mem = s.mem ∧
       ∀ k : Fin 32, k ≠ n → t.dma[k] = s.dma[k])
   (∀ (m : Master) (n : Fin 32) (s : State), s.reaches m true (P.DMA_CH_CTRL n) = true →
     Starts n (.channelStart m n) s ∧ Starts n (.channelResume m n) s) ∧
   (∀ (m : Master) (n : Fin 32) (s : State), s.reaches m true (P.DMA_CH_CTRL n) = true →
     (chBusy s n = false → exec (.channelStop m n) s = .next s) ∧
     (chBusy s n = true → ∃ t, exec (.channelStop m n) s = .next t ∧
       onF t (P.DMA_CH_CTRL n) F.DMA_CH_CTRL_run = false ∧ RegsBut s t [P.DMA_CH_CTRL n] ∧ t.mem = s.mem ∧
       (t.dma[n].drain = some .stop ∨ t.dma[n].stopDue = true) ∧ ∀ k : Fin 32, k ≠ n → t.dma[k] = s.dma[k])) ∧
   (∀ (n : Fin 32) (x : Drain) (s : State), dmaOn s = true → s.dma[n].drain = some x →
     (writesWait n s = true → exec (.drainEnd n) s = .next s) ∧
     (s.dma[n].last.isSome = true → served n s = false → exec (.drainEnd n) s = .next s) ∧
     (writesWait n s = false → (∀ a, s.dma[n].last = some a → AccessNow s a ∧ nextServed s = some n) →
     ∃ t, exec (.drainEnd n) s = .next t ∧ t.mem = s.mem ∧ t.dma[n].undrained = [] ∧ t.dma[n].last = none ∧
       t.dmaLast = (if s.dma[n].last.isSome then n else s.dmaLast) ∧
       RegsBut s t ([P.DMA_CH_CTRL n, P.DMA_CH_STAT n, P.DMA_CH_PC n, P.DMA_EVENT_SET 0, P.DMA_EVENT_SET 1] ++
         dramKeys 10) ∧
       (x = .finish → chState t n = 4 ∧ onF t (P.DMA_CH_STAT n) F.DMA_CH_STAT_done = true ∧ t.dma[n].drain = none ∧
         onF t (P.DMA_CH_CTRL n) F.DMA_CH_CTRL_run = false) ∧
       (x = .stop → chState t n = 3 ∧ t.dma[n].drain = none) ∧
       (∀ code, x = .fail code → chState t n = 5 ∧ t.dma[n].drain = none ∧
         onF t (P.DMA_CH_CTRL n) F.DMA_CH_CTRL_run = false ∧
         getF t (P.DMA_CH_STAT n) F.DMA_CH_STAT_err_code = code % 8) ∧
       (x = .signal → (∀ f, progWord { s with free := f } n 0 = progWord s n 0) → DmaNext n (chPc s n + 1) s t ∧
         (bit (progWord s n 0) 16 = true → bits (progWord s n 0) 13 8 < 48 →
           eventFlag t (bits (progWord s n 0) 13 8) = true) ∧
         (bit (progWord s n 0) 17 = true → onF t (P.DMA_CH_STAT n) F.DMA_CH_STAT_sig = true))))) ∧
  ((∀ (m : Master) (w : Fin 2) (v : Word) (s : State),
     (s.reaches m true (P.DMA_EVENT_SET w) = true → ∃ t, exec (.dmaEventSet m w v) s = .next t ∧
       getReg t (P.DMA_EVENT_SET w) = (getReg s (P.DMA_EVENT_SET w) ||| v) ∧ OnlyRegs s t [P.DMA_EVENT_SET w]) ∧
     (s.reaches m true (P.DMA_EVENT_CLR w) = true → ∀ sets : Word, ∃ t, exec (.dmaEventClr m w ⟨v, sets⟩) s = .next t ∧
       getReg t (P.DMA_EVENT_SET w) = ((getReg s (P.DMA_EVENT_SET w) &&& ~~~v) ||| sets) ∧
       OnlyRegs s t [P.DMA_EVENT_SET w])) ∧
   (∀ (n : Fin 32) (s : State), dmaOn s = true → shaOpen s < 4 → s.dma[n].shaWaits = true →
     (∀ k : Fin 32, k < n → s.dma[k].shaWaits = false) →
     ∃ t, exec .shaUnitGrant s = .next t ∧ t.dma[n].shaWaits = false ∧ t.dma[n].check = some (.sha []) ∧
       chPc t n = (chPc s n + 1) % 1048576 ∧ RegsBut s t [P.DMA_CH_PC n] ∧
       ∀ k : Fin 32, k ≠ n → t.dma[k] = s.dma[k]) ∧
   (∀ s : State, dmaOn s = true → ∃ t, exec .rateWindow s = .next t ∧ t = { s with dma := t.dma } ∧
     ∀ n : Fin 32, t.dma[n] = { s.dma[n] with
       allowance := if getF s (P.DMA_CH_RATE n) F.DMA_CH_RATE_limit = 0 then none
         else some (getF s (P.DMA_CH_RATE n) F.DMA_CH_RATE_limit) }))

/-- R280 to R286, R289 to R294: what each instruction of a DMA program does once the rotation has come to the channel and it
has been fetched, as the idle arbiters grant, and passes its checks; one that fails a check drains, with its code, and stops. A
MOVE loads its pointers; when the rotation comes to the channel it reads a burst or a granule into its share, or writes the
oldest of it, and after its last write SP and DP have advanced by its length. The store of a check value waits for a turn of its
own. A WAIT whose flag is set is over for every channel that waits for it without clear and for the lowest that clears it; the
flag then stands only when it is set in that clock. (The program holds no byte that nothing has written, which is free.) -/
def Obligations.DmaPrograms : Prop :=
  ∀ (n : Fin 32) (s : State),
    let c := s.dma[n]
    let w (i : Nat) := progWord s n i
    let pc := chPc s n
    let ready (op : Nat) : Prop := dmaReady n op s = true ∧ ArbiterIdle s ∧ c.fetched = false ∧ nextServed s = some n ∧
      ∀ f, ∀ i < 4, progWord { s with free := f } n i = progWord s n i
    let Drains (t : State) (x : Drain) : Prop :=
      t.dma[n] = { c with drain := some x } ∧ t.mem = s.mem ∧ RegsBut s t (dramKeys 10)
    let Wrote (t : State) (a : Nat) (bs : List Byte) : Prop :=
      (s.region a ≠ .dram → t.mem = Memory.writeBytes s.mem a bs) ∧
      (s.region a = .dram → t.mem = s.mem ∧
        ∃ r, (requester t 10).waiting = (requester s 10).waiting ++ [r] ∧ r.addr = a ∧ r.data = some bs)
    (ready 1 →
      let sp := if bit (w 0) 4 then w 1 + 4294967296 * bits (w 0) 15 8 else chSp s n
      let dp := if bit (w 0) 5 then w 2 + 4294967296 * bits (w 0) 23 16 else chDp s n
      (moveWild sp dp (w 3) = true → ∀ g, exec (.dmaMove n g) s = .fault .dmaForm) ∧
      (moveWild sp dp (w 3) = false → ∃ t, exec (.dmaMove n 0) s = .next t ∧ chSp t n = sp ∧ chDp t n = dp ∧
        t.dma[n] = { c with moved := some 0 } ∧ t.mem = s.mem)) ∧
    (∀ k, dmaOn s = true → chState s n = 1 → c.drain = none → c.shaWaits = false → progAt s n + 16 ≤ s.dramSize →
      w 0 % 16 = 1 → c.moved = some k → moveWild (chSp s n) (chDp s n) (w 3) = false →
      (served n s = false → ∀ g, exec (.dmaMove n g) s = .next s) ∧
      (nextServed s = some n →
        let r := readReady s n (w 3)
        let g := writeReady s n (w 3)
        (∀ e, moveStop n (w 3) s = some e → exec (.dmaMove n 1) s = .fault e) ∧
        (∀ h, moveStop n (w 3) s = none → 0 < r → engineRead n (chSp s n + k) s = .error h →
          exec (.dmaMove n 1) s = .next (engineHeld n h s)) ∧
        (moveStop n (w 3) s = none → 0 < r → AccessNow s (chSp s n + k) →
          ∃ t f, exec (.dmaMove n 1) s = .next t ∧ t.mem = s.mem ∧ t.dma[n].moved = some (k + 32 * r) ∧
            t.dma[n].fifo = c.fifo ++
              (List.range r).map (fun i => granuleRead n (chSp s n + k + 32 * i) { s with free := f }) ∧
            t.dma[n].allowance = c.allowance.map (fun x => x - r) ∧ t.dmaLast = n) ∧
        (moveStop n (w 3) s = none → r = 0 →
          ∃ t, exec (.dmaMove n 1) s = .next t ∧ t.dmaLast = n ∧
            Wrote t (chDp s n + (k - 32 * c.fifo.length)) (c.fifo.take g).flatten ∧
            (if k = w 3 ∧ c.fifo.drop g = [] then
              t.dma[n].moved = none ∧ DmaNext n (pc + 1) s t ∧ chSp t n = (chSp s n + w 3) % 1099511627776 ∧
                chDp t n = (chDp s n + w 3) % 1099511627776
            else t.dma[n].moved = some k ∧ t.dma[n].fifo = c.fifo.drop g)))) ∧
    (ready 2 → ∃ t, exec (.dmaLoop n) s = .next t ∧ t.dma[n].loops = (pc + 1, w 1) :: c.loops ∧
      DmaNext n (pc + 1) s t ∧ RegsBut s t (P.DMA_CH_PC n :: dramKeys 10) ∧ t.mem = s.mem) ∧
    (∀ i r ls, ready 3 → c.loops = (i, r) :: ls → ∃ t, exec (.dmaEndl n) s = .next t ∧
      chSp t n = addSkip (chSp s n) (w 1) ∧ chDp t n = addSkip (chDp s n) (w 2) ∧
      (1 < r → t.dma[n].loops = (i, r - 1) :: ls ∧ DmaNext n i s t) ∧
      (r ≤ 1 → t.dma[n].loops = ls ∧ DmaNext n (pc + 1) s t) ∧ t.mem = s.mem) ∧
    (ready 4 → ∃ t, exec (.dmaWait n) s = .next t ∧ chState t n = 2 ∧
      OnlyDram 10 { s with dmaLast := n } t [P.DMA_CH_STAT n] ∧ t.mem = s.mem) ∧
    (∀ set : Bool, dmaOn s = true → waits s n = true → eventFlag s (waitEvent s n) = true →
      let e := waitEvent s n
      let clearer (k : Fin 32) := waits s k && decide (waitEvent s k = e) && waitClears s k
      ∃ t, exec (.waitProceed ⟨n, set⟩) s = .next t ∧ t.mem = s.mem ∧
        (∀ k : Fin 32, waits s k = true → waitEvent s k = e → waitClears s k = false →
          chState t k = 1 ∧ DmaNext k (chPc s k + 1) s t) ∧
        (∀ k : Fin 32, clearer k = true → (∀ j < k, clearer j = false) →
          chState t k = 1 ∧ DmaNext k (chPc s k + 1) s t ∧ eventFlag t e = set) ∧
        ((∀ k, clearer k = false) → eventFlag t e = true)) ∧
    (ready 5 → ∃ t, exec (.dmaSignal n) s = .next t ∧ Drains t .signal) ∧
    (ready 6 → bits (w 0) 5 4 = 0 → ∃ t, exec (.crcBegin n) s = .next t ∧ t.mem = s.mem ∧
      (bit (w 0) 6 = false → t.dma[n].check = some (.crc 0xFFFFFFFF) ∧ DmaNext n (pc + 1) s t) ∧
      (bit (w 0) 6 = true → shaOpen s < 4 → (∀ k : Fin 32, s.dma[k].shaWaits = false) →
        t.dma[n].check = some (.sha []) ∧ DmaNext n (pc + 1) s t) ∧
      (bit (w 0) 6 = true → 4 ≤ shaOpen s → t.dma[n].shaWaits = true ∧ RegsBut s t (dramKeys 10))) ∧
    (∀ k, ready 6 → bits (w 0) 5 4 = 1 → c.check = some k →
      let a := w 1 + 4294967296 * bits (w 0) 15 8
      (∀ e, engineStop true a 32 s = some e → exec (.crcStore n) s = .fault e) ∧
      (engineStop true a 32 s = none → (∀ f m, requestReady { s with free := f } m = requestReady s m) →
        ((∃ m, m ≠ n ∧ requestReady s m = true) → ∃ t, exec (.crcStore n) s = .next t ∧
          t.dma[n] = { c with fetched := true } ∧ t.dmaLast = n ∧ t.mem = s.mem) ∧
        ((∀ m, m ≠ n → requestReady s m = false) → ∃ t, exec (.crcStore n) s = .next t ∧ t.dma[n].check = none ∧
          DmaNext n (pc + 1) s t ∧ Wrote t a k.granule))) ∧
    (∀ k, dmaOn s = true → chState s n = 1 → c.drain = none → c.shaWaits = false → c.moved = none → c.fetched = true →
      progAt s n + 16 ≤ s.dramSize → w 0 % 16 = 6 → bits (w 0) 5 4 = 1 → c.check = some k →
      let a := w 1 + 4294967296 * bits (w 0) 15 8
      (∀ e, engineStop true a 32 s = some e → exec (.crcStore n) s = .fault e) ∧
      (engineStop true a 32 s = none → (served n s = false → exec (.crcStore n) s = .next s) ∧
        (nextServed s = some n → ∃ t, exec (.crcStore n) s = .next t ∧ t.dma[n].check = none ∧
          t.dma[n].fetched = false ∧ t.dmaLast = n ∧ DmaNext n (pc + 1) s t ∧ Wrote t a k.granule))) ∧
    (ready 7 → ∃ t, exec (.endProgram n) s = .next t ∧ Drains t .finish) ∧
    (∀ i g, (i, true) ∈ [(Instr.dmaMove n g, w 0 % 16 == 1), (.dmaLoop n, w 0 % 16 == 2), (.dmaEndl n, w 0 % 16 == 3),
        (.dmaWait n, w 0 % 16 == 4), (.dmaSignal n, w 0 % 16 == 5), (.crcBegin n, w 0 % 16 == 6 && bits (w 0) 5 4 == 0),
        (.crcStore n, w 0 % 16 == 6 && bits (w 0) 5 4 == 1), (.endProgram n, w 0 % 16 == 7)].map
          (fun p => (p.1, p.2 || (namedBits (w 0)).isNone)) →
      dmaOn s = true → chState s n = 1 → c.drain = none → c.shaWaits = false → c.moved = none → c.fetched = false →
      progAt s n + 16 ≤ s.dramSize →
      (served n s = false → exec i s = .next s) ∧
      (nextServed s = some n → ArbiterIdle s → (∀ f, ∀ j < 4, progWord { s with free := f } n j = progWord s n j) →
        let code := checkCode c (w 0) (w 1) (w 2) (w 3)
        code ≠ 0 → ∃ t, exec i s = .next t ∧ Drains t (.fail code)))

/-! ## Timers and counters (chapter 15) -/

/-- R299 to R305: a tick of a running timer moves its count as its mode says; a wrap tick sets wrap and takes the TOP in
the shadow; a count that meets the comparator sets match and drives the output as out_mode says, and PWM drives it at
every tick. -/
def Obligations.TimerTicks : Prop :=
  ∀ (n : Fin 16) (s : State), tmrTicks s n = true →
    let c := s.tmr[n].count
    let top := tmrTop s n
    let down := onF s (P.TMR_STAT n) F.TMR_STAT_down
    let mode := tmrMode s n
    let wraps := (mode = 0 ∧ top ≤ c) ∨ (mode = 1 ∧ c = 0) ∨
      (2 ≤ mode ∧ ((c = 0 ∧ top = 0) ∨ (¬(c = 0 ∧ top = 0) ∧ ¬((down = false ∨ c = 0) ∧ c < top) ∧ c - 1 = 0)))
    let next := nextCount s n
    let hit := next = tmrCmp s n
    let out := onF s (P.TMR_STAT n) F.TMR_STAT_out
    ∃ t, exec (.timerTick n) s = .next t ∧ t.tmr[n].count = next ∧
      (mode = 0 → next = if top ≤ c then 0 else c + 1) ∧
      (mode = 1 → next = if c = 0 then s.tmr[n].shadow.getD top else c - 1) ∧
      (2 ≤ mode → next = if c = 0 ∧ top = 0 then 0 else if (down = false ∨ c = 0) ∧ c < top then c + 1 else c - 1) ∧
      (wraps → onF t (P.TMR_STAT n) F.TMR_STAT_wrap = true ∧ t.tmr[n].shadow = none ∧
        ∀ v, s.tmr[n].shadow = some v → v < 281474976710656 → tmrTop t n = v) ∧
      (¬wraps → onF t (P.TMR_STAT n) F.TMR_STAT_wrap = onF s (P.TMR_STAT n) F.TMR_STAT_wrap ∧
        t.tmr[n].shadow = s.tmr[n].shadow ∧ tmrTop t n = top) ∧
      (hit → onF t (P.TMR_STAT n) F.TMR_STAT_match = true) ∧
      (¬hit → onF t (P.TMR_STAT n) F.TMR_STAT_match = onF s (P.TMR_STAT n) F.TMR_STAT_match) ∧
      onF t (P.TMR_STAT n) F.TMR_STAT_out =
        (if tmrOutMode s n = 4 then decide (next < tmrCmp s n)
        else if next = tmrCmp s n then
          (if tmrOutMode s n = 1 then true else if tmrOutMode s n = 2 then false
          else if tmrOutMode s n = 3 then !out else out)
        else out) ∧
      RegsBut s t [P.TMR_STAT n, P.TMR_TOP_LO n, P.TMR_TOP_HI n, P.DMA_EVENT_SET 1] ∧
      (∀ k : Fin 16, k ≠ n → t.tmr[k] = s.tmr[k]) ∧
      t = { s.edged t with regs := t.regs, tmr := t.tmr, pmc := t.pmc } ∧
      (wraps → exec (.wrapTick n) s = .next t) ∧ (hit → exec (.matchEvent n) s = .next t)

/-- R299, R301, R302, R304, R309, R306 to R308: Running a timer, its TOP (through the shadow while it runs), its
comparator, and the four commands of TMR_CMD. A high half whose low half has not been written since device reset stops
the block. An edge that arrives, of a pin whose pad can have the level, or of an internal source that has set out, and that
the timer captures puts the count into TMR_CAPR or TMR_CAPF, with ovr over an unread capture; a
falling edge with pair waits for a rising one and gives the ticks between; a read of the low half takes the high half
into its hold. -/
def Obligations.TimerRegistersAndCaptures : Prop :=
  (∀ (m : Master) (n : Fin 16) (s : State),
     (∀ (mode : Fin 3) (prescale : BitVec 8) (outMode : Fin 5) (dmaSel : Fin 4),
       s.reaches m true (P.TMR_CTRL n) = true → (tmrRuns s n = true → tmrMode s n ≠ 3) →
       ∃ t, exec (.timerRun m n mode prescale outMode dmaSel) s = .next t ∧ OnlyRegsLatched s t [P.TMR_CTRL n] ∧
         tmrRuns t n = true ∧ tmrOutMode t n = outMode ∧ getF t (P.TMR_CTRL n) F.TMR_CTRL_dma_sel = dmaSel ∧
         tmrMode t n = (if tmrRuns s n then tmrMode s n else mode) ∧
         getF t (P.TMR_CTRL n) F.TMR_CTRL_prescale =
           if tmrRuns s n then getF s (P.TMR_CTRL n) F.TMR_CTRL_prescale else prescale.toNat) ∧
     (∀ high : BitVec 16, s.reaches m true (P.TMR_TOP_HI n) = true →
       (s.tmr[n].topStaged = none → exec (.topWrite m n high) s = .fault .timerForm) ∧
       (∀ lo, s.tmr[n].topStaged = some lo → ∃ t, exec (.topWrite m n high) s = .next t ∧
         t.tmr[n].count = s.tmr[n].count ∧
         (tmrRuns s n = true → t.tmr[n].shadow = some (lo.toNat + 4294967296 * high.toNat) ∧ t.regs = s.regs) ∧
         (tmrRuns s n = false → tmrTop t n = lo.toNat + 4294967296 * high.toNat ∧ t.tmr[n].shadow = none ∧
           RegsBut s t [P.TMR_TOP_LO n, P.TMR_TOP_HI n]))) ∧
     (∀ high : BitVec 16, s.reaches m true (P.TMR_CMP_HI n) = true →
       (s.tmr[n].cmpStaged = none → exec (.comparatorWrite m n high) s = .fault .timerForm) ∧
       (∀ lo, s.tmr[n].cmpStaged = some lo → ∃ t, exec (.comparatorWrite m n high) s = .next t ∧
         tmrCmp t n = lo.toNat + 4294967296 * high.toNat ∧ OnlyRegs s t [P.TMR_CMP_LO n, P.TMR_CMP_HI n])) ∧
     (s.reaches m true (P.TMR_CMD n) = true →
       (∃ t, exec (.timerSnap m n) s = .next t ∧ OnlyRegsLatched s t [P.TMR_SNAP_LO n, P.TMR_SNAP_HI n] ∧
         pairOf t (P.TMR_SNAP_LO n) (P.TMR_SNAP_HI n) = s.tmr[n].count % 281474976710656) ∧
       (∃ t, exec (.timerClear m n) s = .next t ∧
         t.tmr[n].count = (if tmrMode s n = 1 then tmrTop s n else 0) ∧
         onF t (P.TMR_STAT n) F.TMR_STAT_down = false ∧ RegsBut s t [P.TMR_STAT n]) ∧
       (∃ t, exec (.outSet m n) s = .next t ∧ OnlyRegsLatched s t [P.TMR_STAT n] ∧
         onF t (P.TMR_STAT n) F.TMR_STAT_out = true) ∧
       (∃ t, exec (.outClr m n) s = .next t ∧ OnlyRegsLatched s t [P.TMR_STAT n] ∧
         onF t (P.TMR_STAT n) F.TMR_STAT_out = false))) ∧
  ((∀ (n : Fin 16) (e : CapEdge) (s : State), s.powered 11 = true → s.cpuClock = true →
     let c := s.tmr[n]
     let cfg := P.TMR_CAPCTRL n
     let mine := getF s cfg F.TMR_CAPCTRL_src = capSrc e
     let pad := 16 + n.val
     let arrives : Prop := match e with
       | .pin high => c.level ≠ high ∧ (pinHeld s pad = true → pinValue s pad = high)
       | .beam _ | .kettle => c.edges.getLsbD (capSrc e - 1) = true
     let rising := mine ∧ onF s cfg F.TMR_CAPCTRL_rise = true ∧ arrives ∧ e ≠ .pin false
     let falling := mine ∧ onF s cfg F.TMR_CAPCTRL_fall = true ∧ arrives ∧ e = .pin false
     (¬arrives → exec (.timerCapture n e) s = .next s) ∧
     ∃ t, exec (.timerCapture n e) s = .next t ∧ (∀ k : Fin 16, k ≠ n → t.tmr[k] = s.tmr[k]) ∧
       t.tmr[n].count = c.count ∧ (∀ high, arrives → e = .pin high → t.tmr[n].level = high) ∧
       ((∀ high, e ≠ .pin high) → t.tmr[n].edges.getLsbD (capSrc e - 1) = false) ∧
       (rising → getReg t (P.TMR_CAPR_LO n) = BitVec.ofNat 32 c.count ∧ t.tmr[n].rHigh = c.count / 4294967296 ∧
         t.tmr[n].rUnread = true ∧ onF t (P.TMR_STAT n) F.TMR_STAT_capr = true ∧
         (c.rUnread = true → onF t (P.TMR_STAT n) F.TMR_STAT_ovr = true) ∧
         RegsBut s t [P.TMR_CAPR_LO n, P.TMR_STAT n]) ∧
       (falling → (onF s cfg F.TMR_CAPCTRL_pair = true → c.since.isSome = true) →
         getReg t (P.TMR_CAPF_LO n) = BitVec.ofNat 32 c.count ∧ t.tmr[n].fUnread = true ∧
         onF t (P.TMR_STAT n) F.TMR_STAT_capf = true ∧
         (∀ k, onF s cfg F.TMR_CAPCTRL_pair = true → c.since = some k →
           getReg t (P.TMR_WIDTH n) = BitVec.ofNat 32 k)) ∧
       (falling → onF s cfg F.TMR_CAPCTRL_pair = true → c.since = none → t.regs = s.regs) ∧
       (¬rising → ¬falling → t.regs = s.regs)) ∧
   (∀ (m : Master) (n : Fin 16) (s : State),
     (s.reaches m false (P.TMR_CAPR_LO n) = true → ∃ t, exec (.captureRead m n false) s = .next t ∧
       t.rdata = getReg s (P.TMR_CAPR_LO n) ∧ getReg t (P.TMR_CAPR_HI n) = BitVec.ofNat 32 s.tmr[n].rHigh ∧
       t.tmr[n].rUnread = false ∧ RegsBut s t [P.TMR_CAPR_HI n]) ∧
     (s.reaches m false (P.TMR_CAPF_LO n) = true → ∃ t, exec (.captureRead m n true) s = .next t ∧
       t.rdata = getReg s (P.TMR_CAPF_LO n) ∧ getReg t (P.TMR_CAPF_HI n) = BitVec.ofNat 32 s.tmr[n].fHigh ∧
       t.tmr[n].fUnread = false ∧ RegsBut s t [P.TMR_CAPF_HI n])))

/-- R311 to R318, R447: an event moves the counters that count it, and none while the CPU clock is stopped; counters are
written and read, the lower of a chained pair giving the reader's PMC_HOLD the upper; a counter that wraps sets its overflow bit, the pair that of its upper half; PMC_CTRL.clear zeroes every counter and hold,
and a histogram's clear its bins. (A counter of clocks or misses holds a free value: the statement on reads leaves those
out.) -/
def Obligations.PerformanceCounters : Prop :=
  (∀ (ev core n : Nat) (c : Fin 64) (s : State),
    (s.cpuClock = false → pmcEvent ev core n s = s) ∧
    (s.cpuClock = true → pmcCounts s c ev core = true → pmcChained s c = false →
      (pmcEvent ev core n s).pmc.vals[c] = s.pmc.vals[c] + BitVec.ofNat 32 n)) ∧
  (∀ (m : Master) (c : Fin 64) (s : State),
    (∀ v, s.reaches m true (P.PMC_VAL c) = true → exec (.counterWrite m c v) s =
      .next { s with pmc := { s.pmc with vals := s.pmc.vals.set c v } }) ∧
    (s.reaches m false (P.PMC_VAL c) = true → ∃ t, exec (.counterRead m c) s = .next t ∧ RegsBut s t [holdKey m] ∧
      t.rdata = t.pmc.vals[c] ∧
      (countsClocks s (pmcLower s c) = false → t.rdata = s.pmc.vals[c] ∧ t.pmc = s.pmc ∧
        (∀ h : c.val + 1 < 64, pmcChained s c = true → getReg t (holdKey m) = s.pmc.vals[c.val + 1]'h) ∧
        (pmcChained s c = false → t.regs = s.regs)))) ∧
  (∀ (c : Fin 64) (n : Fin 4) (s : State), s.powered 11 = true → countsClocks s c = true →
    ∃ t, exec (.counterOverflow c n) s = .next t ∧ t = { s with pmc := t.pmc } ∧
      t.pmc.vals[c] = BitVec.ofNat 32 n ∧
      t.pmc.ovf.getLsbD (if pmcChained s c = true ∧ c.val + 1 < 64 then c.val + 1 else c.val) = true) ∧
  (∀ (m : Master) (s : State), s.reaches m true P.PMC_CTRL = true →
    ∃ t, exec (.pmcClear m) s = .next t ∧ (∀ c : Fin 64, t.pmc.vals[c] = 0) ∧ t.pmc.ovf = s.pmc.ovf ∧
      t.pmc.bins = s.pmc.bins ∧ (∀ k < 11, getReg t (own k P.PMC_HOLD) = 0) ∧
      onF t P.PMC_CTRL F.PMC_CTRL_enable = onF s P.PMC_CTRL F.PMC_CTRL_enable) ∧
  (∀ (m : Master) (h : Fin 4) (s : State), s.reaches m true (P.PMC_HIST_CFG h) = true →
    ∃ t, exec (.histogramClear m h) s = .next t ∧ t.pmc.bins[h] = Vector.replicate 16 0 ∧
      (∀ j : Fin 4, j ≠ h → t.pmc.bins[j] = s.pmc.bins[j]) ∧ t.pmc.vals = s.pmc.vals ∧
      RegsBut s t [P.PMC_HIST_CFG h])

/-! ## The Heto link (chapter 16) -/

/-- R321, R325 to R337, R358: Run starts a port with every node unknown, sent descriptors queued again and the position 0, but
not after a stop of start-up; clearing it lets the port stop after its cycles; a slot, the table length and a TX descriptor
that is neither queued nor sent are written; the tail frees the cells read, and a tail beyond the head stops the block.
A cycle latches the next slot (an empty one, a hello to a node that is unknown or lost, a poll of a ready node with the
payload and the seq of the descriptor that R331 picks, nothing to a refused one, a broadcast) and reports its position, or
sends a latched entry again as it was; a payload that no version of its frame carries and a reserved kind stop the block; a
reply that the poll allows counts, resets the node's misses and gives its credit; a failed one is tried again as often as
HLK_CTRL.retries says, and then counts as a miss; a refused node stays refused; a stray frame is counted; a port that goes
down stops, and raises tilt when it is critical. (The model's choices: a table length of 0 is taken as an open one from 1 to
256, log 96; run written 1 while the port stops starts it anew, log 97.) -/
def Obligations.HetoPorts : Prop :=
  (∀ (m : Master) (p : Fin 8) (s : State),
     (s.reaches m true (P.HLK_CTRL p) = true →
       (hlkRuns s p = false ∨ s.hlk[p].stopping = true → bootStage s ≠ 7 → ∃ t, exec (.portStart m p) s = .next t ∧
         onF t (P.HLK_STAT p) F.HLK_STAT_running = true ∧
         onF t (P.HLK_CTRL p) F.HLK_CTRL_run = true ∧ getReg t (P.HLK_POS p) = 0 ∧
         onF t (P.HLK_STAT p) F.HLK_STAT_down = false ∧ (∀ n : Fin 64, nodeState t p n = 0) ∧
         (∀ i : Fin 16, txState t p i = if txState s p i = 2 then 1 else txState s p i) ∧
         t.hlk[p] = { Hlk.reset with len := getF s (P.HLK_TBL p) F.HLK_TBL_len } ∧
         (∀ q : Fin 8, q ≠ p → t.hlk[q] = s.hlk[q])) ∧
       (hlkRuns s p = true ∧ s.hlk[p].stopping = false ∨ bootStage s = 7 → ∃ t, exec (.portStart m p) s = .next t ∧
         OnlyRegs s t [P.HLK_CTRL p] ∧ onF t (P.HLK_CTRL p) F.HLK_CTRL_run = true) ∧
       (∃ t, exec (.portStop m p) s = .next t ∧ onF t (P.HLK_CTRL p) F.HLK_CTRL_run = false ∧
         RegsBut s t [P.HLK_CTRL p] ∧ (hlkRuns s p = true → t.hlk[p] = { s.hlk[p] with stopping := true }) ∧
         (hlkRuns s p = false → t.hlk = s.hlk))) ∧
     (∀ (i : Fin 256) (node : Fin 64) (endpoint : Fin 16) (kind : Fin 3), s.reaches m true (P.HLK_SLOT p i) = true →
       ∃ t, exec (.slotWrite m p i node endpoint kind) s = .next t ∧ OnlyRegs s t [P.HLK_SLOT p i] ∧
         getF t (P.HLK_SLOT p i) F.HLK_SLOT_node = node ∧ getF t (P.HLK_SLOT p i) F.HLK_SLOT_endpoint = endpoint ∧
         getF t (P.HLK_SLOT p i) F.HLK_SLOT_kind = kind) ∧
     (∀ len : Fin 257, s.reaches m true (P.HLK_TBL p) = true → len ≠ 0 →
       ∃ t, exec (.tableLengthWrite m p len) s = .next t ∧ OnlyRegs s t [P.HLK_TBL p] ∧
         getF t (P.HLK_TBL p) F.HLK_TBL_len = len) ∧
     (s.reaches m true (P.HLK_TBL p) = true → ∃ t, exec (.tableLengthWrite m p 0) s = .next t ∧ RegsBut s t [P.HLK_TBL p] ∧
       1 ≤ getF t (P.HLK_TBL p) F.HLK_TBL_len ∧ getF t (P.HLK_TBL p) F.HLK_TBL_len ≤ 256) ∧
     (∀ cell : Fin 64, s.reaches m true (P.HLK_RX_TAIL p) = true →
       let read := (cell.val + 64 - rxTail s p) % 64
       (read ≤ rxUsed s p → ∃ t, exec (.rxTailWrite m p cell) s = .next t ∧ rxTail t p = cell ∧
         rxHead t p = rxHead s p ∧ onF t (P.HLK_STAT p) F.HLK_STAT_rx_avail = decide (rxHead s p ≠ cell) ∧
         OnlyRegs s t ([P.HLK_RX_TAIL p, P.HLK_STAT p] ++ settleKeys)) ∧
       (rxUsed s p < read → exec (.rxTailWrite m p cell) s = .fault .hetoForm)) ∧
     (∀ (i : Fin 16) (node : Fin 64) (bcast : Bool) (endpoint : Fin 16) (len : Fin 1024),
       s.reaches m true (P.HLK_TX0 p i) = true →
       (txState s p i = 1 ∨ txState s p i = 2 →
         exec (.txQueue m p i node bcast endpoint len) s = .next s ∧ exec (.txFree m p i) s = .next s) ∧
       (txState s p i = 0 ∨ txState s p i = 3 →
         (∃ t, exec (.txQueue m p i node bcast endpoint len) s = .next t ∧ t = { s with regs := t.regs, hlk := t.hlk } ∧
           RegsBut s t [P.HLK_TX0 p i] ∧ t.hlk[p] = { s.hlk[p] with gens := t.hlk[p].gens } ∧
           (∀ q : Fin 8, q ≠ p → t.hlk[q] = s.hlk[q]) ∧
           txState t p i = 1 ∧ txNode t p i = node ∧ txBcast t p i = bcast ∧ txEndpoint t p i = endpoint ∧
           getF t (P.HLK_TX0 p i) F.HLK_TX0_len = len) ∧
         (∃ t, exec (.txFree m p i) s = .next t ∧ OnlyRegs s t [P.HLK_TX0 p i] ∧ txState t p i = 0)))) ∧
  ((∀ (p : Fin 8) (s : State), hlkRuns s p = true → s.hlk[p].prev = none →
     let h := s.hlk[p]
     let slot := (passOn s p).1
     let pass := (passOn s p).2.1
     let w := getReg s (P.HLK_SLOT p slot)
     let node := F.HLK_SLOT_node.get w
     let ep := F.HLK_SLOT_endpoint.get w
     let kind := F.HLK_SLOT_kind.get w
     let free := rxFree s p - (match h.cur with | some c => c.cells | none => 0)
     let v := nodeVersion s p node
     let fits (v : Nat) := decide (replyCells v ≤ free)
     let desc := pollDesc s p node ep v
     let bcast := lowestTx (fun i => decide (txState s p i = 1) && txBcast s p i)
     (h.lastCycle = true → ∃ t, exec (.hlkBeacon p) s = .next t ∧ hlkRuns t p = false ∧ t.hlk[p].cur = none) ∧
     (h.lastCycle = false → h.stopping = true → ∃ t, exec (.hlkBeacon p) s = .next t ∧ t.regs = s.regs ∧
       t.hlk[p].lastCycle = true ∧ t.hlk[p].prev = h.cur ∧ t.hlk[p].cur = none ∧ t.hlk[p].frame = []) ∧
     (∀ c, h.lastCycle = false → h.stopping = false → h.retry = some c → ∃ t, exec (.hlkBeacon p) s = .next t ∧
       t.hlk[p].prev = h.cur ∧ t.hlk[p].retry = none ∧ t.hlk[p].next = h.next ∧
       t.hlk[p].cur =
         if c.hello then (if free = 0 then none else some c)
         else some { c with
           ready := fits c.version
           cells := if fits c.version then replyCells c.version else 0 }) ∧
     (h.lastCycle = false → h.stopping = false → h.retry = none →
       (kind = 3 → exec (.hlkBeacon p) s = .fault .hetoForm) ∧
       (kind = 1 → nodeState s p node = 1 → ∀ i, desc = some i → lenOk s p i v = false →
         exec (.hlkBeacon p) s = .fault .hetoForm) ∧
       (kind = 2 → ∀ i, bcast = some i → broadcastVersions s p i = [] → exec (.hlkBeacon p) s = .fault .hetoForm) ∧
       (kind ≤ 2 → (kind = 1 → nodeState s p node = 1 → ∀ i, desc = some i → lenOk s p i v = true) →
         (kind = 2 → ∀ i, bcast = some i → broadcastVersions s p i ≠ []) →
         ∃ t, exec (.hlkBeacon p) s = .next t ∧ t.hlk[p].prev = h.cur ∧
           getReg t (P.HLK_POS p) = BitVec.ofNat 32 (slot + (pass % 16777216) <<< 8) ∧
           t.hlk[p].next = slot + 1 ∧ t.hlk[p].pass = pass ∧ t.hlk[p].len = (passOn s p).2.2 ∧
           (kind ≠ 1 ∨ nodeState s p node = 2 → t.hlk[p].cur = none) ∧
           (kind = 2 → ∀ i, bcast = some i → txState t p i = 3) ∧
           (kind = 1 → nodeState s p node = 0 ∨ nodeState s p node = 3 →
             t.hlk[p].cur = if free = 0 then none else some (helloCycle s p slot pass node ep)) ∧
           (kind = 1 → nodeState s p node = 1 → ∃ c : HlkCycle, t.hlk[p].cur = some { pollCycle slot pass node ep v (fits v) with
               desc := desc
               payload := c.payload
               seq := c.seq
               gen := c.gen } ∧
             (desc = none → c.payload = [] ∧ c.seq = 0) ∧
             ∀ i, desc = some i → (txLen s p i ≠ 0 → c.payload = txPayload s p i (txLen s p i)) ∧
               (v ≠ 1 → txState t p i = 2) ∧ (v = 1 → c.seq = 0) ∧
               (v ≠ 1 → ∀ hn : node < 64,
                 c.seq = if txState s p i = 1 then h.outSeq[node]'hn else h.sentSeq[node]'hn))))) ∧
   (∀ (p : Fin 8) (c : HlkCycle) (s : State), s.hlk[p].prev = some c → hlkRuns s p = true → c.node < 64 →
     let retries := getF s (P.HLK_CTRL p) F.HLK_CTRL_retries
     let misses := min (getF s (P.HLK_NODE p c.node) F.HLK_NODE_misses + 1) 15
     (∀ miss, ∃ t, exec (.replyError p miss) s = .next t ∧ t.hlk[p].prev = none ∧
       onF t (P.HLK_STAT p) F.HLK_STAT_err = true ∧
       (c.tries < retries → t.hlk[p].retry = some { c with tries := c.tries + 1 } ∧
         RegsBut s t [P.HLK_STAT p, P.HLK_ERR_CNT p]) ∧
       (retries ≤ c.tries → t.hlk[p].retry = s.hlk[p].retry ∧
         getF t (P.HLK_NODE p c.node) F.HLK_NODE_misses = misses ∧
         (getF s (P.HLK_CTRL p) F.HLK_CTRL_lost_after ≤ misses → nodeState s p c.node ≠ 2 → nodeState t p c.node = 3) ∧
         (nodeState s p c.node = 2 → nodeState t p c.node = 2))) ∧
     (∀ r : HetoReply, hasTurn s p c.node = true → replyMatches c r = true →
       ∃ t, exec (.hlkReply p r) s = .next t ∧ t.hlk[p].prev = none ∧
         getF t (P.HLK_CNT p) F.HLK_CNT_replies = min (getF s (P.HLK_CNT p) F.HLK_CNT_replies + 1) 65535 ∧
         getF t (P.HLK_NODE p c.node) F.HLK_NODE_misses = 0 ∧
         (c.version ≠ 1 → getF t (P.HLK_NODE p c.node) F.HLK_NODE_credit = r.credit.toNat) ∧
         (r.payload = [] → rxHead t p = rxHead s p) ∧
         (∀ h : c.node < 64, r.payload ≠ [] →
           (c.version = 1 ∨ r.seq.toNat = oneAbove (s.hlk[p].inSeq[c.node]'h) →
             rxHead t p = (rxHead s p + (8 + r.payload.length + 63) / 64) % 64) ∧
           (c.version ≠ 1 → r.seq.toNat ≠ oneAbove (s.hlk[p].inSeq[c.node]'h) → rxHead t p = rxHead s p)) ∧
         (r.helloNeeded = true → nodeState s p c.node = 1 → nodeState t p c.node = 0)) ∧
     (∀ r : HetoHello, hasTurn s p c.node = true → c.hello = true → r.node.val = c.node → r.endpoint.val = c.endpoint →
       ∃ t, exec (.nodeHelloReply p r) s = .next t ∧ t.hlk[p].prev = none ∧
         rxHead t p = (rxHead s p + 1) % 64 ∧
         nodeState t p c.node =
           (if nodeState s p c.node = 3 then 0
           else if nodeState s p c.node = 2 then 2
           else if (lowestCommon (getF s (P.HLK_CTRL p) F.HLK_CTRL_ver_allow) r.mask.toNat).isSome then 1 else 2) ∧
         getF t (P.HLK_NODE p c.node) F.HLK_NODE_credit = r.credit.toNat ∧
         getF t (P.HLK_NODE p c.node) F.HLK_NODE_ep_m1 = r.epM1 ∧
         ∀ v, nodeState s p c.node ≠ 3 → nodeState s p c.node ≠ 2 →
           lowestCommon (getF s (P.HLK_CTRL p) F.HLK_CTRL_ver_allow) r.mask.toNat = some v →
           nodeVersion t p c.node = v)) ∧
   (∀ (p : Fin 8) (s : State), hlkRuns s p = true →
     (∃ t, exec (.strayFrame p) s = .next t ∧ OnlyRegs s t [P.HLK_ERR_CNT p] ∧
       getF t (P.HLK_ERR_CNT p) F.HLK_ERR_CNT_stray = min (getF s (P.HLK_ERR_CNT p) F.HLK_ERR_CNT_stray + 1) 255) ∧
     ∀ collisions : Bool, ∃ t, exec (.portDown p collisions) s = .next t ∧ hlkRuns t p = false ∧
       onF t (P.HLK_STAT p) F.HLK_STAT_down = true ∧
       getF t (P.HLK_STAT p) F.HLK_STAT_down_cause = (if collisions then 1 else 2) ∧
       (onF s (P.HLK_CTRL p) F.HLK_CTRL_crit = false → t.tilt = s.tilt ∧ RegsBut s t [P.HLK_STAT p]) ∧
       (onF s (P.HLK_CTRL p) F.HLK_CTRL_crit = true → s.pwr.inReset = false → s.tilt.code = none →
         t.tilt.code = some (0x2800 + 0x100 * p.val + (if collisions then 1 else 2)))))

/-! ## Start-up and sparge (chapter 17) -/

/-- R341, R352, R353, R355 to R357, R361, R362: Reset release runs start-up up to a wait or a stop, and stops it where
no device answers on XS0 CS0; a burst that fails twice stops it with 13, and one whose repeat has come lets the step that
stalled go on; training that does not complete stops it with 11; each section streams to its destination, and a digest that
differs stops start-up with 12; after the last comes the boot record, and the boot counter advances, once per start-up and never in a sealed store; once
D0's training has ended, release runs the cores of the mask from their entries and begins the first sweep. A sweep begins at each multiple of the period, and one that falls due while another runs waits
and sets sparge_slow; a section whose hash differs raises tilt with its number, and the tilt screen's, under a tilt of this code, brings the stop
raster; a sweep that ends without one counts. (A section's DRAM accesses are granted at once by idle arbiters.) -/
def Obligations.StartUpAndSparge : Prop :=
  ((∀ (env : StartEnv) (s : State),
     let good := s.pwr.inReset && !s.pwr.resetNLow && !s.pwr.onVbat && !s.pwr.inWarn.getLsbD 0 && !s.pwr.inWarn.getLsbD 2
     (good = false → exec (.resetRelease env) s = .next s) ∧
     (good = true → ∃ t, exec (.resetRelease env) s = .next t ∧ t.pwr.inReset = false ∧
       bootStage t ∈ [1, 2, 3, 4, 7] ∧ (env.boot.devs[0] = none → bootStage t = 7))) ∧
   (∀ s : State,
     let onward := { s with cfg := { s.cfg with stalled := 0 } }
     ((s.cfg.stalled ≠ 0 ∧ bootStage s ≠ 7 ∨ bootStage s = 4) →
       ∃ t, exec (.xspiBurstTimeout true) s = .next t ∧ bootStage t = 7 ∧ getF t P.CFG_STOP F.CFG_STOP_code = 13) ∧
     (bootStage s = 4 → s.cfg.stalled = 0 → exec (.xspiBurstTimeout false) s = .next s) ∧
     (∀ b, bootStage s ≠ 7 → s.cfg.set = some b →
       (s.cfg.stalled = 1 → exec (.xspiBurstTimeout false) s = .next (readDirectory b onward)) ∧
       (∀ ver off len, s.cfg.stalled = 2 →
         chooseManifest b (getF s P.CFG_CAPS F.CFG_CAPS_manifest) = some (ver, off, len) →
         exec (.xspiBurstTimeout false) s = .next (checkManifest b ver off len onward)) ∧
       (s.cfg.stalled = 3 → exec (.xspiBurstTimeout false) s = .next (readMemory b onward))) ∧
     (bootStage s = 3 → s.cfg.stalled = 0 → ∃ t, exec .trainingTimeout s = .next t ∧ bootStage t = 7 ∧
       getF t P.CFG_STOP F.CFG_STOP_code = 11)) ∧
   (∀ (b : BootSet) (e : Section) (s : State), bootStage s = 4 → s.cfg.set = some b →
     s.cfg.sections[s.cfg.next]? = some e → (e.role ≠ 4 → ArbiterIdle s) →
     let data := bootBytes b e.src e.len
     ∃ t, exec .sectionDigestCheck s = .next t ∧ t.mem = Memory.writeBytes s.mem e.dst data ∧
       (sha256 data ≠ e.digest → bootStage t = 7 ∧ getF t P.CFG_STOP F.CFG_STOP_code = 12 ∧
         getF t P.CFG_STOP F.CFG_STOP_section = s.cfg.next % 256) ∧
       (sha256 data = e.digest → t.cfg.next = s.cfg.next + 1 ∧
         (s.cfg.next + 1 ≠ s.cfg.sections.length → RegsBut s t (dramKeys 12) ∧ t.ldg = s.ldg) ∧
         (s.cfg.next + 1 = s.cfg.sections.length → bootStage t = 5 ∧ t.ldg.held.isSome = true ∧
           (storeOpen s = true → s.ldg.counted = false → t.ldg.bootCnt = s.ldg.bootCnt + 1 ∧
             t.ldg.jobs = s.ldg.jobs ++ mirroredCtl (.boot (s.ldg.bootCnt + 1)) ∧
             getReg t P.LDG_BOOTCNT = BitVec.ofNat 32 (s.ldg.bootCnt + 1)) ∧
           (storeOpen s = false ∨ s.ldg.counted = true → t.ldg.bootCnt = s.ldg.bootCnt ∧ t.ldg.jobs = s.ldg.jobs)))) ∧
   (∀ (us : Word) (s : State), bootStage s = 5 → trainingRuns s 0 = false → (s.ldg.held = none ∨ onF s P.LDG_STAT F.LDG_STAT_pending = true) →
     ∃ t, exec (.bootRelease us) s = .next t ∧ bootStage t = 6 ∧ getReg t P.CFG_T_RELEASE = us ∧
       t.cfg.passRuns = true ∧ t.mem = s.mem ∧
       ∀ k : CoreId,
         getReg t (P.SYS_CORE_ENTRY k) = BitVec.ofNat 32 (s.cfg.hdr.getD (6 + k.val) 0) ∧
         getReg t (P.SYS_VBASE k) = BitVec.ofNat 32 (s.cfg.hdr.getD (if k.val < 8 then 16 else 17) 0) ∧
         ((hdrRelease s.cfg.hdr).testBit k = true → t.cores[k].run = true ∧
           (s.cores[k].run = false → s.cores[k].fresh = true →
             t.cores[k].pc = BitVec.ofNat 32 (s.cfg.hdr.getD (6 + k.val) 0))) ∧
         ((hdrRelease s.cfg.hdr).testBit k = false → t.cores[k] = s.cores[k]))) ∧
  ((∀ s : State, bootStage s = 6 →
     32768 * getF s P.CFG_SPARGE_CFG F.CFG_SPARGE_CFG_period * s.cfg.due ≤ s.pwr.uptime.toNat - s.cfg.releaseTick →
     ∃ t, exec .spargePass s = .next t ∧ t.cfg.due = s.cfg.due + 1 ∧ t.cfg.passRuns = true ∧ t.mem = s.mem ∧
       (s.cfg.passRuns = true → t.cfg.waits = true ∧ onF t P.CFG_STAT F.CFG_STAT_sparge_slow = true ∧
         RegsBut s t [P.CFG_STAT]) ∧
       (s.cfg.passRuns = false → t.cfg.at_ = (nextImage s 0).getD 1 ∧ t.cfg.differs = false ∧
         OnlyRegs { s with cfg := t.cfg } t [P.CFG_SPARGE_POS])) ∧
   (∀ (e : Section) (s : State), spargeRuns s = true → s.cfg.passRuns = true →
     s.cfg.sections[s.cfg.at_]? = some e → (e.role ≠ 4 → ArbiterIdle s) →
     (sha256 (s.readBytes e.dst e.len) = e.digest →
       (∀ i, nextImage s (s.cfg.at_ + 1) = some i → ∃ t, exec .spargeSection s = .next t ∧ t.cfg.at_ = i ∧
         getF t P.CFG_SPARGE_POS F.CFG_SPARGE_POS_section = i % 256 ∧ t.tilt = s.tilt ∧ t.mem = s.mem) ∧
       (nextImage s (s.cfg.at_ + 1) = none → ∃ t, exec .spargeSection s = .next t ∧ t.tilt = s.tilt ∧ t.mem = s.mem ∧
         t.cfg.passRuns = s.cfg.waits ∧
         getF t P.CFG_SPARGE_POS F.CFG_SPARGE_POS_pass =
           if s.cfg.differs then getF s P.CFG_SPARGE_POS F.CFG_SPARGE_POS_pass
           else (getF s P.CFG_SPARGE_POS F.CFG_SPARGE_POS_pass + 1) % 16777216)) ∧
     (sha256 (s.readBytes e.dst e.len) ≠ e.digest → s.pwr.inReset = false → s.tilt.code = none →
       ∃ t, exec .spargeSection s = .next t ∧ t.tilt.code = some 0x3801 ∧
         getF t P.CFG_SPARGE_MISS F.CFG_SPARGE_MISS_section = s.cfg.at_ % 256 ∧ t.mem = s.mem) ∧
     (sha256 (s.readBytes e.dst e.len) ≠ e.digest → s.tilt.code = some 0x3801 → s.cfg.at_ = 1 →
       ∃ t, exec .spargeSection s = .next t ∧ t.tilt.code = some 0x3801 ∧
         onF t P.SYS_TILT_LAST F.SYS_TILT_LAST_raster = true)))

/-! ## The trust cluster (chapter 18) -/

/-- R365, R366, R368, R369, R373, R375 to R377: signatures of the two parameter sets have 7,856 and 17,088 bytes; a signature
is hedged with 16 bytes of the management instance, made again when its self-check fails, also where that one must first wait
for its bytes, and a second failure raises tilt 0x3904 and releases none; the pure form signs the ledger record that waits, whose writes then join the ledger's work, or
the checkpoint that waits; the pre-hash form signs with the key that its job brings (log 137); a verification reports the engine's result; a fuse or
key command is taken from the debug port alone, ends at once with its code when its condition does not hold, and otherwise
ends with its row or key stored and the store's SHA-256 updated, or with result 5 for a row that reads back wrong. -/
def Obligations.SignaturesAndKeys : Prop :=
  (sigLen 0 = 7856 ∧ sigLen 1 = 17088) ∧
  (∀ (key : SlhKey) (ctx msg e1 e2 : List Byte) (d : Drbg) (s : State),
    key.sk.length = 64 → s.powered 2 = true → slhTakes true ctx msg = true → s.sec.mgmt = some d →
    let set := b2n key.set128f
    let r := drbgGenerate d 16
    let second := slhMade set true key.sk ctx msg r.1 e2
    (s.sec.redraw = false → d.count < 65536 →
      ∃ t, exec (.hashSlhSign key ctx msg e1 e2) s = .next t ∧ SignedAs set true key.sk ctx msg e1 e2 d s t ∧
        t.sec.redraw = false ∧ t.mem = s.mem) ∧
    (s.sec.redraw = false → d.count = 65536 → s.sec.entropy.pool = [] →
      slhHolds set true key.sk ctx msg (slhMade set true key.sk ctx msg r.1 e1) = false →
      ∃ t, exec (.hashSlhSign key ctx msg e1 e2) s = .next t ∧ t.sec.redraw = true ∧ t.sec.sig = s.sec.sig ∧
        t.tilt = s.tilt) ∧
    (s.sec.redraw = true → d.count ≤ 65536 →
      ∃ t, exec (.hashSlhSign key ctx msg e1 e2) s = .next t ∧ t.sec.redraw = false ∧ t.sec.mgmt = some r.2 ∧
        (slhHolds set true key.sk ctx msg second = true → t.sec.sig = second ∧ t.tilt = s.tilt) ∧
        (slhHolds set true key.sk ctx msg second = false → t.sec.sig = s.sec.sig ∧
          (s.pwr.inReset = false → s.tilt.code = none → t.tilt.code = some 0x3904)))) ∧
  (∀ (r : LedgerRec) (e1 e2 : List Byte) (d : Drbg) (s : State), s.ldg.held = some r → s.ldg.jobs = [] →
    storeOpen s = true → s.powered 2 = true → slotFree s (nextSlot s) = true → s.sec.mgmt = some d → d.count < 65536 →
    s.sec.redraw = false →
    let body := recordBody r (nextSlot s) s
    ∃ t, exec (.slhSign false (ascii "AH7140-LEDGER") body e1 e2) s = .next t ∧ SignedAs 0 false identitySk (ascii "AH7140-LEDGER") body e1 e2 d s t ∧
      (released 0 false identitySk (ascii "AH7140-LEDGER") body e1 e2 d = true →
        t.ldg = { s.ldg with jobs := recordJobs r (nextSlot s) body t.sec.sig } ∧ t.regs = s.regs)) ∧
  (∀ (body sk e1 e2 : List Byte) (d : Drbg) (s : State), floorRuns s = true → floorSession s = 2 → 2 ≤ floorVersion s →
    s.powered 2 = true → s.flr.ckpt = some body → s.sec.ckpt = some sk → s.sec.mgmt = some d → d.count < 65536 →
    s.sec.redraw = false →
    ∃ t, exec (.slhSign true (ascii "AH7140-CHECKPOINT") body e1 e2) s = .next t ∧ SignedAs 1 false sk (ascii "AH7140-CHECKPOINT") body e1 e2 d s t ∧
      t.flr.ckpt = none) ∧
  (∀ (set128f : Bool) (pk ctx msg sig : List Byte) (s : State), s.powered 2 = true →
    exec (.slhVerify set128f pk ctx msg sig) s = .next { s with sec := { s.sec with
      verified := slhVerify (b2n set128f) false pk ctx msg sig } } ∧
    exec (.hashSlhVerify set128f pk ctx msg sig) s = .next { s with sec := { s.sec with
      verified := slhVerify (b2n set128f) true pk ctx msg sig } }) ∧
  (∀ s : State, s.reaches .debug true P.SEC_FUSE_CMD = true → onF s P.SEC_FUSE_CMD F.SEC_FUSE_CMD_busy = false →
    let Starts (op : Nat) (t : State) : Prop :=
      onF t P.SEC_FUSE_CMD F.SEC_FUSE_CMD_busy = true ∧ RegsBut s t [P.SEC_FUSE_CMD] ∧
      t.sec = { s.sec with cmd := some (op, fuseData s), cmdStarted := !s.supplyHeld }
    (fuseRefusal 1 s = 0 → ∃ t, exec (.programRoot .debug) s = .next t ∧ Starts 1 t) ∧
    (fuseRefusal 2 s = 0 → ∃ t, exec (.withdrawVersion1 .debug) s = .next t ∧ Starts 2 t) ∧
    (fuseRefusal 3 s = 0 → ∃ t, exec (.raiseSecurityMinimum .debug) s = .next t ∧ Starts 3 t) ∧
    (fuseRefusal 4 s = 0 → ∃ t, exec (.generateCheckpointKey .debug) s = .next t ∧ Starts 4 t) ∧
    (fuseRefusal 5 s = 0 → ∃ t, exec (.loadFloorKey .debug) s = .next t ∧ Starts 5 t)) ∧
  (∀ (op : Nat) (i : Master → Instr) (s : State), (op, i) ∈ [(1, Instr.programRoot), (2, .withdrawVersion1),
      (3, .raiseSecurityMinimum), (4, .generateCheckpointKey), (5, .loadFloorKey)] →
    (∀ k, s.reaches (.core k) true P.SEC_FUSE_CMD = true → exec (i (.core k)) s = .next s) ∧
    (s.reaches .debug true P.SEC_FUSE_CMD = true →
      (onF s P.SEC_FUSE_CMD F.SEC_FUSE_CMD_busy = true → exec (i .debug) s = .next s) ∧
      (onF s P.SEC_FUSE_CMD F.SEC_FUSE_CMD_busy = false → fuseRefusal op s ≠ 0 → ∃ t, exec (i .debug) s = .next t ∧
        getF t P.SEC_FUSE_CMD F.SEC_FUSE_CMD_result = fuseRefusal op s ∧
        onF t P.SEC_STAT F.SEC_STAT_fuse_done = true ∧ (∀ k : Fin 8, getReg t (P.SEC_FUSE_DATA k) = 0) ∧
        t.sec = { s.sec with cmd := none }))) ∧
  (∀ (op : Nat) (data : List Byte) (good : Bool) (d : Drbg) (s : State), s.sec.cmd = some (op, data) → op ∈ fuseOps →
    (s.supplyHeld = true → s.sec.cmdStarted = false → exec (.fuseCommandEnd good) s = .next s) ∧
    ((s.supplyHeld = false ∨ s.sec.cmdStarted = true) → (op = 4 → s.sec.mgmt = some d ∧ d.count ≤ 65536) →
      ∃ t, exec (.fuseCommandEnd good) s = .next t ∧
      t.sec.cmd = none ∧ onF t P.SEC_FUSE_CMD F.SEC_FUSE_CMD_busy = false ∧
      onF t P.SEC_STAT F.SEC_STAT_fuse_done = true ∧ (∀ k : Fin 8, getReg t (P.SEC_FUSE_DATA k) = 0) ∧
      getF t P.SEC_FUSE_CMD F.SEC_FUSE_CMD_result = (if good = false ∧ op ≤ 3 then 5 else 1) ∧
      (good = false → op ≤ 3 → onF t P.SEC_STAT F.SEC_STAT_fuse_err = true) ∧
      (good = true → (op = 1 → t.sec.root = some data) ∧ (op = 2 → t.sec.v1Withdrawn = true) ∧
        (op = 3 → t.sec.svnRows = s.sec.svnRows ++ [leToNat (data.take 2)])) ∧
      (op = 4 → t.sec.ckptGen = s.sec.ckptGen + 1 ∧
        let k := (drbgGenerate d 48).1
        t.sec.ckpt = some (slhKeygen 1 (k.take 16) ((k.drop 16).take 16) (k.drop 32))) ∧
      (op = 5 → t.sec.floorKey = some data ∧ t.sec.floorGen = s.sec.floorGen + 1) ∧
      t.sec.storeSum = some (sha256 t.sec.image)))

/-- R379 to R383, R384 to R389: 1,024 good samples pass the start-up test, a second failure raises tilt 0x3901, and no third
test runs; a sample that fails the repetition or proportion test is an intermittent failure, and three within 65,536 windows
raise tilt 0x3902; before the start-up test has passed a sample goes to the raw tap alone, whose 32 samples fill
SEC_RAW_DATA or are lost unread; 640 passing samples give a block by SHA-256; the known-answer tests raise tilt 0x3903 or let
both instances be instantiated from four blocks, as the pool gives them. A request for 1 to 16 words joins the line and
discards unread words, and sets err while one is under way or tilt stands; a generate serves the oldest request with the
words of Hash_DRBG, from an instance reseeded when that is due; a word is returned once, and ready clears with the last.
(That a request for another count asks for some count of 1 to 16 is the model's choice, log 40.) -/
def Obligations.EntropyAndOutcomes : Prop :=
  ((∀ (samples : List Bool) (s : State), s.powered 2 = true → onF s P.SEC_STAT F.SEC_STAT_es_ok = false →
     samples.length = 1024 →
     let bad := rctFails none 0 samples || aptFails samples
     let tap := onF s P.SEC_RAW_CTRL F.SEC_RAW_CTRL_enable
     (2 ≤ s.sec.entropy.startFails → exec (.startUpTest samples) s = .next s) ∧
     (bad = false → s.sec.entropy.startFails < 2 → ∃ t, exec (.startUpTest samples) s = .next t ∧ onF t P.SEC_STAT F.SEC_STAT_es_ok = true ∧
       (tap = false → OnlyRegs s t [P.SEC_STAT])) ∧
     (bad = true → s.sec.entropy.startFails = 0 → ∃ t, exec (.startUpTest samples) s = .next t ∧
       t.sec.entropy.startFails = 1 ∧ (tap = false → t.regs = s.regs)) ∧
     (bad = true → s.sec.entropy.startFails = 1 → s.pwr.inReset = false → s.tilt.code = none →
       ∃ t, exec (.startUpTest samples) s = .next t ∧ t.tilt.code = some 0x3901)) ∧
   (∀ (b : Bool) (s : State), s.powered 2 = true → onF s P.SEC_RAW_CTRL F.SEC_RAW_CTRL_enable = true →
     let e := s.sec.entropy
     ∃ t, exec (.entropySample b) s = .next t ∧
       (e.raw.length < 31 → t.sec.entropy.raw = e.raw ++ [b] ∧ getReg t P.SEC_RAW_DATA = getReg s P.SEC_RAW_DATA) ∧
       (e.raw.length = 31 → t.sec.entropy.raw = [] ∧ onF t P.SEC_RAW_CTRL F.SEC_RAW_CTRL_avail = true ∧
         (onF s P.SEC_RAW_CTRL F.SEC_RAW_CTRL_avail = true → onF t P.SEC_RAW_CTRL F.SEC_RAW_CTRL_overflow = true ∧
           getReg t P.SEC_RAW_DATA = getReg s P.SEC_RAW_DATA) ∧
         (onF s P.SEC_RAW_CTRL F.SEC_RAW_CTRL_avail = false →
           ∀ i, (h : i < 32) → (getReg t P.SEC_RAW_DATA).getLsbD i = (e.raw ++ [b]).getD i false))) ∧
   (∀ (b : Bool) (s : State), s.powered 2 = true → onF s P.SEC_STAT F.SEC_STAT_es_ok = false →
     onF s P.SEC_RAW_CTRL F.SEC_RAW_CTRL_enable = false → exec (.entropySample b) s = .next s) ∧
   (∀ (b : Bool) (s : State), s.powered 2 = true → onF s P.SEC_STAT F.SEC_STAT_es_ok = true →
     let e := s.sec.entropy
     let run := if 0 < e.run ∧ e.last = b then e.run + 1 else 1
     let count := (if e.n = 0 then 0 else e.firstCount) + b2n ((if e.n = 0 then b else e.first) == b)
     ∃ t, exec (.entropySample b) s = .next t ∧ t.mem = s.mem ∧
       (81 ≤ run ∨ 832 ≤ count → onF t P.SEC_STAT F.SEC_STAT_es_intermittent = true ∧ t.sec.entropy.n = 0 ∧
         t.sec.entropy.fails = e.windows :: e.fails ∧ t.sec.entropy.fresh = [] ∧ t.sec.entropy.passed = e.passed) ∧
       (run < 81 → count < 832 → t.sec.entropy.run = run ∧ t.sec.entropy.last = b ∧
         (e.n + 1 ≠ 1024 → t.sec.entropy.n = e.n + 1 ∧ t.sec.entropy.passed = e.passed) ∧
         (e.n + 1 = 1024 → t.sec.entropy.n = 0 ∧ t.sec.entropy.windows = e.windows + 1 ∧
           (onF s P.SEC_RAW_CTRL F.SEC_RAW_CTRL_enable = false →
             t.sec.entropy.passed = e.passed ++ (b :: e.fresh).reverse)))) ∧
   (∀ s : State, s.powered 2 = true →
     (persistent s.sec.entropy = true → s.pwr.inReset = false → s.tilt.code = none →
       ∃ t, exec .persistentFailure s = .next t ∧ t.tilt.code = some 0x3902) ∧
     (640 ≤ s.sec.entropy.passed.length → s.sec.entropy.pool.length < 8 → s.sec.inst = none →
       ∃ t, exec .conditionedBlock s = .next t ∧ RegsBut s t [P.SEC_ES_CNT] ∧
         t.sec.entropy.pool = s.sec.entropy.pool ++ [sha256 (packSamples (s.sec.entropy.passed.take 640))] ∧
         t.sec.entropy.passed = s.sec.entropy.passed.drop 640) ∧
     (∀ b1 b2 b3, 640 ≤ s.sec.entropy.passed.length → s.sec.entropy.pool = [] → s.sec.inst = some [b1, b2, b3] →
       let b4 := sha256 (packSamples (s.sec.entropy.passed.take 640))
       ∃ t, exec .conditionedBlock s = .next t ∧ onF t P.SEC_STAT F.SEC_STAT_drbg_inst = true ∧
         t.sec.outcome = some (drbgInstantiate b1 (b2.take 16) persOutcome) ∧
         t.sec.mgmt = some (drbgInstantiate b3 (b4.take 16) persMgmt) ∧ t.sec.entropy.pool = []) ∧
     (onF s P.SEC_STAT F.SEC_STAT_es_ok = true → onF s P.SEC_STAT F.SEC_STAT_drbg_inst = false → s.sec.inst = none →
       (s.pwr.inReset = false → s.tilt.code = none → ∃ t, exec (.knownAnswerTest false) s = .next t ∧
         t.tilt.code = some 0x3903) ∧
       (s.sec.entropy.pool.length < 4 → ∃ t, exec (.knownAnswerTest true) s = .next t ∧
         t.sec.inst = some s.sec.entropy.pool ∧ t.sec.entropy.pool = [] ∧ onF t P.SEC_STAT F.SEC_STAT_pool_low = true) ∧
       ∀ b1 b2 b3 b4 rest, s.sec.entropy.pool = b1 :: b2 :: b3 :: b4 :: rest →
         ∃ t, exec (.knownAnswerTest true) s = .next t ∧ onF t P.SEC_STAT F.SEC_STAT_drbg_inst = true ∧
           t.sec.outcome = some (drbgInstantiate b1 (b2.take 16) persOutcome) ∧
           t.sec.mgmt = some (drbgInstantiate b3 (b4.take 16) persMgmt) ∧ t.sec.entropy.pool = rest))) ∧
  ((∀ (k : Fin 8) (n : Fin 32) (s : State), s.reaches (.core ⟨k.val, by omega⟩) true P.SEC_DRBG_REQ = true →
     let st := own k P.SEC_DRBG_PSTAT
     (s.tilted = true ∨ onF s st F.SEC_DRBG_PSTAT_busy = true →
       ∃ t, exec (.drbgRequest ⟨k.val, by omega⟩ n) s = .next t ∧ OnlyRegs s t [st] ∧
         onF t st F.SEC_DRBG_PSTAT_err = true) ∧
     (s.tilted = false → onF s st F.SEC_DRBG_PSTAT_busy = false →
       ∃ t w, exec (.drbgRequest ⟨k.val, by omega⟩ n) s = .next t ∧ 1 ≤ w ∧ w ≤ 16 ∧
         (1 ≤ n.val → n.val ≤ 16 → w = n.val) ∧ t.sec.reqs = s.sec.reqs ++ [(k.val, w)] ∧
         onF t st F.SEC_DRBG_PSTAT_busy = true ∧ getF t st F.SEC_DRBG_PSTAT_words = w ∧
         onF t st F.SEC_DRBG_PSTAT_ready = false)) ∧
   (∀ (k : Fin 8) (n : Nat) (rest : List (Nat × Nat)) (d : Drbg) (s : State), s.powered 2 = true →
     onF s P.SEC_STAT F.SEC_STAT_drbg_inst = true → s.sec.reqs = (k.val, n) :: rest → s.sec.outcome = some d →
     let st := own k P.SEC_DRBG_PSTAT
     let served (d : Drbg) (t : State) : Prop :=
       t.sec.reqs = rest ∧ t.sec.outcome = some (drbgGenerate d (4 * n)).2 ∧
       (∀ i : Fin 16, getReg t (own k (P.SEC_DRBG_OUT i)) = wordOf (drbgGenerate d (4 * n)).1 i) ∧
       onF t st F.SEC_DRBG_PSTAT_ready = true ∧ onF t st F.SEC_DRBG_PSTAT_busy = false ∧
       t.sec.unread[k] = BitVec.ofNat 16 (2 ^ n - 1)
     (reseedDue s = false → ∃ t, exec .drbgGenerate s = .next t ∧ served d t ∧
       getReg t P.SEC_DRBG_GEN = BitVec.ofNat 32 (s.sec.gens + 1) ∧ t.sec.gens = s.sec.gens + 1) ∧
     (∀ b pool, reseedDue s = true → s.sec.entropy.pool = b :: pool → ∃ t, exec .drbgGenerate s = .next t ∧
       served (drbgReseed d b) t ∧ getReg t P.SEC_DRBG_GEN = 1 ∧ t.sec.gens = 1 ∧ t.sec.entropy.pool = pool ∧
       (onF s P.SEC_DRBG_CFG F.SEC_DRBG_CFG_pr = true → rest ≠ [] → pool = [] →
         onF t P.SEC_STAT F.SEC_STAT_pool_low = true) ∧
       onF t P.SEC_DRBG_CFG F.SEC_DRBG_CFG_reseed = false) ∧
     (reseedDue s = true → s.sec.entropy.pool = [] → ∃ t, exec .drbgGenerate s = .next t ∧
       OnlyRegs s t [P.SEC_STAT] ∧ onF t P.SEC_STAT F.SEC_STAT_pool_low = true)) ∧
   (∀ (m : Master) (s : State), s.reaches m true P.SEC_DRBG_CFG = true → ∃ t, exec (.reseedRequest m) s = .next t ∧
     OnlyRegs s t [P.SEC_DRBG_CFG, P.SEC_STAT] ∧ onF t P.SEC_DRBG_CFG F.SEC_DRBG_CFG_reseed = true) ∧
   (∀ (k : Fin 8) (i : Fin 16) (s : State), s.reaches (.core ⟨k.val, by omega⟩) false (P.SEC_DRBG_OUT i) = true →
     let st := own k P.SEC_DRBG_PSTAT
     let left := s.sec.unread[k] &&& ~~~(BitVec.ofNat 16 (1 <<< i.val))
     (onF s st F.SEC_DRBG_PSTAT_ready = false →
       exec (.outcomeRead ⟨k.val, by omega⟩ i) s = .next { s with rdata := 0 }) ∧
     (onF s st F.SEC_DRBG_PSTAT_ready = true → ∃ t, exec (.outcomeRead ⟨k.val, by omega⟩ i) s = .next t ∧
       t.rdata = getReg s (own k (P.SEC_DRBG_OUT i)) ∧ getReg t (own k (P.SEC_DRBG_OUT i)) = 0 ∧
       t.sec.unread[k] = left ∧ onF t st F.SEC_DRBG_PSTAT_ready = decide (left ≠ 0) ∧
       RegsBut s t [own k (P.SEC_DRBG_OUT i), st])))

/-! ## The ledger and the meters (chapter 19) -/

/-- R404, R407, R409, R410, R412, R448, R455, R456: a core submits an advance or a close unless one of its own is under way; behind an
Eclipse command that waits it stays busy and is never committed; the next event is decided in turn, once commits are not
held, and ends at once with its code, a dip that follows it logged behind it, unless it may be committed, when all its granules advance each meter once, take the next sequence and leave the game
open or closed; a read of a meter or of the last sequence loads the reader's hold. -/
def Obligations.Meters : Prop :=
  (∀ (k : CoreId) (s : State), s.reaches (.core k) true P.LDG_MEV_CMD = true →
    let st := own k P.LDG_MEV_STAT
    let Submitted (kind : Nat) (t : State) : Prop := RegsBut s t [st] ∧ onF t st F.LDG_MEV_STAT_busy = true ∧
      t.ldg = { s.ldg with events := if s.pwr.eclipseDue then s.ldg.events else s.ldg.events ++ [(k.val, kind)] }
    let Turned (t : State) : Prop := OnlyRegs s t [st] ∧ onF t st F.LDG_MEV_STAT_err = true
    (onF s st F.LDG_MEV_STAT_busy = false →
      (∃ t, exec (.gameAdvance k) s = .next t ∧ Submitted 1 t) ∧ (∃ t, exec (.gameClose k) s = .next t ∧ Submitted 2 t)) ∧
    (onF s st F.LDG_MEV_STAT_busy = true →
      (∃ t, exec (.gameAdvance k) s = .next t ∧ Turned t) ∧ (∃ t, exec (.gameClose k) s = .next t ∧ Turned t))) ∧
  (∀ (n k kind : Nat) (rest : List (Nat × Nat)) (s : State), s.powered 1 = true → s.ldg.jobs = [] →
    s.ldg.events = (k, kind) :: rest →
    let st := own k P.LDG_MEV_STAT
    (s.supplyHeld = true → exec (.meterCommit n) s = .next s) ∧
    (mevResult k kind s ≠ 1 → s.supplyHeld = false → ∃ t, exec (.meterCommit n) s = .next t ∧
      (t.tilt = s.tilt → getF t st F.LDG_MEV_STAT_result = mevResult k kind s ∧ onF t st F.LDG_MEV_STAT_done = true ∧
        onF t st F.LDG_MEV_STAT_busy = false ∧ t.ldg.events = rest ∧
        (s.ldg.dipsDue = [] → t.ldg = { s.ldg with events := rest }) ∧
        ∀ e, s.ldg.dipsDue = [(1, e)] → storeOpen s = true → t.ldg.dipsDue = [] ∧ t.ldg.evtSeq = s.ldg.evtSeq + 1 ∧
          t.ldg.jobs = mirrored (eventGranule (s.ldg.evtSeq + 1)) (eventGranuleOf (s.ldg.evtSeq + 1) s.ldg.bootCnt e) ++
            [.mark (.logged (s.ldg.evtSeq + 1) e)]) ∧
      (floorRuns s = false → s.flr.full = false → t.tilt = s.tilt ∧ RegsBut s t [st])) ∧
    (mevResult k kind s = 1 → s.supplyHeld = false → 2 * (stagedEntries k s).length + 8 ≤ n →
      ∃ t, exec (.meterCommit n) s = .next t ∧
        t.ldg.seq = s.ldg.seq + 1 ∧ t.ldg.game = (if kind = 2 then none else some (stagedGame k s)) ∧
        (t.tilt = s.tilt → (s.ldg.dipsDue = [] → t.ldg.jobs = []) ∧ t.ldg.events = rest ∧ getF t st F.LDG_MEV_STAT_result = 1 ∧
          onF t st F.LDG_MEV_STAT_busy = false) ∧
        (∀ m delta, (m, delta) ∈ stagedEntries k s → meterValue t m = (meterValue s m + delta) % 2 ^ 64) ∧
        ∀ m, (∀ delta, (m, delta) ∉ stagedEntries k s) → meterValue t m = meterValue s m)) ∧
  (∀ (k : CoreId) (s : State),
    (s.reaches (.core k) false P.LDG_METER_LO = true →
      let v := meterValue s (getF s (own k P.LDG_METER_SEL) F.LDG_METER_SEL_meter)
      ∃ t, exec (.meterRead k) s = .next t ∧ t.rdata = BitVec.ofNat 32 v ∧
        getReg t (own k P.LDG_METER_HI) = BitVec.ofNat 32 (v >>> 32) ∧ RegsBut s t [own k P.LDG_METER_HI]) ∧
    (s.reaches (.core k) false P.LDG_MEV_SEQ_LO = true →
      ∃ t, exec (.seqRead k) s = .next t ∧ t.rdata = getReg s (own k P.LDG_MEV_SEQ_LO) ∧
        getReg t (seqHold k) = getReg s (own k P.LDG_MEV_SEQ_HI) ∧ RegsBut s t [seqHold k]))

/-- R391, R393 to R396, R401, R403, R413 to R417: a granule write is made; one that fails four times begins the remap of its
row, copying 31 granules before it writes the one that failed, or, when no spare row is left, begins to seal the store: the
marker in both copies is all that is still written, and behind it the store is sealed and tilt 0x3A01 raised; the record that waits is signed and committed into the slot after the newest, held pending while that slot is not
free, or dropped there as a stop record, and a sealed store stops start-up with 15; a debounced input is captured with the
RTC's time, or counted as lost while the buffer is full; a captured event, or the lost count behind them, sets out for the
log, and once logged raises tilt 0x3A03 for a tilt-enabled input after release. (Some clauses speak of states in which the
floor link's buffer raises no tilt of its own. That the worn row of a seal marker is left is the model's choice, log 162.) -/
def Obligations.LedgerStore : Prop :=
  (∀ (fails spareFails : Nat) (s : State), s.powered 1 = true → s.supplyHeld = false → ∀ w js, s.ldg.jobs = .write w :: js →
    let b := writeBank w
    let left := (dirAhead s b).free.drop spareFails
    (fails < 4 → exec (.granuleWrite fails spareFails) s = .next (floorSettle (runGranules 1 s))) ∧
    (∀ g v, fails < 4 → w = .cell g v → ∃ t, exec (.granuleWrite fails spareFails) s = .next t ∧ mramAt t g = v) ∧
    (4 ≤ fails → w = .ctl false .sealMark ∨ w = .ctl true .sealMark → ∃ t,
      exec (.granuleWrite fails spareFails) s = .next t ∧ t.ldg.mram = s.ldg.mram ∧ t.ldg.ctlA = s.ldg.ctlA ∧
      t.ldg.ctlB = s.ldg.ctlB) ∧
    (∀ ends, fails < 4 → w = .ctl true .sealMark → js = [.mark (.sealed ends)] →
      ∃ t, exec (.granuleWrite fails spareFails) s = .next t ∧ onF t P.LDG_STAT F.LDG_STAT_sealed = true ∧
        t.ldg.ctlB.sealed = true ∧ t.ldg.jobs = [] ∧ t.ldg.events = [] ∧
        (s.pwr.inReset = false → s.tilt.code = none → t.tilt.code = some 0x3A01)) ∧
    (∀ q e i, fails < 4 → js = [.mark (.logged q e), .mark (.moved i)] →
      ∃ t, exec (.granuleWrite fails spareFails) s = .next t ∧ getReg t P.LDG_EVT_SEQ = BitVec.ofNat 32 q ∧
        (doorTilts i s = true → bootStage s = 6 → s.pwr.inReset = false → s.tilt.code = none →
          t.tilt.code = some 0x3A03) ∧
        (doorTilts i s = false → floorRuns s = false → s.flr.full = false → t.tilt = s.tilt)) ∧
    (4 ≤ fails → w ≠ .ctl false .sealMark → w ≠ .ctl true .sealMark → left ≠ [] → ∃ t, exec (.granuleWrite fails spareFails) s = .next t ∧
      (floorRuns s = false → s.flr.full = false → t.ldg.mram = s.ldg.mram ∧
        t.ldg.jobs.take 31 = List.replicate 31 (.write (.copy b (writeRow w))) ∧
        (∀ g v, w = .cell g v → t.ldg.jobs[31]? = some (.write w)) ∧
        (∃ d : SpareDir, d.remaps.head? = left.head?.map (fun r => (writeRow w, r)) ∧
          t.ldg.jobs.drop 32 = mirroredCtl (.dir b d) ++ [.mark (.remapped b (writeRow w))] ++ js.map (jobWithDir b d)))) ∧
    (4 ≤ fails → w ≠ .ctl false .sealMark → w ≠ .ctl true .sealMark → left = [] →
      ∃ t, exec (.granuleWrite fails spareFails) s = .next t ∧ (t.tilt = s.tilt → t.ldg.mram = s.ldg.mram ∧
        ∃ ends, t.ldg.jobs = mirroredCtl .sealMark ++ [.mark (.sealed ends)]))) ∧
  (∀ (n : Nat) (e1 e2 : List Byte) (r : LedgerRec) (s : State), s.ldg.held = some r → s.ldg.jobs = [] →
    s.powered 1 = true →
    (storeOpen s = false → r.kind = 1 → bootStage s = 5 → ∃ t, exec (.ledgerCommit n e1 e2) s = .next t ∧ bootStage t = 7 ∧
      getF t P.CFG_STOP F.CFG_STOP_code = 15) ∧
    (storeOpen s = true → slotFree s (nextSlot s) = false → r.kind = 2 →
      ∃ t, exec (.ledgerCommit n e1 e2) s = .next t ∧ (t.tilt = s.tilt → t.ldg = { s.ldg with held := none })) ∧
    (storeOpen s = true → slotFree s (nextSlot s) = false → r.kind ≠ 2 →
      ∃ t, exec (.ledgerCommit n e1 e2) s = .next t ∧
        onF t P.LDG_STAT F.LDG_STAT_pending = true ∧ onF t P.CFG_STAT F.CFG_STAT_ledger_full = true ∧
        (t.tilt = s.tilt → t.ldg = { s.ldg with held := some { r with late := true } })) ∧
    (∀ d, storeOpen s = true → slotFree s (nextSlot s) = true → s.sec.mgmt = some d → d.count < 65536 →
      s.sec.redraw = false → s.supplyHeld = false → 352 ≤ n →
      let body := recordBody r (nextSlot s) s
      ∃ t, exec (.ledgerCommit n e1 e2) s = .next t ∧
        (released 0 false identitySk (ascii "AH7140-LEDGER") body e1 e2 d = true →
          (t.tilt = s.tilt → t.ldg.held = s.ldg.stop) ∧
          t.ldg.newest.map Newest.slot = some (nextSlot s) ∧ t.ldg.newest.map Newest.boot = some r.boot ∧
          onF t P.LDG_STAT F.LDG_STAT_pending = false))) ∧
  (∀ (i : Fin 10) (level : Bool) (s : State), (getReg s P.LDG_DOOR_LVL).getLsbD i ≠ level →
    let caught := (getReg s P.LDG_DOOR_CFG).getLsbD i && (decide (i.val < 8) || level)
    ∃ t, exec (.doorEvent i level) s = .next t ∧ (getReg t P.LDG_DOOR_LVL).getLsbD i = level ∧
      (caught = false → t.ldg = s.ldg ∧ RegsBut s t [P.LDG_DOOR_LVL]) ∧
      (caught = true → s.ldg.pd0.length < 32 → t.ldg.pd0 = s.ldg.pd0 ++
        [⟨if 8 ≤ i.val then 3 else if level then 1 else 2, i.val, 0, rtcNow s⟩]) ∧
      (caught = true → 32 ≤ s.ldg.pd0.length → t.ldg.pd0 = s.ldg.pd0 ∧
        getF t P.LDG_PD0_CNT F.LDG_PD0_CNT_lost =
          min (getF s P.LDG_PD0_CNT F.LDG_PD0_CNT_lost + 1) (2 ^ F.LDG_PD0_CNT_lost.len - 1))) ∧
  (∀ s : State, storeOpen s = true → s.supplyHeld = false → s.ldg.jobs = [] →
    let q := s.ldg.evtSeq + 1
    let Logged (e : LogEvent) (behind : List Job) (t : State) : Prop := t.ldg.evtSeq = q ∧
      t.ldg.jobs = mirrored (eventGranule q) (eventGranuleOf q s.ldg.bootCnt e) ++ [.mark (.logged q e)] ++ behind
    (∀ e rest, s.ldg.pd0 = e :: rest → ∃ t, exec .eventMove s = .next t ∧ t.ldg.pd0 = rest ∧ t.regs = s.regs ∧
      Logged e [.mark (.moved e.subject)] t) ∧
    (s.ldg.pd0 = [] →
      let lost := getF s P.LDG_PD0_CNT F.LDG_PD0_CNT_lost
      (lost = 0 → exec .eventMove s = .next s) ∧
      (lost ≠ 0 → ∃ t, exec .eventMove s = .next t ∧ OnlyRegs { s with ldg := t.ldg } t [P.LDG_PD0_CNT] ∧
        getF t P.LDG_PD0_CNT F.LDG_PD0_CNT_lost = 0 ∧ Logged ⟨7, 0, lost, rtcNow s⟩ [] t)))

/-! ## The floor link (chapter 20) -/

/-- R419 to R421, R424, R429: setting run enters hello and sends HELLO under version 1, at once or with the first port that
comes up, the next hop's address asked for ahead of it; clearing it ends the session; a write of active, and the loss of the
active port in the status that its mode takes, move the active port and announce it, but in refused nothing is sent; the
link answers a request for its own address alone; what is not yet answered goes out again with the msg it had. (The model's
choices: that a start judges the buffer's place is its reading of the cases left unpredictable; a write of active announces
the address, log 107; the next hop answers at once, log 169.) -/
def Obligations.FloorSession : Prop :=
  (∀ (m : Master) (s : State), s.reaches m true P.FLR_CTRL = true →
    getF s P.FLR_CTRL F.FLR_CTRL_active = getF s P.FLR_STAT F.FLR_STAT_port →
    onF s P.FLR_CTRL F.FLR_CTRL_run = floorRuns s →
    (bootStage s = 7 → floorRuns s = false → ∃ t, exec (.floorStart m) s = .next t ∧
      OnlyRegs (floorQuiet s) t [P.FLR_CTRL] ∧ floorRuns t = false) ∧
    (bootStage s ≠ 7 → floorRuns s = false → floorBufferOk s = true → ∃ t, exec (.floorStart m) s = .next t ∧
      onF t P.FLR_CTRL F.FLR_CTRL_run = true ∧ floorRuns t = true ∧ floorSession t = 1 ∧ floorVersion t = 0 ∧
      RegsBut s t [P.FLR_CTRL, P.FLR_STAT, P.FLR_CNT] ∧
      (floorUp s = false → t.flr = { s.flr with wire := [], helloDue := true }) ∧
      (floorUp s = true → t.flr.sent = s.flr.sent + 1 ∧ t.flr.helloDue = false ∧
        t.flr.hop = some (nextHop s, hopMac s) ∧
        let b := floorHeader 1 1 0 1 0 (floorSeq s) (floorSeq s) (helloBody s).length ++ helloBody s
        t.flr.wire = asked s ++ [.udp (floorPath s) (b ++ floorTag s b)])) ∧
    (bootStage s ≠ 7 → floorRuns s = false → floorBufferOk s = false → exec (.floorStart m) s = .fault .floorForm) ∧
    (floorRuns s = true → ∃ t, exec (.floorStart m) s = .next t ∧ OnlyRegs (floorQuiet s) t []) ∧
    (floorRuns s = true → ∃ t, exec (.floorStop m) s = .next t ∧ OnlyRegs (floorQuiet s) t [P.FLR_CTRL, P.FLR_STAT] ∧
      onF t P.FLR_CTRL F.FLR_CTRL_run = false ∧ floorRuns t = false ∧ floorSession t = 0) ∧
    (floorRuns s = false → ∃ t, exec (.floorStop m) s = .next t ∧ OnlyRegs (floorQuiet s) t []) ∧
    ∀ p : Fin 2,
      (p.val = getF s P.FLR_STAT F.FLR_STAT_port → ∃ t, exec (.portSwitch m p) s = .next t ∧ OnlyRegs (floorQuiet s) t []) ∧
      (p.val ≠ getF s P.FLR_STAT F.FLR_STAT_port → onF s P.FLR_STAT (floorLinkFld p.val) = false →
        exec (.portSwitch m p) s = .fault .floorForm) ∧
      (p.val ≠ getF s P.FLR_STAT F.FLR_STAT_port → onF s P.FLR_STAT (floorLinkFld p.val) = true →
        ∃ t, exec (.portSwitch m p) s = .next t ∧ getF t P.FLR_STAT F.FLR_STAT_port = p.val ∧
          getF t P.FLR_CTRL F.FLR_CTRL_active = p.val ∧
          RegsBut s t [P.FLR_CTRL, P.FLR_STAT, P.FLR_CNT, P.MEM_RANK 12] ∧
          (floorSpeaks s = true → t.flr.wire.head? = some (resolution .announce (floorOwn s) none t)) ∧
          (floorSpeaks s = false → t.flr.wire = []))) ∧
  (∀ (l : FloorLine) (s : State),
    let p := l.port
    let mine := onF s P.FLR_STAT (floorLinkFld p.val)
    let other := onF s P.FLR_STAT (floorLinkFld (1 - p.val))
    let told := l.pcs = floorMode s p.val
    ((s.powered 38 = false ∨ ¬told ∨ mine = false) → exec (.floorPortDown l) s = .next s) ∧
    ((s.powered 38 = false ∨ ¬told ∨ mine = true) → exec (.floorPortUp l) s = .next s) ∧
    (s.powered 38 = true → told → mine = true → ∃ t, exec (.floorPortDown l) s = .next t ∧
      onF t P.FLR_STAT (floorLinkFld p.val) = false ∧
      RegsBut s t [P.FLR_CTRL, P.FLR_STAT, P.FLR_CNT, P.MEM_RANK 12] ∧ t.tilt = s.tilt ∧
      (other = false → onF t P.FLR_STAT F.FLR_STAT_lost = true ∧
        getF t P.FLR_STAT F.FLR_STAT_port = getF s P.FLR_STAT F.FLR_STAT_port) ∧
      (other = true → onF t P.FLR_STAT F.FLR_STAT_lost = onF s P.FLR_STAT F.FLR_STAT_lost ∧
        getF t P.FLR_STAT F.FLR_STAT_port = 1 - p.val) ∧
      (other = true → getF s P.FLR_STAT F.FLR_STAT_port = p.val → onF t P.FLR_STAT F.FLR_STAT_failover = true ∧
        getF t P.FLR_CTRL F.FLR_CTRL_active = 1 - p.val ∧
        (floorSpeaks s = true → t.flr.wire.head? = some (resolution .announce (floorOwn s) none t)) ∧
        (floorSpeaks s = false → t.flr.wire = []))) ∧
    (s.powered 38 = true → told → mine = false → ∃ t, exec (.floorPortUp l) s = .next t ∧
      onF t P.FLR_STAT (floorLinkFld p.val) = true ∧
      RegsBut s t [P.FLR_CTRL, P.FLR_STAT, P.FLR_CNT, P.MEM_RANK 12] ∧ t.tilt = s.tilt ∧
      (other = false → getF t P.FLR_STAT F.FLR_STAT_port = p.val ∧
        (floorSpeaks s = true → t.flr.wire.head? = some (resolution .announce (floorOwn s) none t)) ∧
        (floorRuns s = true → floorSession s = 1 → s.flr.helloDue = true →
          t.flr.helloDue = false ∧ t.flr.sent = s.flr.sent + 1)) ∧
      (other = true → getF t P.FLR_STAT F.FLR_STAT_port = getF s P.FLR_STAT F.FLR_STAT_port))) ∧
  (∀ (q : NeighbourQuery) (s : State),
    let ipv6 := onF s P.FLR_CTRL F.FLR_CTRL_ipv6
    let own_ := q.target[0] = getReg s (P.FLR_ADDR 0) ∧
      (ipv6 = true → ∀ k : Fin 4, q.target[k] = getReg s (P.FLR_ADDR k.val))
    let asker := q.asker.toList.take (if ipv6 then 4 else 1)
    (floorSpeaks s = true ∧ floorUp s = true ∧ own_ → exec (.floorArp q) s = .next { s with flr := { s.flr with
      wire := [resolution .answer (floorOwn s) (some (asker, q.mac)) s] } }) ∧
    (¬(floorSpeaks s = true ∧ floorUp s = true ∧ own_) → exec (.floorArp q) s = .next s)) ∧
  (∀ s : State, floorRuns s = true → floorUp s = true →
    (floorSession s = 1 → ∃ t, exec (.floorResend .hello) s = .next t ∧ RegsBut s t [P.FLR_CNT] ∧
      t.flr.sent = s.flr.sent + 1 ∧ getF t P.FLR_CNT F.FLR_CNT_resent = min (getF s P.FLR_CNT F.FLR_CNT_resent + 1) 65535) ∧
    (∀ b msg r, floorSession s = 2 → s.flr.ledger = some (b, msg) → oldestRecord s = some r → r.boot = b →
      ∃ t, exec (.floorResend .ledger) s = .next t ∧ RegsBut s t [P.FLR_CNT] ∧ t.flr.sent = s.flr.sent + 11 ∧
        ∃ ws, t.flr.wire = asked s ++ ws ∧ ws.length = 11 ∧ ∀ w ∈ ws, ∃ bs, w = .udp (floorPath s) bs ∧ (bs.drop 16).take 8 = natToLe 8 msg) ∧
    (∀ msg q, floorSession s = 2 → s.flr.queue.find? (fun x => decide (x.msg = some msg)) = some q →
      ∃ t, exec (.floorResend (.message msg)) s = .next t ∧ RegsBut s t [P.FLR_CNT, P.MEM_RANK 12] ∧
        t.flr.queue = s.flr.queue ∧ t.flr.sent = s.flr.sent + fragCount q.body ∧
        ∃ ws, t.flr.wire = asked s ++ ws ∧ ws.length = fragCount q.body ∧ ∀ w ∈ ws, ∃ bs, w = .udp (floorPath s) bs ∧ (bs.drop 16).take 8 = natToLe 8 msg))

/-- R402, R422 to R424, R427, R428: a host datagram with a wrong tag is counted in auth, one of another boot, one not
above the last taken, or one whose type the version lacks in stale, and neither does more; HELLO_REPLY in hello takes
the highest common version and the domain index or is refused; an ACK frees its message; LEDGER_ACK raises the acknowledged
counter for a committed record with its hash and never lowers it;
CKPT_REQ starts a checkpoint where there is a key for it and none waits; a host key or a command is taken when its
signature verifies and counted in auth otherwise. -/
def Obligations.FloorHost : Prop :=
  (∀ (d : FloorDatagram) (s : State) (type_ : Nat) (i : Instr),
    (type_, i) ∈ [(2, .helloReply d), (0x80, .floorAck d), (0x81, .ledgerAck d), (0x82, .ckptReq d)] →
    let good := d.tag = floorTag s (datagramBytes type_ d)
    let boot := d.seq.toNat / 4294967296 = (getReg s P.LDG_BOOTCNT).toNat
    let new := ∀ x, s.flr.lastHost = some x → x < d.seq.toNat % 4294967296
    (floorRuns s = false ∨ floorUp s = false → exec i s = .next (floorQuiet s)) ∧
    (floorRuns s = true → floorUp s = true → ¬good → ∃ t, exec i s = .next t ∧
      OnlyRegs (floorQuiet s) t [P.FLR_ERR_CNT] ∧
      getF t P.FLR_ERR_CNT F.FLR_ERR_CNT_auth = min (getF s P.FLR_ERR_CNT F.FLR_ERR_CNT_auth + 1) 65535 ∧
      getF t P.FLR_ERR_CNT F.FLR_ERR_CNT_stale = getF s P.FLR_ERR_CNT F.FLR_ERR_CNT_stale) ∧
    (floorRuns s = true → floorUp s = true → good → ¬(boot ∧ new ∧ typeVersion type_ ≤ floorVersion s) →
      ∃ t, exec i s = .next t ∧ t.flr.queue = s.flr.queue ∧ t.ldg = s.ldg ∧ t.flr.ckpt = s.flr.ckpt ∧
        RegsBut s t [P.FLR_ERR_CNT] ∧
        getF t P.FLR_ERR_CNT F.FLR_ERR_CNT_stale = min (getF s P.FLR_ERR_CNT F.FLR_ERR_CNT_stale + 1) 65535 ∧
        getF t P.FLR_ERR_CNT F.FLR_ERR_CNT_auth = getF s P.FLR_ERR_CNT F.FLR_ERR_CNT_auth)) ∧
  (∀ (d : FloorDatagram) (s u : State), floorAccept 2 d (floorQuiet s) = (true, u) →
    let mask := getF s P.FLR_CTRL F.FLR_CTRL_ver_allow
    (floorSession s ≠ 1 → exec (.helloReply d) s = .next u) ∧
    (floorSession s = 1 → highestCommon mask (leToNat (d.body.take 1)) = none → ∃ t, exec (.helloReply d) s = .next t ∧
      floorSession t = 3 ∧ onF t P.FLR_STAT F.FLR_STAT_refused = true ∧ OnlyRegs u t [P.FLR_STAT]) ∧
    (∀ v, floorSession s = 1 → highestCommon mask (leToNat (d.body.take 1)) = some v →
      ∃ t, exec (.helloReply d) s = .next t ∧ floorSession t = 2 ∧ floorVersion t = v ∧
        getF t P.FLR_DOMAIN F.FLR_DOMAIN_index = leToNat (bodyBytes d.body 4 4) % 262144 ∧
        onF t P.FLR_DOMAIN F.FLR_DOMAIN_valid = true ∧
        RegsBut s t [P.FLR_STAT, P.FLR_DOMAIN, P.FLR_CNT, P.MEM_RANK 12])) ∧
  (∀ (d : FloorDatagram) (s u : State), floorAccept 0x80 d (floorQuiet s) = (true, u) →
    ∃ t, exec (.floorAck d) s = .next t ∧ RegsBut s t [P.FLR_CNT, P.MEM_RANK 12] ∧
      t.flr.queue.map (fun m => (m.type_, m.body)) =
        (s.flr.queue.filter (fun m => decide (m.msg ≠ some (leToNat (bodyBytes d.body 0 8))))).map
          (fun m => (m.type_, m.body))) ∧
  (∀ (d : FloorDatagram) (s u : State), floorAccept 0x81 d (floorQuiet s) = (true, u) →
    let boot := leToNat (bodyBytes d.body 0 4)
    let hash := bodyBytes d.body 8 32
    let known := ∃ slot r, slot < 558 ∧ slotRecord s slot = some r ∧ r.boot = boot ∧ r.hash = hash
    (storeOpen s = false ∨ boot ≤ ackAhead s ∨ ¬known → exec (.ledgerAck d) s = .next u) ∧
    (storeOpen s = true → ackAhead s < boot → known → exec (.ledgerAck d) s = .next { u with ldg := { u.ldg with
      jobs := u.ldg.jobs ++ mirroredCtl (.acked boot) ++ [.mark (.acked boot)] } })) ∧
  (∀ (d : FloorDatagram) (s u : State), floorAccept 0x82 d (floorQuiet s) = (true, u) →
    ∃ t, exec (.ckptReq d) s = .next t ∧ t = { u with flr := { u.flr with ckpt := t.flr.ckpt } } ∧
      t.flr.ckpt = if s.sec.ckpt.isSome && s.flr.ckpt.isNone then some (checkpointBody s) else s.flr.ckpt) ∧
  (∀ (ds : List FloorDatagram) (s : State),
    (∀ u ok, floorAcceptAll 0x83 ds (floorQuiet s) = (ok, u) → (ok && floorWhole ds) = false →
      exec (.hostKey ds) s = .next u) ∧
    (∀ u, floorAcceptAll 0x83 ds (floorQuiet s) = (true, u) → floorWhole ds = true →
      let body := ds.flatMap (fun d => d.body)
      let fits := hostVerify 0 s.cfg.key (ascii "AH7140-FLOOR-KEY") (body.take 64) ((body.drop 64).take 7856) s = true ∧
        leToNat (body.take 1) ≤ 1
      ∃ t, exec (.hostKey ds) s = .next t ∧ RegsBut u t [P.FLR_STAT, P.FLR_ERR_CNT] ∧
        (fits → t.flr = { u.flr with hostKey := some (leToNat (body.take 1), bodyBytes body 32 32) } ∧
          onF t P.FLR_STAT F.FLR_STAT_host_key = true) ∧
        (¬fits → OnlyRegs u t [P.FLR_ERR_CNT] ∧
          getF t P.FLR_ERR_CNT F.FLR_ERR_CNT_auth = min (getF u P.FLR_ERR_CNT F.FLR_ERR_CNT_auth + 1) 65535)) ∧
    (∀ u ok, floorAcceptAll 0x84 ds (floorQuiet s) = (ok, u) → (ok && floorWhole ds) = false →
      exec (.floorSigned ds) s = .next u) ∧
    (∀ u d rest, floorAcceptAll 0x84 ds (floorQuiet s) = (true, u) → floorWhole ds = true → ds = d :: rest →
      let body := ds.flatMap (fun d => d.body)
      let msg := bodyBytes body 0 16 ++ natToLe 8 d.seq.toNat
      (s.flr.hostKey = none → ∃ t, exec (.floorSigned ds) s = .next t ∧ OnlyRegs u t [P.FLR_ERR_CNT] ∧
        getF t P.FLR_ERR_CNT F.FLR_ERR_CNT_auth = min (getF u P.FLR_ERR_CNT F.FLR_ERR_CNT_auth + 1) 65535) ∧
      (∀ set pk, s.flr.hostKey = some (set, pk) →
        let fits := hostVerify set pk (ascii "AH7140-FLOOR-CMD") msg (body.drop 16) s
        ∃ t, exec (.floorSigned ds) s = .next t ∧
          (fits = false → OnlyRegs u t [P.FLR_ERR_CNT] ∧
            getF t P.FLR_ERR_CNT F.FLR_ERR_CNT_auth = min (getF u P.FLR_ERR_CNT F.FLR_ERR_CNT_auth + 1) 65535) ∧
          (fits = true → t = if leToNat (body.take 1) = 1 then
            { u with pwr := { u.pwr with rtcFloor := some (BitVec.ofNat 64 (leToNat (bodyBytes body 8 8))) } } else u))))

/-- R40, R171, R425 to R427: while the link runs, the oldest entry of a digest queue joins the open game as a 40-byte item,
which requester 12 writes into the DRAM buffer, a part of 6,000 items becoming a GAME message, or is discarded with no game
open; a recall entry becomes a RECALL message from version 2 and is discarded under version 1; a buffer that cannot take the
item raises tilt with cause 1; a checkpoint that waits is signed and becomes a CHECKPOINT message. (Where in the buffer an
item lies is open, log 99.) -/
def Obligations.FloorReports : Prop :=
  (∀ (d : Fin 4) (s : State), (s.clu[d].export_ = [] ∨ floorRuns s = false ∨ s.powered (pdComposer d.val) = false) →
    exec (.digestDrain d) s = .next s) ∧
  (∀ (d : Fin 4) (e : ExportEntry) (rest : List ExportEntry) (s : State), s.clu[d].export_ = e :: rest →
    floorRuns s = true → s.powered (pdComposer d.val) = true → s.flr.full = false →
    let size := s.flr.use + 40 + (if s.flr.items = [] then 64 else 0)
    let item := natToLe 4 e.frame ++ natToLe 4 (exportWord1 d e) ++ e.digest
    (e.isRecall = true → floorSession s ≠ 2 → exec (.digestDrain d) s = .next s) ∧
    ((e.isRecall = false ∧ s.ldg.game = none) ∨ (e.isRecall = true ∧ floorSession s = 2 ∧ floorVersion s < 2) →
      exec (.digestDrain d) s = .next (setExport d rest s)) ∧
    (∀ g, e.isRecall = false → s.ldg.game = some g → floorSize s < size → ∃ t, exec (.digestDrain d) s = .next t ∧
      t.clu[d].export_ = rest ∧ t.flr.items = s.flr.items ∧ getF t P.FLR_STAT F.FLR_STAT_tilt_cause = 1 ∧
      (s.pwr.inReset = false → s.tilt.code = none → t.tilt.code = some 0x3001)) ∧
    (∀ g, e.isRecall = false → s.ldg.game = some g → size ≤ floorSize s → s.flr.items.length < 5999 →
      ∃ t, exec (.digestDrain d) s = .next t ∧ t.clu[d].export_ = rest ∧ t.flr.items = s.flr.items ++ [item] ∧
        t.flr.part = s.flr.part ∧ t.tilt = s.tilt ∧
        (floorSession s ≠ 2 → e.digest.length = 32 →
          ∃ r, (requester t 12).waiting = (requester s 12).waiting ++ [r] ∧ r.data = some item ∧
            floorBase s ≤ r.addr ∧ r.addr < floorBase s + floorSize s)) ∧
    (∀ g, e.isRecall = false → s.ldg.game = some g → size ≤ floorSize s → s.flr.items.length = 5999 →
      (∀ x ∈ s.flr.items, x.length = 40) → e.digest.length = 32 →
      ∃ t, exec (.digestDrain d) s = .next t ∧ t.clu[d].export_ = rest ∧ t.flr.items = [] ∧
        t.flr.part = s.flr.part + 1 ∧ t.tilt = s.tilt ∧ ∃ m ∈ t.flr.queue, m.type_ = 0x30 ∧
          m.body = gameBody g s.flr.part false (natToLe 8 0) (List.replicate 32 0) (s.flr.items ++ [item])) ∧
    (e.isRecall = true → floorSession s = 2 → 2 ≤ floorVersion s → s.flr.use + (exportBytes d e).length ≤ floorSize s →
      ∃ t, exec (.digestDrain d) s = .next t ∧ t.clu[d].export_ = rest ∧ t.tilt = s.tilt ∧
        ∃ m ∈ t.flr.queue, m.type_ = 0x31 ∧ m.body = exportBytes d e)) ∧
  (∀ (body sk e1 e2 : List Byte) (g : Drbg) (s : State), floorRuns s = true → floorSession s = 2 → 2 ≤ floorVersion s →
    s.powered 2 = true → s.flr.full = false → s.flr.ckpt = some body → s.sec.ckpt = some sk → s.sec.mgmt = some g →
    g.count < 65536 → s.sec.redraw = false → s.flr.use + body.length + sigLen 1 ≤ floorSize s →
    ∃ t, exec (.floorCheckpoint e1 e2) s = .next t ∧ t.flr.ckpt = none ∧
      SignedAs 1 false sk (ascii "AH7140-CHECKPOINT") body e1 e2 g s t ∧
      (released 1 false sk (ascii "AH7140-CHECKPOINT") body e1 e2 g = true → t.tilt = s.tilt ∧
        ∃ m ∈ t.flr.queue, m.type_ = 0x40 ∧ m.body = body ++ t.sec.sig))

/-! ## Power, clocks and supply (chapter 22) -/

/-- R441 to R443: a domain request that breaks a need, names a domain that only the states switch, or comes while
changes are under way is refused whole with its cause; any other is applied one domain at a time, the highest first for
those that go off, the lowest first for those that come on, each at its reset values, and no domain is ever on without
one it needs; the debug port's connect request powers PD39. (The order in which the causes are tried is the model's.) -/
def Obligations.DomainSwitching : Prop :=
  (∀ (m : Master) (hi : Bool) (v : Word) (s : State),
    s.reaches m true (if hi then P.PWR_DOM_REQ1 else P.PWR_DOM_REQ0) = true →
    let want := wanted hi v s
    let r := domRefusal want s
    (r ≠ 0 → ∃ t, exec (.domainRequest m hi v) s = .next t ∧ OnlyRegs s t [P.PWR_STAT] ∧
      onF t P.PWR_STAT F.PWR_STAT_refused = true ∧ getF t P.PWR_STAT F.PWR_STAT_refuse_cause = r) ∧
    (r = 0 → ∃ t, exec (.domainRequest m hi v) s = .next t ∧
      RegsBut s t [if hi then P.PWR_DOM_REQ1 else P.PWR_DOM_REQ0] ∧
      t = { s with regs := t.regs, pwr := { s.pwr with toOff := s.pwr.doms &&& ~~~want, toOn := want &&& ~~~s.pwr.doms } } ∧
      DomainsClosed want ∧ ∀ d ∈ [0, 1, 2, 11, 36], want.getLsbD d = s.pwr.doms.getLsbD d)) ∧
  (∀ (d : Nat) (s : State), (s.pwr.toOff ≠ 0 → nextOff s = some d) → (s.pwr.toOff = 0 → nextOn s = some d) →
    ∃ t, exec .domainSwitch s = .next t ∧
      t.pwr.doms.getLsbD d = decide (s.pwr.toOff = 0) ∧
      (∀ e, e < 40 → e ≠ d → t.pwr.doms.getLsbD e = s.pwr.doms.getLsbD e) ∧
      (s.pwr.toOff ≠ 0 → t.pwr.toOff = s.pwr.toOff &&& ~~~domBit d ∧ t.pwr.toOn = s.pwr.toOn) ∧
      (s.pwr.toOff = 0 → t.pwr.toOn = s.pwr.toOn &&& ~~~domBit d ∧ t.pwr.toOff = 0) ∧
      (∀ key, regDomain key = some d → key ≠ P.PWR_STAT → getReg t key = resetOf key) ∧
      (∀ key e, regDomain key = some e → e ≠ d → key ∉ P.PWR_STAT :: lossKeys d → getReg t key = getReg s key) ∧
      (t.pwr.toOff = 0 ∧ t.pwr.toOn = 0 → onF t P.PWR_STAT F.PWR_STAT_dom_done = true) ∧
      (d = 35 → s.pwr.toOff = 0 → t.aas.powerUp = true) ∧ t.tilt = s.tilt ∧
      (DomainsClosed s.pwr.doms → DomainsClosed t.pwr.doms)) ∧
  (∀ s : State, ((s.pwr.toOff ≠ 0 ∧ nextOff s = none) ∨ (s.pwr.toOff = 0 ∧ nextOn s = none)) →
    exec .domainSwitch s = .next s) ∧
  (∀ s : State, exec .debugConnect s = .next { s with pwr := { s.pwr with doms := s.pwr.doms ||| domBit 39 } })

/-- R448, R449, R457, R461, R486: PWR_CMD.eclipse is refused while a ledger record is pending or a fuse command runs, waits
for a supply hold, and otherwise leaves PD0 and PD1 alone on; a wake event or WAKE_N, also one that came during entry, ends
Eclipse by a reset with cause 4; the reset command, the third tick in a row with RESET_N low, the debug port and a rail at its reset level reset the device whole with their causes,
the lowest of one tick standing. (Reset as one step, and the state before it of the granule being written, are the
model's.) -/
def Obligations.EclipseAndReset : Prop :=
  (∀ (m : Master) (s : State), s.reaches m true P.PWR_CMD = true →
    (∀ c, (c = 4 ∧ onF s P.LDG_STAT F.LDG_STAT_pending = true) ∨
        (c = 6 ∧ onF s P.LDG_STAT F.LDG_STAT_pending = false ∧ onF s P.SEC_FUSE_CMD F.SEC_FUSE_CMD_busy = true) →
      ∃ t, exec (.eclipse m) s = .next t ∧ OnlyRegs s t [P.PWR_STAT] ∧
        onF t P.PWR_STAT F.PWR_STAT_eclipse_refused = true ∧ getF t P.PWR_STAT F.PWR_STAT_refuse_cause = c) ∧
    (onF s P.LDG_STAT F.LDG_STAT_pending = false → onF s P.SEC_FUSE_CMD F.SEC_FUSE_CMD_busy = false →
      (s.supplyHeld = true → exec (.eclipse m) s = .next { s with pwr := { s.pwr with eclipseDue := true } }) ∧
      (s.supplyHeld = false → ∃ t, exec (.eclipse m) s = .next t ∧ t.pwr.mode = .eclipse ∧ t.pwr.doms = 3 ∧ t.mem = [] ∧
        t.cores = Vector.replicate 10 Core.reset ∧ t.ldg.events = [] ∧
        ∀ key, regDomain key ≠ some 0 → regDomain key ≠ some 1 → getReg t key = resetOf key)) ∧
    ∃ t, exec (.resetCommand m) s = .next t ∧ ResetBy 6 s t) ∧
  (∀ s : State,
    (∀ low, exec (.resetN low) s = .next { s with pwr := { s.pwr with
      resetNLow := low, resetNTicks := if low && s.pwr.resetNLow then s.pwr.resetNTicks else 0 } }) ∧
    (s.pwr.resetNLow = true → s.pwr.resetNTicks ≠ 2 → ∃ t, exec .rtcTick s = .next t ∧
      t.pwr.resetNTicks = min (s.pwr.resetNTicks + 1) 3 ∧ t.pwr.inReset = s.pwr.inReset ∧ t.regs = s.regs) ∧
    (s.pwr.resetNLow = true → s.pwr.resetNTicks = 2 → s.pwr.onVbat = false → ∃ t, exec .rtcTick s = .next t ∧
      t.pwr.resetNTicks = 3 ∧ t.pwr.resetNLow = true ∧
      ResetBy 5 { s with pwr := { s.pwr with rtc := t.pwr.rtc, uptime := t.pwr.uptime, causeFresh := false } } t) ∧
    (∃ t, exec .debugReset s = .next t ∧ ResetBy 7 s t) ∧
    ∀ r : Rail, ∃ t, exec (.supplyReset r) s = .next t ∧ ResetBy 3 s t ∧
      (s.pwr.causeFresh = false → getF t P.PWR_RESET_CAUSE F.PWR_RESET_CAUSE_rail = railNum r) ∧
      t.pwr.inWarn = s.pwr.inWarn ||| railBit r) ∧
  (∀ (pin : Bool) (s : State),
    (∀ w, s.pwr.mode = .eclipse → s.pwr.wakeDue = some w → ∃ t, exec (.eclipseWake pin) s = .next t ∧ ResetBy 4 s t ∧
      (w < 16 → s.pwr.causeFresh = false → getF t P.PWR_RESET_CAUSE F.PWR_RESET_CAUSE_wake = w)) ∧
    (s.pwr.mode = .eclipse → s.pwr.wakeDue = none → pin = true → onF s P.PWR_WAKE_EN F.PWR_WAKE_EN_wake_pin = true →
      ∃ t, exec (.eclipseWake pin) s = .next t ∧ ResetBy 4 s t ∧
        (s.pwr.causeFresh = false → getF t P.PWR_RESET_CAUSE F.PWR_RESET_CAUSE_wake = 4)) ∧
    (s.pwr.mode ≠ .eclipse → pin = true → onF s P.PWR_WAKE_EN F.PWR_WAKE_EN_wake_pin = true →
      s.pwr.eclipseDue = true → s.pwr.wakeDue = none →
      exec (.eclipseWake pin) s = .next { s with pwr := { s.pwr with wakeDue := some 4 } }) ∧
    (pin = false ∨ onF s P.PWR_WAKE_EN F.PWR_WAKE_EN_wake_pin = false ∨
        (s.pwr.mode ≠ .eclipse ∧ (s.pwr.eclipseDue = false ∨ s.pwr.wakeDue ≠ none)) →
      (s.pwr.mode = .eclipse → s.pwr.wakeDue = none) → exec (.eclipseWake pin) s = .next s))

/-- R427, R445 to R447, R451 to R453: a PLL stops only when every condition of its row holds; a demand, or a write that takes
its doze away, restarts the stopped PLLs that its row names with those that run whenever they do (log 159), and a restarted
PLL runs once it locks, a link PLL once a training has started it; at each tick the RTC counts on or takes a pending write,
the floor link's before the debug port's, the uptime counts, and a checkpoint whose period has passed is captured; the alarm
fires as the RTC passes it; only the debug port stages the RTC. -/
def Obligations.ClocksAndRtc : Prop :=
  (∀ (p : Pll) (s : State),
    let b := BitVec.ofNat 4 (1 <<< pllBit p)
    (pllStopped p s = true ∨ pllMayStop p s = false → exec (.pllStop p) s = .next s) ∧
    (pllStopped p s = false → pllMayStop p s = true → (∀ d, p ≠ .link d) → ∃ t, exec (.pllStop p) s = .next t ∧
      t = { s with pmc := t.pmc, free := t.free,
                   pwr := { s.pwr with stopped := s.pwr.stopped ||| b, locked := s.pwr.locked &&& ~~~b } }) ∧
    ((∀ d, p ≠ .link d) → s.pwr.restarting &&& b = 0 → exec (.pllLock p) s = .next s) ∧
    ((∀ d, p ≠ .link d) → s.pwr.restarting &&& b ≠ 0 → exec (.pllLock p) s = .next
      { s with pwr := { s.pwr with restarting := s.pwr.restarting &&& ~~~b, stopped := s.pwr.stopped &&& ~~~b,
                                   locked := s.pwr.locked ||| b } }) ∧
    (pllMayStop .mem s = true → onF s P.PWR_DOZE_EN F.PWR_DOZE_EN_mem = true ∧ s.pwr.stopped.getLsbD 1 = true) ∧
    (pllMayStop .comp s = true → onF s P.PWR_DOZE_EN F.PWR_DOZE_EN_comp = true ∧ s.pwr.stopped.getLsbD 0 = true ∧
      s.pwr.stopped.getLsbD 3 = true)) ∧
  (∀ (d : Fin 4) (s : State),
    let b := BitVec.ofNat 4 (1 <<< d.val)
    (s.pwr.linkLocked.getLsbD d = true → getF s (P.DSP_CTRL d) F.DSP_CTRL_mode = 0 → trainingRuns s d = false →
      exec (.pllStop (.link d)) s = .next { s with pwr := { s.pwr with linkLocked := s.pwr.linkLocked &&& ~~~b } }) ∧
    (s.pwr.linkStarting.getLsbD d = false → exec (.pllLock (.link d)) s = .next s) ∧
    (s.pwr.linkStarting.getLsbD d = true → exec (.pllLock (.link d)) s = .next { s with pwr := { s.pwr with
      linkLocked := s.pwr.linkLocked ||| b, linkStarting := s.pwr.linkStarting &&& ~~~b } })) ∧
  (∀ (d : Demand) (s : State) (set : BitVec 4),
    (d, set) ∈ [(.floorDram, 7), (.debugPort, 7), (.memRequest, 4), (.audioAccess, 14)] ∨
      (∃ n, d = .source n ∧ wakesCore n.val s = true ∧ (Tab.get s.irq.latches false n.val = true ∨
        (98 ≤ n.val ∧ n.val ≤ 106 ∧ srcLine s n.val = true)) ∧ set = 7) ∨
      (∃ n, d = .source n ∧ (wakesCore n.val s = false ∨ (Tab.get s.irq.latches false n.val = false ∧
        ¬(98 ≤ n.val ∧ n.val ≤ 106 ∧ srcLine s n.val = true))) ∧ set = 0) →
    exec (.wakeDemand d) s = .next { s with pwr := { s.pwr with restarting := s.pwr.restarting ||| (set &&& s.pwr.stopped) } }) ∧
  (∀ (m : Master) (port : BitVec 24) (s : State), port.toNat = P.PWR_DOZE_EN → s.reaches m true P.PWR_DOZE_EN = true →
    ∃ t, exec (.registerWrite m port 0) s = .next t ∧ getReg t P.PWR_DOZE_EN = 0 ∧
      t.pwr.restarting = s.pwr.restarting ||| s.pwr.stopped) ∧
  (∀ s : State, ∃ t, exec .rtcTick s = .next t ∧
    t.pwr.rtc = (match s.pwr.rtcFloor, s.pwr.rtcDebug with
      | some a, _ => a
      | none, some b => b
      | none, none => s.pwr.rtc + 1) ∧
    t.pwr.rtcFloor = none ∧ t.pwr.rtcDebug = none ∧
    t.pwr.uptime = (if s.pwr.inReset then s.pwr.uptime else s.pwr.uptime + 1) ∧
    (onF s P.PWR_WAKE_EN F.PWR_WAKE_EN_alarm_en = true → s.pwr.rtc.toNat < alarmTime s → alarmTime s ≤ t.pwr.rtc.toNat →
      t.pwr.alarmDue = true) ∧
    (s.pwr.holdDue = true → 33 ≤ getF s P.MON_CFG F.MON_CFG_hold →
      t.pwr.holdLeft = some (getF s P.MON_CFG F.MON_CFG_hold)) ∧
    (∀ n, s.pwr.holdDue = false → s.pwr.holdLeft = some (n + 1) → t.pwr.holdLeft = some n) ∧
    (s.pwr.resetNLow = false → t.regs = s.regs ∧
      (floorRuns s = true → floorSession s = 2 → 2 ≤ floorVersion s → getF s P.FLR_TIMING F.FLR_TIMING_ckpt ≠ 0 →
        s.flr.periods < periodsPassed t → t.flr.periods = periodsPassed t ∧
          (s.sec.ckpt.isSome = true → s.flr.ckpt = none → t.flr.ckpt = some (checkpointBody t))))) ∧
  (∀ s : State, (s.pwr.alarmDue = false → exec .rtcAlarm s = .next s) ∧
    (s.pwr.alarmDue = true → ∃ t, exec .rtcAlarm s = .next t ∧ Tab.get t.irq.latches false 111 = true ∧
      onF t P.PWR_WAKE_EN F.PWR_WAKE_EN_alarm_en = false ∧ t.pwr.alarmDue = false ∧ RegsBut s t [P.PWR_WAKE_EN] ∧
      (s.pwr.mode = .eclipse → onF s P.PWR_WAKE_EN F.PWR_WAKE_EN_wake_alarm = true → s.pwr.wakeDue = none →
        t.pwr.wakeDue = some 1))) ∧
  (∀ (hi : Word) (s : State),
    (s.reaches .debug true P.PWR_RTC_SET_HI = true → exec (.rtcSet .debug hi) s = .next
      { s with pwr := { s.pwr with rtcDebug := some (hi ++ s.pwr.rtcStaged) } }) ∧
    ∀ k, s.reaches (.core k) true P.PWR_RTC_SET_HI = true → exec (.rtcSet (.core k) hi) s = .next s)

/-- R455, R456, R458, R461: a rail in warning holds every commit, is counted, latched as source 109 and noted for the
event log, and of a root hash's rows at most the one under way ends (log 164); a recovery hold begins when it clears, and its
end lets a fuse command go on and logs the dips, behind the meter events that wait; PD0 goes over to VBAT and back with
everything it holds, loses it when VBAT fails too, and counts from 0 when power first reaches it. -/
def Obligations.SuppliesAndVbat : Prop :=
  (∀ (r : Rail) (s : State),
    (s.pwr.inWarn &&& railBit r ≠ 0 → exec (.supplyWarning r) s = .next s) ∧
    (s.pwr.inWarn &&& railBit r = 0 → exec (.supplyClear r) s = .next s) ∧
    (s.pwr.inWarn &&& railBit r = 0 → ∃ t, exec (.supplyWarning r) s = .next t ∧ t.supplyHeld = true ∧
      t.pwr = { s.pwr with inWarn := s.pwr.inWarn ||| railBit r, railsOk := s.pwr.railsOk &&& ~~~railBit r,
                           holdDue := false, holdLeft := none } ∧
      onF t P.MON_STAT (railWarn r) = true ∧
      getF t P.MON_CNT (railCnt r) = min (getF s P.MON_CNT (railCnt r) + 1) 255 ∧
      Tab.get t.irq.latches false 109 = true ∧ RegsBut s t [P.MON_STAT, P.MON_CNT, P.LDG_STAT] ∧
      (∀ op data, s.sec.cmd = some (op, data) → (op ≠ 1 ∨ s.supplyHeld = true → t.sec = s.sec) ∧
        (t.sec.cmdStarted = true → s.sec.cmdStarted = true)) ∧
      (s.powered 1 = true → t.ldg = { s.ldg with dips := s.ldg.dips ++ [⟨4, railNum r, 0, rtcNow s⟩] } ∧
        onF t P.LDG_STAT F.LDG_STAT_dip = true)) ∧
    (s.pwr.inWarn &&& railBit r ≠ 0 → exec (.supplyClear r) s = .next
      { s with pwr := { s.pwr with inWarn := s.pwr.inWarn &&& ~~~railBit r, railsOk := s.pwr.railsOk ||| railBit r,
                                   holdDue := true, holdLeft := none } })) ∧
  (∀ s : State,
    (s.pwr.holdLeft ≠ some 0 → exec .holdEnd s = .next s) ∧
    (s.pwr.holdLeft = some 0 → s.pwr.inWarn ≠ 0 ∨ s.pwr.holdDue = true →
      exec .holdEnd s = .next { s with pwr := { s.pwr with holdLeft := none } }) ∧
    (s.pwr.holdLeft = some 0 → s.pwr.inWarn = 0 → s.pwr.holdDue = false → ∃ t, exec .holdEnd s = .next t ∧
      t.supplyHeld = false ∧
      (s.pwr.eclipseDue = true → t.pwr.mode = .eclipse) ∧
      (s.pwr.eclipseDue = false → t.ldg.dips = [] ∧ t.sec = { s.sec with cmdStarted := s.sec.cmd.isSome } ∧
        (s.ldg.dipsDue = [] → s.ldg.events = [] → storeOpen s = true →
          t.ldg.evtSeq = s.ldg.evtSeq + s.ldg.dips.length ∧ t.ldg.dipsDue = []) ∧
        (s.ldg.dipsDue = [] → s.ldg.events ≠ [] → t.ldg = { s.ldg with
          dips := []
          dipsDue := s.ldg.dips.map (fun e => (s.ldg.events.length, e)) })))) ∧
  (∀ s : State,
    (s.pwr.onVbat = true → exec (.vbatSwitch true) s = .next s) ∧
    (s.pwr.onVbat = false → exec (.vbatSwitch false) s = .next s) ∧
    (s.pwr.onVbat = false → exec .vbatLoss s = .next s) ∧
    (s.pwr.onVbat = false → ∃ t, exec (.vbatSwitch true) s = .next t ∧ t.pwr.onVbat = true ∧ t.pwr.mode = .off ∧
      t.pwr.rtc = s.pwr.rtc ∧ (∀ key, regDomain key = some 0 → getReg t key = getReg s key) ∧
      ∀ key, regDomain key ≠ some 0 → getReg t key = resetOf key) ∧
    (s.pwr.onVbat = true → ∃ t, exec (.vbatSwitch false) s = .next t ∧ t.pwr.onVbat = false ∧ t.pwr.mode = .run ∧
      t.pwr.rtc = s.pwr.rtc ∧ RegsBut s t [P.PWR_RESET_CAUSE] ∧
      getF t P.PWR_RESET_CAUSE F.PWR_RESET_CAUSE_cause = (if s.pwr.pd0Lost then 1 else 2) ∧
      t.pwr.pd0Lost = false ∧ t.pwr.vbatLowSeen = false ∧
      onF t P.PWR_RESET_CAUSE F.PWR_RESET_CAUSE_rtc_invalid = s.pwr.pd0Lost ∧
      onF t P.PWR_RESET_CAUSE F.PWR_RESET_CAUSE_vbat_low_seen = s.pwr.vbatLowSeen) ∧
    (s.pwr.onVbat = true → ∃ t, exec .vbatLoss s = .next t ∧ t.pwr.rtc = 0 ∧ t.pwr.pd0Lost = true ∧ t.ldg.pd0 = [] ∧
      (∀ key, regDomain key = some 0 → getReg t key = resetOf key)) ∧
    (∀ fromVbat, ∃ t, exec (.pd0PowerUp fromVbat) s = .next t ∧ t.pwr.rtc = 0 ∧ t.pwr.inReset = true ∧
      t.pwr.onVbat = fromVbat ∧ (∀ key, key ≠ P.PWR_RESET_CAUSE → getReg t key = resetOf key) ∧
      getF t P.PWR_RESET_CAUSE F.PWR_RESET_CAUSE_cause = 1 ∧ t.pwr.vbatLowSeen = (fromVbat && s.pwr.vbatLow) ∧
      onF t P.PWR_RESET_CAUSE F.PWR_RESET_CAUSE_rtc_invalid = s.pwr.pd0Lost) ∧
    (∀ low, exec (.vbatLow low) s = .next { s with pwr := { s.pwr with
      vbatLow := low, vbatLowSeen := s.pwr.vbatLowSeen || (low && decide (s.pwr.mode = .off)) } }))
end

