-- ==== Sys2Proof/Laws/Bits.lean ====
section
/-! SUPPORT. The laws of bit fields: what a field reads after it or another field is written. -/
namespace Sys2Proof.Machine

/-- A field lies in the word. -/
def Fld.ok (f : Fld) : Prop := f.lo ≤ f.hi ∧ f.hi < 32

/-- Two fields share no bit. -/
def Fld.apart (f g : Fld) : Prop := f.hi < g.lo ∨ g.hi < f.lo

theorem bits_testBit (v hi lo i : Nat) :
    (bits v hi lo).testBit i = (decide (i < hi + 1 - lo) && v.testBit (lo + i)) := by
  simp [bits, Nat.testBit_mod_two_pow, Nat.testBit_shiftRight]

theorem Fld.mask_bit (f : Fld) (i : Nat) (hi : i < 32) :
    f.mask.getLsbD i = (decide (f.lo ≤ i) && decide (i < f.lo + f.len)) := by
  simp only [Fld.mask, BitVec.getLsbD_ofNat, hi, decide_true, Bool.true_and, Nat.testBit_shiftLeft,
    Nat.testBit_two_pow_sub_one]
  by_cases h : f.lo ≤ i
  · simp [h]; omega
  · simp [h]

theorem Fld.put_bit (f : Fld) (n : Nat) (w : Word) (i : Nat) (hi : i < 32) :
    (f.put n w).getLsbD i =
      if f.lo ≤ i ∧ i < f.lo + f.len then n.testBit (i - f.lo) else w.getLsbD i := by
  simp only [Fld.put, BitVec.getLsbD_or, BitVec.getLsbD_and, BitVec.getLsbD_not, hi, decide_true, Bool.true_and,
    f.mask_bit i hi, BitVec.getLsbD_ofNat, Nat.testBit_shiftLeft, Nat.testBit_mod_two_pow]
  by_cases h1 : f.lo ≤ i
  · by_cases h2 : i < f.lo + f.len
    · have h3 : i - f.lo < f.len := by omega
      simp [h1, h2, h3]
    · have h3 : ¬ i - f.lo < f.len := by omega
      simp [h1, h2, h3]
  · simp [h1]

/-- A field that is written reads as the number written, modulo the field's size. -/
theorem Fld.get_put_same (f : Fld) (h : f.ok) (n : Nat) (w : Word) : f.get (f.put n w) = n % 2 ^ f.len := by
  obtain ⟨h1, h2⟩ := h
  apply Nat.eq_of_testBit_eq
  intro i
  have hl : f.len = f.hi + 1 - f.lo := rfl
  rw [Fld.get, bits_testBit, Nat.testBit_mod_two_pow, ← hl]
  by_cases hi : i < f.len
  · have hb : f.lo + i < 32 := by omega
    have := f.put_bit n w (f.lo + i) hb
    rw [show (f.put n w).toNat.testBit (f.lo + i) = (f.put n w).getLsbD (f.lo + i) from rfl, this]
    simp [hi]
  · simp [hi]

/-- A field apart from the one that is written keeps its value. -/
theorem Fld.get_put_apart (f g : Fld) (hg : g.ok) (h : f.apart g) (n : Nat) (w : Word) :
    g.get (f.put n w) = g.get w := by
  obtain ⟨h1, h2⟩ := hg
  apply Nat.eq_of_testBit_eq
  intro i
  rw [Fld.get, Fld.get, bits_testBit, bits_testBit]
  by_cases hi : i < g.hi + 1 - g.lo
  · have hb : g.lo + i < 32 := by omega
    have hp := f.put_bit n w (g.lo + i) hb
    rw [show (f.put n w).toNat.testBit (g.lo + i) = (f.put n w).getLsbD (g.lo + i) from rfl, hp]
    have : ¬ (f.lo ≤ g.lo + i ∧ g.lo + i < f.lo + f.len) := by
      have hl : f.len = f.hi + 1 - f.lo := rfl
      rcases h with h | h <;> omega
    rw [if_neg this]; rfl
  · simp [hi]

/-- A one-bit field that is written reads as bit 0 of the number written. -/
theorem Fld.on_put_same (f : Fld) (h : f.ok) (n : Nat) (w : Word) : f.on (f.put n w) = n.testBit 0 := by
  obtain ⟨h1, h2⟩ := h
  have hp := f.put_bit n w f.lo (by omega)
  rw [Fld.on, show (f.put n w).toNat.testBit f.lo = (f.put n w).getLsbD f.lo from rfl, hp]
  have hl : f.len = f.hi + 1 - f.lo := rfl
  simp [hl]; omega

theorem Fld.on_put_apart (f g : Fld) (hg : g.ok) (h : f.apart g) (n : Nat) (w : Word) :
    g.on (f.put n w) = g.on w := by
  obtain ⟨h1, h2⟩ := hg
  have hp := f.put_bit n w g.lo (by omega)
  rw [Fld.on, Fld.on, show (f.put n w).toNat.testBit g.lo = (f.put n w).getLsbD g.lo from rfl, hp]
  have hl : f.len = f.hi + 1 - f.lo := rfl
  have : ¬ (f.lo ≤ g.lo ∧ g.lo < f.lo + f.len) := by rcases h with h | h <;> omega
  rw [if_neg this]; rfl

@[simp] theorem b2n_true : b2n true = 1 := rfl
@[simp] theorem b2n_false : b2n false = 0 := rfl
@[simp] theorem b2n_testBit (b : Bool) : (b2n b).testBit 0 = b := by cases b <;> rfl

end Sys2Proof.Machine
end

