-- ==== Sys2Proof/Laws/State.lean ====
section
/-! SUPPORT. What the named operations on the state leave as it is: one lemma per field, true by definition. -/
namespace Sys2Proof.Machine

@[simp] theorem setReg_pending (s : State) (k : Nat) (v : Word) : (setReg s k v).pending = s.pending := rfl
@[simp] theorem setReg_free (s : State) (k : Nat) (v : Word) : (setReg s k v).free = s.free := rfl
@[simp] theorem setReg_clock (s : State) (k : Nat) (v : Word) : (setReg s k v).clock = s.clock := rfl
@[simp] theorem setReg_rdata (s : State) (k : Nat) (v : Word) : (setReg s k v).rdata = s.rdata := rfl
@[simp] theorem setReg_mem (s : State) (k : Nat) (v : Word) : (setReg s k v).mem = s.mem := rfl
@[simp] theorem setReg_l2 (s : State) (k : Nat) (v : Word) : (setReg s k v).l2 = s.l2 := rfl
@[simp] theorem setReg_cores (s : State) (k : Nat) (v : Word) : (setReg s k v).cores = s.cores := rfl
@[simp] theorem setReg_turn (s : State) (k : Nat) (v : Word) : (setReg s k v).turn = s.turn := rfl
@[simp] theorem setReg_irq (s : State) (k : Nat) (v : Word) : (setReg s k v).irq = s.irq := rfl
@[simp] theorem setReg_pwr (s : State) (k : Nat) (v : Word) : (setReg s k v).pwr = s.pwr := rfl
@[simp] theorem setReg_tilt (s : State) (k : Nat) (v : Word) : (setReg s k v).tilt = s.tilt := rfl
@[simp] theorem setReg_ldg (s : State) (k : Nat) (v : Word) : (setReg s k v).ldg = s.ldg := rfl
@[simp] theorem setReg_sec (s : State) (k : Nat) (v : Word) : (setReg s k v).sec = s.sec := rfl
@[simp] theorem setReg_cfg (s : State) (k : Nat) (v : Word) : (setReg s k v).cfg = s.cfg := rfl
@[simp] theorem setReg_mc (s : State) (k : Nat) (v : Word) : (setReg s k v).mc = s.mc := rfl
@[simp] theorem setReg_pat (s : State) (k : Nat) (v : Word) : (setReg s k v).pat = s.pat := rfl
@[simp] theorem setReg_clu (s : State) (k : Nat) (v : Word) : (setReg s k v).clu = s.clu := rfl
@[simp] theorem setReg_ktl (s : State) (k : Nat) (v : Word) : (setReg s k v).ktl = s.ktl := rfl
@[simp] theorem setReg_aas (s : State) (k : Nat) (v : Word) : (setReg s k v).aas = s.aas := rfl
@[simp] theorem setReg_tmr (s : State) (k : Nat) (v : Word) : (setReg s k v).tmr = s.tmr := rfl
@[simp] theorem setReg_pmc (s : State) (k : Nat) (v : Word) : (setReg s k v).pmc = s.pmc := rfl
@[simp] theorem setReg_dma (s : State) (k : Nat) (v : Word) : (setReg s k v).dma = s.dma := rfl
@[simp] theorem setReg_dmaLast (s : State) (k : Nat) (v : Word) : (setReg s k v).dmaLast = s.dmaLast := rfl
@[simp] theorem setReg_blt (s : State) (k : Nat) (v : Word) : (setReg s k v).blt = s.blt := rfl
@[simp] theorem setReg_hlk (s : State) (k : Nat) (v : Word) : (setReg s k v).hlk = s.hlk := rfl
@[simp] theorem setReg_flr (s : State) (k : Nat) (v : Word) : (setReg s k v).flr = s.flr := rfl

@[simp] theorem setF_pending (s : State) (k : Nat) (f : Fld) (n : Nat) : (setF s k f n).pending = s.pending := rfl
@[simp] theorem setF_free (s : State) (k : Nat) (f : Fld) (n : Nat) : (setF s k f n).free = s.free := rfl
@[simp] theorem setF_clock (s : State) (k : Nat) (f : Fld) (n : Nat) : (setF s k f n).clock = s.clock := rfl
@[simp] theorem setF_rdata (s : State) (k : Nat) (f : Fld) (n : Nat) : (setF s k f n).rdata = s.rdata := rfl
@[simp] theorem setF_mem (s : State) (k : Nat) (f : Fld) (n : Nat) : (setF s k f n).mem = s.mem := rfl
@[simp] theorem setF_l2 (s : State) (k : Nat) (f : Fld) (n : Nat) : (setF s k f n).l2 = s.l2 := rfl
@[simp] theorem setF_cores (s : State) (k : Nat) (f : Fld) (n : Nat) : (setF s k f n).cores = s.cores := rfl
@[simp] theorem setF_turn (s : State) (k : Nat) (f : Fld) (n : Nat) : (setF s k f n).turn = s.turn := rfl
@[simp] theorem setF_irq (s : State) (k : Nat) (f : Fld) (n : Nat) : (setF s k f n).irq = s.irq := rfl
@[simp] theorem setF_pwr (s : State) (k : Nat) (f : Fld) (n : Nat) : (setF s k f n).pwr = s.pwr := rfl
@[simp] theorem setF_tilt (s : State) (k : Nat) (f : Fld) (n : Nat) : (setF s k f n).tilt = s.tilt := rfl
@[simp] theorem setF_ldg (s : State) (k : Nat) (f : Fld) (n : Nat) : (setF s k f n).ldg = s.ldg := rfl
@[simp] theorem setF_sec (s : State) (k : Nat) (f : Fld) (n : Nat) : (setF s k f n).sec = s.sec := rfl
@[simp] theorem setF_cfg (s : State) (k : Nat) (f : Fld) (n : Nat) : (setF s k f n).cfg = s.cfg := rfl
@[simp] theorem setF_mc (s : State) (k : Nat) (f : Fld) (n : Nat) : (setF s k f n).mc = s.mc := rfl
@[simp] theorem setF_pat (s : State) (k : Nat) (f : Fld) (n : Nat) : (setF s k f n).pat = s.pat := rfl
@[simp] theorem setF_clu (s : State) (k : Nat) (f : Fld) (n : Nat) : (setF s k f n).clu = s.clu := rfl
@[simp] theorem setF_ktl (s : State) (k : Nat) (f : Fld) (n : Nat) : (setF s k f n).ktl = s.ktl := rfl
@[simp] theorem setF_aas (s : State) (k : Nat) (f : Fld) (n : Nat) : (setF s k f n).aas = s.aas := rfl
@[simp] theorem setF_tmr (s : State) (k : Nat) (f : Fld) (n : Nat) : (setF s k f n).tmr = s.tmr := rfl
@[simp] theorem setF_pmc (s : State) (k : Nat) (f : Fld) (n : Nat) : (setF s k f n).pmc = s.pmc := rfl
@[simp] theorem setF_dma (s : State) (k : Nat) (f : Fld) (n : Nat) : (setF s k f n).dma = s.dma := rfl
@[simp] theorem setF_dmaLast (s : State) (k : Nat) (f : Fld) (n : Nat) : (setF s k f n).dmaLast = s.dmaLast := rfl
@[simp] theorem setF_blt (s : State) (k : Nat) (f : Fld) (n : Nat) : (setF s k f n).blt = s.blt := rfl
@[simp] theorem setF_hlk (s : State) (k : Nat) (f : Fld) (n : Nat) : (setF s k f n).hlk = s.hlk := rfl
@[simp] theorem setF_flr (s : State) (k : Nat) (f : Fld) (n : Nat) : (setF s k f n).flr = s.flr := rfl

@[simp] theorem addF_pending (s : State) (k : Nat) (f : Fld) (n : Nat) : (addF s k f n).pending = s.pending := rfl
@[simp] theorem addF_free (s : State) (k : Nat) (f : Fld) (n : Nat) : (addF s k f n).free = s.free := rfl
@[simp] theorem addF_clock (s : State) (k : Nat) (f : Fld) (n : Nat) : (addF s k f n).clock = s.clock := rfl
@[simp] theorem addF_rdata (s : State) (k : Nat) (f : Fld) (n : Nat) : (addF s k f n).rdata = s.rdata := rfl
@[simp] theorem addF_mem (s : State) (k : Nat) (f : Fld) (n : Nat) : (addF s k f n).mem = s.mem := rfl
@[simp] theorem addF_l2 (s : State) (k : Nat) (f : Fld) (n : Nat) : (addF s k f n).l2 = s.l2 := rfl
@[simp] theorem addF_cores (s : State) (k : Nat) (f : Fld) (n : Nat) : (addF s k f n).cores = s.cores := rfl
@[simp] theorem addF_turn (s : State) (k : Nat) (f : Fld) (n : Nat) : (addF s k f n).turn = s.turn := rfl
@[simp] theorem addF_irq (s : State) (k : Nat) (f : Fld) (n : Nat) : (addF s k f n).irq = s.irq := rfl
@[simp] theorem addF_pwr (s : State) (k : Nat) (f : Fld) (n : Nat) : (addF s k f n).pwr = s.pwr := rfl
@[simp] theorem addF_tilt (s : State) (k : Nat) (f : Fld) (n : Nat) : (addF s k f n).tilt = s.tilt := rfl
@[simp] theorem addF_ldg (s : State) (k : Nat) (f : Fld) (n : Nat) : (addF s k f n).ldg = s.ldg := rfl
@[simp] theorem addF_sec (s : State) (k : Nat) (f : Fld) (n : Nat) : (addF s k f n).sec = s.sec := rfl
@[simp] theorem addF_cfg (s : State) (k : Nat) (f : Fld) (n : Nat) : (addF s k f n).cfg = s.cfg := rfl
@[simp] theorem addF_mc (s : State) (k : Nat) (f : Fld) (n : Nat) : (addF s k f n).mc = s.mc := rfl
@[simp] theorem addF_pat (s : State) (k : Nat) (f : Fld) (n : Nat) : (addF s k f n).pat = s.pat := rfl
@[simp] theorem addF_clu (s : State) (k : Nat) (f : Fld) (n : Nat) : (addF s k f n).clu = s.clu := rfl
@[simp] theorem addF_ktl (s : State) (k : Nat) (f : Fld) (n : Nat) : (addF s k f n).ktl = s.ktl := rfl
@[simp] theorem addF_aas (s : State) (k : Nat) (f : Fld) (n : Nat) : (addF s k f n).aas = s.aas := rfl
@[simp] theorem addF_tmr (s : State) (k : Nat) (f : Fld) (n : Nat) : (addF s k f n).tmr = s.tmr := rfl
@[simp] theorem addF_pmc (s : State) (k : Nat) (f : Fld) (n : Nat) : (addF s k f n).pmc = s.pmc := rfl
@[simp] theorem addF_dma (s : State) (k : Nat) (f : Fld) (n : Nat) : (addF s k f n).dma = s.dma := rfl
@[simp] theorem addF_dmaLast (s : State) (k : Nat) (f : Fld) (n : Nat) : (addF s k f n).dmaLast = s.dmaLast := rfl
@[simp] theorem addF_blt (s : State) (k : Nat) (f : Fld) (n : Nat) : (addF s k f n).blt = s.blt := rfl
@[simp] theorem addF_hlk (s : State) (k : Nat) (f : Fld) (n : Nat) : (addF s k f n).hlk = s.hlk := rfl
@[simp] theorem addF_flr (s : State) (k : Nat) (f : Fld) (n : Nat) : (addF s k f n).flr = s.flr := rfl

@[simp] theorem State.setCore_pending (s : State) (k : CoreId) (c : Core) : (s.setCore k c).pending = s.pending := rfl
@[simp] theorem State.setCore_free (s : State) (k : CoreId) (c : Core) : (s.setCore k c).free = s.free := rfl
@[simp] theorem State.setCore_clock (s : State) (k : CoreId) (c : Core) : (s.setCore k c).clock = s.clock := rfl
@[simp] theorem State.setCore_rdata (s : State) (k : CoreId) (c : Core) : (s.setCore k c).rdata = s.rdata := rfl
@[simp] theorem State.setCore_regs (s : State) (k : CoreId) (c : Core) : (s.setCore k c).regs = s.regs := rfl
@[simp] theorem State.setCore_mem (s : State) (k : CoreId) (c : Core) : (s.setCore k c).mem = s.mem := rfl
@[simp] theorem State.setCore_l2 (s : State) (k : CoreId) (c : Core) : (s.setCore k c).l2 = s.l2 := rfl
@[simp] theorem State.setCore_irq (s : State) (k : CoreId) (c : Core) : (s.setCore k c).irq = s.irq := rfl
@[simp] theorem State.setCore_turn (s : State) (k : CoreId) (c : Core) : (s.setCore k c).turn = s.turn := rfl
@[simp] theorem State.setCore_pwr (s : State) (k : CoreId) (c : Core) : (s.setCore k c).pwr = s.pwr := rfl
@[simp] theorem State.setCore_tilt (s : State) (k : CoreId) (c : Core) : (s.setCore k c).tilt = s.tilt := rfl
@[simp] theorem State.setCore_ldg (s : State) (k : CoreId) (c : Core) : (s.setCore k c).ldg = s.ldg := rfl
@[simp] theorem State.setCore_sec (s : State) (k : CoreId) (c : Core) : (s.setCore k c).sec = s.sec := rfl
@[simp] theorem State.setCore_cfg (s : State) (k : CoreId) (c : Core) : (s.setCore k c).cfg = s.cfg := rfl
@[simp] theorem State.setCore_mc (s : State) (k : CoreId) (c : Core) : (s.setCore k c).mc = s.mc := rfl
@[simp] theorem State.setCore_pat (s : State) (k : CoreId) (c : Core) : (s.setCore k c).pat = s.pat := rfl
@[simp] theorem State.setCore_clu (s : State) (k : CoreId) (c : Core) : (s.setCore k c).clu = s.clu := rfl
@[simp] theorem State.setCore_ktl (s : State) (k : CoreId) (c : Core) : (s.setCore k c).ktl = s.ktl := rfl
@[simp] theorem State.setCore_aas (s : State) (k : CoreId) (c : Core) : (s.setCore k c).aas = s.aas := rfl
@[simp] theorem State.setCore_tmr (s : State) (k : CoreId) (c : Core) : (s.setCore k c).tmr = s.tmr := rfl
@[simp] theorem State.setCore_pmc (s : State) (k : CoreId) (c : Core) : (s.setCore k c).pmc = s.pmc := rfl
@[simp] theorem State.setCore_dma (s : State) (k : CoreId) (c : Core) : (s.setCore k c).dma = s.dma := rfl
@[simp] theorem State.setCore_dmaLast (s : State) (k : CoreId) (c : Core) : (s.setCore k c).dmaLast = s.dmaLast := rfl
@[simp] theorem State.setCore_blt (s : State) (k : CoreId) (c : Core) : (s.setCore k c).blt = s.blt := rfl
@[simp] theorem State.setCore_hlk (s : State) (k : CoreId) (c : Core) : (s.setCore k c).hlk = s.hlk := rfl
@[simp] theorem State.setCore_flr (s : State) (k : CoreId) (c : Core) : (s.setCore k c).flr = s.flr := rfl

@[simp] theorem State.draw_pending (s : State) : (s.draw).pending = s.pending := rfl
@[simp] theorem State.draw_clock (s : State) : (s.draw).clock = s.clock := rfl
@[simp] theorem State.draw_rdata (s : State) : (s.draw).rdata = s.rdata := rfl
@[simp] theorem State.draw_regs (s : State) : (s.draw).regs = s.regs := rfl
@[simp] theorem State.draw_mem (s : State) : (s.draw).mem = s.mem := rfl
@[simp] theorem State.draw_l2 (s : State) : (s.draw).l2 = s.l2 := rfl
@[simp] theorem State.draw_cores (s : State) : (s.draw).cores = s.cores := rfl
@[simp] theorem State.draw_turn (s : State) : (s.draw).turn = s.turn := rfl
@[simp] theorem State.draw_irq (s : State) : (s.draw).irq = s.irq := rfl
@[simp] theorem State.draw_pwr (s : State) : (s.draw).pwr = s.pwr := rfl
@[simp] theorem State.draw_tilt (s : State) : (s.draw).tilt = s.tilt := rfl
@[simp] theorem State.draw_ldg (s : State) : (s.draw).ldg = s.ldg := rfl
@[simp] theorem State.draw_sec (s : State) : (s.draw).sec = s.sec := rfl
@[simp] theorem State.draw_cfg (s : State) : (s.draw).cfg = s.cfg := rfl
@[simp] theorem State.draw_mc (s : State) : (s.draw).mc = s.mc := rfl
@[simp] theorem State.draw_pat (s : State) : (s.draw).pat = s.pat := rfl
@[simp] theorem State.draw_clu (s : State) : (s.draw).clu = s.clu := rfl
@[simp] theorem State.draw_ktl (s : State) : (s.draw).ktl = s.ktl := rfl
@[simp] theorem State.draw_aas (s : State) : (s.draw).aas = s.aas := rfl
@[simp] theorem State.draw_tmr (s : State) : (s.draw).tmr = s.tmr := rfl
@[simp] theorem State.draw_pmc (s : State) : (s.draw).pmc = s.pmc := rfl
@[simp] theorem State.draw_dma (s : State) : (s.draw).dma = s.dma := rfl
@[simp] theorem State.draw_dmaLast (s : State) : (s.draw).dmaLast = s.dmaLast := rfl
@[simp] theorem State.draw_blt (s : State) : (s.draw).blt = s.blt := rfl
@[simp] theorem State.draw_hlk (s : State) : (s.draw).hlk = s.hlk := rfl
@[simp] theorem State.draw_flr (s : State) : (s.draw).flr = s.flr := rfl

@[simp] theorem State.writeBytes_pending (s : State) (k : Nat) (bs : List Byte) : (s.writeBytes k bs).pending = s.pending := rfl
@[simp] theorem State.writeBytes_free (s : State) (k : Nat) (bs : List Byte) : (s.writeBytes k bs).free = s.free := rfl
@[simp] theorem State.writeBytes_clock (s : State) (k : Nat) (bs : List Byte) : (s.writeBytes k bs).clock = s.clock := rfl
@[simp] theorem State.writeBytes_rdata (s : State) (k : Nat) (bs : List Byte) : (s.writeBytes k bs).rdata = s.rdata := rfl
@[simp] theorem State.writeBytes_regs (s : State) (k : Nat) (bs : List Byte) : (s.writeBytes k bs).regs = s.regs := rfl
@[simp] theorem State.writeBytes_l2 (s : State) (k : Nat) (bs : List Byte) : (s.writeBytes k bs).l2 = s.l2 := rfl
@[simp] theorem State.writeBytes_cores (s : State) (k : Nat) (bs : List Byte) : (s.writeBytes k bs).cores = s.cores := rfl
@[simp] theorem State.writeBytes_turn (s : State) (k : Nat) (bs : List Byte) : (s.writeBytes k bs).turn = s.turn := rfl
@[simp] theorem State.writeBytes_irq (s : State) (k : Nat) (bs : List Byte) : (s.writeBytes k bs).irq = s.irq := rfl
@[simp] theorem State.writeBytes_pwr (s : State) (k : Nat) (bs : List Byte) : (s.writeBytes k bs).pwr = s.pwr := rfl
@[simp] theorem State.writeBytes_tilt (s : State) (k : Nat) (bs : List Byte) : (s.writeBytes k bs).tilt = s.tilt := rfl
@[simp] theorem State.writeBytes_ldg (s : State) (k : Nat) (bs : List Byte) : (s.writeBytes k bs).ldg = s.ldg := rfl
@[simp] theorem State.writeBytes_sec (s : State) (k : Nat) (bs : List Byte) : (s.writeBytes k bs).sec = s.sec := rfl
@[simp] theorem State.writeBytes_cfg (s : State) (k : Nat) (bs : List Byte) : (s.writeBytes k bs).cfg = s.cfg := rfl
@[simp] theorem State.writeBytes_mc (s : State) (k : Nat) (bs : List Byte) : (s.writeBytes k bs).mc = s.mc := rfl
@[simp] theorem State.writeBytes_pat (s : State) (k : Nat) (bs : List Byte) : (s.writeBytes k bs).pat = s.pat := rfl
@[simp] theorem State.writeBytes_clu (s : State) (k : Nat) (bs : List Byte) : (s.writeBytes k bs).clu = s.clu := rfl
@[simp] theorem State.writeBytes_ktl (s : State) (k : Nat) (bs : List Byte) : (s.writeBytes k bs).ktl = s.ktl := rfl
@[simp] theorem State.writeBytes_aas (s : State) (k : Nat) (bs : List Byte) : (s.writeBytes k bs).aas = s.aas := rfl
@[simp] theorem State.writeBytes_tmr (s : State) (k : Nat) (bs : List Byte) : (s.writeBytes k bs).tmr = s.tmr := rfl
@[simp] theorem State.writeBytes_pmc (s : State) (k : Nat) (bs : List Byte) : (s.writeBytes k bs).pmc = s.pmc := rfl
@[simp] theorem State.writeBytes_dma (s : State) (k : Nat) (bs : List Byte) : (s.writeBytes k bs).dma = s.dma := rfl
@[simp] theorem State.writeBytes_dmaLast (s : State) (k : Nat) (bs : List Byte) : (s.writeBytes k bs).dmaLast = s.dmaLast := rfl
@[simp] theorem State.writeBytes_blt (s : State) (k : Nat) (bs : List Byte) : (s.writeBytes k bs).blt = s.blt := rfl
@[simp] theorem State.writeBytes_hlk (s : State) (k : Nat) (bs : List Byte) : (s.writeBytes k bs).hlk = s.hlk := rfl
@[simp] theorem State.writeBytes_flr (s : State) (k : Nat) (bs : List Byte) : (s.writeBytes k bs).flr = s.flr := rfl

@[simp] theorem latchEdge_pending (n : Nat) (s : State) : (latchEdge n s).pending = s.pending := rfl
@[simp] theorem latchEdge_free (n : Nat) (s : State) : (latchEdge n s).free = s.free := rfl
@[simp] theorem latchEdge_clock (n : Nat) (s : State) : (latchEdge n s).clock = s.clock := rfl
@[simp] theorem latchEdge_rdata (n : Nat) (s : State) : (latchEdge n s).rdata = s.rdata := rfl
@[simp] theorem latchEdge_regs (n : Nat) (s : State) : (latchEdge n s).regs = s.regs := rfl
@[simp] theorem latchEdge_mem (n : Nat) (s : State) : (latchEdge n s).mem = s.mem := rfl
@[simp] theorem latchEdge_l2 (n : Nat) (s : State) : (latchEdge n s).l2 = s.l2 := rfl
@[simp] theorem latchEdge_cores (n : Nat) (s : State) : (latchEdge n s).cores = s.cores := rfl
@[simp] theorem latchEdge_turn (n : Nat) (s : State) : (latchEdge n s).turn = s.turn := rfl
@[simp] theorem latchEdge_pwr (n : Nat) (s : State) : (latchEdge n s).pwr = s.pwr := rfl
@[simp] theorem latchEdge_tilt (n : Nat) (s : State) : (latchEdge n s).tilt = s.tilt := rfl
@[simp] theorem latchEdge_ldg (n : Nat) (s : State) : (latchEdge n s).ldg = s.ldg := rfl
@[simp] theorem latchEdge_sec (n : Nat) (s : State) : (latchEdge n s).sec = s.sec := rfl
@[simp] theorem latchEdge_cfg (n : Nat) (s : State) : (latchEdge n s).cfg = s.cfg := rfl
@[simp] theorem latchEdge_mc (n : Nat) (s : State) : (latchEdge n s).mc = s.mc := rfl
@[simp] theorem latchEdge_pat (n : Nat) (s : State) : (latchEdge n s).pat = s.pat := rfl
@[simp] theorem latchEdge_clu (n : Nat) (s : State) : (latchEdge n s).clu = s.clu := rfl
@[simp] theorem latchEdge_ktl (n : Nat) (s : State) : (latchEdge n s).ktl = s.ktl := rfl
@[simp] theorem latchEdge_aas (n : Nat) (s : State) : (latchEdge n s).aas = s.aas := rfl
@[simp] theorem latchEdge_tmr (n : Nat) (s : State) : (latchEdge n s).tmr = s.tmr := rfl
@[simp] theorem latchEdge_pmc (n : Nat) (s : State) : (latchEdge n s).pmc = s.pmc := rfl
@[simp] theorem latchEdge_dma (n : Nat) (s : State) : (latchEdge n s).dma = s.dma := rfl
@[simp] theorem latchEdge_dmaLast (n : Nat) (s : State) : (latchEdge n s).dmaLast = s.dmaLast := rfl
@[simp] theorem latchEdge_blt (n : Nat) (s : State) : (latchEdge n s).blt = s.blt := rfl
@[simp] theorem latchEdge_hlk (n : Nat) (s : State) : (latchEdge n s).hlk = s.hlk := rfl
@[simp] theorem latchEdge_flr (n : Nat) (s : State) : (latchEdge n s).flr = s.flr := rfl

@[simp] theorem setSrcBit_pending (b k : Nat) (x : Bool) (s : State) : (setSrcBit b k x s).pending = s.pending := rfl
@[simp] theorem setSrcBit_free (b k : Nat) (x : Bool) (s : State) : (setSrcBit b k x s).free = s.free := rfl
@[simp] theorem setSrcBit_clock (b k : Nat) (x : Bool) (s : State) : (setSrcBit b k x s).clock = s.clock := rfl
@[simp] theorem setSrcBit_rdata (b k : Nat) (x : Bool) (s : State) : (setSrcBit b k x s).rdata = s.rdata := rfl
@[simp] theorem setSrcBit_mem (b k : Nat) (x : Bool) (s : State) : (setSrcBit b k x s).mem = s.mem := rfl
@[simp] theorem setSrcBit_l2 (b k : Nat) (x : Bool) (s : State) : (setSrcBit b k x s).l2 = s.l2 := rfl
@[simp] theorem setSrcBit_cores (b k : Nat) (x : Bool) (s : State) : (setSrcBit b k x s).cores = s.cores := rfl
@[simp] theorem setSrcBit_turn (b k : Nat) (x : Bool) (s : State) : (setSrcBit b k x s).turn = s.turn := rfl
@[simp] theorem setSrcBit_irq (b k : Nat) (x : Bool) (s : State) : (setSrcBit b k x s).irq = s.irq := rfl
@[simp] theorem setSrcBit_pwr (b k : Nat) (x : Bool) (s : State) : (setSrcBit b k x s).pwr = s.pwr := rfl
@[simp] theorem setSrcBit_tilt (b k : Nat) (x : Bool) (s : State) : (setSrcBit b k x s).tilt = s.tilt := rfl
@[simp] theorem setSrcBit_ldg (b k : Nat) (x : Bool) (s : State) : (setSrcBit b k x s).ldg = s.ldg := rfl
@[simp] theorem setSrcBit_sec (b k : Nat) (x : Bool) (s : State) : (setSrcBit b k x s).sec = s.sec := rfl
@[simp] theorem setSrcBit_cfg (b k : Nat) (x : Bool) (s : State) : (setSrcBit b k x s).cfg = s.cfg := rfl
@[simp] theorem setSrcBit_mc (b k : Nat) (x : Bool) (s : State) : (setSrcBit b k x s).mc = s.mc := rfl
@[simp] theorem setSrcBit_pat (b k : Nat) (x : Bool) (s : State) : (setSrcBit b k x s).pat = s.pat := rfl
@[simp] theorem setSrcBit_clu (b k : Nat) (x : Bool) (s : State) : (setSrcBit b k x s).clu = s.clu := rfl
@[simp] theorem setSrcBit_ktl (b k : Nat) (x : Bool) (s : State) : (setSrcBit b k x s).ktl = s.ktl := rfl
@[simp] theorem setSrcBit_aas (b k : Nat) (x : Bool) (s : State) : (setSrcBit b k x s).aas = s.aas := rfl
@[simp] theorem setSrcBit_tmr (b k : Nat) (x : Bool) (s : State) : (setSrcBit b k x s).tmr = s.tmr := rfl
@[simp] theorem setSrcBit_pmc (b k : Nat) (x : Bool) (s : State) : (setSrcBit b k x s).pmc = s.pmc := rfl
@[simp] theorem setSrcBit_dma (b k : Nat) (x : Bool) (s : State) : (setSrcBit b k x s).dma = s.dma := rfl
@[simp] theorem setSrcBit_dmaLast (b k : Nat) (x : Bool) (s : State) : (setSrcBit b k x s).dmaLast = s.dmaLast := rfl
@[simp] theorem setSrcBit_blt (b k : Nat) (x : Bool) (s : State) : (setSrcBit b k x s).blt = s.blt := rfl
@[simp] theorem setSrcBit_hlk (b k : Nat) (x : Bool) (s : State) : (setSrcBit b k x s).hlk = s.hlk := rfl
@[simp] theorem setSrcBit_flr (b k : Nat) (x : Bool) (s : State) : (setSrcBit b k x s).flr = s.flr := rfl

theorem State.setCore_cores (s : State) (k : CoreId) (c : Core) : (s.setCore k c).cores = s.cores.set k c := rfl
theorem State.draw_free (s : State) : s.draw.free = s.free + 1 := rfl
theorem State.writeBytes_mem (s : State) (k : Nat) (bs : List Byte) :
    (s.writeBytes k bs).mem = Memory.writeBytes s.mem k bs := rfl

/-- The core that was set is the one that is read. -/
@[simp] theorem State.setCore_same (s : State) (k : CoreId) (c : Core) (h : k.val < 10) :
    (s.setCore k c).cores[k.val]'h = c := by simp [State.setCore]

theorem State.setCore_ne (s : State) {k : CoreId} {j : Nat} (c : Core) (hj : j < 10) (h : j ≠ k.val) :
    (s.setCore k c).cores[j]'hj = s.cores[j]'hj := by
  simp [State.setCore, Vector.getElem_set_ne, h.symm]

@[simp] theorem State.setCore_setCore (s : State) (k : CoreId) (c c' : Core) :
    (s.setCore k c).setCore k c' = s.setCore k c' := by
  simp [State.setCore, Vector.set_set]

/-- The register table after a field is written. -/
theorem setReg_regs (s : State) (k : Nat) (v : Word) : (setReg s k v).regs = Tab.set s.regs (resetOf k) k v := rfl

end Sys2Proof.Machine
end

