-- ==== Sys2Proof/Laws/Tab.lean ====
section
/-! SUPPORT. The laws of the sparse tables: reading after a write, and the canonical form. -/
namespace Sys2Proof.Machine

theorem Tab.find_erase_same {α : Type} (t : Tab α) (k : Nat) : Tab.find (Tab.erase t k) k = none := by
  induction t with
  | nil => rfl
  | cons e t ih =>
    obtain ⟨j, x⟩ := e
    by_cases h : j = k <;> simp [Tab.erase, Tab.find, h, ih]

theorem Tab.find_erase_ne {α : Type} (t : Tab α) {k j : Nat} (h : j ≠ k) :
    Tab.find (Tab.erase t k) j = Tab.find t j := by
  induction t with
  | nil => rfl
  | cons e t ih =>
    obtain ⟨i, x⟩ := e
    by_cases hi : i = k
    · subst hi; simp [Tab.erase, Tab.find, ih, h.symm]
    · by_cases hj : i = j
      · subst hj; simp [Tab.erase, Tab.find, hi]
      · simp [Tab.erase, Tab.find, hi, hj, ih]

theorem Tab.find_insert_same {α : Type} (t : Tab α) (k : Nat) (x : α) : Tab.find (Tab.insert t k x) k = some x := by
  induction t with
  | nil => simp [Tab.insert, Tab.find]
  | cons e t ih =>
    obtain ⟨j, y⟩ := e
    by_cases h : j = k
    · simp [Tab.insert, Tab.find, h]
    · by_cases hk : k < j <;> simp [Tab.insert, Tab.find, h, hk, ih]

theorem Tab.find_insert_ne {α : Type} (t : Tab α) {k j : Nat} (x : α) (h : j ≠ k) :
    Tab.find (Tab.insert t k x) j = Tab.find t j := by
  induction t with
  | nil => simp [Tab.insert, Tab.find, h.symm]
  | cons e t ih =>
    obtain ⟨i, y⟩ := e
    by_cases hi : i = k
    · subst hi; simp [Tab.insert, Tab.find, h.symm]
    · by_cases hk : k < i
      · simp [Tab.insert, Tab.find, hi, hk, h.symm]
      · simp [Tab.insert, Tab.find, hi, hk, ih]

/-- A set table reads as the value set, and elsewhere as before. -/
@[simp] theorem Tab.get_set_same {α : Type} [DecidableEq α] (t : Tab α) (d : α) (k : Nat) (x : α) :
    Tab.get (Tab.set t d k x) d k = x := by
  by_cases h : x = d
  · simp [Tab.get, Tab.set, h, Tab.find_erase_same]
  · simp [Tab.get, Tab.set, h, Tab.find_insert_same]

theorem Tab.get_set_ne {α : Type} [DecidableEq α] (t : Tab α) (d e : α) {k j : Nat} (x : α) (h : j ≠ k) :
    Tab.get (Tab.set t d k x) e j = Tab.get t e j := by
  by_cases hx : x = d
  · simp [Tab.get, Tab.set, hx, Tab.find_erase_ne t h]
  · simp [Tab.get, Tab.set, hx, Tab.find_insert_ne t x h]

theorem Tab.find_set_ne {α : Type} [DecidableEq α] (t : Tab α) (d : α) {k j : Nat} (x : α) (h : j ≠ k) :
    Tab.find (Tab.set t d k x) j = Tab.find t j := by
  by_cases hx : x = d
  · simp [Tab.set, hx, Tab.find_erase_ne t h]
  · simp [Tab.set, hx, Tab.find_insert_ne t x h]

/-! ## The canonical form -/

/-- Rising keys stay above any lower bound. -/
theorem Tab.sortedFrom_mono {α : Type} {lo lo' : Nat} {t : Tab α} (h : lo' ≤ lo) (hs : Tab.sortedFrom lo t = true) :
    Tab.sortedFrom lo' t = true := by
  cases t with
  | nil => rfl
  | cons e t =>
    obtain ⟨j, x⟩ := e
    simp only [Tab.sortedFrom, Bool.and_eq_true, decide_eq_true_eq] at hs ⊢
    exact ⟨by omega, hs.2⟩

theorem Tab.sortedFrom_erase {α : Type} {t : Tab α} (k : Nat) :
    ∀ {lo : Nat}, Tab.sortedFrom lo t = true → Tab.sortedFrom lo (Tab.erase t k) = true := by
  induction t with
  | nil => intro lo _; rfl
  | cons e t ih =>
    obtain ⟨j, x⟩ := e
    intro lo hs
    simp only [Tab.sortedFrom, Bool.and_eq_true, decide_eq_true_eq] at hs
    by_cases h : j = k
    · simp only [Tab.erase, h, if_true]
      exact Tab.sortedFrom_mono (by omega) (ih hs.2)
    · simp only [Tab.erase, h, if_false, Tab.sortedFrom, Bool.and_eq_true, decide_eq_true_eq]
      exact ⟨hs.1, ih hs.2⟩

theorem Tab.sortedFrom_insert {α : Type} {t : Tab α} (k : Nat) (y : α) :
    ∀ {lo : Nat}, lo ≤ k → Tab.sortedFrom lo t = true → Tab.sortedFrom lo (Tab.insert t k y) = true := by
  induction t with
  | nil => intro lo hk _; simp [Tab.insert, Tab.sortedFrom, hk]
  | cons e t ih =>
    obtain ⟨j, x⟩ := e
    intro lo hk hs
    simp only [Tab.sortedFrom, Bool.and_eq_true, decide_eq_true_eq] at hs
    by_cases h : j = k
    · subst h; simp [Tab.insert, Tab.sortedFrom, hs.1, hs.2]
    · by_cases hkj : k < j
      · simp only [Tab.insert, h, if_false, hkj, if_true, Tab.sortedFrom, Bool.and_eq_true, decide_eq_true_eq]
        exact ⟨hk, by omega, hs.2⟩
      · simp only [Tab.insert, h, if_false, hkj, Tab.sortedFrom, Bool.and_eq_true, decide_eq_true_eq]
        exact ⟨hs.1, ih (by omega) hs.2⟩

theorem Tab.sortedFrom_filter {α : Type} {t : Tab α} (p : Nat × α → Bool) :
    ∀ {lo : Nat}, Tab.sortedFrom lo t = true → Tab.sortedFrom lo (t.filter p) = true := by
  induction t with
  | nil => intro lo _; rfl
  | cons e t ih =>
    obtain ⟨j, x⟩ := e
    intro lo hs
    simp only [Tab.sortedFrom, Bool.and_eq_true, decide_eq_true_eq] at hs
    by_cases h : p (j, x) = true
    · simp only [List.filter_cons, h, if_true, Tab.sortedFrom, Bool.and_eq_true, decide_eq_true_eq]
      exact ⟨hs.1, ih hs.2⟩
    · simp only [List.filter_cons, h]
      exact Tab.sortedFrom_mono (by omega) (ih hs.2)

theorem Tab.mem_erase {α : Type} {t : Tab α} {k : Nat} {e : Nat × α} (h : e ∈ Tab.erase t k) : e ∈ t := by
  induction t with
  | nil => simp [Tab.erase] at h
  | cons a t ih =>
    obtain ⟨j, x⟩ := a
    by_cases hj : j = k
    · simp only [Tab.erase, hj, if_true] at h; exact List.mem_cons_of_mem _ (ih h)
    · simp only [Tab.erase, hj, if_false, List.mem_cons] at h
      rcases h with h | h
      · exact h ▸ List.mem_cons_self
      · exact List.mem_cons_of_mem _ (ih h)

theorem Tab.mem_insert {α : Type} {t : Tab α} {k : Nat} {y : α} {e : Nat × α} (h : e ∈ Tab.insert t k y) :
    e = (k, y) ∨ e ∈ t := by
  induction t with
  | nil => simp [Tab.insert] at h; exact .inl h
  | cons a t ih =>
    obtain ⟨j, x⟩ := a
    by_cases hj : j = k
    · simp only [Tab.insert, hj, if_true, List.mem_cons] at h
      rcases h with h | h
      · exact .inl h
      · exact .inr (List.mem_cons_of_mem _ h)
    · by_cases hk : k < j
      · simp only [Tab.insert, hj, hk, if_true, if_false, List.mem_cons] at h
        rcases h with h | h | h
        · exact .inl h
        · exact .inr (h ▸ List.mem_cons_self)
        · exact .inr (List.mem_cons_of_mem _ h)
      · simp only [Tab.insert, hj, hk, if_false, List.mem_cons] at h
        rcases h with h | h
        · exact .inr (h ▸ List.mem_cons_self)
        · rcases ih h with h | h
          · exact .inl h
          · exact .inr (List.mem_cons_of_mem _ h)

/-- Setting an entry to a value keeps the canonical form, whatever an unlisted key reads as there. -/
theorem Tab.wf_set {α : Type} [DecidableEq α] {t : Tab α} {dflt : Nat → α} (k : Nat) (x : α)
    (h : Tab.wf t dflt = true) : Tab.wf (Tab.set t (dflt k) k x) dflt = true := by
  simp only [Tab.wf, Bool.and_eq_true, List.all_eq_true, decide_eq_true_eq] at h ⊢
  by_cases hx : x = dflt k
  · simp only [Tab.set, hx, if_true]
    exact ⟨Tab.sortedFrom_erase k h.1, fun e he => h.2 e (Tab.mem_erase he)⟩
  · simp only [Tab.set, hx, if_false]
    refine ⟨Tab.sortedFrom_insert k x (Nat.zero_le _) h.1, fun e he => ?_⟩
    rcases Tab.mem_insert he with rfl | he
    · exact hx
    · exact h.2 e he

theorem Tab.wf_filter {α : Type} [DecidableEq α] {t : Tab α} {dflt : Nat → α} (p : Nat × α → Bool)
    (h : Tab.wf t dflt = true) : Tab.wf (t.filter p) dflt = true := by
  simp only [Tab.wf, Bool.and_eq_true, List.all_eq_true, decide_eq_true_eq] at h ⊢
  exact ⟨Tab.sortedFrom_filter p h.1, fun e he => h.2 e (List.mem_filter.mp he).1⟩

end Sys2Proof.Machine
end

