-- ==== Sys2Proof/Laws/Regs.lean ====
section
/-! SUPPORT. The laws of the register table: reading a register or a field after a write, and what a gated access does. -/
namespace Sys2Proof.Machine

/-! ## Registers and fields -/

@[simp] theorem getReg_setReg_same (s : State) (k : Nat) (v : Word) : getReg (setReg s k v) k = v := by
  have := Tab.get_set_same s.regs (resetOf k) k v
  exact this

theorem getReg_setReg_ne (s : State) {k j : Nat} (v : Word) (h : j ≠ k) : getReg (setReg s k v) j = getReg s j := by
  simp [getReg, setReg_regs, Tab.find_set_ne s.regs (resetOf k) v h]

@[simp] theorem getReg_setF_same (s : State) (k : Nat) (f : Fld) (n : Nat) :
    getReg (setF s k f n) k = f.put n (getReg s k) := getReg_setReg_same s k _

theorem getReg_setF_ne (s : State) {k j : Nat} (f : Fld) (n : Nat) (h : j ≠ k) :
    getReg (setF s k f n) j = getReg s j := getReg_setReg_ne s _ h

theorem getF_setF_same (s : State) (k : Nat) (f : Fld) (h : f.ok) (n : Nat) :
    getF (setF s k f n) k f = n % 2 ^ f.len := by
  simp [getF, Fld.get_put_same f h]

theorem getF_setF_apart (s : State) (k : Nat) (f g : Fld) (hg : g.ok) (h : f.apart g) (n : Nat) :
    getF (setF s k f n) k g = getF s k g := by
  simp [getF, Fld.get_put_apart f g hg h]

theorem onF_setF_same (s : State) (k : Nat) (f : Fld) (h : f.ok) (n : Nat) :
    onF (setF s k f n) k f = n.testBit 0 := by
  simp [onF, Fld.on_put_same f h]

theorem onF_setF_apart (s : State) (k : Nat) (f g : Fld) (hg : g.ok) (h : f.apart g) (n : Nat) :
    onF (setF s k f n) k g = onF s k g := by
  simp [onF, Fld.on_put_apart f g hg h]

theorem getF_setReg_ne (s : State) {k j : Nat} (v : Word) (f : Fld) (h : j ≠ k) :
    getF (setReg s k v) j f = getF s j f := by simp [getF, getReg_setReg_ne s v h]

theorem getF_setF_ne (s : State) {k j : Nat} (f g : Fld) (n : Nat) (h : j ≠ k) :
    getF (setF s k f n) j g = getF s j g := getF_setReg_ne s _ g h

theorem onF_setReg_ne (s : State) {k j : Nat} (v : Word) (f : Fld) (h : j ≠ k) :
    onF (setReg s k v) j f = onF s j f := by simp [onF, getReg_setReg_ne s v h]

theorem onF_setF_ne (s : State) {k j : Nat} (f g : Fld) (n : Nat) (h : j ≠ k) :
    onF (setF s k f n) j g = onF s j g := onF_setReg_ne s _ g h

/-- Registers depend on the register table alone. -/
theorem getReg_congr {s t : State} (h : t.regs = s.regs) (k : Nat) : getReg t k = getReg s k := by
  simp [getReg, h]

end Sys2Proof.Machine
end

