-- ==== Sys2Proof/Laws/Access.lean ====
section
/-! SUPPORT. What a gated register access comes to, and the bookkeeping of which registers may differ. -/
namespace Sys2Proof.Machine

/-- An access that reaches its register is what its command does there. -/
theorem gate_reaches {m : Master} {w : Bool} {p : Nat} {s : State} (f : State → Out) (h : s.reaches m w p = true) :
    gate m w p f s = f s := by
  cases m with
  | core k =>
    simp only [State.reaches, Bool.and_eq_true, Option.isNone_iff_eq_none] at h
    simp [gate, h.1, h.2]
  | debug =>
    simp only [State.reaches, Bool.and_eq_true, Bool.not_eq_true'] at h
    simp [gate, h.1, h.2]

/-- The debug port's access to a register that is off, or that each core owns, finds no register. -/
theorem gate_debug_off {w : Bool} {p : Nat} {s : State} (f : State → Out) (h : isOwn p = true ∨ s.portOn p = false) :
    gate .debug w p f s = .next (noRegister w s) := by
  rcases h with h | h <;> simp [gate, h]

/-- A core's allowed access to a register that is off finds no register. -/
theorem gate_core_off {k : CoreId} {w : Bool} {p : Nat} {s : State} (f : State → Out) (h : ioStop k w p s = none)
    (h2 : s.portOn p = false) : gate (.core k) w p f s = .next (noRegister w s) := by simp [gate, h, h2]

/-- A core that may not make the access takes the exception. -/
theorem gate_core_stop {k : CoreId} {w : Bool} {p : Nat} {s : State} (f : State → Out) {e : Exn}
    (h : ioStop k w p s = some e) :
    gate (.core k) w p f s = .next (if s.issues k then takeException k e s.cores[k].pc (some p) s else s) := by
  simp [gate, h]

/-! ## Which registers may differ -/

theorem RegsBut.refl (s : State) (keys : List Nat) : RegsBut s s keys := fun _ _ => rfl

theorem RegsBut.trans {s t u : State} {keys : List Nat} (h1 : RegsBut s t keys) (h2 : RegsBut t u keys) :
    RegsBut s u keys := fun key hk => (h2 key hk).trans (h1 key hk)

theorem RegsBut.mono {s t : State} {keys keys' : List Nat} (h : RegsBut s t keys) (hk : ∀ k ∈ keys, k ∈ keys') :
    RegsBut s t keys' := fun key hn => h key (fun hm => hn (hk key hm))

theorem RegsBut.setReg (s : State) {k : Nat} (v : Word) {keys : List Nat} (h : k ∈ keys) :
    RegsBut s (setReg s k v) keys :=
  fun _ hk => getReg_setReg_ne s v (fun e => hk (e ▸ h))

theorem RegsBut.setF (s : State) {k : Nat} (f : Fld) (n : Nat) {keys : List Nat} (h : k ∈ keys) :
    RegsBut s (setF s k f n) keys := RegsBut.setReg s _ h

theorem RegsBut.addF (s : State) {k : Nat} (f : Fld) (n : Nat) {keys : List Nat} (h : k ∈ keys) :
    RegsBut s (addF s k f n) keys := RegsBut.setReg s _ h

/-- A change beside the registers leaves every register. -/
theorem RegsBut.of_regs {s t : State} (h : t.regs = s.regs) (keys : List Nat) : RegsBut s t keys :=
  fun key _ => getReg_congr h key

theorem OnlyRegs.refl (s : State) (keys : List Nat) : OnlyRegs s s keys := ⟨rfl, fun _ _ => rfl⟩

theorem OnlyRegs.trans {s t u : State} {keys : List Nat} (h1 : OnlyRegs s t keys) (h2 : OnlyRegs t u keys) :
    OnlyRegs s u keys := by
  refine ⟨?_, fun key hk => (h2.2 key hk).trans (h1.2 key hk)⟩
  rw [h2.1, h1.1]

theorem OnlyRegs.setReg (s : State) {k : Nat} (v : Word) {keys : List Nat} (h : k ∈ keys) :
    OnlyRegs s (setReg s k v) keys := ⟨rfl, RegsBut.setReg s v h⟩

theorem OnlyRegs.setF (s : State) {k : Nat} (f : Fld) (n : Nat) {keys : List Nat} (h : k ∈ keys) :
    OnlyRegs s (setF s k f n) keys := OnlyRegs.setReg s _ h

theorem OnlyRegs.addF (s : State) {k : Nat} (f : Fld) (n : Nat) {keys : List Nat} (h : k ∈ keys) :
    OnlyRegs s (addF s k f n) keys := OnlyRegs.setReg s _ h

end Sys2Proof.Machine
end

