-- ==== Sys2Proof/Laws/Isa.lean ====
section
/-! SUPPORT. What an instruction of the Ivros cores comes to once it executes normally. -/
namespace Sys2Proof.Machine

/-- The core of an instruction as its body finds it. -/
def Core.unshadowed (c : Core) : Core := { c with eiShadow := false }

@[simp] theorem pmcEvent_cores (ev k n : Nat) (s : State) : (pmcEvent ev k n s).cores = s.cores := rfl
@[simp] theorem pmcEvent_regs (ev k n : Nat) (s : State) : (pmcEvent ev k n s).regs = s.regs := rfl
@[simp] theorem pmcEvent_mem (ev k n : Nat) (s : State) : (pmcEvent ev k n s).mem = s.mem := rfl
@[simp] theorem pmcEvent_pwr (ev k n : Nat) (s : State) : (pmcEvent ev k n s).pwr = s.pwr := rfl

theorem stepping_false_of {c : Core} (h : c.stepping = false) : c.stepping ≠ true := by simp [h]

/-- After an instruction that touched no watched address, without a single step, nothing further happens. -/
theorem afterInstruction_id (k : CoreId) (s : State) (h1 : s.cores[k].watchHit = none)
    (h2 : s.cores[k].stepping = false) : afterInstruction k s = s := by
  simp only [Fin.getElem_fin] at *
  simp [afterInstruction, h1, h2]

/-- The CPU clocks of an instruction of clk clocks and len bytes with its prefixes (R261). -/
def instrClocks (h : Hdr) (clk len : Nat) : Nat := if 8 < instrLen h len then clk + 1 else clk

/-- What follows an instruction of core k that found its private port's outputs as old. -/
def wrapUp (k : CoreId) (old : Vector Word 4) (n : Nat) (s : State) : State := afterInstruction k (agePort k old n s)

/-- An instruction that executes normally comes to its body, or waits with its request parked. -/
theorem isaWait_executes (h : Hdr) (clk len : Nat) (a : Accepts) (body : WaitBody) (s : State)
    (he : executes h len a s = true) :
    isaWait h clk len a true body s =
      match body s.cores[h.core].unshadowed (nextPc h len s) (pmcEvent 2 h.core 1 s) with
      | .ok o => Out.then o (wrapUp h.core s.cores[h.core].privOut (instrClocks h clk len))
      | .error w => .next (park w s) := by
  simp only [executes, Bool.and_eq_true, Bool.not_eq_true', Option.isNone_iff_eq_none, instrLen, bne_iff_ne, ne_eq] at he
  obtain ⟨⟨⟨⟨⟨⟨⟨⟨h1, h2⟩, h3⟩, h4⟩, h5⟩, h6⟩, h7⟩, h8⟩, h9⟩ := he
  have h5' : (h.cond != 15) = true := by simpa using h5
  simp only [isaWait, h1, h2, h3, h4, h5', h6, Bool.not_true, Bool.false_eq_true, if_false, Bool.true_and,
    Bool.false_and, nextPc, instrLen, Core.unshadowed]
  rfl

/-- An instruction that executes normally and waits for nothing comes to its body. -/
theorem isaRun_executes (h : Hdr) (clk len : Nat) (a : Accepts) (body : Body) (s : State)
    (he : executes h len a s = true) :
    isaRun h clk len a true body s =
      Out.then (body s.cores[h.core].unshadowed (nextPc h len s) (pmcEvent 2 h.core 1 s))
        (wrapUp h.core s.cores[h.core].privOut (instrClocks h clk len)) := by
  rw [isaRun, isaWait_executes h clk len a _ s he]

/-- A core with the history of its private port one instruction on. -/
def Core.agedBy (c : Core) (old : Vector Word 4) (n : Nat) : Core :=
  { c with privPast := if old = c.privOut then agePast n c.privPast else (n, old) :: agePast n c.privPast }

theorem agePort_eq (k : CoreId) (old : Vector Word 4) (n : Nat) (s : State) :
    agePort k old n s = s.setCore k (s.cores[k].agedBy old n) := rfl

/-- A core that has gone on with its private port's outputs unchanged has become what it is. -/
theorem becomes_agedBy (c c' : Core) (n : Nat) (h1 : c'.privOut = c.privOut) (h2 : c'.privPast = c.privPast) :
    Becomes c (c'.agedBy c.privOut n) c' := ⟨n, by rw [Core.agedBy, h1, if_pos rfl, h2]⟩

/-! ## Flags -/

@[simp] theorem mkSr_bits (v c z n user ie ex : Bool) (i : Nat) :
    (mkSr v c z n user ie ex).getLsbD i =
      ([v, c, z, n, user, ie, ex].getD i false) := by
  cases v <;> cases c <;> cases z <;> cases n <;> cases user <;> cases ie <;> cases ex <;>
    (by_cases h : i < 7
     · interval_cases i <;> rfl
     · rw [BitVec.getLsbD_of_ge _ _ (by omega)]
       rw [List.getD_eq_default _ _ (by simp; omega)])

@[simp] theorem setFlags_fV (c : Core) (f : FlagUpd) : (c.setFlags f).fV = f.v.getD c.fV := by
  rw [Core.fV, Core.setFlags, mkSr_bits]; rfl
@[simp] theorem setFlags_fC (c : Core) (f : FlagUpd) : (c.setFlags f).fC = f.c.getD c.fC := by
  rw [Core.fC, Core.setFlags, mkSr_bits]; rfl
@[simp] theorem setFlags_fZ (c : Core) (f : FlagUpd) : (c.setFlags f).fZ = f.z.getD c.fZ := by
  rw [Core.fZ, Core.setFlags, mkSr_bits]; rfl
@[simp] theorem setFlags_fN (c : Core) (f : FlagUpd) : (c.setFlags f).fN = f.n.getD c.fN := by
  rw [Core.fN, Core.setFlags, mkSr_bits]; rfl
@[simp] theorem setFlags_user (c : Core) (f : FlagUpd) : (c.setFlags f).user = c.user := by
  rw [Core.user, Core.setFlags, mkSr_bits]; rfl
@[simp] theorem setFlags_ie (c : Core) (f : FlagUpd) : (c.setFlags f).ie = c.ie := by
  rw [Core.ie, Core.setFlags, mkSr_bits]; rfl
@[simp] theorem setFlags_ex (c : Core) (f : FlagUpd) : (c.setFlags f).ex = c.ex := by
  rw [Core.ex, Core.setFlags, mkSr_bits]; rfl

@[simp] theorem goTo_fV (c : Core) (pc : Word) : (c.goTo pc).fV = c.fV := rfl
@[simp] theorem setG_fV (c : Core) (r : Reg) (v : Word) : (c.setG r v).fV = c.fV := rfl
@[simp] theorem setAc_fV (c : Core) (a : Fin 4) (v : Acc72) : (c.setAc a v).fV = c.fV := rfl
@[simp] theorem unshadowed_fV (c : Core) : c.unshadowed.fV = c.fV := rfl
@[simp] theorem goTo_fC (c : Core) (pc : Word) : (c.goTo pc).fC = c.fC := rfl
@[simp] theorem setG_fC (c : Core) (r : Reg) (v : Word) : (c.setG r v).fC = c.fC := rfl
@[simp] theorem setAc_fC (c : Core) (a : Fin 4) (v : Acc72) : (c.setAc a v).fC = c.fC := rfl
@[simp] theorem unshadowed_fC (c : Core) : c.unshadowed.fC = c.fC := rfl
@[simp] theorem goTo_fZ (c : Core) (pc : Word) : (c.goTo pc).fZ = c.fZ := rfl
@[simp] theorem setG_fZ (c : Core) (r : Reg) (v : Word) : (c.setG r v).fZ = c.fZ := rfl
@[simp] theorem setAc_fZ (c : Core) (a : Fin 4) (v : Acc72) : (c.setAc a v).fZ = c.fZ := rfl
@[simp] theorem unshadowed_fZ (c : Core) : c.unshadowed.fZ = c.fZ := rfl
@[simp] theorem goTo_fN (c : Core) (pc : Word) : (c.goTo pc).fN = c.fN := rfl
@[simp] theorem setG_fN (c : Core) (r : Reg) (v : Word) : (c.setG r v).fN = c.fN := rfl
@[simp] theorem setAc_fN (c : Core) (a : Fin 4) (v : Acc72) : (c.setAc a v).fN = c.fN := rfl
@[simp] theorem unshadowed_fN (c : Core) : c.unshadowed.fN = c.fN := rfl
@[simp] theorem goTo_user (c : Core) (pc : Word) : (c.goTo pc).user = c.user := rfl
@[simp] theorem setG_user (c : Core) (r : Reg) (v : Word) : (c.setG r v).user = c.user := rfl
@[simp] theorem setAc_user (c : Core) (a : Fin 4) (v : Acc72) : (c.setAc a v).user = c.user := rfl
@[simp] theorem unshadowed_user (c : Core) : c.unshadowed.user = c.user := rfl
@[simp] theorem goTo_ie (c : Core) (pc : Word) : (c.goTo pc).ie = c.ie := rfl
@[simp] theorem setG_ie (c : Core) (r : Reg) (v : Word) : (c.setG r v).ie = c.ie := rfl
@[simp] theorem setAc_ie (c : Core) (a : Fin 4) (v : Acc72) : (c.setAc a v).ie = c.ie := rfl
@[simp] theorem unshadowed_ie (c : Core) : c.unshadowed.ie = c.ie := rfl
@[simp] theorem goTo_ex (c : Core) (pc : Word) : (c.goTo pc).ex = c.ex := rfl
@[simp] theorem setG_ex (c : Core) (r : Reg) (v : Word) : (c.setG r v).ex = c.ex := rfl
@[simp] theorem setAc_ex (c : Core) (a : Fin 4) (v : Acc72) : (c.setAc a v).ex = c.ex := rfl
@[simp] theorem unshadowed_ex (c : Core) : c.unshadowed.ex = c.ex := rfl

@[simp] theorem agedBy_fV (c : Core) (old : Vector Word 4) (n : Nat) : (c.agedBy old n).fV = c.fV := rfl
@[simp] theorem agedBy_fC (c : Core) (old : Vector Word 4) (n : Nat) : (c.agedBy old n).fC = c.fC := rfl
@[simp] theorem agedBy_fZ (c : Core) (old : Vector Word 4) (n : Nat) : (c.agedBy old n).fZ = c.fZ := rfl
@[simp] theorem agedBy_fN (c : Core) (old : Vector Word 4) (n : Nat) : (c.agedBy old n).fN = c.fN := rfl
@[simp] theorem agedBy_user (c : Core) (old : Vector Word 4) (n : Nat) : (c.agedBy old n).user = c.user := rfl
@[simp] theorem agedBy_ie (c : Core) (old : Vector Word 4) (n : Nat) : (c.agedBy old n).ie = c.ie := rfl
@[simp] theorem agedBy_ex (c : Core) (old : Vector Word 4) (n : Nat) : (c.agedBy old n).ex = c.ex := rfl

/-! ## How an instruction's new core becomes its next state -/

/-- What executes says of the debug hooks. -/
theorem executes_quiet {h : Hdr} {len : Nat} {a : Accepts} {s : State} (he : executes h len a s = true) :
    s.cores[h.core].watchHit = none ∧ s.cores[h.core].stepping = false := by
  simp only [executes, Bool.and_eq_true, Bool.not_eq_true', Option.isNone_iff_eq_none] at he
  exact ⟨he.1.2, he.1.1.2⟩

/-- What follows an instruction that touched no watched address and is no single step: its port's history alone. -/
theorem wrapUp_setCore (k : CoreId) (old : Vector Word 4) (n : Nat) (s : State) (c : Core) (hw : c.watchHit = none)
    (hs : c.stepping = false) : wrapUp k old n (s.setCore k c) = s.setCore k (c.agedBy old n) := by
  rw [wrapUp, agePort_eq, Fin.getElem_fin, State.setCore_same, State.setCore_setCore, afterInstruction_id]
  · rw [Fin.getElem_fin, State.setCore_same]; exact hw
  · rw [Fin.getElem_fin, State.setCore_same]; exact hs

/-- A body that completes with a core whose debug hooks are as they were ends there. -/
theorem isaRun_complete (h : Hdr) (clk len : Nat) (a : Accepts) (body : Body) (s : State) (c' : Core)
    (he : executes h len a s = true)
    (hb : body s.cores[h.core].unshadowed (nextPc h len s) (pmcEvent 2 h.core 1 s) =
      complete h.core c' (pmcEvent 2 h.core 1 s))
    (hw : c'.watchHit = s.cores[h.core].watchHit) (hs : c'.stepping = s.cores[h.core].stepping) :
    isaRun h clk len a true body s =
      .next ((pmcEvent 2 h.core 1 s).setCore h.core (c'.agedBy s.cores[h.core].privOut (instrClocks h clk len))) := by
  obtain ⟨h1, h2⟩ := executes_quiet he
  rw [isaRun_executes h clk len a body s he, hb]
  simp only [complete, Out.then]
  rw [wrapUp_setCore _ _ _ _ _ (hw.trans h1) (hs.trans h2)]

theorem onlyCore_setCore (k : CoreId) (ev n : Nat) (s : State) (c' : Core) :
    OnlyCore k s ((pmcEvent ev k n s).setCore k c') := by
  refine ⟨rfl, fun j hj => ?_⟩
  have : j.val ≠ k.val := fun e => hj (Fin.ext e)
  simp only [Fin.getElem_fin]
  rw [State.setCore_ne _ _ _ this]
  rfl

theorem setCore_fin (s : State) (k : CoreId) (c : Core) : (s.setCore k c).cores[k] = c := by
  rw [Fin.getElem_fin, State.setCore_same]

/-- The core that an ALU instruction leaves. -/
theorem writesG_of_core (h : Hdr) (n len : Nat) (s : State) (d : Reg) (v : Word) (f : FlagUpd) :
    WritesG h len s ((pmcEvent 2 h.core 1 s).setCore h.core
        ((((s.cores[h.core].unshadowed.setG d v).setFlags f).goTo (nextPc h len s)).agedBy s.cores[h.core].privOut n)) d v
      (f.n.getD s.cores[h.core].fN) (f.z.getD s.cores[h.core].fZ)
      (f.c.getD s.cores[h.core].fC) (f.v.getD s.cores[h.core].fV) := by
  refine ⟨onlyCore_setCore _ _ _ _ _, ?_⟩
  rw [setCore_fin]
  refine ⟨becomes_agedBy _ _ _ rfl rfl, ⟨?_, ?_⟩, rfl, ⟨?_, ?_, ?_⟩, ?_, ?_, ?_, ?_, rfl⟩
  · simp [Core.agedBy, Core.goTo, Core.setFlags, Core.setG]
  · intro q hq
    have : q.val ≠ d.val := fun e => hq (Fin.ext e)
    simp [Core.agedBy, Core.goTo, Core.setFlags, Core.setG, Core.unshadowed, Vector.getElem_set_ne, this.symm]
  all_goals simp

/-- An instruction whose body writes gd and flags and goes on. -/
theorem isaRun_aluWrite (h : Hdr) (clk len : Nat) (s : State) (d : Reg) (body : Body) (r : AluRes)
    (he : executes h len accNone s = true)
    (hb : ∀ npc t, body s.cores[h.core].unshadowed npc t = aluWrite h.core d r s.cores[h.core].unshadowed npc t) :
    ∃ t, isaRun h clk len accNone true body s = .next t ∧
      WritesG h len s t d r.val (r.flags.n.getD s.cores[h.core].fN) (r.flags.z.getD s.cores[h.core].fZ)
        (r.flags.c.getD s.cores[h.core].fC) (r.flags.v.getD s.cores[h.core].fV) := by
  have h1 := isaRun_complete h clk len accNone body s
    (((s.cores[h.core].unshadowed.setG d r.val).setFlags r.flags).goTo (nextPc h len s)) he
    (by rw [hb]; simp only [aluWrite]) (by simp only [Core.goTo, Core.setFlags, Core.setG, Core.unshadowed])
    (by simp only [Core.goTo, Core.setFlags, Core.setG, Core.unshadowed])
  exact ⟨_, h1, writesG_of_core h _ len s d r.val r.flags⟩

end Sys2Proof.Machine
end

