-- ==== Sys2Proof/Laws/Memory.lean ====
section
/-! SUPPORT. The laws of memory: every operation keeps its canonical form, and what a write and an erasure leave. -/
namespace Sys2Proof.Machine

/-- The two halves of memory's canonical form. -/
theorem Memory.wf_iff (m : List Host.Cell) :
    Memory.wf m = true ↔ Tab.sortedFrom 0 m = true ∧ ∀ e ∈ m, absentByte e.1 ≠ some e.2 := by
  simp [Memory.wf]

theorem Memory.wf_write {m : List Host.Cell} (key : Nat) (b : Byte) (h : Memory.wf m = true) :
    Memory.wf (Memory.write m key b) = true := by
  rw [Memory.wf_iff] at h ⊢
  by_cases hb : absentByte key = some b
  · simp only [Memory.write, hb, if_true]
    exact ⟨Tab.sortedFrom_erase key h.1, fun e he => h.2 e (Tab.mem_erase he)⟩
  · simp only [Memory.write, hb, if_false]
    refine ⟨Tab.sortedFrom_insert key b (Nat.zero_le _) h.1, fun e he => ?_⟩
    rcases Tab.mem_insert he with rfl | he
    · exact hb
    · exact h.2 e he

theorem Memory.wf_writeBytes (bs : List Byte) :
    ∀ {m : List Host.Cell} (key : Nat), Memory.wf m = true → Memory.wf (Memory.writeBytes m key bs) = true := by
  induction bs with
  | nil => intro m key h; exact h
  | cons b bs ih => intro m key h; exact ih (key + 1) (Memory.wf_write key b h)

theorem Memory.wf_filter {m : List Host.Cell} (p : Host.Cell → Bool) (h : Memory.wf m = true) :
    Memory.wf (m.filter p) = true := by
  rw [Memory.wf_iff] at h ⊢
  exact ⟨Tab.sortedFrom_filter p h.1, fun e he => h.2 e (List.mem_filter.mp he).1⟩

theorem State.wf_writeBytes (s : State) (key : Nat) (bs : List Byte) (h : Memory.wf s.mem = true) :
    Memory.wf (s.writeBytes key bs).mem = true := Memory.wf_writeBytes bs key h

theorem wf_eraseRange (lo hi : Nat) (s : State) (h : Memory.wf s.mem = true) :
    Memory.wf (eraseRange lo hi s).mem = true := Memory.wf_filter _ h

theorem reset_memory_wf : Memory.wf State.reset.mem = true := by decide

/-- A byte written elsewhere does not change what is listed at a key. -/
theorem Memory.find_write_ne (m : List Host.Cell) {key a : Nat} (b : Byte) (h : a ≠ key) :
    Tab.find (Memory.write m key b) a = Tab.find m a := by
  by_cases hb : absentByte key = some b
  · simp only [Memory.write, hb, if_true]; exact Tab.find_erase_ne m h
  · simp only [Memory.write, hb, if_false]; exact Tab.find_insert_ne m b h

/-- A byte written reads, where nothing overrides an unlisted byte, as what was written. -/
theorem Memory.find_write_same (m : List Host.Cell) (key : Nat) (b : Byte) :
    Tab.find (Memory.write m key b) key = if absentByte key = some b then none else some b := by
  by_cases hb : absentByte key = some b
  · simp only [Memory.write, hb, if_true]; exact Tab.find_erase_same m key
  · simp only [Memory.write, hb, if_false]; exact Tab.find_insert_same m key b

/-- Bytes written do not change what is listed outside them. -/
theorem Memory.find_writeBytes_out (bs : List Byte) :
    ∀ (m : List Host.Cell) (key a : Nat), (a < key ∨ key + bs.length ≤ a) →
      Tab.find (Memory.writeBytes m key bs) a = Tab.find m a := by
  induction bs with
  | nil => intro m key a _; rfl
  | cons b bs ih =>
    intro m key a h
    simp only [List.length_cons] at h
    rw [Memory.writeBytes, ih _ _ _ (by omega), Memory.find_write_ne m b (by omega)]

/-! ## Bytes that do not hang on a free value -/

/-- Every byte from lo up to hi is listed, and no blit command is writing. -/
def State.fixed (s : State) (lo hi : Nat) : Bool :=
  s.blt.flux == [] && (List.range (hi - lo)).all (fun i => (Tab.find s.mem (lo + i)).isSome)

/-- A listed byte reads the same whatever the free values are. -/
theorem State.byte_free {s : State} {lo hi a : Nat} (f : Nat) (h : s.fixed lo hi = true) (h1 : lo ≤ a) (h2 : a < hi) :
    State.byte { s with free := f } a = s.byte a := by
  simp only [State.fixed, Bool.and_eq_true, beq_iff_eq, List.all_eq_true, List.mem_range] at h
  obtain ⟨hf, hl⟩ := h
  have hs := hl (a - lo) (by omega)
  rw [show lo + (a - lo) = a by omega] at hs
  obtain ⟨b, hb⟩ := Option.isSome_iff_exists.mp hs
  simp only [State.byte, State.stored, hf, hb]
  rfl

theorem State.readBytes_free {s : State} {lo hi : Nat} (f : Nat) (h : s.fixed lo hi = true) :
    ∀ (n a : Nat), lo ≤ a → a + n ≤ hi → State.readBytes { s with free := f } a n = s.readBytes a n := by
  intro n
  induction n with
  | zero => intros; rfl
  | succ n ih =>
    intro a h1 h2
    simp only [State.readBytes, State.byte_free f h h1 (by omega), ih (a + 1) (by omega) (by omega)]

theorem State.readLe_free {s : State} {lo hi n a : Nat} (f : Nat) (h : s.fixed lo hi = true) (h1 : lo ≤ a)
    (h2 : a + n ≤ hi) : State.readLe { s with free := f } a n = s.readLe a n := by
  simp only [State.readLe, State.readBytes_free f h n a h1 h2]

theorem State.word_free {s : State} {lo hi a : Nat} (f : Nat) (h : s.fixed lo hi = true) (h1 : lo ≤ a)
    (h2 : a + 4 ≤ hi) : State.word { s with free := f } a = s.word a := by
  simp only [State.word, State.readLe_free f h h1 h2]

end Sys2Proof.Machine
end

