-- ==== Sys2Proof/Laws/Keeps.lean ====
section
/-! SUPPORT. What every operation keeps, in a form that simp carries from an operation to those built of it: the queue, the
invariant, device reset and the captured tilt. -/
namespace Sys2Proof.Machine

/-- From s to t the queue is as it was, the invariant is kept, device reset is not released, and a tilt that stands still
stands, or the device is in reset. -/
structure Keeps (s t : State) : Prop where
  pending : t.pending = s.pending
  block : BlockInv s → BlockInv t
  reset : s.pwr.inReset = true → t.pwr.inReset = true
  tilt : ∀ code, s.tilt.code = some code → t.tilt.code = some code ∨ t.pwr.inReset = true

@[simp] theorem Keeps.refl (s : State) : Keeps s s := ⟨rfl, id, id, fun _ h => .inl h⟩

theorem Keeps.trans {s t u : State} (h1 : Keeps s t) (h2 : Keeps t u) : Keeps s u :=
  ⟨h2.pending.trans h1.pending, fun h => h2.block (h1.block h), fun h => h2.reset (h1.reset h), fun code h =>
    (h1.tilt code h).elim (fun ht => h2.tilt code ht) (fun hr => .inr (h2.reset hr))⟩

/-- A change that touches neither the queue, the registers, memory, the domains, device reset nor tilt. -/
theorem Keeps.of_fields {s t : State} (hp : t.pending = s.pending) (hr : t.regs = s.regs) (hm : t.mem = s.mem)
    (hw : t.pwr = s.pwr) (ht : t.tilt = s.tilt) : Keeps s t := by
  refine ⟨hp, fun h => ?_, fun h => ?_, fun code h => .inl ?_⟩
  · simpa only [BlockInv, hr, hm, hw] using h
  · rw [hw]; exact h
  · rw [ht]; exact h

theorem Keeps.base_setReg (s : State) (k : Nat) (v : Word) : Keeps s (setReg s k v) := by
  refine ⟨rfl, fun h => ?_, id, fun _ h => .inl h⟩
  exact ⟨Tab.wf_set k v h.1, h.2⟩

@[simp] theorem Keeps.setReg {s t : State} (h : Keeps s t) (k : Nat) (v : Word) : Keeps s (setReg t k v) :=
  h.trans (Keeps.base_setReg t k v)

@[simp] theorem Keeps.setF {s t : State} (h : Keeps s t) (k : Nat) (f : Fld) (n : Nat) : Keeps s (setF t k f n) :=
  h.setReg k _

@[simp] theorem Keeps.addF {s t : State} (h : Keeps s t) (k : Nat) (f : Fld) (n : Nat) : Keeps s (addF t k f n) :=
  h.setReg k _

@[simp] theorem Keeps.writeBytes {s t : State} (h : Keeps s t) (key : Nat) (bs : List Byte) :
    Keeps s (t.writeBytes key bs) :=
  h.trans ⟨rfl, fun i => ⟨i.1, State.wf_writeBytes t key bs i.2.1, i.2.2⟩, id, fun _ h => .inl h⟩

@[simp] theorem Keeps.eraseRange {s t : State} (h : Keeps s t) (lo hi : Nat) : Keeps s (eraseRange lo hi t) :=
  h.trans ⟨rfl, fun i => ⟨i.1, wf_eraseRange lo hi t i.2.1, i.2.2⟩, id, fun _ h => .inl h⟩

@[simp] theorem Keeps.dropRegs {s t : State} (h : Keeps s t) (keep : Nat → Bool) : Keeps s (dropRegs keep t) :=
  h.trans ⟨rfl, fun i => ⟨Tab.wf_filter _ i.1, i.2⟩, id, fun _ h => .inl h⟩

@[simp] theorem Keeps.setCore {s t : State} (h : Keeps s t) (k : CoreId) (c : Core) : Keeps s (t.setCore k c) :=
  h.trans (Keeps.of_fields rfl rfl rfl rfl rfl)

@[simp] theorem Keeps.draw {s t : State} (h : Keeps s t) : Keeps s t.draw :=
  h.trans (Keeps.of_fields rfl rfl rfl rfl rfl)

@[simp] theorem Keeps.latchEdge {s t : State} (h : Keeps s t) (n : Nat) : Keeps s (latchEdge n t) :=
  h.trans (Keeps.of_fields rfl rfl rfl rfl rfl)

@[simp] theorem Keeps.pmcEvent {s t : State} (h : Keeps s t) (ev k n : Nat) : Keeps s (pmcEvent ev k n t) :=
  h.trans (Keeps.of_fields rfl rfl rfl rfl rfl)

@[simp] theorem Keeps.ite {s t u : State} {c : Prop} [Decidable c] (h1 : Keeps s t) (h2 : Keeps s u) :
    Keeps s (if c then t else u) := by split <;> assumption

theorem Keeps.foldl {α : Type} {f : State → α → State} (hf : ∀ t x, Keeps t (f t x)) (xs : List α) :
    ∀ {s t : State}, Keeps s t → Keeps s (xs.foldl f t) := by
  induction xs with
  | nil => intro s t h; exact h
  | cons x xs ih => intro s t h; exact ih (h.trans (hf t x))

theorem Keeps.iter {f : State → State} (hf : ∀ t, Keeps t (f t)) (n : Nat) :
    ∀ {s t : State}, Keeps s t → Keeps s (iter f n t) := by
  induction n with
  | zero => intro s t h; exact h
  | succ n ih => intro s t h; exact ih (h.trans (hf t))

/-- The outcome of a command keeps what Keeps names wherever it is a next state. -/
def OutKeeps (s : State) (o : Out) : Prop := ∀ t, o = .next t → Keeps s t

@[simp] theorem OutKeeps.next {s t : State} : OutKeeps s (.next t) ↔ Keeps s t :=
  ⟨fun h => h t rfl, fun h _ e => by injection e with e; exact e ▸ h⟩

@[simp] theorem OutKeeps.fault {s : State} (f : Fault) : OutKeeps s (.fault f) := fun _ e => nomatch e

@[simp] theorem OutKeeps.refused {s : State} (r : Refusal) : OutKeeps s (.refused r) := fun _ e => nomatch e

theorem OutKeeps.ite {s : State} {c : Prop} [Decidable c] {o p : Out} (h1 : OutKeeps s o) (h2 : OutKeeps s p) :
    OutKeeps s (if c then o else p) := by split <;> assumption

end Sys2Proof.Machine
end

