-- ==== Sys2Proof/WellFormed.lean ====
section
/-! DEFINITION. Which commands are well formed: those whose operands the spec's forms and ranges admit. -/
namespace Sys2Proof

/-- A reserved prefix byte is one of 0xF6 to 0xFF (R244). -/
def Prefix.ok : Prefix → Bool
  | .reserved b => decide (0xF6 ≤ b.toNat)
  | .addrImm _ | .addrReg _ | .width8 | .width16 | .io | .lock => true

/-- The prefixes of an instruction are prefix bytes of R244; which of them the instruction takes is R245's matter. -/
def Hdr.ok (h : Hdr) : Bool := h.pfx.all Prefix.ok

/-- The operation is of major 0x3, whose last codes the other majors give to other operations (R248). -/
def AluForm.isReg : AluForm → Bool
  | .reg .. => true
  | .imm8 .. | .imm32 .. => false

/-- IN and OUT by register are the memory forms with the I/O-space override (R253). -/
def IoForm.ok (pfx : List Prefix) : IoForm → Bool
  | .abs .. => true
  | .addr _ => pfx.contains .io

/-- A request names a requester of R40 or the debug port's 31, a 40-bit address, and for a write 1 to 64 bytes of one
burst (R36, R40). -/
def requestOk (id : Fin 32) (a : Nat) (data : Option (List (BitVec 8))) : Bool :=
  (decide (id.val ≤ 16) || decide (id.val = 31)) && decide (a < 2 ^ 40) &&
  (match data with
  | none => true
  | some d => !d.isEmpty && decide (a % 64 + d.length ≤ 64))

/-- Keys rise strictly. -/
def rising : List (Nat × BitVec 8) → Bool
  | [] => true
  | [_] => true
  | x :: y :: rest => decide (x.1 < y.1) && rising (y :: rest)

/-- A boot set lists each byte once, none that an unlisted one equals, and its devices have a density of R338. -/
def BootSet.ok (b : BootSet) : Bool :=
  rising b.flash && b.flash.all (fun e => e.2 != 0xFF) &&
  b.devs.toList.all (fun d => match d with
    | none => true
    | some n => decide (1 ≤ n) && decide (n ≤ 3))

/-- A floor datagram has at most 1,024 bytes of body and a 32-byte tag (R422). -/
def FloorDatagram.ok (d : FloorDatagram) : Bool := decide (d.body.length ≤ 1024) && decide (d.tag.length = 32)

/-- The command's operands lie in their forms and ranges. -/
def wellFormed : Instr → Bool
  | .tilt codes => !codes.isEmpty
  | .memoryRequest id a data _ _ => requestOk id a data
  | .kettlePeriod tdm mic => decide (tdm.length ≤ 8) && decide (mic.length ≤ 4)
  | .mulhs h f => h.ok && f.isReg
  | .mulhu h f => h.ok && f.isReg
  | .divs h f => h.ok && f.isReg
  | .divu h f => h.ok && f.isReg
  | .ioIn h f => h.ok && f.ok h.pfx
  | .ioOut h f => h.ok && f.ok h.pfx
  | .resetRelease env => env.boot.ok
  | .startUpTest samples => decide (samples.length = 1024)
  | .helloReply d => d.ok
  | .floorAck d => d.ok
  | .ledgerAck d => d.ok
  | .ckptReq d => d.ok
  | .hostKey ds => !ds.isEmpty && ds.all FloorDatagram.ok
  | .floorSigned ds => !ds.isEmpty && ds.all FloorDatagram.ok
  | .powerUpCalibrationDone rpts => decide (rpts.length = 12)
  | .nop h | .ret h | .add h _ | .adc h _ | .sub h _ | .sbc h _ | .andOp h _ | .orOp h _ | .xor h _ | .shl h _
  | .shr h _ | .asr h _ | .ror h _ | .mul h _ | .cmp h _ | .tst h _ | .mov h _ | .ld h _ | .lds h _ | .st h _
  | .ldi h _ | .xchg h _ | .cas h _ | .addm h _ | .andm h _ | .orm h _ | .xorm h _ | .branch h _ | .callRel h _
  | .rte h _ | .halt h _ | .brk h _ | .mfsr h _ | .mtsr h _ | .mtf h _ | .ei h _ | .di h _ | .jmp h _
  | .callRegister h _ | .push h _ | .pop h _ | .mac h _ | .msu h _ | .mpy h _ | .macr h _ | .msur h _
  | .mpyr h _ | .macru h _ | .rda h _ | .wra h _ | .clra h _ | .neg h _ _ | .notOp h _ _ | .sxb h _ _
  | .sxh h _ _ | .zxb h _ _ | .zxh h _ _ | .clz h _ _ | .pushm h _ _ | .popm h _ _ | .mva h _ _ =>
      h.ok
  | .registerWrite .. | .sysTiltReq .. | .retrain .. | .arbitration .. | .refreshEmergency .. | .watchdogBite ..
  | .rankWrite .. | .arbNWrite .. | .selfRefreshEntry .. | .selfRefreshExit .. | .readReturn ..
  | .dramReadRepeat .. | .sramRefetch .. | .memEccAddrLoRead .. | .paletteWrite .. | .coefWrite .. | .coefSwap ..
  | .plnProbeArm .. | .patternFill .. | .invalidateRange .. | .invalidateAll .. | .invalidationEnd ..
  | .rasteriseBand .. | .cmtProbeArm .. | .ephCommit .. | .headerRead .. | .ephTake .. | .ephRewrite ..
  | .ephFrame0Write .. | .sequencerStart .. | .sequencerStop .. | .sequencerStopped .. | .composeTick ..
  | .composeBand .. | .cmpProbeArm .. | .beamLine .. | .applyArm .. | .sendBand .. | .sendEnd .. | .dspTrain ..
  | .trainingEnd .. | .laneMismatch .. | .hpdLost .. | .irqHpd .. | .bandDigest .. | .frameDigest ..
  | .digestExport .. | .recallEnable .. | .recallClear .. | .bltTailWrite .. | .bltCopy .. | .bltFill ..
  | .bltBlend .. | .blitComplete .. | .blitStop .. | .ringConfig .. | .kettleRun .. | .kettleStop ..
  | .cueSlotRead .. | .streamFill .. | .cdFault .. | .aasCalReq .. | .calibrationStep .. | .ktlProbeArm ..
  | .coreRun .. | .coreReset .. | .coreStop .. | .interruptEntry .. | .haltWake .. | .cmoClean ..
  | .cmoInvalidate .. | .cmoCleanInvalidate .. | .iCacheInvalidate .. | .cacheOperationDone .. | .l2WriteBack ..
  | .pinPrivOut .. | .pinPrivSet .. | .pinPrivClr .. | .interruptLine .. | .intClaim .. | .intComplete ..
  | .intPendSet .. | .intPendClr .. | .doorbell .. | .holdoffEnd .. | .edgeLatch .. | .edgeDelivery ..
  | .channelStart .. | .channelResume .. | .channelStop .. | .dmaMove .. | .dmaLoop .. | .dmaEndl .. | .dmaWait ..
  | .waitProceed .. | .dmaSignal .. | .crcBegin .. | .crcStore .. | .endProgram .. | .drainEnd ..
  | .shaUnitGrant .. | .dmaEventSet .. | .dmaEventClr .. | .rateWindow .. | .timerRun .. | .timerTick ..
  | .wrapTick .. | .matchEvent .. | .topWrite .. | .comparatorWrite .. | .timerSnap .. | .timerClear ..
  | .outSet .. | .outClr .. | .timerCapture .. | .captureRead .. | .counterWrite .. | .counterRead ..
  | .counterOverflow .. | .pmcClear .. | .histogramClear .. | .portStart .. | .portStop .. | .hlkBeacon ..
  | .hlkReply .. | .nodeHelloReply .. | .replyError .. | .strayFrame .. | .portDown .. | .txQueue .. | .txFree ..
  | .slotWrite .. | .tableLengthWrite .. | .rxTailWrite .. | .xspiBurstTimeout .. | .trainingTimeout ..
  | .sectionDigestCheck .. | .bootRelease .. | .spargePass .. | .spargeSection .. | .slhSign .. | .slhVerify ..
  | .hashSlhSign .. | .hashSlhVerify .. | .programRoot .. | .withdrawVersion1 .. | .raiseSecurityMinimum ..
  | .generateCheckpointKey .. | .loadFloorKey .. | .fuseCommandEnd .. | .entropySample .. | .persistentFailure ..
  | .conditionedBlock .. | .knownAnswerTest .. | .drbgRequest .. | .drbgGenerate .. | .reseedRequest ..
  | .outcomeRead .. | .granuleWrite .. | .ledgerCommit .. | .gameAdvance .. | .gameClose .. | .meterCommit ..
  | .meterRead .. | .seqRead .. | .doorEvent .. | .eventMove .. | .floorStart .. | .floorResend ..
  | .digestDrain .. | .floorCheckpoint .. | .floorArp .. | .floorPortDown .. | .floorPortUp .. | .portSwitch ..
  | .domainRequest .. | .domainSwitch .. | .eclipse .. | .resetCommand .. | .eclipseWake .. | .pllStop ..
  | .wakeDemand .. | .pllLock .. | .rtcTick .. | .rtcAlarm .. | .rtcSet .. | .supplyWarning .. | .supplyClear ..
  | .holdEnd .. | .supplyReset .. | .vbatSwitch .. | .vbatLoss .. | .resetN .. | .debugConnect .. | .debugReset ..
  | .selfTestRequest .. | .selfTestStart .. | .selfTestEnd .. | .mramTest .. | .dramTest .. | .memoryTestEnd ..
  | .pd0PowerUp .. | .vbatLow .. | .debugHalt .. | .floorStop .. | .beamStart .. =>
      true

end Sys2Proof
end

