-- ==== Sys2Proof/Tests/Slice0.lean ====
section
/-! SUPPORT. Tests: the WellFormed smoke, witnesses for the hypotheses of the statements, and single steps whose results
stand in the spec. -/
set_option Elab.async false
namespace Sys2Proof.Tests
open Sys2Proof Sys2Proof.Machine

/-! ## States -/

/-- A core that runs. -/
def upCore : Core := { Core.reset with run := true }

/-- Out of reset, every domain on, four trained channels of DRAM, C1 running. -/
def base : State :=
  dramTrained (setF { State.reset with
    pwr := { Power.reset with inReset := false, doms := 0xFFFFFFFFFF, locked := 15 }
    cores := State.reset.cores.set 1 upCore } P.MEM_CFG F.MEM_CFG_channels 2)

/-- Arbiters without a request, an owner or an emergency are idle. -/
theorem idle_of {s : State} (h1 : memServes s = true) (h2 : ∀ c : Fin 4, chanReady s c = true) (h3 : s.mc.reqs = [])
    (h4 : ∀ c : Fin 4, s.mc.chans[c].owner = none ∧ s.mc.chans[c].emergency = false ∧ s.mc.chans[c].link = false ∧
      s.mc.chans[c].flights = []) : ArbiterIdle s :=
  ⟨h1, fun _ => h2 _, fun _ => by unfold requester; rw [h3]; exact ⟨rfl, rfl, rfl⟩, h4⟩

/-- base with a register's word. -/
def reg (key : Nat) (v : Word) (s : State := base) : State := setReg s key v

/-- base with C1 changed. -/
def c1 (f : Core → Core) : State := base.setCore 1 (f upCore)

/-- base with g2 and g3 of C1. -/
def withG (a b : Word) : State := c1 (fun c => { c with g := (c.g.set 2 a).set 3 b })

/-- base with two domains' bits cleared. -/
def offDom (d : Nat) : State := { base with pwr := { base.pwr with doms := base.pwr.doms &&& ~~~domBit d } }

/-- base with tilt standing. -/
def tilted : State := { base with tilt := ⟨some 0x0201⟩ }

/-- An instruction of C1, unconditional, without prefixes; and with prefixes. -/
def hdr : Hdr := ⟨1, 0, []⟩
def hdrP (ps : List Prefix) : Hdr := ⟨1, 0, ps⟩

/-- The next state, and the parts of it that the tests look at. -/
def nextOf : Out → Option State
  | .next t => some t
  | _ => none
def gOf (r : Reg) (o : Out) : Option Word := (nextOf o).map (fun t => t.cores[(1 : CoreId)].g[r])
def srOf (o : Out) : Option (BitVec 7) := (nextOf o).map (fun t => t.cores[(1 : CoreId)].sr)
def pcOf (o : Out) : Option Word := (nextOf o).map (fun t => t.cores[(1 : CoreId)].pc)
def acOf (o : Out) : Option Acc72 := (nextOf o).map (fun t => t.cores[(1 : CoreId)].ac[(0 : Fin 4)])
def regIn (key : Nat) (o : Out) : Option Word := (nextOf o).map (fun t => getReg t key)
def faultOf : Out → Option Fault
  | .fault f => some f
  | _ => none

/-! ## Well-formed commands -/

theorem test_wf_reserved_prefix : wellFormed (.nop (hdrP [.reserved 0xF5])) = false ∧
    wellFormed (.nop (hdrP [.reserved 0xF6])) = true := by decide
theorem test_wf_mulhs_register_only : wellFormed (.mulhs hdr (.imm8 0 1)) = false ∧
    wellFormed (.mulhs hdr (.reg 0 1 2)) = true := by decide
theorem test_wf_in_needs_override : wellFormed (.ioIn hdr (.addr ⟨0, 1, .base⟩)) = false ∧
    wellFormed (.ioIn (hdrP [.io]) (.addr ⟨0, 1, .base⟩)) = true := by decide
theorem test_wf_request_id : wellFormed (.memoryRequest 17 0 none false 0) = false ∧
    wellFormed (.memoryRequest 31 0 none false 0) = true := by decide
theorem test_wf_request_address : wellFormed (.memoryRequest 0 0x10000000000 none false 0) = false := by decide
theorem test_wf_request_burst : wellFormed (.memoryRequest 0 0x3F (some [0, 0]) false 0) = false ∧
    wellFormed (.memoryRequest 0 0x3F (some []) false 0) = false := by decide
theorem test_wf_tilt_codes : wellFormed (.tilt []) = false := by decide
theorem test_wf_period_inputs : wellFormed (.kettlePeriod (List.replicate 9 0) []) = false ∧
    wellFormed (.kettlePeriod [] (List.replicate 5 0)) = false := by decide
theorem test_wf_start_up_samples : wellFormed (.startUpTest [true]) = false := by decide
theorem test_wf_trims : wellFormed (.powerUpCalibrationDone []) = false := by decide
theorem test_wf_boot_set : wellFormed (.resetRelease ⟨⟨Vector.replicate 4 none, [(1, 0), (1, 2)]⟩, 0, true, [], true⟩) = false ∧
    wellFormed (.resetRelease ⟨⟨Vector.replicate 4 none, [(1, 0xFF)]⟩, 0, true, [], true⟩) = false ∧
    wellFormed (.resetRelease ⟨⟨Vector.replicate 4 (some 4), []⟩, 0, true, [], true⟩) = false := by decide
theorem test_wf_datagram : wellFormed (.floorAck ⟨1, 0, 1, 0, 0, 0, [], []⟩) = false ∧
    wellFormed (.hostKey []) = false ∧ wellFormed (.floorSigned []) = false := by decide

/-! ## Witnesses: the whole block -/

theorem wit_StepTakesFrontCommand : (nextOf (step { base with pending := [.rtcTick] })).map State.pending = some [] ∧
    base.pending = [] ∧ turnOf State.reset = none ∧ turnOf base = some 1 := by decide +kernel
theorem wit_CommandsLeaveQueue : (nextOf (exec .rtcTick { base with pending := [.rtcTick] })).map State.pending =
    some [.rtcTick] := by decide +kernel
theorem wit_base_idle : ArbiterIdle base := idle_of (by decide +kernel) (by decide +kernel) rfl (by decide +kernel)
theorem wit_StepKeepsInvariant_regs : Tab.wf base.regs resetOf = true ∧ Memory.wf base.mem = true ∧
    base.pwr.doms.getLsbD 0 = true ∧ base.pwr.toOff.getLsbD 0 = false ∧
    (nextOf (step { base with pending := [.rtcTick] })).isSome = true := by decide +kernel
theorem wit_StepKeepsInvariant_domains : DomainsClosed base.pwr.doms := by
  intro d n h1 _ h3
  have : ∀ d, d < 40 → ∀ n ∈ needs d, base.pwr.doms.getLsbD n = true := by decide +kernel
  exact this d h1 n h3
theorem wit_TiltStandsUntilReset : tilted.tilt.code = some 0x0201 ∧
    (nextOf (step { tilted with pending := [.tilt [0x0202]] })).map (fun t => t.tilt.code) = some (some 0x0201) ∧
    (nextOf (step { tilted with pending := [.debugReset] })).map (fun t => t.pwr.inReset) = some true := by decide +kernel
theorem wit_MemoryCells : base.streamed 0x1000 = false ∧ Memory.wf base.mem = true := by decide +kernel
theorem wit_RegisterFields : base.reaches .debug true P.MON_CFG = true ∧ plainPort P.MON_CFG = true ∧
    (specOf P.MON_CFG).any (fun r => decide ((0x1FF : Word) &&& r.reserved = 0)) = true ∧
    encodingOk P.MON_CFG 0x1FF = true ∧ base.reaches .debug true (P.PIN_CFG 0) = true ∧ plainPort (P.PIN_CFG 0) = true ∧
    encodingOk (P.PIN_CFG 0) (F.PIN_CFG_pull.put 3 0) = false ∧
    (specOf (P.PIN_CFG 0)).any (fun r => decide (F.PIN_CFG_pull.put 3 0 &&& r.reserved = 0)) = true ∧
    hetoArea (localPort .debug P.MON_CFG) = false ∧ reservedOk P.MON_CFG 0xFFFFFFFF = false ∧
    base.reaches .debug true 0x20FF0 = true ∧ specOf 0x20FF0 = none ∧ (specOf P.FLR_CNT).isSome = true := by decide +kernel
theorem wit_GatedAccess : isOwn 0xF00 = true ∧ (offDom 38).portOn P.FLR_CTRL = false ∧
    ioStop 1 true P.FLR_CTRL (offDom 38) = none ∧
    ioStop 1 true P.PWR_CMD (c1 (fun c => { c with sr := 0x10 })) = some .privilege ∧
    ioStop 1 true 0x10002 base = some .alignment ∧ ioStop 1 true 0x300000 base = some .access ∧
    domainOf 0x400000 = none ∧ ioStop 8 true P.PWR_CMD base = some .access ∧ audioReaches 8 P.PWR_CMD = false := by decide +kernel
theorem wit_RegistersOfOffDomains : (offDom 38).portOn P.FLR_CNT = false ∧ ioStop 1 false P.FLR_CNT (offDom 38) = none ∧
    executes hdr 5 accIoAbs (offDom 38) = true ∧ (offDom 11).portOn (P.PMC_VAL 0) = false ∧
    nextOn { base with pwr := { base.pwr with doms := base.pwr.doms &&& ~~~domBit 38, toOn := domBit 38 } } = some 38 := by decide +kernel

/-! ## Witnesses: the cores -/

theorem wit_IntegerInstructions : executes hdr (aluLen (.reg 4 2 3)) accNone base = true ∧
    executes hdr (aluLen (.imm32 2 0)) accNone base = true ∧ executes hdr (unLen (.imm8 2 0)) accNone base = true ∧
    executes hdr 3 accNone base = true := by decide +kernel
theorem wit_ControlTransfer : executes hdr 1 accNone base = true ∧ executes hdr 2 accNone base = true ∧
    executes hdr 5 accNone base = true := by decide +kernel
theorem wit_SystemInstructions : executes hdr 2 accNone base = true ∧ base.cores[hdr.core].user = false := by decide +kernel
theorem wit_AccumulatorInstructions : executes hdr 4 accNone base = true ∧ executes hdr 3 accMac base = true ∧
    executes (hdrP [.width16]) 3 accMac base = true ∧ base.cores[hdr.core].g[(2 : Reg)].toNat % 4 = 0 := by decide +kernel
/-- C1 with the base register g1 at 0x1000. -/
def atG1 (a : Word) : State := c1 (fun c => { c with g := c.g.set 1 a })
theorem wit_atG1_now (a : Nat) : AccessNow (atG1 0x1000) a := fun _ =>
  idle_of (by decide +kernel) (by decide +kernel) rfl (by decide +kernel)
theorem wit_LoadsOfBothSpaces : executes hdr (memLen ⟨0, 1, .base⟩) accMem (atG1 0x1000) = true ∧ ioSpace hdr = false ∧
    memDefined false ⟨0, 1, .base⟩ = true ∧
    accessStop 1 false false (memAddr [] ⟨0, 1, .base⟩ (atG1 0x1000).cores[(1 : CoreId)]) 4 (atG1 0x1000) = none ∧
    executes hdr (memLen ⟨0, 1, .base⟩) accLdi (atG1 0x1000) = true ∧ (atG1 0x1000).fetchable 1 0x1000 = true := by decide +kernel
theorem wit_Stores : executes hdr (memLen ⟨0, 1, .postInc⟩) accMem (atG1 0x1000) = true ∧
    accessStop 1 true false (memAddr [] ⟨0, 1, .postInc⟩ (atG1 0x1000).cores[(1 : CoreId)]) 4 (atG1 0x1000) = none := by decide +kernel
theorem wit_ReadModifyWrites : executes (hdrP [.lock]) (memLen ⟨0, 1, .base⟩) accRmw (atG1 0x1000) = true ∧
    accessStop 1 true true (memAddr [.lock] ⟨0, 1, .base⟩ (atG1 0x1000).cores[(1 : CoreId)]) 4 (atG1 0x1000) = none := by decide +kernel
/-- C1 with its stack pointer. -/
def atSp (a : Word) : State := c1 (fun c => { c with g := c.g.set 14 a })
theorem wit_atSp_now (a : Nat) : AccessNow (atSp 0x1000) a := fun _ =>
  idle_of (by decide +kernel) (by decide +kernel) rfl (by decide +kernel)
theorem wit_StackInstructions : executes hdr 2 accStack (atSp 0x1000) = true ∧ executes hdr 4 accStack (atSp 0x1000) = true ∧
    accessStop 1 true false (stackAddr [] (atSp 0x1000).cores[(1 : CoreId)] 0xFFC) 4 (atSp 0x1000) = none ∧
    accessStop 1 false false (stackAddr [] (atSp 0x1000).cores[(1 : CoreId)] 0x1000) 4 (atSp 0x1000) = none ∧
    multiStop 1 true [] (atSp 0x1000).cores[(1 : CoreId)] (atSp 0x1000) 0xFF8 2 = none ∧
    multiStop 1 false [] (atSp 0x1000).cores[(1 : CoreId)] (atSp 0x1000) 0x1000 2 = none ∧
    base.region (stackAddr [.addrImm 0x7F] upCore 0xFFFF8000) = .yRam ∧ base.blt.flux = [] := by decide +kernel
theorem wit_InputOutput : ioStop 1 false P.MON_CFG base = none ∧ base.portOn P.MON_CFG = true ∧
    (offDom 38).portOn P.FLR_CTRL = false ∧ ioSpace (hdrP [.io]) = true ∧
    executes (hdrP [.io]) (memLen ⟨0, 1, .base⟩) accMem base = true ∧
    (let s := (offDom 38).setCore 1 { upCore with g := upCore.g.set 1 0xC0000 }
     memPort (hdrP [.io]) ⟨0, 1, .base⟩ s.cores[(1 : CoreId)] = P.FLR_CTRL ∧ s.portOn P.FLR_CTRL = false ∧
     ioStop 1 true P.FLR_CTRL s = none) := by decide +kernel
theorem wit_ExceptionsAndFaults : base.cores[(1 : CoreId)].ex = false ∧ base.cores[(1 : CoreId)].attached = false ∧
    executes hdr 2 accNone (c1 (fun c => { c with attached := true })) = true ∧
    (setF base P.MEM_CFG F.MEM_CFG_channels 0).fetchFault 1 0 (instrLen hdr 3) = some 0 ∧
    prefixesOk accNone [.width8] = false ∧ prefixesOk accMem [.lock] = false ∧ condHolds 1 upCore = false ∧
    executes hdr 2 accNone (c1 (fun c => { c with sr := 0x10 })) = true ∧
    accessStop 1 false false (memAddr [] ⟨0, 1, .base⟩ (atG1 0x1002).cores[(1 : CoreId)]) 4 (atG1 0x1002) = some (.exn .alignment) ∧
    ioStop 1 false 0x10002 base = some .alignment := by decide +kernel
theorem wit_CoreControlAndDebug : base.reaches .debug true (P.SYS_CORE_CTRL 0) = true ∧
    base.cores[(0 : CoreId)].run = false ∧ base.cores[(0 : CoreId)].fresh = true ∧ base.cores[(1 : CoreId)].run = true ∧
    bootStage base ≠ 7 ∧ base.powered 39 = true ∧ base.cores[(1 : CoreId)].inDebug = false ∧
    (c1 (fun c => { c with inDebug := true })).cores[(1 : CoreId)].inDebug = true := by decide +kernel
theorem wit_CachesAndPrivatePins : base.reaches (.core 1) true (P.SYS_CMO_CTRL 1) = true ∧
    onF base (P.SYS_CMO_CTRL 1) F.SYS_CMO_CTRL_busy = false ∧
    onF (setF base (P.SYS_CMO_CTRL 1) F.SYS_CMO_CTRL_busy 1) (P.SYS_CMO_CTRL 1) F.SYS_CMO_CTRL_busy = true ∧
    (requester (setF base (P.SYS_CMO_CTRL 1) F.SYS_CMO_CTRL_busy 1) 8).waiting = [] ∧
    Tab.find { base with l2 := [(64, ⟨[1], true⟩)] }.l2 64 = some ⟨[1], true⟩ ∧ base.powered 11 = true ∧
    (c1 (fun c => { c with sr := 0x10, ugpio := true })).cores[(1 : CoreId)].ugpio = true := by decide +kernel

theorem wit_CachesAndPrivatePins_idle : ArbiterIdle { base with l2 := [(64, ⟨[1], true⟩)] } :=
  idle_of (by decide +kernel) (by decide +kernel) rfl (by decide +kernel)

/-! ## Decoding: the encodings that chapter 12 works through -/

/-- C1's header with a condition. -/
def hdrC (c : BitVec 4) : Hdr := ⟨1, c, []⟩
theorem test_spell_nop : spellInstr 1 [0x00] = .done (.nop hdr) := by decide +kernel
theorem test_spell_ret_ne : spellInstr 1 [0x21] = .done (.ret (hdrC 2)) := by decide +kernel
theorem test_spell_add : spellInstr 1 [0x03, 0x31, 0x02] = .done (.add hdr (.reg 3 1 2)) := by decide +kernel
theorem test_spell_sub_imm8 : spellInstr 1 [0x05, 0x72, 0x01] = .done (.sub hdr (.imm8 7 1)) := by decide +kernel
theorem test_spell_movi : spellInstr 1 [0x06, 0x4D, 0x80, 0x45, 0x03, 0x00] = .done (.mov hdr (.imm32 4 0x34580)) := by
  decide +kernel
theorem test_spell_store : spellInstr 1 [0xF0, 0x80, 0x07, 0x54, 0x21, 0x1C] =
    .done (.st (hdrP [.addrImm 0x80]) ⟨5, 4, .d8 0x1C⟩) := by decide +kernel
theorem test_spell_branch : spellInstr 1 [0x29, 0xFA] = .done (.branch (hdrC 2) (.short 0xFA)) := by decide +kernel
theorem test_spell_out : spellInstr 1 [0x08, 0x51, 0x10, 0x00, 0x18] = .done (.ioOut hdr (.abs 5 0x180010)) := by
  decide +kernel
theorem test_spell_locked_addm : spellInstr 1 [0xF1, 0x06, 0xF2, 0xF5, 0x07, 0x29, 0x63, 0x40, 0x10, 0x00, 0x00] =
    .done (.addm (hdrP [.addrReg 0x06, .width8, .lock]) ⟨2, 9, .d32 0x1040⟩) := by decide +kernel
theorem test_spell_mpy_h : spellInstr 8 [0xF3, 0x0D, 0x23, 0x95] = .done (.mpy ⟨8, 0, [.width16]⟩ ⟨2, 3, 1, 1, 1⟩) := by
  decide +kernel
theorem test_spell_mva : spellInstr 8 [0x0E, 0x50, 0x41, 0x0E] = .done (.mva ⟨8, 0, []⟩ ⟨5, 0, 1⟩ 14) := by decide +kernel
theorem test_spell_undefined : spellInstr 1 [0xF2, 0xF3] = .bad ∧ spellInstr 1 [0x0F] = .bad ∧
    spellInstr 1 [0x03, 0x31] = .short := by decide +kernel

/-! ## Witnesses: interrupts and tilt -/

/-- base with bytes at C1's PC. -/
def coded (bs : List Byte) : State := { base with mem := (bs ++ List.replicate (64 - bs.length) 0).zipIdx.map (fun (x : Byte × Nat) => (x.2, x.1)) }
/-- What a fetch has spelt, when it has come about. -/
def spelt : Except Held (Spelled × State) → Option Spelled
  | .ok (x, _) => some x
  | .error _ => none
theorem wit_InterruptTaking_fetch : wakes base 1 = false ∧ interrupted base 1 = false ∧
    fetchRoom 1 (setF base P.MEM_CFG F.MEM_CFG_channels 0) longest 0 = 0 ∧
    (let r := fun bs => spelt (fetchSpell 1 (fetchRoom 1 (coded bs) longest (coded bs).cores[(1 : CoreId)].pc) (coded bs))
     fetchRoom 1 (coded []) longest 0 = 11 ∧ r [0x03, 0x31, 0x02] = some (.done (.add hdr (.reg 3 1 2))) ∧
     r [0x0F] = some .bad) := by decide +kernel
theorem wit_InterruptTaking_waits : fetchRoom 1 base longest 0 = 11 ∧
    spelt (fetchSpell 1 11 { base with pwr := { base.pwr with stopped := 4 } }) = none := by decide +kernel
/-- A0 at the last byte that it may fetch. -/
def lastByte : State :=
  { base.setCore 8 { upCore with pc := 0x15FFFF } with mem := (List.range 64).map (fun i => (0x8002D5FFC0 + i, 3)) }
theorem wit_InterruptTaking_short : fetchRoom 8 lastByte longest 0x15FFFF = 1 ∧
    spelt (fetchSpell 8 1 lastByte) = some .short := by decide +kernel

/-- Source 40 pending and enabled, priority 5, for C1. -/
def irq40 (f : Core → Core) : State :=
  let s := setSrcBit (P.INT_PEND_SET 0) 40 true (setSrcBit (P.INT_EN_SET 0) 40 true (c1 f))
  setF (setF s (P.INT_SRC_CFG 40) F.INT_SRC_CFG_target 1) (P.INT_SRC_CFG 40) F.INT_SRC_CFG_prio 5
theorem wit_InterruptTaking : presented (irq40 (fun c => { c with sr := 0x20 })) 1 = some (40, 5) ∧
    (irq40 (fun c => { c with sr := 0x20 })).issues 1 = true ∧
    (irq40 (fun c => { c with sr := 0x20 })).cores[(1 : CoreId)].ie = true ∧
    (irq40 (fun c => { c with halted := true })).cpuClock = true ∧
    presented (irq40 (fun c => { c with halted := true })) 1 = some (40, 5) := by decide +kernel
/-- Source 40 claimed by C1. -/
def claimed40 : State := ((nextOf (exec (.intClaim 1) (irq40 id)))).getD base
theorem wit_ClaimsAndCompletions : base.reaches (.core 1) false P.INT_CLAIM = true ∧ presented base 1 = none ∧
    presented (irq40 id) 1 = some (40, 5) ∧ claimedBy claimed40 1 40 = true ∧
    claimed40.reaches (.core 1) true P.INT_COMPLETE = true ∧ claimedBy base 1 40 = false ∧
    base.reaches .debug true (P.INT_PEND_SET 2) = true ∧ base.reaches (.core 1) true P.INT_DOORBELL = true ∧
    edgeSource 109 = true ∧ asyncSource 109 = true ∧ edgeSource 40 = false ∧ hasLine 1 40 = true ∧ hasLine 1 109 = true ∧
    unitLine base 40 = false ∧ edgeQualifies 109 true base = true ∧
    Tab.get (latchEdge 109 base).irq.latches false 109 = true := by decide +kernel
theorem wit_TiltLatchAndUnits : tiltCodeOk 0x0201 = true ∧ base.tilt.code = none ∧ base.pwr.inReset = false ∧
    tilted.tilt.code.isSome = true ∧ State.reset.pwr.inReset = true := by decide +kernel
theorem wit_TiltRequests : base.reaches (.core 1) true P.SYS_TILT_REQ = true ∧
    (c1 (fun c => { c with sr := 0x10 })).issues 1 = true := by decide +kernel

/-- A cluster whose sequencer runs. -/
def running0 (s : State := base) : State := setF s (P.EPH_STAT 0) F.EPH_STAT_running 1

/-! ## Witnesses: self-test and memory -/

theorem wit_SelfTests : base.reaches .debug true P.SYS_LST_REQ = true ∧
    (let s := setReg base P.SYS_LST_REQ 0x2008
     s.powered 2 = true ∧ s.pwr.testing = 0 ∧ testReady s 3 = true ∧ ∀ j < 3, testReady s j = false) ∧
    (let s := setReg base P.SYS_LST_REQ 0x8000
     testReady s 15 = true ∧ ∀ j < 15, testReady s j = false) ∧
    (let s := setF { base with pwr := { base.pwr with testing := domSet (testDomains 15) } } P.SYS_LST_STAT F.SYS_LST_STAT_running 15
     getF s P.SYS_LST_STAT F.SYS_LST_STAT_running = 15 ∧ s.pwr.testing = domSet (testDomains 15)) ∧
    base.reaches .debug true P.SYS_MBIST_CTRL = true ∧ base.supplyHeld = false ∧
    (let s := setReg base P.SYS_MBIST_CTRL 3
     onF s P.SYS_MBIST_CTRL F.SYS_MBIST_CTRL_mram = true ∧ onF s P.SYS_MBIST_CTRL F.SYS_MBIST_CTRL_dram = true ∧
     mbistBase s + mbistLen s ≤ s.dramSize ∧ s.imageIn (mbistBase s) (mbistLen s) = false ∧
     freeSpares s 7 ≠ []) := by decide +kernel
/-- Requester 0 with n requests queued. -/
def queued (n : Nat) (s : State := base) : State :=
  setRequester 0 ⟨List.replicate n ⟨0, none, false, 0, 0, 0⟩, none, [], none, []⟩ s
theorem wit_RequestsAndGrants : isRequester 16 = true ∧ isRequester 31 = true ∧ (requester base 0).port = none ∧ (requester base 0).backlog = [] ∧ base.powered 36 = true ∧
    foreignWrite 0 0 (some [0]) base = false ∧ (requester base 0).opened = none ∧ 0xFFFFFFC0 < base.dramSize ∧
    (requester (queued 63) 0).queue.length < 64 ∧ 64 ≤ (requester (queued 64) 0).queue.length ∧
    memServes base = true ∧ chanReady base 0 = true ∧ chanReady base 1 = true ∧ inSelfRefresh base = false ∧
    (oldest (setRequester 31 ⟨[⟨0, none, false, 0, 0, 0⟩], none, [], none, []⟩ base) 31 0).isSome = true ∧
    contenders (queued 1 base) 0 = [0] ∧ oldest (queued 1 base) 31 0 = none ∧ contenders base 0 = [] ∧
    (setChannel 0 { base.mc.chans[(0 : Fin 4)] with emergency := true } base).mc.chans[(0 : Fin 4)].emergency = true ∧
    (setChannel 0 { base.mc.chans[(0 : Fin 4)] with owner := some 0 } base).mc.chans[(0 : Fin 4)].owner = some 0 ∧
    (setChannel 0 { base.mc.chans[(0 : Fin 4)] with owed := 1 } base).mc.chans[(0 : Fin 4)].owed = 1 ∧
    base.mc.chans[(0 : Fin 4)].fair + 1 < getF base P.MEM_ARB_CFG F.MEM_ARB_CFG_n ∧
    getF (setReg base P.MEM_ARB_CFG 1) P.MEM_ARB_CFG F.MEM_ARB_CFG_n ≤ base.mc.chans[(0 : Fin 4)].fair + 1 := by
  decide +kernel
theorem wit_RefreshAndArbiter : base.reaches .debug true (P.MEM_RANK 16) = true ∧ base.reaches .debug true P.MEM_ARB_CFG = true ∧
    (let s := setChannel 0 { base.mc.chans[(0 : Fin 4)] with owner := some 16, held := getF base P.MEM_WDOG F.MEM_WDOG_limit } base
     s.mc.chans[(0 : Fin 4)].owner = some 16 ∧ memServes s = true ∧
     getF s P.MEM_WDOG F.MEM_WDOG_limit ≤ s.mc.chans[(0 : Fin 4)].held ∧ s.pwr.inReset = false ∧ s.tilt.code = none) ∧
    (let s := setF (setReg base P.MEM_SR_CFG 0xFFFFFFFF) P.MEM_STAT F.MEM_STAT_init_done 1
     let s := setReg (setReg s P.MEM_LTR_KTL 0xFFFF) P.MEM_LTR_SW 0xFFFF
     let s := (List.range 4).foldl (fun t d => setReg t (P.MEM_LTR_D d) 0xFFFF) s
     onF s P.MEM_STAT F.MEM_STAT_init_done = true ∧ onF s P.MEM_SR_CFG F.MEM_SR_CFG_enable = true ∧
     allTolerate s = true ∧ requestWaits s = false ∧ emergencyDue s = false ∧ inSelfRefresh s = false) ∧
    (let s := setF (queued 1 base) P.MEM_SR_STAT F.MEM_SR_STAT_in_sr 3
     inSelfRefresh s = true ∧ requestWaits s = true ∧ memServes s = true) := by decide +kernel
/-- A read in flight on channel 0. -/
def flying (rep : Bool) : State :=
  setChannel 0 { base.mc.chans[(0 : Fin 4)] with flights := [⟨0, 0x40, [1], rep, false, 0⟩] } base
theorem wit_MemoryErrors : (flying true).mc.chans[(0 : Fin 4)].flights = [⟨0, 0x40, [1], true, false, 0⟩] ∧ memServes (flying true) = true ∧
    (flying false).mc.chans[(0 : Fin 4)].flights = [⟨0, 0x40, [1], false, false, 0⟩] ∧
    base.region 0x8000800000 = .patternCache ∧ base.region 0x8002BFFFFF = .stream 3 ∧ base.region 0x8002E00000 = .l2Array ∧
    base.region 0x8000000000 = .comets ∧ base.region 0x80027FFFFF = .lineBuffer ∧ base.bankOn 0x8000000000 = true ∧
    base.bankOn 0x8002E00000 = true ∧ base.bankOn 0x80027FFFFF = true ∧ base.bankOn 0x8002BFFFFF = true ∧
    base.reaches .debug false P.MEM_ECC_ADDR_LO = true := by decide +kernel

/-- base while the DRAM test of a whole channel runs. -/
def testing : State := setReg base P.SYS_MBIST_CTRL 3
theorem wit_SelfTests_idle : ArbiterIdle testing ∧ testing.powered 36 = true ∧ testing.powered 1 = true ∧
    testing.supplyHeld = false :=
  ⟨idle_of (by decide +kernel) (by decide +kernel) rfl (by decide +kernel), by decide +kernel⟩
/-- base with line 5 in the pattern cache and in the L2, clean or dirty. -/
def cached (dirty : Bool) : State := { base with pat := [(5, [⟨5, [1]⟩])], l2 := [(5, ⟨[1], dirty⟩)] }
theorem wit_MemoryErrors_lines : (cached false).region 0x8000800000 = .patternCache ∧ (cached false).region 0x8002E00000 = .l2Array ∧
    patFind (cached false) 5 = some [1] ∧ patReach (cached false) 5 = true ∧ patSetOn (cached false) (5 % 32768) = true ∧
    Tab.find (cached false).l2 5 = some ⟨[1], false⟩ ∧ Tab.find (cached true).l2 5 = some ⟨[1], true⟩ ∧
    patFind base 5 = none ∧ Tab.find base.l2 5 = none ∧ (heldBands base.clu[Fin.ofNat 4 3])[(none : Option Nat).getD 0]? = none ∧
    base.pwr.inReset = false ∧ base.tilt.code = none := by decide +kernel
theorem wit_MemoryErrors_idle : ArbiterIdle (cached false) :=
  idle_of (by decide +kernel) (by decide +kernel) rfl (by decide +kernel)

/-! ## Witnesses: planes and the pattern cache -/

theorem wit_PalettesAndProbes : base.reaches .debug true (P.PLN_PAL_HI 3) = true ∧ seqRuns base 3 = false ∧
    seqRuns running0 0 = true ∧ base.reaches .debug true (P.PLN_COEF_DATA 3) = true ∧
    base.reaches .debug true (P.PLN_COEF_CTRL 0) = true ∧ base.reaches .debug true (P.PLN_PROBE_POS 0) = true ∧
    base.reaches .debug true (P.CMT_PROBE_POS 3) = true ∧ base.reaches .debug true (P.CMP_PROBE_POS 3) = true := by
  decide +kernel
/-- base with a walk of the comet unit on D0 that waits for line 5, and with line 7 in the cache. -/
def walking (met : Bool) (todo : List Nat) : State :=
  let s := { base with pat := [(7, [⟨7, [1]⟩])] }
  setWalk 0 8 ⟨todo, todo.isEmpty, [(5, met)], 1⟩ s
theorem wit_PatternCache : base.powered 11 = true ∧ (base.clu[(0 : Fin 4)].walks[userWalk .comet]).flight 5 = none ∧
    (∀ met, ((walking met []).clu[(0 : Fin 4)].walks[userWalk .comet]).flight 5 = some met ∧
      fillUnderWay 0 (userWalk .comet) 5 (walking met []) = false ∧ (walking met []).powered 11 = true ∧
      (walking met []).powered (pdComet 0) = true ∧ (walking met []).powered (pdComposer 0) = true ∧
      patFind (walking met []) 5 = none ∧ patSetOn (walking met []) (5 % 32768) = true ∧
      ((walking met []).clu[(0 : Fin 4)].walks[userWalk .comet]).flights.length ≤ 16 ∧
      ((walking met []).clu[(0 : Fin 4)].walks[userWalk .comet]).todo = [] ∧
      ((walking met []).clu[(0 : Fin 4)].walks[userWalk .comet]).pattern = true) ∧
    (let s := setRequester 4 ⟨[⟨320, none, false, 0, 0, 9⟩], none, [], none, []⟩ (walking false [6])
     (s.clu[(0 : Fin 4)].walks[userWalk .comet]).flight 5 = some false ∧
     fillUnderWay 0 (userWalk .comet) 5 s = true) ∧
    patFind (walking false []) 7 = some [1] ∧ Tab.sortedFrom 0 (walking false []).pat = true ∧
    base.reaches .debug true P.PLN_PCI_CTRL = true ∧ onF base P.PLN_PCI_CTRL F.PLN_PCI_CTRL_busy = false ∧
    onF (setReg base P.PLN_PCI_CTRL (F.PLN_PCI_CTRL_busy.put 1 0)) P.PLN_PCI_CTRL F.PLN_PCI_CTRL_busy = true := by decide +kernel

/-! ## Witnesses: the display clusters -/

/-- Words stored upward from an address. -/
def words (a : Nat) (ws : List Word) (s : State) : State := s.writeBytes a (wordBytes ws)
/-- n zero words. -/
def zeros (n : Nat) : List Word := List.replicate n 0
/-- The words of frame 0's header on D0 (R96), its band entry (R97) and its record (R99): one band of one line. -/
def hdr0 (w0 : Word) : List Word := [w0, 0, 1, 0] ++ zeros 12
def rec0 (w0 : Word) : List Word := [w0, 0x2000] ++ zeros 14
/-- D0 two pixels wide with one active line, in a mode, its sequencer running in format 2. -/
def clu0 (mode : Nat) : State :=
  let s := setF (setF base (P.DSP_CTRL 0) F.DSP_CTRL_mode mode) (P.EPH_CTRL 0) F.EPH_CTRL_format 2
  let s := setF (setF s (P.DSP_H0 0) F.DSP_H0_active 2) (P.DSP_V0 0) F.DSP_V0_active 1
  let s := setF (setReg s (P.DSP_V1 0) 0x400) (P.DSP_PCLK 0) F.DSP_PCLK_khz 100000
  let s := setF (setF s (P.CMP_PART 0) F.CMP_PART_valid 1) (P.CMP_PART 0) F.CMP_PART_size 1
  running0 s
/-- Frame 0 committed, with its header, entry and record in DRAM. -/
def ring0 (h r : Word) : State :=
  words 0x80 (rec0 r) (words 0x40 ([2, 1, 0, 0] ++ zeros 12) (words 0 (hdr0 h) (setReg (clu0 1) (P.EPH_COMMIT 0) 0)))
/-- The band of ring0, and one with its fields. -/
def band0 : Band := ⟨0, 0, ⟨0, 0, 2, 1, 0, 0⟩, rec0 2, 8, 1, true, 0, false, false, 0, 0, false⟩
/-- Cluster 0 changed. -/
def withClu (f : Cluster → Cluster) (s : State) : State := setClu 0 (f s.clu[(0 : Fin 4)]) s

theorem wit_CommitsAndSequencers : base.reaches .debug true (P.EPH_COMMIT 3) = true ∧ commitOk base 3 0 = true ∧
    commitOk base 3 1 = false ∧ base.reaches .debug true (P.EPH_REWRITE 0) = true ∧
    unreadHeader (withClu (fun c => { c with headers := [(0, none)] }) (clu0 1)) 0 = some 0 ∧ compRuns (clu0 1) 0 = true ∧
    (let s := withClu (fun c => { c with headers := [(0, some 1)] }) (clu0 1)
     rewriteOutcome s 0 0 1 ⟨0, 0, 0, 0, 0, 0⟩ = 1 ∧ rewriteOutcome s 0 0 1 ⟨0, 1, 0, 0, 0, 0⟩ = 6 ∧
     s.clu[(0 : Fin 4)].headers.find? (fun h => h.1 % 8388608 = 0) = some (0, some 1) ∧
     s.clu[(0 : Fin 4)].headers.find? (fun h => h.1 % 8388608 = 1) = none) ∧
    base.reaches .debug true (P.EPH_FRAME0 0) = true ∧ seqRuns (clu0 1) 0 = true ∧ seqRuns base 0 = false ∧
    base.reaches .debug true (P.EPH_CTRL 0) = true ∧ reservedOk (P.EPH_CTRL 0) 0x100 = true ∧
    tilted.tilted = true ∧ seqRuns tilted 0 = false ∧ advertised base 0 3 = false ∧
    advertised base 0 2 = true ∧ modeOf (clu0 1) 0 ≠ 0 ∧
    seqRuns (setF (clu0 1) (P.EPH_STAT 0) F.EPH_STAT_running 0) 0 = false ∧ (clu0 1).clu[(0 : Fin 4)].stopping = false ∧
    (let s := withClu (fun c => { c with stopping := true }) (clu0 1)
     s.clu[(0 : Fin 4)].stopping = true ∧ drained s.clu[(0 : Fin 4)] = true) := by decide +kernel
theorem wit_CommitsAndSequencers_idle : ArbiterIdle (withClu (fun c => { c with headers := [(0, none)] }) (clu0 1)) :=
  idle_of (by decide +kernel) (by decide +kernel) rfl (by decide +kernel)
theorem wit_BandTakes : seqRuns (ring0 0x10002 2) 0 = true ∧ compRuns (ring0 0x10002 2) 0 = true ∧
    committed (ring0 0x10002 2) 0 0 = true ∧ inWindow (ring0 0x10002 2) 0 = true ∧ streamRoom (ring0 0x10002 2) 0 = true ∧ streamRoom (ring0 0x10001 2) 0 = true ∧
    headerCause (ring0 0x10001 2) 0 0 = 1 ∧ headerCause (ring0 0x10402 2) 0 0 = 2 ∧
    headerCause (ring0 0x10002 2) 0 0 = 0 ∧ headerForm (ring0 0x10002 2) 0 0 = true ∧
    (let s := ring0 0x10002 2
     let e := takeEntry s 0 0 0
     let b := bandOf s 0 0 0 (hdrHeight s 0 0) (hdrCount s 0 0) e
     entryForms s 0 e = true ∧ b.format = ringFormat s 0 ∧
     recordForm s 0 b (bits (hdrWord s 0 0 2) 12 0) = true ∧ b.isLast = true ∧ b.words = rec0 2) := by decide +kernel
/-- What BandTakes reads of a header and of a record in the first 192 bytes does not hang on a free value when those
bytes are listed. -/
theorem header_free {s : State} (hf : s.fixed 0 192 = true) (h0 : slotAddr s 0 0 = 0) (h1 : ringFormat s 0 = 2)
    (f : Nat) :
    (let header (u : State) := (headerCause u 0 0, headerForm u 0 0, hdrCount u 0 0, hdrHeight u 0 0,
      bits (hdrWord u 0 0 2) 12 0, takeEntry u 0 0 0)
     header { s with free := f } = header s) := by
  have hs : slotAddr { s with free := f } 0 0 = slotAddr s 0 0 := rfl
  have hr : ringFormat { s with free := f } 0 = ringFormat s 0 := rfl
  have hw : ∀ i, i < 16 → hdrWord { s with free := f } 0 0 i = hdrWord s 0 0 i := by
    intro i hi
    simp only [hdrWord, hs, h0]
    exact State.readLe_free f hf (by omega) (by omega)
  have hw' : ∀ a, a + 4 ≤ 192 → State.word { s with free := f } a = s.word a := fun a h => State.word_free f hf (by omega) h
  have he : takeEntry { s with free := f } 0 0 0 = takeEntry s 0 0 0 := by
    have hs : slotEntry { s with free := f } 0 0 0 = slotEntry s 0 0 0 := by
      simp only [slotEntry, hr, h1, hs, h0]
      simp only [hw' _ (show 0 + 64 + 16 * 0 + 4 * 0 + 4 ≤ 192 by omega), hw' _ (show 0 + 64 + 16 * 0 + 4 * 1 + 4 ≤ 192 by omega),
        hw' _ (show 0 + 64 + 16 * 0 + 4 * 2 + 4 ≤ 192 by omega), hw' _ (show 0 + 64 + 16 * 0 + 4 * 3 + 4 ≤ 192 by omega)]
    simp only [takeEntry, hs]
  have ha : (List.range 12).all (fun i => hdrWord { s with free := f } 0 0 (4 + i) == 0) =
      (List.range 12).all (fun i => hdrWord s 0 0 (4 + i) == 0) := by
    rw [Bool.eq_iff_iff]
    simp only [List.all_eq_true, List.mem_range]
    constructor <;> intro g i hi
    · rw [← hw (4 + i) (by omega)]; exact g i hi
    · rw [hw (4 + i) (by omega)]; exact g i hi
  simp only [headerCause, headerForm, hdrCount, hdrHeight, hw 0 (by omega), hw 1 (by omega), hw 2 (by omega),
    hw 3 (by omega), hr, he, ha]
  congr!
theorem record_free {s : State} (hf : s.fixed 0 192 = true) (f : Nat) :
    (let e : Override := ⟨0, 0, 2, 1, 0, 0⟩
     let record (u : State) := (entryForms u 0 e, (entryPatches u 0 e).length, patchedWords u 0 e)
     record { s with free := f } = record s) := by
  have hp : ∀ u : State, entryPatches u 0 ⟨0, 0, 2, 1, 0, 0⟩ = [] := by
    intro u
    have : (if ringFormat u 0 = 1 then 0 else bits (0 : Word).toNat 9 0) = 0 := by split <;> decide
    simp only [entryPatches, this, List.range_zero, List.map_nil]
  have hw : entryWords { s with free := f } ⟨0, 0, 2, 1, 0, 0⟩ = entryWords s ⟨0, 0, 2, 1, 0, 0⟩ := by
    have h1 : 16 * entryLen ⟨0, 0, 2, 1, 0, 0⟩ = 16 := by decide
    have h2 : 64 * bits (2 : Word).toNat 28 0 = 128 := by decide
    simp only [entryWords, h1, h2]
    refine List.map_congr_left fun i hi => ?_
    have := List.mem_range.mp hi
    exact State.word_free f hf (by omega) (by omega)
  have hr : ringFormat { s with free := f } 0 = ringFormat s 0 := rfl
  have hd : State.dramSize { s with free := f } = s.dramSize := rfl
  simp only [entryForms, patchedWords, hp, hw, hr, hd]
theorem wit_BandTakes_fixed (h : Word) (hh : h = 0x10001 ∨ h = 0x10002) : (ring0 h 2).fixed 0 192 = true ∧
    slotAddr (ring0 h 2) 0 0 = 0 ∧ ringFormat (ring0 h 2) 0 = 2 ∧ takeEntry (ring0 h 2) 0 0 0 = ⟨0, 0, 2, 1, 0, 0⟩ := by
  rcases hh with rfl | rfl <;> decide +kernel
theorem wit_BandTakes_free (h : Word) (hh : h = 0x10001 ∨ h = 0x10002) (f : Nat) :
    (let header (u : State) := (headerCause u 0 0, headerForm u 0 0, hdrCount u 0 0, hdrHeight u 0 0,
      bits (hdrWord u 0 0 2) 12 0, takeEntry u 0 0 0)
     let record (u : State) := (entryForms u 0 (takeEntry (ring0 h 2) 0 0 0),
       (entryPatches u 0 (takeEntry (ring0 h 2) 0 0 0)).length, patchedWords u 0 (takeEntry (ring0 h 2) 0 0 0))
     header { ring0 h 2 with free := f } = header (ring0 h 2) ∧ record { ring0 h 2 with free := f } = record (ring0 h 2)) := by
  obtain ⟨hf, h0, h1, he⟩ := wit_BandTakes_fixed h hh
  refine ⟨header_free hf h0 h1 f, ?_⟩
  rw [he]
  exact record_free hf f
theorem wit_BandTakes_idle (h : Word) (hh : h = 0x10001 ∨ h = 0x10002) : ArbiterIdle (ring0 h 2) := by
  rcases hh with rfl | rfl <;>
    exact idle_of (by decide +kernel) (by decide +kernel) rfl (by decide +kernel)
/-- D0 with its beam running, frame 0's refresh known. -/
def beam0 (mode : Nat) : State :=
  withClu (fun c => { c with r0 := some 1, beam := { c.beam with running := true, refresh := 1, originRefresh := 1 } }) (clu0 mode)
theorem wit_PipelineTick :
    (let s := withClu (fun c => { c with taken := [band0], beam := { c.beam with running := true }, r0 := some 1 }) (beam0 1)
     group s 0 = [0] ∧ gangSlave s 0 = false ∧ seqRuns s 0 = true ∧ s.tilted = false ∧ compRuns s 0 = true ∧
     s.clu[(0 : Fin 4)].r0.isSome = true ∧ (nextTick s 0).isSome = true ∧ s.powered (pdOutput (0 : Fin 4)) = true) ∧
    (let b := { band0 with ended := true }
     let s := withClu (fun c => { c with ticks := 4, record := some b, fetch := some b, compose := some b, send := some b }) (beam0 1)
     (nextTick s 0).isSome = true ∧ (tickSigma s 0).isSome = true ∧ (lagSigma s 0).isSome = true) := by decide +kernel
/-- D0's writeback on, as the frame latched it, at a base. -/
def wbOn (base : Word) (s : State) : State := withClu (fun c => { c with wb := #v[F.CMP_WB_CTRL_enable.put 1 0, base, 0, 0] }) s
/-- Band 0 of D0 can be composed, with the writeback as given and its range as given. -/
def composes (s : State) (on ok : Bool) : Bool :=
  let s1 := swapCoefs 0 band0.coefSwap s
  let wb := s1.clu[(0 : Fin 4)].wb
  compRuns s 0 && slotReady s.clu[(0 : Fin 4)] band0 && (F.CMP_WB_CTRL_enable.on wb[0] == on) &&
  match composeLines 0 band0 (bandBuffer s1.clu[(0 : Fin 4)] band0) s1.clu[(0 : Fin 4)].rows s1 with
  | .ok c => wbOk c.st wb band0.frame (outW c.st 0) (band0.out c.st 0) == ok
  | .error _ => false
/-- What is held or comes about has come about. -/
def arrived {α : Type} : Except Held α → Bool
  | .ok _ => true
  | .error _ => false
theorem wit_CometAndComposedBands :
    (let b := { band0 with cmtEnable := true }
     let s := withClu (fun c => { c with fetch := some b }) (clu0 1)
     b.ended = false ∧ s.tilted = false ∧ compRuns s 0 = true ∧ s.powered (pdComet (0 : Fin 4)) = true ∧ partOk s 0 b = true ∧ partOk (setReg s (P.CMP_PART 0) 0) 0 b = false ∧
     s.clu[(0 : Fin 4)].bufs.length < bufCount s 0 b ∧ s.clu[(0 : Fin 4)].walks[(8 : Fin 9)].done = true ∧
     bandContextsOk s b = true ∧ capOk s b = true ∧ patternsIn s b = true ∧
     arrived (patAgainAll 0 8 (walkComets s 0 b) (0, s)) = true ∧
     bandContextsOk s { b with words := [2, 0x2000, 0, 0x90000, 0, 0, 0, 0, 0x40000000, 0xC0000000] ++ zeros 7 } = false) ∧
    patFind (walking false []) 7 ≠ none ∧
    composes (withClu (fun c => { c with compose := some band0 }) (clu0 1)) false true = true ∧
    composes (wbOn 0 (withClu (fun c => { c with compose := some band0 }) (clu0 1))) true true = true ∧
    composes (wbOn 0x1FFFFFFF (withClu (fun c => { c with compose := some band0 }) (clu0 1))) true false = true := by
  decide +kernel
theorem wit_BeamLines : outputOn (clu0 1) 0 = true ∧ gangSlave (clu0 1) 0 = false ∧ (clu0 1).tilted = false ∧
    (clu0 1).clu[(0 : Fin 4)].beam.running = false ∧ modeOf (clu0 1) 0 ≠ 0 ∧ onF (clu0 1) (P.DSP_APPLY 0) F.DSP_APPLY_arm = false ∧
    group (beam0 2) 0 = [0] ∧ rasterMode (beam0 2) 0 = true ∧ activeH (beam0 2) 0 ≤ 1 ∧ (beam0 2).clu[(0 : Fin 4)].beam.running = true ∧ totalV (beam0 2) 0 = 2 ∧
    (let s := setF (setF (beam0 2) (P.DSP_APPLY 0) F.DSP_APPLY_arm 1) (P.DSP_APPLY 0) F.DSP_APPLY_line 1
     onF s (P.DSP_APPLY 0) F.DSP_APPLY_arm = true ∧ getF s (P.DSP_APPLY 0) F.DSP_APPLY_line = 1) ∧
    base.reaches .debug true (P.DSP_APPLY 0) = true ∧ modeOf base 0 = 0 := by decide +kernel
/-- A send of one line of two words under way. -/
def send0 : Sending := ⟨0, 0, 35, 0, [(0, [1, 2])], 0, []⟩
theorem wit_Sends :
    (let s := setReg (withClu (fun c => { c with toSend := [band0] }) (beam0 1)) (P.DSP_PACE 0) 0x1000
     group s 0 = [0] ∧ gangSlave s 0 = false ∧ seqRuns s 0 = true ∧ s.tilted = false ∧ outputOn s 0 = true ∧
     (sendReady s 0).isSome = true) ∧
    (withClu (fun c => { c with sending := some send0 }) base).clu[(0 : Fin 4)].sending = some send0 := by decide +kernel
/-- D0 sends send0, its guard 0, or a band whose line the scan enters before it is resent. -/
def sends0 (early : Bool) : State :=
  withClu (fun c => { c with sending := some { send0 with started := if early then 5 else 35 } })
    (setF (clu0 1) (P.DSP_PACE 0) F.DSP_PACE_guard 0)
theorem wit_LinkTrainingAndFaults : base.reaches .debug true (P.DSP_TRAIN 0) = true ∧ modeOf (clu0 1) 0 ≠ 0 ∧
    modeOf base 0 = 0 ∧ trainingRuns base 0 = false ∧
    (let s := setF (setF base (P.DSP_CTRL 0) F.DSP_CTRL_iface 1) (P.DSP_LINK 0) F.DSP_LINK_rate 8
     onF s (P.DSP_CTRL 0) F.DSP_CTRL_iface = true ∧ 8 ≤ getF s (P.DSP_LINK 0) F.DSP_LINK_rate) ∧
    ¬(onF base (P.DSP_CTRL 0) F.DSP_CTRL_iface = true ∧ 8 ≤ getF base (P.DSP_LINK 0) F.DSP_LINK_rate) ∧
    (let s := setF base (P.DSP_TRAIN 0) F.DSP_TRAIN_busy 1
     trainingRuns s 0 = true ∧ outputOn s 0 = true ∧
     { s with pwr := { s.pwr with linkLocked := 1 } }.pwr.linkLocked.getLsbD 0 = true) ∧
    (let s := setF tilted (P.DSP_CTRL 0) F.DSP_CTRL_mode 2
     s.tilted = true ∧ outputOn s 0 = true ∧ modeOf s 0 ≠ 0 ∧ onF s (P.DSP_STAT 0) F.DSP_STAT_link_up = false ∧
     onF (setF s (P.DSP_STAT 0) F.DSP_STAT_link_up 1) (P.DSP_STAT 0) F.DSP_STAT_link_up = true) ∧
    rasterMode (clu0 2) 0 = true ∧ outputOn (clu0 2) 0 = true ∧ rasterMode (clu0 1) 0 = false ∧
    (∀ e : Bool, outputOn (sends0 e) 0 = true ∧ modeOf (sends0 e) 0 ≠ 0 ∧ rasterMode (sends0 e) 0 = false ∧
      0 + 1 * lineSend (sends0 e) 0 ≤ 30000 ∧
      resendOk (sends0 e) 0 0 (linePassed (sends0 e) 0 { send0 with started := if e then 5 else 35 } 0) = !e) ∧
    base.pwr.inReset = false ∧ base.tilt.code = none := by decide +kernel

/-- A composed slot of one line of two words. -/
def slot0 (sent : Bool) : Slot := ⟨0, 0, 0x8002000000, 8, [(0, [1, 2])], [(0, 10)], 0, 40, sent, false, 40⟩
/-- A frame of one band with its band digest. -/
def work0 (h : Option (List Byte)) : FrameWork := ⟨0, 1, true, [(0, List.replicate 32 0)], 0, 0, 1, h, []⟩
/-- D0's recall on for frame 0, the expected table in the first bytes of DRAM. -/
def recalls : State :=
  withClu (fun c => { c with frames := [work0 (some (List.replicate 32 1))] }) <| words 0 (zeros 16) (setF (setF base (P.DIG_CTRL 0) F.DIG_CTRL_recall 1) (P.DIG_EXP_COUNT 0) F.DIG_EXP_COUNT_count 1)
/-- A full export queue. -/
def fullQueue : State := withClu (fun c => { c with export_ := List.replicate 16 ⟨0, false, true, 0, 0, []⟩ }) recalls
theorem wit_Digests : (withClu (fun c => { c with slots := c.slots.set 0 (some (slot0 false)) }) (clu0 1)).clu[(0 : Fin 4)].slots[(0 : Fin 2)]
      = some (slot0 false) ∧ laneMayEnd (slot0 true) 33 = true ∧ laneMayEnd (slot0 true) 34 = false ∧ compRuns (clu0 1) 0 = true ∧
    wbHolds (clu0 1) 0 (slot0 true) = false ∧
    wbHolds (setRequester 13 ⟨[], none, [⟨0, none, false, 0, 0, wbTag 0 0⟩], none, []⟩ (clu0 1)) 0 (slot0 true) = true ∧
    [work0 none].find? (fun w => w.full && w.digest.isNone) = some (work0 none) ∧
    (work0 (some [])).count ≤ (work0 (some [])).decided ∧
    (let n := frameSub (work0 none).frame (getReg recalls (P.DIG_EXP_FIRST 0)).toNat
     n < getF recalls (P.DIG_EXP_COUNT 0) F.DIG_EXP_COUNT_count ∧ recallRange recalls 0 (work0 none) n = true ∧
     16 ≤ fullQueue.clu[(0 : Fin 4)].export_.length ∧ recallRange fullQueue 0 (work0 none) n = true ∧ compRuns fullQueue 0 = true ∧
     expAddr recalls 0 n = 0 ∧ recalls.fixed 0 64 = true ∧
     recallRange (setReg recalls (P.DIG_EXP_BASE 0) 0x1FFFFFFF) 0 (work0 none) n = false) ∧
    base.reaches .debug true (P.DIG_CTRL 0) = true ∧ seqRuns base 0 = false ∧ seqRuns (clu0 1) 0 = true ∧
    onF base (P.DIG_CTRL 0) F.DIG_CTRL_recall = false := by decide +kernel
theorem wit_Digests_mismatch (f : Nat) : State.readBytes { recalls with free := f } 0 32 ≠ List.replicate 32 1 := by
  rw [State.readBytes_free (s := recalls) (lo := 0) (hi := 64) f (by decide +kernel) 32 0 (by omega) (by omega)]
  decide +kernel
theorem wit_Digests_idle : ArbiterIdle recalls ∧ ArbiterIdle fullQueue := by
  constructor <;>
  exact idle_of (by decide +kernel) (by decide +kernel) rfl (by decide +kernel)

/-- A blit ring of two entries at 0x2000 holding a command of one pixel whose words 0, 2 and 6 and whose size are given. -/
def ring (w0 : Word) (w2 : Word := 0x400400) (w6 : Word := 0x400400) (size : Word := 0x10001) : State :=
  let s := setF (setF base P.BLT_RING_BASE F.BLT_RING_BASE_base 0x80) P.BLT_RING_SIZE F.BLT_RING_SIZE_log2 1
  let s := setF (setF s P.BLT_CTRL F.BLT_CTRL_run 1) P.BLT_TAIL F.BLT_TAIL_index 1
  words 0x4000 [7, 8] (words 0x2000 ([w0, 0x4000, w2, 0, size, 0x4000, w6, 1] ++ zeros 8) s)
theorem blitCmd_free {s : State} (hf : s.fixed 0x2000 0x2040 = true) (he : bltEntry s = 0x2000) (f : Nat) :
    blitCmd { s with free := f } = blitCmd s := by
  have hb : bltEntry { s with free := f } = bltEntry s := rfl
  have hw : ∀ i, i < 16 → bltWord { s with free := f } i = bltWord s i := by
    intro i hi
    simp only [bltWord, hb, he]
    rw [State.word_free f hf (by omega) (by omega)]
  simp only [blitCmd, hw 0 (by omega), hw 1 (by omega), hw 2 (by omega), hw 3 (by omega), hw 4 (by omega), hw 5 (by omega),
    hw 6 (by omega), hw 7 (by omega), hw 8 (by omega), hw 9 (by omega), hw 10 (by omega), hw 11 (by omega),
    hw 12 (by omega)]
theorem blitPixels_free {s : State} (c : BlitCmd) (h : c.clip = false) (f : Nat) :
    blitPixels { s with free := f } c = blitPixels s c := by
  simp [blitPixels, h]
/-- A copy of four pixels of format 6. -/
def wide : State := words 0x201C [0] (ring 0 0x1400600 0x1400600 0x10004)
/-- The commands of the witnesses: op 3, the three operations, formats 6, a width of 0, and two surfaces that share bytes. -/
def rings : List State :=
  [ring 3, ring 0, ring 1, ring 2, wide, ring 2 0x400600 0x400600, ring 0 0x400400 0x400400 0x10000,
    words 0x201C [0] (ring 0 0x400400 0x800400)]
theorem wit_BlitCommands_rings : ∀ s ∈ rings, bltOn s = true ∧ onF s P.BLT_CTRL F.BLT_CTRL_run = true ∧ bltBusy s = false ∧
    bltHead s ≠ bltTail s ∧ bltEntry s = 0x2000 ∧ bltEntry s + 64 ≤ s.dramSize ∧ s.fixed 0x2000 0x2040 = true ∧
    (blitCmd s).clip = false ∧ memServes s = true ∧ (∀ c : Fin 4, chanReady s c = true) ∧ s.mc.reqs = [] ∧
    ∀ c : Fin 4, s.mc.chans[c].owner = none ∧ s.mc.chans[c].emergency = false ∧ s.mc.chans[c].link = false ∧
      s.mc.chans[c].flights = [] := by decide +kernel
theorem wit_BlitCommands_free (s : State) (hs : s ∈ rings) : ArbiterIdle s ∧
    (∀ f, blitCmd { s with free := f } = blitCmd s) ∧
    ∀ f, blitPixels { s with free := f } (blitCmd s) = blitPixels s (blitCmd s) := by
  obtain ⟨_, _, _, _, he, _, hf, hc, h1, h2, h3, h4⟩ := wit_BlitCommands_rings s hs
  exact ⟨idle_of h1 h2 h3 h4, blitCmd_free hf he, blitPixels_free _ hc⟩
/-- What a command's checks give it. -/
def judged (s : State) : Nat × Option Fault := (blitCode (blitCmd s), blitStop s (blitCmd s) (blitPixels s (blitCmd s)))
theorem wit_BlitCommands : (blitCmd (ring 3)).op = 3 ∧ (blitCmd (ring 0)).op = 0 ∧ judged (ring 0) = (0, none) ∧
    (blitCmd (ring 1)).op = 1 ∧ judged (ring 1) = (0, none) ∧ (blitCmd (ring 2)).op = 2 ∧ judged (ring 2) = (0, none) ∧
    ((blitCmd wide).format = 6 ∧ ∀ n < 6, blitCode { blitCmd wide with format := n } = 0 ∧
      blitStop wide { blitCmd wide with format := n } (blitPixels wide (blitCmd wide)) = none) ∧
    (blitCmd (ring 2 0x400600 0x400600)).format = 6 ∧ (judged (ring 2 0x400600 0x400600)).1 = 6 ∧
    (judged (ring 0 0x400400 0x400400 0x10000)).1 = 2 ∧
    judged (words 0x201C [0] (ring 0 0x400400 0x800400)) = (0, some .blitForm) ∧
    bltBusy (setF base P.BLT_STAT F.BLT_STAT_busy 1) = true ∧ tagWaits 9 blitTag base = false ∧
    base.reaches .debug true P.BLT_TAIL = true ∧
    base.reaches .debug true P.BLT_CTRL = true ∧ base.reaches .debug true P.BLT_RING_BASE = true ∧
    base.reaches .debug true P.BLT_RING_SIZE = true ∧ onF base P.BLT_CTRL F.BLT_CTRL_run = false ∧ bltBusy base = false ∧
    (12 : BitVec 29).toNat % 16 ≤ 12 := by decide +kernel

/-! ## Witnesses: audio -/

/-- Kettle running in its period boundary before period 5. -/
def kettle5 : State := setKtl { Kettle.reset with next := 5 } (setF base P.KTL_STAT F.KTL_STAT_running 1)
/-- Kettle with frame 3's slot handed to it: the slot begins with frame number f and holds one cue of a kind, whose word
1 is given. -/
def cued (f : Word) (w0 : Word := 0x20000) (w1 : Word := 0) : State :=
  words 0x3000 ([f, 1, 0, 0, w0, w1, 0, 0]) (setKtl { Kettle.reset with slots := [⟨3, 0, false⟩] } base)
/-- A sound of 100 samples of 16 bits. -/
def sound0 (loop : Bool) : Sound := ⟨0x40, true, 1, 0, loop, 0, 0, 100, 0, 0, 0, 0, 0, 0, 0, 0⟩
/-- kettle5 with a voice of the sound, and the state in which its period computes. -/
def voiced (domain : Nat) : State :=
  setKtl { kettle5.ktl with voices := [(0, ⟨{ sound0 false with domain := domain }, 0, 0, 0, .attack, 0, 1, 0, 0, 0, none⟩)] } kettle5
def period5 (s : State) : State :=
  let x := micSamples [] (if s.powered 35 then latchEnables s else s)
  fireCues 5 ((setReg (reach (x.2.ktl.origin + periodClocks * 5) x.2) P.KTL_SAMPLE (BitVec.ofNat 32 5)).captureEdge 4)
theorem wit_KettlePlay : base.reaches .debug true P.KTL_CTRL = true ∧ kettleOn base = false ∧ base.tilted = false ∧
    tilted.tilted = true ∧ kettleOn tilted = false ∧ kettleOn kettle5 = true ∧ base.powered 34 = true ∧ audioClock base = true ∧
    kettle5.powered 34 = true ∧ audioClock kettle5 = true ∧ kettle5.ktl.next = 5 ∧ kettle5.ktl.stopping = false ∧
    sendsOk (period5 kettle5) 5 = true ∧ kettleOn (voiced 1) = true ∧ sendsOk (period5 (voiced 1)) 5 = false ∧
    (setKtl { kettle5.ktl with stopping := true } kettle5).ktl.stopping = true ∧
    base.reaches .debug true P.KTL_PROBE_CTRL = true ∧ nextSlotOf (cued 3).ktl = some ⟨3, 0, false⟩ ∧
    (∀ s ∈ [cued 3, cued 4, cued 3 0x50000 0x05000000], cueSlotAddr s 3 = 0x3000 ∧ 0x3000 + 4096 ≤ s.dramSize ∧
      getF s P.KTL_SND F.KTL_SND_count = 0 ∧ bits (s.word 0x3004).toNat 7 0 = 1 ∧ s.fixed 0x3000 0x3020 = true) ∧
    ((cued 3).word 0x3000).toNat = 3 ∧ ((cued 4).word 0x3000).toNat ≠ 3 ∧ bits ((cued 3).word 0x3010).toNat 19 16 = 2 ∧
    (let s := cued 3 0x50000 0x05000000
     bits (s.word 0x3010).toNat 19 16 = 5 ∧ bits (s.word 0x3014).toNat 26 24 = 5) ∧
    (let s := setReg (cued 3) P.KTL_CUE_BASE 0xFFFFFFF
     s.dramSize < cueSlotAddr s 3 + 4096) ∧
    (∀ q ∈ [(⟨sound0 false, 7169, 0⟩ : StreamRing), ⟨sound0 false, soundBytes (sound0 false), 0⟩],
      7168 < q.filled - q.passed ∨ min 64 (soundBytes q.sound - q.filled) = 0) ∧
    (∀ q ∈ [(⟨sound0 true, 0, 0⟩ : StreamRing), ⟨sound0 false, 0, 0⟩], q.filled - q.passed ≤ 7168 ∧
      (if q.sound.loop then 64 else min 64 (soundBytes q.sound - q.filled)) ≠ 0) := by decide +kernel
theorem wit_KettlePlay_idle : ArbiterIdle (cued 3) ∧ ArbiterIdle (cued 4) ∧ ArbiterIdle (cued 3 0x50000 0x05000000) ∧
    ArbiterIdle (setKtl { Kettle.reset with rings := Kettle.reset.rings.set 0 (some ⟨sound0 true, 0, 0⟩) } base) := by
  refine ⟨?_, ?_, ?_, ?_⟩ <;> exact idle_of (by decide +kernel) (by decide +kernel) rfl (by decide +kernel)
theorem wit_KettlePlay_view {s : State} (h : s.fixed 0x3000 0x3020 = true) (f : Nat) :
    (let view (u : State) := (u.word 0x3000, (List.range 16).map (fun i => u.byte (0x3000 + 16 + i)))
     view { s with free := f } = view s) := by
  simp only [State.word_free f h (a := 0x3000) (by omega) (by omega), Prod.mk.injEq, true_and]
  refine List.map_congr_left fun i hi => ?_
  have := List.mem_range.mp hi
  exact State.byte_free f h (by omega) (by omega)
theorem wit_Analogue :
    (let s := { base with aas := { base.aas with enabled := 0x80, powerUp := true } }
     s.powered 35 = true ∧ s.aas.enabled.getLsbD 7 = true ∧ (getF s P.AAS_STAT F.AAS_STAT_cd_fault).testBit 7 = false ∧
     s.pwr.inReset = false ∧ s.tilt.code = none ∧ s.aas.powerUp = true) ∧ base.reaches .debug true P.AAS_CAL_REQ = true ∧
    (∀ u : Fin 12, let s := { base with aas := { base.aas with
       cal := base.aas.cal.set u (some ⟨if u.val < 8 then 7 else 3, calPeriods⟩), zeros := Vector.replicate 8 480 } }
     s.aas.cal[u] = some ⟨if u.val < 8 then 7 else 3, calPeriods⟩ ∧ ∀ h : u.val < 8, 480 ≤ s.aas.zeros[u.val]) := by decide +kernel


/-! ## Witnesses: DMA, timers, counters, Heto -/

/-- Channel 31 running at an instruction of the given words, with a share of the FIFO. -/
def chan (w : List Word) (f : DmaChannel → DmaChannel := id) : State :=
  let s := setF (setF base (P.DMA_CH_STAT 31) F.DMA_CH_STAT_state 1) (P.DMA_CH_FIFO 31) F.DMA_CH_FIFO_size 128
  setCh 31 (f s.dma[(31 : Fin 32)]) (words 0 w s)
theorem wit_DmaRegisters : base.reaches .debug true (P.DMA_CH_CTRL 31) = true ∧ chBusy (chan []) 31 = true ∧
    chBusy base 31 = false ∧ fifoSize base 31 = 0 ∧
    (let s := setF base (P.DMA_CH_FIFO 31) F.DMA_CH_FIFO_size 128
     fifoSize s 31 ≠ 0 ∧ fifoBase s 31 + fifoSize s 31 ≤ 128 ∧ (∀ k : Fin 32, fifoOverlap s 31 k = false) ∧
     chState s 31 = 0 ∧ chState (setChState 31 3 s) 31 = 3) ∧
    dmaOn base = true ∧ (chan [] (fun c => { c with drain := some (.fail 1) })).dma[(31 : Fin 32)].drain = some (.fail 1) ∧
    base.reaches .debug true (P.DMA_EVENT_SET 1) = true ∧ base.reaches .debug true (P.DMA_EVENT_CLR 1) = true ∧
    shaOpen base < 4 ∧
    (let s := chan [] (fun c => { c with shaWaits := true })
     s.dma[(31 : Fin 32)].shaWaits = true ∧ shaOpen s < 4 ∧ ∀ k : Fin 32, k < 31 → s.dma[k].shaWaits = false) := by decide +kernel
theorem wit_DmaRegisters_drains :
    (let s := chan [0x32F05, 0, 0, 0] (fun c => { c with drain := some .signal, last := some 0x2000 })
     dmaOn s = true ∧ s.dma[(31 : Fin 32)].drain = some .signal ∧ writesWait 31 s = false ∧ progAt s 31 = 0 ∧
     s.fixed 0 16 = true ∧ bit (progWord s 31 0) 16 = true ∧ bit (progWord s 31 0) 17 = true ∧
     bits (progWord s 31 0) 13 8 < 48) ∧
    writesWait 31 (setRequester 10 ⟨[⟨0, none, false, 0, 0, 32⟩], none, [], none, []⟩ base) = true := by decide +kernel
/-- The words of an instruction at address 0 do not hang on a free value. -/
theorem progWord_free {s : State} {n : Fin 32} (hf : s.fixed 0 16 = true) (ha : progAt s n = 0) (f i : Nat) (hi : i < 4) :
    progWord { s with free := f } n i = progWord s n i := by
  have hb : progAt { s with free := f } n = progAt s n := rfl
  simp only [progWord, hb, ha]
  rw [State.word_free f hf (by omega) (by omega)]
theorem wit_dma_idle (w : List Word) (f : DmaChannel → DmaChannel) : ArbiterIdle (chan w f) :=
  idle_of (s := chan w f) (by decide +kernel : memServes (chan [] id) = true)
    (by decide +kernel : ∀ c : Fin 4, chanReady (chan [] id) c = true) rfl
    (by decide +kernel : ∀ c : Fin 4, (chan [] id).mc.chans[c].owner = none ∧ (chan [] id).mc.chans[c].emergency = false ∧
      (chan [] id).mc.chans[c].link = false ∧ (chan [] id).mc.chans[c].flights = [])
/-- Channel 31 in a MOVE of 32 bytes from 0x1000 to 0x2000, k bytes read. -/
def moving (k : Nat) (f : DmaChannel → DmaChannel := id) : State :=
  let s := chan [1, 0, 0, 0x20] (fun c => f { c with moved := some k })
  setDp 31 0x2000 (setSp 31 0x1000 s)
/-- A share with one granule in it. -/
def granule1 : List (List Byte) := [List.replicate 32 5]
theorem wit_DmaPrograms : (∀ p ∈ [(1, [0x31, 0x1000, 0x2000, 0x20], id), (1, [0x31, 0x1000, 0x1020, 0x40], id), (2, [2, 5, 0, 0], id),
      (3, [3, 0x20, 0xFFFFFFE0, 0], fun c => { c with loops := [(1, 2)] }),
      (3, [3, 0x20, 0xFFFFFFE0, 0], fun c => { c with loops := [(1, 1)] }), (4, [0x13F04, 0, 0, 0], id),
      (5, [0x32F05, 0, 0, 0], id), (6, [0x06, 0, 0, 0], id), (6, [0x46, 0, 0, 0], id),
      (6, [0x16, 0x2000, 0, 0], fun c => { c with check := some (.crc 0) }),
      (6, [0xFF16, 0x2000, 0, 0], fun c => { c with check := some (.crc 0) }),
      (7, [7, 0, 0, 0], (id : DmaChannel → DmaChannel))],
    dmaReady 31 p.1 (chan p.2.1 p.2.2) = true ∧ (chan p.2.1 p.2.2).fixed 0 16 = true ∧ progAt (chan p.2.1 p.2.2) 31 = 0) ∧
    moveWild 0x1000 0x2000 0x20 = false ∧ moveWild 0x1000 0x1020 0x40 = true ∧
    shaOpen (chan [0x46, 0, 0, 0]) < 4 ∧ (∀ k : Fin 32, (chan [0x46, 0, 0, 0]).dma[k].shaWaits = false) ∧
    (let s := (List.finRange 4).foldl (fun t (k : Fin 4) => setCh (k.castLE (by decide)) { DmaChannel.reset with check := some (.sha []) } t)
       (chan [0x46, 0, 0, 0])
     dmaReady 31 6 s = true ∧ 4 ≤ shaOpen s) ∧
    engineStop true 0x2000 32 base = none ∧ (engineStop true 0xFF00002000 32 base).isSome = true ∧
    (let s := setFlag 63 (setChState 31 2 (chan [0x13F04, 0, 0, 0]))
     dmaOn s = true ∧ waits s 31 = true ∧ waitEvent s 31 = 63 ∧ eventFlag s 63 = true ∧ waitClears s 31 = true ∧
     ∀ j < 31, waits s j = false) ∧
    (let s := setFlag 63 (setChState 31 2 (chan [0x03F04, 0, 0, 0]))
     waits s 31 = true ∧ waitEvent s 31 = 63 ∧ waitClears s 31 = false) := by decide +kernel
theorem wit_DmaPrograms_moves : (∀ s ∈ [moving 0, moving 0 (fun c => { c with allowance := some 0 }), moving 32 (fun c => { c with fifo := granule1 })],
      dmaOn s = true ∧ chState s 31 = 1 ∧ s.dma[(31 : Fin 32)].drain = none ∧ s.dma[(31 : Fin 32)].shaWaits = false ∧
      progAt s 31 + 16 ≤ s.dramSize ∧ progWord s 31 0 % 16 = 1 ∧ progWord s 31 3 = 0x20 ∧
      moveWild (chSp s 31) (chDp s 31) 0x20 = false ∧ moveStop 31 0x20 s = none) ∧
    nextServed (moving 0) = some 31 ∧ readReady (moving 0) 31 0x20 = 1 ∧
    nextServed (moving 0 (fun c => { c with allowance := some 0 })) = none ∧
    (let s := moving 32 (fun c => { c with fifo := granule1 })
     nextServed s = some 31 ∧ readReady s 31 0x20 = 0 ∧ writeReady s 31 0x20 = 1 ∧ granule1.drop 1 = []) ∧
    (let s := setSp 31 0xFF00001000 (moving 0)
     nextServed s = some 31 ∧ (moveStop 31 0x20 s).isSome = true) := by decide +kernel
theorem wit_DmaPrograms_fails :
    (let s := chan [8, 0, 0, 0]
     chState s 31 = 1 ∧ s.dma[(31 : Fin 32)].drain = none ∧ s.dma[(31 : Fin 32)].moved = none ∧
     s.dma[(31 : Fin 32)].shaWaits = false ∧ progAt s 31 = 0 ∧ 16 ≤ s.dramSize ∧ s.fixed 0 16 = true ∧
     namedBits (progWord s 31 0) = none ∧
     checkCode s.dma[(31 : Fin 32)] (progWord s 31 0) (progWord s 31 1) (progWord s 31 2) (progWord s 31 3) ≠ 0) ∧
    (let s := chan [7, 1, 0, 0]
     s.fixed 0 16 = true ∧ (progWord s 31 0 % 16 == 7) = true ∧
     checkCode s.dma[(31 : Fin 32)] (progWord s 31 0) (progWord s 31 1) (progWord s 31 2) (progWord s 31 3) ≠ 0) := by
  decide +kernel

/-- Timer 15 running in a mode with a count and TOP 4. -/
def timer (mode c : Nat) : State :=
  let s := setPair (P.TMR_TOP_LO 15) (P.TMR_TOP_HI 15) 4 (setReg base (P.TMR_CTRL 15) (BitVec.ofNat 32 (1 + 2 * mode)))
  setTmr 15 { s.tmr[(15 : Fin 16)] with count := c } s
theorem wit_TimerTicks : ∀ mode < 3, ∀ c < 6, tmrTicks (timer mode c) 15 = true ∧ tmrMode (timer mode c) 15 = mode ∧
    (timer mode c).tmr[(15 : Fin 16)].count = c ∧ tmrTop (timer mode c) 15 = 4 := by decide +kernel
theorem wit_TimerRegistersAndCaptures : base.reaches .debug true (P.TMR_CTRL 15) = true ∧ tmrRuns base 15 = false ∧
    base.reaches .debug true (P.TMR_TOP_HI 15) = true ∧ base.tmr[(15 : Fin 16)].topStaged = none ∧
    (setTmr 15 { base.tmr[(15 : Fin 16)] with topStaged := some 1, cmpStaged := some 1 } base).tmr[(15 : Fin 16)].topStaged = some 1 ∧
    tmrRuns (timer 0 0) 15 = true ∧ tmrMode (timer 0 0) 15 ≠ 3 ∧ base.reaches .debug true (P.TMR_CMP_HI 15) = true ∧
    base.reaches .debug true (P.TMR_CMD 15) = true ∧ base.powered 11 = true ∧ base.cpuClock = true ∧
    (let s := setReg base (P.TMR_CAPCTRL 15) (F.TMR_CAPCTRL_rise.mask ||| F.TMR_CAPCTRL_fall.mask ||| F.TMR_CAPCTRL_pair.mask)
     getF s (P.TMR_CAPCTRL 15) F.TMR_CAPCTRL_src = capSrc (.pin true) ∧ onF s (P.TMR_CAPCTRL 15) F.TMR_CAPCTRL_rise = true ∧
     onF s (P.TMR_CAPCTRL 15) F.TMR_CAPCTRL_fall = true ∧ onF s (P.TMR_CAPCTRL 15) F.TMR_CAPCTRL_pair = true) ∧
    base.reaches .debug false (P.TMR_CAPR_LO 15) = true ∧ base.reaches .debug false (P.TMR_CAPF_LO 15) = true := by decide +kernel
theorem wit_PerformanceCounters : base.reaches .debug true (P.PMC_VAL 63) = true ∧ base.reaches .debug false (P.PMC_VAL 63) = true ∧
    countsClocks base (pmcLower base 63) = false ∧ pmcChained base 62 = false ∧
    (let s := setF base (P.PMC_CFG 63) F.PMC_CFG_chain 1
     pmcChained s 62 = true ∧ countsClocks s (pmcLower s 62) = false) ∧
    (∃ ev ∈ List.range 16, countsClocks (setF (setF (setF (setF base P.PMC_CTRL F.PMC_CTRL_enable 1) (P.PMC_CFG 0) F.PMC_CFG_core 1) (P.PMC_CFG 0)
      F.PMC_CFG_en 1) (P.PMC_CFG 0) F.PMC_CFG_event ev) 0 = true) ∧
    base.reaches .debug true P.PMC_CTRL = true ∧ base.reaches .debug true (P.PMC_HIST_CFG 3) = true ∧
    getF (setF base (P.PMC_HIST_CFG 3) F.PMC_HIST_CFG_req 16) (P.PMC_HIST_CFG 3) F.PMC_HIST_CFG_req ≤ 16 := by decide +kernel

/-- Port 7 running, node 3 in a state, and its state changed. -/
def port7 (st : Nat) (f : Hlk → Hlk := id) : State :=
  let s := setF (setF base (P.HLK_STAT 7) F.HLK_STAT_running 1) (P.HLK_NODE 7 3) F.HLK_NODE_state st
  let s := setReg s (P.HLK_PLCA 7) (F.HLK_PLCA_node_count.put 8 0)
  setHlk 7 (f Hlk.reset) s
/-- A poll and a hello of node 3. -/
def poll3 : HlkCycle := ⟨0, 0, 3, 0, 2, false, none, true, 5, 0, [], 0, 0⟩
/-- Port 7 with slot 0 of a kind for node 3, and descriptor 15 queued for it with a length, a broadcast or not. -/
def slot7 (kind len : Nat) (bcast : Bool) : State :=
  let s := setF (setF (port7 1) (P.HLK_SLOT 7 0) F.HLK_SLOT_node 3) (P.HLK_SLOT 7 0) F.HLK_SLOT_kind kind
  let s := setF (setF s (P.HLK_NODE 7 3) F.HLK_NODE_version 1) (P.HLK_TX0 7 15) F.HLK_TX0_node 3
  setTxState 7 15 1 (setF (setF s (P.HLK_TX0 7 15) F.HLK_TX0_len len) (P.HLK_TX0 7 15) F.HLK_TX0_bcast (b2n bcast))
theorem wit_HetoPorts_slots : (∀ p ∈ [(1, 4, false), (1, 33, false), (2, 4, true), (2, 1017, true), (3, 4, false), (0, 4, false)],
      let s := slot7 p.1 p.2.1 p.2.2
      hlkRuns s 7 = true ∧ s.hlk[(7 : Fin 8)].prev = none ∧ s.hlk[(7 : Fin 8)].lastCycle = false ∧
      s.hlk[(7 : Fin 8)].stopping = false ∧ s.hlk[(7 : Fin 8)].retry = none ∧ (passOn s 7).1 = 0 ∧
      F.HLK_SLOT_kind.get (getReg s (P.HLK_SLOT 7 0)) = p.1 ∧ nodeState s 7 3 = 1) ∧
    (pollDesc (slot7 1 4 false) 7 3 0 1 = some 15 ∧ lenOk (slot7 1 4 false) 7 15 1 = true) ∧
    (pollDesc (slot7 1 33 false) 7 3 0 1 = some 15 ∧ lenOk (slot7 1 33 false) 7 15 1 = false) ∧
    (broadcastVersions (slot7 2 4 true) 7 15 = [1, 2, 3] ∧ broadcastVersions (slot7 2 1017 true) 7 15 = []) ∧
    (∀ s ∈ [slot7 2 4 true, slot7 2 1017 true], lowestTx (fun i => decide (txState s 7 i = 1) && txBcast s 7 i) = some 15) ∧
    (port7 1 (fun h => { h with retry := some poll3 })).hlk[(7 : Fin 8)].retry = some poll3 ∧
    (let c := { poll3 with hello := true, version := 1 }
     let s := port7 1 (fun h => { h with prev := some c })
     s.hlk[(7 : Fin 8)].prev = some c ∧ hasTurn s 7 3 = true ∧ c.hello = true) ∧
    (port7 1 (fun h => { h with stopping := true })).hlk[(7 : Fin 8)].stopping = true ∧
    bootStage base ≠ 7 ∧ bootStage (setF base P.CFG_STAT F.CFG_STAT_stage 7) = 7 := by decide +kernel
theorem wit_HetoPorts : base.reaches .debug true (P.HLK_CTRL 7) = true ∧ hlkRuns base 7 = false ∧ hlkRuns (port7 1) 7 = true ∧
    (port7 1).hlk[(7 : Fin 8)].stopping = false ∧ base.reaches .debug true (P.HLK_SLOT 7 255) = true ∧
    base.reaches .debug true (P.HLK_TBL 7) = true ∧ base.reaches .debug true (P.HLK_RX_TAIL 7) = true ∧
    rxUsed base 7 = 0 ∧ (63 + 64 - rxTail base 7) % 64 = 63 ∧ base.reaches .debug true (P.HLK_TX0 7 15) = true ∧
    txState base 7 15 = 0 ∧ txState (setTxState 7 15 2 base) 7 15 = 2 ∧ (port7 1).hlk[(7 : Fin 8)].prev = none ∧
    F.HLK_SLOT_kind.get (getReg (port7 1) (P.HLK_SLOT 7 0)) ≤ 1 ∧
    (let s := setF (setF (port7 1) (P.HLK_SLOT 7 0) F.HLK_SLOT_node 3) (P.HLK_SLOT 7 0) F.HLK_SLOT_kind 1
     F.HLK_SLOT_kind.get (getReg s (P.HLK_SLOT 7 0)) = 1 ∧ nodeState s 7 3 = 1 ∧ pollDesc s 7 3 0 (nodeVersion s 7 3) = none) ∧
    (port7 1 (fun h => { h with lastCycle := true })).hlk[(7 : Fin 8)].lastCycle = true ∧
    (let s := port7 1 (fun h => { h with prev := some poll3 })
     s.hlk[(7 : Fin 8)].prev = some poll3 ∧ hasTurn s 7 3 = true ∧
     replyMatches poll3 ⟨2, 3, 0, true, 1, 0, 4, [1, 2]⟩ = true ∧ replyMatches poll3 ⟨2, 3, 0, false, 1, 0, 4, []⟩ = true ∧
     (1 : BitVec 8).toNat = oneAbove s.hlk[(7 : Fin 8)].inSeq[3]) ∧
    (lowestCommon (getF base (P.HLK_CTRL 7) F.HLK_CTRL_ver_allow) 7).isSome = true ∧ lowestCommon 4 3 = none := by decide +kernel

/-! ## Witnesses: start-up, trust, ledger -/

/-- base in a stage of start-up. -/
def stage (n : Nat) (s : State := base) : State := setF s P.CFG_STAT F.CFG_STAT_stage n
/-- An environment without devices; its boot set reads as erased flash. -/
def env0 : StartEnv := ⟨⟨Vector.replicate 4 none, []⟩, 0, true, [], true⟩
/-- An empty section of role 2, its digest right or not. -/
def section0 (good : Bool) : Section := ⟨2, 0, 0, 0x10000, if good then sha256 [] else []⟩
/-- Section 1 under way, the last or not: streamed, and swept. -/
def streaming (last good : Bool) : State :=
  { stage 4 with cfg := { base.cfg with
      set := some env0.boot, next := 1
      sections := [⟨1, 0, 0, 0, []⟩, section0 good] ++ (if last then [] else [section0 good]) } }
def sparging (last good : Bool) : State :=
  { stage 6 with cfg := { base.cfg with
      sections := [⟨1, 0, 0, 0, []⟩, section0 good] ++ (if last then [] else [section0 good]), passRuns := true, at_ := 1 } }
theorem wit_StartUpAndSparge :
    (let s := State.reset
     (s.pwr.inReset && !s.pwr.resetNLow && !s.pwr.onVbat && !s.pwr.inWarn.getLsbD 0 && !s.pwr.inWarn.getLsbD 2) = true) ∧
    (base.pwr.inReset && !base.pwr.resetNLow) = false ∧ env0.boot.devs[0] = none ∧
    (∀ n < 8, bootStage (stage n) = n) ∧
    (∀ n ∈ [1, 2, 3], let s := { stage n with cfg := { base.cfg with set := some env0.boot, stalled := n } }
      s.cfg.stalled = n ∧ bootStage s ≠ 7 ∧ s.cfg.set = some env0.boot) ∧
    chooseManifest env0.boot (getF base P.CFG_CAPS F.CFG_CAPS_manifest) = some (2, 0xFFFFFFFF, 0xFFFFFFFF) ∧
    (stage 4).cfg.stalled = 0 ∧ (stage 3).cfg.stalled = 0 ∧
    (∀ last good : Bool, let s := streaming last good
      bootStage s = 4 ∧ s.cfg.set = some env0.boot ∧ s.cfg.sections[s.cfg.next]? = some (section0 good) ∧ s.ldg.jobs = [] ∧
      (s.cfg.next + 1 = s.cfg.sections.length ↔ last = true)) ∧
    (stage 5).ldg.held = none ∧
    32768 * getF (stage 6) P.CFG_SPARGE_CFG F.CFG_SPARGE_CFG_period * (stage 6).cfg.due ≤
      (stage 6).pwr.uptime.toNat - (stage 6).cfg.releaseTick ∧
    (∀ last good : Bool, let s := sparging last good
      spargeRuns s = true ∧ s.cfg.passRuns = true ∧ s.cfg.sections[s.cfg.at_]? = some (section0 good) ∧
      nextImage s (s.cfg.at_ + 1) = (if last then none else some 2) ∧ s.pwr.inReset = false ∧ s.tilt.code = none) := by
  decide +kernel
theorem wit_StartUpAndSparge_digests (s : State) : sha256 (bootBytes env0.boot (section0 true).src (section0 true).len) = (section0 true).digest ∧
    sha256 (bootBytes env0.boot (section0 false).src (section0 false).len) ≠ (section0 false).digest ∧
    sha256 (s.readBytes (section0 true).dst (section0 true).len) = (section0 true).digest ∧
    sha256 (s.readBytes (section0 false).dst (section0 false).len) ≠ (section0 false).digest := by
  have h : sha256 [] ≠ [] := by decide +kernel
  have hb : bootBytes env0.boot 0 0 = [] := rfl
  simp only [section0, hb, State.readBytes, if_true, Bool.false_eq_true, if_false, true_and]
  exact ⟨h, h⟩
theorem wit_StartUpAndSparge_idle (last good : Bool) : ArbiterIdle (streaming last good) ∧ ArbiterIdle (sparging last good) := by
  constructor <;> exact idle_of (by revert last good; decide +kernel) (by revert last good; decide +kernel) rfl (by revert last good; decide +kernel)
/-- base with both instances instantiated. -/
def drbgs : State := { base with sec := { base.sec with mgmt := some ⟨1, 2, 1⟩, outcome := some ⟨3, 4, 1⟩ } }
theorem wit_SignaturesAndKeys : (List.replicate 64 (0 : Byte)).length = 64 ∧ drbgs.sec.redraw = false ∧
    { drbgs with sec := { drbgs.sec with redraw := true } }.sec.redraw = true ∧ drbgs.powered 2 = true ∧
    drbgs.sec.mgmt = some ⟨1, 2, 1⟩ ∧ base.reaches (.core 7) true P.SEC_FUSE_CMD = true ∧
    base.reaches .debug true P.SEC_FUSE_CMD = true ∧ onF base P.SEC_FUSE_CMD F.SEC_FUSE_CMD_busy = false ∧
    fuseRefusal 1 base = 0 ∧ fuseRefusal 3 base ≠ 0 ∧ fuseRefusal 4 (stage 6) = 0 ∧ fuseRefusal 5 (stage 6) = 0 ∧
    fuseRefusal 2 (setF (stage 6) P.CFG_STAT F.CFG_STAT_manifest_ver 2) = 0 ∧
    fuseRefusal 3 (setReg (setReg (stage 6) P.CFG_SVN 5) (P.SEC_FUSE_DATA 0) 5) = 0 ∧
    onF (setF base P.SEC_FUSE_CMD F.SEC_FUSE_CMD_busy 1) P.SEC_FUSE_CMD F.SEC_FUSE_CMD_busy = true ∧
    (let s := { drbgs with sec := { drbgs.sec with cmd := some (4, []) } }
     s.sec.cmd = some (4, []) ∧ s.supplyHeld = false ∧ s.sec.cmdStarted = false ∧ s.sec.mgmt = some ⟨1, 2, 1⟩) ∧
    { drbgs with pwr := { drbgs.pwr with inWarn := 1 }, sec := { drbgs.sec with cmd := some (1, []) } }.sec.cmd = some (1, []) ∧
    slhTakes true [] [] = true ∧ (1 : Nat) < 65536 ∧
    { drbgs with pwr := { drbgs.pwr with inWarn := 1 } }.supplyHeld = true := by decide +kernel
/-- base with its entropy source in a state. -/
def entropic (e : Entropy) : State := { base with sec := { base.sec with entropy := e } }
theorem wit_EntropyAndOutcomes : base.powered 2 = true ∧ onF base P.SEC_STAT F.SEC_STAT_es_ok = false ∧
    (rctFails none 0 (List.replicate 81 true)) = true ∧
    (rctFails none 0 ((List.range 1024).map (fun i => i % 2 == 0)) || aptFails ((List.range 1024).map (fun i => i % 2 == 0))) = false ∧
    (rctFails none 0 (List.replicate 1024 true) || aptFails (List.replicate 1024 true)) = true ∧
    onF (setF base P.SEC_STAT F.SEC_STAT_es_ok 1) P.SEC_STAT F.SEC_STAT_es_ok = true ∧ base.sec.entropy.startFails = 0 ∧
    (∀ n ∈ [1, 2], (entropic { base.sec.entropy with startFails := n }).sec.entropy.startFails = n) ∧
    onF base P.SEC_RAW_CTRL F.SEC_RAW_CTRL_enable = false ∧
    onF (setF base P.SEC_RAW_CTRL F.SEC_RAW_CTRL_enable 1) P.SEC_RAW_CTRL F.SEC_RAW_CTRL_enable = true ∧
    (entropic { base.sec.entropy with raw := List.replicate 31 true }).sec.entropy.raw.length = 31 ∧
    (let e := { base.sec.entropy with run := 80, last := true }
     81 ≤ (if 0 < e.run ∧ e.last = true then e.run + 1 else 1)) ∧
    (let e := { base.sec.entropy with n := 1023, firstCount := 831, first := true }
     832 ≤ (if e.n = 0 then 0 else e.firstCount) + b2n ((if e.n = 0 then true else e.first) == true) ∧ e.n + 1 = 1024) ∧
    (let s := { base with sec := { base.sec with inst := some [[1], [2], [3]], entropy := { base.sec.entropy with passed := List.replicate 640 true } } }
     640 ≤ s.sec.entropy.passed.length ∧ s.sec.entropy.pool = [] ∧ s.sec.inst = some [[1], [2], [3]]) ∧
    (entropic { base.sec.entropy with pool := [[1], [2], [3], [4]] }).sec.entropy.pool = [[1], [2], [3], [4]] ∧
    base.sec.inst = none ∧ base.sec.entropy.pool = [] ∧
    persistent { base.sec.entropy with fails := [65536, 2, 1] } = true ∧
    persistent { base.sec.entropy with fails := [65537, 2, 1] } = false ∧
    640 ≤ (List.replicate 640 true).length ∧ base.sec.entropy.pool.length < 8 ∧
    onF base P.SEC_STAT F.SEC_STAT_drbg_inst = false ∧
    base.reaches (.core 7) true P.SEC_DRBG_REQ = true ∧ base.tilted = false ∧ tilted.tilted = true ∧
    onF base (own 7 P.SEC_DRBG_PSTAT) F.SEC_DRBG_PSTAT_busy = false ∧
    (let s := setF drbgs P.SEC_STAT F.SEC_STAT_drbg_inst 1
     onF s P.SEC_STAT F.SEC_STAT_drbg_inst = true ∧ s.sec.outcome.isSome = true ∧ reseedDue s = false ∧
     reseedDue (setF s P.SEC_DRBG_CFG F.SEC_DRBG_CFG_reseed 1) = true ∧
     { s with sec := { s.sec with entropy := { s.sec.entropy with pool := [[1]] } } }.sec.entropy.pool = [[1]] ∧ s.sec.entropy.pool = [] ∧
     { s with sec := { s.sec with reqs := [(7, 16)] } }.sec.reqs = [(7, 16)]) ∧
    base.reaches .debug true P.SEC_DRBG_CFG = true ∧ base.reaches (.core 7) false (P.SEC_DRBG_OUT 15) = true ∧
    onF base (own 7 P.SEC_DRBG_PSTAT) F.SEC_DRBG_PSTAT_ready = false ∧
    onF (setF base (own 7 P.SEC_DRBG_PSTAT) F.SEC_DRBG_PSTAT_ready 1) (own 7 P.SEC_DRBG_PSTAT) F.SEC_DRBG_PSTAT_ready = true := by
  decide +kernel
/-- base with the store ready, and core 0 having staged meter 1023 for game 5. -/
def store : State := setF base P.LDG_STAT F.LDG_STAT_ready 1
def staged : State :=
  setReg (setF (setF store (own 0 (P.LDG_MEV_M 0)) F.LDG_MEV_M_en 1) (own 0 (P.LDG_MEV_M 0)) F.LDG_MEV_M_meter 1023)
    (own 0 P.LDG_MEV_GAME_LO) 5
theorem wit_Meters : base.reaches (.core 7) true P.LDG_MEV_CMD = true ∧ onF base (own 7 P.LDG_MEV_STAT) F.LDG_MEV_STAT_busy = false ∧
    staged.powered 1 = true ∧ staged.ldg.jobs = [] ∧ mevResult 0 1 staged = 1 ∧ mevResult 0 2 staged = 1 ∧
    mevResult 1 1 staged ≠ 1 ∧ stagedEntries 0 staged = [(1023, 0)] ∧ staged.supplyHeld = false ∧ base.pwr.eclipseDue = false ∧
    { base with pwr := { base.pwr with eclipseDue := true } }.pwr.eclipseDue = true ∧
    onF (setF base (own 7 P.LDG_MEV_STAT) F.LDG_MEV_STAT_busy 1) (own 7 P.LDG_MEV_STAT) F.LDG_MEV_STAT_busy = true ∧
    { staged with ldg := { staged.ldg with events := [(0, 1)] } }.ldg.events = [(0, 1)] ∧
    base.reaches (.core 7) false P.LDG_METER_LO = true ∧ base.reaches (.core 7) false P.LDG_MEV_SEQ_LO = true := by decide +kernel
theorem wit_LedgerStore : base.powered 1 = true ∧ base.supplyHeld = false ∧
    (setLdg { base.ldg with jobs := [.write (.cell 0 1)] } base).ldg.jobs = [.write (.cell 0 1)] ∧
    (dirAhead base (writeBank (.cell 0 1))).free.drop 3 ≠ [] ∧ (dirAhead base (writeBank (.cell 0 1))).free.drop 64 = [] ∧
    floorRuns base = false ∧ base.flr.full = false ∧
    (let s := { stage 5 with ldg := { base.ldg with held := some ⟨1, 1, 0, 0, 0, 0, 1, false, []⟩ } }
     s.ldg.held = some ⟨1, 1, 0, 0, 0, 0, 1, false, []⟩ ∧ s.ldg.jobs = [] ∧ storeOpen s = false ∧ bootStage s = 5 ∧ s.powered 1 = true) ∧ storeOpen store = true ∧ store.supplyHeld = false ∧
    (let r : LedgerRec := ⟨1, 1, 0, 0, 0, 0, 1, false, []⟩
     let s := { store with ldg := { store.ldg with held := some r }, sec := drbgs.sec }
     s.ldg.held = some r ∧ s.ldg.jobs = [] ∧ slotFree s (nextSlot s) = true ∧ s.sec.mgmt = some ⟨1, 2, 1⟩) ∧
    (getReg base P.LDG_DOOR_LVL).getLsbD 9 ≠ true ∧
    (let s := setReg base P.LDG_DOOR_CFG 0xFFFFFFFF
     ((getReg s P.LDG_DOOR_CFG).getLsbD 9 && (decide ((9 : Nat) < 8) || true)) = true ∧ s.ldg.pd0.length < 32 ∧
     (setLdg { s.ldg with pd0 := List.replicate 32 ⟨1, 0, 0, 0⟩ } s).ldg.pd0.length = 32 ∧
     doorTilts 0 s = true) ∧
    (let s := { store with ldg := { store.ldg with pd0 := [⟨1, 0, 0, 0⟩] } }
     s.ldg.pd0 = [⟨1, 0, 0, 0⟩] ∧ floorRuns s = false ∧ s.flr.full = false ∧ doorTilts 0 s = false) := by decide +kernel

/-- The MRAM of one committed record, of boot 1 in slot 0, its last granule v (R399). -/
def recorded (v : BitVec 256) : State :=
  setLdg { store.ldg with
    mram := [(slotGranule 0 + 350, sealedGranule [0x5452444C, 1, 0, 0, 0, 0, 0]), (slotGranule 0 + 351, v)]
    newest := some ⟨557, 1, []⟩ } store
/-- The record's hash. -/
def recHash : List Byte := sha256 ((slotBytes (recorded 0) 0 346).take 11056)
theorem recorded_bytes (v : BitVec 256) : slotBytes (recorded v) 0 346 = slotBytes (recorded 0) 0 346 := by
  have h : ∀ i ∈ List.range 346, natToLe 32 (mramAt (recorded v) (slotGranule 0 + i)).toNat =
      natToLe 32 (mramAt (recorded 0) (slotGranule 0 + i)).toNat := by
    intro i hi
    have hi := List.mem_range.mp hi
    have h1 : 352 * 0 + 350 ≠ 352 * 0 + i := by omega
    have h2 : 352 * 0 + 351 ≠ 352 * 0 + i := by omega
    simp only [mramAt, recorded, setLdg, Tab.get, Tab.find, slotGranule, if_neg h1, if_neg h2]
  simp only [slotBytes, granuleBytes, List.flatMap_def, List.map_congr_left h]
theorem recorded_head (v : BitVec 256) : mramAt (recorded v) (slotGranule 0 + 350) =
    sealedGranule [0x5452444C, 1, 0, 0, 0, 0, 0] := by
  simp [mramAt, recorded, setLdg, Tab.get, Tab.find]
theorem recorded_tail (v : BitVec 256) : mramAt (recorded v) (slotGranule 0 + 351) = v := by
  simp [mramAt, recorded, setLdg, Tab.get, Tab.find, slotGranule]
theorem recorded_seal : gWord (sealedGranule [0x5452444C, 1, 0, 0, 0, 0, 0]) 0 = 0x5452444C ∧
    granuleOk (sealedGranule [0x5452444C, 1, 0, 0, 0, 0, 0]) = true ∧
    gWord (sealedGranule [0x5452444C, 1, 0, 0, 0, 0, 0]) 2 = 0 ∧
    gWord (sealedGranule [0x5452444C, 1, 0, 0, 0, 0, 0]) 1 = 1 := by decide +kernel
theorem recorded_hash (v : BitVec 256) : sha256 ((slotBytes (recorded v) 0 346).take 11056) = recHash := by
  rw [recorded_bytes, recHash]
theorem recorded_slot : slotRecord (recorded (BitVec.ofNat 256 (leToNat recHash))) 0 = some ⟨0, 1, recHash⟩ := by
  obtain ⟨h1, h2, h3, h4⟩ := recorded_seal
  have ht := recorded_tail (BitVec.ofNat 256 (leToNat recHash))
  have hh := recorded_hash (BitVec.ofNat 256 (leToNat recHash))
  have h0 := recorded_head (BitVec.ofNat 256 (leToNat recHash))
  generalize recHash = x at *
  unfold slotRecord
  simp only [h0, ht, hh, h1, h2, h3, h4]
  rw [if_pos ⟨trivial, trivial, trivial⟩, if_pos trivial]
theorem recorded_acked (v : BitVec 256) : (recorded v).ldg.acked = 0 := by
  show store.ldg.acked = 0
  decide +kernel
theorem slot_taken (v : BitVec 256) (hr : slotRecord (recorded v) 0 = some ⟨0, 1, recHash⟩) :
    nextSlot (recorded v) = 0 ∧ slotFree (recorded v) 0 = false := by
  refine ⟨rfl, ?_⟩
  unfold slotFree
  rw [hr]
  show decide (1 ≤ (recorded v).ldg.acked) = false
  rw [recorded_acked]
  rfl
/-- The state with that record, its last granule holding the record's hash. -/
def withRecord : State := recorded (BitVec.ofNat 256 (leToNat recHash))
theorem wit_LedgerStore_slotTaken : nextSlot withRecord = 0 ∧ slotFree withRecord 0 = false ∧ withRecord.ldg.jobs = [] :=
  ⟨(slot_taken _ recorded_slot).1, (slot_taken _ recorded_slot).2, rfl⟩

/-! ## Witnesses: the floor link -/

/-- The link running in a session under a version, port 0 up, a buffer of 4 MiB. -/
def floor (session version : Nat) (s : State := base) : State :=
  let s := setF (setF s P.FLR_STAT F.FLR_STAT_running 1) P.FLR_STAT F.FLR_STAT_link0 1
  setF (setF (setF s P.FLR_STAT F.FLR_STAT_session session) P.FLR_STAT F.FLR_STAT_version version) P.FLR_BUF F.FLR_BUF_size 64
theorem slot_blank (v : BitVec 256) (n : Nat) (h : n ≠ 0) : slotRecord (recorded v) n = none := by
  have h1 : 352 * 0 + 350 ≠ 352 * n + 350 := by omega
  have h2 : 352 * 0 + 351 ≠ 352 * n + 350 := by omega
  have h3 : mramAt (recorded v) (slotGranule n + 350) = 0 := by
    simp only [mramAt, recorded, setLdg, Tab.get, Tab.find, slotGranule, if_neg h1, if_neg h2, Option.getD]
  unfold slotRecord
  rw [h3]
  have h4 : gWord 0 0 ≠ 0x5452444C := by decide
  rw [if_neg (fun x => h4 x.1)]
theorem wit_FloorSession_resend : oldestRecord withRecord = some ⟨0, 1, recHash⟩ := by
  have hs : slotRecord withRecord 0 = some ⟨0, 1, recHash⟩ := recorded_slot
  have ha : withRecord.ldg.acked = 0 := recorded_acked _
  have hf : (List.range 558).filterMap (slotRecord withRecord) =
      (List.range 558).filterMap (fun n => if n = 0 then some ⟨0, 1, recHash⟩ else none) := by
    apply List.filterMap_congr
    intro n _
    by_cases h : n = 0
    · rw [h, hs, if_pos rfl]
    · rw [if_neg h]; exact slot_blank _ n h
  have hg : (List.range 558).filterMap (fun n => if n = 0 then some (⟨0, 1, recHash⟩ : Newest) else none) =
      [⟨0, 1, recHash⟩] := by
    rw [List.range_succ_eq_map, List.filterMap_cons, if_pos rfl, List.filterMap_map,
      List.filterMap_eq_nil_iff.mpr (fun n _ => by simp)]
  unfold oldestRecord
  rw [hf, hg, ha]
  rfl
theorem wit_FloorSession : base.reaches .debug true P.FLR_CTRL = true ∧
    getF base P.FLR_CTRL F.FLR_CTRL_active = getF base P.FLR_STAT F.FLR_STAT_port ∧
    onF base P.FLR_CTRL F.FLR_CTRL_run = floorRuns base ∧ floorRuns base = false ∧ floorBufferOk base = true ∧
    (let s := setF base P.FLR_BUF F.FLR_BUF_size 64
     floorBufferOk (setF (setF s P.FLR_BUF F.FLR_BUF_base 0xFFFF) P.MEM_CFG F.MEM_CFG_channels 0) = false) ∧
    bootStage base ≠ 7 ∧ bootStage (stage 7) = 7 ∧ floorRuns (stage 7) = false ∧ floorUp base = false ∧
    (let s := setF (floor 2 3) P.FLR_CTRL F.FLR_CTRL_run 1
     onF s P.FLR_CTRL F.FLR_CTRL_run = floorRuns s ∧ floorRuns s = true ∧ floorUp s = true ∧
     getF s P.FLR_CTRL F.FLR_CTRL_active = getF s P.FLR_STAT F.FLR_STAT_port ∧
     onF s P.FLR_STAT (floorLinkFld 1) = false ∧ onF (setF s P.FLR_STAT F.FLR_STAT_link1 1) P.FLR_STAT (floorLinkFld 1) = true) ∧
    floorSession (floor 1 0) = 1 ∧ floorSession (floor 2 1) = 2 ∧
    [(⟨0x20, [], some 7⟩ : FloorMsg)].find? (fun x => decide (x.msg = some 7)) = some ⟨0x20, [], some 7⟩ := by decide +kernel
/-- A datagram without its tag, and with the tag that the link expects. -/
def gram (type_ : Nat) (body : List Byte) (s : State) : FloorDatagram :=
  let d : FloorDatagram := ⟨1, 0, 1, 0, 0, 0, body, []⟩
  { d with tag := floorTag s (datagramBytes type_ d) }
theorem gram_tag (type_ : Nat) (body : List Byte) (s : State) :
    (gram type_ body s).tag = floorTag s (datagramBytes type_ (gram type_ body s)) := rfl
/-- A datagram of a type whose version the link has is taken. -/
theorem gram_taken (type_ : Nat) (body : List Byte) (s : State) (h1 : floorRuns s = true) (h2 : floorUp s = true)
    (h3 : getReg s P.LDG_BOOTCNT = 0) (h4 : s.flr.lastHost = none)
    (h5 : ¬floorVersion (setFlr { s.flr with lastHost := some 0 } s) < typeVersion type_) :
    floorAccept type_ (gram type_ body s) s = (true, setFlr { s.flr with lastHost := some 0 } s) := by
  have h : (gram type_ body s).seq = 0 := rfl
  unfold floorAccept
  simp only [h1, h2, gram_tag, h, h3, h4]
  simp [h5]
theorem wit_FloorHost (type_ : Nat) (ht : type_ ∈ [2, 0x80, 0x81, 0x82]) (body : List Byte) :
    ∃ d s u, floorAccept type_ d (floorQuiet s) = (true, u) ∧ floorSession s = 2 := by
  have h : ∀ t ∈ [2, 0x80, 0x81, 0x82], ¬floorVersion (setFlr { (floorQuiet (floor 2 3)).flr with lastHost := some 0 }
      (floorQuiet (floor 2 3))) < typeVersion t := by decide +kernel
  exact ⟨_, floor 2 3, _, gram_taken type_ body (floorQuiet (floor 2 3)) (by decide +kernel) (by decide +kernel)
    (by decide +kernel) (by decide +kernel) (h type_ ht), by decide +kernel⟩
theorem wit_FloorHost_hello (body : List Byte) :
    ∃ d s u, floorAccept 2 d (floorQuiet s) = (true, u) ∧ floorSession s = 1 ∧
      highestCommon (getF s P.FLR_CTRL F.FLR_CTRL_ver_allow) 1 = some 1 ∧
      highestCommon (getF s P.FLR_CTRL F.FLR_CTRL_ver_allow) 0 = none := by
  exact ⟨_, floor 1 0, _, gram_taken 2 body (floorQuiet (floor 1 0)) (by decide +kernel) (by decide +kernel) (by decide +kernel)
    (by decide +kernel) (by decide +kernel), by decide +kernel, by decide +kernel, by decide +kernel⟩
/-- The link with a host key. -/
def keyed : State := setFlr { (floor 2 3).flr with hostKey := some (1, []) } (floor 2 3)
theorem gram_whole (type_ : Nat) (body : List Byte) (s : State) : floorWhole [gram type_ body s] = true := rfl
/-- Fragments that are all taken make a message; whether its signature verifies is the conclusion's case. -/
theorem wit_FloorHost_signed (type_ : Nat) (ht : type_ ∈ [0x83, 0x84]) (body : List Byte) :
    ∃ s u ds, floorAcceptAll type_ ds (floorQuiet s) = (true, u) ∧ floorWhole ds = true ∧
      s.flr.hostKey = some (1, []) ∧ s.powered 2 = true := by
  have h : ∀ t ∈ [0x83, 0x84], ¬floorVersion (setFlr { (floorQuiet keyed).flr with lastHost := some 0 } (floorQuiet keyed)) <
      typeVersion t := by decide +kernel
  have hg := gram_taken type_ body (floorQuiet keyed) (by decide +kernel) (by decide +kernel) (by decide +kernel)
    (by decide +kernel) (h type_ ht)
  refine ⟨keyed, setFlr { (floorQuiet keyed).flr with lastHost := some 0 } (floorQuiet keyed), [gram type_ body (floorQuiet keyed)], ?_, gram_whole type_ body (floorQuiet keyed), by decide +kernel,
    by decide +kernel⟩
  unfold floorAcceptAll
  rw [hg]
  rfl
theorem wit_FloorHost_rejected : floorRuns base = false ∧ floorRuns (floor 2 3) = true ∧ floorUp (floor 2 3) = true ∧
    floorWhole [] = false ∧ (floor 2 3).flr.hostKey = none ∧ floorAcceptAll 0x83 [] (floorQuiet (floor 2 3)) = (true, floorQuiet (floor 2 3)) := by
  decide +kernel
/-- D0's export queue with an entry, and an open game. -/
def exported (rc : Bool) (s : State) : State :=
  let s := setClu 0 { s.clu[(0 : Fin 4)] with export_ := [⟨0, rc, true, 0, 0, List.replicate 32 0⟩] } s
  setLdg { s.ldg with game := some 5 } s
theorem wit_FloorReports : base.clu[(0 : Fin 4)].export_ = [] ∧
    (exported true (floor 2 3)).clu[(0 : Fin 4)].export_ ≠ [] ∧ floorRuns (exported true (floor 2 3)) = true ∧
    (floor 2 3).powered (pdComposer (0 : Fin 4)) = true ∧ (floor 2 3).flr.full = false ∧
    floorSession (exported true (floor 1 0)) ≠ 2 ∧ floorVersion (exported true (floor 2 1)) < 2 ∧
    (exported false (floor 2 1)).ldg.game = some 5 ∧ base.ldg.game = none ∧
    (floor 2 1).flr.use + 40 + 64 ≤ floorSize (floor 2 1) ∧
    floorSize (setF (floor 2 1) P.FLR_BUF F.FLR_BUF_size 0) < (floor 2 1).flr.use + 40 + 64 ∧
    (floor 2 1).flr.items.length < 5999 ∧
    floorVersion (floor 2 2) = 2 ∧
    (let s := { floor 2 2 with sec := { drbgs.sec with ckpt := some [] }, flr := { (floor 2 2).flr with ckpt := some [] } }
     floorRuns s = true ∧ s.powered 2 = true ∧ s.flr.ckpt = some [] ∧ s.sec.ckpt = some [] ∧ s.sec.mgmt = some ⟨1, 2, 1⟩ ∧
     s.flr.use + ([] : List Byte).length + sigLen 1 ≤ floorSize s) := by decide +kernel
/-- A part of 5,999 items. -/
def fullPart (s : State) : State := setFlr { s.flr with items := List.replicate 5999 (List.replicate 40 0) } s
theorem fullPart_of {s : State} (hq : s.flr.queue = []) (hz : floorSize s = 4194304) :
    (fullPart s).flr.items.length = 5999 ∧ (∀ x ∈ (fullPart s).flr.items, x.length = 40) ∧
    (fullPart s).flr.use + 40 ≤ floorSize (fullPart s) := by
  have hs : floorSize (fullPart s) = floorSize s := rfl
  refine ⟨List.length_replicate, fun x hx => ?_, ?_⟩
  · rw [List.eq_of_mem_replicate hx]
    exact List.length_replicate
  · rw [hs, hz]
    unfold Flr.use
    rw [show (fullPart s).flr.queue = [] from hq, show (fullPart s).flr.items.length = 5999 from List.length_replicate]
    split <;> simp
theorem wit_FloorReports_part : (fullPart (floor 2 1)).flr.items.length = 5999 ∧
    (∀ x ∈ (fullPart (floor 2 1)).flr.items, x.length = 40) ∧
    (fullPart (floor 2 1)).flr.use + 40 ≤ floorSize (fullPart (floor 2 1)) :=
  fullPart_of (by decide +kernel) (by decide +kernel)

/-! ## Witnesses: power -/

theorem wit_DomainSwitching : base.reaches .debug true P.PWR_DOM_REQ0 = true ∧ base.reaches .debug true P.PWR_DOM_REQ1 = true ∧
    domRefusal (wanted false 0xFFFFFFFE base) base = 3 ∧ domRefusal (wanted false 0xFFEFFFFF base) base = 1 ∧
    (let s := { base with pwr := { base.pwr with doms := base.pwr.doms &&& ~~~(domBit 12 ||| domBit 16 ||| domBit 30) } }
     domRefusal (wanted false 0xBFFFEFFF s) s = 2) ∧
    domRefusal (wanted false 0xFFFFFFF7 { base with pwr := { base.pwr with toOn := 1 } }) { base with pwr := { base.pwr with toOn := 1 } } = 5 ∧
    domRefusal (wanted false 0xFFFFFFF7 base) base = 0 ∧
    nextOff { base with pwr := { base.pwr with toOff := domBit 3 } } = some 3 ∧
    nextOn { offDom 3 with pwr := { (offDom 3).pwr with toOn := domBit 3 } } = some 3 ∧ nextOn base = none ∧
    nextOff { base with pwr := { base.pwr with toOff := domBit 27 } } = none := by decide +kernel
theorem wit_EclipseAndReset : base.reaches .debug true P.PWR_CMD = true ∧
    onF (setF base P.LDG_STAT F.LDG_STAT_pending 1) P.LDG_STAT F.LDG_STAT_pending = true ∧
    onF base P.LDG_STAT F.LDG_STAT_pending = false ∧
    onF (setF base P.SEC_FUSE_CMD F.SEC_FUSE_CMD_busy 1) P.SEC_FUSE_CMD F.SEC_FUSE_CMD_busy = true ∧
    onF base P.SEC_FUSE_CMD F.SEC_FUSE_CMD_busy = false ∧ base.supplyHeld = false ∧
    { base with pwr := { base.pwr with inWarn := 4 } }.supplyHeld = true ∧ base.pwr.causeFresh = false ∧
    { base with pwr := { base.pwr with mode := .eclipse, wakeDue := some 15 } }.pwr.mode = .eclipse ∧
    (let s := { setF base P.PWR_WAKE_EN F.PWR_WAKE_EN_wake_pin 1 with pwr := { base.pwr with mode := .eclipse } }
     s.pwr.mode = .eclipse ∧ s.pwr.wakeDue = none ∧ onF s P.PWR_WAKE_EN F.PWR_WAKE_EN_wake_pin = true) ∧
    base.pwr.mode ≠ .eclipse := by decide +kernel
theorem wit_ClocksAndRtc : pllStopped .mem base = false ∧ pllMayStop .mem base = false ∧
    (let s := setReg { base with cores := State.reset.cores } P.PWR_DOZE_EN 0xF
     pllStopped .cpu s = false ∧ pllMayStop .cpu s = true ∧ pllMayStop .audio s = true ∧
     pllMayStop .comp { s with pwr := { s.pwr with stopped := 9 } } = true ∧
     pllMayStop .mem (setF { s with pwr := { s.pwr with stopped := 11 } } P.MEM_SR_STAT F.MEM_SR_STAT_in_sr (populated s)) = true) ∧
    base.pwr.restarting &&& 4 = 0 ∧
    (let s := { base with pwr := { base.pwr with restarting := 4, linkLocked := 8 } }
     s.pwr.restarting &&& 4 ≠ 0 ∧ s.pwr.linkLocked.getLsbD 3 = true ∧ s.pwr.linkStarting.getLsbD 3 = false ∧
     { s with pwr := { s.pwr with linkStarting := 8 } }.pwr.linkStarting.getLsbD 3 = true ∧ getF s (P.DSP_CTRL 3) F.DSP_CTRL_mode = 0 ∧
     trainingRuns s 3 = false) ∧
    (let s := { irq40 (fun c => { c with halted := true }) with irq := { base.irq with latches := [(40, true)] } }
     wakesCore 40 s = true ∧ Tab.get s.irq.latches false 40 = true) ∧ wakesCore 41 base = false ∧
    (let s := setF (setF (setSrcBit (P.INT_PEND_SET 0) 98 true (setSrcBit (P.INT_EN_SET 0) 98 true (irq40 (fun c => { c with halted := true })))) (P.INT_SRC_CFG 98) F.INT_SRC_CFG_target 1) (P.INT_SRC_CFG 98) F.INT_SRC_CFG_prio 5
     wakesCore 98 s = true) ∧
    (let s := setReg (setF base P.PWR_WAKE_EN F.PWR_WAKE_EN_alarm_en 1) P.PWR_ALARM_LO 1
     onF s P.PWR_WAKE_EN F.PWR_WAKE_EN_alarm_en = true ∧ s.pwr.rtc.toNat < alarmTime s ∧ alarmTime s ≤ (s.pwr.rtc + 1).toNat) ∧
    33 ≤ getF (setF base P.MON_CFG F.MON_CFG_hold 33) P.MON_CFG F.MON_CFG_hold ∧
    { base with pwr := { base.pwr with alarmDue := true, mode := .eclipse } }.pwr.alarmDue = true ∧
    onF (setF base P.PWR_WAKE_EN F.PWR_WAKE_EN_wake_alarm 1) P.PWR_WAKE_EN F.PWR_WAKE_EN_wake_alarm = true ∧
    base.reaches .debug true P.PWR_RTC_SET_HI = true ∧ base.reaches (.core 0) true P.PWR_RTC_SET_HI = true := by decide +kernel
theorem wit_SuppliesAndVbat : (∀ r ∈ [Rail.core, .vio, .vddq], base.pwr.inWarn &&& railBit r = 0 ∧ railBit r &&& railBit r ≠ 0) ∧
    base.powered 1 = true ∧ { base with pwr := { base.pwr with holdLeft := some 0 } }.pwr.holdLeft = some 0 ∧
    base.pwr.inWarn = 0 ∧ base.pwr.holdDue = false ∧ base.pwr.eclipseDue = false ∧ { base with pwr := { base.pwr with eclipseDue := true } }.pwr.eclipseDue = true ∧
    { base with pwr := { base.pwr with onVbat := true } }.pwr.onVbat = true ∧ storeOpen store = true ∧
    base.pwr.onVbat = false ∧ base.pwr.holdLeft ≠ some 0 := by decide +kernel

/-! ## Further witnesses: the cores -/

theorem wit_IntegerInstructions_unary : executes hdr (unLen (.imm32 2 0)) accNone base = true := by decide +kernel
/-- A stack in the core's own Y RAM, and one in shared SRAM. -/
theorem wit_StackInstructions_places :
    (∀ w : Bool, multiStop 1 w [.addrImm 0x7F] (atSp 0xFFFF8000).cores[(1 : CoreId)] (atSp 0xFFFF8000) 0xFFFF8000 2 = none ∧
      multiStop 1 w [.addrImm 0x80] (atSp 0x1000).cores[(1 : CoreId)] (atSp 0x1000) 0x1000 2 = none) ∧
    executes (hdrP [.addrImm 0x7F]) 4 accStack (atSp 0xFFFF8000) = true ∧
    (5 : Reg) ≠ spReg ∧ (0x30 : BitVec 16) ≠ 0 ∧ (0x30 : BitVec 16).getLsbD 14 = false ∧
    (maskRegs 0x30)[1]? = some 5 := by decide +kernel
/-- C1 with MON_CFG's port in g1, which the I/O space makes its address. -/
def atPort (p : Word) (s : State := base) : State := s.setCore 1 { upCore with g := upCore.g.set 1 p }
theorem wit_InputOutput_addr : let s := atPort (BitVec.ofNat 32 P.MON_CFG); let m : MemOp := ⟨2, 1, .postInc⟩
    executes (hdrP [.io]) (ioLen (.addr m)) (ioAccepts (.addr m)) s = true ∧ opWidth (hdrP [.io]).pfx = 4 ∧
    ioDefined false (hdrP [.io]) (.addr m) = true ∧ ioDefined true (hdrP [.io]) (.addr m) = true ∧
    ioPort (hdrP [.io]) s.cores[(1 : CoreId)] (.addr m) = P.MON_CFG ∧ s.portOn P.MON_CFG = true ∧
    ioStop 1 true P.MON_CFG s = none ∧ ioStop 1 false P.MON_CFG s = none ∧ plainPort P.MON_CFG = true ∧
    (specOf P.MON_CFG).any (fun r => decide (s.cores[(1 : CoreId)].g[(2 : Reg)] &&& r.reserved = 0)) = true ∧
    m.mode.updates = true ∧ (MemOp.mk 2 1 .base).mode.updates = false := by decide +kernel
theorem wit_InputOutput_abs : executes hdr (ioLen (.abs 2 (BitVec.ofNat 24 P.MON_CFG))) (ioAccepts (.abs 2 (BitVec.ofNat 24 P.MON_CFG))) base = true ∧
    ioDefined true hdr (.abs 2 (BitVec.ofNat 24 P.MON_CFG)) = true ∧ ioStop 1 true P.MON_CFG base = none ∧
    (offDom 38).portOn P.FLR_CTRL = false ∧ ioStop 1 true P.FLR_CTRL (offDom 38) = none ∧
    executes hdr (ioLen (.abs 2 (BitVec.ofNat 24 P.FLR_CTRL))) accIoAbs (offDom 38) = true := by decide +kernel
theorem wit_ExceptionsAndFaults_forms :
    isaForm (.add (hdrP [.width8]) (.reg 4 2 3)) = some (hdrP [.width8], 3, accNone, true) ∧
    (true && prefixesOk accNone (hdrP [.width8]).pfx && (hdrP [.width8]).cond != 15) = false ∧
    isaForm (.ret ⟨1, 1, []⟩) = some (⟨1, 1, []⟩, 1, accNone, true) ∧ condHolds 1 base.cores[(1 : CoreId)] = false ∧
    base.issues 1 = true ∧ base.cores[(1 : CoreId)].breaks.contains (some base.cores[(1 : CoreId)].pc) = false ∧
    base.cores[(1 : CoreId)].stepping = false ∧ base.cores[(1 : CoreId)].watchHit = none ∧
    base.fetchFault 1 base.cores[(1 : CoreId)].pc (instrLen ⟨1, 1, []⟩ 1) = none ∧
    (let s := setF base P.MEM_CFG F.MEM_CFG_channels 0
     s.issues 1 = true ∧ (s.fetchFault 1 s.cores[(1 : CoreId)].pc (instrLen ⟨1, 1, []⟩ 1)).isSome = true) ∧
    (c1 (fun c => { c with sr := 0x40 })).cores[(1 : CoreId)].ex = true := by decide +kernel
theorem wit_ExceptionsAndFaults_io : let s := atPort 0x10002
    executes (hdrP [.io]) (ioLen (.addr ⟨2, 1, .base⟩)) (ioAccepts (.addr ⟨2, 1, .base⟩)) s = true ∧
    ioStop 1 true (ioPort (hdrP [.io]) s.cores[(1 : CoreId)] (.addr ⟨2, 1, .base⟩)) s = some .alignment := by decide +kernel
theorem wit_CoreControlAndDebug_ports : isOwn 0xF00 = true ∧ (offDom 38).portOn P.FLR_CTRL = false ∧
    (offDom 38).powered 39 = true ∧ isOwn P.MON_CFG = false ∧ base.portOn P.MON_CFG = true := by decide +kernel
theorem wit_CachesAndPrivatePins_dirty : let s := { base with l2 := [(64, ⟨[1], true⟩)] }
    Tab.find s.l2 64 = some ⟨[1], true⟩ ∧ portTakes 8 false s = true ∧
    (∀ e ∈ upCore.privPast, 0 < e.1) := by decide +kernel
/-- C1 with a locked store of its own before requester 8's other requests. -/
def locking : State := setRequester 8 ⟨[⟨0, some [1], true, 0, 0, parkTag + 2⟩], none, [], none, []⟩ base
theorem wit_InterruptTaking_lock : lockWaits 1 locking = true ∧ wakes locking 1 = false := by decide +kernel
theorem wit_ClaimsAndCompletions_pins : (∀ s ∈ [base, { base with pwr := { base.pwr with mode := .eclipse } }], edgeComes 130 s = true ∧
      asyncSource 130 = true ∧ hasLine 1 130 = true ∧ Tab.get s.irq.lines false 130 ≠ true) ∧
    (let s := setF (setReg { base with pwr := { base.pwr with mode := .eclipse } } P.PWR_WAKE_EN (F.PWR_WAKE_EN_wake_gpio.mask)) (P.INT_SRC_CFG 130) F.INT_SRC_CFG_edge 1
     onF s P.PWR_WAKE_EN F.PWR_WAKE_EN_wake_gpio = true ∧ s.pwr.mode = .eclipse ∧ s.pwr.wakeDue = none ∧ edgeComes 130 s = true ∧
     (∃ r ∈ [true, false], edgeQualifies 130 r s = true)) ∧
    base.cpuClock = true ∧ base.powered 11 = true ∧
    (let s := { base with irq := { base.irq with lines := [(40, true)] } }
     edgeSource 40 = false ∧ asyncSource 40 = false ∧ unitLine s 40 = false ∧ Tab.get s.irq.lines false 40 = true) := by decide +kernel
theorem wit_SelfTests_clock : (setReg base P.SYS_LST_REQ 0x2008).cpuClock = true ∧
    (let s := setReg store P.SYS_MBIST_CTRL 3
     storeOpen s = true ∧ s.supplyHeld = false ∧ s.powered 1 = true ∧ onF s P.SYS_MBIST_CTRL F.SYS_MBIST_CTRL_mram = true) ∧
    storeOpen (setReg base P.SYS_MBIST_CTRL 3) = false := by decide +kernel
theorem wit_MemoryErrors_none : base.mc.chans[(0 : Fin 4)].flights = [] ∧
    (let s := setChannel 0 { base.mc.chans[(0 : Fin 4)] with flights := [⟨8, 0x40, [1], false, false, parkTag + 2⟩] } base
     s.mc.chans[(0 : Fin 4)].flights = [⟨8, 0x40, [1], false, false, parkTag + 2⟩] ∧ memServes s = true) := by decide +kernel
theorem wit_RequestsAndGrants_owner : let s := setChannel 0 { base.mc.chans[(0 : Fin 4)] with owner := some 0 } (queued 1 base)
    s.mc.chans[(0 : Fin 4)].owner = some 0 ∧ (oldest s 0 0).isSome = true ∧ oldest s 31 0 = none := by decide +kernel

/-! ## Further witnesses: the display clusters -/

/-- D0 and D1 ganged, both running, D0's beam under way and frame 0's refresh known to both. -/
def both (f : Cluster → Cluster) (s : State) : State := setClu 1 (f s.clu[(1 : Fin 4)]) (withClu f s)
def ganged : State :=
  let s := setF (setF (clu0 1) (P.DSP_CTRL 0) F.DSP_CTRL_gang 1) (P.DSP_CTRL 1) F.DSP_CTRL_mode 1
  both (fun c => { c with taken := [band0], r0 := some 1, beam := { c.beam with running := true, refresh := 1, originRefresh := 1 } })
    (setF s (P.EPH_STAT 1) F.EPH_STAT_running 1)
theorem wit_PipelineTick_gang : gangSlave ganged 0 = false ∧ gangSlave ganged 1 = true ∧ group ganged 0 = [0, 1] ∧
    (group ganged 0).filter (fun e => seqRuns ganged e) = [0, 1] ∧ ganged.tilted = false ∧ compRuns ganged 0 = true ∧
    (∀ j ∈ [(0 : Fin 4), 1], ganged.clu[j].r0.isSome = true) ∧ (latest ganged [0, 1]).isSome = true := by decide +kernel
/-- D0 before its first frame has its refresh, its beam running or not, a band taken or not. -/
def first0 (run : Bool) (bs : List Band) : State :=
  withClu (fun c => { c with taken := bs, beam := { c.beam with running := run, refresh := 1, originRefresh := 1 } }) (clu0 1)
theorem wit_PipelineTick_first : (∀ s ∈ [first0 true [], first0 false [band0], first0 true [band0]],
      group s 0 = [0] ∧ gangSlave s 0 = false ∧ seqRuns s 0 = true ∧ s.tilted = false ∧ compRuns s 0 = true ∧
      s.clu[(0 : Fin 4)].r0 = none ∧ s.clu[(0 : Fin 4)].ticks = 0) ∧
    firstRefresh (first0 false [band0]) 0 band0 = none ∧ (firstRefresh (first0 true [band0]) 0 band0).isSome = true ∧
    band0.band = 0 ∧ band0.frame = (first0 true [band0]).clu[(0 : Fin 4)].first ∧
    workEnded (first0 true [band0]).clu[(0 : Fin 4)] = true := by decide +kernel
theorem wit_CometAndComposedBands_ok : (let b := { band0 with cmtEnable := true }
     let s := withClu (fun c => { c with fetch := some b }) (clu0 1)
     arrived (patAgainAll 0 8 (walkComets s 0 b) (0, s)) = true) ∧
    slotReady (withClu (fun c => { c with compose := some band0 }) (clu0 1)).clu[(0 : Fin 4)] band0 = true ∧
    band0.isLast = true ∧ (clu0 1).clu[(0 : Fin 4)].wbPend = [] := by decide +kernel
/-- ganged with D1's beam stopped, and with D0's too. -/
def half (run : Bool) : State :=
  setClu 1 { ganged.clu[(1 : Fin 4)] with beam := { ganged.clu[(1 : Fin 4)].beam with running := false } }
    (withClu (fun c => { c with beam := { c.beam with running := run } }) ganged)
theorem wit_BeamLines_gang : (∀ run, outputOn (half run) 1 = true ∧ (half run).tilted = false ∧
      (half run).clu[(1 : Fin 4)].beam.running = false ∧ modeOf (half run) 1 ≠ 0 ∧
      onF (half run) (P.DSP_APPLY 1) F.DSP_APPLY_arm = false ∧ gangSlave (half run) 1 = true ∧
      (half run).clu[leader (half run) 1].beam.running = run) ∧
    outputOn ganged 0 = true ∧ gangSlave ganged 0 = false ∧ ganged.tilted = false ∧ ganged.clu[(0 : Fin 4)].beam.running = true ∧
    beamGroup ganged 0 = [0, 1] ∧
    (∀ s ∈ [ganged, beam0 1, beam0 2], (beamGroup s 0).findSome? (screenAsk ((beamGroup s 0).foldl (nextLine (totalV s 0)) s)) = none) := by decide +kernel
/-- D0's raster shows the screen after a stop, which its requester does not read at once. -/
def asking : State :=
  let s := withClu (fun c => { c with beam := { c.beam with line := 1 } }) (setF (beam0 2) P.CFG_STAT F.CFG_STAT_stage 7)
  setChannel 0 { s.mc.chans[(0 : Fin 4)] with link := true }
    { s with cfg := { s.cfg with screenOk := true, sections := [⟨2, 0, 0, 64, []⟩] } }
theorem wit_BeamLines_asks : outputOn asking 0 = true ∧ gangSlave asking 0 = false ∧ asking.tilted = false ∧
    asking.clu[(0 : Fin 4)].beam.running = true ∧
    ((beamGroup asking 0).findSome? (screenAsk ((beamGroup asking 0).foldl (nextLine (totalV asking 0)) asking))).isSome = true := by
  decide +kernel
theorem wit_Sends_now : (let s := setReg (withClu (fun c => { c with toSend := [band0] }) (beam0 1)) (P.DSP_PACE 0) 0x1000
     oldestSend s (sendGroup s 0) = some band0 ∧ senders s 0 = [0] ∧ (sendReady s 0).isSome = true ∧ outputOn s 0 = true) ∧
    (let s := setReg (both (fun c => { c with toSend := [band0] }) ganged) (P.DSP_PACE 0) 0x1000
     gangSlave s 0 = false ∧ gangSlave s 1 = true ∧ s.tilted = false ∧ outputOn s 0 = true ∧ oldestSend s (sendGroup s 0) = some band0 ∧
     senders s 0 = [0, 1] ∧ (sendReady s 0).isSome = true ∧ (sendReady s 1).isSome = true) := by decide +kernel
theorem wit_LinkTrainingAndFaults_lines : (∀ e : Bool, let s := sends0 e
      let z := { send0 with started := if e then 5 else 35 }
      s.clu[(0 : Fin 4)].sending = some z ∧ (z.lines.map (·.1)).idxOf 0 = 0 ∧ (0 : Nat) ≤ (0 + 1) * lineSend s 0) ∧
    (clu0 1).clu[(0 : Fin 4)].sending = none ∧ rasterMode (clu0 1) 0 = false ∧
    rasterMode (clu0 2) 0 = true ∧ outputOn (clu0 2) 0 = true ∧ modeOf (clu0 2) 0 ≠ 0 := by decide +kernel
theorem wit_Digests_awaits : let w := { work0 none with frame := 5, digests := [], awaits := [(0, 0)] }
    (withClu (fun c => { c with frames := [w] }) (clu0 1)).clu[(0 : Fin 4)].frames = [w] ∧ w.awaits.contains (0, 0) = true ∧
    w.frame ≠ (slot0 false).frame ∧
    onF (setF recalls (P.DIG_CTRL 0) F.DIG_CTRL_dump 1) (P.DIG_CTRL 0) F.DIG_CTRL_dump = true := by decide +kernel
/-! ## Further witnesses: audio, DMA, counters, start-up, trust and the ledger -/

/-- A cue of a kind for a target, of a sound, and a cue whose time had passed when it was handed over. -/
def cue (kind target : Nat) (w1 : Word := 0) : Cue := ⟨0, 0, kind, target, w1, 0, 0, some (sound0 false), none, 0⟩
/-- A voice of a resident sound of 100 samples, at a place and in a stage of its envelope. -/
def voice0 (pos level : Nat) (e : Env) : Voice := ⟨{ sound0 false with sustain := 1, release := 1 }, pos, 0, level, e, 65536, 1, 1, 0, 0, none⟩
theorem wit_KettlePlay_cues : (∀ k ∈ [1, 2, 3, 4, 5, 6, 7], (cue k 1).kind = k ∧ (cue k 1).target < 2) ∧
    (cue 1 0).sound = some (sound0 false) ∧ Tab.find (voiced 0).ktl.voices 0 ≠ none ∧
    (∀ w ∈ [1, 2, 3, 4], (w : Nat) ≠ 0) ∧ base.powered 11 = true ∧
    (let q := kettle5.ktl.tones[(0 : Fin 32)]
     q.wave = 0 ∧ ({ q with wave := 1 } : Tone).wave ≠ 0 ∧ q.phase < 16777216 ∧ q.increment < 16777216) := by decide +kernel
theorem wit_KettlePlay_voices : (∀ e ∈ [Env.attack, .decay, .sustain, .release], let v := voice0 0 65536 e
      v.sound.length ≠ 0 ∧ v.pos / 65536 < v.sound.length ∧ v.level ≤ 65536 ∧ v.sound.sustain ≤ 65536 ∧ v.pos % 65536 = 0 ∧
      (voiceX kettle5 v (v.pos / 65536) (unrolled v (v.pos / 65536))).isSome = true ∧ (voiceNext v).isSome = true) ∧
    voiceNext (voice0 (99 * 65536) 65536 .sustain) = none ∧ voiceNext (voice0 0 1 .release) = none ∧
    samplesIn (sound0 false).domain 5 ≠ 0 ∧ samplesIn 1 5 ≠ 0 ∧ (3839 : Nat) < 3840 := by decide +kernel
theorem wit_KettlePlay_period : (let s := setF (setReg kettle5 P.KTL_PROBE_AT 5) P.KTL_PROBE_CTRL F.KTL_PROBE_CTRL_arm 1
     onF s P.KTL_PROBE_CTRL F.KTL_PROBE_CTRL_arm = true ∧ (getReg s P.KTL_PROBE_AT).toNat = s.ktl.next % 4294967296 ∧
     s.powered 35 = true ∧ s.powered 36 = true ∧ s.powered 34 = true ∧ audioClock s = true) ∧
    cueDue kettle5 0 { cue 1 0 with frame := 1 } = false ∧ 0 < bridgeLen 0 ∧
    getF (cued 3) P.KTL_SND F.KTL_SND_count = 0 := by decide +kernel

/-- Channels 31 and 30 in MOVEs. -/
def two (s : State) : State := setCh 30 s.dma[(31 : Fin 32)] (setF (setF s (P.DMA_CH_STAT 30) F.DMA_CH_STAT_state 1) (P.DMA_CH_FIFO 30) F.DMA_CH_FIFO_size 1)
theorem wit_DmaRegisters_turns : (let s := chan [0x32F05, 0, 0, 0] (fun c => { c with drain := some .finish, last := some 0x2000 })
     dmaOn s = true ∧ s.dma[(31 : Fin 32)].last = some 0x2000 ∧ writesWait 31 s = false ∧ nextServed s = some 31 ∧
     s.region 0x2000 = .dram ∧
     served 31 (setCh 0 { DmaChannel.reset with moved := none } (setF s (P.DMA_CH_STAT 0) F.DMA_CH_STAT_state 1)) = false) ∧
    (chan [] (fun c => { c with drain := some .signal })).dma[(31 : Fin 32)].last = none := by decide +kernel
theorem wit_DmaPrograms_served : (∀ w ∈ [[0x31, 0x1000, 0x2000, 0x20], [2, 5, 0, 0], [7, 0, 0, 0], [8, 0, 0, 0], [0x46, 0, 0, 0]],
      nextServed (chan w) = some 31 ∧ (chan w).dma[(31 : Fin 32)].fetched = false) ∧
    (∀ s ∈ [chan [3, 0x20, 0xFFFFFFE0, 0] (fun c => { c with loops := [(1, 2)] }), chan [0x13F04, 0, 0, 0], chan [0x32F05, 0, 0, 0],
      chan [0x16, 0x2000, 0, 0] (fun c => { c with check := some (.crc 0) })], nextServed s = some 31) ∧
    served 31 (moving 0 (fun c => { c with allowance := some 0 })) = false ∧
    (let s := setChannel 0 { base.mc.chans[(0 : Fin 4)] with link := true } (moving 0)
     nextServed s = some 31 ∧ 0 < readReady s 31 0x20 ∧
     (match engineRead 31 (chSp s 31 + 0) s with | .error _ => true | .ok _ => false) = true ∧ moveStop 31 0x20 s = none) ∧
    (let s := chan [0x16, 0x2000, 0, 0] (fun c => { c with check := some (.crc 0), fetched := true })
     s.dma[(31 : Fin 32)].fetched = true ∧ s.dma[(31 : Fin 32)].moved = none ∧ nextServed s = some 31 ∧
     engineStop true 0x2000 32 s = none ∧
     served 31 { setCh 0 { DmaChannel.reset with moved := none } (setF s (P.DMA_CH_STAT 0) F.DMA_CH_STAT_state 1) with dmaLast := 31 } = false) := by
  decide +kernel
theorem wit_DmaPrograms_turn : (let s := chan [0x16, 0x2000, 0, 0] (fun c => { c with check := some (.crc 0) })
     ∀ m : Fin 32, m ≠ 31 → requestReady s m = false) ∧
    (let s := setF (chan [0x16, 0x2000, 0, 0] (fun c => { c with check := some (.crc 0) })) (P.DMA_CH_STAT 0) F.DMA_CH_STAT_state 1
     (0 : Fin 32) ≠ 31 ∧ requestReady s 0 = true ∧ nextServed { s with dmaLast := 30 } = some 31) := by decide +kernel
theorem requestReady_free {s : State} {m : Fin 32} (h1 : s.dma[m].moved = none) (h2 : s.dma[m].fetched = false) (f : Nat) :
    requestReady { s with free := f } m = requestReady s m := by
  simp only [requestReady, h1, h2]
  rfl
theorem wit_DmaPrograms_ready_free (m : Fin 32) :
    (chan [0x16, 0x2000, 0, 0] (fun c => { c with check := some (.crc 0) })).dma[m].moved = none ∧
    (chan [0x16, 0x2000, 0, 0] (fun c => { c with check := some (.crc 0) })).dma[m].fetched = false := by
  revert m; decide +kernel
theorem wit_PerformanceCounters_stopped :
    (let s := setF (setF (setF base P.PMC_CTRL F.PMC_CTRL_enable 1) (P.PMC_CFG 0) F.PMC_CFG_en 1) (P.PMC_CFG 0) F.PMC_CFG_event 0x30
     s.cpuClock = true ∧ pmcCounts s 0 0x30 0 = true ∧ pmcChained s 0 = false ∧
     { s with pwr := { s.pwr with stopped := 1 } }.cpuClock = false) := by decide +kernel
theorem wit_HetoPorts_table : base.reaches .debug true (P.HLK_TBL 7) = true ∧ base.reaches .debug true (P.HLK_RX_TAIL 7) = true ∧
    (port7 1 (fun h => { h with stopping := true })).hlk[(7 : Fin 8)].stopping = true ∧ bootStage base ≠ 7 := by decide +kernel
theorem wit_StartUpAndSparge_record : trainingRuns (stage 5) 0 = false ∧
    (let s := { streaming true true with regs := (setF (streaming true true) P.LDG_STAT F.LDG_STAT_ready 1).regs }
     storeOpen s = true ∧ s.ldg.counted = false ∧ bootStage s = 4) ∧
    storeOpen (streaming true true) = false ∧
    (let s := { sparging true false with tilt := ⟨some 0x3801⟩ }
     s.tilt.code = some 0x3801 ∧ s.cfg.at_ = 1 ∧ spargeRuns s = true ∧ s.cfg.passRuns = true) := by decide +kernel
theorem wit_SignaturesAndKeys_redraw : { drbgs with sec := { drbgs.sec with redraw := true, mgmt := some ⟨1, 2, 65536⟩ } }.sec.redraw = true ∧
    { drbgs with sec := { drbgs.sec with mgmt := some ⟨1, 2, 65536⟩ } }.sec.entropy.pool = [] ∧ drbgs.sec.redraw = false := by decide +kernel
theorem wit_EntropyAndOutcomes_low :
    (let s := setF (setF drbgs P.SEC_STAT F.SEC_STAT_drbg_inst 1) P.SEC_DRBG_CFG F.SEC_DRBG_CFG_pr 1
     let s := { s with sec := { s.sec with reqs := [(7, 16), (6, 1)], entropy := { s.sec.entropy with pool := [[1]] } } }
     onF s P.SEC_DRBG_CFG F.SEC_DRBG_CFG_pr = true ∧ reseedDue s = true ∧ s.sec.reqs = [(7, 16), (6, 1)] ∧
     s.sec.entropy.pool = [[1]]) := by decide +kernel
/-- A commit that ends a game with a dip due behind it. -/
def dip : LogEvent := ⟨4, 0, 0, 0⟩
theorem wit_Meters_held : (let s := { staged with ldg := { staged.ldg with events := [(1, 1)], dipsDue := [(1, dip)] } }
     s.ldg.events = [(1, 1)] ∧ s.ldg.dipsDue = [(1, dip)] ∧ s.ldg.jobs = [] ∧ mevResult 1 1 s ≠ 1 ∧ storeOpen s = true ∧ s.powered 1 = true ∧
     s.supplyHeld = false ∧ { s with pwr := { s.pwr with inWarn := 1 } }.supplyHeld = true) ∧ floorRuns staged = false ∧
    staged.flr.full = false ∧ staged.ldg.dipsDue = [] ∧ 2 * (stagedEntries 0 staged).length + 8 ≤ 10 := by decide +kernel
/-- base with a list of the store's work. -/
def work (js : List Job) (s : State := base) : State := setLdg { s.ldg with jobs := js } s
theorem wit_LedgerStore_work : (∀ js ∈ [[.write (.ctl false .sealMark), .write (.ctl true .sealMark), .mark (.sealed none)],
      [.write (.ctl true .sealMark), .mark (.sealed none)],
      [.write (.cell 0 1), .mark (.logged 5 dip), .mark (.moved 3)], [Job.write (.cell 0 1)]],
      (work js).powered 1 = true ∧ (work js).supplyHeld = false ∧ (work js).ldg.jobs = js) ∧
    doorTilts 3 (setReg (stage 6) P.LDG_DOOR_CFG 0xFFFFFFFF) = true ∧ bootStage (setReg (stage 6) P.LDG_DOOR_CFG 0xFFFFFFFF) = 6 ∧
    doorTilts 3 base = false ∧ base.tilt.code = none ∧ base.pwr.inReset = false ∧
    (GWrite.cell 0 1) ≠ .ctl false .sealMark ∧ (GWrite.cell 0 1) ≠ .ctl true .sealMark := by decide +kernel
theorem wit_LedgerStore_lost : (∀ n ∈ [0, 3], let s := setF store P.LDG_PD0_CNT F.LDG_PD0_CNT_lost n
      storeOpen s = true ∧ s.supplyHeld = false ∧ s.ldg.jobs = [] ∧ s.ldg.pd0 = [] ∧ getF s P.LDG_PD0_CNT F.LDG_PD0_CNT_lost = n) ∧
    drbgs.sec.redraw = false ∧ (352 : Nat) ≤ 352 ∧
    (let s := { stage 5 with ldg := { base.ldg with held := some ⟨2, 1, 0, 0, 0, 0, 1, false, []⟩ } }
     s.ldg.held = some ⟨2, 1, 0, 0, 0, 0, 1, false, []⟩) := by decide +kernel
theorem wit_FloorSession_speaks : floorSpeaks (floor 2 3) = true ∧ floorSpeaks (floor 3 3) = false ∧
    (let s := setF (setF (floor 2 3) P.FLR_STAT F.FLR_STAT_link1 1) P.FLR_CTRL F.FLR_CTRL_run 1
     onF s P.FLR_STAT (floorLinkFld 0) = true ∧ onF s P.FLR_STAT (floorLinkFld 1) = true ∧ getF s P.FLR_STAT F.FLR_STAT_port = 0 ∧
     getF s P.FLR_CTRL F.FLR_CTRL_active = getF s P.FLR_STAT F.FLR_STAT_port ∧ onF s P.FLR_CTRL F.FLR_CTRL_run = floorRuns s) ∧
    (∀ p : Fin 2, ∃ l : FloorLine, l.port = p ∧ l.pcs = floorMode base p.val) ∧ base.powered 38 = true ∧
    (offDom 38).powered 38 = false ∧ onF base P.FLR_STAT (floorLinkFld 0) = false ∧
    (∃ l : FloorLine, l.port = 0 ∧ l.pcs ≠ floorMode base 0) ∧
    (let s := setFlr { (floor 1 0).flr with helloDue := true } (setF (floor 1 0) P.FLR_STAT F.FLR_STAT_link0 0)
     floorRuns s = true ∧ floorSession s = 1 ∧ s.flr.helloDue = true ∧ onF s P.FLR_STAT (floorLinkFld 0) = false ∧
     onF s P.FLR_STAT (floorLinkFld 1) = false ∧ floorUp s = false) ∧
    floorUp (floor 2 3) = true ∧
    (∃ q : NeighbourQuery, q.target[0] = getReg (floor 2 3) (P.FLR_ADDR 0) ∧ ∀ k : Fin 4, q.target[k] = getReg (floor 2 3) (P.FLR_ADDR k.val)) ∧
    onF base P.FLR_STAT (floorLinkFld 0) = false ∧
    (let s := setF (floor 2 3) P.FLR_STAT F.FLR_STAT_link0 0
     floorBufferOk s = true) := by
  refine ⟨by decide +kernel, by decide +kernel, by decide +kernel, fun p => ⟨⟨p, floorMode base p.val⟩, rfl, rfl⟩, by decide +kernel,
    by decide +kernel, by decide +kernel, ⟨⟨0, !floorMode base 0⟩, rfl, by decide +kernel⟩, by decide +kernel, by decide +kernel,
    ⟨⟨#v[getReg (floor 2 3) (P.FLR_ADDR 0), getReg (floor 2 3) (P.FLR_ADDR 1), getReg (floor 2 3) (P.FLR_ADDR 2), getReg (floor 2 3) (P.FLR_ADDR 3)],
      #v[0, 0, 0, 0], []⟩, rfl, by decide +kernel⟩, by decide +kernel, by decide +kernel⟩
theorem wit_FloorReports_requester : floorSession (exported false (floor 1 0)) ≠ 2 ∧
    (List.replicate 32 (0 : Byte)).length = 32 ∧ (exported false (floor 1 0)).ldg.game = some 5 ∧
    (floor 1 0).flr.use + 40 + 64 ≤ floorSize (floor 1 0) ∧ drbgs.sec.redraw = false := by decide +kernel
theorem wit_EclipseAndReset_ticks : (let s := { base with pwr := { base.pwr with resetNLow := true, resetNTicks := 2 } }
     s.pwr.resetNLow = true ∧ s.pwr.resetNTicks = 2 ∧ s.pwr.onVbat = false) ∧
    (let s := { base with pwr := { base.pwr with resetNLow := true } }
     s.pwr.resetNLow = true ∧ s.pwr.resetNTicks ≠ 2) ∧
    (let s := { setF base P.PWR_WAKE_EN F.PWR_WAKE_EN_wake_pin 1 with pwr := { base.pwr with eclipseDue := true } }
     s.pwr.mode ≠ .eclipse ∧ onF s P.PWR_WAKE_EN F.PWR_WAKE_EN_wake_pin = true ∧ s.pwr.eclipseDue = true ∧ s.pwr.wakeDue = none) := by
  decide +kernel
theorem wit_ClocksAndRtc_writes : (BitVec.ofNat 24 P.PWR_DOZE_EN).toNat = P.PWR_DOZE_EN ∧ base.reaches .debug true P.PWR_DOZE_EN = true ∧
    (let s := setF { floor 2 2 with pwr := { base.pwr with uptime := 32768 * 3600 * 24 * 40 } } P.FLR_TIMING F.FLR_TIMING_ckpt 1
     s.pwr.resetNLow = false ∧ floorRuns s = true ∧ floorSession s = 2 ∧ 2 ≤ floorVersion s ∧
     getF s P.FLR_TIMING F.FLR_TIMING_ckpt ≠ 0 ∧ s.flr.periods < periodsPassed s ∧ s.flr.ckpt = none) ∧
    (98 : Nat) ≤ 98 ∧ (∃ n : Fin 512, wakesCore n.val base = false) ∧
    { base with pwr := { base.pwr with holdDue := true } }.pwr.holdDue = true ∧
    { base with pwr := { base.pwr with holdLeft := some 3 } }.pwr.holdLeft = some (2 + 1) := by
  refine ⟨by decide +kernel, by decide +kernel, by decide +kernel, by decide, ⟨41, by decide +kernel⟩, rfl, rfl⟩
theorem wit_SuppliesAndVbat_cmds :
    (let s := { base with sec := { base.sec with cmd := some (1, []), cmdStarted := true } }
     s.sec.cmd = some (1, []) ∧ s.pwr.inWarn &&& railBit .core = 0 ∧ s.supplyHeld = false) ∧
    (let s := { store with pwr := { base.pwr with holdLeft := some 0 }, ldg := { store.ldg with dips := [dip] } }
     s.pwr.holdLeft = some 0 ∧ s.pwr.inWarn = 0 ∧ s.pwr.holdDue = false ∧ s.pwr.eclipseDue = false ∧ s.ldg.dipsDue = [] ∧
     s.ldg.events = [] ∧ storeOpen s = true) ∧
    (let s := { store with pwr := { base.pwr with holdLeft := some 0 }, ldg := { store.ldg with dips := [dip], events := [(0, 1)] } }
     s.ldg.dipsDue = [] ∧ s.ldg.events ≠ []) := by decide +kernel
/-- withRecord with the link in a session. -/
def linkedRecord : State := floor 2 3 withRecord
theorem wit_FloorHost_known (body : List Byte) : storeOpen linkedRecord = true ∧ ackAhead linkedRecord < 1 ∧
    slotRecord linkedRecord 0 = some ⟨0, 1, recHash⟩ ∧
    ∃ d u, d.body = body ∧ floorAccept 0x81 d (floorQuiet linkedRecord) = (true, u) := by
  refine ⟨by decide +kernel, by decide +kernel, recorded_slot, _, _, rfl, gram_taken 0x81 body (floorQuiet linkedRecord)
    (by decide +kernel) (by decide +kernel) (by decide +kernel) (by decide +kernel) (by decide +kernel)⟩

/-! ## Single steps and single computations whose results stand in the spec -/

theorem test_add_imm8_sign_extends : let o := exec (.add hdr (.imm8 2 0xFF)) (withG 1 0)
    gOf 2 o = some 0 ∧ srOf o = some 0x06 ∧ pcOf o = some (upCore.pc + 3) := by decide +kernel
theorem test_sub_borrows : let o := exec (.sub hdr (.imm8 2 1)) (withG 0 0)
    gOf 2 o = some 0xFFFFFFFF ∧ srOf o = some 0x0A := by decide +kernel
theorem test_shl_by_32 : let o := exec (.shl hdr (.imm8 2 32)) (withG 1 0)
    gOf 2 o = some 0 ∧ srOf o = some 0x06 := by decide +kernel
theorem test_asr_by_255 : let o := exec (.asr hdr (.imm8 2 255)) (withG 0x80000000 0)
    gOf 2 o = some 0xFFFFFFFF ∧ srOf o = some 0x0A := by decide +kernel
theorem test_divs_by_zero : let o := exec (.divs hdr (.reg 4 2 3)) (withG 7 0)
    gOf 4 o = some 0 ∧ srOf o = some 0x05 := by decide +kernel
theorem test_divs_overflow : let o := exec (.divs hdr (.reg 4 2 3)) (withG 0x80000000 0xFFFFFFFF)
    gOf 4 o = some 0x80000000 ∧ srOf o = some 0x09 := by decide +kernel
theorem test_mulhs_of_minus_ones : gOf 4 (exec (.mulhs hdr (.reg 4 2 3)) (withG 0xFFFFFFFF 0xFFFFFFFF)) = some 0 := by
  decide +kernel
theorem test_clz_of_zero : gOf 4 (exec (.clz hdr 4 2) (withG 0 0)) = some 32 := by decide +kernel
theorem test_mva_narrows : let s := c1 (fun c => { c with ac := c.ac.set 0 (BitVec.ofInt 72 (-40960000)) })
    let o := exec (.mva hdr ⟨2, 0, 0⟩ 14) s
    gOf 2 o = some 0xFFFFF63C ∧ srOf o = some 0x08 := by decide +kernel
/-- A0 running with pointers g2 and g3 into its X and Y RAMs, which hold 8,192 and 1,000. -/
def audio : State :=
  let s := base.setCore 8 { upCore with g := (upCore.g.set 2 0x100).set 3 0x3FFC }
  (s.writeBytes (ramKey 8 0x7FFFFF0100) [0x00, 0x20]).writeBytes (ramKey 8 0x7FFFFFBFFC) [0xE8, 0x03]
theorem test_mpy_halfwords : (nextOf (exec (.mpy ⟨8, 0, [.width16]⟩ ⟨2, 3, 0, 1, 1⟩) audio)).map (fun t =>
      let c := t.cores[(8 : CoreId)]
      (c.ac[(0 : Fin 4)], c.g[(2 : Reg)], c.g[(3 : Reg)])) = some (8192000, 0x102, 0x3FFE) := by decide +kernel
theorem test_st_with_extension : let s := c1 (fun c => { c with g := (c.g.set 4 0x34580).set 5 0x14C8 })
    (nextOf (exec (.st (hdrP [.addrImm 0x80]) ⟨5, 4, .d8 0x1C⟩) s)).map (fun t => t.readBytes 0x800003459C 4) =
      some [0xC8, 0x14, 0, 0] := by decide +kernel
theorem test_branch_back : pcOf (exec (.branch ⟨1, 2, []⟩ (.short 0xFA)) (c1 (fun c => { c with pc := 0x1000 }))) =
    some 0xFFC := by decide +kernel
theorem test_ei_in_user_mode : let s := c1 (fun c => { c with sr := 0x10, pc := 0x1000 })
    let o := exec (.ei hdr 0) (setReg s (P.SYS_VBASE 1) 0x4000)
    pcOf o = some 0x4020 ∧ regIn (P.SYS_XPC 1) o = some 0x1000 ∧ regIn (P.SYS_XCAUSE 1) o = some 1 := by decide +kernel
theorem test_in_of_the_device_id : gOf 2 (exec (.ioIn hdr (.abs 2 0)) base) = some 0x00217140 := by decide +kernel

theorem test_three_ports : domainOf 0x1A8054 = some 13 ∧ specOf 0x1A8054 = specOf (P.CMP_STAT 1) ∧
    (specOf 0x1A8054).isSome = true ∧ audioReaches 8 0x1A8054 = false ∧ specOf 0x11F004 = none ∧
    ioStop 2 false 0x250010 base = some .access := by decide +kernel

theorem test_coin_pulse :
    let s := setReg (setReg base (P.TMR_CAPCTRL 2) 0x707) (P.TMR_CTRL 2) 0x771
    let s := setTmr 2 { s.tmr[(2 : Fin 16)] with count := 1000000 } s
    let s := (nextOf (exec (.timerCapture 2 (.pin true)) s)).getD base
    let s := setTmr 2 { s.tmr[(2 : Fin 16)] with count := 1005000, since := some 5000 } s
    let o := exec (.timerCapture 2 (.pin false)) s
    regIn (P.TMR_CAPR_LO 2) o = some 0xF4240 ∧ regIn (P.TMR_CAPF_LO 2) o = some 0xF55C8 ∧
    regIn (P.TMR_WIDTH 2) o = some 0x1388 ∧ regIn (P.TMR_STAT 2) o = some 0xC := by decide +kernel
/-- Sources 51, 68 and 36 of the chapter's example, 51 pending. -/
def nest : State :=
  let s := (base.setCore 5 upCore)
  let s := setReg (setReg s (P.INT_SRC_CFG 51) 0x56) (P.INT_SRC_CFG 68) 0x56
  setSrcBit (P.INT_PEND_SET 0) 51 true (setSrcBit (P.INT_EN_SET 0) 51 true s)
theorem test_claim_word : (nextOf (exec (.intClaim 5) nest)).map (fun t => (t.rdata, runPrio t 5)) = some (0x6033, 6) := by
  decide +kernel
/-- Four channels, DRAM ready, self-refresh enabled and every tolerance the longest. -/
def quiet : State :=
  let s := setF (setF base P.MEM_CFG F.MEM_CFG_channels 2) P.MEM_STAT F.MEM_STAT_init_done 1
  let s := setF (setF s P.MEM_SR_CFG F.MEM_SR_CFG_enable 1) P.MEM_LTR_SW F.MEM_LTR_SW_tolerance 0xFFFF
  (List.range 4).foldl (fun s d => setReg s (P.MEM_LTR_D d) 0xFFFF) (setReg s P.MEM_LTR_KTL 0xFFFF)
theorem test_self_refresh_word : regIn P.MEM_SR_STAT (exec .selfRefreshEntry quiet) = some 0x0001000F := by decide +kernel
theorem test_supply_warning_counts : regIn P.MON_CNT (exec (.supplyWarning .core) base) = some 1 := by decide +kernel

theorem test_straight_plane_pixel : expand 1 0xFFC6464320 = ⟨800, 400, 100, 1023⟩ ∧ scale8 1023 128 = 513 ∧
    (Rgba.word ⟨800, 400, 100, 513⟩) % 4294967296 = 0x46464320 := by decide +kernel
theorem test_filter_tap_sum : filterSum [2, -10, 36, 144, 400, -64, 8, -4] [200, 200, 220, 300, 700, 720, 720, 700] = 559 := by
  decide +kernel
/-- Comet 6,700's context. -/
def ctx6700 : Ctx := [0x85F03E84, 0x05F02858, 0x06000000, 0x00107E3F, 0xAAB, 0x0AAB0000, 0, 0x14C8]
theorem test_comet_6700 : ctxOk ctx6700 = true ∧ cometDx 0 ctx6700 1050 = 804 ∧ cometDy 0 ctx6700 650 = 80 ∧
    cometSource ctx6700 804 80 = some (33, 3) ∧ expand 4 0xB42060F0 = ⟨963, 385, 128, 722⟩ ∧
    scale8 (mul10 963 722) 200 = 533 ∧
    cometBlend ctx6700 ⟨533, 213, 71, 566⟩ (Rgba.word ⟨100, 300, 500, 600⟩ + 2 * 1099511627776) =
      Rgba.word ⟨578, 347, 294, 834⟩ + 5 * 1099511627776 := by decide +kernel
theorem test_blend_to_the_bit : outputWord false ⟨676, 444, 237, 1023⟩ 1000 650 = 0x0ED6F2A4 ∧
    outputWord true ⟨676, 444, 237, 1023⟩ 1000 650 = 0x003B6EA8 ∧ ditherM 2 0 = 3 := by decide +kernel

theorem test_crc_check_value : crc32c [0x31, 0x32, 0x33, 0x34, 0x35, 0x36, 0x37, 0x38, 0x39] = 0xE3069283 := by decide +kernel
theorem test_sha_of_abc : (sha256 [0x61, 0x62, 0x63]).take 4 = [0xBA, 0x78, 0x16, 0xBF] := by decide +kernel
theorem test_blit_complete :
    let s := setReg (setF (setF base P.BLT_STAT F.BLT_STAT_busy 1) P.BLT_TAIL F.BLT_TAIL_index 6) P.BLT_HEAD 5
    regIn P.BLT_HEAD (exec .blitComplete s) = some 6 := by decide +kernel
theorem test_security_minimum_rows :
    let s := { base with sec := { base.sec with svnRows := [1, 3], cmd := some (3, [5, 0]), cmdStarted := true } }
    let s := setF (setReg s (P.SEC_FUSE_DATA 0) 5) P.SEC_FUSE_CMD F.SEC_FUSE_CMD_busy 1
    (nextOf (exec (.fuseCommandEnd true) s)).map (fun t => t.sec.svnRows) = some [1, 3, 5] := by decide +kernel
end Sys2Proof.Tests
end

section
/-! SUPPORT. Sets of power domains: which domains a switch may take away or add, and what the loss of a domain leaves. -/
namespace Sys2Proof.Machine

/-! Sets of power domains that hold each domain's needs. -/

theorem domBit_getLsbD {d : Nat} (h : d < 40) (n : Nat) : (domBit d).getLsbD n = decide (d = n) := by
  rw [domBit, BitVec.getLsbD_ofNat, Nat.one_shiftLeft, Nat.testBit_two_pow]
  by_cases e : d = n
  · subst e; simp [h]
  · simp [e]

theorem domainsClosed_of_check {set : BitVec 40}
    (h : ∀ d, d < 40 → set.getLsbD d = true → ∀ n ∈ needs d, set.getLsbD n = true) : DomainsClosed set :=
  fun d n hd hs hn => h d hd hs n hn

theorem domainsClosed_reset : DomainsClosed Power.reset.doms := domainsClosed_of_check (by decide)

theorem domainsClosed_eclipse : DomainsClosed 3 := domainsClosed_of_check (by decide)

/-- A domain comes on whose needs are all on. -/
theorem domainsClosed_add {set : BitVec 40} {d : Nat} (h : DomainsClosed set) (hd : d < 40)
    (hn : ∀ n ∈ needs d, set.getLsbD n = true) : DomainsClosed (set ||| domBit d) := by
  intro e n he hs hm
  rw [BitVec.getLsbD_or, domBit_getLsbD hd, Bool.or_eq_true, decide_eq_true_eq] at hs
  rw [BitVec.getLsbD_or, Bool.or_eq_true]
  rcases hs with hs | rfl
  · exact .inl (h e n he hs hm)
  · exact .inl (hn n hm)

/-- A domain goes off that no domain that is on needs. -/
theorem domainsClosed_remove {set : BitVec 40} {d : Nat} (h : DomainsClosed set) (hd : d < 40)
    (hn : ∀ e, e < 40 → set.getLsbD e = true → d ∉ needs e) : DomainsClosed (set &&& ~~~domBit d) := by
  intro e n he hs hm
  rw [BitVec.getLsbD_and, Bool.and_eq_true] at hs ⊢
  have hne : d ≠ n := fun c => hn e he hs.1 (c ▸ hm)
  have hset := h e n he hs.1 hm
  refine ⟨hset, ?_⟩
  rw [BitVec.getLsbD_not, domBit_getLsbD hd, decide_eq_false hne]
  simpa using BitVec.lt_of_getLsbD hset

theorem nextOff_eq_some {s : State} {d : Nat} (h : nextOff s = some d) :
    d < 40 ∧ s.pwr.toOff.getLsbD d = true ∧ ∀ e, e < 40 → s.pwr.doms.getLsbD e = true → d ∉ needs e := by
  have hp := List.find?_some h
  have hm := List.mem_of_find?_eq_some h
  simp only [List.mem_reverse, List.mem_range] at hm
  simp only [Bool.and_eq_true, Bool.not_eq_true', anyDom, List.any_eq_false, List.mem_range, not_and,
    List.contains_iff_mem] at hp
  exact ⟨hm, hp.1, hp.2⟩

theorem nextOn_eq_some {s : State} {d : Nat} (h : nextOn s = some d) :
    d < 40 ∧ s.pwr.toOn.getLsbD d = true ∧ ∀ n ∈ needs d, s.pwr.doms.getLsbD n = true := by
  have hp := List.find?_some h
  have hm := List.mem_of_find?_eq_some h
  rw [Bool.and_eq_true, needsIn, List.all_eq_true] at hp
  exact ⟨List.mem_range.1 hm, hp.1, hp.2⟩

/-- A request that is not refused leaves the domains that change only through the power states (R443). -/
theorem domRefusal_zero_keeps {want : BitVec 40} {s : State} {d : Nat} (h : ¬domRefusal want s ≠ 0) (hd : d < 40)
    (hs : stateOnly d = true) : want.getLsbD d = s.pwr.doms.getLsbD d := by
  have hn : anyDom (fun d => stateOnly d && want.getLsbD d != s.pwr.doms.getLsbD d) = false := by
    by_contra hc
    rw [Bool.not_eq_false] at hc
    apply h
    unfold domRefusal
    dsimp only
    rw [if_pos hc]
    split <;> decide
  have := List.any_eq_false.1 hn d (List.mem_range.2 hd)
  simpa [hs] using this

theorem eclipse_powers_zero : (3 : BitVec 40).getLsbD 0 = true := by decide

theorem reset_powers_zero : Power.reset.doms.getLsbD 0 = true := by decide

/-! What the loss of a domain leaves of the power part. -/

theorem pmcLook_pwr (c : Fin 64) (s : State) : (pmcLook c s).pwr = s.pwr := by
  unfold pmcLook
  dsimp only
  split
  · show State.pwr (dite _ _ _) = _
    split <;> rfl
  · rfl

theorem pmcSettle_pwr (s : State) : (pmcSettle s).pwr = s.pwr := by
  unfold pmcSettle
  split
  · exact List.foldlRecOn (motive := fun t => t.pwr = s.pwr) _ _ rfl fun t h c _ => (pmcLook_pwr c t).trans h
  · rfl

/-- The domains that are on and those to be removed. -/
def Power.domSets (p : Power) : BitVec 40 × BitVec 40 := (p.doms, p.toOff)

/-- A step of a domain's loss leaves both sets. -/
def SameSets (s t : State) : Prop := t.pwr.domSets = s.pwr.domSets

theorem SameSets.foldl {α : Type} {f : State → α → State} (hf : ∀ t x, SameSets t (f t x)) (xs : List α) (s : State) :
    SameSets s (xs.foldl f s) :=
  List.foldlRecOn (motive := SameSets s) xs f rfl fun t h x _ => (hf t x).trans h

theorem SameSets.ite {c : Prop} [Decidable c] {s t u : State} (h1 : SameSets s t) (h2 : SameSets s u) :
    SameSets s (if c then t else u) := by split <;> assumption

theorem SameSets.dite {s : State} {c : Prop} [Decidable c] {a : c → State} {b : ¬c → State} (ha : ∀ h, SameSets s (a h))
    (hb : ∀ h, SameSets s (b h)) : SameSets s (if h : c then a h else b h) := by
  by_cases h : c
  · rw [dif_pos h]; exact ha h
  · rw [dif_neg h]; exact hb h

theorem SameSets.latchAsync (n : Nat) (s : State) : SameSets s (latchAsync n s) := by
  unfold Machine.latchAsync wakeEvent
  exact .ite (.ite rfl rfl) rfl

theorem SameSets.latchPads (pins : List Nat) (s t : State) : SameSets t (latchPads pins s t) :=
  .foldl (fun _ _ => .ite rfl (.ite (.latchAsync _ _) rfl)) _ _

theorem SameSets.settleFalls (s t : State) : SameSets t (settleFalls s t) := by
  unfold Machine.settleFalls
  refine .ite rfl (.foldl (fun _ _ => ?_) _ _)
  exact .ite rfl rfl

theorem SameSets.setUrgent (id : Nat) (b : Bool) (s : State) : SameSets s (setUrgent id b s) := by
  unfold Machine.setUrgent applyRank
  exact .ite rfl rfl

theorem SameSets.unitsLost (d : Nat) (s : State) : SameSets s (unitsLost d s) := by
  unfold Machine.unitsLost
  refine .dite (fun _ => rfl) fun _ => .dite (fun _ => ?_) fun _ => .dite (fun _ => rfl) fun _ => .ite rfl
    (.ite rfl (.ite rfl (.dite (fun _ => ?_) fun _ => .ite rfl (.ite rfl (.ite rfl (.ite rfl (.ite rfl rfl)))))))
  · exact SameSets.setUrgent _ _ _
  · exact (SameSets.setUrgent _ _ _).trans (SameSets.setUrgent _ _ _)

theorem SameSets.resetDomain (d : Nat) (s : State) : SameSets s (resetDomain d s) := by
  have h : SameSets s (Machine.unitsLost d (dropRegs (fun x => decide (x ≠ d)) s)) := SameSets.unitsLost d _
  exact (SameSets.settleFalls _ _).trans (SameSets.ite ((SameSets.latchPads _ _ _).trans h) h)

end Sys2Proof.Machine
end

section
/-! SUPPORT. The rules by which Keeps passes from the parts of an operation to the whole: one for a field set, a choice, a
fold, an outcome, and an operation that may have to wait. -/
namespace Sys2Proof.Machine

/-- The parts of the state that Keeps speaks of. -/
def State.vital (s : State) : List Instr × List (Nat × Word) × List Host.Cell × BitVec 40 × BitVec 40 × Bool × Tilt :=
  (s.pending, s.regs, s.mem, s.pwr.doms, s.pwr.toOff, s.pwr.inReset, s.tilt)

/-- A change that leaves the vital parts as they are. -/
theorem Keeps.same {s t u : State} (h : Keeps s t) (e : u.vital = t.vital) : Keeps s u := by
  simp only [State.vital, Prod.mk.injEq] at e
  obtain ⟨hp, hr, hm, hd, ho, hi, ht⟩ := e
  refine h.trans ⟨hp, fun b => ?_, fun b => ?_, fun code b => .inl ?_⟩
  · simpa only [BlockInv, hr, hm, hd, ho] using b
  · rw [hi]; exact b
  · rw [ht]; exact b

/-! One field set, outside the parts that Keeps speaks of. -/

theorem Keeps.withFree {s t : State} {x} (h : Keeps s t) : Keeps s { t with free := x } := h.same rfl

theorem Keeps.withClock {s t : State} {x} (h : Keeps s t) : Keeps s { t with clock := x } := h.same rfl

theorem Keeps.withRdata {s t : State} {x} (h : Keeps s t) : Keeps s { t with rdata := x } := h.same rfl

theorem Keeps.withL2 {s t : State} {x} (h : Keeps s t) : Keeps s { t with l2 := x } := h.same rfl

theorem Keeps.withCores {s t : State} {x} (h : Keeps s t) : Keeps s { t with cores := x } := h.same rfl

theorem Keeps.withTurn {s t : State} {x} (h : Keeps s t) : Keeps s { t with turn := x } := h.same rfl

theorem Keeps.withIrq {s t : State} {x} (h : Keeps s t) : Keeps s { t with irq := x } := h.same rfl

theorem Keeps.withLdg {s t : State} {x} (h : Keeps s t) : Keeps s { t with ldg := x } := h.same rfl

theorem Keeps.withSec {s t : State} {x} (h : Keeps s t) : Keeps s { t with sec := x } := h.same rfl

theorem Keeps.withCfg {s t : State} {x} (h : Keeps s t) : Keeps s { t with cfg := x } := h.same rfl

theorem Keeps.withMc {s t : State} {x} (h : Keeps s t) : Keeps s { t with mc := x } := h.same rfl

theorem Keeps.withPat {s t : State} {x} (h : Keeps s t) : Keeps s { t with pat := x } := h.same rfl

theorem Keeps.withClu {s t : State} {x} (h : Keeps s t) : Keeps s { t with clu := x } := h.same rfl

theorem Keeps.withKtl {s t : State} {x} (h : Keeps s t) : Keeps s { t with ktl := x } := h.same rfl

theorem Keeps.withAas {s t : State} {x} (h : Keeps s t) : Keeps s { t with aas := x } := h.same rfl

theorem Keeps.withTmr {s t : State} {x} (h : Keeps s t) : Keeps s { t with tmr := x } := h.same rfl

theorem Keeps.withPmc {s t : State} {x} (h : Keeps s t) : Keeps s { t with pmc := x } := h.same rfl

theorem Keeps.withDma {s t : State} {x} (h : Keeps s t) : Keeps s { t with dma := x } := h.same rfl

theorem Keeps.withDmaLast {s t : State} {x} (h : Keeps s t) : Keeps s { t with dmaLast := x } := h.same rfl

theorem Keeps.withBlt {s t : State} {x} (h : Keeps s t) : Keeps s { t with blt := x } := h.same rfl

theorem Keeps.withHlk {s t : State} {x} (h : Keeps s t) : Keeps s { t with hlk := x } := h.same rfl

theorem Keeps.withFlr {s t : State} {x} (h : Keeps s t) : Keeps s { t with flr := x } := h.same rfl

theorem Keeps.withPwr {s t : State} {p : Power} (h : Keeps s t) (hd : p.doms = t.pwr.doms) (ho : p.toOff = t.pwr.toOff)
    (hi : p.inReset = t.pwr.inReset) : Keeps s { t with pwr := p } :=
  h.same (by simp only [State.vital, hd, ho, hi])

theorem Keeps.setPwr {s t : State} {p : Power} (h : Keeps s t) (hd : p.doms = t.pwr.doms) (ho : p.toOff = t.pwr.toOff)
    (hi : p.inReset = t.pwr.inReset) : Keeps s (setPwr p t) := h.withPwr hd ho hi

/-- What an operation that may have to wait comes to satisfies P wherever it has come about. -/
def Granted {α : Type} (P : α → Prop) (o : Except Held α) : Prop := ∀ r, o = .ok r → P r

theorem Granted.ok {α : Type} {P : α → Prop} {r : α} (h : P r) : Granted P (.ok r) := fun _ e => by
  injection e with e; exact e ▸ h

theorem Granted.error {α : Type} {P : α → Prop} {w : Held} : Granted P (.error w) := fun _ e => nomatch e

theorem Granted.map {α β : Type} {P : α → Prop} {Q : β → Prop} {o : Except Held α} {f : α → β} (h : Granted P o)
    (hf : ∀ r, P r → Q (f r)) : Granted Q (o.map f) := by
  intro r e
  cases o with
  | error w => exact nomatch e
  | ok a => injection e with e; exact e ▸ hf a (h a rfl)

theorem Granted.bind {α β : Type} {P : α → Prop} {Q : β → Prop} {o : Except Held α} {f : α → Except Held β}
    (h : Granted P o) (hf : ∀ r, P r → Granted Q (f r)) : Granted Q (o.bind f) := by
  intro r e
  cases o with
  | error w => exact nomatch e
  | ok a => exact hf a (h a rfl) r e

theorem Granted.ite {α : Type} {P : α → Prop} {c : Prop} [Decidable c] {o p : Except Held α} (h1 : Granted P o)
    (h2 : Granted P p) : Granted P (if c then o else p) := by split <;> assumption

theorem Keeps.next {s t : State} (h : Keeps s t) : OutKeeps s (.next t) := OutKeeps.next.2 h

theorem Keeps.dite {s : State} {c : Prop} [Decidable c] {a : c → State} {b : ¬c → State} (ha : ∀ h, Keeps s (a h))
    (hb : ∀ h, Keeps s (b h)) : Keeps s (if h : c then a h else b h) := by
  by_cases h : c
  · rw [dif_pos h]; exact ha h
  · rw [dif_neg h]; exact hb h

theorem Keeps.iteSnd {α : Type} {s : State} {c : Prop} [Decidable c] {p q : α × State} (h1 : Keeps s p.2)
    (h2 : Keeps s q.2) : Keeps s (if c then p else q).2 := by split <;> assumption

theorem Keeps.ofSnd {α : Type} {s t : State} {p : α × State} {a : α} (h : Keeps s p.2) (e : p = (a, t)) : Keeps s t := by
  rw [e] at h; exact h

theorem Keeps.foldSnd {α β : Type} {f : α × State → β → α × State} {xs : List β} {s : State} {p : α × State}
    (h : Keeps s p.2) (hf : ∀ q x, Keeps s q.2 → Keeps s (f q x).2) : Keeps s (xs.foldl f p).2 :=
  List.foldlRecOn (motive := fun q => Keeps s q.2) xs f h fun q hq x _ => hf q x hq

theorem Keeps.fold {α : Type} {f : State → α → State} {xs : List α} {s t : State} (h : Keeps s t)
    (hf : ∀ u x, Keeps s u → Keeps s (f u x)) : Keeps s (xs.foldl f t) :=
  List.foldlRecOn (motive := Keeps s) xs f h fun u hu x _ => hf u x hu

theorem Keeps.iterate {f : State → State} {n : Nat} {s t : State} (h : Keeps s t) (hf : ∀ u, Keeps s u → Keeps s (f u)) :
    Keeps s (Machine.iter f n t) := by
  induction n generalizing t with
  | zero => exact h
  | succ n ih => exact ih (hf t h)

theorem OutKeeps.then {s : State} {o : Out} {f : State → State} (h : OutKeeps s o)
    (hf : ∀ u, Keeps s u → Keeps s (f u)) : OutKeeps s (Out.then o f) := by
  cases o with
  | next t => exact (hf t (h t rfl)).next
  | fault r => exact .fault r
  | refused r => exact .refused r

end Sys2Proof.Machine
end

section
/-! SUPPORT. Every operation of the model keeps what Keeps names: a lemma per operation, in the order of the model's files, up
to exec of every command but the release of device reset. -/
namespace Sys2Proof.Machine

section
variable {s₀ s : State} (hs : Keeps s₀ s)
include hs

/-! ## Sys2Proof/Machine/Regs.lean -/

theorem Keeps.tableWrite (key : Nat) (v : Word) : Keeps s₀ (tableWrite key v s) := by
  unfold Machine.tableWrite
  split
  · exact hs
  · exact hs.setReg _ _

theorem Keeps.drawCode (p : Nat) (v : Word) : Keeps s₀ (drawCode p v s) := .ite hs (.withFree hs)

theorem Keeps.codeWrite (key : Nat) (v : Word) : Keeps s₀ (codeWrite key v s) := (hs.drawCode _ _).tableWrite _ _

theorem Keeps.tableRead (key : Nat) : Keeps s₀ (tableRead key s).2 := by
  unfold Machine.tableRead
  split
  · exact hs
  · exact hs.setReg _ _

/-! ## Sys2Proof/Machine/Ops.lean -/

theorem Keeps.restartPlls (m : BitVec 4) : Keeps s₀ (State.restartPlls m s) := .withPwr hs rfl rfl rfl

theorem Keeps.audioAccess : Keeps s₀ (State.audioAccess s) := hs.restartPlls _

theorem Keeps.accessed (p : Nat) : Keeps s₀ (State.accessed p s) := .ite hs.audioAccess hs

theorem Keeps.captureEdge (i : Nat) : Keeps s₀ (State.captureEdge s i) := .ite (.withTmr hs) hs

theorem Keeps.setSrcBit (base key : Nat) (b : Bool) : Keeps s₀ (setSrcBit base key b s) := hs.setF _ _ _

theorem Keeps.setPending (key : Nat) : Keeps s₀ (setPending key s) := .ite (hs.setSrcBit _ _ _) hs

theorem Keeps.raisePrivate (k n : Nat) : Keeps s₀ (raisePrivate k n s) := hs.setPending _

theorem Keeps.wakeEvent (en : Fld) (code : Nat) : Keeps s₀ (wakeEvent en code s) := .ite (.withPwr hs rfl rfl rfl) hs

theorem Keeps.latchAsync (n : Nat) : Keeps s₀ (latchAsync n s) :=
  .ite ((hs.latchEdge _).wakeEvent _ _) (hs.latchEdge _)

/-! ## Sys2Proof/Machine/PmcBase.lean -/

theorem Keeps.pmcSet (c : Fin 64) (v : Word) : Keeps s₀ (pmcSet c v s) := .withPmc hs

theorem Keeps.pmcLook (c : Fin 64) : Keeps s₀ (pmcLook c s) := by
  unfold Machine.pmcLook
  dsimp only
  refine .ite ?_ hs
  refine Keeps.draw ?_
  split
  · exact (hs.pmcSet _ _).pmcSet _ _
  · exact hs.pmcSet _ _

theorem Keeps.pmcSettle : Keeps s₀ (pmcSettle s) := .ite (hs.fold fun _ _ hu => hu.pmcLook _) hs

/-! ## Sys2Proof/Machine/Arbiter.lean -/

theorem Keeps.setMc (m : MemCtl) : Keeps s₀ (setMc m s) := .withMc hs

theorem Keeps.setRequester (id : Nat) (r : Requester) : Keeps s₀ (setRequester id r s) :=
  .ite ((hs.setMc _).setF _ _ _) (hs.setMc _)

theorem Keeps.setChannel (c : Fin 4) (x : Channel) : Keeps s₀ (setChannel c x s) := hs.setMc _

theorem Keeps.issue (id : Nat) (r : MemReq) : Keeps s₀ (issue id r s) := hs.setRequester _ _

theorem Keeps.issueAll (id : Nat) (rs : List MemReq) : Keeps s₀ (issueAll id rs s) := hs.setRequester _ _

theorem Keeps.applyRank (id : Nat) : Keeps s₀ (applyRank id s) := .ite hs ((hs.setF _ _ _).setF _ _ _)

theorem Keeps.setUrgent (id : Nat) (b : Bool) : Keeps s₀ (setUrgent id b s) := (hs.setMc _).applyRank _

theorem Keeps.dequeue (id c : Nat) : Keeps s₀ (dequeue id c s) := hs.setRequester _ _

theorem Keeps.land (id : Nat) (r : MemReq) : Keeps s₀ (land id r s) := .ite hs (hs.setRequester _ _)

theorem Keeps.serve (c : Fin 4) (id : Nat) (r : MemReq) : Keeps s₀ (serve c id r s) := by
  unfold Machine.serve
  dsimp only
  split
  · exact (hs.writeBytes _ _).land _ _
  · exact (hs.setChannel _ _).draw

theorem Keeps.noteGrant (c : Fin 4) (id : Nat) (arbitrated : Bool) : Keeps s₀ (noteGrant c id arbitrated s) :=
  .ite ((hs.setF _ _ _).setF _ _ _) (hs.setF _ _ _)

theorem Keeps.noteOwner (c : Fin 4) : Keeps s₀ (noteOwner c s) := .ite (hs.setF _ _ _) ((hs.setF _ _ _).setF _ _ _)

theorem Keeps.grant (c : Fin 4) (id clocks : Nat) (arbitrated : Bool) : Keeps s₀ (grant c id clocks arbitrated s) := by
  unfold Machine.grant
  dsimp only
  split
  · exact hs
  · exact .ite ((((Keeps.ite (hs.pmcEvent _ _ _) hs).dequeue _ _).serve _ _ _).noteGrant _ _ _) (.ite ((((((Keeps.ite
      (hs.pmcEvent _ _ _) hs).dequeue _ _).serve _ _ _).noteGrant _ _ _).setChannel _ _).noteOwner _)
      (((((((Keeps.ite (hs.pmcEvent _ _ _) hs).dequeue _ _).serve _ _ _).noteGrant _ _ _).setChannel _ _).noteOwner
      _).applyRank _))

theorem Keeps.refresh (c : Fin 4) : Keeps s₀ (refresh c s) := by
  unfold Machine.refresh
  exact (hs.setChannel _ _).noteGrant _ _ _

theorem Keeps.arbitrate (c : Fin 4) (clocks : Nat) : Keeps s₀ (arbitrate c clocks s) := by
  unfold Machine.arbitrate
  dsimp only
  refine .ite ?_ ?_
  · split
    · exact (hs.setChannel _ _).grant _ _ _ _
    · exact hs
  · split
    · exact (hs.setChannel _ _).grant _ _ _ _
    · exact hs

theorem Keeps.slot (c : Fin 4) (clocks : Nat) : Keeps s₀ (slot c clocks s) := by
  unfold Machine.slot
  dsimp only
  refine .ite (hs.refresh _) (.ite (hs.grant _ _ _ _) ?_)
  split
  · exact .ite (hs.grant _ _ _ _) (hs.setChannel _ _)
  · exact .ite (hs.arbitrate _ _) (.ite (hs.refresh _) hs)

theorem Keeps.histMeasure (c : Fin 4) (id : Nat) (h : Fin 4) : Keeps s₀ (histMeasure c id s h) :=
  .ite (.withPmc hs) hs

theorem Keeps.deliver (c : Fin 4) (f : Flight) (rest : List Flight) : Keeps s₀ (deliver c f rest s) :=
  ((((hs.fold fun _ _ hu => hu.histMeasure _ _ _).draw).setChannel _ _).setMc _).land _ _

theorem Keeps.leaveSelfRefresh : Keeps s₀ (leaveSelfRefresh s) := .ite (hs.setF _ _ _) hs

theorem Keeps.returnLast (c : Fin 4) : Keeps s₀ (returnLast c s) := by
  unfold Machine.returnLast
  split
  · exact hs.deliver _ _ _
  · exact hs

theorem Keeps.park (h : Held) : Keeps s₀ (park h s) := by
  unfold Machine.park
  split
  · exact hs
  · exact hs.leaveSelfRefresh.issue _ _

theorem Keeps.accessAs (id a : Nat) (data : Option (List Byte)) (lock release : Bool) (owner : Nat) :
    Granted (Keeps s₀) (accessAs id a data lock release owner s) :=
  .ite (Granted.ok (hs.setRequester _ _)) (.ite Granted.error (.ite (.ite (Granted.ok (.ite
      (((hs.leaveSelfRefresh.issue _ _).slot _ _).returnLast _) ((hs.leaveSelfRefresh.issue _ _).slot _ _)))
      Granted.error) Granted.error))

theorem Keeps.dramAccess (id a : Nat) (data : Option (List Byte)) : Granted (Keeps s₀) (dramAccess id a data s) :=
  hs.accessAs _ _ _ _ _ _

theorem Keeps.dramReads (id : Nat) (as : List Nat) : Granted (Keeps s₀) (dramReads id as s) := by
  induction as generalizing s with
  | nil => exact .ok hs
  | cons a as ih => exact (hs.dramAccess id a none).bind fun _ hu => ih hu

theorem Keeps.dramRead (id a n : Nat) : Granted (Keeps s₀) (dramRead id a n s) := hs.dramReads _ _

theorem Keeps.dramWriteFrom (id n a : Nat) (bs : List Byte) : Granted (Keeps s₀) (dramWriteFrom id n a bs s) := by
  induction n generalizing a bs s with
  | zero => exact .ok hs
  | succ n ih => exact .ite (.ok hs) ((hs.dramAccess _ _ _).bind fun _ hu => ih hu _ _)

theorem Keeps.dramWrite (id a : Nat) (bs : List Byte) : Granted (Keeps s₀) (dramWrite id a bs s) :=
  hs.dramWriteFrom _ _ _ _

/-! ## Sys2Proof/Machine/DspBase.lean -/

theorem Keeps.setClu (d : Fin 4) (c : Cluster) : Keeps s₀ (setClu d c s) := .withClu hs

theorem Keeps.setBeam (d : Fin 4) (b : Beam) : Keeps s₀ (setBeam d b s) := hs.setClu _ _

theorem Keeps.reach (x : Nat) : Keeps s₀ (reach x s) := .withClock hs

theorem Keeps.declareMode (d : Fin 4) (mode : Nat) (refused : Bool) : Keeps s₀ (declareMode d mode refused s) :=
  .ite hs (.ite (hs.setReg _ _) (.ite (hs.setReg _ _) hs))

theorem Keeps.modeLive (d : Fin 4) (mode : Nat) : Keeps s₀ (modeLive d mode s) :=
  ((Keeps.ite ((hs.setF _ _ _).setF _ _ _) (hs.setF _ _ _)).setBeam _ _).declareMode _ _ _

theorem Keeps.shadowLive (d : Fin 4) : Keeps s₀ (shadowLive d s) := (hs.fold fun _ _ hu => hu.setReg _ _).modeLive _ _

theorem Keeps.timingWrite (d : Fin 4) (i : Fin 5) (v : Word) : Keeps s₀ (timingWrite d i v s) :=
  .ite ((hs.setBeam _ _).setReg _ _) (hs.setBeam _ _)

theorem Keeps.modeWrite (d : Fin 4) (mode : Nat) : Keeps s₀ (modeWrite d mode s) :=
  .ite ((hs.setBeam _ _).modeLive _ _) (hs.setBeam _ _)

theorem Keeps.startTraining (d : Fin 4) : Keeps s₀ (startTraining d s) := by
  unfold Machine.startTraining
  dsimp only
  refine .ite (hs.setF _ _ _) (.setF (.setF ?_ _ _ _) _ _ _)
  exact .withPwr (.setBeam (hs.setF _ _ _) _ _) rfl rfl rfl

theorem Keeps.loadD0 (ws : List Nat) (edp : Bool) : Keeps s₀ (loadD0 ws edp s) :=
  (((hs.fold fun _ _ hu => hu.timingWrite _ _ _).setF _ _ _).setF _ _ _).setF _ _ _

theorem Keeps.trainD0 (hdr : List Nat) : Keeps s₀ (trainD0 hdr s) := (hs.loadD0 _ _).startTraining _

theorem Keeps.stopShows : Keeps s₀ (stopShows s) :=
  .ite ((Keeps.ite (hs.loadD0 _ _) ((hs.loadD0 _ _).setF _ _ _)).modeWrite _ _) (.ite (.ite (hs.loadD0 _ _)
      ((hs.loadD0 _ _).setF _ _ _)) ((Keeps.ite (hs.loadD0 _ _) ((hs.loadD0 _ _).setF _ _ _)).startTraining _))

theorem Keeps.haltCluster (d : Fin 4) : Keeps s₀ (haltCluster d s) := ((hs.setF _ _ _).setF _ _ _).setClu _ _

/-! ## Sys2Proof/Machine/FloorBase.lean -/

theorem Keeps.setFlr (f : Flr) : Keeps s₀ (setFlr f s) := .withFlr hs

theorem Keeps.floorStore (bs : List Byte) : Keeps s₀ (floorStore bs s) := (hs.issueAll _ _).draw

theorem Keeps.floorFetch (n : Nat) : Keeps s₀ (floorFetch n s) := (hs.issueAll _ _).draw

theorem Keeps.floorPut (type_ held : Nat) (body : List Byte) : Keeps s₀ (floorPut type_ held body s) :=
  .ite hs (.ite ((hs.floorStore _).setFlr _) (hs.setFlr _))

theorem Keeps.floorMessage (type_ : Nat) (body : List Byte) : Keeps s₀ (floorMessage type_ body s) :=
  hs.floorPut _ _ _

theorem Keeps.floorPart (body : List Byte) (next : Nat) : Keeps s₀ (floorPart body next s) :=
  (hs.setFlr _).floorPut _ _ _

theorem Keeps.floorMeter (record : List Byte) (closes : Bool) : Keeps s₀ (floorMeter record closes s) :=
  .ite ((hs.floorMessage _ _).floorPart _ _) (hs.floorMessage _ _)

theorem Keeps.floorItem (game : Nat) (item : List Byte) : Keeps s₀ (floorItem game item s) :=
  .ite (hs.setFlr _) (.ite ((hs.floorStore _).setFlr _) ((hs.floorStore _).floorPart _ _))

/-! ## Sys2Proof/Machine/LedgerBase.lean -/

theorem Keeps.setLdg (l : Ledger) : Keeps s₀ (setLdg l s) := .withLdg hs

theorem Keeps.gDo (w : GWrite) : Keeps s₀ (gDo w s) := by
  unfold Machine.gDo
  dsimp only
  split
  · exact hs
  · exact hs.setLdg _
  · exact hs.setLdg _
  · exact hs.setLdg _

theorem Keeps.mevEnd (k result : Nat) : Keeps s₀ (mevEnd k result s) := ((hs.setF _ _ _).setF _ _ _).setF _ _ _

theorem Keeps.addJobs (js : List Job) : Keeps s₀ (addJobs js s) := hs.setLdg _

theorem Keeps.logEvent (e : LogEvent) : Keeps s₀ (logEvent e s) := .ite ((hs.setLdg _).addJobs _) hs

theorem Keeps.markDo (m : Mark) : Keeps s₀ (markDo m s) := by
  unfold Machine.markDo
  dsimp only
  split
  · exact hs
  · exact (((hs.setLdg _).setReg _ _).setReg _ _).floorMeter _ _
  · exact hs.mevEnd _ _
  · exact (hs.setF _ _ _).logEvent _
  · exact (Keeps.ite ((Keeps.ite ((hs.setReg _ _).setF _ _ _) (hs.setReg _ _)).setF _ _ _) (Keeps.ite ((hs.setReg _
      _).setF _ _ _) (hs.setReg _ _))).floorMessage _ _
  · exact (hs.setLdg _).setF _ _ _
  · exact hs.setLdg _
  · exact hs.setF _ _ _
  · exact hs
  · exact hs

theorem Keeps.runMarks (js : List Job) : Keeps s₀ (runMarks js s) := by
  induction js generalizing s with
  | nil => exact hs
  | cons j js ih =>
    unfold Machine.runMarks
    split
    · exact hs
    · exact hs
    · exact hs
    · next h =>
      injection h with _ hjs
      exact hjs ▸ ih ((hs.setLdg _).markDo _)
    · exact hs

theorem Keeps.runJobs (n : Nat) : Keeps s₀ (runJobs n s) := by
  induction n generalizing s with
  | zero => exact hs
  | succ n ih =>
    unfold Machine.runJobs
    dsimp only
    split
    · exact .ite (hs.runMarks _) (ih ((((hs.runMarks _).setLdg _).gDo _).runMarks _))
    · exact hs.runMarks _

theorem Keeps.dipsAhead (f : Nat → Nat) : Keeps s₀ (dipsAhead f s) := hs.setLdg _

theorem Keeps.logDue : Keeps s₀ (logDue s) := (hs.setLdg _).fold fun _ _ hu => hu.logEvent _

theorem Keeps.endQueued (result : Nat) : Keeps s₀ (endQueued result s) :=
  (((hs.fold fun _ _ hu => hu.mevEnd _ _).setLdg _).dipsAhead _).logDue

theorem Keeps.freezeMeters : Keeps s₀ (freezeMeters s) := by
  unfold Machine.freezeMeters
  dsimp only
  refine Keeps.setF ?_ _ _ _
  refine Keeps.endQueued ?_ _
  split
  · exact .ite ((hs.setLdg _).mevEnd _ _) hs
  · exact hs

theorem Keeps.ledgerTilt (code : Nat) : Keeps s₀ (ledgerTilt code s) :=
  .ite hs.freezeMeters (hs.freezeMeters.logEvent _)

theorem Keeps.countBoot : Keeps s₀ (countBoot s) := .ite (((hs.setLdg _).addJobs _).setReg _ _) hs

theorem Keeps.bootStop (code sect : Nat) : Keeps s₀ (bootStop code sect s) :=
  .ite (.ite (((Keeps.ite (((hs.stopShows.setReg _ _).setF _ _ _).countBoot) ((hs.stopShows.setReg _ _).setF _ _
      _)).logEvent _).setLdg _) (((Keeps.ite (((hs.stopShows.setReg _ _).setF _ _ _).countBoot)
      ((hs.stopShows.setReg _ _).setF _ _ _)).logEvent _).setLdg _)) ((Keeps.ite (((hs.stopShows.setReg _ _).setF
      _ _ _).countBoot) ((hs.stopShows.setReg _ _).setF _ _ _)).logEvent _)

/-! ## Sys2Proof/Machine/Tilt.lean -/

theorem Keeps.discardUnread (k : Fin 8) : Keeps s₀ (discardUnread k s) :=
  .withSec (.setF (.fold (.addF hs _ _ _) fun _ _ hu => .setReg hu _ _) _ _ _)

theorem Keeps.kettleTilt : Keeps s₀ (kettleTilt s) := .ite (.withKtl (.setF hs _ _ _)) hs

theorem Keeps.unitsSeeTilt (code : Nat) : Keeps s₀ (unitsSeeTilt code s) :=
  .ite ((((hs.kettleTilt.fold fun _ _ hu => hu.haltCluster _).fold fun _ _ hu => hu.discardUnread _).ledgerTilt
      _).bootStop _ _) (((hs.kettleTilt.fold fun _ _ hu => hu.haltCluster _).fold fun _ _ hu => hu.discardUnread
      _).ledgerTilt _)

/-- The capture of the first tilt: none stood before it. -/
theorem Keeps.captureTilt (code : Nat) (h : s.tilted = false) : Keeps s₀ (captureTilt code s) := by
  refine Keeps.unitsSeeTilt (hs.trans ?_) code
  have ht : s.tilt.code = none := by simpa [State.tilted] using h
  have hk := ((((Keeps.refl s).setReg P.SYS_TILT_LAST (BitVec.ofNat 32 (code % 65536 + 65536 * b2n (rasterCode s
    code)))).setReg
    P.SYS_TILT_TIME_LO (BitVec.ofNat 32 s.pwr.rtc.toNat)).setReg P.SYS_TILT_TIME_HI
    (BitVec.ofNat 32 (s.pwr.rtc.toNat >>> 32))).setF P.SYS_TILT F.SYS_TILT_tilted 1
  exact ⟨hk.pending, hk.block, hk.reset, fun c hc => by rw [ht] at hc; exact nomatch hc⟩

theorem Keeps.raiseTilt (code : Nat) : Keeps s₀ (raiseTilt code s) := by
  unfold Machine.raiseTilt
  split
  · exact hs
  · split
    · exact hs.addF _ _ _
    · next h => exact hs.captureTilt code (by simpa using h)

theorem Keeps.loadXaddr (k : Nat) (a : Option Nat) : Keeps s₀ (loadXaddr k a s) := by
  unfold Machine.loadXaddr
  split
  · exact hs
  · exact (hs.setReg _ _).setReg _ _

theorem Keeps.takeException (k : CoreId) (e : Exn) (xpc : Word) (xaddr : Option Nat) :
    Keeps s₀ (takeException k e xpc xaddr s) :=
  .ite ((hs.pmcSettle.setCore _ _).raiseTilt _) ((Keeps.ite (((((hs.pmcEvent _ _ _).setReg _ _).setReg _ _).setReg
      _ _).loadXaddr _ _) ((((hs.pmcEvent _ _ _).setReg _ _).setReg _ _).setReg _ _)).setCore _ _)

theorem Keeps.returnFromException (k : CoreId) : Keeps s₀ (returnFromException k s) := hs.setCore _ _

/-! ## Sys2Proof/Machine/Operands.lean -/

theorem Keeps.afterInstruction (k : CoreId) : Keeps s₀ (afterInstruction k s) := by
  unfold Machine.afterInstruction
  dsimp only
  refine .ite ?_ ?_
  · refine Keeps.setCore ?_ _ _
    split
    · exact hs
    · exact .ite ((hs.setCore _ _).setCore _ _) ((hs.setCore _ _).takeException _ _ _ _)
  · split
    · exact hs
    · exact .ite ((hs.setCore _ _).setCore _ _) ((hs.setCore _ _).takeException _ _ _ _)

theorem Keeps.agePort (k : CoreId) (old : Vector Word 4) (n : Nat) : Keeps s₀ (agePort k old n s) := hs.setCore _ _

theorem Keeps.isaWait {h : Hdr} {clk len : Nat} {a : Accepts} {d : Bool} {body : WaitBody}
    (hb : ∀ c npc u, Keeps s₀ u → Granted (OutKeeps s₀) (body c npc u)) : OutKeeps s₀ (isaWait h clk len a d body s)
      := by
  unfold Machine.isaWait
  dsimp only
  refine .ite hs.next (.ite (.ite (hs.setCore _ _).next (hs.takeException _ _ _ _).next)
    (.ite ((hs.takeException _ _ _ _).afterInstruction _).next ?_))
  split
  · exact ((hs.takeException _ _ _ _).afterInstruction _).next
  · refine .ite ((((hs.pmcEvent _ _ _).setCore _ _).agePort _ _ _).afterInstruction _).next ?_
    split
    · next o ho => exact (hb _ _ _ (hs.pmcEvent _ _ _) o ho).then fun _ hu => (hu.agePort _ _ _).afterInstruction _
    · exact (hs.park _).next

theorem Keeps.isaRun {h : Hdr} {clk len : Nat} {a : Accepts} {d : Bool} {body : Body}
    (hb : ∀ c npc u, Keeps s₀ u → OutKeeps s₀ (body c npc u)) : OutKeeps s₀ (isaRun h clk len a d body s) :=
  hs.isaWait fun c npc u hu => .ok (hb c npc u hu)

theorem Keeps.complete (k : CoreId) (c : Core) : OutKeeps s₀ (complete k c s) := (hs.setCore _ _).next

theorem Keeps.faults (k : CoreId) (e : Exn) (xaddr : Option Nat) : OutKeeps s₀ (faults k e xaddr s) :=
  (hs.takeException _ _ _ _).next

theorem Keeps.privileged {k : CoreId} {body : Body} {c : Core} {npc : Word}
    (hb : ∀ c npc u, Keeps s₀ u → OutKeeps s₀ (body c npc u)) : OutKeeps s₀ (privileged k body c npc s) :=
  .ite (hs.faults _ _ _) (hb _ _ _ hs)

/-! ## Sys2Proof/Machine/CoreMem.lean -/

theorem Keeps.stopWith (k : CoreId) (a : Nat) (st : Stop) : OutKeeps s₀ (stopWith k a st s) := by
  unfold Machine.stopWith
  split
  · exact hs.faults _ _ _
  · exact (.fault _)

theorem Keeps.l2Fill (line : Nat) : Granted (Keeps s₀) (l2Fill line s) :=
  Granted.map (Keeps.dramAccess hs _ _ _) fun _ hu => .withL2 hu

theorem Keeps.l2Touch (line : Nat) : Granted (Keeps s₀) (l2Touch line s) := by
  unfold Machine.l2Touch
  split
  · exact .ite (Granted.ok hs) (hs.l2Fill _)
  · exact hs.l2Fill _

theorem Keeps.l2Store (a : Nat) (bs : List Byte) : Granted (Keeps s₀) (l2Store a bs s) :=
  Granted.map (Keeps.l2Touch hs _) fun _ hu => .withL2 hu

theorem Keeps.lockedRead (k : CoreId) (a : Nat) : Granted (Keeps s₀) (lockedRead k a s) := by
  unfold Machine.lockedRead
  refine (hs.accessAs _ _ _ _ _ _).map fun _ hu => ?_
  split
  · exact .ite hu (.withL2 hu)
  · exact .withL2 hu

theorem Keeps.lockedWrite (a : Nat) (bs : List Byte) : Granted (Keeps s₀) (lockedWrite a bs s) := by
  unfold Machine.lockedWrite
  split
  · exact Granted.error
  · next hx0 =>
    have hv0 := (hs.accessAs _ _ _ _ _ _) _ hx0
    refine Granted.ok ?_
    split
    · exact .withL2 hv0
    · exact hv0

theorem Keeps.controlRead (k : CoreId) (a w : Nat) : Granted (fun r => Keeps s₀ r.2) (controlRead k a w s) := by
  unfold Machine.controlRead
  split
  · exact (hs.l2Touch _).map fun _ hu => hu.draw
  · exact Granted.ok hs.draw
  · exact Granted.ok hs.draw
  · exact Granted.ok hs.draw

theorem Keeps.audioRead (k : CoreId) (a w : Nat) : Keeps s₀ (audioRead k a w s).2 := by
  unfold Machine.audioRead
  dsimp only
  split
  · exact (hs.setCore _ _).draw
  · exact hs.draw
  · exact hs.draw
  · exact hs.draw

theorem Keeps.coreRead (k : CoreId) (a w : Nat) : Granted (fun r => Keeps s₀ r.2) (coreRead k a w s) :=
  .ite (hs.controlRead _ _ _) (Granted.ok (hs.audioRead _ _ _))

theorem Keeps.coreWrite (k : CoreId) (a w v : Nat) : Granted (Keeps s₀) (coreWrite k a w v s) := by
  unfold Machine.coreWrite
  split
  · exact (hs.l2Store _ _).map fun _ hu => hu.draw
  · exact Granted.ok (hs.writeBytes _ _)
  · exact Granted.ok (hs.writeBytes _ _)
  · exact Granted.ok (hs.writeBytes _ _)

theorem Keeps.coreModify (k : CoreId) (lock : Bool) (a w : Nat) (new : Nat → Option Nat) :
    Granted (fun r => Keeps s₀ r.2) (coreModify k lock a w new s) := by
  unfold Machine.coreModify
  refine .ite ((hs.lockedRead _ _).bind fun _ hu => (hu.lockedWrite _ _).map fun _ hu1 => hu1.draw) ?_
  refine (hs.coreRead _ _ _).bind fun _ hu => ?_
  split
  · exact (hu.coreWrite _ _ _ _).map fun _ hu1 => hu1
  · exact Granted.ok hu

theorem Keeps.noteAccess (k : CoreId) (a w : Nat) : Keeps s₀ (noteAccess k a w s) := .ite (hs.setCore _ _) hs

theorem Keeps.instrLine (k : CoreId) (line : Nat) : Granted (fun r => Keeps s₀ r.2) (instrLine k line s) := by
  unfold Machine.instrLine
  dsimp only
  split
  · exact Granted.ok hs.draw
  · exact .ite ((hs.l2Touch _).map fun _ hu => (hu.setCore _ _).draw) (Granted.ok ((hs.setCore _ _).draw))

theorem Keeps.instrRead (k : CoreId) (a w : Nat) : Granted (fun r => Keeps s₀ r.2) (instrRead k a w s) :=
  (hs.instrLine _ _).map fun _ hu => hu

/-! ## Sys2Proof/Machine/Bus.lean -/

theorem Keeps.noRegister (write : Bool) : Keeps s₀ (noRegister write s) := .ite hs (.withRdata hs)

theorem Keeps.gate {m : Master} {w : Bool} {p : Nat} {f : State → Out} (hf : ∀ u, Keeps s₀ u → OutKeeps s₀ (f u)) :
    OutKeeps s₀ (gate m w p f s) := by
  unfold Machine.gate
  split
  · split
    · exact (Keeps.ite (hs.takeException _ _ _ _) hs).next
    · exact .ite (hf s hs) (hs.noRegister w).next
  · exact .ite (hf s hs) (hs.noRegister w).next

/-! ## Sys2Proof/Machine/Pixels.lean -/

theorem Keeps.palSet (d : Fin 4) (n : Nat) (v : BitVec 40) : Keeps s₀ (palSet d n v s) := hs.setClu _ _

theorem Keeps.swapCoefs (d : Fin 4) (mask : Nat) : Keeps s₀ (swapCoefs d mask s) := hs.setClu _ _

/-! ## Sys2Proof/Machine/Pattern.lean -/

theorem Keeps.setPatSet (set : Nat) (ls : List PatLine) : Keeps s₀ (setPatSet set ls s) := .withPat hs

theorem Keeps.patTouch (line : Nat) : Keeps s₀ (patTouch line s) := by
  unfold Machine.patTouch
  dsimp only
  split
  · exact hs.setPatSet _ _
  · exact hs

theorem Keeps.patInsert (line : Nat) : Keeps s₀ (patInsert line s) := by
  unfold Machine.patInsert
  exact .ite ((hs.setPatSet _ _).draw) hs

theorem Keeps.patErase (line : Nat) : Keeps s₀ (patErase line s) := hs.setPatSet _ _

theorem Keeps.countFill (d : Fin 4) (i : Fin 9) : Keeps s₀ (countFill d i s) :=
  .ite (.ite ((hs.pmcEvent _ _ _).addF _ _ _) (hs.pmcEvent _ _ _)) ((hs.pmcEvent _ _ _).addF _ _ _)

theorem Keeps.setWalk (d : Fin 4) (i : Fin 9) (w : Walk) : Keeps s₀ (setWalk d i w s) := hs.setClu _ _

theorem Keeps.askFill (d : Fin 4) (i : Fin 9) (line : Nat) : Keeps s₀ (askFill d i line s) :=
  ((hs.countFill _ _).issueAll _ _).setWalk _ _ _

theorem Keeps.walkOn (d : Fin 4) (i : Fin 9) (ls : List Nat) : Keeps s₀ (walkOn d i ls s) := by
  induction ls generalizing s with
  | nil => exact hs.setWalk _ _ _
  | cons l ls ih =>
    exact .ite (ih hs) (.ite (ih (hs.patTouch _)) (.ite (hs.setWalk _ _ _) (ih (hs.askFill _ _ _))))

theorem Keeps.fillArrives (d : Fin 4) (i : Fin 9) (line : Nat) (met : Bool) : Keeps s₀ (fillArrives d i line met s) :=
  (Keeps.ite (hs.setWalk _ _ _) ((hs.setWalk _ _ _).patInsert _)).walkOn _ _ _

theorem Keeps.patAgain (d : Fin 4) (i : Fin 9) (line : Nat) : Granted (fun r => Keeps s₀ r.2) (patAgain d i line s) :=
  .ite (Granted.ok hs) (.ite (Granted.ok (hs.patTouch _)) (((hs.countFill _ _).dramAccess _ _ _).map fun _ hu =>
      .ite (hu.patInsert _) ((hu.patInsert _).addF _ _ _)))

theorem Keeps.patAgainAll (d : Fin 4) (i : Fin 9) (ls : List Nat) (n : Nat) :
    Granted (fun r => Keeps s₀ r.2) (patAgainAll d i ls (n, s)) := by
  induction ls generalizing n s with
  | nil => exact .ok hs
  | cons l ls ih => exact (hs.patAgain _ _ _).bind fun _ hu => ih hu _

theorem Keeps.patDrop (hit : Nat → Bool) : Keeps s₀ (patDrop hit s) := .withPat hs

theorem Keeps.meetFills (hit : Nat → Bool) : Keeps s₀ (meetFills hit s) := .withClu hs

theorem Keeps.patInvalidate (hit : Nat → Bool) : Keeps s₀ (patInvalidate hit s) := (hs.patDrop _).meetFills _

/-! ## Sys2Proof/Machine/Planes.lean -/

theorem Keeps.palWrite (d : Fin 4) (high : Nat) : Keeps s₀ (palWrite d high s) :=
  .ite hs ((hs.palSet _ _ _).setF _ _ _)

theorem Keeps.execPaletteWrite (m : Master) (d : Fin 4) (high : BitVec 8) :
    OutKeeps s₀ (execPaletteWrite m d high s) := hs.gate fun _ hu => (hu.palWrite _ _).next

theorem Keeps.coefWrite (d : Fin 4) (v : BitVec 10) : Keeps s₀ (coefWrite d v s) := by
  unfold Machine.coefWrite
  dsimp only
  refine Keeps.setReg ?_ _ _
  split
  · exact hs.setClu _ _
  · exact hs

theorem Keeps.execCoefWrite (m : Master) (d : Fin 4) (v : BitVec 10) : OutKeeps s₀ (execCoefWrite m d v s) :=
  hs.gate fun _ hu => (hu.coefWrite _ _).next

theorem Keeps.execCoefSwap (m : Master) (d : Fin 4) (mask : Fin 16) : OutKeeps s₀ (execCoefSwap m d mask s) :=
  hs.gate fun _ hu => (Keeps.ite hu (hu.swapCoefs _ _)).next

theorem Keeps.armProbe (pos valid : Nat) (validFld : Fld) (v : Word) : Keeps s₀ (armProbe pos valid validFld v s) :=
  (hs.setReg _ _).setF _ _ _

theorem Keeps.execPlnProbeArm (m : Master) (d : Fin 4) (plane : Fin 8) (x y : Fin 8192) :
    OutKeeps s₀ (execPlnProbeArm m d plane x y s) := hs.gate fun _ hu => (hu.armProbe _ _ _ _).next

theorem Keeps.pciStart (start all : Bool) : Keeps s₀ (pciStart start all s) :=
  .ite hs ((hs.patInvalidate _).setReg _ _)

theorem Keeps.execInvalidateRange (m : Master) : OutKeeps s₀ (execInvalidateRange m s) :=
  hs.gate fun _ hu => (hu.pciStart _ _).next

theorem Keeps.execInvalidateAll (m : Master) (start : Bool) : OutKeeps s₀ (execInvalidateAll m start s) :=
  hs.gate fun _ hu => (hu.pciStart _ _).next

theorem Keeps.execInvalidationEnd : OutKeeps s₀ (execInvalidationEnd s) := .ite ((hs.setReg _ _).next) hs.next

/-! ## Sys2Proof/Machine/Records.lean -/

theorem Keeps.rasterWrite (d : Fin 4) (w : RWrite) : Keeps s₀ (rasterWrite d w s) :=
  .ite (hs.palSet _ _ _) (.ite (hs.codeWrite _ _) (hs.codeWrite _ _))

theorem Keeps.writesAt (d : Fin 4) (b : Band) (n : Nat) : Keeps s₀ (writesAt d b n s) :=
  hs.fold fun _ _ hu => hu.rasterWrite _ _

theorem Keeps.allWrites (d : Fin 4) (b : Band) : Keeps s₀ (allWrites d b s) :=
  hs.fold fun _ _ hu => hu.rasterWrite _ _

/-! ## Sys2Proof/Machine/KettleBase.lean -/

theorem Keeps.setKtl (k : Kettle) : Keeps s₀ (setKtl k s) := .withKtl hs

theorem Keeps.modulatorsOn : Keeps s₀ (modulatorsOn s) := .withAas hs

theorem Keeps.settleSlots (xs : List CueSlot) : Keeps s₀ (settleSlots xs s) := by
  induction xs generalizing s with
  | nil => exact hs.setKtl _
  | cons x xs ih => exact .ite (ih (hs.setReg _ _)) (hs.setKtl _)

theorem Keeps.settle : Keeps s₀ (settle s) := hs.settleSlots _

theorem Keeps.discardCues : Keeps s₀ (discardCues s) := (hs.setKtl _).settle

theorem Keeps.handCue (d : Fin 4) (frame : Nat) : Keeps s₀ (handCue d frame s) := .ite (hs.setKtl _) hs

theorem Keeps.dropCues (d : Fin 4) : Keeps s₀ (dropCues d s) := .ite hs.discardCues hs

theorem Keeps.loadCuePos (d : Nat) : Keeps s₀ (loadCuePos d s) := hs.setReg _ _

theorem Keeps.cueReload (d : Fin 4) : Keeps s₀ (cueReload d s) := .ite (hs.loadCuePos _) hs

/-! ## Sys2Proof/Machine/Kettle.lean -/

theorem Keeps.kettleStart : Keeps s₀ (kettleStart s) :=
  .withAas (.setKtl (.loadCuePos (.setReg (.setF (.setF hs _ _ _) _ _ _) _ _) _) _)

theorem Keeps.ktlCtrlWrite (v : Word) : Keeps s₀ (ktlCtrlWrite v s) :=
  .ite (.ite hs ((hs.setF _ _ _).setKtl _)) (.ite (((hs.setF _ _ _).setF _ _ _).kettleStart) ((hs.setF _ _ _).setF
      _ _ _))

theorem Keeps.execKettleRun (m : Master) (timebase slots : Fin 4) : OutKeeps s₀ (execKettleRun m timebase slots s) :=
  hs.gate fun _ hu => (hu.audioAccess.ktlCtrlWrite _).next

theorem Keeps.execKettleStop (m : Master) : OutKeeps s₀ (execKettleStop m s) :=
  hs.gate fun _ hu => (hu.audioAccess.ktlCtrlWrite _).next

theorem Keeps.kettleHalt : Keeps s₀ (kettleHalt s) := ((hs.discardCues.setF _ _ _).setF _ _ _).setKtl _

theorem Keeps.addCue (c : Cue) : Keeps s₀ (addCue c s) := hs.setKtl _

theorem Keeps.readStart (c : Cue) : OutKeeps s₀ (readStart c s) := by
  unfold Machine.readStart
  dsimp only
  refine .ite ((hs.setF _ _ _).next) (.ite (.fault _) (.ite ?_ ((hs.addCue _).next)))
  split
  · exact (hs.setF _ _ _).next
  · exact ((hs.setKtl _).addCue _).next

theorem Keeps.readCue (f : CueSlot) (a : Nat) : OutKeeps s₀ (readCue f a s) :=
  .ite ((hs.setF _ _ _).next) (.ite (hs.readStart _) (.ite (.fault _) ((hs.addCue _).next)))

theorem Keeps.readCues (f : CueSlot) (n a : Nat) : OutKeeps s₀ (readCues f n a s) := by
  induction n generalizing a s with
  | zero => exact hs.next
  | succ n ih =>
    unfold Machine.readCues
    split
    · next t ht => exact ih (hs.readCue _ _ t ht) _
    · exact .fault _
    · exact .refused _

theorem Keeps.slotRead (f : CueSlot) : Keeps s₀ (slotRead f s) := (hs.setKtl _).settle

theorem Keeps.execCueSlotRead : OutKeeps s₀ (execCueSlotRead s) := by
  unfold Machine.execCueSlotRead
  dsimp only
  split
  · exact hs.next
  · refine .ite (.fault _) ?_
    split
    · exact (hs.park _).next
    · next hx0 =>
      have hv0 := (hs.dramRead _ _ _) _ hx0
      refine .ite (((hv0.setF _ _ _).slotRead _).next) ?_
      split
      · next hx1 =>
        have hv1 := (hv0.readCues _ _ _) _ hx1
        exact (hv1.slotRead _).next
      · exact (.fault _)
      · exact (.refused _)

theorem Keeps.execStreamFill (r : Fin 64) : OutKeeps s₀ (execStreamFill r s) := by
  unfold Machine.execStreamFill
  dsimp only
  split
  · exact hs.next
  · refine .ite hs.next ?_
    split
    · exact (hs.park _).next
    · next hx0 =>
      have hv0 := (hs.dramReads _ _) _ hx0
      exact ((hv0.fold fun _ _ hu1 => hu1.writeBytes _ _).setKtl _).next

theorem Keeps.freeRingOf (r : Option Nat) : Keeps s₀ (freeRingOf r s) := by
  unfold Machine.freeRingOf
  dsimp only
  split
  · exact hs
  · split
    · exact hs.setKtl _
    · exact hs

theorem Keeps.setVoice (n : Nat) (v : Voice) : Keeps s₀ (setVoice n v s) := hs.setKtl _

theorem Keeps.voiceOff (n : Nat) : Keeps s₀ (voiceOff n s) := by
  unfold Machine.voiceOff
  dsimp only
  split
  · exact hs
  · exact (hs.setKtl _).freeRingOf _

theorem Keeps.fireStart (c : Cue) : Keeps s₀ (fireStart c s) := by
  unfold Machine.fireStart
  dsimp only
  split
  · exact hs
  · exact (hs.voiceOff _).setVoice _ _

theorem Keeps.messageCue (c : Cue) (n : Nat) : Keeps s₀ (messageCue c n s) :=
  ((hs.writeBytes _ _).writeBytes _ _).raisePrivate _ _

theorem Keeps.fireEffect (c : Cue) (n : Nat) : Keeps s₀ (fireEffect c n s) := by
  unfold Machine.fireEffect
  dsimp only
  refine .ite (hs.fireStart _) (.ite ?_ (.ite (hs.voiceOff _) (.ite ?_ (.ite ?_ (.ite (.ite (hs.setF _ _ _) hs) (.ite
      (hs.messageCue _ _) hs))))))
  · split
    · exact hs
    · exact hs.setVoice _ _
  · split
    · exact hs
    · exact hs.setVoice _ _
  · split
    · exact hs.setKtl _
    · exact hs

theorem Keeps.fireCue (n : Nat) (c : Cue) : Keeps s₀ (fireCue n s c) := (Keeps.ite (hs.setF _ _ _) hs).fireEffect _ _

theorem Keeps.fireCues (n : Nat) : Keeps s₀ (fireCues n s) := ((hs.setKtl _).fold fun _ _ hu => hu.fireCue _ _).settle

theorem Keeps.toneSample (c : Fin 32) (x : Mix) : Keeps s₀ (toneSample c (x, s)).2 := .iteSnd hs (hs.setKtl _)

theorem Keeps.ringAfter (v : Voice) (w : Option Voice) : Keeps s₀ (ringAfter v w s) := by
  unfold Machine.ringAfter
  dsimp only
  split
  · exact hs.freeRingOf _
  · split
    · exact hs
    · split
      · exact hs.setKtl _
      · exact hs

theorem Keeps.voiceAfter (n : Nat) (v : Voice) (w : Option Voice) : Keeps s₀ (voiceAfter n v w s) := by
  unfold Machine.voiceAfter
  dsimp only
  refine Keeps.ringAfter ?_ _ _
  split
  · exact hs.setKtl _
  · exact hs.setVoice _ _

theorem Keeps.countUnder (n : Nat) : Keeps s₀ (countUnder n s) :=
  .ite hs (((hs.pmcEvent _ _ _).addF _ _ _).setF _ _ _)

theorem Keeps.voicePeriod (n : Nat) (x : Mix) (e : Nat × Voice) : Keeps s₀ (voicePeriod n (x, s) e).2 :=
  .iteSnd hs (.iteSnd (hs.voiceAfter _ _ _) ((hs.countUnder _).voiceAfter _ _ _))

theorem Keeps.computeVoices (n : Nat) : Keeps s₀ (computeVoices n s).2 := by
  have hp : ∀ (cs : List (Fin 32)) (m : Mix), Keeps s₀ (cs.foldl (fun q c => Machine.toneSample c q) (m, s)).2 :=
    fun cs m => Keeps.foldSnd (p := (m, s)) hs fun q c hu => Keeps.toneSample hu c q.1
  have hq : ∀ (xs : List (Nat × Voice)) (p : Mix × State), Keeps s₀ p.2 →
      Keeps s₀ (xs.foldl (Machine.voicePeriod n) p).2 :=
    fun xs p h => h.foldSnd fun q e hu => Keeps.voicePeriod hu n q.1 e
  unfold Machine.computeVoices
  dsimp only
  refine .iteSnd (.setF (.addF (.pmcEvent ?_ _ _ _) _ _ _) _ _ _) ?_
  all_goals exact hq _ _ (hp _ _)

theorem Keeps.blockEnd (n : Nat) (c : Fin 2) : Keeps s₀ (blockEnd n s c) :=
  .ite hs (.ite ((Keeps.ite (hs.raisePrivate _ _) hs).setKtl _) (.ite ((Keeps.ite (hs.raisePrivate _ _) hs).setKtl
      _) ((((Keeps.ite (hs.raisePrivate _ _) hs).addF _ _ _).setF _ _ _).setKtl _)))

theorem Keeps.fxInputs (n : Nat) (c : Fin 2) : Keeps s₀ (fxInputs n s c) := hs.fold fun _ _ hu => hu.writeBytes _ _

theorem Keeps.mixHalf (h : Vector (List Int) 32) (l : List (Nat × Int)) (n i : Nat) : Keeps s₀ (mixHalf h l n i s) :=
  hs.setKtl _

theorem Keeps.probeCapture (n : Nat) : Keeps s₀ (probeCapture n s) := .ite ((hs.setReg _ _).setF _ _ _) hs

theorem Keeps.ktlProbeWrite (v : Word) : Keeps s₀ (ktlProbeWrite v s) :=
  .ite (((hs.setF _ _ _).setF _ _ _).setF _ _ _) (hs.setF _ _ _)

theorem Keeps.execKtlProbeArm (m : Master) (bus : Fin 32) : OutKeeps s₀ (execKtlProbeArm m bus s) :=
  hs.gate fun _ hu => (hu.audioAccess.ktlProbeWrite _).next

theorem Keeps.declareKettle (n : Nat) : Keeps s₀ (declareKettle n s) := .ite (hs.setReg _ _) hs

theorem Keeps.kettlePeriod (tdm : List (BitVec 24)) (mic : List Int) : OutKeeps s₀ (kettlePeriod tdm mic s) :=
  .ite (.fault _) ((((((((((((((hs.reach _).setReg _ _).captureEdge _).fireCues _).fold fun _ _ hu => hu.blockEnd
      _ _).computeVoices _).mixHalf _ _ _ _).fold fun _ _ hu => hu.fxInputs _ _).probeCapture _).mixHalf _ _ _
      _).setKtl _).draw).declareKettle _).next)

/-! ## Sys2Proof/Machine/Int.lean -/

theorem Keeps.settleFalls (u : State) : Keeps s₀ (settleFalls u s) :=
  .ite hs (hs.fold fun _ _ hu => .ite (hu.setSrcBit _ _ _) hu)

theorem Keeps.claim (k : CoreId) : Keeps s₀ (claim k s).2 := by
  unfold Machine.claim
  dsimp only
  split
  · exact hs
  · exact .withIrq (.setSrcBit (.setSrcBit hs _ _ _) _ _ _)

theorem Keeps.completeSource (k : CoreId) (n : Nat) : Keeps s₀ (completeSource k n s) :=
  .ite (.ite (.setCore (.withIrq (.setSrcBit hs _ _ _)) _ _) (.withIrq (.setSrcBit hs _ _ _))) (.setF hs _ _ _)

theorem Keeps.pendSet (m : Master) (w : Nat) (v : Word) : Keeps s₀ (pendSet m w v s) := hs.setReg _ _

theorem Keeps.pendClr (m : Master) (w : Nat) (v : Word) : Keeps s₀ (pendClr m w v s) := hs.setReg _ _

theorem Keeps.doorbell (bell c : Nat) : OutKeeps s₀ (doorbell bell c s) :=
  .ite (.fault _) ((hs.raisePrivate _ _).next)

theorem Keeps.execIntClaim (k : CoreId) : OutKeeps s₀ (execIntClaim k s) :=
  Keeps.gate hs fun _ hu => Keeps.next (.withRdata (.claim hu _))

theorem Keeps.execIntComplete (k : CoreId) (n : Fin 512) : OutKeeps s₀ (execIntComplete k n s) :=
  hs.gate fun _ hu => (hu.completeSource _ _).next

theorem Keeps.execIntPendSet (m : Master) (w : Fin 16) (v : Word) : OutKeeps s₀ (execIntPendSet m w v s) :=
  hs.gate fun _ hu => (hu.pendSet _ _ _).next

theorem Keeps.execIntPendClr (m : Master) (w : Fin 16) (v : Word) : OutKeeps s₀ (execIntPendClr m w v s) :=
  hs.gate fun _ hu => (hu.pendClr _ _ _).next

theorem Keeps.execDoorbell (m : Master) (bell : Fin 16) (c : Fin 16) : OutKeeps s₀ (execDoorbell m bell c s) :=
  hs.gate fun _ hu => hu.doorbell _ _

theorem Keeps.execHoldoffEnd (k : CoreId) : OutKeeps s₀ (execHoldoffEnd k s) := (hs.setCore _ _).next

theorem Keeps.execEdgeDelivery (n : Fin 512) : OutKeeps s₀ (execEdgeDelivery n s) :=
  .ite (Keeps.next (.withIrq (.setPending hs _))) (Keeps.next hs)

theorem Keeps.execInterruptEntry (k : CoreId) : OutKeeps s₀ (execInterruptEntry k s) :=
  .ite ((hs.takeException _ _ _ _).next) hs.next

theorem Keeps.execHaltWake (k : CoreId) : OutKeeps s₀ (execHaltWake k s) :=
  .ite ((Keeps.ite ((hs.pmcSettle.setCore _ _).takeException _ _ _ _) (hs.pmcSettle.setCore _ _)).next) hs.next

/-! ## Sys2Proof/Machine/Pins.lean -/

theorem Keeps.latchPads (pins : List Nat) (u : State) : Keeps s₀ (latchPads pins u s) :=
  hs.fold fun _ _ hu => .ite hu (.ite (hu.latchAsync _) hu)

theorem Keeps.latchTdm : Keeps s₀ (latchTdm s) := hs.fold fun _ _ hu => .ite (hu.latchAsync _) hu

theorem Keeps.execInterruptLine (k : CoreId) (n : Fin 512) (high : Bool) :
    OutKeeps s₀ (execInterruptLine k n high s) :=
  .ite (Keeps.next hs) (.ite (Keeps.next (.ite (.latchAsync (.withIrq hs) _) (.withIrq hs))) (.ite (Keeps.next hs)
      (.ite (Keeps.next (.ite (.setPending (.withIrq hs) _) (.withIrq hs))) (Keeps.next (.ite (.setSrcBit
      (.withIrq hs) _ _ _) (.withIrq hs))))))

theorem Keeps.execEdgeLatch (n : Fin 512) (rising : Bool) : OutKeeps s₀ (execEdgeLatch n rising s) :=
  (Keeps.ite (hs.latchAsync _) hs).next

theorem Keeps.privSet (k : CoreId) (g : Fin 4) (v : Word) : Keeps s₀ (privSet k g v s) :=
  (hs.setCore _ _).latchPads _ _

theorem Keeps.privOutRun (k : CoreId) (g : Fin 4) (v : Word) : Keeps s₀ (privOutRun k g v s) :=
  (hs.privSet _ _ _).agePort _ _ _

theorem Keeps.execPinPrivOut (k : CoreId) (g : Fin 4) (v : Word) : OutKeeps s₀ (execPinPrivOut k g v s) :=
  hs.gate fun _ hu => (hu.privOutRun _ _ _).next

theorem Keeps.execPinPrivSet (k : CoreId) (g : Fin 4) (v : Word) : OutKeeps s₀ (execPinPrivSet k g v s) :=
  hs.gate fun _ hu => (hu.privOutRun _ _ _).next

theorem Keeps.execPinPrivClr (k : CoreId) (g : Fin 4) (v : Word) : OutKeeps s₀ (execPinPrivClr k g v s) :=
  hs.gate fun _ hu => (hu.privOutRun _ _ _).next

theorem Keeps.pinRead (m : Master) (p : Nat) : Keeps s₀ (pinRead m p s).2 := by
  unfold Machine.pinRead
  dsimp only
  refine .iteSnd hs (.iteSnd hs.draw (.iteSnd hs (.iteSnd hs.draw (.iteSnd hs.draw (.iteSnd ?_ hs)))))
  split
  · exact .iteSnd hs (.iteSnd hs.draw hs)
  · exact hs

theorem Keeps.pinWrite (m : Master) (p : Nat) (v : Word) : OutKeeps s₀ (pinWrite m p v s) := by
  unfold Machine.pinWrite
  dsimp only
  refine .ite ?_ hs.next
  split
  · exact .ite ((hs.privSet _ _ _).next) (.ite ((hs.privSet _ _ _).next) (.ite ((hs.privSet _ _ _).next) hs.next))
  · exact hs.next

/-! ## Sys2Proof/Machine/Analogue.lean -/

theorem Keeps.setAas (a : Analogue) : Keeps s₀ (setAas a s) := .withAas hs

theorem Keeps.modulatorPeriod (n : Nat) (o : Fin 8) : Keeps s₀ (modulatorPeriod n s o) := hs.setAas _

theorem Keeps.slotPeriod (n : Nat) (i : Fin 16) : Keeps s₀ (slotPeriod n s i) := hs.setAas _

theorem Keeps.micPeriod (x : BitVec 24) (m : Fin 4) : Keeps s₀ (micPeriod x m s).2 := .iteSnd hs (hs.setAas _)

theorem Keeps.micSamples (mic : List (BitVec 24)) : Keeps s₀ (micSamples mic s).2 :=
  hs.foldSnd (p := ([], s)) fun _ _ hu => hu.micPeriod _ _

theorem Keeps.calPeriod (u : Fin 12) : Keeps s₀ (calPeriod s u) := by
  unfold Machine.calPeriod
  dsimp only
  split
  · exact hs
  · refine .ite hs ?_
    split
    · exact .ite (hs.setAas _) (.ite hs ((hs.setAas _).addF _ _ _))
    · exact .ite hs (hs.setAas _)

theorem Keeps.calRequest (v : Word) : Keeps s₀ (calRequest v s) := (hs.setReg _ _).setAas _

theorem Keeps.execAasCalReq (m : Master) (v : BitVec 12) : OutKeeps s₀ (execAasCalReq m v s) :=
  hs.gate fun _ hu => (hu.audioAccess.calRequest _).next

theorem Keeps.execCalibrationStep (u : Fin 12) (rpt : BitVec 28) : OutKeeps s₀ (execCalibrationStep u rpt s) := by
  unfold Machine.execCalibrationStep
  dsimp only
  split
  · exact hs.next
  · exact .ite hs.next (.ite ((hs.setAas _).next) (.ite hs.next (((((hs.setReg _ _).setReg _ _).setReg _ _).setAas
      _).next)))

theorem Keeps.execPowerUpCalibrationDone (rpts : List (BitVec 28)) :
    OutKeeps s₀ (execPowerUpCalibrationDone rpts s) :=
  .ite hs.next (((hs.fold fun _ _ hu => hu.setReg _ _).setAas _).next)

theorem Keeps.execCdFault (o : Fin 8) (collapsed : Bool) : OutKeeps s₀ (execCdFault o collapsed s) :=
  .ite hs.next ((((Keeps.ite ((hs.setF _ _ _).setF _ _ _) (hs.setF _ _ _)).setAas _).raiseTilt _).next)

theorem Keeps.latchEnables : Keeps s₀ (latchEnables s) := hs.setAas _

theorem Keeps.outputsPeriod (n : Nat) : Keeps s₀ (outputsPeriod n s) :=
  .ite (((hs.setAas _).fold fun _ _ hu => hu.slotPeriod _ _).latchTdm) (((((hs.setAas _).fold fun _ _ hu =>
      hu.slotPeriod _ _).latchTdm).fold fun _ _ hu => hu.modulatorPeriod _ _).fold fun _ _ hu => hu.calPeriod _)

theorem Keeps.execKettlePeriod (tdm mic : List (BitVec 24)) : OutKeeps s₀ (execKettlePeriod tdm mic s) := by
  unfold Machine.execKettlePeriod
  dsimp only
  refine .ite hs.next (.ite ?_ ((((Keeps.ite ((Keeps.ite hs.latchEnables hs).kettleHalt) (Keeps.ite hs.latchEnables
      hs)).declareKettle _).outputsPeriod _).next))
  split
  · next hx0 =>
    have hv0 := (((Keeps.ite ((Keeps.ite hs.latchEnables hs).kettleHalt) (Keeps.ite hs.latchEnables hs)).micSamples
      _).kettlePeriod _ _) _ hx0
    exact (hv0.outputsPeriod _).next
  · exact (.fault _)
  · exact (.refused _)

/-! ## Sys2Proof/Machine/Timers.lean -/

theorem Keeps.setTmr (n : Fin 16) (t : Timer) : Keeps s₀ (setTmr n t s) := .withTmr hs

theorem Keeps.setFlag (e : Nat) : Keeps s₀ (setFlag e s) := .ite (hs.setF _ _ _) hs

theorem Keeps.setPair (lo hi v : Nat) : Keeps s₀ (setPair lo hi v s) := (hs.setReg _ _).setReg _ _

theorem Keeps.setOut (n : Fin 16) (b : Bool) : Keeps s₀ (setOut n b s) := hs.setF _ _ _

theorem Keeps.tmrFlag (n : Fin 16) (sel : Nat) : Keeps s₀ (tmrFlag n sel s) := .ite (hs.setFlag _) hs

theorem Keeps.loadShadow (n : Fin 16) : Keeps s₀ (loadShadow n s) := by
  unfold Machine.loadShadow
  dsimp only
  split
  · exact hs
  · exact (hs.setPair _ _ _).setTmr _ _

theorem Keeps.wrapTick (n : Fin 16) : Keeps s₀ (wrapTick n s) := ((hs.loadShadow _).setF _ _ _).tmrFlag _ _

theorem Keeps.matchTick (n : Fin 16) : Keeps s₀ (matchTick n s) :=
  ((Keeps.ite ((hs.setF _ _ _).setOut _ _) (Keeps.ite ((hs.setF _ _ _).setOut _ _) (Keeps.ite ((hs.setF _ _
      _).setOut _ _) (hs.setF _ _ _)))).pmcEvent _ _ _).tmrFlag _ _

theorem Keeps.tick (n : Fin 16) : Keeps s₀ (tick n s) :=
  .ite ((Keeps.ite ((Keeps.ite ((Keeps.ite ((hs.setTmr _ _).setF _ _ _) (hs.setTmr _ _)).wrapTick _) (Keeps.ite
      ((hs.setTmr _ _).setF _ _ _) (hs.setTmr _ _))).matchTick _) (Keeps.ite ((Keeps.ite ((hs.setTmr _ _).setF _ _
      _) (hs.setTmr _ _)).wrapTick _) (Keeps.ite ((hs.setTmr _ _).setF _ _ _) (hs.setTmr _ _)))).setOut _ _) (.ite
      ((Keeps.ite ((Keeps.ite ((hs.setTmr _ _).setF _ _ _) (hs.setTmr _ _)).wrapTick _) (Keeps.ite ((hs.setTmr _
      _).setF _ _ _) (hs.setTmr _ _))).matchTick _) (.ite ((Keeps.ite ((hs.setTmr _ _).setF _ _ _) (hs.setTmr _
      _)).wrapTick _) (.ite ((hs.setTmr _ _).setF _ _ _) (hs.setTmr _ _))))

theorem Keeps.timerPad {n : Fin 16} {f : State → State} (hf : ∀ u, Keeps s₀ u → Keeps s₀ (f u)) :
    Keeps s₀ (timerPad n f s) := (hf s hs).latchPads _ _

theorem Keeps.tickPad (n : Fin 16) : Keeps s₀ (tickPad n s) := hs.timerPad fun _ hu => hu.tick _

theorem Keeps.execTimerTick (n : Fin 16) : OutKeeps s₀ (execTimerTick n s) := .ite ((hs.tickPad _).next) hs.next

theorem Keeps.execWrapTick (n : Fin 16) : OutKeeps s₀ (execWrapTick n s) := .ite ((hs.tickPad _).next) hs.next

theorem Keeps.execMatchEvent (n : Fin 16) : OutKeeps s₀ (execMatchEvent n s) := .ite ((hs.tickPad _).next) hs.next

theorem Keeps.tmrCtrlWrite (n : Fin 16) (v : Word) : OutKeeps s₀ (tmrCtrlWrite n v s) :=
  .ite (.fault _) ((hs.timerPad fun _ hu => hu.setReg _ _).next)

theorem Keeps.execTimerRun (m : Master) (n : Fin 16) (mode : Fin 3) (prescale : BitVec 8) (outMode : Fin 5) (dmaSel : Fin 4) :
    OutKeeps s₀ (execTimerRun m n mode prescale outMode dmaSel s) := hs.gate fun _ hu => hu.tmrCtrlWrite _ _

theorem Keeps.topWrite (n : Fin 16) (high : Nat) : OutKeeps s₀ (topWrite n high s) := by
  unfold Machine.topWrite
  dsimp only
  split
  · exact (.fault _)
  · exact .ite ((hs.setTmr _ _).next) (((hs.setPair _ _ _).setTmr _ _).next)

theorem Keeps.execTopWrite (m : Master) (n : Fin 16) (high : BitVec 16) : OutKeeps s₀ (execTopWrite m n high s) :=
  hs.gate fun _ hu => hu.topWrite _ _

theorem Keeps.cmpWrite (n : Fin 16) (high : Nat) : OutKeeps s₀ (cmpWrite n high s) := by
  unfold Machine.cmpWrite
  split
  · exact (.fault _)
  · exact (hs.setPair _ _ _).next

theorem Keeps.execComparatorWrite (m : Master) (n : Fin 16) (high : BitVec 16) :
    OutKeeps s₀ (execComparatorWrite m n high s) := hs.gate fun _ hu => hu.cmpWrite _ _

theorem Keeps.tmrClear (n : Fin 16) : Keeps s₀ (tmrClear n s) := (hs.setF _ _ _).setTmr _ _

theorem Keeps.tmrSnap (n : Fin 16) : Keeps s₀ (tmrSnap n s) := hs.setPair _ _ _

theorem Keeps.tmrCmdWrite (n : Fin 16) (v : Word) : Keeps s₀ (tmrCmdWrite n v s) :=
  hs.timerPad fun _ hu => .ite (.ite ((Keeps.ite (hu.tmrSnap _) hu).tmrClear _) (.ite (hu.tmrSnap _) hu))
      ((Keeps.ite ((Keeps.ite (hu.tmrSnap _) hu).tmrClear _) (Keeps.ite (hu.tmrSnap _) hu)).setOut _ _)

theorem Keeps.execTimerSnap (m : Master) (n : Fin 16) : OutKeeps s₀ (execTimerSnap m n s) :=
  hs.gate fun _ hu => (hu.tmrCmdWrite _ _).next

theorem Keeps.execTimerClear (m : Master) (n : Fin 16) : OutKeeps s₀ (execTimerClear m n s) :=
  hs.gate fun _ hu => (hu.tmrCmdWrite _ _).next

theorem Keeps.execOutSet (m : Master) (n : Fin 16) : OutKeeps s₀ (execOutSet m n s) :=
  hs.gate fun _ hu => (hu.tmrCmdWrite _ _).next

theorem Keeps.execOutClr (m : Master) (n : Fin 16) : OutKeeps s₀ (execOutClr m n s) :=
  hs.gate fun _ hu => (hu.tmrCmdWrite _ _).next

theorem Keeps.captureRise (n : Fin 16) : Keeps s₀ (captureRise n s) :=
  (Keeps.ite (((hs.setReg _ _).setF _ _ _).setF _ _ _) ((hs.setReg _ _).setF _ _ _)).setTmr _ _

theorem Keeps.captureFall (n : Fin 16) : Keeps s₀ (captureFall n s) :=
  ((Keeps.ite (((hs.setReg _ _).setF _ _ _).setF _ _ _) ((hs.setReg _ _).setF _ _ _)).setTmr _ _).tmrFlag _ _

theorem Keeps.pinRise (n : Fin 16) : Keeps s₀ (pinRise n s) := .ite ((hs.setTmr _ _).captureRise _) hs

theorem Keeps.pinFall (n : Fin 16) : Keeps s₀ (pinFall n s) := by
  unfold Machine.pinFall
  dsimp only
  refine .ite (.ite ?_ ((hs.setTmr _ _).captureFall _)) hs
  split
  · exact hs.setTmr _ _
  · exact ((hs.setTmr _ _).setReg _ _).captureFall _

theorem Keeps.execTimerCapture (n : Fin 16) (e : CapEdge) : OutKeeps s₀ (execTimerCapture n e s) := by
  unfold Machine.execTimerCapture
  dsimp only
  refine .ite hs.next ?_
  split
  · exact .ite hs.next ((Keeps.ite (Keeps.ite ((hs.setTmr _ _).pinRise _) ((hs.setTmr _ _).pinFall _)) (hs.setTmr _
      _)).next)
  · exact .ite hs.next ((Keeps.ite ((hs.setTmr _ _).captureRise _) (hs.setTmr _ _)).next)
  · exact .ite hs.next ((Keeps.ite ((hs.setTmr _ _).captureRise _) (hs.setTmr _ _)).next)

theorem Keeps.captureRead (n : Fin 16) (falling : Bool) : Keeps s₀ (captureRead n falling s).2 :=
  .iteSnd ((hs.setTmr _ _).setReg _ _) ((hs.setTmr _ _).setReg _ _)

theorem Keeps.execCaptureRead (m : Master) (n : Fin 16) (falling : Bool) :
    OutKeeps s₀ (execCaptureRead m n falling s) :=
  Keeps.gate hs fun _ hu => Keeps.next (.withRdata (.captureRead hu _ _))

/-! ## Sys2Proof/Machine/Dma.lean -/

theorem Keeps.setCh (n : Fin 32) (c : DmaChannel) : Keeps s₀ (setCh n c s) := .withDma hs

theorem Keeps.setChState (n : Fin 32) (x : Nat) : Keeps s₀ (setChState n x s) := hs.setF _ _ _

theorem Keeps.setPc (n : Fin 32) (i : Nat) : Keeps s₀ (setPc n i s) := hs.setF _ _ _

theorem Keeps.setLoops (n : Fin 32) (l : List (Nat × Nat)) : Keeps s₀ (setLoops n l s) := (hs.setCh _ _).setF _ _ _

theorem Keeps.setPtr (lo hi v : Nat) : Keeps s₀ (setPtr lo hi v s) := (hs.setReg _ _).setReg _ _

theorem Keeps.setSp (n : Fin 32) (v : Nat) : Keeps s₀ (setSp n v s) := hs.setPtr _ _ _

theorem Keeps.setDp (n : Fin 32) (v : Nat) : Keeps s₀ (setDp n v s) := hs.setPtr _ _ _

theorem Keeps.startDrain (n : Fin 32) (x : Drain) : Keeps s₀ (startDrain n x s) := hs.setCh _ _

theorem Keeps.chNext (n : Fin 32) (i : Nat) : Keeps s₀ (chNext n i s) :=
  .ite (((hs.setPc _ _).setCh _ _).startDrain _ _) (hs.setPc _ _)

theorem Keeps.noteGranule (n : Fin 32) (a : Nat) : Keeps s₀ (noteGranule n a s) := hs.setCh _ _

theorem Keeps.granuleWrite (n : Fin 32) (a : Nat) (bs : List Byte) : Keeps s₀ (granuleWrite n a bs s) :=
  .ite (((hs.fold fun _ _ hu => hu.noteGranule _ _).leaveSelfRefresh).issue _ _) ((hs.fold fun _ _ hu =>
      hu.noteGranule _ _).writeBytes _ _)

theorem Keeps.engineRead (n : Fin 32) (a : Nat) : Granted (Keeps s₀) (engineRead n a s) :=
  .ite (hs.accessAs _ _ _ _ _ _) (Granted.ok hs)

theorem Keeps.turnTaken (n : Fin 32) (issued : Bool) : Keeps s₀ (turnTaken n issued s) := .ite hs (.withDmaLast hs)

theorem Keeps.engineHeld (n : Fin 32) (h : Held) : Keeps s₀ (engineHeld n h s) := .park (.ite (.withDmaLast hs) hs) _

theorem Keeps.dmaStep {n : Fin 32} {kind : Nat → Bool} {f : Nat → Nat → Nat → Nat → State → Out}
    (hf : ∀ w0 w1 w2 w3 u, Keeps s₀ u → OutKeeps s₀ (f w0 w1 w2 w3 u)) : OutKeeps s₀ (dmaStep n kind f s) := by
  unfold Machine.dmaStep
  dsimp only
  refine .ite hs.next (.ite (.fault _) (.ite hs.next (.ite (hf _ _ _ _ _ hs) (.ite hs.next ?_))))
  split
  · exact (hs.engineHeld _ _).next
  · next u hu =>
    have ht := (hs.engineRead _ _ u hu).turnTaken n (outstanding s n)
    exact .ite (ht.startDrain _ _).next (hf _ _ _ _ _ ht)

theorem Keeps.takeGranules (n : Fin 32) (a g : Nat) : Keeps s₀ (takeGranules n a g s) :=
  ((hs.setCh _ _).draw).pmcEvent _ _ _

theorem Keeps.moveServe (n : Fin 32) (len : Nat) : Granted (Keeps s₀) (moveServe n len s) :=
  .ite ((hs.engineRead _ _).map fun _ hu => (hu.takeGranules _ _ _).turnTaken _ _) (Granted.ok (((hs.granuleWrite
      _ _ _).setCh _ _).turnTaken _ _))

theorem Keeps.moveBegin (n : Fin 32) (w0 w1 w2 : Nat) : Keeps s₀ (moveBegin n w0 w1 w2 s) :=
  (Keeps.ite ((Keeps.ite (hs.setSp _ _) hs).setDp _ _) (Keeps.ite (hs.setSp _ _) hs)).setCh _ _

theorem Keeps.moveEnd (n : Fin 32) (len : Nat) : Keeps s₀ (moveEnd n len s) :=
  (((hs.setCh _ _).setSp _ _).setDp _ _).chNext _ _

theorem Keeps.moveSome (n : Fin 32) (len g : Nat) : OutKeeps s₀ (moveSome n len g s) := by
  induction g generalizing s with
  | zero => exact hs.next
  | succ g ih =>
    unfold Machine.moveSome
    refine .ite hs.next ?_
    split
    · exact .fault _
    · split
      · exact (hs.engineHeld _ _).next
      · next u hu =>
        have ht := hs.moveServe _ _ u hu
        exact .ite (ht.moveEnd _ _).next (ih ht)

theorem Keeps.execDmaMove (n : Fin 32) (g : Nat) : OutKeeps s₀ (execDmaMove n g s) :=
  hs.dmaStep fun _ _ _ _ _ hu => .ite (.fault _) ((Keeps.ite (hu.moveBegin _ _ _ _) hu).moveSome _ _ _)

theorem Keeps.execDmaLoop (n : Fin 32) : OutKeeps s₀ (execDmaLoop n s) :=
  hs.dmaStep fun _ _ _ _ _ hu => ((hu.setLoops _ _).chNext _ _).next

theorem Keeps.execDmaEndl (n : Fin 32) : OutKeeps s₀ (execDmaEndl n s) := by
  unfold Machine.execDmaEndl
  refine hs.dmaStep fun _ _ _ _ _ hu => ?_
  dsimp only
  split
  · exact ((hu.setSp _ _).setDp _ _).next
  · exact .ite (((((hu.setSp _ _).setDp _ _).setLoops _ _).chNext _ _).next) (((((hu.setSp _ _).setDp _ _).setLoops _
      _).chNext _ _).next)

theorem Keeps.execDmaWait (n : Fin 32) : OutKeeps s₀ (execDmaWait n s) :=
  hs.dmaStep fun _ _ _ _ _ hu => (hu.setChState _ _).next

theorem Keeps.waitOver (n : Fin 32) : Keeps s₀ (waitOver n s) := (hs.setChState _ _).chNext _ _

theorem Keeps.execWaitProceed (p : WaitClock) : OutKeeps s₀ (execWaitProceed p s) := by
  unfold Machine.execWaitProceed
  dsimp only
  refine .ite hs.next (.ite hs.next ?_)
  split
  · exact (hs.fold fun _ _ hu => hu.waitOver _).next
  · exact (((hs.fold fun _ _ hu => hu.waitOver _).setF _ _ _).waitOver _).next

theorem Keeps.execDmaSignal (n : Fin 32) : OutKeeps s₀ (execDmaSignal n s) :=
  hs.dmaStep fun _ _ _ _ _ hu => (hu.startDrain _ _).next

theorem Keeps.execCrcBegin (n : Fin 32) : OutKeeps s₀ (execCrcBegin n s) :=
  hs.dmaStep fun _ _ _ _ _ hu => .ite (((hu.setCh _ _).chNext _ _).next) (.ite ((hu.setCh _ _).next) (((hu.setCh _
      _).chNext _ _).next))

theorem Keeps.execShaUnitGrant : OutKeeps s₀ (execShaUnitGrant s) := by
  unfold Machine.execShaUnitGrant
  dsimp only
  refine .ite hs.next ?_
  split
  · exact hs.next
  · exact ((hs.setCh _ _).chNext _ _).next

theorem Keeps.execCrcStore (n : Fin 32) : OutKeeps s₀ (execCrcStore n s) := by
  unfold Machine.execCrcStore
  refine hs.dmaStep fun _ _ _ _ _ hu => ?_
  dsimp only
  split
  · exact hu.next
  · split
    · exact (.fault _)
    · exact .ite ((hu.setCh _ _).next) ((((((hu.setCh _ _).granuleWrite _ _ _).turnTaken _ _).setCh _ _).chNext _
        _).next)

theorem Keeps.execEndProgram (n : Fin 32) : OutKeeps s₀ (execEndProgram n s) :=
  hs.dmaStep fun _ _ _ _ _ hu => (hu.startDrain _ _).next

theorem Keeps.clearRun (n : Fin 32) : Keeps s₀ (clearRun n s) := hs.setF _ _ _

theorem Keeps.signalDo (n : Fin 32) : Keeps s₀ (signalDo n s) :=
  (Keeps.ite ((Keeps.ite (hs.setFlag _) hs).setF _ _ _) (Keeps.ite (hs.setFlag _) hs)).chNext _ _

theorem Keeps.chFail (n : Fin 32) (code : Nat) : Keeps s₀ (chFail n code s) :=
  (((hs.setF _ _ _).setF _ _ _).setChState _ _).clearRun _

theorem Keeps.drainOver (n : Fin 32) (x : Drain) : Keeps s₀ (drainOver n x s) := by
  unfold Machine.drainOver
  dsimp only
  split
  · exact (hs.setCh _ _).signalDo _
  · exact ((((hs.setCh _ _).setCh _ _).setChState _ _).setF _ _ _).clearRun _
  · exact (hs.setCh _ _).setChState _ _
  · exact ((hs.setCh _ _).setCh _ _).chFail _ _

theorem Keeps.readBack (n : Fin 32) : Granted (Keeps s₀) (readBack n s) := by
  unfold Machine.readBack
  split
  · exact Granted.ok hs
  · exact .ite ((hs.engineRead _ _).map fun _ hu => hu.turnTaken _ _) Granted.error

theorem Keeps.execDrainEnd (n : Fin 32) : OutKeeps s₀ (execDrainEnd n s) := by
  unfold Machine.execDrainEnd
  refine .ite hs.next ?_
  split
  · exact hs.next
  · split
    · exact (hs.engineHeld _ _).next
    · next hx0 =>
      have hv0 := (hs.readBack _) _ hx0
      exact (hv0.drainOver _ _).next

theorem Keeps.chRun (n : Fin 32) : OutKeeps s₀ (chRun n s) :=
  .ite ((hs.chFail _ _).next) (.ite (.fault _) ((((hs.setF _ _ _).setChState _ _).setF _ _ _).next))

theorem Keeps.chFresh (n : Fin 32) : Keeps s₀ (chFresh n s) := ((hs.setCh _ _).setLoops _ _).setPc _ _

theorem Keeps.chStop (n : Fin 32) : Keeps s₀ (chStop n s) :=
  .ite hs (.ite (hs.clearRun _) (.ite ((hs.clearRun _).setCh _ _) ((hs.clearRun _).startDrain _ _)))

theorem Keeps.chCtrlWrite (n : Fin 32) (run : Bool) : OutKeeps s₀ (chCtrlWrite n run s) :=
  .ite ((hs.chStop _).next) (.ite hs.next (.ite ((hs.chFresh _).chRun _) (hs.chRun _)))

theorem Keeps.execChannelStart (m : Master) (n : Fin 32) : OutKeeps s₀ (execChannelStart m n s) :=
  hs.gate fun _ hu => hu.chCtrlWrite _ _

theorem Keeps.execChannelResume (m : Master) (n : Fin 32) : OutKeeps s₀ (execChannelResume m n s) :=
  hs.gate fun _ hu => hu.chCtrlWrite _ _

theorem Keeps.execChannelStop (m : Master) (n : Fin 32) : OutKeeps s₀ (execChannelStop m n s) :=
  hs.gate fun _ hu => hu.chCtrlWrite _ _

theorem Keeps.eventSet (w : Nat) (v : Word) : Keeps s₀ (eventSet w v s) := hs.setReg _ _

theorem Keeps.eventClr (w : Nat) (v : EventClear) : Keeps s₀ (eventClr w v s) := hs.setReg _ _

theorem Keeps.execDmaEventSet (m : Master) (w : Fin 2) (v : Word) : OutKeeps s₀ (execDmaEventSet m w v s) :=
  hs.gate fun _ hu => (hu.eventSet _ _).next

theorem Keeps.execDmaEventClr (m : Master) (w : Fin 2) (v : EventClear) : OutKeeps s₀ (execDmaEventClr m w v s) :=
  hs.gate fun _ hu => (hu.eventClr _ _).next

theorem Keeps.execRateWindow : OutKeeps s₀ (execRateWindow s) := .ite (Keeps.next hs) (Keeps.next (.withDma hs))

/-! ## Sys2Proof/Machine/BlitEngine.lean -/

theorem Keeps.setBlt (b : Blit) : Keeps s₀ (setBlt b s) := .withBlt hs

theorem Keeps.pixelWrite (q : Surface) (format x y v : Nat) : Keeps s₀ (pixelWrite q format x y v s) :=
  hs.writeBytes _ _

theorem Keeps.blitError (code : Nat) : Keeps s₀ (blitError code s) := ((hs.setF _ _ _).setF _ _ _).setF _ _ _

theorem Keeps.blitRequests (c : BlitCmd) (ps : List (Nat × Nat)) : Keeps s₀ (blitRequests c ps s) := hs.issueAll _ _

theorem Keeps.blitWrites (c : BlitCmd) (ps : List (Nat × Nat)) : Keeps s₀ (blitWrites c ps s) :=
  (((hs.fold fun _ _ hu => hu.pixelWrite _ _ _ _ _).setBlt _).draw).blitRequests _ _

theorem Keeps.blitRun (c : BlitCmd) (ps : List (Nat × Nat)) : Keeps s₀ (blitRun c ps s) := by
  unfold Machine.blitRun
  split
  · exact hs.park _
  · next hx0 =>
    have hv0 := (hs.dramReads _ _) _ hx0
    exact ((hv0.blitWrites _ _).setF _ _ _).setF _ _ _

theorem Keeps.blitBegin (c : BlitCmd) : OutKeeps s₀ (blitBegin c s) := by
  unfold Machine.blitBegin
  dsimp only
  refine .ite ((hs.blitError _).next) (.ite (.fault _) ?_)
  split
  · exact (hs.park _).next
  · next hx0 =>
    have hv0 := (Granted.ite (hs.dramRead _ _ _) (Granted.ok hs)) _ hx0
    split
    · exact (.fault _)
    · exact (hv0.blitRun _ _).next

theorem Keeps.blitStart (op : Nat) : OutKeeps s₀ (blitStart op s) := by
  unfold Machine.blitStart
  refine .ite hs.next (.ite (.fault _) (.ite hs.next ?_))
  split
  · exact (hs.park _).next
  · next hx0 =>
    have hv0 := (hs.dramRead _ _ _) _ hx0
    exact hv0.blitBegin _

theorem Keeps.execBltCopy : OutKeeps s₀ (execBltCopy s) := hs.blitStart _

theorem Keeps.execBltFill : OutKeeps s₀ (execBltFill s) := hs.blitStart _

theorem Keeps.execBltBlend : OutKeeps s₀ (execBltBlend s) := hs.blitStart _

theorem Keeps.execBlitComplete : OutKeeps s₀ (execBlitComplete s) :=
  .ite hs.next (((((Keeps.ite (((hs.setF _ _ _).setReg _ _).setF _ _ _) ((hs.setF _ _ _).setReg _ _)).setF _ _
      _).setBlt _).pmcEvent _ _ _).next)

theorem Keeps.execBltTailWrite (m : Master) (tail : Fin 4096) : OutKeeps s₀ (execBltTailWrite m tail s) :=
  hs.gate fun _ hu => (hu.setF _ _ _).next

theorem Keeps.execBlitStop (m : Master) : OutKeeps s₀ (execBlitStop m s) := hs.gate fun _ hu => (hu.setF _ _ _).next

theorem Keeps.ringWrite (size : Bool) (v : Word) : OutKeeps s₀ (ringWrite size v s) :=
  .ite hs.next ((((hs.codeWrite _ _).setReg _ _).setReg _ _).next)

theorem Keeps.bltStatWrite (v : Word) : Keeps s₀ (bltStatWrite v s) :=
  .ite (hs.tableWrite _ _) ((hs.tableWrite _ _).setF _ _ _)

theorem Keeps.execRingConfig (m : Master) (size : Bool) (v : BitVec 29) : OutKeeps s₀ (execRingConfig m size v s) :=
  hs.gate fun _ hu => hu.ringWrite _ _

/-! ## Sys2Proof/Machine/Compose.lean -/

theorem Keeps.probePlane (d : Fin 4) (y : Nat) : Keeps s₀ (probePlane d y s) :=
  .ite (((hs.setReg _ _).setReg _ _).setF _ _ _) hs

theorem Keeps.readAgain (d : Fin 4) (w y : Nat) (ps : List (Fin 8)) (n : Nat) :
    Granted (fun r => Keeps s₀ r.2) (readAgain d w y ps (n, s)) := by
  induction ps generalizing n s with
  | nil => exact .ok hs
  | cons p ps ih => exact (hs.patAgainAll _ _ _ _).bind fun _ hu => ih hu _

theorem Keeps.probeOutput (d : Fin 4) (rows : Tab (List Rgba)) (ys : List Nat) : Keeps s₀ (probeOutput d rows ys s) :=
  .ite (((hs.setReg _ _).setReg _ _).setF _ _ _) hs

/-! ## Sys2Proof/Machine/Dram.lean -/

theorem Keeps.dramTrained : Keeps s₀ (dramTrained s) := (hs.setReg _ _).setReg _ _

theorem Keeps.execMemoryRequest (id : Fin 32) (a : Nat) (data : Option (List (BitVec 8))) (lock : Bool) (now : Nat) :
    OutKeeps s₀ (execMemoryRequest id a data lock now s) := by
  unfold Machine.execMemoryRequest
  dsimp only
  refine .ite hs.next (.ite (.fault _) (.ite (.fault _) ?_))
  split
  · exact .ite ((hs.issue _ _).next) (.fault _)
  · exact (hs.issue _ _).next

theorem Keeps.rankWrite (id : Nat) (rank : Nat) : Keeps s₀ (rankWrite id rank s) := (hs.setF _ _ _).applyRank _

theorem Keeps.execRankWrite (m : Master) (id : Fin 17) (rank : Fin 16) : OutKeeps s₀ (execRankWrite m id rank s) :=
  hs.gate fun _ hu => (hu.rankWrite _ _).next

theorem Keeps.arbNWrite (n : Nat) : OutKeeps s₀ (arbNWrite n s) := (hs.setReg _ _).next

theorem Keeps.execArbNWrite (m : Master) (n : Fin 128) : OutKeeps s₀ (execArbNWrite m n s) :=
  hs.gate fun _ hu => hu.arbNWrite _

theorem Keeps.execRefreshEmergency (c : Fin 4) (due : Nat) : OutKeeps s₀ (execRefreshEmergency c due s) :=
  .ite ((hs.setChannel _ _).next) hs.next

theorem Keeps.execWatchdogBite (c : Fin 4) : OutKeeps s₀ (execWatchdogBite c s) := by
  unfold Machine.execWatchdogBite
  dsimp only
  split
  · exact hs.next
  · exact .ite ((((((((hs.setRequester _ _).setF _ _ _).setChannel _ _).noteOwner _).applyRank _).setF _ _
      _).raiseTilt _).next) hs.next

theorem Keeps.execSelfRefreshEntry : OutKeeps s₀ (execSelfRefreshEntry s) :=
  .ite ((((hs.pmcEvent _ _ _).setF _ _ _).addF _ _ _).next) hs.next

theorem Keeps.execSelfRefreshExit : OutKeeps s₀ (execSelfRefreshExit s) := .ite ((hs.setF _ _ _).next) hs.next

theorem Keeps.noteEcc (a : Nat) (sram : Bool) : Keeps s₀ (noteEcc a sram s) := hs.setMc _

theorem Keeps.dramCorrected (a : Nat) : Keeps s₀ (dramCorrected a s) :=
  (((hs.pmcEvent _ _ _).addF _ _ _).setF _ _ _).noteEcc _ _

theorem Keeps.execReadReturn (c : Fin 4) (e : Ecc) : OutKeeps s₀ (execReadReturn c e s) := by
  unfold Machine.execReadReturn
  dsimp only
  split
  · exact (Keeps.ite hs (hs.setChannel _ _)).next
  · refine .ite hs.next ?_
    split
    · exact (hs.deliver _ _ _).next
    · exact ((hs.deliver _ _ _).dramCorrected _).next
    · exact (hs.setChannel _ _).next

theorem Keeps.dramRepeated (c : Fin 4) (f : Flight) (rest : List Flight) : Keeps s₀ (dramRepeated c f rest s) :=
  (((hs.deliver _ _ _).addF _ _ _).setF _ _ _).noteEcc _ _

theorem Keeps.execDramReadRepeat (c : Fin 4) (e : Ecc) : OutKeeps s₀ (execDramReadRepeat c e s) := by
  unfold Machine.execDramReadRepeat
  dsimp only
  split
  · exact hs.next
  · refine .ite hs.next ?_
    split
    · exact (hs.dramRepeated _ _ _).next
    · exact ((hs.dramRepeated _ _ _).dramCorrected _).next
    · exact ((hs.setChannel _ _).raiseTilt _).next

theorem Keeps.eccAddrRead : Keeps s₀ (eccAddrRead s).2 := hs.setReg _ _

theorem Keeps.execMemEccAddrLoRead (m : Master) : OutKeeps s₀ (execMemEccAddrLoRead m s) :=
  Keeps.gate hs fun _ hu => Keeps.next (.withRdata (.eccAddrRead hu))

/-! ## Sys2Proof/Machine/Ephemeris.lean -/

theorem Keeps.commitWrite (d : Fin 4) (v : Word) : Keeps s₀ (commitWrite d v s) :=
  .ite (((hs.setReg _ _).setClu _ _).handCue _ _) (hs.setF _ _ _)

theorem Keeps.execEphCommit (m : Master) (d : Fin 4) (frame : Word) : OutKeeps s₀ (execEphCommit m d frame s) :=
  hs.gate fun _ hu => (hu.commitWrite _ _).next

theorem Keeps.setOverrides (d : Fin 4) (os : List Override) : Keeps s₀ (setOverrides d os s) :=
  (hs.setClu _ _).setF _ _ _

theorem Keeps.reportRewrite (d : Fin 4) (outcome : Nat) : Keeps s₀ (reportRewrite d outcome s) := hs.setReg _ _

theorem Keeps.decideRewrite (d : Fin 4) (f : Nat) (o : Override) : Keeps s₀ (decideRewrite d f o s) := by
  unfold Machine.decideRewrite
  dsimp only
  split
  · exact hs.reportRewrite _ _
  · exact hs.setClu _ _
  · exact .ite ((hs.reportRewrite _ _).setOverrides _ _) (hs.reportRewrite _ _)

theorem Keeps.settleRewrites (d : Fin 4) : Keeps s₀ (settleRewrites d s) :=
  (hs.setClu _ _).fold fun _ _ hu => hu.decideRewrite _ _ _

theorem Keeps.rewriteWrite (d : Fin 4) (f band : Nat) : Keeps s₀ (rewriteWrite d f band s) := hs.decideRewrite _ _ _

theorem Keeps.execEphRewrite (m : Master) (d : Fin 4) (f : BitVec 23) (band : BitVec 9) :
    OutKeeps s₀ (execEphRewrite m d f band s) := hs.gate fun _ hu => (hu.rewriteWrite _ _ _).next

theorem Keeps.execHeaderRead (d : Fin 4) : OutKeeps s₀ (execHeaderRead d s) := by
  unfold Machine.execHeaderRead
  dsimp only
  split
  · exact hs.next
  · split
    · exact (hs.park _).next
    · next hx0 =>
      have hv0 := (Granted.ite (hs.dramRead _ _ _) Granted.error) _ hx0
      exact ((hv0.setClu _ _).settleRewrites _).next

theorem Keeps.frame0Write (d : Fin 4) (v : Word) : Keeps s₀ (frame0Write d v s) :=
  .ite hs ((((((hs.setReg _ _).setReg _ _).setReg _ _).setClu _ _).setOverrides _ _).settleRewrites _)

theorem Keeps.execEphFrame0Write (m : Master) (d : Fin 4) (v : Word) : OutKeeps s₀ (execEphFrame0Write m d v s) :=
  hs.gate fun _ hu => (hu.frame0Write _ _).next

theorem Keeps.startSequencer (d : Fin 4) : Keeps s₀ (startSequencer d s) :=
  (Keeps.ite (((hs.setF _ _ _).setF _ _ _).setClu _ _) ((((hs.setF _ _ _).setF _ _ _).setClu _ _).setF _ _
      _)).dropCues _

theorem Keeps.tryStart (d : Fin 4) : OutKeeps s₀ (tryStart d s) :=
  .ite hs.next (.ite ((hs.setF _ _ _).next) (.ite (.fault _) ((hs.startSequencer _).next)))

theorem Keeps.stopCluster (d : Fin 4) : Keeps s₀ (stopCluster d s) := hs.setClu _ _

theorem Keeps.ephCtrlWrite (d : Fin 4) (v : Word) : OutKeeps s₀ (ephCtrlWrite d v s) :=
  .ite (.ite hs.next (((hs.stopCluster _).setF _ _ _).next)) (.ite ((hs.tableWrite _ _).tryStart _)
      ((hs.tableWrite _ _).next))

theorem Keeps.execSequencerStart (m : Master) (d : Fin 4) (v : Word) : OutKeeps s₀ (execSequencerStart m d v s) :=
  hs.gate fun _ hu => .ite (hu.ephCtrlWrite _ _) (.fault _)

theorem Keeps.execSequencerStop (m : Master) (d : Fin 4) (v : Word) : OutKeeps s₀ (execSequencerStop m d v s) :=
  hs.gate fun _ hu => .ite (hu.ephCtrlWrite _ _) (.fault _)

theorem Keeps.execSequencerStopped (d : Fin 4) : OutKeeps s₀ (execSequencerStopped d s) :=
  .ite (((hs.setClu _ _).setF _ _ _).next) hs.next

theorem Keeps.headerTilt (d : Fin 4) (cause : Nat) : Keeps s₀ (headerTilt d cause s) := (hs.setF _ _ _).raiseTilt _

theorem Keeps.cmtLoad (d : Fin 4) (b : Band) : Keeps s₀ (cmtLoad d b s) :=
  .ite (((hs.setF _ _ _).setF _ _ _).setReg _ _) hs

theorem Keeps.openFrame (d : Fin 4) (b : Band) : Keeps s₀ (openFrame d b s) := .ite (hs.setClu _ _) hs

theorem Keeps.countLate (frame band : Nat) (d : Fin 4) : Keeps s₀ (countLate frame band s d) :=
  .ite hs ((((hs.setClu _ _).pmcEvent _ _ _).addF _ _ _).setF _ _ _)

theorem Keeps.countPair (d : Fin 4) (frame band : Nat) : Keeps s₀ (countPair d frame band s) :=
  hs.fold fun _ _ hu => hu.countLate _ _ _

theorem Keeps.openRaster (d : Fin 4) (b : Band) : Keeps s₀ (openRaster d b s) :=
  .ite (.ite ((hs.setClu _ _).countPair _ _ _) (hs.setClu _ _)) hs

theorem Keeps.enterRecord (d : Fin 4) (b : Band) : Keeps s₀ (enterRecord d b s) :=
  ((((hs.setReg _ _).cmtLoad _ _).openFrame _ _).openRaster _ _).setClu _ _

theorem Keeps.noteTake (d : Fin 4) (b : Band) : Keeps s₀ (noteTake d b s) :=
  .ite (((hs.setOverrides _ _).setReg _ _).setClu _ _) ((hs.setOverrides _ _).setClu _ _)

theorem Keeps.countUnderrun (d : Fin 4) (n : Nat) : Keeps s₀ (countUnderrun d n s) :=
  .ite hs ((hs.addF _ _ _).setF _ _ _)

theorem Keeps.assignFirst (d : Fin 4) (b : Band) : Keeps s₀ (assignFirst d b s) := by
  unfold Machine.assignFirst
  dsimp only
  refine .ite ?_ hs
  split
  · exact .ite ((Keeps.ite ((hs.setClu _ _).setF _ _ _) (hs.setClu _ _)).countUnderrun _ _) (.ite ((hs.setClu _
      _).setF _ _ _) (hs.setClu _ _))
  · exact hs

theorem Keeps.queueBand (d : Fin 4) (b : Band) : Keeps s₀ (queueBand d b s) :=
  .ite (hs.enterRecord _ _) (hs.setClu _ _)

theorem Keeps.takeReads (d : Fin 4) (frame band : Nat) (e : Override) :
    Granted (Keeps s₀) (takeReads d frame band e s) := by
  unfold Machine.takeReads
  exact ((Granted.ite (Granted.ok hs) (hs.dramRead _ _ _)).bind fun _ hu => hu.dramRead _ _ _).bind fun _ hu =>
      hu.dramRead _ _ _

theorem Keeps.takeBand (d : Fin 4) (frame band height count : Nat) :
    OutKeeps s₀ (takeBand d frame band height count s) := by
  unfold Machine.takeBand
  dsimp only
  refine .ite (.fault _) ?_
  split
  · exact (hs.park _).next
  · next hx0 =>
    have hv0 := (hs.takeReads _ _ _ _) _ hx0
    exact .ite ((hv0.headerTilt _ _).next) (.ite (.fault _) (((((hv0.noteTake _ _).assignFirst _ _).queueBand _
        _).setClu _ _).next))

theorem Keeps.takeFirst (d : Fin 4) (frame : Nat) : OutKeeps s₀ (takeFirst d frame s) := by
  unfold Machine.takeFirst
  dsimp only
  split
  · exact (hs.park _).next
  · next hx0 =>
    have hv0 := (hs.dramRead _ _ _) _ hx0
    exact .ite ((hv0.headerTilt _ _).next) (.ite (.fault _) ((hv0.setClu _ _).takeBand _ _ _ _ _))

theorem Keeps.execEphTake (d : Fin 4) : OutKeeps s₀ (execEphTake d s) :=
  .ite hs.next (.ite (hs.takeBand _ _ _ _ _) (hs.takeFirst _ _))

/-! ## Sys2Proof/Machine/Pipeline.lean -/

theorem Keeps.onFrame (d : Fin 4) (frame : Nat) (f : FrameWork → FrameWork) : Keeps s₀ (onFrame d frame f s) :=
  hs.setClu _ _

theorem Keeps.decideLate (d : Fin 4) (frame : Nat) (late : Bool) : Keeps s₀ (decideLate d frame late s) :=
  hs.onFrame _ _ _

theorem Keeps.addDigest (d : Fin 4) (frame band : Nat) (h : List Byte) (carried : Bool) :
    Keeps s₀ (addDigest d frame band h carried s) := hs.onFrame _ _ _

theorem Keeps.settleWb (d : Fin 4) (n : Nat) : Keeps s₀ (settleWb d n s) := by
  induction n generalizing s with
  | zero => exact hs
  | succ n ih =>
    unfold Machine.settleWb
    split
    · exact .ite hs (ih ((hs.setClu _ _).setReg _ _))
    · exact hs

theorem Keeps.frameOver (d : Fin 4) (frame : Nat) : Keeps s₀ (frameOver d frame s) := (hs.setClu _ _).settleWb _ _

theorem Keeps.composeDone (d : Fin 4) (b : Band) : Keeps s₀ (composeDone d b s) :=
  .ite ((hs.setReg _ _).frameOver _ _) (hs.setReg _ _)

theorem Keeps.freeSlots (d : Fin 4) (x : Nat) : Keeps s₀ (freeSlots d x s) := by
  unfold Machine.freeSlots
  refine hs.fold fun _ _ hu => ?_
  dsimp only
  split
  · exact .ite (hu.setClu _ _) hu
  · exact hu

theorem Keeps.wbFollow : Keeps s₀ (wbFollow s) := hs.fold fun _ _ hu => (hu.freeSlots _ _).settleWb _ _

theorem Keeps.execArbitration (c : Fin 4) (clocks : Nat) : OutKeeps s₀ (execArbitration c clocks s) :=
  .ite (((hs.slot _ _).wbFollow).next) hs.next

theorem Keeps.noteLag (d : Fin 4) (t : Nat) (x : Option Nat) : Keeps s₀ (noteLag d t x s) := by
  unfold Machine.noteLag
  dsimp only
  split
  · exact hs
  · exact .ite (.ite ((hs.setReg _ _).setReg _ _) (hs.setReg _ _)) hs

theorem Keeps.latchWb (d : Fin 4) (b : Band) : Keeps s₀ (latchWb d b s) := .ite (hs.setClu _ _) hs

theorem Keeps.nextPhase (d : Fin 4) (i : Fin 9) : Keeps s₀ (nextPhase d i s) := by
  unfold Machine.nextPhase
  dsimp only
  split
  · split
    · exact .ite ((hs.setWalk _ _ _).walkOn _ _ _) hs
    · exact hs
  · exact hs

theorem Keeps.beginWalk (d : Fin 4) (i : Fin 9) (ls : List Nat) : Keeps s₀ (beginWalk d i ls s) :=
  ((hs.setWalk _ _ _).walkOn _ _ _).nextPhase _ _

theorem Keeps.beginWalks (d : Fin 4) (b : Band) : Keeps s₀ (beginWalks d b s) :=
  (hs.fold fun _ _ hu => hu.beginWalk _ _ _).beginWalk _ _ _

theorem Keeps.noteWalks (d : Fin 4) : Keeps s₀ (noteWalks d s) := .ite (hs.setClu _ _) hs

theorem Keeps.execPatternFill (d : Fin 4) (u : PatUser) (tag : Nat) (set : Fin 32768) :
    OutKeeps s₀ (execPatternFill d u tag set s) := by
  unfold Machine.execPatternFill
  dsimp only
  split
  · exact hs.next
  · exact .ite hs.next ((((hs.fillArrives _ _ _ _).nextPhase _ _).noteWalks _).next)

theorem Keeps.carryDigest (d : Fin 4) (b : Band) : Keeps s₀ (carryDigest d b s) := by
  unfold Machine.carryDigest
  split
  · exact hs.onFrame _ _ _
  · exact hs.addDigest _ _ _ _ _

theorem Keeps.passSkipped (d : Fin 4) (b : Band) : Keeps s₀ (passSkipped d b s) :=
  (((hs.swapCoefs _ _).allWrites _ _).carryDigest _ _).composeDone _ _

theorem Keeps.enterSend (d : Fin 4) (t : Nat) (b : Band) : Keeps s₀ (enterSend d t b s) :=
  .ite (hs.decideLate _ _ _) (.ite hs (hs.setClu _ _))

theorem Keeps.enterCompose (d : Fin 4) (b : Band) : Keeps s₀ (enterCompose d b s) :=
  .ite (((hs.setClu _ _).latchWb _ _).passSkipped _ _) ((hs.setClu _ _).latchWb _ _)

theorem Keeps.enterFetch (d : Fin 4) (b : Band) : Keeps s₀ (enterFetch d b s) :=
  .ite (hs.setClu _ _) ((hs.setClu _ _).beginWalks _ _)

theorem Keeps.nextRecord (d : Fin 4) : Keeps s₀ (nextRecord d s) := by
  unfold Machine.nextRecord
  dsimp only
  split
  · exact (hs.setClu _ _).enterRecord _ _
  · exact .ite hs (hs.setF _ _ _)

theorem Keeps.stageStep {b : Option Band} {f : Band → State → State} (hf : ∀ x u, Keeps s₀ u → Keeps s₀ (f x u)) :
    Keeps s₀ (stageStep b f s) := by
  unfold Machine.stageStep
  split
  · exact hf _ _ hs
  · exact hs

theorem Keeps.tickCluster (t : Nat) (d : Fin 4) : Keeps s₀ (tickCluster t s d) :=
  (((((hs.setClu _ _).stageStep fun _ _ hu => hu.enterSend _ _ _).noteLag _ _ _).stageStep fun _ _ hu =>
      hu.enterCompose _ _).stageStep fun _ _ hu => hu.enterFetch _ _).nextRecord _

theorem Keeps.declare (t : Nat) (d : Fin 4) : Keeps s₀ (declare t s d) := .ite (hs.setReg _ _) hs

theorem Keeps.retryFirst (d : Fin 4) : Keeps s₀ (retryFirst d s) := by
  unfold Machine.retryFirst
  split
  · exact hs.assignFirst _ _
  · exact hs

theorem Keeps.countHeld (d : Fin 4) : Keeps s₀ (countHeld s d) :=
  .ite hs ((((hs.setClu _ _).pmcEvent _ _ _).addF _ _ _).setF _ _ _)

theorem Keeps.noteHold (d : Fin 4) : Keeps s₀ (noteHold d s) := .ite (hs.fold fun _ _ hu => hu.countHeld _) hs

theorem Keeps.execComposeTick (d : Fin 4) : OutKeeps s₀ (execComposeTick d s) := by
  unfold Machine.execComposeTick
  dsimp only
  refine .ite hs.next ?_
  split
  · exact (hs.fold fun _ _ hu => hu.retryFirst _).next
  · exact (((((hs.fold fun _ _ hu => hu.retryFirst _).reach _).fold fun _ _ hu => hu.tickCluster _ _).fold fun _ _ hu
      => hu.declare _ _).noteHold _).next

theorem Keeps.probeComet (d : Fin 4) (b : Band) (px : Tab Nat) : Keeps s₀ (probeComet d b px s) :=
  .ite (((hs.setReg _ _).setReg _ _).setF _ _ _) hs

theorem Keeps.noteComets (d : Fin 4) (b : Band) (px : Tab Nat) (t start fin : Nat) :
    Keeps s₀ (noteComets d b px t start fin s) :=
  .ite ((Keeps.ite (((((hs.setReg _ _).setReg _ _).setF _ _ _).pmcEvent _ _ _).addF _ _ _) (((hs.setReg _
      _).setReg _ _).setF _ _ _)).probeComet _ _ _) hs

theorem Keeps.rasteriseNow (d : Fin 4) (b : Band) (start wait : Nat) : Keeps s₀ (rasteriseNow d b start wait s) :=
  ((hs.setClu _ _).noteComets _ _ _ _ _ _).reach _

theorem Keeps.execRasteriseBand (d : Fin 4) (wait : Nat) : OutKeeps s₀ (execRasteriseBand d wait s) := by
  unfold Machine.execRasteriseBand
  dsimp only
  split
  · exact hs.next
  · refine .ite hs.next (.ite (.fault _) (.ite hs.next (.ite (.fault _) ?_)))
    split
    · exact (hs.park _).next
    · next r hr => exact ((hs.patAgainAll _ _ _ _ r hr).rasteriseNow _ _ _ _).next

theorem Keeps.execCmtProbeArm (m : Master) (d : Fin 4) (x y : Fin 8192) : OutKeeps s₀ (execCmtProbeArm m d x y s) :=
  hs.gate fun _ hu => (hu.armProbe _ _ _ _).next

theorem Keeps.writeBack (d : Fin 4) (wb : Vector Word 4) (b : Band) (lines : List (Nat × List Word)) :
    Keeps s₀ (writeBack d wb b lines s) := hs.issueAll _ _

theorem Keeps.composerUrgency (d : Fin 4) : Keeps s₀ (composerUrgency d s) := .ite (hs.setUrgent _ _) hs

theorem Keeps.noteWbWait (d : Fin 4) (frame band : Nat) : Keeps s₀ (noteWbWait d frame band s) :=
  .ite (hs.addF _ _ _) hs

omit hs in
theorem Keeps.composeLine {c : Comp} (hc : Keeps s₀ c.st) (d : Fin 4) (b : Band) (buf : Tab Nat) (w n : Nat) :
    Granted (fun c => Keeps s₀ c.st) (composeLine d b buf w c n) :=
  ((hc.writesAt d b n).readAgain d w _ _ _).map fun _ hu => hu.probePlane _ _

theorem Keeps.composeLines (d : Fin 4) (b : Band) (buf : Tab Nat) (rows : List (Nat × List Rgba)) :
    Granted (fun c => Keeps s₀ c.st) (composeLines d b buf rows s) := by
  unfold Machine.composeLines
  exact List.foldlRecOn (motive := fun o => Granted (fun c : Comp => Keeps s₀ c.st) o) _ _ (Granted.ok hs)
    fun o ho n _ => Granted.bind ho fun c hc => Keeps.composeLine hc d b buf _ n

omit hs in
theorem Keeps.composeInto {c : Comp} (hc : Keeps s₀ c.st) (d : Fin 4) (b : Band) (start wait : Nat) :
    Keeps s₀ (composeInto d b start wait c) := by
  unfold Machine.composeInto
  dsimp only
  refine .composerUrgency (.reach (.ite (.noteWbWait ?_ _ _ _) ?_) _) _
  all_goals
    refine .ite (.addF (.pmcEvent (.setReg ?_ _ _) _ _ _) _ _ _) (.setReg ?_ _ _)
    all_goals exact .composeDone (.probeOutput (.setClu (.ite (hc.writeBack _ _ _ _) hc) _ _) _ _ _) _ _

theorem Keeps.composeNow (d : Fin 4) (b : Band) (start wait : Nat) : OutKeeps s₀ (composeNow d b start wait s) := by
  unfold Machine.composeNow
  dsimp only
  split
  · exact (hs.park _).next
  · next c hc =>
    have h := Keeps.composeLines (hs.swapCoefs d b.coefSwap) d b _ _ c hc
    exact .ite (.fault _) (h.composeInto d b start _).next

theorem Keeps.execComposeBand (d : Fin 4) (wait : Nat) : OutKeeps s₀ (execComposeBand d wait s) := by
  unfold Machine.execComposeBand
  dsimp only
  split
  · exact hs.next
  · exact .ite hs.next (hs.composeNow _ _ _ _)

theorem Keeps.execCmpProbeArm (m : Master) (d : Fin 4) (x y : Fin 8192) : OutKeeps s₀ (execCmpProbeArm m d x y s) :=
  hs.gate fun _ hu => (hu.armProbe _ _ _ _).next

/-! ## Sys2Proof/Machine/Display.lean -/

theorem Keeps.screenRead (d : Fin 4) (y : Nat) : Granted (Keeps s₀) (screenRead d y s) := by
  unfold Machine.screenRead
  split
  · exact .ok hs
  · refine (Granted.ite (hs.dramRead _ _ _) (.ok hs)).bind fun _ hu => ?_
    split
    · exact .ok hu
    · exact hu.dramRead _ _ _

theorem Keeps.setSent (d : Fin 4) (ws : List Word) : Keeps s₀ (setSent d ws s) := hs.setBeam _ _

theorem Keeps.markOne (frame band : Nat) (d : Fin 4) : Keeps s₀ (markOne frame band s d) := hs.setClu _ _

theorem Keeps.markUnder (d : Fin 4) (frame y : Nat) : Keeps s₀ (markUnder d frame y s) := by
  unfold Machine.markUnder
  split
  · exact hs
  · exact (hs.fold fun _ _ hu => hu.markOne _ _ _).countPair _ _ _

theorem Keeps.rasterLine (d : Fin 4) (y x : Nat) : Keeps s₀ (rasterLine d y x s) := by
  unfold Machine.rasterLine
  dsimp only
  split
  · exact hs.setSent _ _
  · split
    · exact hs.setSent _ _
    · exact .ite (((hs.setSent _ _).countUnderrun _ _).markUnder _ _ _) (hs.setSent _ _)

theorem Keeps.sendLine (d : Fin 4) (unread : Bool) (x : Nat) : Keeps s₀ (sendLine d unread x s) := by
  unfold Machine.sendLine
  dsimp only
  refine .ite ((hs.setBeam _ _).setSent _ _) (.ite ?_ ((hs.setBeam _ _).rasterLine _ _ _))
  split
  · next hx0 =>
    have hv0 := ((hs.setBeam _ _).screenRead _ _) _ hx0
    exact .ite ((hv0.setSent _ _).countUnderrun _ _) (hv0.setSent _ _)
  · exact (((hs.setBeam _ _).park _).setSent _ _).countUnderrun _ _

theorem Keeps.slotSent (d : Fin 4) (frame band x : Nat) : Keeps s₀ (slotSent d frame band x s) :=
  ((hs.noteWbWait _ _ _).setClu _ _).freeSlots _ _

theorem Keeps.leaveBands (d : Fin 4) (x : Nat) : Keeps s₀ (leaveBands d x s) :=
  (hs.setClu _ _).fold fun _ _ hu => (hu.decideLate _ _ _).slotSent _ _ _ _

theorem Keeps.showBeam (d : Fin 4) : Keeps s₀ (showBeam d s) := (hs.setReg _ _).setF _ _ _

theorem Keeps.applyArmed (d : Fin 4) (x : Nat) : Keeps s₀ (applyArmed d x s) :=
  .ite (((hs.shadowLive _).setF _ _ _).setBeam _ _) hs

theorem Keeps.tiltMode (d : Fin 4) : Keeps s₀ (tiltMode d s) :=
  .ite (.ite (((hs.modeLive _ _).setBeam _ _).setF _ _ _) ((hs.modeLive _ _).setBeam _ _)) hs

theorem Keeps.lookahead (d : Fin 4) : Keeps s₀ (lookahead d s) := by
  unfold Machine.lookahead
  dsimp only
  refine .ite ?_ hs
  split
  · exact .ite hs (hs.setClu _ _)
  · exact .ite hs (hs.setF _ _ _)

theorem Keeps.beamUrgency (d : Fin 4) : Keeps s₀ (beamUrgency d s) :=
  .ite ((hs.composerUrgency _).setUrgent _ _) (hs.composerUrgency _)

theorem Keeps.lineBegins (unread : Bool) (x : Nat) (d : Fin 4) : Keeps s₀ (lineBegins unread x s d) :=
  ((Keeps.ite ((((((Keeps.ite (hs.captureEdge _) hs).leaveBands _ _).applyArmed _ _).tiltMode _).lookahead
      _).sendLine _ _ _) (((((Keeps.ite (hs.captureEdge _) hs).leaveBands _ _).applyArmed _ _).tiltMode _).setBeam
      _ _)).showBeam _).beamUrgency _

theorem Keeps.execBeamStart (d : Fin 4) : OutKeeps s₀ (execBeamStart d s) :=
  .ite hs.next (.ite (.ite (((hs.setBeam _ _).lineBegins _ _ _).next) hs.next) ((((hs.setBeam _ _).reach
      _).lineBegins _ _ _).next))

theorem Keeps.nextLine (vt : Nat) (d : Fin 4) : Keeps s₀ (nextLine vt s d) := .ite (hs.setBeam _ _) (hs.setBeam _ _)

theorem Keeps.execBeamLine (d : Fin 4) (unread : Bool) : OutKeeps s₀ (execBeamLine d unread s) := by
  unfold Machine.execBeamLine
  dsimp only
  refine .ite hs.next ?_
  split
  · exact (hs.park _).next
  · exact (((hs.fold fun _ _ hu => hu.nextLine _ _).reach _).fold fun _ _ hu => hu.lineBegins _ _ _).next

theorem Keeps.applyArm (d : Fin 4) (line : Nat) : Keeps s₀ (applyArm d line s) := hs.setReg _ _

theorem Keeps.applyWrite (d : Fin 4) (line : Nat) (arm : Bool) : OutKeeps s₀ (applyWrite d line arm s) :=
  .ite (.fault _) ((Keeps.ite (hs.applyArm _ _) (hs.setF _ _ _)).next)

theorem Keeps.execApplyArm (m : Master) (d : Fin 4) (line : Fin 8192) : OutKeeps s₀ (execApplyArm m d line s) :=
  hs.gate fun _ hu => hu.applyWrite _ _ _

theorem Keeps.beginSend (d : Fin 4) (b : Band) (x : Nat) (late : Bool) : Keeps s₀ (beginSend d b x late s) :=
  (hs.setClu _ _).decideLate _ _ _

theorem Keeps.execSendBand (d : Fin 4) : OutKeeps s₀ (execSendBand d s) :=
  .ite hs.next (((((Keeps.ite ((hs.noteHold _).fold fun _ _ hu => hu.countPair _ _ _) (hs.noteHold _)).fold fun _
      _ hu => hu.beginSend _ _ _ _).fold fun _ _ hu => hu.setClu _ _).reach _).next)

theorem Keeps.execSendEnd (d : Fin 4) (band : Nat) : OutKeeps s₀ (execSendEnd d band s) := by
  unfold Machine.execSendEnd
  dsimp only
  split
  · exact hs.next
  · exact .ite hs.next (((((hs.setClu _ _).slotSent _ _ _ _).noteHold _).reach _).next)

theorem Keeps.trainWrite (d : Fin 4) : Keeps s₀ (trainWrite d s) := .ite hs (hs.startTraining _)

theorem Keeps.execDspTrain (m : Master) (d : Fin 4) : OutKeeps s₀ (execDspTrain m d s) :=
  hs.gate fun _ hu => (hu.trainWrite _).next

theorem Keeps.bootTrained (d : Fin 4) : Keeps s₀ (bootTrained d s) :=
  .ite hs (.ite (hs.modeWrite _ _) (.ite (hs.setF _ _ _) hs))

theorem Keeps.execTrainingEnd (d : Fin 4) (result : Fin 8) (su : Bool) (ygran : Fin 64) :
    OutKeeps s₀ (execTrainingEnd d result su ygran s) :=
  .ite hs.next ((Keeps.ite (((hs.setReg _ _).setF _ _ _).bootTrained _) ((hs.setReg _ _).setF _ _ _)).next)

theorem Keeps.execRetrain (d : Fin 4) : OutKeeps s₀ (execRetrain d s) := .ite ((hs.startTraining _).next) hs.next

theorem Keeps.outputTilt (d : Fin 4) (cause : Nat) : Keeps s₀ (outputTilt d cause s) := (hs.setF _ _ _).raiseTilt _

theorem Keeps.noteBurst (d : Fin 4) (n : Nat) : Keeps s₀ (noteBurst d n s) := ((hs.setF _ _ _).addF _ _ _).addF _ _ _

theorem Keeps.burstInSend (d : Fin 4) (z : Sending) (i k clocks : Nat) : Keeps s₀ (burstInSend d z i k clocks s) :=
  .ite ((hs.setClu _ _).noteBurst _ _) (((hs.setClu _ _).noteBurst _ _).outputTilt _ _)

theorem Keeps.execLaneMismatch (d : Fin 4) (_lane : Fin 4) (first last : Fin 8192) (clocks : Nat) :
    OutKeeps s₀ (execLaneMismatch d _lane first last clocks s) := by
  unfold Machine.execLaneMismatch
  dsimp only
  refine .ite hs.next (.ite ((Keeps.ite ((hs.noteBurst _ _).outputTilt _ _) (hs.noteBurst _ _)).next) ?_)
  split
  · exact (hs.noteBurst _ _).next
  · exact .ite ((hs.burstInSend _ _ _ _ _).next) hs.next

theorem Keeps.linkLost (d : Fin 4) (cause : Nat) : OutKeeps s₀ (linkLost d cause s) :=
  .ite (((hs.setF _ _ _).outputTilt _ _).next) hs.next

theorem Keeps.execHpdLost (d : Fin 4) : OutKeeps s₀ (execHpdLost d s) := hs.linkLost _ _

theorem Keeps.execIrqHpd (d : Fin 4) (updateError : Bool) : OutKeeps s₀ (execIrqHpd d updateError s) :=
  hs.linkLost _ _

/-! ## Sys2Proof/Machine/Digest.lean -/

theorem Keeps.execBandDigest (d : Fin 4) (i : Fin 2) (after : Nat) : OutKeeps s₀ (execBandDigest d i after s) := by
  unfold Machine.execBandDigest
  dsimp only
  split
  · exact hs.next
  · exact .ite hs.next (((((hs.setClu _ _).addDigest _ _ _ _ _).freeSlots _ _).reach _).next)

theorem Keeps.execFrameDigest (d : Fin 4) : OutKeeps s₀ (execFrameDigest d s) := by
  unfold Machine.execFrameDigest
  split
  · exact hs.next
  · exact .ite hs.next (((hs.onFrame _ _ _).reach _).next)

theorem Keeps.setExport (d : Fin 4) (q : List ExportEntry) : Keeps s₀ (setExport d q s) := (hs.setClu _ _).setF _ _ _

theorem Keeps.noteCompare (d : Fin 4) (frame : Nat) (same : Bool) : Keeps s₀ (noteCompare d frame same s) :=
  .ite (hs.addF _ _ _) (.ite (((hs.addF _ _ _).addF _ _ _).setF _ _ _) (((((hs.addF _ _ _).addF _ _ _).setF _ _
      _).setClu _ _).setReg _ _))

theorem Keeps.dumpDigests (d : Fin 4) (n : Nat) (es : List (Nat × List Byte)) :
    Granted (Keeps s₀) (dumpDigests d n es s) := by
  induction es generalizing s with
  | nil => exact .ok hs
  | cons e es ih => exact (hs.dramWrite _ _ _).bind fun _ hu => ih hu

theorem Keeps.dumpFrame (d : Fin 4) (w : FrameWork) (n : Nat) : Granted (Keeps s₀) (dumpFrame d w n s) :=
  hs.dumpDigests _ _ _

theorem Keeps.recallCompare (d : Fin 4) (w : FrameWork) (h : List Byte) : Keeps s₀ (recallCompare d w h s) := by
  unfold Machine.recallCompare
  dsimp only
  split
  · exact hs
  · exact .ite ((hs.noteCompare _ _ _).setF _ _ _) (hs.noteCompare _ _ _)

theorem Keeps.exportOverflow (d : Fin 4) : Keeps s₀ (exportOverflow d s) := (hs.setF _ _ _).raiseTilt _

theorem Keeps.recallAccess (d : Fin 4) (w : FrameWork) : Granted (Keeps s₀) (recallAccess d w s) := by
  unfold Machine.recallAccess
  split
  · exact (hs.dramRead _ _ _).bind fun _ hu => .ite (hu.dumpFrame _ _ _) (Granted.ok hu)
  · exact Granted.ok hs

theorem Keeps.exportFrame (d : Fin 4) (w : FrameWork) (ws : List FrameWork) (h : List Byte) :
    Keeps s₀ (exportFrame d w ws h s) :=
  .ite (((Keeps.ite ((hs.setClu _ _).setReg _ _) (((hs.setClu _ _).setReg _ _).setExport _ _)).recallCompare _ _
      _).exportOverflow _) ((Keeps.ite ((hs.setClu _ _).setReg _ _) (((hs.setClu _ _).setReg _ _).setExport _
      _)).recallCompare _ _ _)

theorem Keeps.execDigestExport (d : Fin 4) : OutKeeps s₀ (execDigestExport d s) := by
  unfold Machine.execDigestExport
  split
  · exact hs.next
  · split
    · exact hs.next
    · refine .ite hs.next (.ite (.fault _) ?_)
      split
      · next hx0 =>
        have hv0 := (hs.recallAccess _ _) _ hx0
        exact (hv0.exportFrame _ _ _ _).next
      · exact (hs.park _).next

theorem Keeps.digCtrlWrite (d : Fin 4) (recallOn dump : Bool) : Keeps s₀ (digCtrlWrite d recallOn dump s) :=
  .ite hs (.ite ((((hs.setReg _ _).setClu _ _).setReg _ _).setReg _ _) (.ite ((hs.setReg _ _).cueReload _)
      (hs.setReg _ _)))

theorem Keeps.execRecallEnable (m : Master) (d : Fin 4) (dump : Bool) : OutKeeps s₀ (execRecallEnable m d dump s) :=
  hs.gate fun _ hu => (hu.digCtrlWrite _ _ _).next

theorem Keeps.execRecallClear (m : Master) (d : Fin 4) (dump : Bool) : OutKeeps s₀ (execRecallClear m d dump s) :=
  hs.gate fun _ hu => (hu.digCtrlWrite _ _ _).next

/-! ## Sys2Proof/Machine/Trust.lean -/

theorem Keeps.setEntropy (e : Entropy) : Keeps s₀ (setEntropy e s) := .withSec hs

theorem Keeps.notePool : Keeps s₀ (notePool s) := hs.setF _ _ _

theorem Keeps.noteLow : Keeps s₀ (noteLow s) := .ite (hs.setF _ _ _) hs

theorem Keeps.takeBlock (r : List Byte × State) (h : takeBlock s = some r) : Keeps s₀ r.2 := by
  unfold Machine.takeBlock at h
  split at h
  · injection h with h
    exact h ▸ (hs.setEntropy _).notePool
  · exact nomatch h

theorem Keeps.setMgmt (d : Drbg) : Keeps s₀ (setMgmt d s) := .withSec hs

theorem Keeps.mgmtDraw (n : Nat) : Keeps s₀ (mgmtDraw n s).2 := by
  unfold Machine.mgmtDraw
  dsimp only
  split
  · exact hs
  · refine .iteSnd (hs.setMgmt _) (.iteSnd (.noteLow (.withSec hs)) ?_)
    split
    · exact .noteLow (.withSec hs)
    · next hx0 =>
      have hv0 := hs.takeBlock _ hx0
      exact hv0.setMgmt _

theorem Keeps.releaseSig (sig : List Byte) : Keeps s₀ (releaseSig sig s).2 := .withSec hs

theorem Keeps.setRedraw (b : Bool) : Keeps s₀ (setRedraw b s) := .withSec hs

theorem Keeps.slhAgain (set : Nat) (pre : Bool) (sk ctx msg e2 : List Byte) :
    Keeps s₀ (slhAgain set pre sk ctx msg e2 s).2 := by
  unfold Machine.slhAgain
  dsimp only
  split
  · next hx0 =>
    have hv0 := (hs.mgmtDraw _).ofSnd hx0
    exact hv0.setRedraw _
  · next hx0 =>
    have hv0 := (hs.mgmtDraw _).ofSnd hx0
    exact .iteSnd ((hv0.setRedraw _).releaseSig _) (((hv0.setRedraw _).setF _ _ _).raiseTilt _)

theorem Keeps.slhSignOp (set : Nat) (pre : Bool) (sk ctx msg e1 e2 : List Byte) :
    Keeps s₀ (slhSignOp set pre sk ctx msg e1 e2 s).2 := by
  unfold Machine.slhSignOp
  dsimp only
  refine .iteSnd (hs.slhAgain _ _ _ _ _ _) ?_
  split
  · next hx0 =>
    have hv0 := (hs.mgmtDraw _).ofSnd hx0
    exact hv0
  · next hx0 =>
    have hv0 := (hs.mgmtDraw _).ofSnd hx0
    exact .iteSnd (hv0.releaseSig _) (hv0.slhAgain _ _ _ _ _ _)

theorem Keeps.execHashSlhSign (key : SlhKey) (ctx msg e1 e2 : List Byte) :
    OutKeeps s₀ (execHashSlhSign key ctx msg e1 e2 s) := .ite ((hs.slhSignOp _ _ _ _ _ _ _).next) hs.next

theorem Keeps.verifyJob (set : Nat) (pre : Bool) (pk ctx msg sig : List Byte) :
    OutKeeps s₀ (verifyJob set pre pk ctx msg sig s) := .ite (Keeps.next (.withSec hs)) (Keeps.next hs)

theorem Keeps.execSlhVerify (set128f : Bool) (pk ctx msg sig : List Byte) :
    OutKeeps s₀ (execSlhVerify set128f pk ctx msg sig s) := hs.verifyJob _ _ _ _ _ _

theorem Keeps.execHashSlhVerify (set128f : Bool) (pk ctx msg sig : List Byte) :
    OutKeeps s₀ (execHashSlhVerify set128f pk ctx msg sig s) := hs.verifyJob _ _ _ _ _ _

theorem Keeps.fuseEnd (result : Nat) : Keeps s₀ (fuseEnd result s) :=
  .withSec (.setF (.setF (.setF (.fold hs fun _ _ hu => .setReg hu _ _) _ _ _) _ _ _) _ _ _)

theorem Keeps.fuseCommand (op : Nat) : Keeps s₀ (fuseCommand op s) :=
  .ite hs (.ite (.fuseEnd hs _) (.withSec (.setF (.setF hs _ _ _) _ _ _)))

theorem Keeps.fuseRow (m : Master) (op : Nat) : OutKeeps s₀ (fuseRow m op s) := by
  unfold Machine.fuseRow
  refine hs.gate fun _ hu => ?_
  split
  · exact (hu.fuseCommand _).next
  · exact hu.next

theorem Keeps.execProgramRoot (m : Master) : OutKeeps s₀ (execProgramRoot m s) := hs.fuseRow _ _

theorem Keeps.execWithdrawVersion1 (m : Master) : OutKeeps s₀ (execWithdrawVersion1 m s) := hs.fuseRow _ _

theorem Keeps.execRaiseSecurityMinimum (m : Master) : OutKeeps s₀ (execRaiseSecurityMinimum m s) := hs.fuseRow _ _

theorem Keeps.execGenerateCheckpointKey (m : Master) : OutKeeps s₀ (execGenerateCheckpointKey m s) := hs.fuseRow _ _

theorem Keeps.execLoadFloorKey (m : Master) : OutKeeps s₀ (execLoadFloorKey m s) := hs.fuseRow _ _

theorem Keeps.fuseEffect (op : Nat) (data : List Byte) (good : Bool) : Keeps s₀ (fuseEffect op data good s).2 := by
  unfold Machine.fuseEffect
  dsimp only
  refine .iteSnd hs (.iteSnd hs (.iteSnd hs (.iteSnd hs ?_)))
  split
  · next hx0 =>
    have hv0 := (hs.mgmtDraw _).ofSnd hx0
    exact hv0
  · next hx0 =>
    have hv0 := (hs.mgmtDraw _).ofSnd hx0
    exact hv0

theorem Keeps.execFuseCommandEnd (good : Bool) : OutKeeps s₀ (execFuseCommandEnd good s) := by
  unfold Machine.execFuseCommandEnd
  dsimp only
  split
  · exact hs.next
  · refine .ite hs.next ?_
    split
    · next hx0 =>
      have hv0 := (hs.fuseEffect _ _ _).ofSnd hx0
      exact hv0.next
    · next hx0 =>
      have hv0 := (hs.fuseEffect _ _ _).ofSnd hx0
      exact Keeps.next (.fuseEnd (.ite (.setF (.draw (.withSec hv0)) _ _ _) (.draw (.withSec hv0))) _)

theorem Keeps.intermittent (cnt : Fld) : Keeps s₀ (intermittent cnt s) := ((hs.setEntropy _).addF _ _ _).setF _ _ _

theorem Keeps.rawSample (b : Bool) : Keeps s₀ (rawSample b s) :=
  .ite (hs.setEntropy _) (.ite ((hs.setEntropy _).setF _ _ _) (((hs.setEntropy _).setReg _ _).setF _ _ _))

theorem Keeps.tapSample (b : Bool) : Keeps s₀ (tapSample b s) := .ite (hs.rawSample _) hs

theorem Keeps.execStartUpTest (samples : List Bool) : OutKeeps s₀ (execStartUpTest samples s) :=
  .ite hs.next (.ite (((hs.fold fun _ _ hu => hu.tapSample _).setF _ _ _).next) (.ite (((hs.fold fun _ _ hu =>
      hu.tapSample _).setEntropy _).next) (((((hs.fold fun _ _ hu => hu.tapSample _).setEntropy _).setF _ _
      _).raiseTilt _).next)))

theorem Keeps.execEntropySample (b : Bool) : OutKeeps s₀ (execEntropySample b s) :=
  .ite hs.next (.ite ((hs.tapSample _).next) (.ite ((((hs.tapSample _).setEntropy _).intermittent _).next) (.ite
      ((((hs.tapSample _).setEntropy _).intermittent _).next) (.ite ((((hs.tapSample _).setEntropy _).setEntropy
      _).next) (((hs.tapSample _).setEntropy _).next)))))

theorem Keeps.execPersistentFailure : OutKeeps s₀ (execPersistentFailure s) :=
  .ite ((((hs.setEntropy _).setF _ _ _).raiseTilt _).next) hs.next

theorem Keeps.feedInstances (n : Nat) : Keeps s₀ (feedInstances n s) := by
  induction n generalizing s with
  | zero => exact hs
  | succ n ih =>
    unfold Machine.feedInstances
    split
    · next hb => exact Keeps.noteLow (Keeps.setF (Keeps.withSec (hs.takeBlock _ hb)) _ _ _)
    · next hb => exact ih (Keeps.withSec (hs.takeBlock _ hb))
    · exact hs.noteLow

theorem Keeps.execConditionedBlock : OutKeeps s₀ (execConditionedBlock s) :=
  .ite ((((hs.setEntropy _).notePool).feedInstances _).next) hs.next

theorem Keeps.execKnownAnswerTest (ok : Bool) : OutKeeps s₀ (execKnownAnswerTest ok s) :=
  .ite (Keeps.next hs) (.ite (Keeps.next (.raiseTilt (.setF hs _ _ _) _)) (Keeps.next (.feedInstances (.withSec
      hs) _)))

theorem Keeps.drbgRequest (k : Fin 8) (n : Nat) : OutKeeps s₀ (drbgRequest k n s) := by
  unfold Machine.drbgRequest
  dsimp only
  refine .ite (hs.setF _ _ _).next (Keeps.next (.noteLow ?_))
  have h : ∀ t x y, Keeps s₀ t → Keeps s₀ { t with sec := x, free := y } := fun _ _ _ ht => ht.same rfl
  exact h _ _ _ (.setF (.setF (.ite (hs.discardUnread k) hs) _ _ _) _ _ _)

theorem Keeps.execDrbgRequest (k : CoreId) (n : Fin 32) : OutKeeps s₀ (execDrbgRequest k n s) := by
  unfold Machine.execDrbgRequest
  refine hs.gate fun _ hu => ?_
  split
  · exact hu.drbgRequest _ _
  · exact hu.next

theorem Keeps.outcomeReady : Keeps s₀ (outcomeReady s).2 := by
  unfold Machine.outcomeReady
  dsimp only
  split
  · exact hs
  · refine .iteSnd ?_ hs
    split
    · exact hs.noteLow
    · next hx0 =>
      have hv0 := hs.takeBlock _ hx0
      exact .withSec (.setF (.setReg (.setReg hv0 _ _) _ _) _ _ _)

theorem Keeps.execDrbgGenerate : OutKeeps s₀ (execDrbgGenerate s) := by
  unfold Machine.execDrbgGenerate
  dsimp only
  refine .ite hs.next ?_
  split
  · exact hs.next
  · split
    · next hx0 =>
      have hv0 := hs.outcomeReady.ofSnd hx0
      exact hv0.next
    · next hx0 =>
      have hv0 := hs.outcomeReady.ofSnd hx0
      exact Keeps.next (.noteLow (.withSec (.setF (.setF (.setReg (.fold hv0 fun _ _ hu1 => .setReg hu1 _ _) _ _) _ _
          _) _ _ _)))

theorem Keeps.execReseedRequest (m : Master) : OutKeeps s₀ (execReseedRequest m s) :=
  hs.gate fun _ hu => ((hu.setF _ _ _).noteLow).next

theorem Keeps.outcomeRead (k : Fin 8) (i : Nat) : Keeps s₀ (outcomeRead k i s).2 :=
  .iteSnd (.ite (.setF (.withSec (.setReg hs _ _)) _ _ _) (.withSec (.setReg hs _ _))) hs

theorem Keeps.execOutcomeRead (k : CoreId) (i : Fin 16) : OutKeeps s₀ (execOutcomeRead k i s) := by
  unfold Machine.execOutcomeRead
  refine hs.gate fun _ hu => ?_
  dsimp only
  split
  · exact Keeps.next (.withRdata (.outcomeRead hu _ _))
  · exact hu.next

/-! ## Sys2Proof/Machine/FloorSend.lean -/

theorem Keeps.resolveHop : Keeps s₀ (resolveHop s) := .ite hs (hs.setFlr _)

theorem Keeps.sendFragment (type_ count msg : Nat) (again : Bool) (part : List Byte × Nat) :
    Keeps s₀ (sendFragment type_ count msg again part s) := ((hs.resolveHop.addF _ _ _).addF _ _ _).setFlr _

theorem Keeps.sendMessage (type_ : Nat) (body : List Byte) (again : Option Nat) :
    Keeps s₀ (sendMessage type_ body again s) :=
  (Keeps.ite hs (hs.floorFetch _)).fold fun _ _ hu => hu.sendFragment _ _ _ _ _

theorem Keeps.sendHello (again : Bool) : Keeps s₀ (sendHello again s) := .ite (hs.sendMessage _ _ _) hs

theorem Keeps.firstHello : Keeps s₀ (firstHello s) := .ite ((hs.setFlr _).sendHello _) hs

theorem Keeps.sendQueued (n : Nat) (ms : List FloorMsg) : Keeps s₀ (sendQueued n ms s).2 := by
  induction ms generalizing n s with
  | nil => exact hs
  | cons m ms ih => exact .iteSnd (ih hs _) (.iteSnd (ih (hs.sendMessage _ _ _) _) hs)

theorem Keeps.sendRecord : Keeps s₀ (sendRecord s) := by
  unfold Machine.sendRecord
  dsimp only
  refine .ite hs ?_
  split
  · exact hs.setFlr _
  · exact (hs.setFlr _).sendMessage _ _ _

theorem Keeps.floorPump : Keeps s₀ (floorPump s) := .ite ((hs.sendRecord.sendQueued _ _).setFlr _) hs

theorem Keeps.floorFull : Keeps s₀ (floorFull s) := .ite (((hs.setFlr _).setF _ _ _).raiseTilt _) hs

theorem Keeps.floorQuiet : Keeps s₀ (floorQuiet s) := hs.setFlr _

theorem Keeps.floorSettle : Keeps s₀ (floorSettle s) := hs.floorQuiet.floorPump.floorFull

/-! ## Sys2Proof/Machine/Ledger.lean -/

theorem Keeps.sealStore : Keeps s₀ (sealStore s) := hs.setLdg _

theorem Keeps.storeSealed (ends : Option (Nat × Nat)) : Keeps s₀ (storeSealed ends s) := by
  unfold Machine.storeSealed
  dsimp only
  refine Keeps.raiseTilt ?_ _
  refine Keeps.setF ?_ _ _ _
  refine Keeps.endQueued ?_ _
  refine Keeps.setF ?_ _ _ _
  refine Keeps.setLdg ?_ _
  split
  · exact hs.mevEnd _ _
  · exact hs

theorem Keeps.eventMoved (i : Nat) : Keeps s₀ (eventMoved i s) := .ite ((hs.setF _ _ _).raiseTilt _) hs

theorem Keeps.settleMarks : Keeps s₀ (settleMarks s) := by
  unfold Machine.settleMarks
  dsimp only
  split
  · exact hs.storeSealed _
  · exact (hs.setLdg _).eventMoved _
  · exact hs

theorem Keeps.runGranules (n : Nat) : Keeps s₀ (runGranules n s) := by
  induction n generalizing s with
  | zero => exact hs
  | succ n ih => exact ih (hs.runJobs 1).settleMarks

theorem Keeps.remapRow (w : GWrite) (js : List Job) (spareFails : Nat) : Keeps s₀ (remapRow w js spareFails s) := by
  unfold Machine.remapRow
  dsimp only
  refine .ite ((hs.setLdg _).settleMarks) ?_
  split
  · exact hs.sealStore
  · exact hs.setLdg _

theorem Keeps.execGranuleWrite (fails spareFails : Nat) : OutKeeps s₀ (execGranuleWrite fails spareFails s) := by
  unfold Machine.execGranuleWrite
  dsimp only
  refine .ite hs.next ?_
  split
  · exact ((Keeps.ite ((hs.runMarks _).runGranules _) ((hs.runMarks _).remapRow _ _ _)).floorSettle).next
  · exact ((hs.runMarks _).floorSettle).next

theorem Keeps.mevSubmit (k kind : Nat) : Keeps s₀ (mevSubmit k kind s) :=
  .ite (hs.setF _ _ _) (.ite (.ite (hs.setF _ _ _) ((hs.setF _ _ _).setLdg _)) hs)

theorem Keeps.mevRow (k : CoreId) (kind : Nat) : OutKeeps s₀ (mevRow k kind s) :=
  hs.gate fun _ hu => (hu.mevSubmit _ _).next

theorem Keeps.execGameAdvance (k : CoreId) : OutKeeps s₀ (execGameAdvance k s) := hs.mevRow _ _

theorem Keeps.execGameClose (k : CoreId) : OutKeeps s₀ (execGameClose k s) := hs.mevRow _ _

theorem Keeps.serveEvent (n : Nat) : Keeps s₀ (serveEvent n s) := by
  unfold Machine.serveEvent
  dsimp only
  split
  · exact hs
  · exact .ite ((((hs.setLdg _).mevEnd _ _).dipsAhead _).logDue) (((((hs.setLdg _).addJobs _).dipsAhead
      _).logDue).runGranules _)

theorem Keeps.execMeterCommit (n : Nat) : OutKeeps s₀ (execMeterCommit n s) :=
  .ite hs.next (((hs.serveEvent _).floorSettle).next)

theorem Keeps.meterRead (k : Nat) : Keeps s₀ (meterRead k s).2 := hs.setReg _ _

theorem Keeps.execMeterRead (k : CoreId) : OutKeeps s₀ (execMeterRead k s) :=
  Keeps.gate hs fun _ hu => Keeps.next (.withRdata (.meterRead hu _))

theorem Keeps.seqRead (k : Nat) : Keeps s₀ (seqRead k s).2 := hs.setReg _ _

theorem Keeps.execSeqRead (k : CoreId) : OutKeeps s₀ (execSeqRead k s) :=
  Keeps.gate hs fun _ hu => Keeps.next (.withRdata (.seqRead hu _))

theorem Keeps.capture (e : LogEvent) : Keeps s₀ (capture e s) :=
  .ite (((hs.latchEdge _).wakeEvent _ _).setLdg _) (((hs.latchEdge _).wakeEvent _ _).addF _ _ _)

theorem Keeps.execDoorEvent (i : Fin 10) (level : Bool) : OutKeeps s₀ (execDoorEvent i level s) :=
  .ite hs.next (.ite (((hs.setF _ _ _).capture _).next) ((hs.setF _ _ _).next))

theorem Keeps.execEventMove : OutKeeps s₀ (execEventMove s) := by
  unfold Machine.execEventMove
  dsimp only
  refine .ite hs.next ?_
  split
  · exact (((hs.setLdg _).logEvent _).addJobs _).next
  · exact .ite hs.next (((hs.setF _ _ _).logEvent _).next)

theorem Keeps.recordSigned (r : LedgerRec) (e1 e2 : List Byte) : Keeps s₀ (recordSigned r e1 e2 s) := by
  unfold Machine.recordSigned
  dsimp only
  refine .ite ?_ (.ite (hs.setLdg _) (((hs.setLdg _).setF _ _ _).setF _ _ _))
  split
  · next hx0 =>
    have hv0 := (hs.slhSignOp _ _ _ _ _ _ _).ofSnd hx0
    exact hv0.addJobs _
  · next hx0 =>
    have hv0 := (hs.slhSignOp _ _ _ _ _ _ _).ofSnd hx0
    exact hv0

theorem Keeps.execLedgerCommit (n : Nat) (e1 e2 : List Byte) : OutKeeps s₀ (execLedgerCommit n e1 e2 s) := by
  unfold Machine.execLedgerCommit
  dsimp only
  split
  · exact hs.next
  · exact .ite (((hs.runGranules _).floorSettle).next) (.ite (.ite (((hs.setLdg _).bootStop _ _).next) hs.next)
      ((((hs.recordSigned _ _ _).runGranules _).floorSettle).next))

theorem Keeps.ledgerAck (b : Nat) (hash : List Byte) : Keeps s₀ (ledgerAck b hash s) := .ite (hs.addJobs _) hs

theorem Keeps.recoverLedger : Keeps s₀ (recoverLedger s) := by
  unfold Machine.recoverLedger
  exact .ite (((Keeps.ite ((((((((hs.setLdg _).runMarks _).runGranules _).setF _ _ _).setReg _ _).setReg _ _).setF _ _
      _).raiseTilt _) ((((((hs.setLdg _).runMarks _).runGranules _).setF _ _ _).setReg _ _).setReg _ _)).setF _ _
      _).raiseTilt _) (.ite ((((((((hs.setLdg _).runMarks _).runGranules _).setF _ _ _).setReg _ _).setReg _
      _).setF _ _ _).raiseTilt _) ((((((hs.setLdg _).runMarks _).runGranules _).setF _ _ _).setReg _ _).setReg _
      _))

theorem Keeps.cutWrite : Keeps s₀ (cutWrite s) := by
  unfold Machine.cutWrite
  dsimp only
  refine .ite hs ?_
  split
  · exact hs.draw.setLdg _
  · exact hs.draw.setLdg _
  · exact hs

/-! ## Sys2Proof/Machine/Floor.lean -/

theorem Keeps.floorStart : OutKeeps s₀ (floorStart s) :=
  .ite (.fault _) ((((((hs.setF _ _ _).setF _ _ _).setF _ _ _).setFlr _).firstHello).next)

theorem Keeps.floorEnd : Keeps s₀ (floorEnd s) := (hs.setF _ _ _).setF _ _ _

theorem Keeps.floorActivate (p : Nat) : Keeps s₀ (floorActivate p s) :=
  .ite ((((hs.setF _ _ _).setF _ _ _).setFlr _).firstHello) ((hs.setF _ _ _).setF _ _ _)

theorem Keeps.floorSwitch (p : Nat) : OutKeeps s₀ (floorSwitch p s) :=
  .ite hs.next (.ite (((hs.floorActivate _).floorPump).next) (.fault _))

theorem Keeps.floorRun (run : Bool) : OutKeeps s₀ (floorRun run s) :=
  .ite (.ite ((hs.setF _ _ _).next) ((hs.setF _ _ _).floorStart)) (.ite (((hs.setF _ _ _).floorEnd).next)
      ((hs.setF _ _ _).next))

theorem Keeps.flrCtrlWrite (v : Word) : OutKeeps s₀ (flrCtrlWrite v s) := by
  unfold Machine.flrCtrlWrite
  dsimp only
  split
  · next t ht => exact (Keeps.floorSwitch (.ite hs.floorQuiet (hs.floorQuiet.setReg _ _)) _ t ht).floorRun _
  · exact .fault _
  · exact .refused _

theorem Keeps.execFloorStart (m : Master) : OutKeeps s₀ (execFloorStart m s) := hs.gate fun _ hu => hu.flrCtrlWrite _

theorem Keeps.execFloorStop (m : Master) : OutKeeps s₀ (execFloorStop m s) := hs.gate fun _ hu => hu.flrCtrlWrite _

theorem Keeps.execPortSwitch (m : Master) (p : Fin 2) : OutKeeps s₀ (execPortSwitch m p s) :=
  hs.gate fun _ hu => hu.flrCtrlWrite _

theorem Keeps.execFloorPortDown (l : FloorLine) : OutKeeps s₀ (execFloorPortDown l s) :=
  .ite hs.next (.ite (((hs.floorQuiet.setF _ _ _).setF _ _ _).next) (.ite (((((hs.floorQuiet.setF _ _ _).setF _ _
      _).floorActivate _).floorPump).next) ((hs.floorQuiet.setF _ _ _).next)))

theorem Keeps.execFloorPortUp (l : FloorLine) : OutKeeps s₀ (execFloorPortUp l s) :=
  .ite hs.next (.ite ((hs.floorQuiet.setF _ _ _).next) ((((hs.floorQuiet.setF _ _ _).floorActivate
      _).floorPump).next))

theorem Keeps.execFloorArp (q : NeighbourQuery) : OutKeeps s₀ (execFloorArp q s) := .ite ((hs.setFlr _).next) hs.next

theorem Keeps.resendMsg (msg : Nat) : Keeps s₀ (resendMsg msg s) := by
  unfold Machine.resendMsg
  split
  · exact hs.sendMessage _ _ _
  · exact hs

theorem Keeps.execFloorResend (w : FloorResend) : OutKeeps s₀ (execFloorResend w s) := by
  unfold Machine.execFloorResend
  dsimp only
  refine .ite hs.next ?_
  split
  · exact .ite ((hs.floorQuiet.sendHello _).next) hs.next
  · split
    · exact .ite ((hs.floorQuiet.sendMessage _ _ _).next) hs.next
    · exact hs.next
  · exact .ite ((hs.floorQuiet.resendMsg _).next) hs.next

theorem Keeps.floorAccept (type_ : Nat) (d : FloorDatagram) : Keeps s₀ (floorAccept type_ d s).2 :=
  .iteSnd hs (.iteSnd (hs.addF _ _ _) (.iteSnd (hs.addF _ _ _) (.iteSnd ((hs.setFlr _).addF _ _ _) (hs.setFlr
      _))))

theorem Keeps.floorAcceptAll (type_ : Nat) (ds : List FloorDatagram) : Keeps s₀ (floorAcceptAll type_ ds s).2 := by
  induction ds generalizing s with
  | nil => exact hs
  | cons d ds ih => exact ih (hs.floorAccept _ _)

theorem Keeps.hostMessage {type_ : Nat} {d : FloorDatagram} {f : State → State}
    (hf : ∀ u, Keeps s₀ u → Keeps s₀ (f u)) : OutKeeps s₀ (hostMessage type_ d f s) :=
  have hr := hs.floorQuiet.floorAccept type_ d
  (Keeps.ite (hf _ hr) hr).next

theorem Keeps.floorNegotiate (body : List Byte) : Keeps s₀ (floorNegotiate body s) := by
  unfold Machine.floorNegotiate
  dsimp only
  refine .ite hs ?_
  split
  · exact (hs.setF _ _ _).setF _ _ _
  · exact (((((hs.setF _ _ _).setF _ _ _).setF _ _ _).setF _ _ _).setFlr _).floorPump

theorem Keeps.execHelloReply (d : FloorDatagram) : OutKeeps s₀ (execHelloReply d s) :=
  hs.hostMessage fun _ hu => hu.floorNegotiate _

theorem Keeps.floorAcked (msg : Nat) : Keeps s₀ (floorAcked msg s) := (hs.setFlr _).floorPump

theorem Keeps.execFloorAck (d : FloorDatagram) : OutKeeps s₀ (execFloorAck d s) :=
  hs.hostMessage fun _ hu => hu.floorAcked _

theorem Keeps.execLedgerAck (d : FloorDatagram) : OutKeeps s₀ (execLedgerAck d s) :=
  hs.hostMessage fun _ hu => hu.ledgerAck _ _

theorem Keeps.execDigestDrain (d : Fin 4) : OutKeeps s₀ (execDigestDrain d s) := by
  unfold Machine.execDigestDrain
  dsimp only
  split
  · exact hs.next
  · refine .ite hs.next (.ite (.ite ((hs.setExport _ _).next) ((((hs.setExport _ _).floorMessage _
      _).floorSettle).next)) ?_)
    split
    · exact (hs.setExport _ _).next
    · exact (((hs.setExport _ _).floorItem _ _).floorSettle).next

theorem Keeps.checkpointStart : Keeps s₀ (checkpointStart s) := .ite hs (hs.setFlr _)

theorem Keeps.execCkptReq (d : FloorDatagram) : OutKeeps s₀ (execCkptReq d s) :=
  hs.hostMessage fun _ hu => hu.checkpointStart

theorem Keeps.checkpointDue : Keeps s₀ (checkpointDue s) := .ite ((hs.setFlr _).checkpointStart) hs

theorem Keeps.floorTick : Keeps s₀ (floorTick s) := .ite hs.checkpointDue hs

theorem Keeps.checkpointRebase : Keeps s₀ (checkpointRebase s) := hs.setFlr _

theorem Keeps.checkpointSigned (e1 e2 : List Byte) : Keeps s₀ (checkpointSigned e1 e2 s) := by
  unfold Machine.checkpointSigned
  dsimp only
  refine .ite hs ?_
  split
  · split
    · next hx0 =>
      have hv0 := (hs.checkpointDue.slhSignOp _ _ _ _ _ _ _).ofSnd hx0
      exact ((hv0.setFlr _).floorMessage _ _).floorSettle
    · next hx0 =>
      have hv0 := (hs.checkpointDue.slhSignOp _ _ _ _ _ _ _).ofSnd hx0
      exact hv0.setFlr _
    · next hx0 =>
      have hv0 := (hs.checkpointDue.slhSignOp _ _ _ _ _ _ _).ofSnd hx0
      exact hv0
  · exact hs.checkpointDue

theorem Keeps.execFloorCheckpoint (e1 e2 : List Byte) : OutKeeps s₀ (execFloorCheckpoint e1 e2 s) :=
  (hs.checkpointSigned _ _).next

theorem Keeps.execSlhSign (ckpt : Bool) (ctx msg e1 e2 : List Byte) :
    OutKeeps s₀ (execSlhSign ckpt ctx msg e1 e2 s) := by
  unfold Machine.execSlhSign
  refine .ite hs.next (.ite ((hs.checkpointSigned _ _).next) ?_)
  split
  · exact .ite ((hs.recordSigned _ _ _).next) hs.next
  · exact hs.next

theorem Keeps.floorAuthFails : Keeps s₀ (floorAuthFails s) := hs.addF _ _ _

theorem Keeps.installHostKey (body : List Byte) : Keeps s₀ (installHostKey body s) :=
  .ite ((hs.setFlr _).setF _ _ _) hs.floorAuthFails

theorem Keeps.hostFragments {type_ : Nat} {ds : List FloorDatagram} {f : List Byte → State → State}
    (hf : ∀ b u, Keeps s₀ u → Keeps s₀ (f b u)) : OutKeeps s₀ (hostFragments type_ ds f s) :=
  have hr := hs.floorQuiet.floorAcceptAll type_ ds
  (Keeps.ite (hf _ _ hr) hr).next

theorem Keeps.execHostKey (ds : List FloorDatagram) : OutKeeps s₀ (execHostKey ds s) :=
  hs.hostFragments fun _ _ hu => hu.installHostKey _

theorem Keeps.hostCommand (seq : BitVec 64) (body : List Byte) : Keeps s₀ (hostCommand seq body s) := by
  unfold Machine.hostCommand
  dsimp only
  split
  · exact hs.floorAuthFails
  · exact .ite (.ite (.withPwr hs rfl rfl rfl) hs) (.floorAuthFails hs)

theorem Keeps.execFloorSigned (ds : List FloorDatagram) : OutKeeps s₀ (execFloorSigned ds s) :=
  hs.hostFragments fun _ _ hu => hu.hostCommand _ _

/-! ## Sys2Proof/Machine/CoreCtl.lean -/

theorem Keeps.coreReset (k : CoreId) : Keeps s₀ (coreReset k s) := ((hs.setCore _ _).eraseRange _ _).draw

theorem Keeps.coreRelease (k : CoreId) : Keeps s₀ (coreRelease k s) :=
  .ite hs (.ite (hs.setCore _ _) (hs.setCore _ _))

theorem Keeps.coreCtrlWrite (k : CoreId) (v : Word) : Keeps s₀ (coreCtrlWrite k v s) :=
  .ite (.ite ((Keeps.ite (hs.pmcSettle.coreReset _) hs.pmcSettle).setCore _ _) (((Keeps.ite
      (hs.pmcSettle.coreReset _) hs.pmcSettle).setCore _ _).coreRelease _)) (((Keeps.ite (hs.pmcSettle.coreReset
      _) hs.pmcSettle).setCore _ _).setCore _ _)

theorem Keeps.execCoreRun (m : Master) (k : CoreId) (ugpio : Bool) : OutKeeps s₀ (execCoreRun m k ugpio s) :=
  hs.gate fun _ hu => (hu.coreCtrlWrite _ _).next

theorem Keeps.execCoreReset (m : Master) (k : CoreId) (run ugpio : Bool) :
    OutKeeps s₀ (execCoreReset m k run ugpio s) := hs.gate fun _ hu => (hu.coreCtrlWrite _ _).next

theorem Keeps.execCoreStop (m : Master) (k : CoreId) (ugpio : Bool) : OutKeeps s₀ (execCoreStop m k ugpio s) :=
  hs.gate fun _ hu => (hu.coreCtrlWrite _ _).next

theorem Keeps.cleanLines (k first n : Nat) : Keeps s₀ (cleanLines k first n s) := .withL2 (.issueAll hs _ _)

theorem Keeps.invalidateLines (first n : Nat) : Keeps s₀ (invalidateLines first n s) := .same hs rfl

theorem Keeps.cmoStarted (k : Nat) (op dirty : Nat) : Keeps s₀ (cmoStarted k op dirty s) := hs.setReg _ _

theorem Keeps.cmoStart (k : CoreId) (op : Nat) : Keeps s₀ (cmoStart k op s) := by
  unfold Machine.cmoStart
  dsimp only
  refine .ite hs ?_
  split
  · exact (hs.cleanLines _ _ _).cmoStarted _ _ _
  · exact (hs.invalidateLines _ _).cmoStarted _ _ _
  · exact ((hs.cleanLines _ _ _).invalidateLines _ _).cmoStarted _ _ _
  · exact (hs.setCore _ _).cmoStarted _ _ _

theorem Keeps.cmoCtrlWrite (k : CoreId) (v : Word) : Keeps s₀ (cmoCtrlWrite k v s) :=
  .ite ((Keeps.ite hs hs.draw).cmoStart _ _) (hs.setF _ _ _)

theorem Keeps.execCmoClean (m : Master) (k : CoreId) : OutKeeps s₀ (execCmoClean m k s) :=
  hs.gate fun _ hu => (hu.cmoStart _ _).next

theorem Keeps.execCmoInvalidate (m : Master) (k : CoreId) : OutKeeps s₀ (execCmoInvalidate m k s) :=
  hs.gate fun _ hu => (hu.cmoStart _ _).next

theorem Keeps.execCmoCleanInvalidate (m : Master) (k : CoreId) : OutKeeps s₀ (execCmoCleanInvalidate m k s) :=
  hs.gate fun _ hu => (hu.cmoStart _ _).next

theorem Keeps.execICacheInvalidate (m : Master) (k : CoreId) : OutKeeps s₀ (execICacheInvalidate m k s) :=
  hs.gate fun _ hu => (hu.cmoStart _ _).next

theorem Keeps.execCacheOperationDone (k : CoreId) : OutKeeps s₀ (execCacheOperationDone k s) :=
  .ite (((hs.setF _ _ _).raisePrivate _ _).next) hs.next

theorem Keeps.execL2WriteBack (line : Nat) : OutKeeps s₀ (execL2WriteBack line s) := by
  unfold Machine.execL2WriteBack
  dsimp only
  split
  · exact .ite (Keeps.next (.withL2 (.issue (.leaveSelfRefresh hs) _ _))) (Keeps.next hs)
  · exact hs.next

theorem Keeps.debugOp (k : CoreId) (o : DebugOp) : Keeps s₀ (debugOp k o s) := by
  unfold Machine.debugOp
  dsimp only
  split
  · exact hs.setCore _ _
  · exact hs.setCore _ _
  · exact .ite (hs.setCore _ _) hs
  · exact .ite (hs.setCore _ _) hs
  · exact hs.setCore _ _
  · exact hs.setCore _ _
  · exact hs.setCore _ _
  · exact .ite (.withRdata hs) hs
  · exact .ite (.withRdata hs) hs
  · exact .ite (.withRdata hs) hs
  · exact .ite (.withRdata hs) hs
  · exact .ite (hs.setCore _ _) hs
  · exact .ite (hs.setCore _ _) hs
  · exact .ite (hs.setCore _ _) hs
  · exact .ite (hs.setCore _ _) hs
  · exact hs

/-! ## Sys2Proof/Machine/Reset.lean -/

theorem Keeps.coreLost (k : CoreId) : Keeps s₀ (coreLost k s) := ((hs.setCore _ _).eraseRange _ _).draw

theorem Keeps.bankClear (b : Nat) : Keeps s₀ (bankClear b s) := .same (.eraseRange hs _ _) rfl

theorem Keeps.clusterLost (d : Fin 4) : Keeps s₀ (clusterLost d s) := .setUrgent (.draw (.withClu hs)) _ _

theorem Keeps.cometLost (d : Fin 4) : Keeps s₀ (cometLost d s) := .withClu hs

theorem Keeps.outputLost (d : Fin 4) : Keeps s₀ (outputLost d s) := by
  unfold Machine.outputLost
  dsimp only
  refine .setUrgent (.setUrgent ?_ _ _) _ _
  exact hs.same rfl

theorem Keeps.audioLost : Keeps s₀ (audioLost s) := by
  have h := (hs.coreLost 8).coreLost 9
  exact h.same rfl

theorem Keeps.analogueLost : Keeps s₀ (analogueLost s) := .withAas hs

theorem Keeps.floorLost : Keeps s₀ (floorLost s) := .withFlr hs

theorem Keeps.unitsLost (d : Nat) : Keeps s₀ (unitsLost d s) :=
  .dite (fun _ => hs.coreLost _) fun _ => .dite (fun _ => hs.clusterLost _) fun _ =>
    .dite (fun _ => hs.cometLost _) fun _ => .ite (hs.bankClear _) (.ite (.withBlt hs) (.ite (hs.same rfl)
      (.dite (fun _ => hs.outputLost _) fun _ => .ite hs.audioLost (.ite hs.analogueLost (.ite (.withHlk hs)
        (.ite hs.floorLost (.ite (.withCores hs) hs)))))))

theorem Keeps.resetDomain (d : Nat) : Keeps s₀ (resetDomain d s) :=
  (Keeps.ite (((hs.dropRegs _).unitsLost _).latchPads _ _) ((hs.dropRegs _).unitsLost _)).settleFalls _

theorem Keeps.deviceReset : Keeps s₀ (deviceReset s) := by
  have h := hs.cutWrite
  unfold Machine.deviceReset
  refine .latchPads (h.trans ?_) _ _
  exact ⟨rfl, fun b => ⟨Tab.wf_filter _ b.1, reset_memory_wf, domainsClosed_reset, reset_powers_zero,
    BitVec.getLsbD_zero⟩, fun _ => rfl,
    fun _ _ => .inr rfl⟩

theorem Keeps.recordCause (cause rail wake : Nat) : Keeps s₀ (recordCause cause rail wake s) :=
  .ite hs (.withPwr (.setReg hs _ _) rfl rfl rfl)

theorem Keeps.assertReset (cause rail wake : Nat) : Keeps s₀ (assertReset cause rail wake s) :=
  hs.deviceReset.recordCause _ _ _

/-! ## Sys2Proof/Machine/UnitStat.lean -/

theorem Keeps.startPowerUpCalibration : Keeps s₀ (startPowerUpCalibration s) := .withAas hs

/-! ## Sys2Proof/Machine/Power.lean -/

theorem Keeps.domainRequest (hi : Bool) (v : Word) : Keeps s₀ (domainRequest hi v s) := by
  unfold Machine.domainRequest
  dsimp only
  split
  · exact (hs.setF _ _ _).setF _ _ _
  · next hr =>
    refine hs.trans ⟨rfl, fun ⟨hw, hm, hd, h0, ho⟩ => ⟨Tab.wf_set _ _ hw, hm, hd, h0, ?_⟩, id, fun _ c => .inl c⟩
    have hz : (wanted hi v s).getLsbD 0 = s.pwr.doms.getLsbD 0 := domRefusal_zero_keeps hr (by decide) rfl
    simp [Machine.setPwr, hz, h0]

theorem Keeps.execDomainRequest (m : Master) (hi : Bool) (v : Word) : OutKeeps s₀ (execDomainRequest m hi v s) :=
  hs.gate fun _ hu => (hu.domainRequest _ _).next

theorem Keeps.domainOff {d : Nat} (h : nextOff s = some d) : Keeps s₀ (domainOff d s) := by
  obtain ⟨hd, ht, hn⟩ := nextOff_eq_some h
  have hk : Keeps s (Machine.resetDomain d (Machine.pmcSettle s)) := (Keeps.refl s).pmcSettle.resetDomain d
  obtain ⟨e1, e2⟩ := Prod.mk.inj ((SameSets.resetDomain d _).trans (congrArg Power.domSets (pmcSettle_pwr s)))
  unfold Machine.domainOff
  refine hs.trans ⟨hk.pending, fun b => ?_, hk.reset, hk.tilt⟩
  obtain ⟨hw, hm, hc, h0, ho⟩ := hk.block b
  have hd0 : d ≠ 0 := fun c => by rw [c, b.2.2.2.2] at ht; exact nomatch ht
  refine ⟨hw, hm, domainsClosed_remove hc hd (e1 ▸ hn), ?_, ?_⟩
  · refine (BitVec.getLsbD_and ..).trans ?_
    rw [h0, BitVec.getLsbD_not, domBit_getLsbD hd, decide_eq_false hd0]
    rfl
  · exact (BitVec.getLsbD_and ..).trans (by rw [ho, Bool.false_and])

theorem Keeps.domainOn {d : Nat} (h : nextOn s = some d) : Keeps s₀ (domainOn d s) := by
  obtain ⟨hd, -, hn⟩ := nextOn_eq_some h
  have hk : Keeps s (Machine.resetDomain d s) := (Keeps.refl s).resetDomain d
  obtain ⟨e1, e2⟩ := Prod.mk.inj (SameSets.resetDomain d s)
  have h2 : Keeps s₀ (Machine.setPwr { (Machine.resetDomain d s).pwr with
      doms := (Machine.resetDomain d s).pwr.doms ||| domBit d
      toOn := (Machine.resetDomain d s).pwr.toOn &&& ~~~domBit d } (Machine.resetDomain d s)) := by
    refine hs.trans ⟨hk.pending, fun b => ?_, hk.reset, hk.tilt⟩
    obtain ⟨hw, hm, hc, h0, ho⟩ := hk.block b
    refine ⟨hw, hm, domainsClosed_add hc hd (e1 ▸ hn), ?_, ho⟩
    exact (BitVec.getLsbD_or ..).trans (by rw [h0, Bool.true_or])
  exact .ite (h2.startPowerUpCalibration.modulatorsOn) h2

theorem Keeps.domDone : Keeps s₀ (domDone s) := .ite (hs.setF _ _ _) hs

theorem Keeps.execDomainSwitch : OutKeeps s₀ (execDomainSwitch s) := by
  unfold Machine.execDomainSwitch
  refine .ite ?_ ?_
  · split
    · next d h => exact (hs.domainOff h).domDone.next
    · exact hs.next
  · split
    · next d h => exact (hs.domainOn h).domDone.next
    · exact hs.next

theorem Keeps.finishCommits (n : Nat) : Keeps s₀ (finishCommits n s) := by
  induction n generalizing s with
  | zero => exact hs.runGranules _
  | succ n ih =>
    unfold Machine.finishCommits
    dsimp only
    exact .ite (hs.runGranules _) (ih ((hs.runGranules _).serveEvent _))

theorem Keeps.enterEclipse : Keeps s₀ (enterEclipse s) := by
  have h := hs.finishCommits 16
  unfold Machine.enterEclipse
  obtain ⟨c, hc⟩ : ∃ c, c = Machine.finishCommits 16 s := ⟨_, rfl⟩
  rw [← hc] at h ⊢
  refine .latchPads (h.trans ?_) _ _
  exact ⟨rfl, fun b => ⟨Tab.wf_filter _ b.1, reset_memory_wf, domainsClosed_eclipse, eclipse_powers_zero,
    BitVec.getLsbD_zero⟩, id, fun _ c => .inl c⟩

theorem Keeps.eclipseCommand : Keeps s₀ (eclipseCommand s) := by
  have refuse : ∀ c, Keeps s₀ (Machine.setF (Machine.setF s P.PWR_STAT
      F.PWR_STAT_eclipse_refused 1) P.PWR_STAT F.PWR_STAT_refuse_cause c) :=
    fun c => (hs.setF _ _ _).setF _ _ _
  exact .ite (refuse 4) (.ite (refuse 6) (.ite (.setPwr hs rfl rfl rfl) hs.enterEclipse))

theorem Keeps.execEclipse (m : Master) : OutKeeps s₀ (execEclipse m s) := hs.gate fun _ hu => hu.eclipseCommand.next

theorem Keeps.execResetCommand (m : Master) : OutKeeps s₀ (execResetCommand m s) :=
  hs.gate fun _ hu => (hu.assertReset _ _ _).next

theorem Keeps.execEclipseWake (wakePin : Bool) : OutKeeps s₀ (execEclipseWake wakePin s) := by
  unfold Machine.execEclipseWake
  refine .ite ?_ ((Keeps.ite (hs.wakeEvent _ _) hs).next)
  split
  · exact (hs.assertReset _ _ _).next
  · exact .ite ((hs.assertReset _ _ _).next) hs.next

theorem Keeps.execResetN (low : Bool) : OutKeeps s₀ (execResetN low s) := Keeps.next (.setPwr hs rfl rfl rfl)

theorem Keeps.resetNTick : Keeps s₀ (resetNTick s) := by
  unfold Machine.resetNTick
  dsimp only
  have h := hs.setPwr (p := { s.pwr with resetNTicks := Nat.min (s.pwr.resetNTicks + 1) 3 }) rfl rfl rfl
  exact .ite (.ite (h.assertReset _ _ _) h) hs

theorem Keeps.execDebugConnect : OutKeeps s₀ (execDebugConnect s) := by
  refine Keeps.next (hs.trans ⟨rfl, fun ⟨hr, hm, hd, h0, ho⟩ => ⟨hr, hm, ?_, ?_, ho⟩, id, fun _ c => .inl c⟩)
  · refine domainsClosed_add hd (d := 39) (by decide) fun n hn => ?_
    rw [List.mem_singleton.1 hn]
    exact h0
  · exact (BitVec.getLsbD_or ..).trans (by rw [h0, Bool.true_or])

theorem Keeps.execDebugReset : OutKeeps s₀ (execDebugReset s) := (hs.assertReset _ _ _).next

theorem Keeps.execPllStop (p : Pll) : OutKeeps s₀ (execPllStop p s) := by
  unfold Machine.execPllStop
  refine .ite ?_ hs.next
  split
  · refine Keeps.next ?_
    exact .setPwr hs rfl rfl rfl
  · refine Keeps.next ?_
    have e := pmcSettle_pwr s
    exact .setPwr hs.pmcSettle (by rw [e]) (by rw [e]) (by rw [e])

theorem Keeps.execWakeDemand (d : Demand) : OutKeeps s₀ (execWakeDemand d s) := (hs.restartPlls _).next

theorem Keeps.dozeWrite (v : Word) : Keeps s₀ (dozeWrite v s) := (hs.tableWrite _ _).restartPlls _

theorem Keeps.execPllLock (p : Pll) : OutKeeps s₀ (execPllLock p s) := by
  unfold Machine.execPllLock
  dsimp only
  split <;> exact .ite (Keeps.next (.setPwr hs rfl rfl rfl)) (Keeps.next hs)

theorem Keeps.execRtcTick : OutKeeps s₀ (execRtcTick s) := by
  have h : Keeps s₀ (if s.pwr.holdDue then s.draw else s) := .ite hs.draw hs
  have e : (if s.pwr.holdDue then s.draw else s).pwr = s.pwr := by split <;> rfl
  exact Keeps.next (.resetNTick (.floorTick (h.setPwr (by rw [e]) (by rw [e]) (by rw [e]))))

theorem Keeps.execRtcAlarm : OutKeeps s₀ (execRtcAlarm s) := by
  unfold Machine.execRtcAlarm
  dsimp only
  refine .ite (Keeps.next (.wakeEvent ?_ _ _)) hs.next
  exact .setPwr ((hs.latchEdge _).setF _ _ _) rfl rfl rfl

theorem Keeps.execRtcSet (m : Master) (hi : Word) : OutKeeps s₀ (execRtcSet m hi s) := by
  unfold Machine.execRtcSet
  refine hs.gate fun _ hu => ?_
  dsimp only
  split
  · exact Keeps.next (.setPwr hu rfl rfl rfl)
  · exact hu.next

theorem Keeps.holdFuses : Keeps s₀ (holdFuses s) := by
  unfold Machine.holdFuses
  dsimp only
  split
  · exact .draw (.withSec hs)
  · exact hs

theorem Keeps.execSupplyWarning (r : Rail) : OutKeeps s₀ (execSupplyWarning r s) := by
  unfold Machine.execSupplyWarning
  dsimp only
  refine .ite hs.next (Keeps.next ?_)
  have h := (((Keeps.ite (c := s.supplyHeld = true) hs hs.holdFuses).setF P.MON_STAT (railWarn r) 1).addF P.MON_CNT
    (railCnt r) 1).latchEdge 109
  refine .ite (.setF (.setLdg ?_ _) _ _ _) ?_
  · exact .setPwr h rfl rfl rfl
  · exact .setPwr h rfl rfl rfl

theorem Keeps.execSupplyClear (r : Rail) : OutKeeps s₀ (execSupplyClear r s) :=
  .ite (Keeps.next hs) (Keeps.next (.setPwr hs rfl rfl rfl))

theorem Keeps.logDips : Keeps s₀ (logDips s) := (hs.setLdg _).logDue

theorem Keeps.resumeFuses : Keeps s₀ (resumeFuses s) := .withSec hs

theorem Keeps.execHoldEnd : OutKeeps s₀ (execHoldEnd s) := by
  unfold Machine.execHoldEnd
  dsimp only
  have h := hs.setPwr (p := { s.pwr with holdLeft := none }) rfl rfl rfl
  exact .ite (.ite h.next (Keeps.next (.ite h.logDips.resumeFuses.enterEclipse h.logDips.resumeFuses))) hs.next

theorem Keeps.execSupplyReset (r : Rail) : OutKeeps s₀ (execSupplyReset r s) :=
  Keeps.next (.setPwr (.assertReset hs _ _ _) rfl rfl rfl)

theorem Keeps.execVbatSwitch (toVbat : Bool) : OutKeeps s₀ (execVbatSwitch toVbat s) := by
  unfold Machine.execVbatSwitch
  dsimp only
  refine .ite (.ite hs.next (Keeps.next ?_)) (.ite (Keeps.next ?_) hs.next)
  · have h := hs.deviceReset
    exact .setPwr h rfl rfl rfl
  · have h := Keeps.recordCause (.setPwr hs (p := { s.pwr with onVbat := false, mode := .run, causeFresh := false })
      rfl rfl rfl) (if s.pwr.pd0Lost then 1 else 2) 0 0
    exact .setPwr h rfl rfl rfl

theorem Keeps.pd0Reset : Keeps s₀ (pd0Reset s) := .setPwr (.setLdg (.withIrq (.dropRegs hs _)) _) rfl rfl rfl

theorem Keeps.execVbatLoss : OutKeeps s₀ (execVbatLoss s) :=
  .ite (Keeps.next (.setPwr (.pd0Reset hs) rfl rfl rfl)) (Keeps.next hs)

theorem Keeps.execPd0PowerUp (fromVbat : Bool) : OutKeeps s₀ (execPd0PowerUp fromVbat s) := by
  unfold Machine.execPd0PowerUp
  dsimp only
  have h1 := hs.deviceReset.pd0Reset
  refine Keeps.next ?_
  refine .setPwr (.recordCause ?_ _ _ _) rfl rfl rfl
  exact .setPwr h1 rfl rfl rfl

theorem Keeps.execVbatLow (low : Bool) : OutKeeps s₀ (execVbatLow low s) := Keeps.next (.setPwr hs rfl rfl rfl)

/-! ## Sys2Proof/Machine/Boot.lean -/

theorem Keeps.setBoot (b : Boot) : Keeps s₀ (setBoot b s) := .withCfg hs

theorem Keeps.setStage (n : Nat) : Keeps s₀ (setStage n s) := hs.setF _ _ _

theorem Keeps.measure (role : Nat) (d : List Byte) : Keeps s₀ (measure role d s) := hs.setBoot _

theorem Keeps.loadCfg (digest : List Byte) (h : List Nat) : Keeps s₀ (loadCfg digest h s) :=
  ((hs.fold fun _ _ hu => hu.setReg _ _).setReg _ _).setReg _ _

theorem Keeps.startStreaming : Keeps s₀ (startStreaming s) :=
  .ite (((((hs.setF _ _ _).dramTrained).setStage _).setBoot _).trainD0 _) ((((hs.setF _ _ _).dramTrained).setStage
      _).setBoot _)

theorem Keeps.stallAt (step : Nat) : Keeps s₀ (stallAt step s) := hs.setBoot _

theorem Keeps.readMemory (b : BootSet) : Keeps s₀ (readMemory b s) := by
  unfold Machine.readMemory
  dsimp only
  split
  · exact hs
  · exact .ite (hs.bootStop _ _) (.ite (((hs.measure _ _).setReg _ _).bootStop _ _) (.ite (((hs.measure _ _).setReg _
      _).startStreaming) ((hs.measure _ _).setReg _ _)))

theorem Keeps.startMemory (b : BootSet) : Keeps s₀ (startMemory b s) :=
  .ite ((hs.setStage _).stallAt _) ((hs.setStage _).readMemory _)

theorem Keeps.chainKeys (b : BootSet) (n a : Nat) (key : List Byte) : Keeps s₀ (chainKeys b n a key s).2 := by
  induction n generalizing a key s with
  | zero => exact hs
  | succ n ih => exact .iteSnd (ih (hs.measure _ _) _ _) hs

theorem Keeps.verifyManifest (b : BootSet) (ver off : Nat) : Keeps s₀ (verifyManifest b ver off s) := by
  unfold Machine.verifyManifest
  dsimp only
  split
  · exact hs.bootStop _ _
  · refine .ite (hs.bootStop _ _) ?_
    split
    · next hx0 =>
      have hv0 := ((hs.measure _ _).chainKeys _ _ _ _).ofSnd hx0
      exact hv0.bootStop _ _
    · next hx0 =>
      have hv0 := ((hs.measure _ _).chainKeys _ _ _ _).ofSnd hx0
      exact .ite (hv0.bootStop _ _) (.ite ((((hv0.setBoot _).measure _ _).loadCfg _ _).bootStop _ _) ((((hv0.setBoot
          _).measure _ _).loadCfg _ _).startMemory _))

theorem Keeps.checkManifest (b : BootSet) (ver off len : Nat) : Keeps s₀ (checkManifest b ver off len s) :=
  .ite (hs.bootStop _ _) (.ite (hs.bootStop _ _) (.ite (hs.bootStop _ _) ((hs.setBoot _).verifyManifest _ _ _)))

theorem Keeps.readDirectory (b : BootSet) : Keeps s₀ (readDirectory b s) := by
  unfold Machine.readDirectory
  dsimp only
  refine .ite (hs.bootStop _ _) ?_
  split
  · exact hs.bootStop _ _
  · exact .ite ((hs.setF _ _ _).stallAt _) ((hs.setF _ _ _).checkManifest _ _ _ _)

theorem Keeps.readManifest (b : BootSet) : Keeps s₀ (readManifest b s) :=
  .ite ((hs.setStage _).stallAt _) ((hs.setStage _).readDirectory _)

theorem Keeps.probe (b : BootSet) : Keeps s₀ (probe b s) := by
  unfold Machine.probe
  split
  · exact hs.bootStop _ _
  · split
    · exact (hs.setReg _ _).readManifest _
    · exact hs.bootStop _ _

theorem Keeps.keyStoreCheck (damage : List Byte) : Keeps s₀ (keyStoreCheck damage s) :=
  .ite hs ((hs.setF _ _ _).raiseTilt _)

omit hs in
/-- Device reset is released first; what follows keeps the rest. -/
theorem Keeps.startUp (env : StartEnv) (s : State) :
    Keeps (Machine.setPwr { s.pwr with
        inReset := false
        uptime := 0
        locked := 0xF
        railsOk := ~~~s.pwr.inWarn
        vio33 := env.vio33 } s) (startUp env s) := by
  unfold Machine.startUp
  dsimp only
  refine .ite ?_ (.probe ?_ _)
  all_goals
    refine .keyStoreCheck (.recoverLedger (.setBoot (.setF (.setStage ?_ _) _ _ _) _)) _
    exact .refl _

theorem Keeps.resumeStartUp (b : BootSet) : Keeps s₀ (resumeStartUp b s) := by
  unfold Machine.resumeStartUp
  dsimp only
  refine .ite ((hs.setBoot _).readDirectory _) (.ite ?_ (.ite ((hs.setBoot _).readMemory _) (hs.setBoot _)))
  split
  · exact (hs.setBoot _).checkManifest _ _ _ _
  · exact hs.setBoot _

theorem Keeps.execXspiBurstTimeout (repeatFails : Bool) : OutKeeps s₀ (execXspiBurstTimeout repeatFails s) := by
  unfold Machine.execXspiBurstTimeout
  dsimp only
  refine .ite (.ite (((hs.setBoot _).bootStop _ _).next) ?_) hs.next
  split
  · exact (hs.resumeStartUp _).next
  · exact hs.next

theorem Keeps.execTrainingTimeout : OutKeeps s₀ (execTrainingTimeout s) := .ite ((hs.bootStop _ _).next) hs.next

theorem Keeps.startRecord : Keeps s₀ (startRecord s) := ((hs.setStage _).countBoot).setLdg _

theorem Keeps.placeSection (e : Section) (data : List Byte) : Granted (Keeps s₀) (placeSection e data s) :=
  .ite (Granted.ok (hs.writeBytes _ _)) (hs.dramWrite _ _ _)

theorem Keeps.execSectionDigestCheck : OutKeeps s₀ (execSectionDigestCheck s) := by
  unfold Machine.execSectionDigestCheck
  dsimp only
  refine .ite hs.next ?_
  split
  · split
    · exact (hs.park _).next
    · next hx0 =>
      have hv0 := (hs.placeSection _ _) _ hx0
      exact .ite ((hv0.bootStop _ _).next) ((Keeps.ite (((hv0.measure _ _).setBoot _).startRecord) ((hv0.measure _
          _).setBoot _)).next)
  · exact hs.next

theorem Keeps.loadEntry (k : CoreId) : Keeps s₀ (loadEntry k s) := (hs.setReg _ _).setReg _ _

theorem Keeps.beginPass : Keeps s₀ (beginPass s) := (hs.setBoot _).setF _ _ _

theorem Keeps.execBootRelease (us : Word) : OutKeeps s₀ (execBootRelease us s) :=
  .ite (((((((hs.fold fun _ _ hu => hu.loadEntry _).fold fun _ _ hu => .ite (hu.coreRelease _) hu).setStage
      _).setReg _ _).setBoot _).beginPass).next) hs.next

theorem Keeps.execSpargePass : OutKeeps s₀ (execSpargePass s) :=
  .ite (.ite ((((hs.setBoot _).setBoot _).setF _ _ _).next) (((hs.setBoot _).beginPass).next)) hs.next

theorem Keeps.spargeMiss (i : Nat) : Keeps s₀ (spargeMiss i s) :=
  (((Keeps.ite ((hs.setReg _ _).setF _ _ _) (hs.setReg _ _)).setBoot _).setF _ _ _).raiseTilt _

theorem Keeps.endPass : Keeps s₀ (endPass s) :=
  .ite ((Keeps.ite hs ((hs.setF _ _ _).setF _ _ _)).beginPass) ((Keeps.ite hs ((hs.setF _ _ _).setF _ _
      _)).setBoot _)

theorem Keeps.spargeRead (e : Section) : Granted (Keeps s₀) (spargeRead e s) :=
  .ite (Granted.ok hs) (hs.dramRead _ _ _)

theorem Keeps.execSpargeSection : OutKeeps s₀ (execSpargeSection s) := by
  unfold Machine.execSpargeSection
  dsimp only
  refine .ite hs.next ?_
  split
  · exact hs.next
  · split
    · exact (hs.park _).next
    · next hx0 =>
      have hv0 := (hs.spargeRead _) _ hx0
      split
      · exact (((Keeps.ite (hv0.spargeMiss _) hv0).setBoot _).setF _ _ _).next
      · exact ((Keeps.ite (hv0.spargeMiss _) hv0).endPass).next

/-! ## Sys2Proof/Machine/Counters.lean -/

theorem Keeps.pmcWrite (c : Fin 64) (v : Word) : Keeps s₀ (pmcWrite c v s) := hs.pmcSet _ _

theorem Keeps.execCounterWrite (m : Master) (c : Fin 64) (v : Word) : OutKeeps s₀ (execCounterWrite m c v s) :=
  hs.gate fun _ hu => (hu.pmcWrite _ _).next

theorem Keeps.pmcRead (m : Master) (c : Fin 64) : Keeps s₀ (pmcRead m c s).2 := by
  unfold Machine.pmcRead
  dsimp only
  split
  · exact (hs.pmcLook _).setReg _ _
  · exact hs.pmcLook _

theorem Keeps.execCounterRead (m : Master) (c : Fin 64) : OutKeeps s₀ (execCounterRead m c s) :=
  Keeps.gate hs fun _ hu => Keeps.next (.withRdata (.pmcRead hu _ _))

theorem Keeps.execCounterOverflow (c : Fin 64) (n : Fin 4) : OutKeeps s₀ (execCounterOverflow c n s) := by
  unfold Machine.execCounterOverflow
  dsimp only
  refine .ite hs.next ?_
  refine Keeps.next ?_
  refine Keeps.withPmc ?_
  split
  · exact (hs.pmcSet _ _).pmcSet _ _
  · exact hs.pmcSet _ _

theorem Keeps.pmcClear : Keeps s₀ (pmcClear s) := .withPmc (.fold hs fun _ _ hu => .setReg hu _ _)

theorem Keeps.pmcCtrlWrite (v : Word) : Keeps s₀ (pmcCtrlWrite v s) :=
  .ite ((hs.pmcSettle.setReg _ _).pmcClear) (hs.pmcSettle.setReg _ _)

theorem Keeps.execPmcClear (m : Master) : OutKeeps s₀ (execPmcClear m s) :=
  hs.gate fun _ hu => (hu.pmcCtrlWrite _).next

theorem Keeps.histWrite (h : Fin 4) (v : Word) : OutKeeps s₀ (histWrite h v s) :=
  Keeps.next (.ite (.withPmc (.setReg (.drawCode hs _ _) _ _)) (.setReg (.drawCode hs _ _) _ _))

theorem Keeps.execHistogramClear (m : Master) (h : Fin 4) : OutKeeps s₀ (execHistogramClear m h s) :=
  hs.gate fun _ hu => hu.histWrite _ _

/-! ## Sys2Proof/Machine/Heto.lean -/

theorem Keeps.setHlk (p : Fin 8) (h : Hlk) : Keeps s₀ (setHlk p h s) := .withHlk hs

theorem Keeps.setTxState (p : Fin 8) (i x : Nat) : Keeps s₀ (setTxState p i x s) := hs.setF _ _ _

theorem Keeps.txDone (p : Fin 8) (i : Nat) : Keeps s₀ (txDone p i s) := (hs.setTxState _ _ _).setF _ _ _

theorem Keeps.requeue (p : Fin 8) (pick : Nat → Bool) : Keeps s₀ (requeue p pick s) :=
  hs.fold fun _ _ hu => .ite (hu.setTxState _ _ _) hu

theorem Keeps.nodeUnknown (p : Fin 8) (n : Nat) : Keeps s₀ (nodeUnknown p n s) := by
  unfold Machine.nodeUnknown
  exact ((hs.setF _ _ _).setF _ _ _).requeue _ _

theorem Keeps.noteAvail (p : Fin 8) : Keeps s₀ (noteAvail p s) := hs.setF _ _ _

theorem Keeps.rxWords (p : Fin 8) (i : Nat) (ws : List Nat) : Keeps s₀ (rxWords p i ws s) := by
  induction ws generalizing i s with
  | nil => exact hs
  | cons w ws ih => exact ih (hs.setReg _ _) _

theorem Keeps.rxRecord (p : Fin 8) (c : HlkCycle) (type_ : Nat) (payload : List Byte) :
    Keeps s₀ (rxRecord p c type_ payload s) := ((hs.rxWords _ _ _).setF _ _ _).noteAvail _

theorem Keeps.takeSeq (p : Fin 8) (n v : Nat) (i : Fin 16) : Keeps s₀ (takeSeq p n v i s) := by
  unfold Machine.takeSeq
  dsimp only
  refine .ite hs ?_
  split
  · exact (hs.setHlk _ _).setTxState _ _ _
  · exact hs

theorem Keeps.sendFrame (p : Fin 8) (c : HlkCycle) : Keeps s₀ (sendFrame p c s) := (hs.addF _ _ _).setHlk _ _

theorem Keeps.pollWith (p : Fin 8) (c : HlkCycle) (i : Fin 16) : Keeps s₀ (pollWith p c i s) :=
  .sendFrame (.takeSeq (.ite (.withFree hs) hs) _ _ _ _) _ _

theorem Keeps.emptyCycle (p : Fin 8) : Keeps s₀ (emptyCycle p s) := hs.setHlk _ _

theorem Keeps.pollSlot (p : Fin 8) (slot pass n e : Nat) : OutKeeps s₀ (pollSlot p slot pass n e s) := by
  unfold Machine.pollSlot
  dsimp only
  refine .ite ((hs.emptyCycle _).next) (.ite ((Keeps.ite (hs.emptyCycle _) (hs.sendFrame _ _)).next) ?_)
  split
  · exact (hs.sendFrame _ _).next
  · exact .ite ((hs.pollWith _ _ _).next) (.fault _)

theorem Keeps.broadcastSlot (p : Fin 8) : OutKeeps s₀ (broadcastSlot p s) := by
  unfold Machine.broadcastSlot
  dsimp only
  split
  · exact (hs.emptyCycle _).next
  · exact .ite (.fault _) (Keeps.next (.txDone (.setHlk (.withFree hs) _ _) _ _))

theorem Keeps.latchSlot (p : Fin 8) : OutKeeps s₀ (latchSlot p s) := by
  unfold Machine.latchSlot
  generalize passOn s p = r
  obtain ⟨slot, pass, len⟩ := r
  dsimp only
  refine .ite (Keeps.next ?_) (.ite ?_ (.ite ?_ (.fault _)))
  · exact ((hs.setReg _ _).setHlk _ _).emptyCycle _
  · exact ((hs.setReg _ _).setHlk _ _).pollSlot _ _ _ _ _
  · exact ((hs.setReg _ _).setHlk _ _).broadcastSlot _

theorem Keeps.retryCycle (p : Fin 8) (c : HlkCycle) : Keeps s₀ (retryCycle p c s) :=
  .ite (.ite ((hs.setHlk _ _).emptyCycle _) ((hs.setHlk _ _).sendFrame _ _)) ((hs.setHlk _ _).sendFrame _ _)

theorem Keeps.hlkHalt (p : Fin 8) : Keeps s₀ (hlkHalt p s) := (hs.setF _ _ _).setHlk _ _

theorem Keeps.execHlkBeacon (p : Fin 8) : OutKeeps s₀ (execHlkBeacon p s) := by
  unfold Machine.execHlkBeacon
  dsimp only
  refine .ite hs.next (.ite ((hs.hlkHalt _).next) (.ite ((((hs.setHlk _ _).setHlk _ _).emptyCycle _).next) ?_))
  split
  · exact ((hs.setHlk _ _).retryCycle _ _).next
  · exact (hs.setHlk _ _).latchSlot _

theorem Keeps.settleReply (p : Fin 8) : Keeps s₀ (settleReply p s) := hs.setHlk _ _

theorem Keeps.replyFails (p : Fin 8) (c : HlkCycle) (miss : Bool) : Keeps s₀ (replyFails p c miss s) :=
  .ite ((((hs.settleReply _).setF _ _ _).addF _ _ _).setHlk _ _) (.ite ((((((hs.settleReply _).setF _ _ _).addF _
      _ _).addF _ _ _).setF _ _ _).setF _ _ _) ((((hs.settleReply _).setF _ _ _).addF _ _ _).addF _ _ _))

theorem Keeps.execReplyError (p : Fin 8) (miss : Bool) : OutKeeps s₀ (execReplyError p miss s) := by
  unfold Machine.execReplyError
  split
  · exact hs.next
  · exact .ite ((hs.replyFails _ _ _).next) hs.next

theorem Keeps.goodReply (p : Fin 8) (n : Nat) : Keeps s₀ (goodReply p n s) :=
  ((hs.settleReply _).addF _ _ _).setF _ _ _

theorem Keeps.retire (p : Fin 8) (c : HlkCycle) (ack : Nat) : Keeps s₀ (retire p c ack s) := by
  unfold Machine.retire
  refine .ite ?_ ?_
  · split
    · exact .ite (hs.txDone _ _) hs
    · exact hs
  · split
    · exact .ite (hs.txDone _ _) hs
    · exact hs

theorem Keeps.takePayload (p : Fin 8) (c : HlkCycle) (r : HetoReply) : Keeps s₀ (takePayload p c r s) := by
  unfold Machine.takePayload
  dsimp only
  refine .ite hs (.ite (hs.rxRecord _ _ _ _) ?_)
  split
  · exact .ite ((hs.setHlk _ _).rxRecord _ _ _ _) (hs.addF _ _ _)
  · exact hs

theorem Keeps.execHlkReply (p : Fin 8) (r : HetoReply) : OutKeeps s₀ (execHlkReply p r s) := by
  unfold Machine.execHlkReply
  dsimp only
  split
  · exact hs.next
  · exact .ite hs.next (.ite ((hs.replyFails _ _ _).next) ((Keeps.ite ((((Keeps.ite (hs.goodReply _ _) ((hs.goodReply
      _ _).setF _ _ _)).retire _ _ _).takePayload _ _ _).nodeUnknown _ _) (((Keeps.ite (hs.goodReply _ _)
      ((hs.goodReply _ _).setF _ _ _)).retire _ _ _).takePayload _ _ _)).next))

theorem Keeps.negotiate (p : Fin 8) (r : HetoHello) : Keeps s₀ (negotiate p r s) := by
  unfold Machine.negotiate
  dsimp only
  refine .ite hs ?_
  split
  · exact (hs.setF _ _ _).setF _ _ _
  · exact ((hs.setHlk _ _).setF _ _ _).setF _ _ _

theorem Keeps.noteHello (p : Fin 8) (r : HetoHello) : Keeps s₀ (noteHello p r s) := (hs.setF _ _ _).setF _ _ _

theorem Keeps.execNodeHelloReply (p : Fin 8) (r : HetoHello) : OutKeeps s₀ (execNodeHelloReply p r s) := by
  unfold Machine.execNodeHelloReply
  dsimp only
  split
  · exact hs.next
  · exact .ite hs.next (.ite ((hs.replyFails _ _ _).next) (((Keeps.ite (((hs.goodReply _ _).noteHello _
      _).nodeUnknown _ _) (((hs.goodReply _ _).noteHello _ _).negotiate _ _)).rxRecord _ _ _ _).next))

theorem Keeps.execStrayFrame (p : Fin 8) : OutKeeps s₀ (execStrayFrame p s) := .ite ((hs.addF _ _ _).next) hs.next

theorem Keeps.execPortDown (p : Fin 8) (collisions : Bool) : OutKeeps s₀ (execPortDown p collisions s) :=
  .ite hs.next ((Keeps.ite ((((hs.hlkHalt _).setF _ _ _).setF _ _ _).raiseTilt _) (((hs.hlkHalt _).setF _ _
      _).setF _ _ _)).next)

theorem Keeps.hlkStart (p : Fin 8) : Keeps s₀ (hlkStart p s) :=
  (((((((hs.fold fun _ _ hu => (hu.setF _ _ _).setF _ _ _).requeue _ _).setReg _ _).setF _ _ _).setF _ _ _).setHlk
      _ _).setF _ _ _).settleFalls _

theorem Keeps.hlkCtrlWrite (p : Fin 8) (v : Word) : OutKeeps s₀ (hlkCtrlWrite p v s) :=
  .ite (.ite ((hs.setReg _ _).next) (((hs.setReg _ _).hlkStart _).next)) (.ite (((hs.setReg _ _).setHlk _ _).next)
      ((hs.setReg _ _).next))

theorem Keeps.execPortStart (m : Master) (p : Fin 8) : OutKeeps s₀ (execPortStart m p s) :=
  hs.gate fun _ hu => hu.hlkCtrlWrite _ _

theorem Keeps.execPortStop (m : Master) (p : Fin 8) : OutKeeps s₀ (execPortStop m p s) :=
  hs.gate fun _ hu => hu.hlkCtrlWrite _ _

theorem Keeps.noteQueued (p : Fin 8) (i : Fin 16) : Keeps s₀ (noteQueued p i s) := hs.setHlk _ _

theorem Keeps.tx0Write (p : Fin 8) (i : Fin 16) (v : Word) : OutKeeps s₀ (tx0Write p i v s) :=
  .ite (Keeps.next hs) (Keeps.next (.ite (.noteQueued (.setReg (.ite hs (.withFree hs)) _ _) _ _) (.setReg (.ite
      hs (.withFree hs)) _ _)))

theorem Keeps.execTxQueue (m : Master) (p : Fin 8) (i : Fin 16) (node : Fin 64) (bcast : Bool) (endpoint : Fin 16) (len : Fin 1024) :
    OutKeeps s₀ (execTxQueue m p i node bcast endpoint len s) := hs.gate fun _ hu => hu.tx0Write _ _ _

theorem Keeps.execTxFree (m : Master) (p : Fin 8) (i : Fin 16) : OutKeeps s₀ (execTxFree m p i s) :=
  hs.gate fun _ hu => hu.tx0Write _ _ _

theorem Keeps.execSlotWrite (m : Master) (p : Fin 8) (slot : Fin 256) (node : Fin 64) (endpoint : Fin 16) (kind : Fin 3) :
    OutKeeps s₀ (execSlotWrite m p slot node endpoint kind s) := hs.gate fun _ hu => (hu.setReg _ _).next

theorem Keeps.tblWrite (p : Fin 8) (len : Nat) : OutKeeps s₀ (tblWrite p len s) :=
  .ite (Keeps.next (.setF hs _ _ _)) (Keeps.next (.setF (.withFree hs) _ _ _))

theorem Keeps.execTableLengthWrite (m : Master) (p : Fin 8) (len : Fin 257) :
    OutKeeps s₀ (execTableLengthWrite m p len s) := hs.gate fun _ hu => hu.tblWrite _ _

theorem Keeps.rxTailWrite (p : Fin 8) (cell : Nat) : OutKeeps s₀ (rxTailWrite p cell s) :=
  .ite (.fault _) ((((hs.setF _ _ _).noteAvail _).settleFalls _).next)

theorem Keeps.execRxTailWrite (m : Master) (p : Fin 8) (cell : Fin 64) : OutKeeps s₀ (execRxTailWrite m p cell s) :=
  hs.gate fun _ hu => hu.rxTailWrite _ _

/-! ## Sys2Proof/Machine/SelfTest.lean -/

theorem Keeps.execTilt (codes : List (BitVec 16)) : OutKeeps s₀ (execTilt codes s) := by
  unfold Machine.execTilt
  dsimp only
  split
  · exact hs.next
  · exact (hs.iterate fun _ hu => hu.raiseTilt _).next

theorem Keeps.tiltRequest (cause : Nat) : Keeps s₀ (tiltRequest cause s) := .ite hs (hs.raiseTilt _)

theorem Keeps.execSysTiltReq (m : Master) (cause : BitVec 8) : OutKeeps s₀ (execSysTiltReq m cause s) :=
  hs.gate fun _ hu => (hu.tiltRequest _).next

theorem Keeps.testRequest (v : BitVec 16) : Keeps s₀ (testRequest v s) := hs.setReg _ _

theorem Keeps.execSelfTestRequest (m : Master) (v : BitVec 16) : OutKeeps s₀ (execSelfTestRequest m v s) :=
  hs.gate fun _ hu => (hu.testRequest _).next

theorem Keeps.testReset (g : Nat) : Keeps s₀ (testReset g s) := hs.fold fun _ _ hu => hu.resetDomain _

theorem Keeps.execSelfTestStart : OutKeeps s₀ (execSelfTestStart s) := by
  unfold Machine.execSelfTestStart
  dsimp only
  refine .ite hs.next ?_
  split
  · exact hs.next
  · exact Keeps.next (.withPwr (.setF (.testReset (.setReg hs _ _) _) _ _ _) rfl rfl rfl)

theorem Keeps.execSelfTestEnd (good : Bool) : OutKeeps s₀ (execSelfTestEnd good s) := by
  unfold Machine.execSelfTestEnd
  dsimp only
  refine .ite hs.next ?_
  have h := ((Keeps.withPwr hs (p := { s.pwr with testing := 0 }) rfl rfl rfl).testReset
    (getF s P.SYS_LST_STAT F.SYS_LST_STAT_running)).setF P.SYS_LST_STAT F.SYS_LST_STAT_running 0x1F
  exact .ite (h.setReg _ _).next (h.raiseTilt _).next

theorem Keeps.mbistStart (mram dram : Bool) : Keeps s₀ (mbistStart mram dram s) := hs.setReg _ _

theorem Keeps.execMramTest (m : Master) : OutKeeps s₀ (execMramTest m s) :=
  hs.gate fun _ hu => (hu.mbistStart _ _).next

theorem Keeps.execDramTest (m : Master) : OutKeeps s₀ (execDramTest m s) :=
  hs.gate fun _ hu => (hu.mbistStart _ _).next

theorem Keeps.retireRows (b : Fin 8) (rows : List Nat) : Keeps s₀ (retireRows b rows s) :=
  .ite hs ((hs.addJobs _).addF _ _ _)

theorem Keeps.mramTestEnd (fails : List (Fin 8 × Fin 64)) : Keeps s₀ (mramTestEnd fails s) :=
  .ite hs ((Keeps.ite (hs.fold fun _ _ hu => hu.retireRows _ _) hs).setF _ _ _)

theorem Keeps.mbistTraffic (as : List Nat) : Granted (Keeps s₀) (mbistTraffic as s) := by
  induction as generalizing s with
  | nil => exact .ok hs
  | cons a as ih => exact ((hs.dramAccess _ _ _).bind fun _ hu => hu.dramAccess _ _ _).bind fun _ hu => ih hu

theorem Keeps.dramTestEnd (fail : Option Nat) : OutKeeps s₀ (dramTestEnd fail s) := by
  unfold Machine.dramTestEnd
  dsimp only
  refine .ite hs.next (.ite (.fault _) (.ite (.fault _) ?_))
  split
  · exact (hs.park _).next
  · next hx0 =>
    have hv0 := (hs.mbistTraffic _) _ hx0
    split
    · exact .ite ((((((hv0.eraseRange _ _).draw).setF _ _ _).setF _ _ _).setF _ _ _).next) ((((hv0.eraseRange _
        _).draw).setF _ _ _).next)
    · exact (((hv0.eraseRange _ _).draw).setF _ _ _).next

theorem Keeps.execMemoryTestEnd (e : MemTest) : OutKeeps s₀ (execMemoryTestEnd e s) := by
  unfold Machine.execMemoryTestEnd
  split
  · exact (hs.mramTestEnd _).next
  · exact hs.dramTestEnd _

/-! ## Sys2Proof/Machine/IoSys.lean -/

theorem Keeps.plainWrite (m : Master) (p : Nat) (v : Word) : OutKeeps s₀ (plainWrite m p v s) :=
  (hs.codeWrite _ _).next

theorem Keeps.plainRead (m : Master) (p : Nat) : Keeps s₀ (plainRead m p s).2 := hs.tableRead _

theorem Keeps.loadHold (m : Master) (hiPort : Nat) (lo hi : Word) : Keeps s₀ (loadHold m hiPort lo hi s).2 :=
  hs.setReg _ _

theorem Keeps.coreBankWrite (m : Master) (k : CoreId) (p : Nat) (v : Word) : OutKeeps s₀ (coreBankWrite m k p v s) :=
  .ite ((hs.coreCtrlWrite _ _).next) (.ite (.ite (.fault _) (hs.plainWrite _ _ _)) (.ite (.ite (.fault _)
      (hs.plainWrite _ _ _)) (.ite ((hs.cmoCtrlWrite _ _).next) (hs.plainWrite _ _ _))))

theorem Keeps.sysWrite (m : Master) (p : Nat) (v : Word) : OutKeeps s₀ (sysWrite m p v s) :=
  .ite ((hs.tiltRequest _).next) (.ite ((hs.testRequest _).next) (.ite ((hs.mbistStart _ _).next) (.ite
      (hs.coreBankWrite _ _ _ _) (hs.plainWrite _ _ _))))

theorem Keeps.sysRead (m : Master) (p : Nat) : Keeps s₀ (sysRead m p s).2 :=
  .iteSnd hs (.iteSnd (hs.loadHold _ _ _ _) (.iteSnd hs (hs.plainRead _ _)))

theorem Keeps.pwrCommand (v : Word) : Keeps s₀ (pwrCommand v s) :=
  .ite (hs.assertReset _ _ _) (.ite hs.eclipseCommand hs)

theorem Keeps.pwrWrite (m : Master) (p : Nat) (v : Word) : OutKeeps s₀ (pwrWrite m p v s) := by
  unfold Machine.pwrWrite
  dsimp only
  refine .ite ((hs.domainRequest _ _).next) (.ite ((hs.domainRequest _ _).next) (.ite ((hs.pwrCommand _).next) (.ite
      ((hs.dozeWrite _).next) (.ite ?_ (.ite ?_ (hs.plainWrite _ _ _))))))
  · split
    · exact Keeps.next (.setPwr hs rfl rfl rfl)
    · exact hs.next
  · split
    · exact Keeps.next (.setPwr hs rfl rfl rfl)
    · exact hs.next

theorem Keeps.pwrRead (m : Master) (p : Nat) : Keeps s₀ (pwrRead m p s).2 :=
  .iteSnd hs (.iteSnd hs (.iteSnd hs (.iteSnd (hs.loadHold _ _ _ _) (.iteSnd hs (.iteSnd (hs.loadHold _ _ _ _)
      (.iteSnd hs (hs.plainRead _ _)))))))

theorem Keeps.monRead (m : Master) (p : Nat) : Keeps s₀ (monRead m p s).2 := .iteSnd hs (hs.plainRead _ _)

theorem Keeps.intWrite (m : Master) (p : Nat) (v : Word) : OutKeeps s₀ (intWrite m p v s) := by
  unfold Machine.intWrite
  refine .ite (.ite (.fault _) (hs.plainWrite _ _ _)) (.ite ((hs.pendSet _ _ _).next) (.ite ((hs.pendClr _ _ _).next)
      (.ite (.ite (.fault _) ((hs.setReg _ _).next)) (.ite ((hs.setReg _ _).next) (.ite ?_ (.ite (hs.doorbell _ _)
      (hs.plainWrite _ _ _)))))))
  split
  · exact (hs.completeSource _ _).next
  · exact hs.next

theorem Keeps.intRead (m : Master) (p : Nat) : Keeps s₀ (intRead m p s).2 := by
  unfold Machine.intRead
  refine .iteSnd hs (.iteSnd hs (.iteSnd ?_ (.iteSnd ?_ (hs.plainRead _ _))))
  · split
    · exact hs.claim _
    · exact hs
  · split <;> exact hs

/-! ## Sys2Proof/Machine/IoUnit.lean -/

theorem Keeps.tmrWrite (m : Master) (p : Nat) (v : Word) : OutKeeps s₀ (tmrWrite m p v s) :=
  .ite (hs.tmrCtrlWrite _ _) (.ite ((hs.setTmr _ _).next) (.ite (hs.topWrite _ _) (.ite ((hs.setTmr _ _).next)
      (.ite (hs.cmpWrite _ _) (.ite ((hs.tmrCmdWrite _ _).next) (.ite (.fault _) (hs.plainWrite _ _ _)))))))

theorem Keeps.tmrRead (m : Master) (p : Nat) : Keeps s₀ (tmrRead m p s).2 :=
  .iteSnd (hs.captureRead _ _) (.iteSnd (hs.captureRead _ _) (.iteSnd hs (hs.plainRead _ _)))

theorem Keeps.pmcBlockWrite (m : Master) (p : Nat) (v : Word) : OutKeeps s₀ (pmcBlockWrite m p v s) :=
  .ite (Keeps.next (.pmcCtrlWrite hs _)) (.ite (Keeps.next (.withPmc hs)) (.ite (Keeps.next (.withPmc hs)) (.ite
      (.ite (Keeps.plainWrite (.pmcSettle hs) _ _ _) (.fault _)) (.ite (Keeps.next (.pmcWrite hs _ _)) (.ite
      (Keeps.histWrite hs _ _) (Keeps.plainWrite hs _ _ _))))))

theorem Keeps.pmcBlockRead (m : Master) (p : Nat) : Keeps s₀ (pmcBlockRead m p s).2 :=
  .iteSnd hs (.iteSnd hs (.iteSnd (hs.pmcRead _ _) (.iteSnd hs (hs.plainRead _ _))))

theorem Keeps.memBlockWrite (m : Master) (p : Nat) (v : Word) : OutKeeps s₀ (memBlockWrite m p v s) :=
  .ite (.ite hs.next (.fault _)) (.ite (hs.arbNWrite _) (.ite ((hs.rankWrite _ _).next) (hs.plainWrite _ _ _)))

theorem Keeps.memBlockRead (m : Master) (p : Nat) : Keeps s₀ (memBlockRead m p s).2 :=
  .iteSnd hs.eccAddrRead (hs.plainRead _ _)

theorem Keeps.dmaBlockWrite (m : Master) (p : Nat) (v : Word) : OutKeeps s₀ (dmaBlockWrite m p v s) :=
  .ite (.ite (hs.chCtrlWrite _ _) (.ite (.ite hs.next (.ite (((hs.tableWrite _ _).setF _ _ _).next) (hs.plainWrite
      _ _ _))) (hs.plainWrite _ _ _))) (.ite ((hs.eventSet _ _).next) (.ite ((hs.eventClr _ _).next)
      (hs.plainWrite _ _ _)))

theorem Keeps.dmaBlockRead (m : Master) (p : Nat) : Keeps s₀ (dmaBlockRead m p s).2 :=
  .iteSnd hs (.iteSnd hs (hs.plainRead _ _))

theorem Keeps.bltBlockWrite (m : Master) (p : Nat) (v : Word) : OutKeeps s₀ (bltBlockWrite m p v s) :=
  .ite (hs.ringWrite _ _) (.ite (hs.ringWrite _ _) (.ite ((hs.bltStatWrite _).next) (hs.plainWrite _ _ _)))

theorem Keeps.hlkBlockWrite (m : Master) (p : Nat) (v : Word) : OutKeeps s₀ (hlkBlockWrite m p v s) :=
  .ite (hs.hlkCtrlWrite _ _) (.ite (.ite hs.next (hs.plainWrite _ _ _)) (.ite (hs.tblWrite _ _) (.ite
      (hs.rxTailWrite _ _) (.ite (.ite (hs.tx0Write _ _ _) (.ite hs.next (hs.plainWrite _ _ _))) (.ite (.ite
      ((hs.setReg _ _).next) hs.next) (hs.plainWrite _ _ _))))))

theorem Keeps.hlkBlockRead (m : Master) (p : Nat) : Keeps s₀ (hlkBlockRead m p s).2 := by
  unfold Machine.hlkBlockRead
  exact .iteSnd (.iteSnd hs hs.draw) (.iteSnd hs (hs.plainRead _ _))

theorem Keeps.flrBlockWrite (m : Master) (p : Nat) (v : Word) : OutKeeps s₀ (flrBlockWrite m p v s) :=
  .ite (hs.flrCtrlWrite _) (.ite (.ite hs.next (hs.plainWrite _ _ _)) (.ite ((hs.plainWrite _ _ _).then fun _ hu
      => hu.checkpointRebase) (hs.plainWrite _ _ _)))

theorem Keeps.secBlockWrite (m : Master) (p : Nat) (v : Word) : OutKeeps s₀ (secBlockWrite m p v s) := by
  unfold Machine.secBlockWrite
  refine .ite ?_ (.ite ?_ (.ite ?_ ?_))
  · split
    · exact .ite (hs.plainWrite _ _ _) (hs.setReg _ _).next
    · exact Keeps.next (.ite (hs.setF _ _ _) hs)
  · split
    · exact (hs.fuseCommand _).next
    · exact hs.next
  · split
    · split
      · exact hs.drbgRequest _ _
      · exact hs.next
    · exact hs.next
  · have h := hs.plainWrite m p v
    split
    · next t e => exact (h t e).noteLow.next
    · exact h

theorem Keeps.secBlockRead (m : Master) (p : Nat) : Keeps s₀ (secBlockRead m p s).2 := by
  unfold Machine.secBlockRead
  dsimp only
  refine .iteSnd hs (.iteSnd hs (.iteSnd hs (.iteSnd ((hs.plainRead _ _).setF _ _ _) (.iteSnd ?_ (hs.plainRead _
      _)))))
  split
  · split
    · exact hs.outcomeRead _ _
    · exact hs
  · exact hs

theorem Keeps.ldgBlockWrite (m : Master) (p : Nat) (v : Word) : OutKeeps s₀ (ldgBlockWrite m p v s) := by
  unfold Machine.ldgBlockWrite
  refine .ite (.ite hs.next (hs.plainWrite _ _ _)) (.ite ?_ (hs.plainWrite _ _ _))
  split
  · exact (hs.mevSubmit _ _).next
  · exact hs.next

theorem Keeps.ldgBlockRead (m : Master) (p : Nat) : Keeps s₀ (ldgBlockRead m p s).2 := by
  unfold Machine.ldgBlockRead
  refine .iteSnd hs (.iteSnd hs (.iteSnd hs (.iteSnd hs (.iteSnd hs ?_))))
  split
  · exact .iteSnd (hs.seqRead _) (.iteSnd hs (.iteSnd (hs.meterRead _) (hs.plainRead _ _)))
  · exact hs.plainRead _ _

/-! ## Sys2Proof/Machine/IoDisp.lean -/

theorem Keeps.writeUnless (stop : Bool) (m : Master) (p : Nat) (v : Word) : OutKeeps s₀ (writeUnless stop m p v s) :=
  .ite hs.next (hs.plainWrite _ _ _)

theorem Keeps.plnWrite (m : Master) (p : Nat) (v : Word) : OutKeeps s₀ (plnWrite m p v s) := by
  unfold Machine.plnWrite
  exact .ite (hs.writeUnless _ _ _ _) (.ite ((hs.palWrite _ _).next) (.ite ((hs.setReg _ _).next) (.ite
      ((hs.coefWrite _
      _).next) (.ite ((Keeps.ite hs (hs.swapCoefs _ _)).next) (.ite ((Keeps.ite (hs.armProbe _ _ _ _)
      (hs.tableWrite _ _)).next) (.ite ((hs.pciStart _ _).next) (hs.plainWrite _ _ _)))))))

theorem Keeps.plnRead (m : Master) (p : Nat) : Keeps s₀ (plnRead m p s).2 := by
  unfold Machine.plnRead
  dsimp only
  refine .iteSnd hs (.iteSnd hs (.iteSnd ?_ (hs.plainRead _ _)))
  split <;> exact hs

theorem Keeps.cmtWrite (m : Master) (p : Nat) (v : Word) : OutKeeps s₀ (cmtWrite m p v s) :=
  .ite (hs.writeUnless _ _ _ _) (.ite ((Keeps.ite (hs.armProbe _ _ _ _) (hs.tableWrite _ _)).next) (hs.plainWrite
      _ _ _))

theorem Keeps.cmtRead (m : Master) (p : Nat) : Keeps s₀ (cmtRead m p s).2 := .iteSnd hs (hs.plainRead _ _)

theorem Keeps.ephBlockWrite (m : Master) (p : Nat) (v : Word) : OutKeeps s₀ (ephBlockWrite m p v s) :=
  .ite (hs.ephCtrlWrite _ _) (.ite (hs.writeUnless _ _ _ _) (.ite ((hs.frame0Write _ _).next) (.ite
      ((hs.commitWrite _ _).next) (.ite ((hs.rewriteWrite _ _ _).next) (hs.plainWrite _ _ _)))))

theorem Keeps.cmpBlockWrite (m : Master) (p : Nat) (v : Word) : OutKeeps s₀ (cmpBlockWrite m p v s) :=
  .ite (hs.writeUnless _ _ _ _) (.ite (hs.writeUnless _ _ _ _) (.ite ((Keeps.ite (hs.armProbe _ _ _ _)
      (hs.tableWrite _ _)).next) (hs.plainWrite _ _ _)))

theorem Keeps.dspCtrlWrite (d : Fin 4) (x : Word) : OutKeeps s₀ (dspCtrlWrite d x s) :=
  .ite (.fault _) (.ite (.fault _) (.ite (.fault _) (.ite (.fault _) (((((hs.drawCode _ _).setF _ _ _).setF _ _
      _).modeWrite _ _).next))))

theorem Keeps.dspTimingWrite (d : Fin 4) (i : Fin 5) (v : Word) : OutKeeps s₀ (dspTimingWrite d i v s) :=
  .ite (.fault _) ((hs.timingWrite _ _ _).next)

theorem Keeps.dspLinkWrite (d : Fin 4) (v : Word) : OutKeeps s₀ (dspLinkWrite d v s) :=
  .ite (.fault _) ((hs.codeWrite _ _).next)

theorem Keeps.dspBlockWrite (m : Master) (p : Nat) (v : Word) : OutKeeps s₀ (dspBlockWrite m p v s) :=
  .ite (hs.dspCtrlWrite _ _) (.ite (hs.dspLinkWrite _ _) (.ite ((Keeps.ite (hs.trainWrite _) hs).next) (.ite
      (hs.dspTimingWrite _ _ _) (.ite (hs.dspTimingWrite _ _ _) (.ite (hs.dspTimingWrite _ _ _) (.ite
      (hs.dspTimingWrite _ _ _) (.ite (hs.dspTimingWrite _ _ _) (.ite (hs.applyWrite _ _ _) (.ite ((hs.plainWrite
      _ _ _).then fun _ hu => hu.composerUrgency _) (hs.plainWrite _ _ _))))))))))

theorem Keeps.digBlockWrite (m : Master) (p : Nat) (v : Word) : OutKeeps s₀ (digBlockWrite m p v s) :=
  .ite ((hs.digCtrlWrite _ _ _).next) (.ite (hs.writeUnless _ _ _ _) (hs.plainWrite _ _ _))

theorem Keeps.tdmClaims : Keeps s₀ (tdmClaims s) := hs.setAas _

theorem Keeps.ktlBlockWrite (m : Master) (p : Nat) (v : Word) : OutKeeps s₀ (ktlBlockWrite m p v s) :=
  .ite ((hs.ktlCtrlWrite _).next) (.ite ((hs.ktlProbeWrite _).next) (.ite ((hs.writeUnless _ _ _ _).then fun _ hu
      => hu.tdmClaims) (.ite (hs.writeUnless _ _ _ _) (hs.plainWrite _ _ _))))

theorem Keeps.ktlRead (m : Master) (p : Nat) : Keeps s₀ (ktlRead m p s).2 := .iteSnd hs (hs.plainRead _ _)

theorem Keeps.aasBlockWrite (m : Master) (p : Nat) (v : Word) : OutKeeps s₀ (aasBlockWrite m p v s) :=
  .ite ((hs.calRequest _).next) (hs.plainWrite _ _ _)

/-! ## Sys2Proof/Machine/IsaMem.lean -/

theorem Keeps.loadBody (h : Hdr) (m : MemOp) (ext : Nat → Word) (c : Core) (npc : Word) :
    Granted (OutKeeps s₀) (loadBody h m ext c npc s) := by
  unfold Machine.loadBody
  dsimp only
  split
  · exact .ok (hs.stopWith _ _ _)
  · exact (hs.coreRead _ _ _).map fun _ hu => (hu.complete _ _).then fun _ hv => hv.noteAccess _ _ _

theorem Keeps.storeBody (h : Hdr) (m : MemOp) (c : Core) (npc : Word) :
    Granted (OutKeeps s₀) (storeBody h m c npc s) := by
  unfold Machine.storeBody
  dsimp only
  split
  · exact .ok (hs.stopWith _ _ _)
  · exact (hs.coreWrite _ _ _ _).map fun _ hu => (hu.complete _ _).then fun _ hv => hv.noteAccess _ _ _

theorem Keeps.execLdi (h : Hdr) (m : MemOp) : OutKeeps s₀ (execLdi h m s) :=
  hs.isaWait fun _ _ _ hu => .ite (Granted.ok (hu.faults _ _ _)) (.ite (Granted.ok (hu.faults _ _ _))
      ((hu.instrRead _ _ _).map fun _ hu1 => hu1.complete _ _))

theorem Keeps.rmwBody (h : Hdr) (m : MemOp) (new : Core → Nat → Nat → Option Nat) (fl : Core → Nat → Nat → FlagUpd)
    (c : Core) (npc : Word) : Granted (OutKeeps s₀) (rmwBody h m new fl c npc s) := by
  unfold Machine.rmwBody
  dsimp only
  split
  · exact .ok (hs.stopWith _ _ _)
  · exact (hs.coreModify _ _ _ _ _).map fun _ hu => (hu.complete _ _).then fun _ hv => hv.noteAccess _ _ _

theorem Keeps.rmwRun (h : Hdr) (m : MemOp) (new : Core → Nat → Nat → Option Nat) (fl : Core → Nat → Nat → FlagUpd) :
    OutKeeps s₀ (rmwRun h m new fl s) := hs.isaWait fun _ _ _ hu => hu.rmwBody _ _ _ _ _ _

theorem Keeps.execXchg (h : Hdr) (m : MemOp) : OutKeeps s₀ (execXchg h m s) := hs.rmwRun _ _ _ _

theorem Keeps.execCas (h : Hdr) (m : MemOp) : OutKeeps s₀ (execCas h m s) := hs.rmwRun _ _ _ _

theorem Keeps.execAddm (h : Hdr) (m : MemOp) : OutKeeps s₀ (execAddm h m s) := hs.rmwRun _ _ _ _

theorem Keeps.execAndm (h : Hdr) (m : MemOp) : OutKeeps s₀ (execAndm h m s) := hs.rmwRun _ _ _ _

theorem Keeps.execOrm (h : Hdr) (m : MemOp) : OutKeeps s₀ (execOrm h m s) := hs.rmwRun _ _ _ _

theorem Keeps.execXorm (h : Hdr) (m : MemOp) : OutKeeps s₀ (execXorm h m s) := hs.rmwRun _ _ _ _

theorem Keeps.execPush (h : Hdr) (r : Reg) : OutKeeps s₀ (execPush h r s) := by
  unfold Machine.execPush
  refine hs.isaWait fun _ _ _ hu => ?_
  dsimp only
  split
  · exact Granted.ok (hu.stopWith _ _ _)
  · exact (hu.coreWrite _ _ _ _).map fun _ hu1 => (hu1.complete _ _).then fun _ hu2 => hu2.noteAccess _ _ _

theorem Keeps.execPop (h : Hdr) (r : Reg) : OutKeeps s₀ (execPop h r s) := by
  unfold Machine.execPop
  refine hs.isaWait fun _ _ _ hu => ?_
  dsimp only
  split
  · exact Granted.ok (hu.stopWith _ _ _)
  · exact (hu.coreRead _ _ _).map fun _ hu1 => (hu1.complete _ _).then fun _ hu2 => hu2.noteAccess _ _ _

theorem Keeps.pushWords (k : CoreId) (ps : List Prefix) (c : Core) (rs : List Reg) (lo : Word) :
    Granted (Keeps s₀) (pushWords k ps c rs lo s) := by
  induction rs generalizing lo s with
  | nil => exact .ok hs
  | cons r rs ih => exact (hs.coreWrite _ _ _ _).bind fun _ hu => ih (hu.noteAccess _ _ _) _

theorem Keeps.popWords (k : CoreId) (ps : List Prefix) (c0 : Core) (rs : List Reg) (lo : Word) (c : Core) :
    Granted (fun r => Keeps s₀ r.2) (popWords k ps c0 rs lo c s) := by
  induction rs generalizing lo c s with
  | nil => exact .ok hs
  | cons r rs ih => exact (hs.coreRead _ _ _).bind fun _ hu => ih (hu.noteAccess _ _ _) _ _

theorem Keeps.execPushm (h : Hdr) (r : Reg) (mask : BitVec 16) : OutKeeps s₀ (execPushm h r mask s) := by
  unfold Machine.execPushm
  refine hs.isaWait fun _ _ _ hu => ?_
  dsimp only
  split
  · exact Granted.ok (hu.stopWith _ _ _)
  · exact (hu.pushWords _ _ _ _ _).map fun _ hu1 => hu1.complete _ _

theorem Keeps.execPopm (h : Hdr) (r : Reg) (mask : BitVec 16) : OutKeeps s₀ (execPopm h r mask s) := by
  unfold Machine.execPopm
  refine hs.isaWait fun _ _ _ hu => ?_
  dsimp only
  split
  · exact Granted.ok (hu.stopWith _ _ _)
  · exact (hu.popWords _ _ _ _ _ _).map fun _ hu1 => hu1.complete _ _

theorem Keeps.macRun (h : Hdr) (m : MacOp) (op : Acc72 → Acc72 → Acc72) : OutKeeps s₀ (macRun h m op s) :=
  hs.isaRun fun _ _ _ hu => .ite (hu.faults _ _ _) (.ite (hu.faults _ _ _) ((hu.draw.complete _ _).then fun _ hu1
      => (hu1.noteAccess _ _ _).noteAccess _ _ _))

theorem Keeps.execMac (h : Hdr) (m : MacOp) : OutKeeps s₀ (execMac h m s) := hs.macRun _ _ _

theorem Keeps.execMsu (h : Hdr) (m : MacOp) : OutKeeps s₀ (execMsu h m s) := hs.macRun _ _ _

theorem Keeps.execMpy (h : Hdr) (m : MacOp) : OutKeeps s₀ (execMpy h m s) := hs.macRun _ _ _

theorem Keeps.accRun (h : Hdr) (m : AccOp) (op : Acc72 → Word → Word → Acc72) : OutKeeps s₀ (accRun h m op s) :=
  hs.isaRun fun _ _ _ hu => hu.complete _ _

theorem Keeps.execMacr (h : Hdr) (m : AccOp) : OutKeeps s₀ (execMacr h m s) := hs.accRun _ _ _

theorem Keeps.execMsur (h : Hdr) (m : AccOp) : OutKeeps s₀ (execMsur h m s) := hs.accRun _ _ _

theorem Keeps.execMpyr (h : Hdr) (m : AccOp) : OutKeeps s₀ (execMpyr h m s) := hs.accRun _ _ _

theorem Keeps.execMacru (h : Hdr) (m : AccOp) : OutKeeps s₀ (execMacru h m s) := hs.accRun _ _ _

theorem Keeps.execMva (h : Hdr) (m : AccOp) (sh : BitVec 8) : OutKeeps s₀ (execMva h m sh s) :=
  hs.isaRun fun _ _ _ hu => hu.complete _ _

theorem Keeps.execRda (h : Hdr) (m : AccOp) : OutKeeps s₀ (execRda h m s) := hs.isaRun fun _ _ _ hu => hu.complete _ _

theorem Keeps.execWra (h : Hdr) (m : AccOp) : OutKeeps s₀ (execWra h m s) := hs.isaRun fun _ _ _ hu => hu.complete _ _

theorem Keeps.execClra (h : Hdr) (m : AccOp) : OutKeeps s₀ (execClra h m s) :=
  hs.isaRun fun _ _ _ hu => hu.complete _ _

/-! ## Sys2Proof/Machine/Io.lean -/

theorem Keeps.blockWrite (m : Master) (p : Nat) (v : Word) : OutKeeps s₀ (blockWrite m p v s) :=
  .ite (hs.sysWrite _ _ _) (.ite (hs.pwrWrite _ _ _) (.ite (hs.plainWrite _ _ _) (.ite (hs.intWrite _ _ _) (.ite
      (hs.tmrWrite _ _ _) (.ite (hs.pmcBlockWrite _ _ _) (.ite (hs.memBlockWrite _ _ _) (.ite (hs.dmaBlockWrite _
      _ _) (.ite (hs.bltBlockWrite _ _ _) (.ite (hs.plainWrite _ _ _) (.ite (hs.pinWrite _ _ _) (.ite
      (hs.hlkBlockWrite _ _ _) (.ite (hs.flrBlockWrite _ _ _) (.ite (hs.secBlockWrite _ _ _) (.ite
      (hs.ldgBlockWrite _ _ _) (.ite (hs.plnWrite _ _ _) (.ite (hs.cmtWrite _ _ _) (.ite (hs.ephBlockWrite _ _ _)
      (.ite (hs.cmpBlockWrite _ _ _) (.ite (hs.dspBlockWrite _ _ _) (.ite (hs.digBlockWrite _ _ _) (.ite
      (hs.ktlBlockWrite _ _ _) (.ite (hs.aasBlockWrite _ _ _) (hs.plainWrite _ _ _)))))))))))))))))))))))

theorem Keeps.blockRead (m : Master) (p : Nat) : Keeps s₀ (blockRead m p s).2 :=
  .iteSnd (hs.sysRead _ _) (.iteSnd (hs.pwrRead _ _) (.iteSnd (hs.monRead _ _) (.iteSnd (hs.intRead _ _) (.iteSnd
      (hs.tmrRead _ _) (.iteSnd (hs.pmcBlockRead _ _) (.iteSnd (hs.memBlockRead _ _) (.iteSnd (hs.dmaBlockRead _
      _) (.iteSnd (hs.plainRead _ _) (.iteSnd (hs.pinRead _ _) (.iteSnd (hs.hlkBlockRead _ _) (.iteSnd
      (hs.plainRead _ _) (.iteSnd (hs.secBlockRead _ _) (.iteSnd (hs.ldgBlockRead _ _) (.iteSnd (hs.plnRead _ _)
      (.iteSnd (hs.cmtRead _ _) (.iteSnd (hs.ktlRead _ _) (hs.plainRead _ _)))))))))))))))))

theorem Keeps.busWrite (m : Master) (port : Nat) (v : Word) : OutKeeps s₀ (busWrite m port v s) :=
  .ite ((hs.accessed _).blockWrite _ _ _) (.ite (.fault _) (.ite ((hs.accessed _).next) (((hs.accessed
      _).blockWrite _ _ _).then fun _ hu => (hu.latchPads _ _).settleFalls _)))

theorem Keeps.busRead (m : Master) (port : Nat) : Keeps s₀ (busRead m port s).2 :=
  .iteSnd (hs.accessed _) (((hs.accessed _).blockRead _ _).settleFalls _)

theorem Keeps.execRegisterWrite (m : Master) (port : BitVec 24) (v : Word) :
    OutKeeps s₀ (execRegisterWrite m port v s) := hs.gate fun _ hu => hu.busWrite _ _ _

theorem Keeps.debugRead (p : Nat) : OutKeeps s₀ (debugRead p s) :=
  Keeps.gate hs fun _ hu => Keeps.next (.withRdata (.busRead hu _ _))

theorem Keeps.execDebugHalt (k : CoreId) (o : DebugOp) : OutKeeps s₀ (execDebugHalt k o s) := by
  unfold Machine.execDebugHalt
  refine .ite ?_ hs.next
  split
  · exact hs.debugRead _
  · exact (hs.debugOp _ _).next

theorem Keeps.inBody (h : Hdr) (r : Reg) (port : Core → Nat) (upd : Core → Core) (c : Core) (npc : Word) :
    OutKeeps s₀ (inBody h r port upd c npc s) := by
  unfold Machine.inBody
  dsimp only
  split
  · exact hs.faults _ _ _
  · exact .ite (.fault _) (Keeps.complete (.iteSnd (hs.busRead _ _) hs) _ _)

theorem Keeps.outBody (h : Hdr) (r : Reg) (port : Core → Nat) (upd : Core → Core) (c : Core) (npc : Word) :
    OutKeeps s₀ (outBody h r port upd c npc s) := by
  unfold Machine.outBody
  dsimp only
  split
  · exact hs.faults _ _ _
  · exact .ite (.fault _) (.ite ((hs.setCore _ _).busWrite _ _ _) (hs.setCore _ _).next)

theorem Keeps.loadRun (h : Hdr) (m : MemOp) (ext : Nat → Word) : OutKeeps s₀ (loadRun h m ext s) :=
  .ite (hs.isaRun fun _ _ _ hu => hu.inBody _ _ _ _ _ _) (hs.isaWait fun _ _ _ hu => hu.loadBody _ _ _ _ _)

theorem Keeps.storeRun (h : Hdr) (m : MemOp) : OutKeeps s₀ (storeRun h m s) :=
  .ite (hs.isaRun fun _ _ _ hu => hu.outBody _ _ _ _ _ _) (hs.isaWait fun _ _ _ hu => hu.storeBody _ _ _ _)

theorem Keeps.execLd (h : Hdr) (m : MemOp) : OutKeeps s₀ (execLd h m s) := hs.loadRun _ _ _

theorem Keeps.execLds (h : Hdr) (m : MemOp) : OutKeeps s₀ (execLds h m s) := hs.loadRun _ _ _

theorem Keeps.execSt (h : Hdr) (m : MemOp) : OutKeeps s₀ (execSt h m s) := hs.storeRun _ _

theorem Keeps.execIoIn (h : Hdr) (f : IoForm) : OutKeeps s₀ (execIoIn h f s) := by
  unfold Machine.execIoIn
  split
  · exact hs.isaRun fun _ _ _ hu => hu.inBody _ _ _ _ _ _
  · exact hs.loadRun _ _ _

theorem Keeps.execIoOut (h : Hdr) (f : IoForm) : OutKeeps s₀ (execIoOut h f s) := by
  unfold Machine.execIoOut
  split
  · exact hs.isaRun fun _ _ _ hu => hu.outBody _ _ _ _ _ _
  · exact hs.storeRun _ _

/-! ## Sys2Proof/Machine/IsaAlu.lean -/

theorem Keeps.aluWrite (k : CoreId) (d : Reg) (r : AluRes) (c : Core) (npc : Word) :
    OutKeeps s₀ (aluWrite k d r c npc s) := hs.complete _ _

theorem Keeps.aluRun (h : Hdr) (clk : Nat) (f : AluForm) (ok : Bool) (op : Core → AluRes) :
    OutKeeps s₀ (aluRun h clk f ok op s) := hs.isaRun fun _ _ _ hu => hu.aluWrite _ _ _ _ _

theorem Keeps.execAdd (h : Hdr) (f : AluForm) : OutKeeps s₀ (execAdd h f s) := hs.aluRun _ _ _ _ _

theorem Keeps.execAdc (h : Hdr) (f : AluForm) : OutKeeps s₀ (execAdc h f s) := hs.aluRun _ _ _ _ _

theorem Keeps.execSub (h : Hdr) (f : AluForm) : OutKeeps s₀ (execSub h f s) := hs.aluRun _ _ _ _ _

theorem Keeps.execSbc (h : Hdr) (f : AluForm) : OutKeeps s₀ (execSbc h f s) := hs.aluRun _ _ _ _ _

theorem Keeps.execAndOp (h : Hdr) (f : AluForm) : OutKeeps s₀ (execAndOp h f s) := hs.aluRun _ _ _ _ _

theorem Keeps.execOrOp (h : Hdr) (f : AluForm) : OutKeeps s₀ (execOrOp h f s) := hs.aluRun _ _ _ _ _

theorem Keeps.execXor (h : Hdr) (f : AluForm) : OutKeeps s₀ (execXor h f s) := hs.aluRun _ _ _ _ _

theorem Keeps.execShl (h : Hdr) (f : AluForm) : OutKeeps s₀ (execShl h f s) := hs.aluRun _ _ _ _ _

theorem Keeps.execShr (h : Hdr) (f : AluForm) : OutKeeps s₀ (execShr h f s) := hs.aluRun _ _ _ _ _

theorem Keeps.execAsr (h : Hdr) (f : AluForm) : OutKeeps s₀ (execAsr h f s) := hs.aluRun _ _ _ _ _

theorem Keeps.execRor (h : Hdr) (f : AluForm) : OutKeeps s₀ (execRor h f s) := hs.aluRun _ _ _ _ _

theorem Keeps.execMul (h : Hdr) (f : AluForm) : OutKeeps s₀ (execMul h f s) := hs.aluRun _ _ _ _ _

theorem Keeps.execMulhs (h : Hdr) (f : AluForm) : OutKeeps s₀ (execMulhs h f s) := hs.aluRun _ _ _ _ _

theorem Keeps.execMulhu (h : Hdr) (f : AluForm) : OutKeeps s₀ (execMulhu h f s) := hs.aluRun _ _ _ _ _

theorem Keeps.execDivs (h : Hdr) (f : AluForm) : OutKeeps s₀ (execDivs h f s) := hs.aluRun _ _ _ _ _

theorem Keeps.execDivu (h : Hdr) (f : AluForm) : OutKeeps s₀ (execDivu h f s) := hs.aluRun _ _ _ _ _

theorem Keeps.execCmp (h : Hdr) (f : UnForm) : OutKeeps s₀ (execCmp h f s) :=
  hs.isaRun fun _ _ _ hu => hu.complete _ _

theorem Keeps.execTst (h : Hdr) (f : UnForm) : OutKeeps s₀ (execTst h f s) :=
  hs.isaRun fun _ _ _ hu => hu.complete _ _

theorem Keeps.execMov (h : Hdr) (f : UnForm) : OutKeeps s₀ (execMov h f s) :=
  hs.isaRun fun _ _ _ hu => hu.aluWrite _ _ _ _ _

theorem Keeps.unaryRun (h : Hdr) (d src : Reg) (op : Word → AluRes) : OutKeeps s₀ (unaryRun h d src op s) :=
  hs.isaRun fun _ _ _ hu => hu.aluWrite _ _ _ _ _

theorem Keeps.execNeg (h : Hdr) (d src : Reg) : OutKeeps s₀ (execNeg h d src s) := hs.unaryRun _ _ _ _

theorem Keeps.execNotOp (h : Hdr) (d src : Reg) : OutKeeps s₀ (execNotOp h d src s) := hs.unaryRun _ _ _ _

theorem Keeps.execSxb (h : Hdr) (d src : Reg) : OutKeeps s₀ (execSxb h d src s) := hs.unaryRun _ _ _ _

theorem Keeps.execSxh (h : Hdr) (d src : Reg) : OutKeeps s₀ (execSxh h d src s) := hs.unaryRun _ _ _ _

theorem Keeps.execZxb (h : Hdr) (d src : Reg) : OutKeeps s₀ (execZxb h d src s) := hs.unaryRun _ _ _ _

theorem Keeps.execZxh (h : Hdr) (d src : Reg) : OutKeeps s₀ (execZxh h d src s) := hs.unaryRun _ _ _ _

theorem Keeps.execClz (h : Hdr) (d src : Reg) : OutKeeps s₀ (execClz h d src s) := hs.unaryRun _ _ _ _

/-! ## Sys2Proof/Machine/IsaFlow.lean -/

theorem Keeps.execNop (h : Hdr) : OutKeeps s₀ (execNop h s) := hs.isaRun fun _ _ _ hu => hu.complete _ _

theorem Keeps.execRet (h : Hdr) : OutKeeps s₀ (execRet h s) := hs.isaRun fun _ _ _ hu => hu.complete _ _

theorem Keeps.execBranch (h : Hdr) (f : BranchForm) : OutKeeps s₀ (execBranch h f s) :=
  hs.isaRun fun _ _ _ hu => hu.complete _ _

theorem Keeps.execCallRel (h : Hdr) (rel : Word) : OutKeeps s₀ (execCallRel h rel s) :=
  hs.isaRun fun _ _ _ hu => hu.complete _ _

theorem Keeps.execJmp (h : Hdr) (r : Reg) : OutKeeps s₀ (execJmp h r s) := hs.isaRun fun _ _ _ hu => hu.complete _ _

theorem Keeps.execCallRegister (h : Hdr) (r : Reg) : OutKeeps s₀ (execCallRegister h r s) :=
  hs.isaRun fun _ _ _ hu => hu.complete _ _

theorem Keeps.execRte (h : Hdr) (r : Reg) : OutKeeps s₀ (execRte h r s) :=
  hs.isaRun fun _ _ _ hu => hu.privileged fun _ _ _ hu1 => ((hu1.setCore _ _).returnFromException _).next

theorem Keeps.execHalt (h : Hdr) (r : Reg) : OutKeeps s₀ (execHalt h r s) :=
  hs.isaRun fun _ _ _ hu => hu.privileged fun _ _ _ hu1 => hu1.complete _ _

theorem Keeps.execBrk (h : Hdr) (r : Reg) : OutKeeps s₀ (execBrk h r s) :=
  hs.isaRun fun _ _ _ hu => .ite (hu.complete _ _) ((hu.takeException _ _ _ _).next)

theorem Keeps.execMfsr (h : Hdr) (r : Reg) : OutKeeps s₀ (execMfsr h r s) := hs.isaRun fun _ _ _ hu => hu.complete _ _

theorem Keeps.execMtsr (h : Hdr) (r : Reg) : OutKeeps s₀ (execMtsr h r s) :=
  hs.isaRun fun _ _ _ hu => hu.privileged fun _ _ _ hu1 => hu1.complete _ _

theorem Keeps.execMtf (h : Hdr) (r : Reg) : OutKeeps s₀ (execMtf h r s) := hs.isaRun fun _ _ _ hu => hu.complete _ _

theorem Keeps.execEi (h : Hdr) (r : Reg) : OutKeeps s₀ (execEi h r s) :=
  hs.isaRun fun _ _ _ hu => hu.privileged fun _ _ _ hu1 => hu1.complete _ _

theorem Keeps.execDi (h : Hdr) (r : Reg) : OutKeeps s₀ (execDi h r s) :=
  hs.isaRun fun _ _ _ hu => hu.privileged fun _ _ _ hu1 => hu1.complete _ _

/-! ## Sys2Proof/Machine/Recovery.lean -/

theorem Keeps.sramRecovered (a : Nat) : Keeps s₀ (sramRecovered a s) := (hs.setF _ _ _).noteEcc _ _

theorem Keeps.refetchPat (line : Nat) : Granted (Keeps s₀) (refetchPat line s) :=
  .ite (((hs.patErase _).dramAccess _ _ _).map fun _ hu => hu.patInsert _) (Granted.ok hs)

theorem Keeps.rereadBand (d : Fin 4) (n : Nat) : Granted (Keeps s₀) (rereadBand d n s) := by
  unfold Machine.rereadBand
  dsimp only
  split
  · exact Granted.ok hs
  · exact ((hs.dramRead _ _ _).bind fun _ hu => hu.dramRead _ _ _).map fun _ hu => hu.setClu _ _

theorem Keeps.sramBad (a : Nat) (line : Option Nat) : Granted (Keeps s₀) (sramBad a line s) := by
  unfold Machine.sramBad
  split
  · exact (hs.refetchPat _).map fun _ hu => hu.sramRecovered _
  · exact Granted.ok (hs.sramRecovered _)
  · exact (hs.rereadBand _ _).map fun _ hu => hu.sramRecovered _
  · exact Granted.ok (hs.sramRecovered _)
  · split
    · exact Granted.ok (hs.sramRecovered _)
    · exact .ite (Granted.ok (hs.raiseTilt _)) ((hs.l2Fill _).map fun _ hu => hu.sramRecovered _)
  · exact Granted.ok (hs.raiseTilt _)

theorem Keeps.execSramRefetch (a : Nat) (line : Option Nat) (correctable : Bool) :
    OutKeeps s₀ (execSramRefetch a line correctable s) := by
  unfold Machine.execSramRefetch
  refine .ite hs.next (.ite ((((hs.addF _ _ _).setF _ _ _).noteEcc _ _).next) ?_)
  split
  · next hx0 =>
    have hv0 := (hs.sramBad _ _) _ hx0
    exact hv0.next
  · exact (hs.park _).next

/-! ## Sys2Proof/Machine/Dispatch.lean -/

/-- Every command but the release of device reset. -/
theorem Keeps.exec : ∀ i : Instr, (∀ env, i ≠ .resetRelease env) → OutKeeps s₀ (exec i s)
  | .registerWrite m port v, _ => hs.execRegisterWrite m port v
  | .tilt codes, _ => hs.execTilt codes
  | .sysTiltReq m cause, _ => hs.execSysTiltReq m cause
  | .retrain d, _ => hs.execRetrain d
  | .memoryRequest id a data lock now, _ => hs.execMemoryRequest id a data lock now
  | .arbitration c clocks, _ => hs.execArbitration c clocks
  | .refreshEmergency c due, _ => hs.execRefreshEmergency c due
  | .watchdogBite c, _ => hs.execWatchdogBite c
  | .rankWrite m id rank, _ => hs.execRankWrite m id rank
  | .arbNWrite m n, _ => hs.execArbNWrite m n
  | .selfRefreshEntry, _ => hs.execSelfRefreshEntry
  | .selfRefreshExit, _ => hs.execSelfRefreshExit
  | .readReturn c e, _ => hs.execReadReturn c e
  | .dramReadRepeat c e, _ => hs.execDramReadRepeat c e
  | .sramRefetch a line correctable, _ => hs.execSramRefetch a line correctable
  | .memEccAddrLoRead m, _ => hs.execMemEccAddrLoRead m
  | .paletteWrite m d high, _ => hs.execPaletteWrite m d high
  | .coefWrite m d v, _ => hs.execCoefWrite m d v
  | .coefSwap m d mask, _ => hs.execCoefSwap m d mask
  | .plnProbeArm m d plane x y, _ => hs.execPlnProbeArm m d plane x y
  | .patternFill d u tag set, _ => hs.execPatternFill d u tag set
  | .invalidateRange m, _ => hs.execInvalidateRange m
  | .invalidateAll m start, _ => hs.execInvalidateAll m start
  | .invalidationEnd, _ => hs.execInvalidationEnd
  | .rasteriseBand d wait, _ => hs.execRasteriseBand d wait
  | .cmtProbeArm m d x y, _ => hs.execCmtProbeArm m d x y
  | .ephCommit m d frame, _ => hs.execEphCommit m d frame
  | .headerRead d, _ => hs.execHeaderRead d
  | .ephTake d, _ => hs.execEphTake d
  | .ephRewrite m d f band, _ => hs.execEphRewrite m d f band
  | .ephFrame0Write m d v, _ => hs.execEphFrame0Write m d v
  | .sequencerStart m d v, _ => hs.execSequencerStart m d v
  | .sequencerStop m d v, _ => hs.execSequencerStop m d v
  | .sequencerStopped d, _ => hs.execSequencerStopped d
  | .composeTick d, _ => hs.execComposeTick d
  | .composeBand d wait, _ => hs.execComposeBand d wait
  | .cmpProbeArm m d x y, _ => hs.execCmpProbeArm m d x y
  | .beamLine d unread, _ => hs.execBeamLine d unread
  | .applyArm m d line, _ => hs.execApplyArm m d line
  | .sendBand d, _ => hs.execSendBand d
  | .sendEnd d band, _ => hs.execSendEnd d band
  | .dspTrain m d, _ => hs.execDspTrain m d
  | .trainingEnd d result su ygran, _ => hs.execTrainingEnd d result su ygran
  | .laneMismatch d lane first last clocks, _ => hs.execLaneMismatch d lane first last clocks
  | .hpdLost d, _ => hs.execHpdLost d
  | .irqHpd d updateError, _ => hs.execIrqHpd d updateError
  | .bandDigest d lane after, _ => hs.execBandDigest d lane after
  | .frameDigest d, _ => hs.execFrameDigest d
  | .digestExport d, _ => hs.execDigestExport d
  | .recallEnable m d dump, _ => hs.execRecallEnable m d dump
  | .recallClear m d dump, _ => hs.execRecallClear m d dump
  | .bltTailWrite m tail, _ => hs.execBltTailWrite m tail
  | .bltCopy, _ => hs.execBltCopy
  | .bltFill, _ => hs.execBltFill
  | .bltBlend, _ => hs.execBltBlend
  | .blitComplete, _ => hs.execBlitComplete
  | .blitStop m, _ => hs.execBlitStop m
  | .ringConfig m size v, _ => hs.execRingConfig m size v
  | .kettleRun m timebase slots, _ => hs.execKettleRun m timebase slots
  | .kettleStop m, _ => hs.execKettleStop m
  | .kettlePeriod tdm mic, _ => hs.execKettlePeriod tdm mic
  | .cueSlotRead, _ => hs.execCueSlotRead
  | .streamFill r, _ => hs.execStreamFill r
  | .cdFault o collapsed, _ => hs.execCdFault o collapsed
  | .aasCalReq m v, _ => hs.execAasCalReq m v
  | .calibrationStep u rpt, _ => hs.execCalibrationStep u rpt
  | .ktlProbeArm m bus, _ => hs.execKtlProbeArm m bus
  | .coreRun m k ugpio, _ => hs.execCoreRun m k ugpio
  | .coreReset m k run ugpio, _ => hs.execCoreReset m k run ugpio
  | .coreStop m k ugpio, _ => hs.execCoreStop m k ugpio
  | .interruptEntry k, _ => hs.execInterruptEntry k
  | .haltWake k, _ => hs.execHaltWake k
  | .cmoClean m k, _ => hs.execCmoClean m k
  | .cmoInvalidate m k, _ => hs.execCmoInvalidate m k
  | .cmoCleanInvalidate m k, _ => hs.execCmoCleanInvalidate m k
  | .iCacheInvalidate m k, _ => hs.execICacheInvalidate m k
  | .cacheOperationDone k, _ => hs.execCacheOperationDone k
  | .l2WriteBack line, _ => hs.execL2WriteBack line
  | .pinPrivOut k g v, _ => hs.execPinPrivOut k g v
  | .pinPrivSet k g v, _ => hs.execPinPrivSet k g v
  | .pinPrivClr k g v, _ => hs.execPinPrivClr k g v
  | .nop h, _ => hs.execNop h
  | .ret h, _ => hs.execRet h
  | .add h f, _ => hs.execAdd h f
  | .adc h f, _ => hs.execAdc h f
  | .sub h f, _ => hs.execSub h f
  | .sbc h f, _ => hs.execSbc h f
  | .andOp h f, _ => hs.execAndOp h f
  | .orOp h f, _ => hs.execOrOp h f
  | .xor h f, _ => hs.execXor h f
  | .shl h f, _ => hs.execShl h f
  | .shr h f, _ => hs.execShr h f
  | .asr h f, _ => hs.execAsr h f
  | .ror h f, _ => hs.execRor h f
  | .mul h f, _ => hs.execMul h f
  | .mulhs h f, _ => hs.execMulhs h f
  | .mulhu h f, _ => hs.execMulhu h f
  | .divs h f, _ => hs.execDivs h f
  | .divu h f, _ => hs.execDivu h f
  | .cmp h f, _ => hs.execCmp h f
  | .tst h f, _ => hs.execTst h f
  | .mov h f, _ => hs.execMov h f
  | .neg h d src, _ => hs.execNeg h d src
  | .notOp h d src, _ => hs.execNotOp h d src
  | .sxb h d src, _ => hs.execSxb h d src
  | .sxh h d src, _ => hs.execSxh h d src
  | .zxb h d src, _ => hs.execZxb h d src
  | .zxh h d src, _ => hs.execZxh h d src
  | .clz h d src, _ => hs.execClz h d src
  | .ld h m, _ => hs.execLd h m
  | .lds h m, _ => hs.execLds h m
  | .st h m, _ => hs.execSt h m
  | .ldi h m, _ => hs.execLdi h m
  | .xchg h m, _ => hs.execXchg h m
  | .cas h m, _ => hs.execCas h m
  | .addm h m, _ => hs.execAddm h m
  | .andm h m, _ => hs.execAndm h m
  | .orm h m, _ => hs.execOrm h m
  | .xorm h m, _ => hs.execXorm h m
  | .ioIn h f, _ => hs.execIoIn h f
  | .ioOut h f, _ => hs.execIoOut h f
  | .branch h f, _ => hs.execBranch h f
  | .callRel h rel, _ => hs.execCallRel h rel
  | .rte h r, _ => hs.execRte h r
  | .halt h r, _ => hs.execHalt h r
  | .brk h r, _ => hs.execBrk h r
  | .mfsr h r, _ => hs.execMfsr h r
  | .mtsr h r, _ => hs.execMtsr h r
  | .mtf h r, _ => hs.execMtf h r
  | .ei h r, _ => hs.execEi h r
  | .di h r, _ => hs.execDi h r
  | .jmp h r, _ => hs.execJmp h r
  | .callRegister h r, _ => hs.execCallRegister h r
  | .push h r, _ => hs.execPush h r
  | .pop h r, _ => hs.execPop h r
  | .pushm h r mask, _ => hs.execPushm h r mask
  | .popm h r mask, _ => hs.execPopm h r mask
  | .mac h m, _ => hs.execMac h m
  | .msu h m, _ => hs.execMsu h m
  | .mpy h m, _ => hs.execMpy h m
  | .macr h m, _ => hs.execMacr h m
  | .msur h m, _ => hs.execMsur h m
  | .mpyr h m, _ => hs.execMpyr h m
  | .macru h m, _ => hs.execMacru h m
  | .mva h m sh, _ => hs.execMva h m sh
  | .rda h m, _ => hs.execRda h m
  | .wra h m, _ => hs.execWra h m
  | .clra h m, _ => hs.execClra h m
  | .interruptLine k n high, _ => hs.execInterruptLine k n high
  | .intClaim k, _ => hs.execIntClaim k
  | .intComplete k n, _ => hs.execIntComplete k n
  | .intPendSet m w v, _ => hs.execIntPendSet m w v
  | .intPendClr m w v, _ => hs.execIntPendClr m w v
  | .doorbell m bell c, _ => hs.execDoorbell m bell c
  | .holdoffEnd k, _ => hs.execHoldoffEnd k
  | .edgeLatch n rising, _ => hs.execEdgeLatch n rising
  | .edgeDelivery n, _ => hs.execEdgeDelivery n
  | .channelStart m n, _ => hs.execChannelStart m n
  | .channelResume m n, _ => hs.execChannelResume m n
  | .channelStop m n, _ => hs.execChannelStop m n
  | .dmaMove n g, _ => hs.execDmaMove n g
  | .dmaLoop n, _ => hs.execDmaLoop n
  | .dmaEndl n, _ => hs.execDmaEndl n
  | .dmaWait n, _ => hs.execDmaWait n
  | .waitProceed n, _ => hs.execWaitProceed n
  | .dmaSignal n, _ => hs.execDmaSignal n
  | .crcBegin n, _ => hs.execCrcBegin n
  | .crcStore n, _ => hs.execCrcStore n
  | .endProgram n, _ => hs.execEndProgram n
  | .drainEnd n, _ => hs.execDrainEnd n
  | .shaUnitGrant, _ => hs.execShaUnitGrant
  | .dmaEventSet m w v, _ => hs.execDmaEventSet m w v
  | .dmaEventClr m w v, _ => hs.execDmaEventClr m w v
  | .rateWindow, _ => hs.execRateWindow
  | .timerRun m n mode prescale outMode dmaSel, _ => hs.execTimerRun m n mode prescale outMode dmaSel
  | .timerTick n, _ => hs.execTimerTick n
  | .wrapTick n, _ => hs.execWrapTick n
  | .matchEvent n, _ => hs.execMatchEvent n
  | .topWrite m n high, _ => hs.execTopWrite m n high
  | .comparatorWrite m n high, _ => hs.execComparatorWrite m n high
  | .timerSnap m n, _ => hs.execTimerSnap m n
  | .timerClear m n, _ => hs.execTimerClear m n
  | .outSet m n, _ => hs.execOutSet m n
  | .outClr m n, _ => hs.execOutClr m n
  | .timerCapture n e, _ => hs.execTimerCapture n e
  | .captureRead m n falling, _ => hs.execCaptureRead m n falling
  | .counterWrite m c v, _ => hs.execCounterWrite m c v
  | .counterRead m c, _ => hs.execCounterRead m c
  | .counterOverflow c n, _ => hs.execCounterOverflow c n
  | .pmcClear m, _ => hs.execPmcClear m
  | .histogramClear m h, _ => hs.execHistogramClear m h
  | .portStart m p, _ => hs.execPortStart m p
  | .portStop m p, _ => hs.execPortStop m p
  | .hlkBeacon p, _ => hs.execHlkBeacon p
  | .hlkReply p r, _ => hs.execHlkReply p r
  | .nodeHelloReply p r, _ => hs.execNodeHelloReply p r
  | .replyError p miss, _ => hs.execReplyError p miss
  | .strayFrame p, _ => hs.execStrayFrame p
  | .portDown p collisions, _ => hs.execPortDown p collisions
  | .txQueue m p desc node bcast endpoint len, _ => hs.execTxQueue m p desc node bcast endpoint len
  | .txFree m p desc, _ => hs.execTxFree m p desc
  | .slotWrite m p slot node endpoint kind, _ => hs.execSlotWrite m p slot node endpoint kind
  | .tableLengthWrite m p len, _ => hs.execTableLengthWrite m p len
  | .rxTailWrite m p cell, _ => hs.execRxTailWrite m p cell
  | .resetRelease env, h => absurd rfl (h env)
  | .xspiBurstTimeout repeatFails, _ => hs.execXspiBurstTimeout repeatFails
  | .trainingTimeout, _ => hs.execTrainingTimeout
  | .sectionDigestCheck, _ => hs.execSectionDigestCheck
  | .bootRelease us, _ => hs.execBootRelease us
  | .spargePass, _ => hs.execSpargePass
  | .spargeSection, _ => hs.execSpargeSection
  | .slhSign ckpt ctx msg e1 e2, _ => hs.execSlhSign ckpt ctx msg e1 e2
  | .slhVerify set128f pk ctx msg sig, _ => hs.execSlhVerify set128f pk ctx msg sig
  | .hashSlhSign key ctx msg e1 e2, _ => hs.execHashSlhSign key ctx msg e1 e2
  | .hashSlhVerify set128f pk ctx msg sig, _ => hs.execHashSlhVerify set128f pk ctx msg sig
  | .programRoot m, _ => hs.execProgramRoot m
  | .withdrawVersion1 m, _ => hs.execWithdrawVersion1 m
  | .raiseSecurityMinimum m, _ => hs.execRaiseSecurityMinimum m
  | .generateCheckpointKey m, _ => hs.execGenerateCheckpointKey m
  | .loadFloorKey m, _ => hs.execLoadFloorKey m
  | .fuseCommandEnd good, _ => hs.execFuseCommandEnd good
  | .startUpTest samples, _ => hs.execStartUpTest samples
  | .entropySample b, _ => hs.execEntropySample b
  | .persistentFailure, _ => hs.execPersistentFailure
  | .conditionedBlock, _ => hs.execConditionedBlock
  | .knownAnswerTest ok, _ => hs.execKnownAnswerTest ok
  | .drbgRequest k n, _ => hs.execDrbgRequest k n
  | .drbgGenerate, _ => hs.execDrbgGenerate
  | .reseedRequest m, _ => hs.execReseedRequest m
  | .outcomeRead k word, _ => hs.execOutcomeRead k word
  | .granuleWrite fails spareFails, _ => hs.execGranuleWrite fails spareFails
  | .ledgerCommit n e1 e2, _ => hs.execLedgerCommit n e1 e2
  | .gameAdvance k, _ => hs.execGameAdvance k
  | .gameClose k, _ => hs.execGameClose k
  | .meterCommit n, _ => hs.execMeterCommit n
  | .meterRead k, _ => hs.execMeterRead k
  | .seqRead k, _ => hs.execSeqRead k
  | .doorEvent input level, _ => hs.execDoorEvent input level
  | .eventMove, _ => hs.execEventMove
  | .floorStart m, _ => hs.execFloorStart m
  | .floorResend w, _ => hs.execFloorResend w
  | .helloReply d, _ => hs.execHelloReply d
  | .floorAck d, _ => hs.execFloorAck d
  | .ledgerAck d, _ => hs.execLedgerAck d
  | .digestDrain d, _ => hs.execDigestDrain d
  | .ckptReq d, _ => hs.execCkptReq d
  | .floorCheckpoint e1 e2, _ => hs.execFloorCheckpoint e1 e2
  | .hostKey ds, _ => hs.execHostKey ds
  | .floorSigned ds, _ => hs.execFloorSigned ds
  | .floorArp q, _ => hs.execFloorArp q
  | .floorPortDown l, _ => hs.execFloorPortDown l
  | .floorPortUp l, _ => hs.execFloorPortUp l
  | .portSwitch m p, _ => hs.execPortSwitch m p
  | .domainRequest m hi v, _ => hs.execDomainRequest m hi v
  | .domainSwitch, _ => hs.execDomainSwitch
  | .eclipse m, _ => hs.execEclipse m
  | .resetCommand m, _ => hs.execResetCommand m
  | .eclipseWake wakePin, _ => hs.execEclipseWake wakePin
  | .pllStop p, _ => hs.execPllStop p
  | .wakeDemand d, _ => hs.execWakeDemand d
  | .pllLock p, _ => hs.execPllLock p
  | .rtcTick, _ => hs.execRtcTick
  | .rtcAlarm, _ => hs.execRtcAlarm
  | .rtcSet m hi, _ => hs.execRtcSet m hi
  | .supplyWarning r, _ => hs.execSupplyWarning r
  | .supplyClear r, _ => hs.execSupplyClear r
  | .holdEnd, _ => hs.execHoldEnd
  | .supplyReset r, _ => hs.execSupplyReset r
  | .vbatSwitch toVbat, _ => hs.execVbatSwitch toVbat
  | .vbatLoss, _ => hs.execVbatLoss
  | .resetN low, _ => hs.execResetN low
  | .debugConnect, _ => hs.execDebugConnect
  | .debugReset, _ => hs.execDebugReset
  | .selfTestRequest m v, _ => hs.execSelfTestRequest m v
  | .selfTestStart, _ => hs.execSelfTestStart
  | .selfTestEnd good, _ => hs.execSelfTestEnd good
  | .mramTest m, _ => hs.execMramTest m
  | .dramTest m, _ => hs.execDramTest m
  | .memoryTestEnd e, _ => hs.execMemoryTestEnd e
  | .pd0PowerUp fromVbat, _ => hs.execPd0PowerUp fromVbat
  | .vbatLow low, _ => hs.execVbatLow low
  | .debugHalt k o, _ => hs.execDebugHalt k o
  | .floorStop m, _ => hs.execFloorStop m
  | .beamStart d, _ => hs.execBeamStart d
  | .powerUpCalibrationDone rpts, _ => hs.execPowerUpCalibrationDone rpts

/-! ## Sys2Proof/Machine/Fetch.lean -/

theorem Keeps.fetchLine (k : CoreId) (a : Word) (n : Nat) : Granted (fun r => Keeps s₀ r.2) (fetchLine k a n s) :=
  (hs.instrLine _ _).map fun _ hu => hu

theorem Keeps.fetchSpell (k : CoreId) (n : Nat) : Granted (fun r => Keeps s₀ r.2) (fetchSpell k n s) :=
  (hs.fetchLine _ _ _).bind fun _ hu => .ite (Granted.ok hu) ((hu.fetchLine _ _ _).map fun _ hu1 => hu1)

theorem Keeps.execUndefined (k : CoreId) : OutKeeps s₀ (execUndefined k s) :=
  hs.isaRun fun _ _ _ hu => hu.complete _ _

theorem Keeps.fetchShort (k : CoreId) (n : Nat) : OutKeeps s₀ (fetchShort k n s) := by
  unfold Machine.fetchShort
  exact hs.isaRun fun _ _ _ hu => hu.complete _ _

/-! ## Sys2Proof/Machine/Step.lean -/

end

end Sys2Proof.Machine
end

section
/-! THEOREM. Every step keeps the invariant. -/
namespace Sys2Proof.Machine

theorem blockInv_execResetRelease {env : StartEnv} {s t : State} (h : BlockInv s)
    (e : execResetRelease env s = .next t) : BlockInv t := by
  unfold execResetRelease at e
  split at e
  · injection e with e
    exact e ▸ (Keeps.startUp env s).block h
  · injection e with e
    exact e ▸ h

theorem blockInv_exec {i : Instr} {s t : State} (h : BlockInv s) (e : exec i s = .next t) : BlockInv t := by
  by_cases hi : ∃ env, i = .resetRelease env
  · obtain ⟨env, rfl⟩ := hi
    exact blockInv_execResetRelease h e
  · exact ((Keeps.refl s).exec i (fun env c => hi ⟨env, c⟩) t e).block h

theorem blockInv_fetchRun {k : CoreId} {s t : State} (h : BlockInv s) (e : fetchRun k s = .next t) : BlockInv t := by
  have hs : ∀ {x u}, fetchSpell k (fetchRoom k s longest s.cores[k].pc) s = .ok (x, u) → Keeps s u :=
    fun hx => (Keeps.refl s).fetchSpell k _ _ hx
  unfold fetchRun at e
  dsimp only at e
  split at e
  · exact ((Keeps.refl s).fetchShort k 0 t e).block h
  · split at e
    · exact ((Keeps.refl s).park _).next t e |>.block h
    · next hx => exact ((hs hx).fetchShort k _ t e).block h
    · next hx => exact ((hs hx).execUndefined k t e).block h
    · next hx => exact blockInv_exec ((hs hx).block h) e

theorem blockInv_coreTurn {k : CoreId} {s t : State} (h : BlockInv s) (e : coreTurn k s = .next t) : BlockInv t := by
  unfold coreTurn at e
  split at e
  · exact ((Keeps.refl s).execHaltWake k t e).block h
  · split at e
    · exact ((Keeps.refl s).execInterruptEntry k t e).block h
    · exact blockInv_fetchRun h e

theorem blockInv_coresStep {s t : State} (h : BlockInv s) (e : coresStep s = .next t) : BlockInv t := by
  unfold coresStep at e
  split at e
  · injection e with e
    exact e ▸ h
  · next k _ =>
    cases hk : coreTurn k s with
    | next u =>
      rw [hk] at e
      injection e with e
      exact e ▸ (Keeps.refl u).withTurn.block (blockInv_coreTurn h hk)
    | fault f => rw [hk] at e; exact nomatch e
    | refused r => rw [hk] at e; exact nomatch e

/-- Settles O4, by a Keeps lemma for every operation of the model. -/
theorem stepKeepsInvariant : Obligations.StepKeepsInvariant := by
  unfold Obligations.StepKeepsInvariant
  intro s t h e
  unfold step at e
  split at e
  · exact blockInv_coresStep h e
  · next c rest _ =>
    have hr : BlockInv { s with pending := rest } := h
    exact blockInv_exec hr e

end Sys2Proof.Machine
end

section
/-! THEOREM. What device reset leaves. -/
namespace Sys2Proof.Machine

/-- No register is listed at reset. -/
theorem getReg_reset (key : Nat) : getReg State.reset key = resetOf key := rfl

theorem blockInv_reset : BlockInv State.reset :=
  ⟨rfl, reset_memory_wf, domainsClosed_reset, reset_powers_zero, BitVec.getLsbD_zero⟩

/-- Settles O3: a register at device reset reads the last code of its table, and the rest is read off the reset
state. -/
theorem resetStateAndInvariant : Obligations.ResetStateAndInvariant := by
  unfold Obligations.ResetStateAndInvariant
  refine ⟨⟨getReg_reset, ?_, rfl, rfl, rfl, rfl, fun k => ?_, domainsClosed_reset, by decide⟩, blockInv_reset⟩
  · decide +kernel
  · exact Vector.getElem_replicate _
end Sys2Proof.Machine
end

section
/-! THEOREM. Gated register accesses. -/
namespace Sys2Proof.Machine

/-- What a gated command comes to when its access finds no register or may not be made. -/
theorem gate_off_or_stopped {m : Master} {w : Bool} {p : Nat} {s : State} {o : Out}
    (h : ∃ f, o = gate m w p f s) :
    (m = .debug → isOwn p = true ∨ s.portOn p = false → o = .next (noRegister w s)) ∧
    ∀ k, m = .core k →
      (ioStop k w p s = none → s.portOn p = false → o = .next (noRegister w s)) ∧
      ∀ e, ioStop k w p s = some e →
        o = .next (if s.issues k then takeException k e s.cores[k].pc (some p) s else s) := by
  obtain ⟨f, rfl⟩ := h
  refine ⟨?_, ?_⟩
  · rintro rfl hp
    exact gate_debug_off f hp
  · rintro k rfl
    exact ⟨gate_core_off f, fun e => gate_core_stop f⟩

/-- Settles O8: every listed command is a gated access, and the checks are ioStop's in its order. -/
theorem gatedAccess : Obligations.GatedAccess := by
  unfold Obligations.GatedAccess
  refine ⟨fun m w p i d n v port s h => ?_, fun k w p s => ⟨?_, ?_, ?_, ?_⟩⟩
  · simp only [List.mem_cons, Prod.mk.injEq, List.not_mem_nil, or_false] at h
    obtain ⟨rfl, rfl, rfl⟩ | ⟨rfl, rfl, rfl⟩ | ⟨rfl, rfl, rfl⟩ | ⟨rfl, rfl, rfl⟩ | ⟨rfl, rfl, rfl⟩ | ⟨rfl, rfl, rfl⟩ |
      ⟨rfl, rfl, rfl⟩ | ⟨rfl, rfl, rfl⟩ | ⟨rfl, rfl, rfl⟩ | ⟨rfl, rfl, rfl⟩ | ⟨rfl, rfl, rfl⟩ | ⟨rfl, rfl, rfl⟩ |
      ⟨rfl, rfl, rfl⟩ | ⟨rfl, rfl, rfl⟩ | ⟨rfl, rfl, rfl⟩ | ⟨rfl, rfl, rfl⟩ | ⟨rfl, rfl, rfl⟩ | ⟨rfl, rfl, rfl⟩ |
      ⟨rfl, rfl, rfl⟩ | ⟨rfl, rfl, rfl⟩ := h
    all_goals
      refine gate_off_or_stopped ?_
      simp only [exec, execEclipse, execResetCommand, execDomainRequest, execBlitStop, execChannelStart, execChannelStop,
        execFloorStart, execKettleStop, execEphCommit, execEphFrame0Write, execDspTrain, execRecallEnable,
        execPaletteWrite, execReseedRequest, execSysTiltReq, execMramTest, execPmcClear, execMemEccAddrLoRead, execRtcSet,
        execRegisterWrite]
      exact ⟨_, rfl⟩
  · intro hu hm
    simp [ioStop, -Fin.getElem_fin, hu, hm]
  · intro hu ha
    simp [ioStop, -Fin.getElem_fin, hu, ha]
  · intro hu ha hp
    have hb : assigned p = false ∨ isDbg p = true := hp.imp_left fun h => by rw [assigned, h]; rfl
    rcases hb with hb | hb <;> simp [ioStop, -Fin.getElem_fin, hu, ha, hb]
  · intro hu ha hk hr
    simp [ioStop, -Fin.getElem_fin, hu, ha, hk, hr]

end Sys2Proof.Machine
end

section
/-! SUPPORT. Fields bit by bit: what a table's row makes of a write and of a read, when its fields lie apart in the word. -/
namespace Sys2Proof.Machine

/-- The fields of a row lie in the word and share no bit. -/
def RegSpec.Tidy (r : RegSpec) : Prop :=
  (∀ f ∈ r.fields, f.fld.lo ≤ f.fld.hi ∧ f.fld.hi < 32) ∧
  r.fields.Pairwise (fun f g => f.fld.hi < g.fld.lo ∨ g.fld.hi < f.fld.lo)

/-- Bit i lies in a field. -/
abbrev Fld.Holds (f : Fld) (i : Nat) : Prop := f.lo ≤ i ∧ i ≤ f.hi

theorem Fld.mask_holds {f : Fld} {i : Nat} (hf : f.lo ≤ f.hi) (hi : i < 32) : f.mask.getLsbD i = decide (f.Holds i) := by
  have hl : f.len = f.hi + 1 - f.lo := rfl
  rw [f.mask_bit i hi, ← Bool.decide_and]
  exact decide_eq_decide.2 ⟨fun h => ⟨h.1, by omega⟩, fun h => ⟨h.1, by omega⟩⟩

theorem Fld.put_get_bit {f : Fld} (hf : f.lo ≤ f.hi) (v w : Word) {i : Nat} (hi : i < 32) :
    (f.put (f.get v) w).getLsbD i = if f.Holds i then v.getLsbD i else w.getLsbD i := by
  have hl : f.len = f.hi + 1 - f.lo := rfl
  rw [f.put_bit _ _ i hi]
  by_cases h : f.Holds i
  · obtain ⟨h1, h2⟩ := h
    rw [if_pos ⟨h1, by omega⟩, if_pos ⟨h1, h2⟩, Fld.get, bits_testBit]
    simp only [show i - f.lo < f.hi + 1 - f.lo by omega, decide_true, Bool.true_and, Nat.add_sub_cancel' h1]
    rfl
  · rw [if_neg (fun c => h ⟨c.1, by omega⟩), if_neg h]

theorem Fld.put_bit_apart {f : Fld} (hf : f.lo ≤ f.hi) (n : Nat) (w : Word) {i : Nat} (h : ¬f.Holds i) (hi : i < 32) :
    (f.put n w).getLsbD i = w.getLsbD i := by
  have hl : f.len = f.hi + 1 - f.lo := rfl
  rw [f.put_bit _ _ i hi, if_neg (fun c => h ⟨c.1, by omega⟩)]

theorem Fld.put_zero_bit {f : Fld} (hf : f.lo ≤ f.hi) (w : Word) {i : Nat} (h : f.Holds i) (hi : i < 32) :
    (f.put 0 w).getLsbD i = false := by
  have hl : f.len = f.hi + 1 - f.lo := rfl
  rw [f.put_bit _ _ i hi, if_pos ⟨h.1, by have := h.2; omega⟩, Nat.zero_testBit]

/-- A write of one field acts on its bits alone (R8). -/
theorem Access.write_bit (a : Access) {f : Fld} (hf : f.lo ≤ f.hi) (v w : Word) {i : Nat} (hi : i < 32) :
    (a.write f v w).getLsbD i = if f.Holds i then Access.bitAfter a (v.getLsbD i) (w.getLsbD i) else w.getLsbD i := by
  cases a with
  | rw => exact Fld.put_get_bit hf v w hi
  | w1s =>
    simp only [Access.write, Access.bitAfter, BitVec.getLsbD_or, BitVec.getLsbD_and, Fld.mask_holds hf hi]
    by_cases h : f.Holds i <;> simp [h]
  | w1c =>
    simp only [Access.write, Access.bitAfter, BitVec.getLsbD_not, BitVec.getLsbD_and, Fld.mask_holds hf hi, hi,
      decide_true, Bool.true_and]
    by_cases h : f.Holds i <;> simp [h]
  | ro => exact (ite_self _).symm
  | wo => exact (ite_self _).symm
  | rc => exact (ite_self _).symm

/-- A fold of steps that each act on the bits of their own field: the bits of no field stay. -/
theorem foldl_fields_outside {g : Word → RField → Word} {fs : List RField} {i : Nat}
    (hg : ∀ f ∈ fs, ∀ w, (g w f).getLsbD i = w.getLsbD i) (w : Word) :
    (fs.foldl g w).getLsbD i = w.getLsbD i :=
  List.foldlRecOn (motive := fun x : Word => x.getLsbD i = w.getLsbD i) fs g rfl fun x h f hf => (hg f hf x).trans h

/-- Where the fields lie apart, the bits of one are what its own step makes of them. -/
theorem foldl_fields_inside {g : Word → RField → Word} {fs : List RField}
    (hp : fs.Pairwise fun f e => f.fld.hi < e.fld.lo ∨ e.fld.hi < f.fld.lo) {i : Nat} {b : RField → Bool → Bool}
    (hin : ∀ f ∈ fs, f.fld.Holds i → ∀ w, (g w f).getLsbD i = b f (w.getLsbD i))
    (hout : ∀ f ∈ fs, ¬f.fld.Holds i → ∀ w, (g w f).getLsbD i = w.getLsbD i)
    {f : RField} (hf : f ∈ fs) (hi : f.fld.Holds i) (w : Word) :
    (fs.foldl g w).getLsbD i = b f (w.getLsbD i) := by
  induction fs generalizing w with
  | nil => exact nomatch hf
  | cons e fs ih =>
    have he := List.pairwise_cons.1 hp
    have hrest : ∀ f ∈ fs, f ∈ e :: fs := fun _ h => List.mem_cons_of_mem _ h
    rw [List.foldl_cons]
    rcases List.mem_cons.1 hf with rfl | hf
    · rw [foldl_fields_outside fun d hd => hout d (hrest d hd) ?_]
      · exact hin f List.mem_cons_self hi w
      · intro hd'
        have h1 := he.1 d hd
        obtain ⟨h2, h3⟩ := hd'
        obtain ⟨h4, h5⟩ := hi
        omega
    · rw [ih he.2 (fun d hd => hin d (hrest d hd)) (fun d hd => hout d (hrest d hd)) hf]
      rw [hout e List.mem_cons_self]
      intro hd'
      have h1 := he.1 f hf
      obtain ⟨h2, h3⟩ := hd'
      obtain ⟨h4, h5⟩ := hi
      omega

section
variable {r : RegSpec} (hr : r.Tidy)
include hr

theorem RegSpec.Tidy.lt {f : RField} (hf : f ∈ r.fields) {i : Nat} (hi : f.fld.Holds i) : i < 32 :=
  Nat.lt_of_le_of_lt hi.2 (hr.1 f hf).2

/-- The reserved bits are those of no field. -/
theorem RegSpec.Tidy.reserved_bit {i : Nat} (h : r.reserved.getLsbD i = true) :
    i < 32 ∧ ∀ f ∈ r.fields, ¬f.fld.Holds i := by
  have hi : i < 32 := BitVec.lt_of_getLsbD h
  refine ⟨hi, fun f hf hh => ?_⟩
  have hin := foldl_fields_inside (g := fun x (f : RField) => x ||| f.fld.mask) (b := fun _ _ => true) hr.2 (i := i)
    (fun e he hd w => by rw [BitVec.getLsbD_or, Fld.mask_holds (hr.1 e he).1 hi, decide_eq_true hd, Bool.or_true])
    (fun e he hd w => by rw [BitVec.getLsbD_or, Fld.mask_holds (hr.1 e he).1 hi, decide_eq_false hd, Bool.or_false])
    hf hh 0
  rw [RegSpec.reserved, BitVec.getLsbD_not, hin] at h
  simp at h

theorem RegSpec.Tidy.write_inside {f : RField} (hf : f ∈ r.fields) {i : Nat} (hi : f.fld.Holds i) (v w : Word) :
    (r.write v w).getLsbD i = Access.bitAfter f.acc (v.getLsbD i) (w.getLsbD i) :=
  foldl_fields_inside (b := fun f x => Access.bitAfter f.acc (v.getLsbD i) x) hr.2
    (fun e he hd w => by rw [Access.write_bit e.acc (hr.1 e he).1 v w (hr.lt hf hi), if_pos hd])
    (fun e he hd w => by rw [Access.write_bit e.acc (hr.1 e he).1 v w (hr.lt hf hi), if_neg hd]) hf hi w

theorem RegSpec.Tidy.write_reserved {i : Nat} (h : r.reserved.getLsbD i = true) (v w : Word) :
    (r.write v w).getLsbD i = w.getLsbD i :=
  have hi := hr.reserved_bit h
  foldl_fields_outside (fun e he w => by rw [Access.write_bit e.acc (hr.1 e he).1 v w hi.1, if_neg (hi.2 e he)]) w

omit hr in
/-- A field that is read shows its own bits, WO as zero. -/
theorem RField.seen_bit {f : RField} (hf : f.fld.lo ≤ f.fld.hi) (w : Word) {i : Nat} (hi : i < 32) :
    (f.seen w).getLsbD i = (decide (f.fld.Holds i) && (decide (f.acc ≠ .wo) && w.getLsbD i)) := by
  have hm : (w &&& f.fld.mask).getLsbD i = (decide (f.fld.Holds i) && w.getLsbD i) := by
    rw [BitVec.getLsbD_and, Fld.mask_holds hf hi, Bool.and_comm]
  unfold RField.seen
  split
  · next h => simp [h]
  · next h => rw [decide_eq_true (p := f.acc ≠ .wo) h, Bool.true_and, hm]

theorem RegSpec.Tidy.seen_inside {f : RField} (hf : f ∈ r.fields) {i : Nat} (hi : f.fld.Holds i) (w : Word) :
    (r.seen w).getLsbD i = (decide (f.acc ≠ .wo) && w.getLsbD i) := by
  have h32 := hr.lt hf hi
  rw [RegSpec.seen, foldl_fields_inside (b := fun f x => x || (decide (f.acc ≠ .wo) && w.getLsbD i)) hr.2 ?_ ?_ hf hi 0]
  · simp
  · intro e he hd x
    rw [BitVec.getLsbD_or, RField.seen_bit (hr.1 e he).1 w h32, decide_eq_true hd, Bool.true_and]
  · intro e he hd x
    rw [BitVec.getLsbD_or, RField.seen_bit (hr.1 e he).1 w h32, decide_eq_false hd, Bool.false_and, Bool.or_false]

theorem RegSpec.Tidy.seen_reserved {i : Nat} (h : r.reserved.getLsbD i = true) (w : Word) :
    (r.seen w).getLsbD i = false := by
  obtain ⟨h32, hn⟩ := hr.reserved_bit h
  refine (foldl_fields_outside (fun e he x => ?_) 0).trans BitVec.getLsbD_zero
  rw [BitVec.getLsbD_or, RField.seen_bit (hr.1 e he).1 w h32, decide_eq_false (hn e he), Bool.false_and, Bool.or_false]

theorem RegSpec.Tidy.afterRead_inside {f : RField} (hf : f ∈ r.fields) {i : Nat} (hi : f.fld.Holds i) (w : Word) :
    (r.afterRead w).getLsbD i = (decide (f.acc ≠ .rc) && w.getLsbD i) := by
  have h32 := hr.lt hf hi
  refine foldl_fields_inside (b := fun f x => decide (f.acc ≠ .rc) && x) hr.2 (fun e he hd x => ?_)
    (fun e he hd x => ?_) hf hi w
  · by_cases hc : e.acc = .rc
    · simp [hc, Fld.put_zero_bit (hr.1 e he).1 x hd h32]
    · simp [hc]
  · by_cases hc : e.acc = .rc
    · simp [hc, Fld.put_bit_apart (hr.1 e he).1 0 x hd h32]
    · simp [hc]

end
end Sys2Proof.Machine
end

section
/-! SUPPORT. What follows a register write: the pads' edges that it makes and the lines that it lowers. -/
namespace Sys2Proof.Machine

/-! ## The falls of level sources -/

theorem unitLine_range {s : State} {n : Nat} (h : unitLine s n = true) : 32 ≤ n := by
  by_contra hn
  rw [unitLine, if_pos (.inl (by omega))] at h
  exact nomatch h

theorem arrayKey_mem_settleKeys {n : Nat} (h1 : 32 ≤ n) (h2 : n < 128) : arrayKey (P.INT_PEND_SET 0) n ∈ settleKeys := by
  have h3 : n / 32 = 1 ∨ n / 32 = 2 ∨ n / 32 = 3 := by omega
  rw [arrayKey, if_pos (by omega)]
  rcases h3 with h3 | h3 | h3 <;> rw [h3] <;> decide

theorem onlyRegs_foldl {α : Type} {f : State → α → State} {keys : List Nat} (xs : List α)
    (hf : ∀ x ∈ xs, ∀ t, OnlyRegs t (f t x) keys) (s : State) : OnlyRegs s (xs.foldl f s) keys :=
  List.foldlRecOn (motive := fun t => OnlyRegs s t keys) xs f (OnlyRegs.refl s keys) fun t h x hx =>
    OnlyRegs.trans h (hf x hx t)

/-- Only the stored pending bits of the level sources that units drive can go (R264). -/
theorem onlyRegs_settleFalls (s t : State) : OnlyRegs t (settleFalls s t) settleKeys := by
  unfold settleFalls
  split
  · exact OnlyRegs.refl t _
  · refine onlyRegs_foldl _ (fun n hn u => ?_) t
    split
    · next h =>
      simp only [Bool.and_eq_true] at h
      exact OnlyRegs.setF u _ _ (arrayKey_mem_settleKeys (unitLine_range h.1.1) (List.mem_range.1 hn))
    · exact OnlyRegs.refl u _

theorem not_mem_settleKeys {p : Nat} (h : p < 0x31000 ∨ 0x31040 ≤ p) : p ∉ settleKeys := by
  simp only [settleKeys, P.INT_PEND_SET, List.mem_cons, List.not_mem_nil, or_false]
  omega

/-! ## The edges at pads -/

/-- From s to t only the latches of pad edges and the wake event differ. -/
def OnlyEdges (s t : State) : Prop := t = s.edged t

theorem OnlyEdges.refl (s : State) : OnlyEdges s s := rfl

theorem OnlyEdges.trans {s t u : State} (h1 : OnlyEdges s t) (h2 : OnlyEdges t u) : OnlyEdges s u := by
  unfold OnlyEdges at *
  rw [h2, h1]
  rfl

theorem OnlyEdges.latchAsync (n : Nat) (s : State) : OnlyEdges s (latchAsync n s) := by
  unfold Machine.latchAsync wakeEvent
  split
  · split <;> rfl
  · rfl

theorem OnlyEdges.foldl {α : Type} {f : State → α → State} (hf : ∀ t x, OnlyEdges t (f t x)) (xs : List α)
    (s : State) : OnlyEdges s (xs.foldl f s) :=
  List.foldlRecOn (motive := OnlyEdges s) xs f rfl fun t h x _ => h.trans (hf t x)

theorem OnlyEdges.latchPads (pins : List Nat) (s t : State) : OnlyEdges t (latchPads pins s t) := by
  unfold Machine.latchPads
  refine .foldl (fun u n => ?_) pins t
  split
  · exact .refl u
  · split
    · exact .latchAsync _ u
    · exact .refl u

end Sys2Proof.Machine
end

section
/-! SUPPORT. Ports whose blocks give their writes, or their reads, no effect beyond the fields' access types. -/
namespace Sys2Proof.Machine

theorem mem_specsOf {p : Nat} {r : RegSpec} (h : specOf p = some r) : r ∈ specsOf p := List.mem_of_find?_eq_some h

/-- No register lies beyond the CFG block. -/
theorem specOf_lt {p : Nat} {r : RegSpec} (h : specOf p = some r) : p < 0x1000000 := by
  by_contra hp
  have hm := mem_specsOf h
  unfold specsOf at hm
  iterate 23 rw [if_neg (by omega)] at hm
  exact nomatch hm

theorem specsOf_mon {p : Nat} (h1 : 0x20000 ≤ p) (h2 : p ≤ 0x2FFFF) : specsOf p = regsMON := by
  unfold specsOf
  iterate 2 rw [if_neg (by omega)]
  rw [if_pos h2, if_pos h1]

theorem specsOf_pin {p : Nat} (h1 : 0xA0000 ≤ p) (h2 : p ≤ 0xAFFFF) : specsOf p = regsPIN := by
  unfold specsOf
  iterate 9 rw [if_neg (by omega)]
  rw [if_pos h2, if_pos h1]

theorem specsOf_flr {p : Nat} (h1 : 0xC0000 ≤ p) (h2 : p ≤ 0xCFFFF) : specsOf p = regsFLR := by
  unfold specsOf
  iterate 11 rw [if_neg (by omega)]
  rw [if_pos h2, if_pos h1]

theorem mem_regsCFG {p : Nat} {r : RegSpec} (h1 : 0x250000 ≤ p) (h : specOf p = some r) : r ∈ regsCFG := by
  have hm := mem_specsOf h
  unfold specsOf at hm
  iterate 22 rw [if_neg (by omega)] at hm
  split at hm
  · split at hm
    · exact hm
    · exact nomatch hm
  · exact nomatch hm

theorem plainPort_iff {p : Nat} : plainPort p = true ↔
    (0x20000 ≤ p ∧ p ≤ 0x2FFFF) ∨ (0xA0000 ≤ p ∧ p < 0xA0200) ∨ 0x250000 ≤ p := by
  simp only [plainPort, Bool.or_eq_true, Bool.and_eq_true, decide_eq_true_eq, or_assoc]

theorem mem_plain_rows {p : Nat} {r : RegSpec} (hp : plainPort p = true) (h : specOf p = some r) :
    r ∈ regsMON ++ regsPIN ++ regsCFG := by
  simp only [List.mem_append]
  rcases plainPort_iff.1 hp with ⟨h1, h2⟩ | ⟨h1, h2⟩ | h1
  · exact .inl (.inl (specsOf_mon h1 h2 ▸ mem_specsOf h))
  · exact .inl (.inr (specsOf_pin h1 (by omega) ▸ mem_specsOf h))
  · exact .inr (mem_regsCFG h1 h)

theorem tidy_plain_rows : ∀ r ∈ regsMON ++ regsPIN ++ regsCFG, r.Tidy := by
  unfold RegSpec.Tidy
  decide +kernel

theorem tidy_regsFLR : ∀ r ∈ regsFLR, r.Tidy := by
  unfold RegSpec.Tidy
  decide +kernel

/-! ## Listed codes -/

/-- The pulls of a pin, the only codes that a plain port's table lists. -/
def pullCodes : Nat × Fld × List Nat := (P.PIN_CFG 0, F.PIN_CFG_pull, List.range 3)

theorem codes_of_plain_rows : ∀ r ∈ regsMON ++ regsPIN ++ regsCFG,
    listedCodes.filter (fun e => decide (e.1 = r.base)) = [] ∨
    listedCodes.filter (fun e => decide (e.1 = r.base)) = [pullCodes] := by decide +kernel

theorem codesOf_plain {p : Nat} {r : RegSpec} (hp : plainPort p = true) (h : specOf p = some r) :
    codesOf p = [] ∨ codesOf p = [pullCodes] := by
  have hc := codes_of_plain_rows r (mem_plain_rows hp h)
  rwa [codesOf, Nat.mod_eq_of_lt (specOf_lt h), h]

theorem get_put_pull (n : Nat) (w : Word) : F.PIN_CFG_pull.get (F.PIN_CFG_pull.put n w) = n % 4 :=
  Fld.get_put_same _ ⟨by decide, by decide⟩ n w

theorem pull_listed : ∀ k, k < 3 → (List.range 3).contains ((List.range 3).getD k 0 % 4) = true := by decide

/-- What a write leaves to be stored has listed codes, and is the word written but for the codes not listed. -/
theorem listedWord_spec {p : Nat} (hc : codesOf p = [] ∨ codesOf p = [pullCodes]) (v : Word) (s : State) :
    (encodingOk p v = true → listedWord p v s = v) ∧ encodingOk p (listedWord p v s) = true ∧
    ∀ i, (∀ e ∈ codesOf p, ¬(e.2.1.lo ≤ i ∧ i ≤ e.2.1.hi)) → (listedWord p v s).getLsbD i = v.getLsbD i := by
  rcases hc with hc | hc
  · simp only [encodingOk, listedWord, hc, List.foldl_nil, List.all_nil]
    exact ⟨fun _ => trivial, trivial, fun _ _ => trivial⟩
  · simp only [encodingOk, listedWord, hc, List.foldl_cons, List.foldl_nil, List.all_cons, List.all_nil, Bool.and_true,
      List.mem_singleton, forall_eq]
    split
    · next h => exact ⟨fun _ => rfl, h, fun _ _ => rfl⟩
    · next h =>
      refine ⟨fun c => absurd c h, ?_, fun i hi => ?_⟩
      · rw [show pullCodes.2.1 = F.PIN_CFG_pull from rfl, get_put_pull]
        exact pull_listed _ (Nat.mod_lt _ (by decide))
      · by_cases h32 : i < 32
        · exact Fld.put_bit_apart (by decide) _ _ hi h32
        · rw [BitVec.getLsbD_of_ge _ _ (by omega), BitVec.getLsbD_of_ge _ _ (by omega)]

/-! ## Writes and reads by the table -/

theorem getReg_drawCode (p : Nat) (v : Word) (s : State) (k : Nat) : getReg (drawCode p v s) k = getReg s k := by
  unfold drawCode
  split <;> rfl

theorem codeWrite_eq {p : Nat} {r : RegSpec} (h : specOf p = some r) (v : Word) (s : State) :
    codeWrite p v s = setReg (drawCode p v s) p (r.write (listedWord p v s) (getReg s p)) := by
  rw [codeWrite, tableWrite, Nat.mod_eq_of_lt (specOf_lt h), h]
  dsimp only
  rw [getReg_drawCode]

theorem tableRead_eq {p : Nat} {r : RegSpec} (h : specOf p = some r) (s : State) :
    tableRead p s = (r.seen (getReg s p), setReg s p (r.afterRead (getReg s p))) := by
  rw [tableRead, Nat.mod_eq_of_lt (specOf_lt h), h]

theorem fieldsWritten_of_getReg {s t : State} {p : Nat} {r : RegSpec} {v : Word} {u : State} (hr : r.Tidy)
    (hc : codesOf p = [] ∨ codesOf p = [pullCodes])
    (h : getReg t p = r.write (listedWord p v u) (getReg s p)) : FieldsWritten s t p r v := by
  obtain ⟨h1, h2, h3⟩ := listedWord_spec hc v u
  refine ⟨⟨listedWord p v u, h1, h2, h3, fun f hf i hlo hhi => ?_⟩, fun i hi => ?_⟩
  · rw [h, hr.write_inside hf ⟨hlo, hhi⟩]
  · rw [h, hr.write_reserved hi]

/-! ## What an access comes to -/

theorem regKey_plain {m : Master} {p : Nat} (h : plainPort p = true ∨ 0xC0000 ≤ p ∧ p ≤ 0xCFFFF) : regKey m p = p := by
  have hb : 0x20000 ≤ p ∧ p ≤ 0x2FFFF ∨ 0xA0000 ≤ p ∧ p < 0xA0200 ∨ 0xC0000 ≤ p ∧ p ≤ 0xCFFFF ∨ 0x250000 ≤ p := by
    rcases h with h | h
    · have := plainPort_iff.1 h
      omega
    · omega
  cases m with
  | debug => exact (if_neg (by omega)).trans (if_neg (by omega))
  | core k =>
    have ho : isOwn p = false := by
      simp only [isOwn, Bool.or_eq_false_iff, Bool.and_eq_false_iff, decide_eq_false_iff_not, beq_eq_false_iff_ne]
      omega
    simp only [regKey, ho, Bool.false_eq_true, if_false]
    iterate 5 rw [if_neg (by omega)]

theorem localPort_of_ge {m : Master} {p : Nat} (h : 0xF30 ≤ p) : localPort m p = p := by
  cases m with
  | core k => exact if_neg (by omega)
  | debug => rfl

theorem accessed_outside {p : Nat} (h : p < 0x200000 ∨ 0x250000 ≤ p) (s : State) : s.accessed p = s := if_neg (by omega)

theorem hetoArea_outside {p : Nat} (h : p < 0xB0000 ∨ 0xC0000 ≤ p) : hetoArea p = false := by
  rw [hetoArea]
  rcases h with h | h
  · rw [decide_eq_false (by omega)]; rfl
  · rw [decide_eq_false (p := p ≤ 0xBFFFF) (by omega), Bool.and_false, Bool.false_and]

theorem blockWrite_plain {m : Master} {p : Nat} (h : plainPort p = true) (v : Word) (s : State) :
    blockWrite m p v s = plainWrite m p v s := by
  unfold blockWrite
  rcases plainPort_iff.1 h with ⟨h1, h2⟩ | ⟨h1, h2⟩ | h1
  · iterate 2 rw [if_neg (by omega)]
    rw [if_pos h2]
  · iterate 9 rw [if_neg (by omega)]
    rw [if_pos h2]
  · iterate 23 rw [if_neg (by omega)]

/-- A change of registers, then the edges that it makes at pads, then the falls of lines. -/
theorem onlyRegsSettled_of {s t u x : State} {keys : List Nat} (ht : t = { s with regs := t.regs, free := t.free })
    (hk : RegsBut s t keys) (hu : OnlyEdges t u) (hx : OnlyRegs u x settleKeys) : OnlyRegsSettled s x keys := by
  refine ⟨?_, fun key hn => ?_⟩
  · obtain ⟨rx, rfl⟩ : ∃ rg, x = { u with regs := rg } := ⟨_, hx.1⟩
    obtain ⟨l, w, rfl⟩ : ∃ l w, u = { t with irq := { t.irq with latches := l }, pwr := { t.pwr with wakeDue := w } } :=
      ⟨_, _, hu⟩
    obtain ⟨rg, f, rfl⟩ : ∃ rg f, t = { s with regs := rg, free := f } := ⟨_, _, ht⟩
    rfl
  · rw [List.mem_append, not_or] at hn
    have hru : u.regs = t.regs := by rw [hu]; rfl
    rw [hx.2 key hn.2, getReg_congr hru, hk key hn.1]

theorem plain_not_settled {p : Nat} (h : plainPort p = true ∨ 0xC0000 ≤ p ∧ p ≤ 0xCFFFF) : p ∉ settleKeys := by
  refine not_mem_settleKeys ?_
  rcases h with h | h
  · have := plainPort_iff.1 h
    omega
  · omega

/-- What a master's write to a plain port comes to. -/
theorem busWrite_plain_eq {p : Nat} {r : RegSpec} {v : Word} (m : Master) (s : State) (hp : plainPort p = true)
    (hr : specOf p = some r) (hv : v &&& r.reserved = 0) :
    busWrite m p v s = .next (settleFalls s (latchPads (padsOf p) s (codeWrite p v s))) := by
  have hb := plainPort_iff.1 hp
  have hres : reservedOk p v = true := by
    rw [reservedOk, Nat.mod_eq_of_lt (specOf_lt hr), hr]
    exact decide_eq_true hv
  simp only [busWrite, localPort_of_ge (show 0xF30 ≤ p by omega), accessed_outside (show p < 0x200000 ∨ 0x250000 ≤ p by omega),
    hetoArea_outside (show p < 0xB0000 ∨ 0xC0000 ≤ p by omega), hres, hr, blockWrite_plain hp, plainWrite,
    regKey_plain (.inl hp), Bool.false_eq_true, if_false, Bool.not_true, Option.isNone_some, Out.then]

theorem codeWrite_only {p : Nat} {r : RegSpec} (hr : specOf p = some r) (v : Word) (s : State) :
    codeWrite p v s = { s with regs := (codeWrite p v s).regs, free := (codeWrite p v s).free } ∧
      RegsBut s (codeWrite p v s) [p] := by
  rw [codeWrite_eq hr]
  refine ⟨?_, fun key hk => ?_⟩
  · unfold drawCode
    split <;> rfl
  · rw [getReg_setReg_ne _ _ (fun e => hk (List.mem_singleton.2 e)), getReg_drawCode]

/-- A write that reaches a plain port completes: its fields are written, and nothing else but what falls and edges do
(R8, R264, R277). -/
theorem busWrite_plain {p : Nat} {r : RegSpec} {v : Word} (m : Master) (s : State) (hp : plainPort p = true)
    (hr : specOf p = some r) (hv : v &&& r.reserved = 0) :
    ∃ t, busWrite m p v s = .next t ∧ OnlyRegsSettled s t [p] ∧ FieldsWritten s t p r v := by
  have hu := OnlyEdges.latchPads (padsOf p) s (codeWrite p v s)
  have hx := onlyRegs_settleFalls s (latchPads (padsOf p) s (codeWrite p v s))
  obtain ⟨he, hk⟩ := codeWrite_only hr v s
  refine ⟨_, busWrite_plain_eq m s hp hr hv, onlyRegsSettled_of he hk hu hx, ?_⟩
  refine fieldsWritten_of_getReg (u := s) (tidy_plain_rows r (mem_plain_rows hp hr)) (codesOf_plain hp hr) ?_
  have hru : (latchPads (padsOf p) s (codeWrite p v s)).regs = (codeWrite p v s).regs := by rw [hu]; rfl
  rw [hx.2 p (plain_not_settled (.inl hp)), getReg_congr hru, codeWrite_eq hr, getReg_setReg_same]

end Sys2Proof.Machine
end

section
/-! THEOREM. Register writes and reads act on fields by their access types. -/
namespace Sys2Proof.Machine

theorem localPort_lt {m : Master} {p : Nat} (h : p < 0x1000000) : localPort m p < 0x1000000 := by
  cases m with
  | core k =>
    have hk := k.isLt
    unfold localPort sysBank
    dsimp only
    split <;> omega
  | debug => exact h

/-- A write with a 1 in a reserved bit stops by name (R10, R497). -/
theorem busWrite_reserved {m : Master} {p : Nat} {v : Word} (s : State) (h : hetoArea (localPort m p) = false)
    (hr : reservedOk (localPort m p) v = false) : busWrite m p v s = .fault .reservedBit := by
  simp only [busWrite, h, hr, Bool.false_eq_true, if_false, Bool.not_false, if_true]

/-- A write of zero to a port that names no register does nothing there (R497). -/
theorem busWrite_unnamed {m : Master} {p : Nat} (s : State) (hp : p < 0x1000000) (h : hetoArea (localPort m p) = false)
    (hs : specOf (localPort m p) = none) : busWrite m p 0 s = .next (s.accessed (localPort m p)) := by
  have hr : reservedOk (localPort m p) 0 = true := by
    rw [reservedOk, Nat.mod_eq_of_lt (localPort_lt hp), hs]
    rfl
  simp only [busWrite, h, hr, hs, Bool.false_eq_true, if_false, Bool.not_true, Option.isNone_none, if_true]

/-- Ports whose reads have no effect beyond the fields' access types. -/
def PlainRead (p : Nat) : Prop := (0xC0000 ≤ p ∧ p ≤ 0xCFFFF) ∨ (0x250000 ≤ p ∧ p < 0x1000000)

theorem PlainRead.outside {p : Nat} (h : PlainRead p) : plainPort p = true ∨ 0xC0000 ≤ p ∧ p ≤ 0xCFFFF :=
  h.elim .inr fun h => .inl (plainPort_iff.2 (.inr (.inr h.1)))

theorem PlainRead.tidy {p : Nat} {r : RegSpec} (h : PlainRead p) (hr : specOf p = some r) : r.Tidy := by
  rcases h with ⟨h1, h2⟩ | ⟨h1, -⟩
  · exact tidy_regsFLR r (specsOf_flr h1 h2 ▸ mem_specsOf hr)
  · exact tidy_plain_rows r (List.mem_append_right _ (mem_regsCFG h1 hr))

theorem blockRead_plain {m : Master} {p : Nat} (h : PlainRead p) (s : State) : blockRead m p s = plainRead m p s := by
  unfold blockRead
  rcases h with ⟨h1, h2⟩ | ⟨h1, -⟩
  · iterate 11 rw [if_neg (by omega)]
    rw [if_pos h2]
  · iterate 17 rw [if_neg (by omega)]

/-- What a master's read of such a port comes to. -/
theorem busRead_plain {p : Nat} {r : RegSpec} (m : Master) (s : State) (h : PlainRead p) (hr : specOf p = some r) :
    busRead m p s = (r.seen (getReg s p), settleFalls s (setReg s p (r.afterRead (getReg s p)))) := by
  have hb : 0xC0000 ≤ p ∧ p ≤ 0xCFFFF ∨ 0x250000 ≤ p := h.imp_right (·.1)
  simp only [busRead, localPort_of_ge (show 0xF30 ≤ p by omega), accessed_outside (show p < 0x200000 ∨ 0x250000 ≤ p by omega),
    hr, Option.isNone_some, Bool.false_and, Bool.false_eq_true, if_false, blockRead_plain h, plainRead,
    regKey_plain h.outside, tableRead_eq hr]

/-- Settles O7: the folds over a table change one field at a time, and a plain port has no effect besides. -/
theorem registerFields : Obligations.RegisterFields := by
  unfold Obligations.RegisterFields
  refine ⟨fun m port v r s hs hp hr hv => ?_, fun m port v s hs hh => ⟨fun hr => ?_, ?_⟩, fun m p r s h hr => ?_⟩
  · obtain ⟨t, h1, h2, h3⟩ := busWrite_plain m s hp hr hv
    exact ⟨t, (gate_reaches _ hs).trans h1, h2, h3⟩
  · exact (gate_reaches _ hs).trans (busWrite_reserved s hh hr)
  · rintro hn rfl
    exact (gate_reaches _ hs).trans (busWrite_unnamed s port.isLt hh hn)
  · have h : PlainRead p := h
    have hx := onlyRegs_settleFalls s (setReg s p (r.afterRead (getReg s p)))
    have ht := h.tidy hr
    rw [busRead_plain m s h hr]
    refine ⟨onlyRegsSettled_of rfl (RegsBut.setReg s _ (List.mem_singleton_self p)) (.refl _) hx,
      fun i hi => ht.seen_reserved hi _, fun f hf i hlo hhi => ⟨ht.seen_inside hf ⟨hlo, hhi⟩ _, ?_⟩⟩
    rw [hx.2 p (plain_not_settled h.outside), getReg_setReg_same, ht.afterRead_inside hf ⟨hlo, hhi⟩]

end Sys2Proof.Machine
end

section
/-! SUPPORT. What IN and OUT come to, in both forms. -/
namespace Sys2Proof.Machine

/-- The form's fields are defined, and a register-addressed one has its override. -/
theorem execIoIn_eq {h : Hdr} {f : IoForm} (s : State) (hd : ioDefined false h f = true) :
    exec (.ioIn h f) s = isaRun h (ioClocks (ioPort h s.cores[h.core] f)) (ioLen f) (ioAccepts f) true
      (inBody h (ioReg f) (fun c => ioPort h c f) (fun c => ioBase h c f)) s := by
  cases f with
  | abs r port => rfl
  | addr m =>
    rw [ioDefined, Bool.and_eq_true] at hd
    show loadRun h m _ s = _
    rw [loadRun, if_pos hd.1, hd.2]
    rfl

theorem execIoOut_eq {h : Hdr} {f : IoForm} (s : State) (hd : ioDefined true h f = true) :
    exec (.ioOut h f) s = isaRun h (ioClocks (ioPort h s.cores[h.core] f)) (ioLen f) (ioAccepts f) true
      (outBody h (ioReg f) (fun c => ioPort h c f) (fun c => ioBase h c f)) s := by
  cases f with
  | abs r port => rfl
  | addr m =>
    rw [ioDefined, Bool.and_eq_true] at hd
    show storeRun h m s = _
    rw [storeRun, if_pos hd.1, hd.2]
    rfl

/-- The core past an IN or OUT, but for what an IN reads. -/
def ioPast (h : Hdr) (f : IoForm) (s : State) : Core :=
  { ioBase h s.cores[h.core] f with pc := nextPc h (ioLen f) s, eiShadow := false }

/-- Of the core, the update of gb changes the general registers alone. -/
theorem ioBase_eq (h : Hdr) (c : Core) (f : IoForm) : ioBase h c f = { c with g := (ioBase h c f).g } := by
  cases f with
  | abs r port => rfl
  | addr m =>
    simp only [ioBase, memUpdate]
    split <;> rfl

theorem ioPast_eq (h : Hdr) (f : IoForm) (s : State) :
    ioPast h f s = { s.cores[h.core] with
      g := (ioBase h s.cores[h.core] f).g, pc := nextPc h (ioLen f) s, eiShadow := false } := by
  rw [ioPast, ioBase_eq]

/-- The core as the body of an IN or OUT makes it. -/
theorem ioBase_goTo (h : Hdr) (f : IoForm) (s : State) :
    (ioBase h s.cores[h.core].unshadowed f).goTo (nextPc h (ioLen f) s) = ioPast h f s := by
  cases f with
  | abs r port => rfl
  | addr m =>
    simp only [ioPast, ioBase, memUpdate]
    split <;> rfl

theorem ioBase_setG_goTo (h : Hdr) (f : IoForm) (s : State) (r : Reg) (v : Word) :
    ((ioBase h s.cores[h.core].unshadowed f).setG r v).goTo (nextPc h (ioLen f) s) =
      { ioPast h f s with g := (ioBase h s.cores[h.core] f).g.set r v } := by
  cases f with
  | abs r port => rfl
  | addr m =>
    simp only [ioPast, ioBase, memUpdate]
    split <;> rfl

@[simp] theorem ioPort_unshadowed (h : Hdr) (c : Core) (f : IoForm) : ioPort h c.unshadowed f = ioPort h c f := by
  cases f <;> rfl

/-- The checks of an IN or OUT do not see its own counting. -/
theorem ioStop_pmcEvent (k : CoreId) (w : Bool) (p ev j n : Nat) (s : State) :
    ioStop k w p (pmcEvent ev j n s) = ioStop k w p s := rfl

theorem inBody_allowed {h : Hdr} {r : Reg} {port : Core → Nat} {upd : Core → Core} {c : Core} {npc : Word} {s : State}
    (hs : ioStop h.core false (port c) s = none) (hw : opWidth h.pfx = 4) {q : Word × State}
    (hq : q = if s.portOn (port c) then busRead (.core h.core) (port c) s else (0, s)) :
    inBody h r port upd c npc s = .next (q.2.setCore h.core (((upd c).setG r q.1).goTo npc)) := by
  subst hq
  simp only [inBody, hs, hw, ne_eq, not_true_eq_false, if_false, complete]

theorem outBody_allowed {h : Hdr} {r : Reg} {port : Core → Nat} {upd : Core → Core} {c : Core} {npc : Word} {s : State}
    (hs : ioStop h.core true (port c) s = none) (hw : opWidth h.pfx = 4) :
    outBody h r port upd c npc s =
      if s.portOn (port c) then busWrite (.core h.core) (port c) c.g[r] (s.setCore h.core ((upd c).goTo npc))
      else .next (s.setCore h.core ((upd c).goTo npc)) := by
  simp only [outBody, hs, hw, ne_eq, not_true_eq_false, if_false]

section
variable {h : Hdr} {f : IoForm} {s : State} (he : executes h (ioLen f) (ioAccepts f) s = true)
  (hw : opWidth h.pfx = 4)
include he hw

/-- An IN whose access may be made reads the port, or zero where its domain is off (R12, R253). -/
theorem execIoIn_completes (hd : ioDefined false h f = true)
    (hs : ioStop h.core false (ioPort h s.cores[h.core] f) s = none) {q : Word × State}
    (hq : q = if s.portOn (ioPort h s.cores[h.core] f) then
      busRead (.core h.core) (ioPort h s.cores[h.core] f) (pmcEvent 2 h.core 1 s) else (0, pmcEvent 2 h.core 1 s)) :
    exec (.ioIn h f) s = .next (q.2.setCore h.core
      ({ ioPast h f s with g := (ioBase h s.cores[h.core] f).g.set (ioReg f) q.1 }.agedBy s.cores[h.core].privOut
        (instrClocks h (ioClocks (ioPort h s.cores[h.core] f)) (ioLen f)))) := by
  obtain ⟨h1, h2⟩ := executes_quiet he
  rw [execIoIn_eq s hd, isaRun_executes _ _ _ _ _ _ he,
    inBody_allowed (q := q) (by rw [ioPort_unshadowed]; exact hs) hw (by rw [ioPort_unshadowed]; exact hq),
    ioBase_setG_goTo]
  simp only [Out.then]
  rw [wrapUp_setCore _ _ _ _ _ (by rw [ioPast_eq]; exact h1) (by rw [ioPast_eq]; exact h2)]

/-- An OUT whose access may be made writes the port, which finds the core past the instruction (R253). -/
theorem execIoOut_on (hd : ioDefined true h f = true)
    (hs : ioStop h.core true (ioPort h s.cores[h.core] f) s = none)
    (hon : s.portOn (ioPort h s.cores[h.core] f) = true) :
    exec (.ioOut h f) s = (busWrite (.core h.core) (ioPort h s.cores[h.core] f) s.cores[h.core].g[ioReg f]
      ((pmcEvent 2 h.core 1 s).setCore h.core (ioPast h f s))).then
        (wrapUp h.core s.cores[h.core].privOut (instrClocks h (ioClocks (ioPort h s.cores[h.core] f)) (ioLen f))) := by
  rw [execIoOut_eq s hd, isaRun_executes _ _ _ _ _ _ he, outBody_allowed (by rw [ioPort_unshadowed]; exact hs) hw,
    ioPort_unshadowed, if_pos (show (pmcEvent 2 h.core 1 s).portOn _ = true from hon), ioBase_goTo]
  rfl

/-- An OUT to a domain that is off writes nothing (R12). -/
theorem execIoOut_off (hd : ioDefined true h f = true)
    (hs : ioStop h.core true (ioPort h s.cores[h.core] f) s = none)
    (hoff : s.portOn (ioPort h s.cores[h.core] f) = false) :
    exec (.ioOut h f) s = .next ((pmcEvent 2 h.core 1 s).setCore h.core ((ioPast h f s).agedBy s.cores[h.core].privOut
      (instrClocks h (ioClocks (ioPort h s.cores[h.core] f)) (ioLen f)))) := by
  obtain ⟨h1, h2⟩ := executes_quiet he
  rw [execIoOut_eq s hd, isaRun_executes _ _ _ _ _ _ he, outBody_allowed (by rw [ioPort_unshadowed]; exact hs) hw,
    ioPort_unshadowed, if_neg (by rw [show (pmcEvent 2 h.core 1 s).portOn _ = false from hoff]; exact Bool.false_ne_true),
    ioBase_goTo]
  simp only [Out.then]
  rw [wrapUp_setCore _ _ _ _ _ (by rw [ioPast_eq]; exact h1) (by rw [ioPast_eq]; exact h2)]
end
end Sys2Proof.Machine
end

section
/-! THEOREM. IN and OUT, and the memory forms with the I/O-space override. -/
namespace Sys2Proof.Machine

theorem onlyCore_io (k : CoreId) (s : State) (c : Core) : OnlyCore k s ((pmcEvent 2 k 1 s).setCore k c) :=
  onlyCore_setCore k 2 1 s c

/-- A core after an IN or OUT has become the core past it, with the general registers that the form leaves. -/
theorem becomes_ioPast (h : Hdr) (f : IoForm) (s : State) (g : Vector Word 16) (n : Nat) :
    Becomes s.cores[h.core] ({ ioPast h f s with g := g }.agedBy s.cores[h.core].privOut n)
      { ioPast h f s with g := g } := by
  rw [ioPast_eq]
  exact becomes_agedBy _ _ _ rfl rfl

theorem fieldsWritten_congr {s t s' t' : State} {p : Nat} {r : RegSpec} {v : Word} (h : FieldsWritten s t p r v)
    (hs : getReg s' p = getReg s p) (ht : getReg t' p = getReg t p) : FieldsWritten s' t' p r v := by
  unfold FieldsWritten at *
  rw [hs, ht]
  exact h

/-- An OUT to a plain port completes with the port's fields written. -/
theorem execIoOut_plain {h : Hdr} {f : IoForm} {s : State} {r : RegSpec}
    (he : executes h (ioLen f) (ioAccepts f) s = true) (hw : opWidth h.pfx = 4) (hd : ioDefined true h f = true)
    (hs : ioStop h.core true (ioPort h s.cores[h.core] f) s = none)
    (hon : s.portOn (ioPort h s.cores[h.core] f) = true) (hp : plainPort (ioPort h s.cores[h.core] f) = true)
    (hr : specOf (ioPort h s.cores[h.core] f) = some r) (hv : s.cores[h.core].g[ioReg f] &&& r.reserved = 0) :
    ∃ t, exec (.ioOut h f) s = .next t ∧
      FieldsWritten s t (ioPort h s.cores[h.core] f) r s.cores[h.core].g[ioReg f] ∧
      t = { s.edged t with regs := t.regs, cores := t.cores, pmc := t.pmc, free := t.free } ∧
      RegsBut s t (ioPort h s.cores[h.core] f :: settleKeys) ∧
      (∀ j : CoreId, j ≠ h.core → t.cores[j] = s.cores[j]) ∧
      Becomes s.cores[h.core] t.cores[h.core] (ioPast h f s) := by
  obtain ⟨hq1, hq2⟩ := executes_quiet he
  rw [execIoOut_on he hw hd hs hon]
  obtain ⟨u, hu, ⟨he1, hk⟩, hf⟩ :=
    busWrite_plain (.core h.core) ((pmcEvent 2 h.core 1 s).setCore h.core (ioPast h f s)) hp hr hv
  have hc : u.cores = ((pmcEvent 2 h.core 1 s).setCore h.core (ioPast h f s)).cores := by rw [he1]; rfl
  have hck : u.cores[h.core] = ioPast h f s := by rw [Fin.getElem_fin, hc, State.setCore_same]
  have ho : ∀ n, wrapUp h.core s.cores[h.core].privOut n u =
      u.setCore h.core ((ioPast h f s).agedBy s.cores[h.core].privOut n) := by
    intro n
    rw [wrapUp, agePort_eq, hck, afterInstruction_id]
    · rw [setCore_fin, ioPast_eq]; exact hq1
    · rw [setCore_fin, ioPast_eq]; exact hq2
  rw [hu, Out.then, ho]
  refine ⟨_, rfl, fieldsWritten_congr hf rfl rfl, ?_, fun key hn => ?_, fun j hj => ?_, ?_⟩
  · rw [he1]
    rfl
  · exact hk key hn
  · have hjk : j.val ≠ h.core.val := fun e => hj (Fin.ext e)
    rw [Fin.getElem_fin, State.setCore_ne _ _ _ hjk, hc, State.setCore_ne _ _ _ hjk]
    rfl
  · rw [setCore_fin, ioPast_eq]
    exact becomes_agedBy _ _ _ rfl rfl

/-- Settles O18, by what a granted port access gives and by the arms of the I/O forms. -/
theorem inputOutput : Obligations.InputOutput := by
  unfold Obligations.InputOutput
  refine ⟨fun h f s => ?_, fun h m s hio => ⟨?_, ?_, ?_, fun hm => ?_, fun hm => ?_⟩⟩
  · intro c p s1 base past he hw
    refine ⟨fun hd hs => ⟨fun hoff => ?_, fun hon => ?_⟩, fun hd hs => ⟨fun hoff => ?_, fun hon => ⟨?_, ?_⟩⟩⟩
    · refine ⟨_, execIoIn_completes he hw hd hs (q := (0, s1)) (by rw [if_neg]; rw [hoff]; exact Bool.false_ne_true),
        onlyCore_io _ _ _, ?_⟩
      rw [setCore_fin]
      exact becomes_ioPast h f s _ _
    · refine ⟨_, execIoIn_completes he hw hd hs (q := busRead (.core h.core) p s1) (by rw [if_pos hon]), ?_, ?_⟩
      · rw [setCore_fin]
      · rw [setCore_fin]
        exact becomes_ioPast h f s _ _
    · refine ⟨_, execIoOut_off he hw hd hs hoff, onlyCore_io _ _ _, ?_⟩
      rw [setCore_fin]
      exact becomes_ioPast h f s _ _
    · exact execIoOut_on he hw hd hs hon
    · intro r hp hr hv
      exact execIoOut_plain he hw hd hs hon hp hr hv
  · rfl
  · show loadRun h m _ s = loadRun h m _ s
    rw [loadRun, loadRun, if_pos hio, if_pos hio]
  · rfl
  · rw [memUpdate, if_pos hm]
    rfl
  · rw [memUpdate, if_neg (by rw [hm]; exact Bool.false_ne_true)]
end Sys2Proof.Machine
end

section
/-! SUPPORT. The registers of a domain that comes on. -/
namespace Sys2Proof.Machine

theorem Tab.find_eq_none {α : Type} {t : Tab α} {k : Nat} (h : ∀ e ∈ t, e.1 ≠ k) : Tab.find t k = none := by
  induction t with
  | nil => rfl
  | cons e t ih =>
    rw [Tab.find, if_neg (h e List.mem_cons_self)]
    exact ih fun d hd => h d (List.mem_cons_of_mem _ hd)

/-- A register that is not kept goes to reset (R11, R12). -/
theorem getReg_dropRegs {keep : Nat → Bool} {key : Nat} (h : keyIn keep key = false) (s : State) :
    getReg (dropRegs keep s) key = resetOf key := by
  have hn : Tab.find (dropRegs keep s).regs key = none := by
    refine Tab.find_eq_none fun e he hk => ?_
    have hf := (List.mem_filter.1 he).2
    rw [hk, h] at hf
    exact nomatch hf
  rw [getReg, hn]
  rfl

theorem keyIn_other {d key : Nat} (h : regDomain key = some d) : keyIn (fun x => decide (x ≠ d)) key = false := by
  rw [keyIn, show domainOf (key % 0x800000) = some d from h]
  simp

/-- The register with a key is as it was. -/
def SameReg (key : Nat) (s t : State) : Prop := getReg t key = getReg s key

theorem SameReg.ite {key : Nat} {c : Prop} [Decidable c] {s t u : State} (h1 : c → SameReg key s t)
    (h2 : ¬c → SameReg key s u) : SameReg key s (if c then t else u) := by
  split
  · next h => exact h1 h
  · next h => exact h2 h

theorem SameReg.dite {key : Nat} {s : State} {c : Prop} [Decidable c] {a : c → State} {b : ¬c → State}
    (ha : ∀ h, SameReg key s (a h)) (hb : ∀ h, SameReg key s (b h)) :
    SameReg key s (if h : c then a h else b h) := by
  by_cases h : c
  · rw [dif_pos h]; exact ha h
  · rw [dif_neg h]; exact hb h

theorem rank_domain : ∀ id, id < 17 → regDomain (P.MEM_RANK id) = some 36 := by decide

theorem SameReg.setUrgent {key id : Nat} (h : key ≠ P.MEM_RANK id) (b : Bool) (s : State) :
    SameReg key s (setUrgent id b s) := by
  unfold Machine.setUrgent applyRank
  refine .ite (fun _ => rfl) fun _ => ?_
  exact (getReg_setF_ne _ _ _ h).trans (getReg_setF_ne _ _ _ h)

/-- The loss of a domain's units leaves the domain's own registers: only ranks change, which the memory system's has. -/
theorem SameReg.unitsLost {d key : Nat} (h : regDomain key = some d) (s : State) :
    SameReg key s (unitsLost d s) := by
  have hr : d ≠ 36 → ∀ id, id < 17 → key ≠ P.MEM_RANK id := by
    intro hd id hid e
    rw [e, rank_domain id hid] at h
    exact hd (Option.some.inj h).symm
  unfold Machine.unitsLost
  refine .dite (fun _ => rfl) fun _ => .dite (fun h1 => ?_) fun _ => .dite (fun _ => rfl) fun _ => .ite (fun _ => rfl)
    fun _ => .ite (fun _ => rfl) fun _ => .ite (fun _ => rfl) fun _ => .dite (fun h1 => ?_) fun _ => .ite (fun _ => rfl)
      fun _ => .ite (fun _ => rfl) fun _ => .ite (fun _ => rfl) fun _ => .ite (fun _ => rfl) fun _ => .ite (fun _ => rfl)
        fun _ => rfl
  · have hn := hr (by omega) (d - 12) (by omega)
    exact SameReg.setUrgent hn _ _
  · have hn := hr (by omega) (d - 30) (by omega)
    have hm := hr (by omega) (13 + (d - 30)) (by omega)
    exact (SameReg.setUrgent hn _ _).trans (SameReg.setUrgent hm _ _)

theorem settleKeys_domain : ∀ k ∈ settleKeys, regDomain k = some 11 ∧ resetOf k = 0 := by decide +kernel

/-- Where the pending bits stand at reset no fall takes any. -/
theorem settleFalls_reset {s t : State} (h : ∀ k ∈ settleKeys, getReg t k = 0) : settleFalls s t = t :=
  if_pos ⟨h _ (by decide), h _ (by decide), h _ (by decide)⟩

/-- A domain's registers stand at reset once it has been reset (R11, R12). -/
theorem getReg_resetDomain {d key : Nat} (h : regDomain key = some d) (s : State) :
    getReg (resetDomain d s) key = resetOf key := by
  have hu : ∀ k, regDomain k = some d → getReg (unitsLost d (dropRegs (fun x => decide (x ≠ d)) s)) k = resetOf k :=
    fun k hk => (SameReg.unitsLost hk _).trans (getReg_dropRegs (keyIn_other hk) s)
  have hp : ∀ t, (∀ k, regDomain k = some d → getReg t k = resetOf k) → getReg (settleFalls s t) key = resetOf key := by
    intro t ht
    by_cases hd : d = 11
    · subst hd
      rw [settleFalls_reset fun k hk => (ht k (settleKeys_domain k hk).1).trans (settleKeys_domain k hk).2]
      exact ht key h
    · have hk : key ∉ settleKeys := fun hm => hd (Option.some.inj (h.symm.trans (settleKeys_domain key hm).1))
      exact ((onlyRegs_settleFalls s t).2 key hk).trans (ht key h)
  unfold resetDomain
  refine hp _ fun k hk => ?_
  split
  · have he := OnlyEdges.latchPads [8, 9, 10, 11, 12] s (unitsLost d (dropRegs (fun x => decide (x ≠ d)) s))
    exact (getReg_congr (by rw [he]; rfl) k).trans (hu k hk)
  · exact hu k hk

theorem domainOn_regs (d : Nat) (s : State) : (domainOn d s).regs = (resetDomain d s).regs := by
  unfold domainOn
  dsimp only
  split <;> rfl

theorem domainOn_doms (d : Nat) (s : State) :
    (domainOn d s).pwr.doms = (resetDomain d s).pwr.doms ||| domBit d := by
  unfold domainOn
  dsimp only
  split <;> rfl

theorem getReg_domDone {key : Nat} (h : key ≠ P.PWR_STAT) (s : State) : getReg (domDone s) key = getReg s key := by
  unfold domDone
  split
  · exact getReg_setF_ne _ _ _ h
  · rfl

theorem domDone_pwr (s : State) : (domDone s).pwr = s.pwr := by
  unfold domDone
  split <;> rfl

/-- A domain that comes on: it is on, and its registers stand at reset (R12, R442). -/
theorem execDomainSwitch_on {d : Nat} {s : State} (h0 : s.pwr.toOff = 0) (hn : nextOn s = some d) :
    ∃ t, exec .domainSwitch s = .next t ∧ t.pwr.doms.getLsbD d = true ∧
      ∀ key, regDomain key = some d → key ≠ P.PWR_STAT → getReg t key = resetOf key := by
  have hd : d < 40 := (nextOn_eq_some hn).1
  refine ⟨domDone (domainOn d s), ?_, ?_, fun key hk hs => ?_⟩
  · show execDomainSwitch s = _
    rw [execDomainSwitch, if_neg (not_not.2 h0), hn]
  · rw [domDone_pwr, domainOn_doms, BitVec.getLsbD_or, domBit_getLsbD hd, decide_eq_true rfl, Bool.or_true]
  · rw [getReg_domDone hs, getReg_congr (domainOn_regs d s), getReg_resetDomain hk]

end Sys2Proof.Machine
end

section
/-! THEOREM. Registers of a domain that is off. -/
namespace Sys2Proof.Machine

/-- A gated access to a register whose domain is off finds no register. -/
theorem gate_off {m : Master} {w : Bool} {p : Nat} {s : State} (f : State → Out) (hoff : s.portOn p = false)
    (hm : m = .debug ∨ ∃ k, m = .core k ∧ ioStop k w p s = none) : gate m w p f s = .next (noRegister w s) := by
  rcases hm with rfl | ⟨k, rfl, hs⟩
  · exact gate_debug_off f (.inr hoff)
  · exact gate_core_off f hs hoff

/-- One general register set. -/
theorem onlyG_set {c c' : Core} {r : Reg} {v : Word} (h : c'.g = c.g.set r v) : OnlyG c c' r v := by
  refine ⟨?_, fun q hq => ?_⟩
  · simp [h]
  · have hne : r.val ≠ q.val := fun e => hq (Fin.ext e.symm)
    simp [h, Vector.getElem_set_ne, hne]

/-- Settles O9: the gate stands before every access, and a power-up rebuilds the registers of its domain. -/
theorem registersOfOffDomains : Obligations.RegistersOfOffDomains := by
  unfold Obligations.RegistersOfOffDomains
  refine ⟨fun m port v s hoff hm => gate_off _ hoff hm, fun m c s hoff hm => ?_,
    fun h r port s he hw hoff => ⟨fun hs => ?_, fun hs => ?_⟩, fun d s h0 hn => execDomainSwitch_on h0 hn⟩
  · show execCounterRead m c s = _
    rw [execCounterRead, gate_off _ hoff hm]
    rfl
  · refine ⟨_, execIoIn_completes (f := .abs r port) he hw rfl hs (q := (0, pmcEvent 2 h.core 1 s)) ?_,
      onlyCore_io _ _ _, ?_⟩
    · rw [if_neg]
      exact fun e => Bool.false_ne_true (hoff.symm.trans e)
    · rw [setCore_fin]
      exact onlyG_set rfl
  · refine ⟨_, execIoOut_off (f := .abs r port) he hw rfl hs hoff, onlyCore_io _ _ _, ?_⟩
    rw [setCore_fin]
    exact becomes_agedBy _ _ _ rfl rfl

end Sys2Proof.Machine
end

section
/-! SUPPORT. What the work of a tick comes to for the pipelines: one rule for each operation that a tick is built of. -/
namespace Sys2Proof.Machine

/-! ## Clusters -/

@[simp] theorem setClu_same (d : Fin 4) (c : Cluster) (s : State) : (setClu d c s).clu[d] = c :=
  Vector.getElem_set_self d.isLt

theorem setClu_ne {d j : Fin 4} (h : j ≠ d) (c : Cluster) (s : State) : (setClu d c s).clu[j] = s.clu[j] :=
  Vector.getElem_set_ne d.isLt j.isLt fun e => h (Fin.ext e.symm)

/-- What a tick moves in a cluster and what its deadlines are reckoned from; α stands for the bands in the stages. -/
structure Pipe (α : Type) where
  taken : List Band
  ticks : Nat
  t : Nat
  record : Option α
  fetch : Option α
  compose : Option α
  send : Option α
  first : Nat
  r0 : Option Nat
  beam : Beam

/-- The pipeline of a cluster. -/
def Cluster.pipe (c : Cluster) : Pipe Band :=
  ⟨c.taken, c.ticks, c.t, c.record, c.fetch, c.compose, c.send, c.first, c.r0, c.beam⟩

/-- The pipeline with the bands in its stages by their positions. -/
def Pipe.posed (p : Pipe Band) : Pipe Word :=
  ⟨p.taken, p.ticks, p.t, p.record.map Band.pos, p.fetch.map Band.pos, p.compose.map Band.pos, p.send.map Band.pos,
    p.first, p.r0, p.beam⟩

/-! ## The registers -/

/-- The registers that the tick of cluster d may write, DSP_LAG apart: those below the composers, d's own composer, and
of the outputs the lag's maximum, the counts and the status. -/
def pipeKey (d : Fin 4) (key : Nat) : Bool :=
  decide (key < 0x1A0000) ||
  (decide (0x1A0000 + 0x8000 * d.val ≤ key) && decide (key < 0x1A4000 + 0x8000 * d.val)) ||
  (decide (0x1C0000 ≤ key) && decide (0x34 ≤ key % 0x8000))

theorem pipeKey_iff {d : Fin 4} {key : Nat} : pipeKey d key = true ↔ key < 0x1A0000 ∨
    (0x1A0000 + 0x8000 * d.val ≤ key ∧ key < 0x1A4000 + 0x8000 * d.val) ∨ (0x1C0000 ≤ key ∧ 0x34 ≤ key % 0x8000) := by
  simp [pipeKey, or_assoc]

theorem pipeKey_low {d : Fin 4} {key : Nat} (h : key < 0x1A0000) : pipeKey d key = true := pipeKey_iff.2 (.inl h)

theorem pipeKey_composer {d : Fin 4} {key : Nat} (h : key < 0x4000) : pipeKey d (P.CMP_CTRL d + key) = true := by
  unfold P.CMP_CTRL
  exact pipeKey_iff.2 (.inr (.inl (by omega)))

/-- The registers of cluster e that a tick writes by name, for whichever cluster the tick is. -/
def tickKeys (e : Fin 4) : List Nat :=
  [P.EPH_POS e, P.EPH_DONE e, P.EPH_STAT e, P.PLN_STAT e, P.CMT_CTX_BASE e, P.CMT_CTRL e, P.CMT_VIEW e, P.CMT_STAT e,
    P.MEM_LTR_D e, P.DSP_CNT e, P.DSP_STAT e, P.DSP_LAG_MAX e]

theorem pipeKey_of_tickKeys : ∀ {d e : Fin 4}, ∀ {key}, key ∈ tickKeys e → pipeKey d key = true := by decide

theorem pipeKey_wbDone : ∀ d : Fin 4, pipeKey d (P.CMP_WB_DONE d) = true := by decide

theorem pipeKey_ne_lag {d e : Fin 4} {key : Nat} (h : pipeKey d key = true) : P.DSP_LAG e ≠ key := by
  rw [pipeKey_iff] at h
  unfold P.DSP_LAG
  omega

/-! ## Midway through a tick -/

/-- From s₀ the tick of cluster d has come to s: cluster d's pipeline stands at p and its DSP_LAG at v, and apart from
them and the registers that its stages write, the clusters' pipelines, the time and memory are as they were. -/
structure Midway (d : Fin 4) (p : Pipe Word) (v : Word) (s₀ s : State) : Prop where
  clock : s.clock = s₀.clock
  mem : s.mem = s₀.mem
  pwr : s.pwr = s₀.pwr
  regs : ∀ key, pipeKey d key = false → key ≠ P.DSP_LAG d → getReg s key = getReg s₀ key
  others : ∀ j, j ≠ d → s.clu[j].pipe = s₀.clu[j].pipe
  pipe : s.clu[d].pipe.posed = p
  lag : getReg s (P.DSP_LAG d) = v

theorem Midway.start (d : Fin 4) (s : State) : Midway d s.clu[d].pipe.posed (getReg s (P.DSP_LAG d)) s s :=
  ⟨rfl, rfl, rfl, fun _ _ _ => rfl, fun _ _ => rfl, rfl, rfl⟩

section
variable {d : Fin 4} {p : Pipe Word} {v : Word} {s₀ s : State} (hs : Midway d p v s₀ s)
include hs

theorem Midway.same {u : State} (hc : u.clock = s.clock) (hm : u.mem = s.mem) (hw : u.pwr = s.pwr)
    (hr : u.regs = s.regs) (hl : u.clu = s.clu) : Midway d p v s₀ u where
  clock := hc.trans hs.clock
  mem := hm.trans hs.mem
  pwr := hw.trans hs.pwr
  regs key hq hk := (getReg_congr hr key).trans (hs.regs key hq hk)
  others j hj := by rw [hl]; exact hs.others j hj
  pipe := by rw [hl]; exact hs.pipe
  lag := (getReg_congr hr _).trans hs.lag

theorem Midway.setReg {key : Nat} (x : Word) (hk : pipeKey d key = true) : Midway d p v s₀ (setReg s key x) where
  clock := hs.clock
  mem := hs.mem
  pwr := hs.pwr
  regs k hq hl :=
    (getReg_setReg_ne s x (by rintro rfl; exact Bool.false_ne_true (hq.symm.trans hk))).trans (hs.regs k hq hl)
  others := hs.others
  pipe := hs.pipe
  lag := (getReg_setReg_ne s x (pipeKey_ne_lag hk)).trans hs.lag

/-- A register of cluster e, or a field of it, written by name. -/
theorem Midway.writeReg (e : Fin 4) {key : Nat} (x : Word) (hk : key ∈ tickKeys e := by simp [tickKeys]) :
    Midway d p v s₀ (Machine.setReg s key x) := hs.setReg x (pipeKey_of_tickKeys hk)

/-- DSP_LAG of the cluster set. -/
theorem Midway.setLag (x : Word) : Midway d p x s₀ (Machine.setReg s (P.DSP_LAG d) x) where
  clock := hs.clock
  mem := hs.mem
  pwr := hs.pwr
  regs k hq hl := (getReg_setReg_ne s x hl).trans (hs.regs k hq hl)
  others := hs.others
  pipe := hs.pipe
  lag := getReg_setReg_same s _ x

/-- A cluster changed beside its pipeline. -/
theorem Midway.setClu (e : Fin 4) {c : Cluster} (hc : c.pipe = s.clu[e].pipe := by rfl) :
    Midway d p v s₀ (setClu e c s) := by
  have hp : ∀ j : Fin 4, (Machine.setClu e c s).clu[j].pipe = s.clu[j].pipe := by
    intro j
    by_cases hj : j = e
    · rw [hj, setClu_same, hc]
    · rw [setClu_ne hj]
  exact ⟨hs.clock, hs.mem, hs.pwr, hs.regs, fun j hj => (hp j).trans (hs.others j hj), by rw [hp, hs.pipe], hs.lag⟩

/-- The cluster's own pipeline changed. -/
theorem Midway.setPipe {q : Pipe Word} {c : Cluster} (hc : c.pipe.posed = q) :
    Midway d q v s₀ (Machine.setClu d c s) :=
  ⟨hs.clock, hs.mem, hs.pwr, hs.regs, fun j hj => by rw [setClu_ne hj, hs.others j hj], by rw [setClu_same, hc],
    hs.lag⟩

theorem Midway.fold {α : Type} {f : State → α → State} {xs : List α}
    (hf : ∀ u x, Midway d p v s₀ u → Midway d p v s₀ (f u x)) : Midway d p v s₀ (xs.foldl f s) :=
  List.foldlRecOn (motive := Midway d p v s₀) xs f hs fun u hu x _ => hf u x hu

omit hs in
theorem Midway.ite {c : Prop} [Decidable c] {u : State} (h1 : Midway d p v s₀ s) (h2 : Midway d p v s₀ u) :
    Midway d p v s₀ (if c then s else u) := by split <;> assumption

theorem Midway.pmcEvent (ev k n : Nat) : Midway d p v s₀ (pmcEvent ev k n s) := hs.same rfl rfl rfl rfl rfl

theorem Midway.setMc (m : MemCtl) : Midway d p v s₀ (setMc m s) := hs.same rfl rfl rfl rfl rfl

/-! ## Pattern fills and raster-effect writes -/

theorem Midway.setRequester (id : Nat) (r : Requester) : Midway d p v s₀ (setRequester id r s) := by
  unfold Machine.setRequester
  dsimp only
  split
  · next h => exact (hs.setMc _).setReg _ (pipeKey_low (by unfold P.MEM_RANK; omega))
  · exact hs.setMc _

theorem Midway.countFill (e : Fin 4) (i : Fin 9) : Midway d p v s₀ (countFill e i s) :=
  have hf := hs.pmcEvent (0x070 + e.val) 0 1
  .ite (.ite (hf.writeReg e _) hf)
    (hf.writeReg e _)

theorem Midway.setWalk (e : Fin 4) (i : Fin 9) (w : Walk) : Midway d p v s₀ (setWalk e i w s) := hs.setClu e

theorem Midway.patTouch (line : Nat) : Midway d p v s₀ (patTouch line s) := by
  unfold Machine.patTouch
  dsimp only
  split
  · exact hs.same rfl rfl rfl rfl rfl
  · exact hs

theorem Midway.walkOn (e : Fin 4) (i : Fin 9) (ls : List Nat) : Midway d p v s₀ (walkOn e i ls s) := by
  induction ls generalizing s with
  | nil => exact hs.setWalk _ _ _
  | cons l ls ih =>
    have ha : Midway d p v s₀ (askFill e i l s) := ((hs.countFill _ _).setRequester _ _).setWalk _ _ _
    exact .ite (ih hs) (.ite (ih (hs.patTouch _)) (.ite (hs.setWalk _ _ _) (ih ha)))

theorem Midway.nextPhase (e : Fin 4) (i : Fin 9) : Midway d p v s₀ (nextPhase e i s) := by
  unfold Machine.nextPhase
  dsimp only
  split
  · split
    · exact .ite ((hs.setWalk _ _ _).walkOn _ _ _) hs
    · exact hs
  · exact hs

theorem Midway.beginWalk (e : Fin 4) (i : Fin 9) (ls : List Nat) : Midway d p v s₀ (beginWalk e i ls s) :=
  ((hs.setWalk _ _ _).walkOn _ _ _).nextPhase _ _

theorem Midway.beginWalks (e : Fin 4) (b : Band) : Midway d p v s₀ (beginWalks e b s) :=
  (hs.fold fun _ _ hu => hu.beginWalk _ _ _).beginWalk _ _ _

theorem Midway.codeWrite {key : Nat} (x : Word) (hk : pipeKey d key = true) : Midway d p v s₀ (codeWrite key x s) := by
  have hd : Midway d p v s₀ (drawCode (key % 0x1000000) x s) := .ite hs (hs.same rfl rfl rfl rfl rfl)
  unfold Machine.codeWrite tableWrite
  split
  · exact hd
  · exact hd.setReg _ hk

/-- A raster-effect write stays in its cluster's planes and composer, whatever its target (R102). -/
theorem Midway.rasterWrite (w : RWrite) : Midway d p v s₀ (rasterWrite d w s) :=
  .ite (hs.setClu d)
    (.ite (hs.codeWrite _ (pipeKey_low (by unfold P.PLN_CTRL; omega))) (hs.codeWrite _ (pipeKey_composer (by omega))))

theorem Midway.allWrites (b : Band) : Midway d p v s₀ (allWrites d b s) := hs.fold fun _ w hu => hu.rasterWrite w

/-! ## The stages -/

theorem Midway.settleWb (n : Nat) : Midway d p v s₀ (settleWb d n s) := by
  induction n generalizing s with
  | zero => exact hs
  | succ n ih =>
    unfold Machine.settleWb
    split
    · exact .ite hs (ih ((hs.setClu d).setReg _ (pipeKey_wbDone d)))
    · exact hs

theorem Midway.composeDone (b : Band) : Midway d p v s₀ (composeDone d b s) :=
  have hp : Midway d p v s₀ (Machine.setReg s (P.EPH_DONE d) b.pos) := hs.writeReg d _
  have hf : Midway d p v s₀ (frameOver d b.frame (Machine.setReg s (P.EPH_DONE d) b.pos)) := (hp.setClu d).settleWb _
  .ite hf hp

theorem Midway.onFrame (e : Fin 4) (frame : Nat) (f : FrameWork → FrameWork) : Midway d p v s₀ (onFrame e frame f s) :=
  hs.setClu e

theorem Midway.carryDigest (b : Band) : Midway d p v s₀ (carryDigest d b s) := by
  unfold Machine.carryDigest
  split
  · exact hs.onFrame _ _ _
  · exact hs.onFrame _ _ _

theorem Midway.passSkipped (b : Band) : Midway d p v s₀ (passSkipped d b s) :=
  (((hs.setClu d).allWrites b).carryDigest b).composeDone b

theorem Midway.enterSend (t : Nat) (b : Band) : Midway d p v s₀ (enterSend d t b s) :=
  .ite (hs.onFrame _ _ _) (.ite hs (hs.setClu d))

/-- The band that enters Compose stands there. -/
theorem Midway.enterCompose (b : Band) : Midway d { p with compose := some b.pos } v s₀ (enterCompose d b s) := by
  have hc : Midway d { p with compose := some b.pos } v s₀
      (Machine.setClu d { s.clu[d] with compose := some { b with ended := b.skip } } s) :=
    hs.setPipe (by rw [← hs.pipe]; rfl)
  have hl : Midway d { p with compose := some b.pos } v s₀
      (latchWb d b (Machine.setClu d { s.clu[d] with compose := some { b with ended := b.skip } } s)) :=
    .ite (hc.setClu d) hc
  exact .ite (hl.passSkipped b) hl

/-- The band that enters Fetch stands there. -/
theorem Midway.enterFetch (b : Band) : Midway d { p with fetch := some b.pos } v s₀ (enterFetch d b s) := by
  unfold Machine.enterFetch
  extract_lets b' c s'
  have hf : Midway d { p with fetch := some b.pos } v s₀ s' := hs.setPipe (by rw [← hs.pipe]; rfl)
  exact .ite hf (hf.beginWalks _ _)

theorem Midway.countLate (frame band : Nat) (e : Fin 4) : Midway d p v s₀ (countLate frame band s e) :=
  .ite hs ((((hs.setClu e).pmcEvent _ _ _).writeReg e _).writeReg e _)

theorem Midway.openRaster (b : Band) : Midway d p v s₀ (openRaster d b s) :=
  .ite (.ite ((hs.setClu d).fold fun _ _ hu => hu.countLate _ _ _) (hs.setClu d)) hs

theorem Midway.cmtLoad (b : Band) : Midway d p v s₀ (cmtLoad d b s) :=
  .ite (((hs.writeReg d _).writeReg d _).writeReg d _) hs

/-- The band that enters Record stands there. -/
theorem Midway.enterRecord (b : Band) : Midway d { p with record := some b.pos } v s₀ (enterRecord d b s) := by
  unfold Machine.enterRecord
  extract_lets b' s1 s2
  have h1 : Midway d p v s₀ s1 :=
    have hl := (hs.writeReg d b'.pos).cmtLoad b'
    .ite (hl.setClu d) hl
  have h2 : Midway d p v s₀ s2 := h1.openRaster b'
  exact h2.setPipe (by rw [← h2.pipe]; rfl)

/-- The Record stage takes the next band taken, if there is one. -/
theorem Midway.nextRecord (hr : p.record = none) :
    Midway d { p with record := p.taken.head?.map Band.pos, taken := p.taken.drop 1 } v s₀ (nextRecord d s) := by
  have ht : s.clu[d].taken = p.taken := congrArg Pipe.taken hs.pipe
  unfold Machine.nextRecord
  split
  · next b bs hb =>
    rw [ht] at hb
    have hq : Midway d { p with taken := bs } v s₀ (Machine.setClu d { s.clu[d] with taken := bs } s) :=
      hs.setPipe (by rw [← hs.pipe]; rfl)
    simpa [hb] using hq.enterRecord b
  · next hb =>
    rw [ht] at hb
    have he : { p with record := p.taken.head?.map Band.pos, taken := p.taken.drop 1 } = p := by
      obtain ⟨taken, _, _, record, _⟩ := p
      obtain rfl : taken = [] := hb
      obtain rfl : record = none := hr
      rfl
    rw [he]
    exact .ite hs (hs.writeReg d _)

/-- A stage that has no band to take stands as it is, empty. -/
theorem Midway.stageStep {f : Band → State → State} {q : Option Word → Pipe Word} (b : Option Band) (hq : p = q none)
    (hf : ∀ x, Midway d (q (some x.pos)) v s₀ (f x s)) :
    Midway d (q (b.map Band.pos)) v s₀ (stageStep b f s) := by
  cases b with
  | none => exact hq ▸ hs
  | some x => exact hf x

/-! ## After the stages -/

theorem Midway.declare (t : Nat) (e : Fin 4) : Midway d p v s₀ (declare t s e) :=
  .ite (hs.writeReg e _) hs

theorem Midway.noteHold (e : Fin 4) : Midway d p v s₀ (noteHold e s) := by
  have hc : ∀ u x, Midway d p v s₀ u → Midway d p v s₀ (countHeld u x) := fun u x hu =>
    .ite hu ((((hu.setClu x).pmcEvent _ _ _).writeReg x _).writeReg x _)
  exact .ite (hs.fold hc) hs

end
end Sys2Proof.Machine
end

section
/-! SUPPORT. The deadlines of a cluster: the registers and beams that they are reckoned from. -/
namespace Sys2Proof.Machine

/-- The registers of output i that deadlines are reckoned from. -/
def timingKeys (i : Fin 4) : List Nat :=
  [P.DSP_CTRL i, P.DSP_H0 i, P.DSP_H1 i, P.DSP_V0 i, P.DSP_V1 i, P.DSP_PCLK i, P.DSP_PACE i]

/-- The registers of cluster j that say which output lines a band emits, and its DSP_LAG. -/
def outputKeys (j : Fin 4) : List Nat :=
  [P.CMP_OSCALE j, P.CMP_CANVAS j, P.CMP_OSIZE j, P.CMP_OSTEP_Y j, P.CMP_OORG_Y j, P.DSP_LAG j]

/-- What the deadlines of cluster j's bands and its lag are reckoned from, the cluster's frames apart, is as it was. -/
structure SameCourse (j : Fin 4) (s t : State) : Prop where
  timing : ∀ i, ∀ key ∈ timingKeys i, getReg t key = getReg s key
  output : ∀ key ∈ outputKeys j, getReg t key = getReg s key
  beams : ∀ e : Fin 4, t.clu[e].beam = s.clu[e].beam

section
variable {j : Fin 4} {s t : State} (h : SameCourse j s t)
include h

theorem SameCourse.gangSlave (e : Fin 4) : gangSlave t e = gangSlave s e := by
  simp only [Machine.gangSlave, onF, h.timing 0 (P.DSP_CTRL 0) (by decide), h.timing 2 (P.DSP_CTRL 2) (by decide)]

theorem SameCourse.leader (e : Fin 4) : leader t e = leader s e := by
  simp only [Machine.leader, h.gangSlave]

theorem SameCourse.lineTime (e : Fin 4) (r v : Int) : lineTime t e r v = lineTime s e r v := by
  have hk : ∀ key ∈ timingKeys (Machine.leader s e), getReg t key = getReg s key := h.timing _
  simp only [timingKeys, List.forall_mem_cons] at hk
  obtain ⟨-, hh0, hh1, hv0, hv1, hclk, -⟩ := hk
  simp only [Machine.lineTime, beamOf, totalV, totalH, activeW, activeH, pixelKhz, getF, h.leader, h.beams, hh0, hh1,
    hv0, hv1, hclk]

theorem SameCourse.pace (i : Fin 4) : getReg t (P.DSP_PACE i) = getReg s (P.DSP_PACE i) :=
  h.timing i _ (by simp [timingKeys])

theorem SameCourse.lineClocks (e : Fin 4) : lineClocks t e = lineClocks s e := by
  simp only [Machine.lineClocks, getF, h.leader, h.pace]

theorem SameCourse.scaling : scaling t j = scaling s j := by
  simp only [Machine.scaling, gangMaster, onF, h.gangSlave, h.timing j (P.DSP_CTRL j) (by simp [timingKeys]),
    h.output (P.CMP_OSCALE j) (by simp [outputKeys])]

theorem SameCourse.out (b : Band) : b.out t j = b.out s j := by
  have ho := h.output
  simp only [outputKeys, List.forall_mem_cons] at ho
  obtain ⟨hscale, hcanvas, hsize, hstep, horg, -⟩ := ho
  have hv := h.timing (Machine.leader s j) (P.DSP_V0 (Machine.leader s j)) (by simp [timingKeys])
  have hvs : outVscale t j = outVscale s j := by simp only [outVscale, onF, h.scaling, hscale]
  have hc : canvasH t j = canvasH s j := by simp only [canvasH, activeH, getF, h.scaling, h.leader, hcanvas, hv]
  have hr : ∀ y, outRow t j y = outRow s j y := fun y => by simp only [outRow, getF, hvs, hstep, horg]
  have he : ∀ y, emitRow t j y = emitRow s j y := fun y => by rw [emitRow, emitRow, hr, hc, hvs]
  have hh : outH t j = outH s j := by simp only [outH, activeH, getF, h.scaling, h.leader, hsize, hv]
  simp only [Band.out, emitted, hvs, he, hh]

theorem SameCourse.out0 (b : Band) : b.out0 t j = b.out0 s j := by simp only [Band.out0, h.out]

theorem SameCourse.period (b : Band) : period t j b = period s j b := by
  simp only [Machine.period, Band.nb, h.out, h.lineClocks]

theorem SameCourse.pmin (hs : t.clu[j].send = s.clu[j].send) : pmin t j = pmin s j := by
  simp only [Machine.pmin, hs, getF, h.leader, h.period, h.pace]

theorem SameCourse.lagSigma (hp : t.clu[j].pipe = s.clu[j].pipe) : lagSigma t j = lagSigma s j := by
  have hticks : t.clu[j].ticks = s.clu[j].ticks := congrArg Pipe.ticks hp
  have hrecord : t.clu[j].record = s.clu[j].record := congrArg Pipe.record hp
  have hfetch : t.clu[j].fetch = s.clu[j].fetch := congrArg Pipe.fetch hp
  have hcompose : t.clu[j].compose = s.clu[j].compose := congrArg Pipe.compose hp
  have hfirst : t.clu[j].first = s.clu[j].first := congrArg Pipe.first hp
  have hr0 : t.clu[j].r0 = s.clu[j].r0 := congrArg Pipe.r0 hp
  have hs : ∀ b, sigmaOf t j b = sigmaOf s j b := fun b => by
    simp only [sigmaOf, frameRefresh, hr0, hfirst, h.lineTime, h.out0]
  simp only [Machine.lagSigma, sigmaBefore, hticks, hrecord, hfetch, hcompose, hs, h.period]

end

/-- The tick of one cluster leaves what the deadlines of another are reckoned from. -/
theorem Midway.sameCourse {d j : Fin 4} (hj : j ≠ d) {p : Pipe Word} {v : Word} {s t : State} (h : Midway d p v s t)
    (hb : p.beam = s.clu[d].beam) : SameCourse j s t where
  timing i key hk := by
    have : ∀ d i : Fin 4, ∀ key ∈ timingKeys i, pipeKey d key = false ∧ key ≠ P.DSP_LAG d := by decide
    exact h.regs key (this d i key hk).1 (this d i key hk).2
  output key hk := by
    have : ∀ d j : Fin 4, j ≠ d → ∀ key ∈ outputKeys j, pipeKey d key = false ∧ key ≠ P.DSP_LAG d := by decide
    exact h.regs key (this d j hj key hk).1 (this d j hj key hk).2
  beams e := by
    by_cases he : e = d
    · subst he
      rw [← hb, ← h.pipe]
      rfl
    · exact congrArg Pipe.beam (h.others e he)

end Sys2Proof.Machine
end

section
/-! SUPPORT. The tick of one cluster, and of the clusters of a group one after another. -/
namespace Sys2Proof.Machine

/-- The pipeline after a tick in clock x: each stage has the band of the stage before it (R32, R148). -/
def Pipe.tick (x : Nat) (p : Pipe Word) : Pipe Word :=
  { p with
    taken := p.taken.drop 1
    ticks := min (p.ticks + 1) 4
    t := x
    record := p.taken.head?.map Band.pos
    fetch := p.record
    compose := p.fetch
    send := p.compose }

/-- DSP_LAG, v before, after a tick in clock x of a cluster whose deadline is σ (R148). -/
def lagAfter (on : Bool) (x : Nat) (σ : Option Nat) (v : Word) : Word :=
  if on then (σ.map fun y => sat24 (x - y)).getD v else v

theorem Midway.noteLag {d : Fin 4} {p : Pipe Word} {v : Word} {s₀ s : State} (hs : Midway d p v s₀ s) (x : Nat)
    (σ : Option Nat) : Midway d p (lagAfter (s.powered (pdOutput d)) x σ v) s₀ (noteLag d x σ s) := by
  cases σ with
  | none => simpa [lagAfter, Machine.noteLag] using hs
  | some y =>
    unfold Machine.noteLag
    dsimp only
    split
    · next hon =>
      have hl := hs.setLag (sat24 (x - y))
      rw [lagAfter, if_pos hon]
      exact .ite (hl.writeReg d _) hl
    · next hoff =>
      rw [lagAfter, if_neg hoff]
      exact hs

/-- The tick of a cluster moves its pipeline one stage on and notes its lag. -/
theorem tickCluster_midway (x : Nat) (s : State) (d : Fin 4) :
    Midway d (s.clu[d].pipe.posed.tick x)
      (lagAfter (s.powered (pdOutput d)) x (lagSigma s d) (getReg s (P.DSP_LAG d))) s (tickCluster x s d) := by
  unfold tickCluster
  extract_lets c lag s1 s2 s3 s4
  let q : Pipe Word :=
    { s.clu[d].pipe.posed.tick x with taken := c.taken, record := none, fetch := none, compose := none }
  have h1 : Midway d q (getReg s (P.DSP_LAG d)) s s1 := (Midway.start d s).setPipe rfl
  have h1' := h1.stageStep (q := fun _ => q) c.compose rfl fun b => h1.enterSend x b
  have hw : (stageStep c.compose (enterSend d x) s1).powered (pdOutput d) = s.powered (pdOutput d) := by
    simp only [State.powered, h1'.pwr]
  have h2 : Midway d q _ s s2 := hw ▸ h1'.noteLag x lag
  have h3 := h2.stageStep (q := fun o => { q with compose := o }) c.fetch rfl fun b => h2.enterCompose b
  have h4 := h3.stageStep (q := fun o => { q with compose := c.fetch.map Band.pos, fetch := o }) c.record rfl
    fun b => h3.enterFetch b
  exact h4.nextRecord rfl

/-- The clusters ds have ticked in clock x, from s to t. -/
structure Ticked (x : Nat) (ds : List (Fin 4)) (s t : State) : Prop where
  clock : t.clock = s.clock
  mem : t.mem = s.mem
  pipe : ∀ j ∈ ds, t.clu[j].pipe.posed = s.clu[j].pipe.posed.tick x
  lag : ∀ j ∈ ds, getReg t (P.DSP_LAG j) =
    lagAfter (s.powered (pdOutput j)) x (lagSigma s j) (getReg s (P.DSP_LAG j))
  others : ∀ j, j ∉ ds → t.clu[j].pipe.posed = s.clu[j].pipe.posed ∧ getReg t (P.DSP_LAG j) = getReg s (P.DSP_LAG j)

/-- One more cluster ticks first: the rest finds its own pipelines and deadlines as they were. -/
theorem Ticked.cons {x : Nat} {d : Fin 4} {ds : List (Fin 4)} {s t : State} (hd : d ∉ ds)
    (h : Ticked x ds (tickCluster x s d) t) : Ticked x (d :: ds) s t := by
  have hm := tickCluster_midway x s d
  have hc : ∀ j, j ≠ d → SameCourse j s (tickCluster x s d) := fun j hj => hm.sameCourse hj rfl
  have hl : ∀ j, j ≠ d → getReg (tickCluster x s d) (P.DSP_LAG j) = getReg s (P.DSP_LAG j) := fun j hj =>
    (hc j hj).output _ (by simp [outputKeys])
  refine ⟨h.clock.trans hm.clock, h.mem.trans hm.mem, fun j hj => ?_, fun j hj => ?_, fun j hj => ?_⟩
  · rcases List.mem_cons.1 hj with rfl | hj
    · rw [(h.others j hd).1, hm.pipe]
    · have hne : j ≠ d := fun e => hd (e ▸ hj)
      rw [h.pipe j hj, hm.others j hne]
  · rcases List.mem_cons.1 hj with rfl | hj
    · rw [(h.others j hd).2, hm.lag]
    · have hne : j ≠ d := fun e => hd (e ▸ hj)
      rw [h.lag j hj, hl j hne, (hc j hne).lagSigma (hm.others j hne), State.powered, hm.pwr]
      rfl
  · obtain ⟨hne, hj⟩ := not_or.1 (mt List.mem_cons.2 hj)
    rw [(h.others j hj).1, (h.others j hj).2, hm.others j hne, hl j hne]
    exact ⟨rfl, rfl⟩

theorem ticked_foldl (x : Nat) {ds : List (Fin 4)} (hd : ds.Nodup) (s : State) :
    Ticked x ds s (ds.foldl (tickCluster x) s) := by
  induction ds generalizing s with
  | nil =>
    exact ⟨rfl, rfl, fun _ h => absurd h List.not_mem_nil, fun _ h => absurd h List.not_mem_nil,
      fun _ _ => ⟨rfl, rfl⟩⟩
  | cons d ds ih =>
    obtain ⟨hn, hd⟩ := List.nodup_cons.1 hd
    exact .cons hn (ih hd _)

/-- The state after the tick of the clusters ds, cluster d's group, in clock x. -/
def afterTick (d : Fin 4) (ds : List (Fin 4)) (x : Nat) (s : State) : State :=
  noteHold d (ds.foldl (declare x) (ds.foldl (tickCluster x) (reach x s)))

/-- What the declared tolerances and a hold leave of the tick. -/
theorem afterTick_midway (d : Fin 4) (ds : List (Fin 4)) (x : Nat) (s : State) (j : Fin 4) :
    let t := ds.foldl (tickCluster x) (reach x s)
    Midway j t.clu[j].pipe.posed (getReg t (P.DSP_LAG j)) t (afterTick d ds x s) :=
  ((Midway.start j _).fold fun _ e hu => hu.declare x e).noteHold d

theorem ticked_afterTick (d : Fin 4) {ds : List (Fin 4)} (hd : ds.Nodup) (x : Nat) (s : State) :
    Ticked x ds (reach x s) (afterTick d ds x s) :=
  have h := ticked_foldl x hd (reach x s)
  have hm := afterTick_midway d ds x s
  ⟨(hm 0).clock.trans h.clock, (hm 0).mem.trans h.mem,
    fun j hj => (hm j).pipe.trans (h.pipe j hj), fun j hj => (hm j).lag.trans (h.lag j hj),
    fun j hj => ⟨(hm j).pipe.trans (h.others j hj).1, (hm j).lag.trans (h.others j hj).2⟩⟩

/-! ## When the tick falls -/

theorem nextTick_bounds {s : State} {d : Fin 4} {y : Nat} (h : nextTick s d = some y) :
    s.clu[d].t + pmin s d ≤ y ∧ s.clu[d].done ≤ y ∧ ∀ z, tickSigma s d = some z → z ≤ y := by
  unfold nextTick at h
  split at h
  · obtain ⟨z, hz, rfl⟩ := Option.map_eq_some_iff.1 h
    rw [hz]
    refine ⟨?_, Nat.le_max_right _ _, fun w hw => Option.some.inj hw ▸ ?_⟩
    · exact (Nat.le_max_right _ _).trans (Nat.le_max_left _ _)
    · exact (Nat.le_max_left _ _).trans (Nat.le_max_left _ _)
  · exact nomatch h

/-- No cluster of the group ticks before its own pipeline lets it. -/
theorem nextTick_of_latest {s : State} {ds : List (Fin 4)} {x : Nat} (h : latest s ds = some x) :
    ∀ j ∈ ds, ∃ y, nextTick s j = some y ∧ y ≤ x := by
  induction ds generalizing x with
  | nil => exact fun _ hj => nomatch hj
  | cons d ds ih =>
    unfold latest at h
    split at h
    · next y z hy hz =>
      obtain rfl := Option.some.inj h
      intro j hj
      rcases List.mem_cons.1 hj with rfl | hj
      · exact ⟨y, hy, Nat.le_max_left _ _⟩
      · obtain ⟨w, hw, hle⟩ := ih hz j hj
        exact ⟨w, hw, hle.trans (Nat.le_max_right _ _)⟩
    · exact nomatch h

theorem latest_singleton (s : State) (d : Fin 4) : latest s [d] = nextTick s d := by
  cases h : nextTick s d <;> simp [latest, h]

theorem nextTick_none {s : State} {d : Fin 4} (h : tickSigma s d = none) : nextTick s d = none := by
  simp [nextTick, h]

theorem group_nodup (s : State) (d : Fin 4) : (group s d).Nodup := by
  unfold group
  split
  · split <;> decide
  · exact List.nodup_singleton d

end Sys2Proof.Machine
end

section
/-! SUPPORT. The first frame's refresh, assigned when its band 0 is known and the beam runs. -/
namespace Sys2Proof.Machine

/-- The cluster with the refresh of its first frame. -/
def Cluster.withFirst (c : Cluster) (r : Nat) : Cluster := { c with r0 := some r, begun := [] }

/-- The registers that the assignment of the first refresh may write. -/
def firstKeys (d : Fin 4) : List Nat := [P.EPH_STAT d, P.DSP_ERR_CNT d, P.DSP_STAT d]

theorem OnlyRegs.ite {s t u : State} {keys : List Nat} {c : Prop} [Decidable c] (h1 : OnlyRegs s t keys)
    (h2 : OnlyRegs s u keys) : OnlyRegs s (if c then t else u) keys := by split <;> assumption

theorem countUnderrun_onlyRegs (d : Fin 4) (n : Nat) (s : State) : OnlyRegs s (countUnderrun d n s) (firstKeys d) := by
  unfold countUnderrun
  split
  · exact OnlyRegs.refl s _
  · have hn : P.DSP_ERR_CNT d ∈ firstKeys d := by simp [firstKeys]
    have hst : P.DSP_STAT d ∈ firstKeys d := by simp [firstKeys]
    exact OnlyRegs.trans (OnlyRegs.addF s _ n hn) (OnlyRegs.setF _ _ 1 hst)

/-- Band 0 of the first frame gives the cluster its first refresh (R146). -/
theorem assignFirst_some {d : Fin 4} {b : Band} {s : State} {r : Nat} (hb : b.band = 0)
    (hf : b.frame = s.clu[d].first) (h0 : s.clu[d].r0 = none) (hr : firstRefresh s d b = some r) :
    OnlyRegs (setClu d (s.clu[d].withFirst r) s) (assignFirst d b s) (firstKeys d) := by
  unfold assignFirst
  rw [if_pos ⟨hb, hf, h0⟩, hr]
  dsimp only
  have hm := OnlyRegs.ite (c := s.clu[d].begun.any (fun q => lookaheadMissed s d r q.1 q.2) = true)
    (OnlyRegs.setF (setClu d (s.clu[d].withFirst r) s) F.EPH_STAT_lookahead_miss 1 (k := P.EPH_STAT d)
      (keys := firstKeys d) (by simp [firstKeys])) (OnlyRegs.refl _ _)
  exact OnlyRegs.ite (OnlyRegs.trans hm (countUnderrun_onlyRegs d _ _)) hm

theorem assignFirst_none {d : Fin 4} {b : Band} {s : State} (hr : firstRefresh s d b = none) :
    assignFirst d b s = s := by
  unfold assignFirst
  rw [hr]
  exact ite_self s

theorem retryFirst_known {d : Fin 4} {s : State} (h : s.clu[d].r0.isSome = true) : retryFirst d s = s := by
  unfold retryFirst
  split
  · exact if_neg fun ⟨_, _, h0⟩ => by rw [h0] at h; exact nomatch h
  · rfl

theorem retryFirst_cons {d : Fin 4} {s : State} {b : Band} {bs : List Band} (h : s.clu[d].taken = b :: bs) :
    retryFirst d s = assignFirst d b s := by
  rw [retryFirst, h]

theorem retryFirst_nil {d : Fin 4} {s : State} (h : s.clu[d].taken = []) : retryFirst d s = s := by
  rw [retryFirst, h]

/-- The assignment of the first refresh leaves what the deadlines are reckoned from, the cluster's frames apart. -/
theorem sameCourse_firstRefresh {d : Fin 4} {s t : State} {r : Nat}
    (h : OnlyRegs (setClu d (s.clu[d].withFirst r) s) t (firstKeys d)) :
    t.clu[d] = s.clu[d].withFirst r ∧ SameCourse d s t := by
  have hc : t.clu = (setClu d (s.clu[d].withFirst r) s).clu := by rw [h.1]
  refine ⟨by rw [Fin.getElem_fin, hc]; exact setClu_same d _ s, fun i key hk => ?_, fun key hk => ?_, fun e => ?_⟩
  · have : ∀ d i : Fin 4, ∀ key ∈ timingKeys i, key ∉ firstKeys d := by decide
    exact h.2 key (this d i key hk)
  · have : ∀ d : Fin 4, ∀ key ∈ outputKeys d, key ∉ firstKeys d := by decide
    exact h.2 key (this d key hk)
  · rw [Fin.getElem_fin, hc]
    by_cases he : e = d
    · subst he
      have hb := congrArg Cluster.beam (setClu_same e (s.clu[e].withFirst r) s)
      exact hb
    · exact congrArg Cluster.beam (setClu_ne he _ s)

theorem frameSub_self (n : Nat) : frameSub n n = 0 := by
  unfold frameSub
  omega

/-- The first frame has the first refresh. -/
theorem frameRefresh_first {s : State} {d : Fin 4} {frame r : Nat} (hr : s.clu[d].r0 = some r)
    (hf : frame = s.clu[d].first) : frameRefresh s d frame = some r := by
  rw [frameRefresh, hr, hf, frameSub_self]
  rfl

/-- Until the first refresh is known a pipeline that has not begun has no tick. -/
theorem tickSigma_unassigned {s : State} {d : Fin 4} (h0 : s.clu[d].r0 = none) (ht : s.clu[d].ticks = 0) :
    tickSigma s d = none := by
  simp only [tickSigma, ht, if_true]
  split
  · simp only [sigmaBefore, sigmaOf, frameRefresh, h0]
    rfl
  · rfl

/-- The clock of the first tick, r being the first refresh: three band periods before band 0's deadline, or when that
band was taken, and not before pmin and the end of the work (R148, R505). -/
def firstTick (s : State) (d : Fin 4) (b : Band) (r : Nat) : Nat :=
  max (max (max (lineTime s d (r : Int) ((b.out0 s d : Int) + b.deadline) - 3 * period s d b) b.stamp)
    (s.clu[d].t + pmin s d)) s.clu[d].done

theorem nextTick_first {s t : State} {d : Fin 4} {b : Band} {bs : List Band} {r : Nat}
    (hc : t.clu[d] = s.clu[d].withFirst r) (h : SameCourse d s t) (ht : s.clu[d].ticks = 0)
    (hb : s.clu[d].taken = b :: bs) (hf : b.frame = s.clu[d].first) (hw : workEnded s.clu[d] = true) :
    nextTick t d = some (firstTick s d b r) := by
  have hwt : workEnded t.clu[d] = true := by rw [hc]; exact hw
  have hp : pmin t d = pmin s d := h.pmin (by rw [hc]; rfl)
  have hr : frameRefresh t d b.frame = some r :=
    frameRefresh_first (by rw [hc]; rfl) (by rw [hc]; exact hf)
  have htk : t.clu[d].ticks = 0 := by rw [hc]; exact ht
  have hbt : t.clu[d].taken = b :: bs := by rw [hc]; exact hb
  have hσ : tickSigma t d = some (max (lineTime s d (r : Int) ((b.out0 s d : Int) + b.deadline) - 3 * period s d b)
      b.stamp) := by
    simp only [tickSigma, htk, if_true, hbt, sigmaBefore, sigmaOf, hr, h.lineTime, h.out0, h.period]
    rfl
  rw [nextTick, if_pos hwt, hσ, hp, hc]
  rfl

end Sys2Proof.Machine
end

section
/-! THEOREM. Pipeline ticks. -/
namespace Sys2Proof.Machine

theorem sendGroup_nodup (s : State) (d : Fin 4) : (sendGroup s d).Nodup := (group_nodup s d).filter _

theorem sendGroup_alone {d : Fin 4} {s : State} (ha : group s d = [d]) (hr : seqRuns s d = true) :
    sendGroup s d = [d] := by
  rw [sendGroup, ha, List.filter_cons_of_pos hr, List.filter_nil]

/-- What a tick comes to in a cluster that leads its group and runs, u being the state once the first refresh has been
looked for. -/
theorem exec_composeTick {d : Fin 4} {s u : State} (hg : gangSlave s d = false) (hr : seqRuns s d = true)
    (ht : s.tilted = false) (hc : compRuns s d = true)
    (hu : (sendGroup s d).foldl (fun t e => retryFirst e t) s = u) :
    exec (.composeTick d) s =
      (latest u (sendGroup s d)).elim (.next u) fun x => .next (afterTick d (sendGroup s d) x u) := by
  subst hu
  show execComposeTick d s = _
  unfold execComposeTick
  rw [if_neg (by simp [hg, hr, ht, hc])]
  dsimp only
  split
  · next h =>
    rw [sendGroup, h]
    rfl
  · next h =>
    rw [sendGroup, h]
    rfl

theorem exec_composeTick_slave {d : Fin 4} {s : State} (h : gangSlave s d = true) :
    exec (.composeTick d) s = .next s :=
  if_pos (by simp [h])

/-- Clusters whose first refresh is known look for none. -/
theorem foldl_retryFirst_known {ds : List (Fin 4)} {s : State} (h : ∀ j ∈ ds, s.clu[j].r0.isSome = true) :
    ds.foldl (fun t e => retryFirst e t) s = s :=
  List.foldlRecOn (motive := fun t => t = s) ds _ rfl fun t ht j hj => by subst ht; exact retryFirst_known (h j hj)

/-- A cluster alone whose first refresh cannot be assigned yet has no tick. -/
theorem exec_composeTick_unassigned {d : Fin 4} {s : State} (ha : group s d = [d]) (hg : gangSlave s d = false)
    (hr : seqRuns s d = true) (ht : s.tilted = false) (hc : compRuns s d = true) (h0 : s.clu[d].r0 = none)
    (hk : s.clu[d].ticks = 0)
    (hn : s.clu[d].taken = [] ∨ ∃ b bs, s.clu[d].taken = b :: bs ∧ firstRefresh s d b = none) :
    exec (.composeTick d) s = .next s := by
  have hG := sendGroup_alone ha hr
  have hu : (sendGroup s d).foldl (fun t e => retryFirst e t) s = s := by
    rw [hG]
    rcases hn with hn | ⟨b, bs, hb, hn⟩
    · exact retryFirst_nil hn
    · exact (retryFirst_cons hb).trans (assignFirst_none hn)
  have hx : latest s (sendGroup s d) = none := by
    rw [hG, latest_singleton]
    exact nextTick_none (tickSigma_unassigned h0 hk)
  rw [exec_composeTick hg hr ht hc hu, hx]
  rfl

/-- The first tick of a cluster alone, whose first refresh is assigned now. -/
theorem exec_composeTick_first {d : Fin 4} {s : State} (ha : group s d = [d]) (hg : gangSlave s d = false)
    (hr : seqRuns s d = true) (ht : s.tilted = false) (hc : compRuns s d = true) (hk : s.clu[d].ticks = 0) {b : Band}
    {bs : List Band} {r : Nat} (hb : s.clu[d].taken = b :: bs) (hf : b.frame = s.clu[d].first)
    (hA : OnlyRegs (setClu d (s.clu[d].withFirst r) s) (assignFirst d b s) (firstKeys d))
    (hw : workEnded s.clu[d] = true) :
    exec (.composeTick d) s = .next (afterTick d [d] (firstTick s d b r) (assignFirst d b s)) := by
  have hG := sendGroup_alone ha hr
  obtain ⟨hcl, hsc⟩ := sameCourse_firstRefresh hA
  have hu : (sendGroup s d).foldl (fun t e => retryFirst e t) s = assignFirst d b s := by
    rw [hG]
    exact retryFirst_cons hb
  have hx : latest (assignFirst d b s) (sendGroup s d) = some (firstTick s d b r) := by
    rw [hG, latest_singleton]
    exact nextTick_first hcl hsc hk hb hf hw
  rw [exec_composeTick hg hr ht hc hu, hx, hG]
  rfl

/-- The tick's moves, read off the pipelines before and after it. -/
theorem ticks_of_pipe {s t : State} {j : Fin 4} {x : Nat} (h : t.clu[j].pipe.posed = s.clu[j].pipe.posed.tick x) :
    t.clu[j].send.map Band.pos = s.clu[j].compose.map Band.pos ∧
    t.clu[j].compose.map Band.pos = s.clu[j].fetch.map Band.pos ∧
    t.clu[j].fetch.map Band.pos = s.clu[j].record.map Band.pos ∧
    t.clu[j].record.map Band.pos = s.clu[j].taken.head?.map Band.pos ∧
    t.clu[j].taken = s.clu[j].taken.drop 1 ∧ t.clu[j].ticks = min (s.clu[j].ticks + 1) 4 ∧ t.clu[j].t = x :=
  ⟨congrArg Pipe.send h, congrArg Pipe.compose h, congrArg Pipe.fetch h, congrArg Pipe.record h,
    congrArg Pipe.taken h, congrArg Pipe.ticks h, congrArg Pipe.t h⟩

/-- Settles O34: each cluster of the group moves its own pipeline, and leaves what the other's deadlines are reckoned
from. -/
theorem pipelineTick : Obligations.PipelineTick := by
  unfold Obligations.PipelineTick
  refine ⟨⟨fun d x s => ?_, fun d s ha hg hr ht hc h0 hk => ⟨fun hn => ?_, fun b bs r hb hb0 hbf hfr hw => ?_⟩⟩,
    fun d s h => exec_composeTick_slave h⟩
  · intro ds hg hr ht hc h0 hx
    have hT := ticked_afterTick d (sendGroup_nodup s d) x s
    refine ⟨_, (exec_composeTick hg hr ht hc (foldl_retryFirst_known h0)).trans (congrArg (Option.elim · _ _) hx),
      hT.clock, hT.mem, fun j hj => ?_⟩
    obtain ⟨y, hy, hyx⟩ := nextTick_of_latest hx j hj
    obtain ⟨hp, hd, hσ⟩ := nextTick_bounds hy
    refine ⟨ticks_of_pipe (hT.pipe j hj), hp.trans hyx, hd.trans hyx, fun z hz => (hσ z hz).trans hyx,
      fun hon z hz => ?_⟩
    rw [hT.lag j hj]
    show lagAfter (s.powered (pdOutput j)) x (lagSigma s j) _ = _
    rw [hon, hz]
    rfl
  · exact exec_composeTick_unassigned ha hg hr ht hc h0 hk hn
  · intro σ x
    have hA := assignFirst_some hb0 hbf h0 hfr
    obtain ⟨hcl, -⟩ := sameCourse_firstRefresh hA
    have hclock : (assignFirst d b s).clock = s.clock := by rw [hA.1]; rfl
    have hmem : (assignFirst d b s).mem = s.mem := by rw [hA.1]; rfl
    have hfirst : (assignFirst d b s).clu[d].first = s.clu[d].first := by rw [hcl]; rfl
    have hT := ticked_afterTick d (List.nodup_singleton d) x (assignFirst d b s)
    have hp := hT.pipe d (List.mem_singleton_self d)
    have hm := ticks_of_pipe (s := assignFirst d b s) hp
    rw [hcl] at hm
    have hr0 : (afterTick d [d] x (assignFirst d b s)).clu[d].r0 = some r :=
      (congrArg Pipe.r0 hp).trans (congrArg Cluster.r0 hcl)
    refine ⟨_, exec_composeTick_first ha hg hr ht hc hk hb hbf hA hw, hT.clock.trans (congrArg (max · x) hclock),
      hT.mem.trans hmem, hm, hr0, frameRefresh_first hr0 (hbf.trans ((congrArg Pipe.first hp).trans hfirst).symm)⟩

end Sys2Proof.Machine
end

section
/-! SUPPORT. What taking an interrupt leaves, and a halted core's wake. -/
namespace Sys2Proof.Machine

/-- Looking at a counter changes the counters and the model's free counter. -/
theorem pmcLook_only (c : Fin 64) (s : State) :
    pmcLook c s = { s with pmc := (pmcLook c s).pmc, free := (pmcLook c s).free } := by
  unfold pmcLook
  dsimp only
  split
  · split <;> rfl
  · rfl

theorem pmcSettle_only (s : State) :
    pmcSettle s = { s with pmc := (pmcSettle s).pmc, free := (pmcSettle s).free } := by
  unfold pmcSettle
  split
  · refine List.foldlRecOn (motive := fun t : State => t = { s with pmc := t.pmc, free := t.free }) _ _ rfl fun t h c _ => ?_
    rw [pmcLook_only c t, h]
  · rfl

@[simp] theorem pmcSettle_cores (s : State) : (pmcSettle s).cores = s.cores := by rw [pmcSettle_only]
@[simp] theorem pmcSettle_regs (s : State) : (pmcSettle s).regs = s.regs := by rw [pmcSettle_only]

/-- What the entry of exception 5 with return address pc makes of core k and its exception registers, when SR.ex is 0 (R235). -/
structure InterruptTaken (k : CoreId) (pc : Word) (s t : State) : Prop where
  xpc : getReg t (P.SYS_XPC k) = pc
  xsr : getReg t (P.SYS_XSR k) = s.cores[k].sr.setWidth 32
  xcause : getReg t (P.SYS_XCAUSE k) = 5
  core : t.cores[k] = { s.cores[k] with
    sr := s.cores[k].srEntered
    pc := (getReg s (P.SYS_VBASE k) &&& 0xFFFFFF00) + 160
    halted := false
    eiShadow := false
    privPast := agePast 4 s.cores[k].privPast }
  regs : RegsBut s t [P.SYS_XPC k, P.SYS_XSR k, P.SYS_XCAUSE k]

theorem takeException_interrupt {k : CoreId} {s : State} (pc : Word) (hx : s.cores[k].ex = false) :
    InterruptTaken k pc s (takeException k .interrupt pc none s) := by
  obtain ⟨h1, h2, h3⟩ :
      P.SYS_XPC k ≠ P.SYS_XSR k ∧ P.SYS_XPC k ≠ P.SYS_XCAUSE k ∧ P.SYS_XSR k ≠ P.SYS_XCAUSE k := by
    simp [P.SYS_XPC, P.SYS_XSR, P.SYS_XCAUSE]
  have hregs : RegsBut s (takeException k .interrupt pc none s) [P.SYS_XPC k, P.SYS_XSR k, P.SYS_XCAUSE k] := by
    simp only [takeException, hx, Bool.false_eq_true, if_false]
    refine RegsBut.trans (RegsBut.trans (RegsBut.trans (t := setReg (pmcEvent 7 k 1 s) (P.SYS_XPC k) pc) ?_
      (RegsBut.setReg _ (s.cores[k].sr.setWidth 32) (k := P.SYS_XSR k) (by simp)))
      (RegsBut.setReg _ 5 (k := P.SYS_XCAUSE k) (by simp))) (RegsBut.of_regs rfl _)
    exact RegsBut.trans (RegsBut.of_regs (pmcEvent_regs 7 k 1 s) _) (RegsBut.setReg _ _ (by simp))
  have hbase : P.SYS_VBASE k ∉ [P.SYS_XPC k, P.SYS_XSR k, P.SYS_XCAUSE k] := by
    simp [P.SYS_VBASE, P.SYS_XPC, P.SYS_XSR, P.SYS_XCAUSE]
  refine ⟨?_, ?_, ?_, ?_, hregs⟩
  all_goals simp only [takeException, hx, Bool.false_eq_true, if_false]
  · rw [getReg_congr (State.setCore_regs _ _ _)]
    simp [Exn.hasAddress, getReg_setReg_ne _ _ h1, getReg_setReg_ne _ _ h2]
  · rw [getReg_congr (State.setCore_regs _ _ _)]
    simp [Exn.hasAddress, getReg_setReg_ne _ _ h3]
  · rw [getReg_congr (State.setCore_regs _ _ _)]
    simp [Exn.hasAddress, Exn.num]
  · rw [setCore_fin, ← hregs _ hbase]
    simp only [takeException, hx, Bool.false_eq_true, if_false]
    rfl

end Sys2Proof.Machine
end

section
/-! THEOREM. Interrupts taken between instructions, and what a core does in its turn. -/
namespace Sys2Proof.Machine

theorem coreTurn_undisturbed {k : CoreId} {s : State} (hw : wakes s k = false) (hi : interrupted s k = false) :
    coreTurn k s = fetchRun k s := by
  simp [coreTurn, hw, hi]

theorem fetchRun_none {k : CoreId} {s : State} (h : fetchRoom k s longest s.cores[k].pc = 0) :
    fetchRun k s = fetchShort k 0 s := by
  simp only [fetchRun, h, if_true]

theorem execHaltWake_wakes {k : CoreId} {s : State} (hp : (presented s k).isSome = true)
    (hh : s.cores[k].halted = true) (hr : s.cores[k].run = true) (hd : s.cores[k].inDebug = false)
    (hc : s.cpuClock = true) :
    execHaltWake k s =
      let s1 := (pmcSettle s).setCore k { s.cores[k] with halted := false, privPast := [] }
      .next (if s.cores[k].ie then takeException k .interrupt s.cores[k].pc none s1 else s1) := by
  simp only [execHaltWake, hh, hr, hd, hp, hc, Bool.not_false, Bool.and_self, if_true, pmcSettle_cores]

/-- Settles O22: the turn's branches are fetchRun's, and an interrupt taken is the entry of exception 5. -/
theorem interruptTaking : Obligations.InterruptTaking := by
  unfold Obligations.InterruptTaking
  refine ⟨fun k s hw hi => ?_, fun k s hl hw => ?_, fun k s hp hx => ⟨fun hiss hie hsh => ?_,
    fun hh hr hd hc => ⟨fun hie => ?_, fun hie => ?_⟩⟩⟩
  · rw [coreTurn_undisturbed hw hi]
    refine ⟨fetchRun_none, fun n hroom hn => ?_⟩
    have hn0 : n ≠ 0 := Nat.ne_of_gt hn
    refine ⟨fun w h => ?_, fun i t h => ?_, fun t h => ?_, fun t h => ?_⟩ <;>
      simp only [fetchRun, hroom, hn0, if_false, h]
  · exact coreTurn_undisturbed hw (by simp [interrupted, hl])
  · have ht := takeException_interrupt s.cores[k].pc hx
    refine ⟨takeException k .interrupt s.cores[k].pc none s, ?_, ht.xpc, ht.xsr, ht.xcause, ⟨4, ?_⟩, ht.regs⟩
    · simp only [exec, execInterruptEntry, hiss, hie, hsh, hp, Bool.not_false, Bool.and_self, if_true]
    · rw [ht.core]; rfl
  · refine ⟨(pmcSettle s).setCore k { s.cores[k] with halted := false, privPast := [] }, ?_, ?_⟩
    · rw [exec, execHaltWake_wakes hp hh hr hd hc]
      simp only [hie, Bool.false_eq_true, if_false]
    · rw [pmcSettle_only]; rfl
  · let u := (pmcSettle s).setCore k { s.cores[k] with halted := false, privPast := [] }
    have hu : u.cores[k] = { s.cores[k] with halted := false, privPast := [] } := setCore_fin _ _ _
    have ht := takeException_interrupt (s := u) s.cores[k].pc (by rw [hu]; exact hx)
    refine ⟨takeException k .interrupt s.cores[k].pc none u, ?_, ht.xpc, ht.xcause, ?_⟩
    · rw [exec, execHaltWake_wakes hp hh hr hd hc]
      simp only [hie, if_true, u]
    · rw [ht.core, hu]
      have hv : getReg u (P.SYS_VBASE k) = getReg s (P.SYS_VBASE k) := getReg_congr (pmcSettle_regs s) _
      rw [hv]
      rfl

end Sys2Proof.Machine
end

section
/-! SUPPORT. Fields of a register given by literals: that they lie in the word and apart is read off their bounds. -/
namespace Sys2Proof.Machine

/-- The field lies in the word. -/
def Fld.inWord (f : Fld) : Bool := decide (f.lo ≤ f.hi) && decide (f.hi < 32)

/-- Field g lies in the word and shares no bit with f. -/
def Fld.leaves (f g : Fld) : Bool := g.inWord && (decide (f.hi < g.lo) || decide (g.hi < f.lo))

theorem Fld.ok_of_inWord {f : Fld} (h : f.inWord = true) : f.ok := by
  simp only [Fld.inWord, Bool.and_eq_true, decide_eq_true_eq] at h
  exact h

theorem Fld.apart_of_leaves {f g : Fld} (h : f.leaves g = true) : g.ok ∧ f.apart g := by
  simp only [Fld.leaves, Bool.and_eq_true, Bool.or_eq_true, decide_eq_true_eq] at h
  exact ⟨Fld.ok_of_inWord h.1, h.2⟩

theorem getF_setF_self (s : State) (k : Nat) (f : Fld) (n : Nat) (h : f.inWord = true) :
    getF (setF s k f n) k f = n % 2 ^ f.len := getF_setF_same s k f (Fld.ok_of_inWord h) n

theorem getF_setF_other (s : State) (k : Nat) (f g : Fld) (n : Nat) (h : f.leaves g = true) :
    getF (setF s k f n) k g = getF s k g :=
  getF_setF_apart s k f g (Fld.apart_of_leaves h).1 (Fld.apart_of_leaves h).2 n

theorem onF_setF_self (s : State) (k : Nat) (f : Fld) (n : Nat) (h : f.inWord = true) :
    onF (setF s k f n) k f = n.testBit 0 := onF_setF_same s k f (Fld.ok_of_inWord h) n

end Sys2Proof.Machine
end

section
/-! SUPPORT. The rules of the arbiter's operations: what each leaves of requesters, channels, memory and registers. -/
namespace Sys2Proof.Machine

/-! ## What accesses to DRAM may change -/

/-- Nothing but memory, the arbiters, the counters, the model's free counter and the registers with these keys differs. -/
structure ArbOnly (s t : State) (keys : List Nat) : Prop where
  rest : t = { s with mem := t.mem, mc := t.mc, regs := t.regs, pmc := t.pmc, free := t.free }
  regs : RegsBut s t keys

theorem ArbOnly.refl (s : State) (keys : List Nat) : ArbOnly s s keys := ⟨rfl, RegsBut.refl s keys⟩

theorem ArbOnly.trans {s t u : State} {keys : List Nat} (h1 : ArbOnly s t keys) (h2 : ArbOnly t u keys) :
    ArbOnly s u keys := by
  refine ⟨?_, RegsBut.trans h1.regs h2.regs⟩
  rw [h2.rest, h1.rest]

theorem ArbOnly.mono {s t : State} {keys keys' : List Nat} (h : ArbOnly s t keys) (hk : ∀ k ∈ keys, k ∈ keys') :
    ArbOnly s t keys' := ⟨h.rest, RegsBut.mono h.regs hk⟩

theorem ArbOnly.of_regs {s t : State} {keys : List Nat} (h : OnlyRegs s t keys) : ArbOnly s t keys :=
  ⟨by rw [h.1], h.2⟩

theorem ArbOnly.setF {s t : State} {keys : List Nat} (h : ArbOnly s t keys) {k : Nat} (f : Fld) (n : Nat)
    (hk : k ∈ keys := by simp) : ArbOnly s (setF t k f n) keys := h.trans (.of_regs (OnlyRegs.setF t f n hk))

theorem ArbOnly.addF {s t : State} {keys : List Nat} (h : ArbOnly s t keys) {k : Nat} (f : Fld) (n : Nat)
    (hk : k ∈ keys := by simp) : ArbOnly s (addF t k f n) keys := h.trans (.of_regs (OnlyRegs.addF t f n hk))

/-- A change of memory, the arbiters, the counters or the free counter alone. -/
theorem ArbOnly.beside {s t u : State} {keys : List Nat} (h : ArbOnly s t keys)
    (hu : u = { t with mem := u.mem, mc := u.mc, pmc := u.pmc, free := u.free }) : ArbOnly s u keys := by
  refine h.trans ⟨?_, RegsBut.of_regs (by rw [hu]) _⟩
  rw [hu]

theorem ArbOnly.ite {s t u : State} {keys : List Nat} {c : Prop} [Decidable c] (h1 : c → ArbOnly s t keys)
    (h2 : ¬c → ArbOnly s u keys) : ArbOnly s (if c then t else u) keys := by
  split
  · next h => exact h1 h
  · next h => exact h2 h

/-! ## Requesters -/

@[simp] theorem setMc_mc (m : MemCtl) (s : State) : (setMc m s).mc = m := rfl

/-- Requesters hang on the arbiter's table of them alone. -/
theorem requester_congr {s t : State} (h : t.mc.reqs = s.mc.reqs) (id : Nat) : requester t id = requester s id := by
  rw [requester, requester, h]

@[simp] theorem setRequester_chans (id : Nat) (r : Requester) (s : State) :
    (setRequester id r s).mc.chans = s.mc.chans := by
  unfold setRequester; dsimp only; split <;> rfl

@[simp] theorem setRequester_mem (id : Nat) (r : Requester) (s : State) : (setRequester id r s).mem = s.mem := by
  unfold setRequester; dsimp only; split <;> rfl

theorem setRequester_reqs (id : Nat) (r : Requester) (s : State) :
    (setRequester id r s).mc.reqs = Tab.set s.mc.reqs Requester.reset id r := by
  unfold setRequester; dsimp only; split <;> rfl

/-- A requester replaced: beside the arbiter's table only MEM_RANK of the requester changes. -/
theorem setRequester_only (id : Nat) (r : Requester) (s : State) :
    setRequester id r s =
      { s with regs := (setRequester id r s).regs, mc := { s.mc with reqs := (setRequester id r s).mc.reqs } } := by
  unfold setRequester; dsimp only; split <;> rfl

@[simp] theorem requester_setRequester_same (id : Nat) (r : Requester) (s : State) :
    requester (setRequester id r s) id = r := by
  rw [requester, setRequester_reqs, Tab.get_set_same]

theorem requester_setRequester_ne {id j : Nat} (h : j ≠ id) (r : Requester) (s : State) :
    requester (setRequester id r s) j = requester s j := by
  rw [requester, setRequester_reqs, Tab.get_set_ne _ _ _ _ h, requester]

theorem setRequester_regsBut (id : Nat) (r : Requester) (s : State) :
    RegsBut s (setRequester id r s) [P.MEM_RANK id] := by
  unfold setRequester
  dsimp only
  split
  · exact RegsBut.setF (setMc _ s) _ _ (by simp)
  · exact RegsBut.of_regs rfl _

theorem ArbOnly.setRequester {s t : State} {keys : List Nat} (h : ArbOnly s t keys) (id : Nat) (r : Requester)
    (hk : P.MEM_RANK id ∈ keys := by simp) : ArbOnly s (setRequester id r t) keys := by
  refine h.trans ⟨?_, RegsBut.mono (setRequester_regsBut id r t) (by simpa using hk)⟩
  rw [setRequester_only]

/-! ## Channels -/

@[simp] theorem setChannel_same (c : Fin 4) (x : Channel) (s : State) : (setChannel c x s).mc.chans[c] = x := by
  simp [setChannel]

theorem setChannel_ne {c j : Fin 4} (h : j ≠ c) (x : Channel) (s : State) :
    (setChannel c x s).mc.chans[j] = s.mc.chans[j] := by
  have : c.val ≠ j.val := fun e => h (Fin.ext e.symm)
  simp [setChannel, Vector.getElem_set_ne, this]

@[simp] theorem setChannel_reqs (c : Fin 4) (x : Channel) (s : State) : (setChannel c x s).mc.reqs = s.mc.reqs := rfl
@[simp] theorem setChannel_mem (c : Fin 4) (x : Channel) (s : State) : (setChannel c x s).mem = s.mem := rfl

@[simp] theorem getF_setChannel (c : Fin 4) (x : Channel) (s : State) (key : Nat) (f : Fld) :
    getF (setChannel c x s) key f = getF s key f := rfl

theorem ArbOnly.setChannel {s t : State} {keys : List Nat} (h : ArbOnly s t keys) (c : Fin 4) (x : Channel) :
    ArbOnly s (setChannel c x t) keys := h.beside rfl

/-! ## Ranks and status words -/

@[simp] theorem applyRank_mc (id : Nat) (s : State) : (applyRank id s).mc = s.mc := by
  unfold applyRank; split <;> rfl

@[simp] theorem applyRank_mem (id : Nat) (s : State) : (applyRank id s).mem = s.mem := by
  unfold applyRank; split <;> rfl

theorem applyRank_onlyRegs (id : Nat) (s : State) : OnlyRegs s (applyRank id s) [P.MEM_RANK id] := by
  unfold applyRank
  split
  · exact OnlyRegs.refl _ _
  · exact OnlyRegs.trans (OnlyRegs.setF s _ _ (by simp)) (OnlyRegs.setF _ _ _ (by simp))

theorem ArbOnly.applyRank {s t : State} {keys : List Nat} (h : ArbOnly s t keys) (id : Nat)
    (hk : P.MEM_RANK id ∈ keys := by simp) : ArbOnly s (applyRank id t) keys :=
  h.trans ((ArbOnly.of_regs (applyRank_onlyRegs id t)).mono (by simpa using hk))

@[simp] theorem noteGrant_mc (c : Fin 4) (id : Nat) (b : Bool) (s : State) : (noteGrant c id b s).mc = s.mc := by
  unfold noteGrant; dsimp only; split <;> rfl

@[simp] theorem noteGrant_mem (c : Fin 4) (id : Nat) (b : Bool) (s : State) : (noteGrant c id b s).mem = s.mem := by
  unfold noteGrant; dsimp only; split <;> rfl

theorem noteGrant_onlyRegs (c : Fin 4) (id : Nat) (b : Bool) (s : State) :
    OnlyRegs s (noteGrant c id b s) [P.MEM_ARB_STAT c] := by
  unfold noteGrant
  dsimp only
  split
  · exact OnlyRegs.trans (OnlyRegs.setF s _ _ (by simp)) (OnlyRegs.setF _ _ _ (by simp))
  · exact OnlyRegs.setF s _ _ (by simp)

theorem ArbOnly.noteGrant {s t : State} {keys : List Nat} (h : ArbOnly s t keys) (c : Fin 4) (id : Nat) (b : Bool)
    (hk : P.MEM_ARB_STAT c ∈ keys := by simp) : ArbOnly s (noteGrant c id b t) keys :=
  h.trans ((ArbOnly.of_regs (noteGrant_onlyRegs c id b t)).mono (by simpa using hk))

@[simp] theorem noteOwner_mc (c : Fin 4) (s : State) : (noteOwner c s).mc = s.mc := by
  unfold noteOwner; dsimp only; split <;> rfl

@[simp] theorem noteOwner_mem (c : Fin 4) (s : State) : (noteOwner c s).mem = s.mem := by
  unfold noteOwner; dsimp only; split <;> rfl

theorem noteOwner_onlyRegs (c : Fin 4) (s : State) : OnlyRegs s (noteOwner c s) [P.MEM_ARB_STAT c] := by
  unfold noteOwner
  dsimp only
  split
  · exact OnlyRegs.setF s _ _ (by simp)
  · exact OnlyRegs.trans (OnlyRegs.setF s _ _ (by simp)) (OnlyRegs.setF _ _ _ (by simp))

theorem ArbOnly.noteOwner {s t : State} {keys : List Nat} (h : ArbOnly s t keys) (c : Fin 4)
    (hk : P.MEM_ARB_STAT c ∈ keys := by simp) : ArbOnly s (noteOwner c t) keys :=
  h.trans ((ArbOnly.of_regs (noteOwner_onlyRegs c t)).mono (by simpa using hk))

/-- The id last granted, and the count of arbitrated grants, of a channel. -/
def lastId (s : State) (c : Fin 4) : Nat := getF s (P.MEM_ARB_STAT c) F.MEM_ARB_STAT_last_id
def grantCount (s : State) (c : Fin 4) : Nat := getF s (P.MEM_ARB_STAT c) F.MEM_ARB_STAT_grant_count

theorem lastId_noteGrant (c : Fin 4) (id : Nat) (b : Bool) (s : State) : lastId (noteGrant c id b s) c = id % 32 := by
  unfold noteGrant lastId
  dsimp only
  split
  · rw [getF_setF_other, getF_setF_self] <;> rfl
  · rw [getF_setF_self] <;> rfl

theorem grantCount_noteGrant (c : Fin 4) (id : Nat) (b : Bool) (s : State) :
    grantCount (noteGrant c id b s) c = if b then (grantCount s c + 1) % 65536 else grantCount s c := by
  unfold noteGrant grantCount
  dsimp only
  split
  · rw [getF_setF_self, getF_setF_other] <;> rfl
  · exact getF_setF_other _ _ _ _ _ rfl

theorem lastId_noteOwner (c : Fin 4) (s : State) : lastId (noteOwner c s) c = lastId s c := by
  unfold noteOwner lastId
  dsimp only
  split
  · exact getF_setF_other _ _ _ _ _ rfl
  · rw [getF_setF_other, getF_setF_other] <;> rfl

theorem grantCount_noteOwner (c : Fin 4) (s : State) : grantCount (noteOwner c s) c = grantCount s c := by
  unfold noteOwner grantCount
  dsimp only
  split
  · exact getF_setF_other _ _ _ _ _ rfl
  · rw [getF_setF_other, getF_setF_other] <;> rfl

/-- MEM_ARB_STAT of a channel is no requester's MEM_RANK. -/
theorem arbStat_ne_rank (c : Fin 4) (id : Nat) : P.MEM_ARB_STAT c ≠ P.MEM_RANK id := by
  simp only [P.MEM_ARB_STAT, P.MEM_RANK]; omega

/-- MEM_ARB_STAT's fields are the same where the register is. -/
theorem lastId_congr {s t : State} {c : Fin 4} (h : getReg t (P.MEM_ARB_STAT c) = getReg s (P.MEM_ARB_STAT c)) :
    lastId t c = lastId s c := by rw [lastId, lastId, getF, getF, h]
theorem grantCount_congr {s t : State} {c : Fin 4} (h : getReg t (P.MEM_ARB_STAT c) = getReg s (P.MEM_ARB_STAT c)) :
    grantCount t c = grantCount s c := by rw [grantCount, grantCount, getF, getF, h]

/-! ## Serving -/

@[simp] theorem land_chans (id : Nat) (r : MemReq) (s : State) : (land id r s).mc.chans = s.mc.chans := by
  unfold land
  split
  · rfl
  · exact setRequester_chans _ _ _

@[simp] theorem land_mem (id : Nat) (r : MemReq) (s : State) : (land id r s).mem = s.mem := by
  unfold land
  split
  · rfl
  · exact setRequester_mem _ _ _

theorem land_unparked {r : MemReq} (h : r.tag < parkTag) (id : Nat) (s : State) : land id r s = s := if_pos h

/-- A served request that was parked is there for its unit to take up. -/
theorem land_parked {r : MemReq} (h : parkTag ≤ r.tag) (id : Nat) (s : State) :
    requester (land id r s) id = { requester s id with landed := (requester s id).landed ++ [r] } := by
  rw [land, if_neg (by omega)]
  exact requester_setRequester_same _ _ _

theorem requester_land_ne {id j : Nat} (h : j ≠ id) (r : MemReq) (s : State) :
    requester (land id r s) j = requester s j := by
  unfold land
  split
  · rfl
  · exact requester_setRequester_ne h _ _

theorem land_regsBut (id : Nat) (r : MemReq) (s : State) :
    RegsBut s (land id r s) (if r.tag < parkTag then [] else [P.MEM_RANK id]) := by
  unfold land
  split
  · exact RegsBut.refl _ _
  · exact setRequester_regsBut _ _ _

theorem ArbOnly.land {s t : State} {keys : List Nat} (h : ArbOnly s t keys) (id : Nat) (r : MemReq)
    (hk : P.MEM_RANK id ∈ keys := by simp) : ArbOnly s (land id r t) keys :=
  .ite (fun _ => h) fun _ => h.setRequester id _ hk

/-- The reads under way on a channel once it has served a request of requester id. -/
def flightsAfter (id : Nat) (r : MemReq) (s : State) (fs : List Flight) : List Flight :=
  match r.data with
  | some _ => fs
  | none => fs ++ [⟨id, r.addr, s.readBytes (r.addr - r.addr % 64) 64, false, r.lock, r.tag⟩]

/-- Memory once an access at address a has been served: a write of bytes, or a read. -/
def memAfter (a : Nat) (data : Option (List Byte)) (m : List Host.Cell) : List Host.Cell :=
  match data with
  | some bs => Memory.writeBytes m a bs
  | none => m

theorem serve_chans (c : Fin 4) (id : Nat) (r : MemReq) (s : State) : (serve c id r s).mc.chans =
    s.mc.chans.set c { s.mc.chans[c] with flights := flightsAfter id r s s.mc.chans[c].flights } := by
  cases hd : r.data with
  | some bs =>
    simp only [serve, flightsAfter, hd, land_chans, State.writeBytes]
    exact (Vector.set_getElem_self _).symm
  | none =>
    simp only [serve, flightsAfter, hd, setChannel, State.draw, setMc_mc]

theorem serve_mem (c : Fin 4) (id : Nat) (r : MemReq) (s : State) :
    (serve c id r s).mem = memAfter r.addr r.data s.mem := by
  cases hd : r.data with
  | some bs => simp only [serve, memAfter, hd, land_mem, State.writeBytes]
  | none => simp only [serve, memAfter, hd, State.draw, setChannel_mem]

theorem serve_requester_ne {id j : Nat} (h : j ≠ id) (c : Fin 4) (r : MemReq) (s : State) :
    requester (serve c id r s) j = requester s j := by
  unfold serve
  split
  · exact requester_land_ne h _ _
  · rfl

theorem serve_requester_unparked {r : MemReq} (h : r.tag < parkTag) (c : Fin 4) (id : Nat) (s : State) :
    requester (serve c id r s) id = requester s id := by
  unfold serve
  split
  · rw [land_unparked h]; rfl
  · rfl

theorem ArbOnly.serve {s t : State} {keys : List Nat} (h : ArbOnly s t keys) (c : Fin 4) (id : Nat) (r : MemReq)
    (hk : P.MEM_RANK id ∈ keys := by simp) : ArbOnly s (serve c id r t) keys := by
  unfold Machine.serve
  split
  · exact (h.beside (u := t.writeBytes _ _) rfl).land id r hk
  · exact h.beside rfl

@[simp] theorem dequeue_chans (id c : Nat) (s : State) : (dequeue id c s).mc.chans = s.mc.chans :=
  setRequester_chans _ _ _
@[simp] theorem dequeue_mem (id c : Nat) (s : State) : (dequeue id c s).mem = s.mem := setRequester_mem _ _ _

theorem dequeue_requester_same (id c : Nat) (s : State) : requester (dequeue id c s) id =
    (requester s id).holding (dropFirst c (requester s id).waiting) := requester_setRequester_same _ _ _

theorem dequeue_requester_ne {id j : Nat} (h : j ≠ id) (c : Nat) (s : State) :
    requester (dequeue id c s) j = requester s j := requester_setRequester_ne h _ _

/-! ## A grant -/

/-- The channel's owner after a grant of a request of requester id: the debug port's leaves it. -/
def ownerAfter (id : Nat) (r : MemReq) (old : Option Nat) : Option Nat :=
  if id = 31 then old else if r.lock then some id else none

/-- What a grant of channel c to requester id, which serves request r, makes of the state. -/
structure Grants (c : Fin 4) (id : Nat) (arbitrated : Bool) (r : MemReq) (s t : State) : Prop where
  only : ArbOnly s t [P.MEM_RANK id, P.MEM_ARB_STAT c]
  mem : t.mem = memAfter r.addr r.data s.mem
  last : lastId t c = id % 32
  count : grantCount t c = if arbitrated then (grantCount s c + 1) % 65536 else grantCount s c
  others : ∀ j, j ≠ id → requester t j = requester s j
  own : r.tag < parkTag → requester t id = (requester s id).holding (dropFirst c (requester s id).waiting)
  chan : ∃ held u, t.mc.chans = s.mc.chans.set c { s.mc.chans[c] with
    flights := flightsAfter id r u s.mc.chans[c].flights
    owner := ownerAfter id r s.mc.chans[c].owner
    held := held }

theorem Grants.chan_eq {c : Fin 4} {id : Nat} {b : Bool} {r : MemReq} {s t : State} (h : Grants c id b r s t) :
    ∃ held u, t.mc.chans[c] = { s.mc.chans[c] with
      flights := flightsAfter id r u s.mc.chans[c].flights
      owner := ownerAfter id r s.mc.chans[c].owner
      held := held } := by
  obtain ⟨held, u, e⟩ := h.chan
  exact ⟨held, u, by rw [e]; simp⟩

/-- The first part of a grant: the request served and noted. -/
def servedAs (c : Fin 4) (id : Nat) (r : MemReq) (arbitrated : Bool) (s : State) : State :=
  noteGrant c id arbitrated (serve c id r (dequeue id c (if arbitrated then pmcEvent (0x010 + id) 0 1 s else s)))

/-- The second part: the channel's owner, and its requester's rank once no locked sequence stands. -/
def owned (c : Fin 4) (id : Nat) (r : MemReq) (clocks : Nat) (s : State) : State :=
  let x := s.mc.chans[c]
  let t := noteOwner c (setChannel c { x with
    owner := if r.lock then some id else none
    held := if r.lock then (if x.owner.isSome then x.held + clocks else clocks) else 0 } s)
  if r.lock then t else applyRank id t

theorem grant_some {c : Fin 4} {id : Nat} {s : State} {r : MemReq} (h : oldest s id c = some r) (clocks : Nat)
    (arbitrated : Bool) : grant c id clocks arbitrated s =
      if id = 31 then servedAs c id r arbitrated s else owned c id r clocks (servedAs c id r arbitrated s) := by
  unfold grant
  rw [h]
  rfl

/-- What serving a request leaves: a grant without its word on the channel's owner. -/
theorem servedAs_grants {c : Fin 4} {id : Nat} {r : MemReq} {arbitrated : Bool} {s : State} :
    let t := servedAs c id r arbitrated s
    (ArbOnly s t [P.MEM_RANK id, P.MEM_ARB_STAT c] ∧ t.mem = memAfter r.addr r.data s.mem ∧ lastId t c = id % 32 ∧
      grantCount t c = if arbitrated then (grantCount s c + 1) % 65536 else grantCount s c) ∧
    (∀ j, j ≠ id → requester t j = requester s j) ∧
    (r.tag < parkTag → requester t id = (requester s id).holding (dropFirst c (requester s id).waiting)) ∧
    ∃ u, t.mc.chans = s.mc.chans.set c { s.mc.chans[c] with flights := flightsAfter id r u s.mc.chans[c].flights } := by
  intro t
  let a := if arbitrated then pmcEvent (0x010 + id) 0 1 s else s
  have ha : a = { s with pmc := a.pmc } := by unfold a; split <;> rfl
  have hmc : a.mc = s.mc := by rw [ha]
  have hreq : ∀ j, requester a j = requester s j := requester_congr (by rw [hmc])
  let b := serve c id r (dequeue id c a)
  have hb : ArbOnly a b [P.MEM_RANK id] := ((ArbOnly.refl a _).setRequester id _).serve c id r
  have hab : ArbOnly s b [P.MEM_RANK id] := (ArbOnly.beside (ArbOnly.refl s _) (by rw [ha])).trans hb
  have hsame : getReg b (P.MEM_ARB_STAT c) = getReg s (P.MEM_ARB_STAT c) :=
    hab.regs _ (by simpa using arbStat_ne_rank c id)
  have ht : t = noteGrant c id arbitrated b := rfl
  refine ⟨⟨?_, ?_, ?_, ?_⟩, fun j hj => ?_, fun hp => ?_, dequeue id c a, ?_⟩
  · exact (hab.mono (by simp)).noteGrant c id arbitrated
  · rw [ht, noteGrant_mem, serve_mem, dequeue_mem, ha]
  · rw [ht, lastId_noteGrant]
  · rw [ht, grantCount_noteGrant, grantCount_congr hsame]
  · rw [ht, requester_congr (congrArg _ (noteGrant_mc ..)), serve_requester_ne hj, dequeue_requester_ne hj, hreq]
  · rw [ht, requester_congr (congrArg _ (noteGrant_mc ..)), serve_requester_unparked hp, dequeue_requester_same, hreq]
  · rw [ht, noteGrant_mc, serve_chans, dequeue_chans, hmc]

theorem owned_only (c : Fin 4) (id : Nat) (r : MemReq) (clocks : Nat) (s : State) :
    ArbOnly s (owned c id r clocks s) [P.MEM_RANK id, P.MEM_ARB_STAT c] := by
  have hn : ∀ x, ArbOnly s (noteOwner c (setChannel c x s)) [P.MEM_RANK id, P.MEM_ARB_STAT c] := fun x =>
    ((ArbOnly.refl s _).setChannel c x).noteOwner c
  exact .ite (fun _ => hn _) fun _ => (hn _).applyRank id

theorem owned_mc (c : Fin 4) (id : Nat) (r : MemReq) (clocks : Nat) (s : State) : ∃ held,
    (owned c id r clocks s).mc = { s.mc with
      chans := s.mc.chans.set c { s.mc.chans[c] with owner := if r.lock then some id else none, held := held } } := by
  unfold owned
  dsimp only
  split
  · exact ⟨_, noteOwner_mc c _⟩
  · exact ⟨_, (applyRank_mc id _).trans (noteOwner_mc c _)⟩

theorem owned_mem (c : Fin 4) (id : Nat) (r : MemReq) (clocks : Nat) (s : State) :
    (owned c id r clocks s).mem = s.mem := by
  unfold owned
  dsimp only
  split <;> simp

theorem owned_status (c : Fin 4) (id : Nat) (r : MemReq) (clocks : Nat) (s : State) :
    lastId (owned c id r clocks s) c = lastId s c ∧ grantCount (owned c id r clocks s) c = grantCount s c := by
  have hr : ∀ t, getReg (applyRank id t) (P.MEM_ARB_STAT c) = getReg t (P.MEM_ARB_STAT c) := fun t =>
    (applyRank_onlyRegs id t).2 _ (by simpa using arbStat_ne_rank c id)
  unfold owned
  dsimp only
  split
  · exact ⟨lastId_noteOwner c _, grantCount_noteOwner c _⟩
  · exact ⟨(lastId_congr (hr _)).trans (lastId_noteOwner c _), (grantCount_congr (hr _)).trans (grantCount_noteOwner c _)⟩

/-- A grant of a requester's oldest request for the channel. -/
theorem grant_grants {c : Fin 4} {id : Nat} {s : State} {r : MemReq} (h : oldest s id c = some r) (clocks : Nat)
    (arbitrated : Bool) : Grants c id arbitrated r s (grant c id clocks arbitrated s) := by
  rw [grant_some h]
  obtain ⟨⟨honly, hmem, hlast, hcount⟩, hothers, hown, u, hchans⟩ :=
    servedAs_grants (c := c) (id := id) (r := r) (arbitrated := arbitrated) (s := s)
  by_cases hd : id = 31
  · rw [if_pos hd]
    exact ⟨honly, hmem, hlast, hcount, hothers, hown, s.mc.chans[c].held, u, by rw [hchans, ownerAfter, if_pos hd]⟩
  · rw [if_neg hd]
    obtain ⟨held, hmc⟩ := owned_mc c id r clocks (servedAs c id r arbitrated s)
    obtain ⟨hl, hc⟩ := owned_status c id r clocks (servedAs c id r arbitrated s)
    have hreq : ∀ j, requester (owned c id r clocks (servedAs c id r arbitrated s)) j =
        requester (servedAs c id r arbitrated s) j := requester_congr (by rw [hmc])
    refine ⟨honly.trans (owned_only ..), (owned_mem ..).trans hmem, hl.trans hlast, hc.trans hcount,
      fun j hj => (hreq j).trans (hothers j hj), fun hp => (hreq id).trans (hown hp), held, u, ?_⟩
    rw [hmc, hchans, ownerAfter, if_neg hd]
    simp

end Sys2Proof.Machine
end

section
/-! SUPPORT. Which request a slot goes to, and the slot boundary of a channel (R42 to R46). -/
namespace Sys2Proof.Machine

/-! ## Picking -/

/-- What is picked is of the list, and nothing of the list is better by a measure that beating respects. -/
theorem pickBy_best {beats : Nat → Nat → Bool} {worse : Nat → Nat → Prop} (hr : ∀ x, worse x x)
    (ht : ∀ x y z, worse x y → worse y z → worse x z) (hb : ∀ x y, beats y x = true → worse x y)
    (hn : ∀ x y, beats y x = false → worse y x) :
    ∀ {l : List Nat} {x : Nat}, pickBy beats l = some x → x ∈ l ∧ ∀ y ∈ l, worse y x := by
  have key : ∀ (l : List Nat) (b : Nat),
      let r := l.foldl (fun b y => if beats y b then y else b) b
      (r = b ∨ r ∈ l) ∧ worse b r ∧ ∀ y ∈ l, worse y r := by
    intro l
    induction l with
    | nil => intro b; exact ⟨.inl rfl, hr b, by simp⟩
    | cons a l ih =>
      intro b
      simp only [List.foldl_cons, List.mem_cons, forall_eq_or_imp]
      cases h : beats a b with
      | true =>
        obtain ⟨hmem, hw, hall⟩ := ih a
        exact ⟨.inr hmem, ht _ _ _ (hb b a h) hw, hw, hall⟩
      | false =>
        obtain ⟨hmem, hw, hall⟩ := ih b
        exact ⟨hmem.imp_right .inr, hw, ht _ _ _ (hn b a h) hw, hall⟩
  intro l x h
  cases l with
  | nil => exact nomatch h
  | cons a l =>
    obtain ⟨hmem, hw, hall⟩ := key l a
    obtain rfl := Option.some.inj h
    exact ⟨List.mem_cons.2 hmem, by simpa using ⟨hw, hall⟩⟩

theorem pickBy_isSome (beats : Nat → Nat → Bool) {l : List Nat} (h : l ≠ []) : ∃ x, pickBy beats l = some x := by
  cases l with
  | nil => exact absurd rfl h
  | cons a l => exact ⟨_, rfl⟩

theorem pickFair_isSome {s : State} {c : Nat} (h : contenders s c ≠ []) : ∃ id, pickFair s c = some id :=
  pickBy_isSome _ h

theorem pickRank_isSome {s : State} {c : Nat} (last : Nat) (h : contenders s c ≠ []) :
    ∃ id, pickRank s c last = some id := pickBy_isSome _ h

/-- The fair pick has waited longest. -/
theorem pickFair_longest {s : State} {c id : Nat} (h : pickFair s c = some id) :
    id ∈ contenders s c ∧ ∀ j ∈ contenders s c, sinceOf s c id ≤ sinceOf s c j :=
  pickBy_best (worse := fun x y => sinceOf s c y ≤ sinceOf s c x) (fun _ => le_rfl) (fun _ _ _ h1 h2 => h2.trans h1)
    (fun _ _ h => (of_decide_eq_true h).le) (fun _ _ h => not_lt.1 (of_decide_eq_false h)) h

/-- The pick by rank has the highest effective rank. -/
theorem pickRank_highest {s : State} {c last id : Nat} (h : pickRank s c last = some id) :
    id ∈ contenders s c ∧ ∀ j ∈ contenders s c, effRank s j ≤ effRank s id := by
  refine pickBy_best (worse := fun x y => effRank s x ≤ effRank s y) (fun _ => le_rfl) (fun _ _ _ h1 h2 => h1.trans h2)
    (fun x y h => ?_) (fun x y h => ?_) h
  · simp only [Bool.or_eq_true, Bool.and_eq_true, decide_eq_true_eq] at h
    omega
  · simp only [Bool.or_eq_false_iff, decide_eq_false_iff_not] at h
    omega

theorem mem_contenders {s : State} {c id : Nat} : id ∈ contenders s c ↔ id < 17 ∧ ∃ r, oldest s id c = some r := by
  simp [contenders, Option.isSome_iff_exists]

/-! ## A refresh -/

/-- A refresh serves one that is owed, and no request. -/
theorem refresh_spec (c : Fin 4) (s : State) :
    lastId (refresh c s) c = 30 ∧ grantCount (refresh c s) c = grantCount s c ∧
    (refresh c s).mc.reqs = s.mc.reqs ∧ (refresh c s).mc.chans[c].owed = s.mc.chans[c].owed - 1 ∧
    (refresh c s).mc.chans[c].fair = s.mc.chans[c].fair := by
  unfold refresh
  refine ⟨lastId_noteGrant .., grantCount_noteGrant .., ?_, ?_, ?_⟩ <;> simp [setChannel]

/-! ## An arbitrated grant -/

/-- With someone contending the arbitrated grant goes to one contender, for fairness or by rank. -/
theorem arbitrate_grants {c : Fin 4} {s : State} (clocks : Nat) (h : contenders s c ≠ []) :
    ∃ id r x, id ∈ contenders s c ∧ oldest s id c = some r ∧
      Grants c id true r (setChannel c x s) (arbitrate c clocks s) ∧
      x = { s.mc.chans[c] with fair := x.fair, lastPick := x.lastPick } ∧
      (getF s P.MEM_ARB_CFG F.MEM_ARB_CFG_n ≤ s.mc.chans[c].fair + 1 →
        x.fair = 0 ∧ ∀ j ∈ contenders s c, sinceOf s c id ≤ sinceOf s c j) ∧
      (s.mc.chans[c].fair + 1 < getF s P.MEM_ARB_CFG F.MEM_ARB_CFG_n →
        x.fair = s.mc.chans[c].fair + 1 ∧ ∀ j ∈ contenders s c, effRank s j ≤ effRank s id) := by
  by_cases hn : getF s P.MEM_ARB_CFG F.MEM_ARB_CFG_n ≤ s.mc.chans[c].fair + 1
  · obtain ⟨id, hid⟩ := pickFair_isSome h
    obtain ⟨hmem, hbest⟩ := pickFair_longest hid
    obtain ⟨r, hr⟩ := (mem_contenders.1 hmem).2
    refine ⟨id, r, { s.mc.chans[c] with fair := 0 }, hmem, hr, ?_, rfl, fun _ => ⟨rfl, hbest⟩, fun h => by omega⟩
    rw [arbitrate, if_pos hn, hid]
    exact grant_grants (s := setChannel c _ s) hr clocks true
  · obtain ⟨id, hid⟩ := pickRank_isSome s.mc.chans[c].lastPick h
    obtain ⟨hmem, hbest⟩ := pickRank_highest hid
    obtain ⟨r, hr⟩ := (mem_contenders.1 hmem).2
    refine ⟨id, r, { s.mc.chans[c] with fair := s.mc.chans[c].fair + 1, lastPick := id }, hmem, hr, ?_, rfl,
      fun h => absurd h hn, fun _ => ⟨rfl, hbest⟩⟩
    rw [arbitrate, if_neg hn, hid]
    exact grant_grants (s := setChannel c _ s) hr clocks true

/-! ## A slot -/

theorem slot_emergency {c : Fin 4} {s : State} (clocks : Nat) (h : s.mc.chans[c].emergency = true) :
    slot c clocks s = refresh c s := by
  simp only [slot, h, if_true]

section
variable {c : Fin 4} {s : State} (clocks : Nat) (he : s.mc.chans[c].emergency = false)
include he

theorem slot_debug (h : (oldest s 31 c).isSome = true) : slot c clocks s = grant c 31 clocks false s := by
  simp only [slot, he, h, Bool.false_eq_true, if_false, if_true]

variable (hd : oldest s 31 c = none)
include hd

theorem slot_owner {id : Nat} (ho : s.mc.chans[c].owner = some id) : slot c clocks s =
    if (oldest s id c).isSome then grant c id clocks false s
    else setChannel c { s.mc.chans[c] with held := s.mc.chans[c].held + clocks } s := by
  simp only [slot, he, hd, ho, Option.isSome_none, Bool.false_eq_true, if_false]

theorem slot_free (ho : s.mc.chans[c].owner = none) : slot c clocks s =
    if contenders s c ≠ [] then arbitrate c clocks s
    else if 0 < s.mc.chans[c].owed then refresh c s else s := by
  simp only [slot, he, hd, ho, Option.isSome_none, Bool.false_eq_true, if_false]

end

/-! ## What follows a slot -/

/-- From s to t the arbiters are as they were, and MEM_ARB_STAT with them. -/
structure ArbSame (s t : State) : Prop where
  mc : t.mc = s.mc
  status : ∀ c : Fin 4, getReg t (P.MEM_ARB_STAT c) = getReg s (P.MEM_ARB_STAT c)

theorem ArbSame.refl (s : State) : ArbSame s s := ⟨rfl, fun _ => rfl⟩

theorem ArbSame.trans {s t u : State} (h1 : ArbSame s t) (h2 : ArbSame t u) : ArbSame s u :=
  ⟨h2.mc.trans h1.mc, fun c => (h2.status c).trans (h1.status c)⟩

theorem ArbSame.foldl {α : Type} {f : State → α → State} (hf : ∀ t x, ArbSame t (f t x)) (xs : List α) (s : State) :
    ArbSame s (xs.foldl f s) :=
  List.foldlRecOn (motive := ArbSame s) xs f (.refl s) fun t h x _ => h.trans (hf t x)

theorem ArbSame.settleWb (d : Fin 4) (n : Nat) (s : State) : ArbSame s (settleWb d n s) := by
  induction n generalizing s with
  | zero => exact .refl s
  | succ n ih =>
    unfold Machine.settleWb
    split
    · split
      · exact .refl s
      · refine ArbSame.trans (t := setReg (setClu d _ s) (P.CMP_WB_DONE d) _) ⟨rfl, fun c => ?_⟩ (ih _)
        refine getReg_setReg_ne (setClu d _ s) _ ?_
        simp only [P.MEM_ARB_STAT, P.CMP_WB_DONE]
        omega
    · exact .refl s

theorem ArbSame.freeSlots (d : Fin 4) (x : Nat) (s : State) : ArbSame s (freeSlots d x s) := by
  unfold Machine.freeSlots
  refine .foldl (fun t i => ?_) _ s
  split
  · split
    · exact ⟨rfl, fun _ => rfl⟩
    · exact .refl t
  · exact .refl t

theorem ArbSame.wbFollow (s : State) : ArbSame s (wbFollow s) :=
  .foldl (fun t d => (ArbSame.freeSlots d t.clock t).trans (.settleWb d _ _)) _ s

theorem execArbitration_serves {c : Fin 4} {s : State} (clocks : Nat) (h1 : memServes s = true)
    (h2 : chanReady s c = true) (h3 : inSelfRefresh s = false) :
    execArbitration c clocks s = .next (wbFollow (slot c clocks s)) := by
  simp only [execArbitration, h1, h2, h3, Bool.not_false, Bool.and_self, if_true]

end Sys2Proof.Machine
end

section
/-! THEOREM. Requests enter their queues, and a slot is granted in the order of R46. -/
namespace Sys2Proof.Machine

/-- A requester that takes up a request with room in its queue, or with its port free. -/
theorem holding_append (q : Requester) (r : MemReq) (hport : q.port = none) (hback : q.backlog = [])
    (hlen : q.queue.length ≤ 64) :
    (q.queue.length < 64 → (q.holding (q.waiting ++ [r])).queue = q.queue ++ [r] ∧
      (q.holding (q.waiting ++ [r])).port = none) ∧
    (64 ≤ q.queue.length → (q.holding (q.waiting ++ [r])).queue = q.queue ∧
      (q.holding (q.waiting ++ [r])).port = some r) := by
  have hw : q.waiting ++ [r] = q.queue ++ [r] := by simp [Requester.waiting, hport, hback]
  rw [hw]
  refine ⟨fun h => ⟨List.take_of_length_le (by simpa using h), ?_⟩, fun h => ?_⟩
  · simp only [Requester.holding]
    rw [List.drop_eq_nil_of_le (by simpa using h)]
    rfl
  · have h64 : q.queue.length = 64 := by omega
    exact ⟨List.take_left' h64, by simp only [Requester.holding]; rw [List.drop_left' h64]; rfl⟩

/-- What a request that arrives at its requester's free port makes of the state. -/
theorem execMemoryRequest_issues {id : Fin 32} {a : Nat} {data : Option (List Byte)} (lock : Bool) (now : Nat)
    {s : State} (hp : s.powered 36 = true) (hid : isRequester id = true) (hport : (requester s id).port = none)
    (ha : a < s.dramSize) (hf : foreignWrite id a data s = false)
    (ho : (requester s id).opened = none ∨ (requester s id).opened = some (chanOf s a)) :
    execMemoryRequest id a data lock now s = .next (issue id ⟨a, data, lock, chanOf s a, now, 0⟩ s) := by
  simp only [execMemoryRequest, hp, hid, hport, hf, Nat.not_le.2 ha, Option.isSome_none, Bool.not_true, Bool.or_false,
    Bool.false_eq_true, if_false]
  rcases ho with ho | ho <;> simp only [ho, if_true]

/-- Settles O27: a request is issued, and a slot boundary is one of its branches, each a refresh or a grant. -/
theorem requestsAndGrants : Obligations.RequestsAndGrants := by
  unfold Obligations.RequestsAndGrants
  refine ⟨?_, ?_⟩
  · intro id a data lock now s
    dsimp only
    intro hp hid hport hback hlen ha hf ho
    obtain ⟨hroom, hfull⟩ := holding_append _ ⟨a, data, lock, chanOf s a, now, 0⟩ hport hback hlen
    refine ⟨issue id ⟨a, data, lock, chanOf s a, now, 0⟩ s, execMemoryRequest_issues lock now hp hid hport ha hf ho,
      setRequester_only .., setRequester_regsBut _ _ _, fun j hj => requester_setRequester_ne hj _ _, ?_, ?_, ?_⟩
    all_goals rw [issue, requester_setRequester_same]
    · exact hroom
    · exact hfull
  · intro c clocks s h1 h2 h3
    obtain ⟨hmc, hstatus⟩ := ArbSame.wbFollow (slot c clocks s)
    refine ⟨_, execArbitration_serves clocks h1 h2 h3, ?_⟩
    dsimp only
    rw [hmc, getF, getF, hstatus c]
    refine ⟨fun he => ?_, fun he hd => ?_, fun id hid he hd ho => ⟨fun r hr => ?_, fun hr => ?_⟩, fun he hd ho hc => ?_,
      fun he hd ho hc howed => ?_⟩
    · rw [slot_emergency clocks he]
      obtain ⟨hl, hn, hr, ho, hfair⟩ := refresh_spec c s
      exact ⟨hl, ho, hfair, hr, hn⟩
    · rw [slot_debug clocks he hd]
      obtain ⟨r, hr⟩ := Option.isSome_iff_exists.1 hd
      have hg := grant_grants hr clocks false
      obtain ⟨held, u, hx⟩ := hg.chan_eq
      exact ⟨hg.last, by rw [hx], by rw [hx]; rfl, hg.count⟩
    · rw [slot_owner clocks he hd ho, hr]
      have hg := grant_grants hr clocks false
      obtain ⟨held, u, hx⟩ := hg.chan_eq
      refine ⟨hg.last.trans (Nat.mod_eq_of_lt (by omega)), hg.count, by simp only [Option.isSome_some, if_true, hx], ?_⟩
      simp only [Option.isSome_some, if_true, hx]
      exact if_neg (by omega)
    · rw [slot_owner clocks he hd ho, hr]
      exact ⟨rfl, (congrArg Channel.owner (setChannel_same _ _ _)).trans ho, rfl⟩
    · rw [slot_free clocks he hd ho, if_pos hc]
      obtain ⟨id, r, x, hmem, hr, hg, -, hfair, hrank⟩ := arbitrate_grants clocks hc
      have hid : id < 17 := (mem_contenders.1 hmem).1
      obtain ⟨held, u, hx⟩ := hg.chan_eq
      rw [setChannel_same] at hx
      refine ⟨id, r, hmem, hr, hg.last.trans (Nat.mod_eq_of_lt (by omega)), hg.count, ?_, fun h => ?_, fun h => ?_⟩
      · rw [hx]; exact if_neg (by omega)
      · rw [hx]; exact hfair h
      · rw [hx]; exact hrank h
    · rw [slot_free clocks he hd ho, if_neg (not_not.2 hc), if_pos howed]
      obtain ⟨hl, -, -, ho, -⟩ := refresh_spec c s
      exact ⟨hl, ho⟩

end Sys2Proof.Machine
end

section
/-! SUPPORT. What the capture of a tilt leaves: the arbiters, the floor link, the digest queues, the last signature with the
generator it drew on, and the registers of the memory controller and the floor link. -/
namespace Sys2Proof.Machine

/-- A register of the memory controller, but for the tolerances that clusters declare, or of the floor link. -/
def tiltSpares (key : Nat) : Prop :=
  (0x60000 ≤ key ∧ key < 0x60200) ∨ (0x60300 ≤ key ∧ key < 0x60400) ∨ (0xC0000 ≤ key ∧ key < 0xD0000)

/-- From s to t the arbiters, the floor link, the digest queues, the last signature with the generator it drew on, and the
tilt latch are as they were, and the registers of the memory controller and the floor link. -/
structure Spared (s t : State) : Prop where
  mc : t.mc = s.mc
  flr : t.flr = s.flr
  tilt : t.tilt = s.tilt
  exports : ∀ d : Fin 4, t.clu[d].export_ = s.clu[d].export_
  sig : t.sec.sig = s.sec.sig
  mgmt : t.sec.mgmt = s.sec.mgmt
  regs : ∀ key, tiltSpares key → getReg t key = getReg s key

theorem Spared.refl (s : State) : Spared s s := ⟨rfl, rfl, rfl, fun _ => rfl, rfl, rfl, fun _ _ => rfl⟩

theorem timingPort_not_spared : ∀ d : Fin 4, ∀ i : Fin 5, ¬tiltSpares (timingPort d i) := by
  unfold tiltSpares; decide

section
variable {s t : State} (h : Spared s t)
include h

theorem Spared.trans {u : State} (h2 : Spared t u) : Spared s u :=
  ⟨h2.mc.trans h.mc, h2.flr.trans h.flr, h2.tilt.trans h.tilt, fun d => (h2.exports d).trans (h.exports d),
    h2.sig.trans h.sig, h2.mgmt.trans h.mgmt, fun key hk => (h2.regs key hk).trans (h.regs key hk)⟩

/-- A write of a register that is not spared, by setReg or through setF or addF. -/
theorem Spared.setReg {key : Nat} (v : Word) (hk : ¬tiltSpares key := by
      simp only [tiltSpares, own, P.SYS_TILT_LAST, P.SYS_TILT_TIME_LO, P.SYS_TILT_TIME_HI, P.SYS_TILT, P.SYS_TILT_CNT,
        P.KTL_CTRL, P.EPH_CTRL, P.EPH_STAT, P.SEC_DRBG_PSTAT, P.SEC_DRBG_OUT, P.LDG_STAT, P.LDG_MEV_STAT, P.LDG_BOOTCNT,
        P.CFG_STOP, P.CFG_STAT, P.DSP_CTRL, P.DSP_STAT, P.DSP_TRAIN, P.DSP_LINK, P.CMP_CTRL, P.MEM_LTR_D]
      omega) : Spared s (setReg t key v) :=
  h.trans ⟨rfl, rfl, rfl, fun _ => rfl, rfl, rfl, fun _ hj => getReg_setReg_ne t v (fun e => hk (e ▸ hj))⟩

/-- A change of nothing that is spared. -/
theorem Spared.same {u : State} (hm : u.mc = t.mc) (hf : u.flr = t.flr) (ht : u.tilt = t.tilt) (hc : u.clu = t.clu)
    (hs : u.sec.sig = t.sec.sig) (hg : u.sec.mgmt = t.sec.mgmt) (hr : u.regs = t.regs) : Spared s u :=
  h.trans ⟨hm, hf, ht, fun d => by rw [hc], hs, hg, fun key _ => getReg_congr hr key⟩

theorem Spared.setClu (d : Fin 4) {c : Cluster} (hc : c.export_ = t.clu[d].export_) : Spared s (setClu d c t) := by
  refine h.trans ⟨rfl, rfl, rfl, fun j => ?_, rfl, rfl, fun _ _ => rfl⟩
  by_cases hj : j = d
  · subst hj; rw [setClu_same]; exact hc
  · rw [setClu_ne hj]

theorem Spared.ite {c : Prop} [Decidable c] {u : State} (h2 : Spared s u) : Spared s (if c then t else u) := by
  split
  · exact h
  · exact h2

theorem Spared.fold {α : Type} {f : State → α → State} {xs : List α} (hf : ∀ u x, Spared s u → Spared s (f u x)) :
    Spared s (xs.foldl f t) :=
  List.foldlRecOn (motive := Spared s) xs f h fun u hu x _ => hf u x hu

/-! ## The units on tilt -/

theorem Spared.setLdg (l : Ledger) : Spared s (setLdg l t) := h.same rfl rfl rfl rfl rfl rfl rfl

theorem Spared.withPwr (p : Power) : Spared s { t with pwr := p } := h.same rfl rfl rfl rfl rfl rfl rfl

theorem Spared.withKtl (k : Kettle) : Spared s { t with ktl := k } := h.same rfl rfl rfl rfl rfl rfl rfl

theorem Spared.withSec {x : Trust} (hs : x.sig = t.sec.sig) (hg : x.mgmt = t.sec.mgmt) : Spared s { t with sec := x } :=
  h.same rfl rfl rfl rfl hs hg rfl

theorem Spared.setBeam (d : Fin 4) (b : Beam) : Spared s (setBeam d b t) := h.setClu d rfl

theorem Spared.kettleTilt : Spared s (kettleTilt t) :=
  .ite ((h.setReg (key := P.KTL_CTRL) _).withKtl _) h

theorem Spared.haltCluster (d : Fin 4) : Spared s (haltCluster d t) := ((h.setReg _).setReg _).setClu d rfl

theorem Spared.discardUnread (k : Fin 8) : Spared s (discardUnread k t) := by
  unfold Machine.discardUnread
  exact (((h.setReg _).fold fun u i hu => hu.setReg _).setReg _).withSec rfl rfl

theorem Spared.mevEnd (k result : Nat) : Spared s (mevEnd k result t) := ((h.setReg _).setReg _).setReg _

theorem Spared.logEvent (e : LogEvent) : Spared s (logEvent e t) := .ite ((h.setLdg _).setLdg _) h

theorem Spared.endQueued (result : Nat) : Spared s (endQueued result t) :=
  (((h.fold fun _ e hu => hu.mevEnd e.1 result).setLdg _).setLdg _ |>.setLdg _).fold fun _ x hu => hu.logEvent x.2

theorem Spared.freezeMeters : Spared s (freezeMeters t) := by
  unfold Machine.freezeMeters
  dsimp only
  split
  · exact ((Spared.ite ((h.setLdg _).mevEnd _ 3) h).endQueued 3).setReg _
  · exact (h.endQueued 3).setReg _

theorem Spared.ledgerTilt (code : Nat) : Spared s (ledgerTilt code t) :=
  .ite h.freezeMeters (h.freezeMeters.logEvent _)

/-! ## The stop of start-up -/

theorem Spared.declareMode (d : Fin 4) (mode : Nat) (refused : Bool) : Spared s (declareMode d mode refused t) :=
  .ite h (.ite (h.setReg _) (.ite (h.setReg _) h))

theorem Spared.modeLive (d : Fin 4) (mode : Nat) : Spared s (modeLive d mode t) :=
  ((Spared.ite ((h.setReg _).setReg _) (h.setReg _)).setBeam d _).declareMode d mode _

theorem Spared.modeWrite (d : Fin 4) (mode : Nat) : Spared s (modeWrite d mode t) :=
  .ite ((h.setBeam d _).modeLive d mode) (h.setBeam d _)

theorem Spared.timingWrite (d : Fin 4) (i : Fin 5) (v : Word) : Spared s (timingWrite d i v t) :=
  .ite ((h.setBeam d _).setReg v (timingPort_not_spared d i)) (h.setBeam d _)

theorem Spared.startTraining (d : Fin 4) : Spared s (startTraining d t) :=
  .ite (h.setReg _) (((((h.setReg _).setBeam d _).withPwr _).setReg _).setReg _)

theorem Spared.loadD0 (ws : List Nat) (edp : Bool) : Spared s (loadD0 ws edp t) :=
  (((h.fold fun _ i hu => hu.timingWrite 0 i _).setReg _).setReg _).setReg _

theorem Spared.stopShows : Spared s (stopShows t) := by
  have hd : Spared s (if t.cfg.verified then Machine.loadD0 (t.cfg.hdr.drop 18) (bit (t.cfg.hdr.getD 24 0) 0) t
      else Machine.setF (Machine.loadD0 stopTiming false t) (P.CMP_CTRL 0) F.CMP_CTRL_out8 1) :=
    .ite (h.loadD0 _ _) ((h.loadD0 _ _).setReg _)
  exact .ite (hd.modeWrite 0 2) (.ite hd (hd.startTraining 0))

theorem Spared.countBoot : Spared s (countBoot t) := .ite (((h.setLdg _).setLdg _).setReg _) h

theorem Spared.bootStop (code sect : Nat) : Spared s (bootStop code sect t) := by
  have h1 : Spared s (Machine.setF (Machine.setReg (Machine.stopShows t) P.CFG_STOP (BitVec.ofNat 32 (code + 256 * sect)))
      P.CFG_STAT F.CFG_STAT_stage 7) := (h.stopShows.setReg _).setReg _
  have h2 := (Spared.ite (c := 4 ≤ code) h1.countBoot h1).logEvent ⟨8, 0, code + 256 * sect, rtcNow t⟩
  exact .ite (.ite (h2.setLdg _) (h2.setLdg _)) h2

theorem Spared.unitsSeeTilt (code : Nat) : Spared s (unitsSeeTilt code t) := by
  have h0 := h.kettleTilt.fold (xs := List.finRange 4) fun _ d hu => hu.haltCluster d
  have h2 := (h0.fold (xs := List.finRange 8) fun _ k hu => hu.discardUnread k).ledgerTilt code
  exact .ite (h2.bootStop 16 0) h2

end

/-- The registers of the latch loaded as it captures a tilt request (R468, R472). -/
def latchLoaded (code : Nat) (s : State) : State :=
  setF (setReg (setReg (setReg s P.SYS_TILT_LAST (BitVec.ofNat 32 (code % 65536 + 65536 * b2n (rasterCode s code))))
    P.SYS_TILT_TIME_LO (BitVec.ofNat 32 s.pwr.rtc.toNat)) P.SYS_TILT_TIME_HI (BitVec.ofNat 32 (s.pwr.rtc.toNat >>> 32)))
    P.SYS_TILT F.SYS_TILT_tilted 1

theorem latchLoaded_spares (code : Nat) (s : State) : Spared s (latchLoaded code s) :=
  (((Spared.refl s).setReg _ |>.setReg _).setReg _).setReg _

theorem captureTilt_eq (code : Nat) (s : State) : captureTilt code s =
    unitsSeeTilt code { latchLoaded code s with tilt := { (latchLoaded code s).tilt with code := some code } } := rfl

/-- A tilt that the latch captures stands in it, and spares what Spared names beside the latch. -/
theorem captureTilt_spares (code : Nat) (s : State) : (captureTilt code s).tilt.code = some code ∧
    Spared { s with tilt := (captureTilt code s).tilt } (captureTilt code s) := by
  have hu := latchLoaded_spares code s
  rw [captureTilt_eq]
  generalize latchLoaded code s = u at hu
  have hv := (Spared.refl { u with tilt := { u.tilt with code := some code } }).unitsSeeTilt code
  exact ⟨congrArg Tilt.code hv.tilt, hv.mc.trans hu.mc, hv.flr.trans hu.flr, rfl,
    fun d => (hv.exports d).trans (hu.exports d), hv.sig.trans hu.sig, hv.mgmt.trans hu.mgmt,
    fun key hk => (hv.regs key hk).trans (hu.regs key hk)⟩

/-- Whatever becomes of a tilt request, it spares what Spared names beside the latch. -/
theorem raiseTilt_spares (code : Nat) (s : State) :
    Spared { s with tilt := (raiseTilt code s).tilt } (raiseTilt code s) := by
  unfold raiseTilt
  split
  · exact Spared.refl s
  split
  · exact (Spared.refl s).setReg _
  · exact (captureTilt_spares code s).2

theorem raiseTilt_mc (code : Nat) (s : State) : (raiseTilt code s).mc = s.mc := (raiseTilt_spares code s).mc

theorem raiseTilt_flr (code : Nat) (s : State) : (raiseTilt code s).flr = s.flr := (raiseTilt_spares code s).flr

theorem raiseTilt_export (code : Nat) (d : Fin 4) (s : State) : (raiseTilt code s).clu[d].export_ = s.clu[d].export_ :=
  (raiseTilt_spares code s).exports d

theorem raiseTilt_sig (code : Nat) (s : State) : (raiseTilt code s).sec.sig = s.sec.sig := (raiseTilt_spares code s).sig

theorem raiseTilt_mgmt (code : Nat) (s : State) : (raiseTilt code s).sec.mgmt = s.sec.mgmt :=
  (raiseTilt_spares code s).mgmt

theorem raiseTilt_reg (code : Nat) {key : Nat} (hk : tiltSpares key) (s : State) :
    getReg (raiseTilt code s) key = getReg s key := (raiseTilt_spares code s).regs key hk

theorem raiseTilt_code {s : State} (code : Nat) (hr : s.pwr.inReset = false) (ht : s.tilt.code = none) :
    (raiseTilt code s).tilt.code = some code := by
  have htilted : s.tilted = false := by simp [State.tilted, ht]
  rw [raiseTilt, if_neg (by simp [hr]), if_neg (by simp [htilted])]
  exact (captureTilt_spares code s).1

end Sys2Proof.Machine
end

section
/-! THEOREM. Refresh, the watchdog, ranks and self-refresh. -/
namespace Sys2Proof.Machine

/-! ## The watchdog -/

/-- The owner that the watchdog has bitten stands in MEM_ARB_STAT (R51). -/
theorem lockOwner_noteOwner_bitten {c : Fin 4} {s : State} (h : s.mc.chans[c].bitten = true) :
    getF (noteOwner c s) (P.MEM_ARB_STAT c) F.MEM_ARB_STAT_lock_owner =
      getF s (P.MEM_ARB_STAT c) F.MEM_ARB_STAT_lock_owner := by
  rw [noteOwner, if_pos h]
  exact getF_setF_other _ _ _ _ _ rfl

/-- The state in which the watchdog has taken channel c from requester id, before it raises tilt. -/
def bittenState (c : Fin 4) (id : Nat) (s : State) : State :=
  let r := requester s id
  let r1 := { r.holding (dropSequence c r.waiting) with
    opened := if released c r.waiting then r.opened else none
    landed := r.landed.filter (fun q => !(q.lock && decide (q.chan = c))) }
  let s2 := setF (setRequester id r1 s) (P.MEM_ARB_STAT c) F.MEM_ARB_STAT_lock_owner id
  setF (applyRank id (noteOwner c (setChannel c { s2.mc.chans[c] with owner := none, held := 0, bitten := true } s2)))
    P.MEM_INT_STAT F.MEM_INT_STAT_wdog 1

theorem execWatchdogBite_bites {c : Fin 4} {id : Nat} {s : State} (ho : s.mc.chans[c].owner = some id)
    (hm : memServes s = true) (hh : getF s P.MEM_WDOG F.MEM_WDOG_limit ≤ s.mc.chans[c].held) :
    execWatchdogBite c s = .next (raiseTilt 0x0101 (bittenState c id s)) := by
  simp only [execWatchdogBite, ho, hm, decide_eq_true hh, Bool.and_self, if_true]
  rfl

theorem bittenState_only (c : Fin 4) (id : Nat) (s : State) :
    ArbOnly s (bittenState c id s) [P.MEM_RANK id, P.MEM_ARB_STAT c, P.MEM_INT_STAT] := by
  unfold bittenState
  exact (((((ArbOnly.refl s _).setRequester id _).setF _ _).setChannel c _).noteOwner c |>.applyRank id).setF _ _

theorem bittenState_spec (c : Fin 4) {id : Nat} (hid : id ≤ 16) (s : State) :
    (bittenState c id s).mc.chans[c].owner = none ∧
    onF (bittenState c id s) P.MEM_INT_STAT F.MEM_INT_STAT_wdog = true ∧
    getF (bittenState c id s) (P.MEM_ARB_STAT c) F.MEM_ARB_STAT_lock_owner = id := by
  have hint : P.MEM_ARB_STAT c ≠ P.MEM_INT_STAT := by simp only [P.MEM_ARB_STAT, P.MEM_INT_STAT]; omega
  unfold bittenState
  refine ⟨?_, onF_setF_self _ _ _ _ rfl, ?_⟩
  · rw [setF_mc, applyRank_mc, noteOwner_mc, setChannel_same]
  · rw [getF_setF_ne _ _ _ _ hint, getF, (applyRank_onlyRegs id _).2 _ (by simpa using arbStat_ne_rank c id)]
    refine (lockOwner_noteOwner_bitten (by rw [setChannel_same])).trans ?_
    rw [getF_setChannel, getF_setF_self _ _ _ _ rfl]
    exact Nat.mod_eq_of_lt (Nat.lt_of_le_of_lt hid (by decide))

/-! ## Ranks -/

theorem rankWrite_spec (id rank : Nat) (hr : rank < 16) (s : State) :
    OnlyRegs s (rankWrite id rank s) [P.MEM_RANK id] ∧
    getF (rankWrite id rank s) (P.MEM_RANK id) F.MEM_RANK_rank = rank ∧
    getF (rankWrite id rank s) (P.MEM_RANK id) F.MEM_RANK_applied_rank =
      if ownsLock s id then getF s (P.MEM_RANK id) F.MEM_RANK_applied_rank else rank := by
  have hset : getF (setF s (P.MEM_RANK id) F.MEM_RANK_rank rank) (P.MEM_RANK id) F.MEM_RANK_rank = rank :=
    (getF_setF_self _ _ _ _ rfl).trans (Nat.mod_eq_of_lt hr)
  refine ⟨OnlyRegs.trans (OnlyRegs.setF s _ _ (by simp)) (applyRank_onlyRegs id _), ?_, ?_⟩
  · unfold rankWrite applyRank
    split
    · exact hset
    · rw [getF_setF_other _ _ _ _ _ rfl, getF_setF_other _ _ _ _ _ rfl]
      exact hset
  · unfold rankWrite applyRank
    rw [show ownsLock (setF s (P.MEM_RANK id) F.MEM_RANK_rank rank) id = ownsLock s id from rfl]
    split
    · exact getF_setF_other _ _ _ _ _ rfl
    · rw [getF_setF_other _ _ _ _ _ rfl, getF_setF_self _ _ _ _ rfl, hset]
      exact Nat.mod_eq_of_lt hr

/-! ## Self-refresh -/

theorem populated_lt (s : State) : populated s < 16 := by
  unfold populated; split <;> omega

/-- The state in which every populated channel has entered self-refresh. -/
def refreshingSelf (s : State) : State :=
  addF (setF (pmcEvent 0x050 0 1 s) P.MEM_SR_STAT F.MEM_SR_STAT_in_sr (populated s)) P.MEM_SR_STAT F.MEM_SR_STAT_entries 1

theorem refreshingSelf_regsBut (s : State) : RegsBut s (refreshingSelf s) [P.MEM_SR_STAT] :=
  RegsBut.trans (RegsBut.setF (pmcEvent 0x050 0 1 s) _ _ (by simp)) (RegsBut.addF _ _ _ (by simp))

theorem refreshingSelf_inSr (s : State) :
    getF (refreshingSelf s) P.MEM_SR_STAT F.MEM_SR_STAT_in_sr = populated s := by
  unfold refreshingSelf addF
  rw [getF_setF_other _ _ _ _ _ rfl, getF_setF_self _ _ _ _ rfl]
  exact Nat.mod_eq_of_lt (populated_lt s)

theorem refreshingSelf_all (s : State) : selfRefreshAll (refreshingSelf s) = true := by
  have hp : populated (refreshingSelf s) = populated s := by
    rw [populated, populated, getF, getF, refreshingSelf_regsBut s P.MEM_CFG (by decide)]
  rw [selfRefreshAll, refreshingSelf_inSr, hp, decide_eq_true rfl]

/-- Settles O28: each command is one state, and what it changes is read off there. -/
theorem refreshAndArbiter : Obligations.RefreshAndArbiter := by
  unfold Obligations.RefreshAndArbiter
  refine ⟨⟨?_, fun c id s hid ho hm hh hr ht => ?_⟩, ⟨fun m id rank s h => ?_, fun m n s h => ?_⟩,
    fun s hm => ⟨?_, ?_⟩⟩
  · intro c due s hm hc
    refine ⟨_, ?_, rfl⟩
    simp only [exec, execRefreshEmergency, hm, hc, Bool.and_self, if_true]
    rfl
  · obtain ⟨ho', hint, hown⟩ := bittenState_spec c hid s
    have hrest := (bittenState_only c id s).rest
    have htilt := raiseTilt_code (s := bittenState c id s) 0x0101 (by rw [hrest]; exact hr) (by rw [hrest]; exact ht)
    refine ⟨_, execWatchdogBite_bites ho hm hh, by rw [raiseTilt_mc]; exact ho', ?_, ?_, htilt⟩
    · rw [onF, raiseTilt_reg _ (by unfold tiltSpares; decide)]; exact hint
    · rw [getF, raiseTilt_reg _ (by simp only [tiltSpares, P.MEM_ARB_STAT]; omega)]; exact hown
  · exact ⟨_, gate_reaches (fun s => .next (rankWrite id.val rank.val s)) h, rankWrite_spec id.val rank.val rank.isLt s⟩
  · refine ⟨_, gate_reaches _ h, OnlyRegs.setReg s _ (by simp), ?_⟩
    rw [getF, getReg_setReg_same]
    simp [Fld.get, bits]
  · intro hi he ha hw hem hs
    refine ⟨refreshingSelf s, ?_, refreshingSelf_inSr s, refreshingSelf_all s, refreshingSelf_regsBut s, rfl⟩
    simp only [exec, execSelfRefreshEntry, hm, hi, he, ha, hw, hem, hs, Bool.not_false, Bool.and_self, if_true]
    rfl
  · intro hs hw
    have hcond : (requestWaits s || !allTolerate s) = true := by simpa using hw
    refine ⟨setF s P.MEM_SR_STAT F.MEM_SR_STAT_in_sr 0, ?_, getF_setF_self _ _ _ _ rfl, OnlyRegs.setF s _ _ (by simp)⟩
    simp only [exec, execSelfRefreshExit, hs, hm, hcond, Bool.and_self, if_true]

end Sys2Proof.Machine
end

section
/-! SUPPORT. Reads delivered, and an access that meets idle arbiters: it comes about at once, and they are idle again. -/
namespace Sys2Proof.Machine

/-! ## A read delivered -/

theorem histMeasure_only (c : Fin 4) (id : Nat) (s : State) (h : Fin 4) :
    histMeasure c id s h = { s with pmc := (histMeasure c id s h).pmc } := by
  unfold histMeasure; dsimp only; split <;> rfl

theorem histMeasures_only (c : Fin 4) (id : Nat) (s : State) :
    (List.finRange 4).foldl (histMeasure c id) s =
      { s with pmc := ((List.finRange 4).foldl (histMeasure c id) s).pmc } := by
  refine List.foldlRecOn (motive := fun t : State => t = { s with pmc := t.pmc }) _ _ rfl fun t ht h _ => ?_
  rw [histMeasure_only, ht]

/-- What the delivery of a channel's first read makes of the state. -/
structure Delivers (c : Fin 4) (f : Flight) (rest : List Flight) (s t : State) : Prop where
  frame : t = { s with mc := t.mc, regs := t.regs, pmc := t.pmc, free := t.free }
  regs : RegsBut s t (if f.tag < parkTag then [] else [P.MEM_RANK f.id])
  delivered : t.mc.delivered = some (f.id, f.addr, f.data)
  chans : t.mc.chans = s.mc.chans.set c { s.mc.chans[c] with flights := rest, link := false }
  served : parkTag ≤ f.tag → ∃ r ∈ (requester t f.id).landed, r.addr = f.addr ∧ r.tag = f.tag
  reqs : f.tag < parkTag → t.mc.reqs = s.mc.reqs

theorem land_rest (id : Nat) (r : MemReq) (s : State) :
    land id r s = { s with regs := (land id r s).regs, mc := { s.mc with reqs := (land id r s).mc.reqs } } := by
  unfold land
  split
  · rfl
  · exact setRequester_only _ _ _

theorem deliver_delivers (c : Fin 4) (f : Flight) (rest : List Flight) (s : State) :
    Delivers c f rest s (deliver c f rest s) := by
  let s0 := ((List.finRange 4).foldl (histMeasure c f.id) s).draw
  have h0 : s0 = { s with pmc := s0.pmc, free := s0.free } := by
    unfold s0; rw [histMeasures_only]; rfl
  let s1 := setMc { s0.mc with
    chans := s0.mc.chans.set c { s0.mc.chans[c] with flights := rest, link := false }
    delivered := some (f.id, f.addr, f.data) } s0
  have hs : deliver c f rest s = land f.id ⟨f.addr, none, f.lock, c, 0, f.tag⟩ s1 := rfl
  have hl := land_rest f.id ⟨f.addr, none, f.lock, c, 0, f.tag⟩ s1
  rw [hs]
  refine ⟨?_, ?_, ?_, ?_, fun hp => ?_, fun hp => ?_⟩
  · rw [hl]; unfold s1 setMc; rw [h0]
  · exact RegsBut.trans (RegsBut.of_regs (t := s1) (by unfold s1; rw [h0]; rfl) _) (land_regsBut f.id _ s1)
  · rw [hl]; rfl
  · rw [land_chans]; unfold s1; rw [h0]; rfl
  · rw [land_parked (by exact hp)]
    exact ⟨_, List.mem_append_right _ (List.mem_singleton.2 rfl), rfl, rfl⟩
  · rw [land_unparked (by exact hp)]; unfold s1; rw [h0]; rfl

/-! ## Idle arbiters -/

theorem requester_idle {s : State} (h : ArbiterIdle s) (id : Nat) : requester s id = Requester.reset := by
  obtain ⟨-, -, hreq, -⟩ := h
  obtain ⟨hw, ho, hl⟩ := hreq id
  obtain ⟨hq, hp, hb⟩ : (requester s id).queue = [] ∧ (requester s id).port = none ∧ (requester s id).backlog = [] := by
    simpa [Requester.waiting] using hw
  generalize requester s id = q at *
  obtain ⟨queue, port, backlog, opened, landed⟩ := q
  simp only at *
  subst hq hp hb ho hl
  rfl

/-- The state in which requester id's only request has just arrived at idle arbiters. -/
structure Arrived (id : Nat) (r : MemReq) (s t : State) : Prop where
  only : ArbOnly s t [P.MEM_RANK id, P.MEM_SR_STAT]
  mem : t.mem = s.mem
  chans : t.mc.chans = s.mc.chans
  own : requester t id = { Requester.reset with queue := [r] }
  others : ∀ j, j ≠ id → requester t j = Requester.reset

theorem leaveSelfRefresh_onlyRegs (s : State) : OnlyRegs s (leaveSelfRefresh s) [P.MEM_SR_STAT] := by
  unfold leaveSelfRefresh
  split
  · exact OnlyRegs.setF s _ _ (by simp)
  · exact OnlyRegs.refl s _

theorem issue_arrived {s : State} (h : ArbiterIdle s) (id : Nat) {r : MemReq} (hr : r.lock = false) :
    Arrived id r s (issue id r (leaveSelfRefresh s)) := by
  have hl := leaveSelfRefresh_onlyRegs s
  have hreq : ∀ j, requester (leaveSelfRefresh s) j = Requester.reset := fun j =>
    (requester_congr (by rw [hl.1]) j).trans (requester_idle h j)
  refine ⟨?_, ?_, ?_, ?_, fun j hj => ?_⟩
  · exact ((ArbOnly.of_regs hl).mono (by simp)).setRequester id _
  · rw [issue, setRequester_mem, hl.1]
  · rw [issue, setRequester_chans, hl.1]
  · rw [issue, requester_setRequester_same, hreq, hr]; rfl
  · rw [issue, requester_setRequester_ne hj, hreq]

theorem Arrived.idle {id : Nat} {r : MemReq} {s t : State} (ht : Arrived id r s t) (h : ArbiterIdle s) (c : Fin 4) :
    t.mc.chans[c].owner = none ∧ t.mc.chans[c].emergency = false ∧ t.mc.chans[c].link = false ∧
      t.mc.chans[c].flights = [] := by
  rw [ht.chans]; exact h.2.2.2 c

section
variable {id : Nat} {r : MemReq} {s t : State} {c : Fin 4} (ht : Arrived id r s t) (hc : r.chan = c)
include ht hc

theorem Arrived.oldest_own : oldest t id c = some r := by
  rw [oldest, ht.own]
  simp [hc]

omit hc in
theorem Arrived.oldest_other {j : Nat} (hj : j ≠ id) : oldest t j c = none := by
  rw [oldest, ht.others j hj]
  rfl

variable (hid : id ≤ 16)
include hid

theorem Arrived.contenders {j : Nat} : j ∈ contenders t c ↔ j = id := by
  rw [mem_contenders]
  constructor
  · rintro ⟨-, r', hr'⟩
    by_contra hj
    rw [ht.oldest_other hj] at hr'
    exact nomatch hr'
  · rintro rfl
    exact ⟨by omega, r, ht.oldest_own hc⟩

theorem Arrived.contenders_ne : Machine.contenders t c ≠ [] :=
  List.ne_nil_of_mem ((ht.contenders hc hid).2 rfl)

variable (h : ArbiterIdle s)
include h

/-- The next slot is the new request's. -/
theorem Arrived.slotWinner : slotWinner c t = some id := by
  obtain ⟨ho, he, -, -⟩ := ht.idle h c
  have hd : oldest t 31 c = none := ht.oldest_other (by omega)
  simp only [Machine.slotWinner, he, hd, ho, Option.isSome_none, Bool.false_eq_true, if_false]
  split
  · obtain ⟨x, hx⟩ := pickFair_isSome (ht.contenders_ne hc hid)
    rw [hx, (ht.contenders hc hid).1 (pickFair_longest hx).1]
  · obtain ⟨x, hx⟩ := pickRank_isSome t.mc.chans[c].lastPick (ht.contenders_ne hc hid)
    rw [hx, (ht.contenders hc hid).1 (pickRank_highest hx).1]

/-- The slot serves it. -/
theorem Arrived.slot_grants (clocks : Nat) : ∃ x : Channel,
    x = { t.mc.chans[c] with fair := x.fair, lastPick := x.lastPick } ∧
    Grants c id true r (setChannel c x t) (slot c clocks t) := by
  obtain ⟨ho, he, -, -⟩ := ht.idle h c
  rw [slot_free clocks he (ht.oldest_other (by omega)) ho, if_pos (ht.contenders_ne hc hid)]
  obtain ⟨j, r', x, hj, hr', hg, hx, -⟩ := arbitrate_grants clocks (ht.contenders_ne hc hid)
  obtain rfl := (ht.contenders hc hid).1 hj
  obtain rfl := Option.some.inj ((ht.oldest_own hc).symm.trans hr')
  exact ⟨x, hx, hg⟩

end

/-! ## The access -/

/-- An access of requester id has come about: memory is as the access leaves it, and the arbiters are idle again. -/
structure Accessed (id a : Nat) (data : Option (List Byte)) (s t : State) : Prop where
  only : ArbOnly s t (dramKeys id)
  mem : t.mem = memAfter a data s.mem
  idle : ArbiterIdle t

theorem arbStat_mem_dramKeys (id : Nat) (c : Fin 4) : P.MEM_ARB_STAT c ∈ dramKeys id := by
  unfold dramKeys
  obtain ⟨c, hc⟩ := c
  interval_cases c <;> simp

/-- No requester's rank, no status of self-refresh and no MEM_ARB_STAT. -/
theorem not_mem_dramKeys {id key : Nat} (h : key < 0x60020 ∨ 0x60228 < key) (hid : id ≤ 16) : key ∉ dramKeys id := by
  simp only [dramKeys, P.MEM_RANK, P.MEM_SR_STAT, P.MEM_ARB_STAT, List.mem_cons, List.not_mem_nil, or_false]
  omega

/-- Arbiters whose requesters and channels hold nothing are idle where they were before. -/
theorem arbiterIdle_of_only {s t : State} {id : Nat} (hid : id ≤ 16) (h : ArbiterIdle s) (ho : ArbOnly s t (dramKeys id))
    (hreq : ∀ j, requester t j = Requester.reset)
    (hch : ∀ c : Fin 4, t.mc.chans[c].owner = none ∧ t.mc.chans[c].emergency = false ∧ t.mc.chans[c].link = false ∧
      t.mc.chans[c].flights = []) : ArbiterIdle t := by
  obtain ⟨hm, hr, -, -⟩ := h
  have hcfg : getReg t P.MEM_CFG = getReg s P.MEM_CFG := ho.regs _ (not_mem_dramKeys (by decide) hid)
  have hstat : getReg t P.MEM_STAT = getReg s P.MEM_STAT := ho.regs _ (not_mem_dramKeys (by decide) hid)
  refine ⟨?_, fun a => ?_, fun j => ?_, hch⟩
  · have hp : t.pwr = s.pwr := by rw [ho.rest]
    rw [← hm, memServes, memServes, State.powered, State.powered, hp]
  · have hfin : chanFin t a = chanFin s a := by rw [chanFin, chanFin, chanOf, chanOf, getF, getF, hcfg]
    rw [hfin, ← hr a, chanReady, chanReady, hstat]
  · rw [hreq j]; exact ⟨rfl, rfl, rfl⟩

/-- What a slot that serves the only request at idle arbiters leaves at the requesters and the channels. -/
theorem slot_served {id : Nat} {r : MemReq} {s t : State} {c : Fin 4} (hid : id ≤ 16) (h : ArbiterIdle s)
    (ht : Arrived id r s t) (hc : r.chan = c) (hl : r.lock = false) (hp : r.tag < parkTag) :
    ArbOnly s (slot c 2 t) (dramKeys id) ∧ (slot c 2 t).mem = memAfter r.addr r.data s.mem ∧
    (∀ j, requester (slot c 2 t) j = Requester.reset) ∧
    ∃ u, ∀ j : Fin 4, (slot c 2 t).mc.chans[j].owner = none ∧ (slot c 2 t).mc.chans[j].emergency = false ∧
      (slot c 2 t).mc.chans[j].link = false ∧
      (slot c 2 t).mc.chans[j].flights = if j = c then flightsAfter id r u [] else [] := by
  obtain ⟨x, hx, hg⟩ := ht.slot_grants hc hid h 2
  obtain ⟨held, u, hchans⟩ := hg.chan
  refine ⟨?_, ?_, fun j => ?_, u, fun j => ?_⟩
  · exact ((ht.only.mono (by simp [dramKeys])).setChannel c x).trans
      (hg.only.mono (by simpa using ⟨by simp [dramKeys], arbStat_mem_dramKeys id c⟩))
  · rw [hg.mem, setChannel_mem, ht.mem]
  · by_cases hj : j = id
    · subst hj
      rw [hg.own hp, requester_congr (setChannel_reqs c x t), ht.own]
      simp [Requester.waiting, Requester.reset, dropFirst, hc, Requester.holding]
    · rw [hg.others j hj, requester_congr (setChannel_reqs c x t), ht.others j hj]
  · by_cases hj : j = c
    · subst hj
      obtain ⟨ho, he, hlink, hf⟩ := ht.idle h j
      have hset : (slot j 2 t).mc.chans[j] = { x with
          flights := flightsAfter id r u x.flights, owner := ownerAfter id r x.owner, held := held } := by
        rw [hchans, setChannel_same]; simp
      have hxf : x.flights = [] := by rw [hx]; exact hf
      rw [hset, if_pos rfl, hxf]
      refine ⟨?_, by rw [hx]; exact he, by rw [hx]; exact hlink, rfl⟩
      rw [ownerAfter, if_neg (by omega), if_neg (by simp [hl])]
    · have hset : (slot c 2 t).mc.chans[j] = t.mc.chans[j] := by
        have hne : c.val ≠ j.val := fun e => hj (Fin.ext e.symm)
        rw [hchans]
        exact (Vector.getElem_set_ne _ _ hne).trans (setChannel_ne hj x t)
      rw [hset, if_neg hj]
      exact ht.idle h j

/-- The slot serves the access, its read's data returned with it, and leaves the arbiters idle. -/
theorem slot_accessed {id : Nat} {r : MemReq} {s t : State} {c : Fin 4} (hid : id ≤ 16) (h : ArbiterIdle s)
    (ht : Arrived id r s t) (hc : r.chan = c) (hl : r.lock = false) (hp : r.tag < parkTag) :
    Accessed id r.addr r.data s (if r.data.isNone then returnLast c (slot c 2 t) else slot c 2 t) := by
  obtain ⟨honly, hmem, hreq, u, hchan⟩ := slot_served hid h ht hc hl hp
  generalize slot c 2 t = v at *
  cases hd : r.data with
  | some bs =>
    simp only [Option.isNone_some, Bool.false_eq_true, if_false]
    refine ⟨honly, hd ▸ hmem, arbiterIdle_of_only hid h honly hreq fun j => ?_⟩
    obtain ⟨ho, he, hlink, hf⟩ := hchan j
    refine ⟨ho, he, hlink, hf.trans ?_⟩
    simp only [flightsAfter, hd, ite_self]
  | none =>
    simp only [Option.isNone_none, if_true]
    obtain ⟨f, hf⟩ : ∃ f, v.mc.chans[c].flights = [f] ∧ f.tag < parkTag := by
      refine ⟨⟨id, r.addr, u.readBytes (r.addr - r.addr % 64) 64, false, r.lock, r.tag⟩, ?_, hp⟩
      rw [(hchan c).2.2.2, if_pos rfl]
      simp only [flightsAfter, hd, List.nil_append]
    have hret : returnLast c v = deliver c f [] v := by
      rw [returnLast, hf.1]; rfl
    have hdel := deliver_delivers c f [] v
    have hregs : getReg (deliver c f [] v) = getReg v := by
      funext key; exact hdel.regs key (by simp [hf.2])
    have hv : ArbOnly v (deliver c f [] v) (dramKeys id) := ⟨by rw [hdel.frame], fun key _ => congrFun hregs key⟩
    rw [hret]
    refine ⟨honly.trans hv, ?_, arbiterIdle_of_only hid h (honly.trans hv) (fun j => ?_) fun j => ?_⟩
    · rw [hdel.frame]; exact hd ▸ hmem
    · rw [requester_congr (hdel.reqs hf.2), hreq j]
    · obtain ⟨ho, he, hlink, hfl⟩ := hchan j
      rw [hdel.chans]
      by_cases hj : j = c
      · subst hj
        simpa using ⟨ho, he⟩
      · have hne : c.val ≠ j.val := fun e => hj (Fin.ext e.symm)
        rw [if_neg hj] at hfl
        simpa [Vector.getElem_set_ne, hne] using ⟨ho, he, hlink, hfl⟩

theorem parkedAlready_idle {s : State} (h : ArbiterIdle s) (id : Nat) (r : MemReq) : parkedAlready id r s = false := by
  have hf : (s.mc.chans.any fun c => c.flights.any
      (fun f => f.id == id && (⟨f.addr, none, f.lock, 0, 0, f.tag⟩ : MemReq).sameAs r)) = false := by
    rw [Vector.any_eq_false]
    intro i hi
    have he : s.mc.chans[i].flights = [] := (h.2.2.2 ⟨i, hi⟩).2.2.2
    simp [he]
  rw [parkedAlready, requester_idle h, hf]
  rfl

theorem portTakes_idle {s : State} (h : ArbiterIdle s) (id : Nat) (release : Bool) : portTakes id release s = true := by
  rw [portTakes, requester_idle h]; rfl

theorem slotOpen_idle {s : State} (h : ArbiterIdle s) (id a : Nat) : slotOpen id (chanFin s a) s = true := by
  have hreq := requester_idle h id
  obtain ⟨hm, hr, -, hch⟩ := h
  rw [slotOpen, hm, hr, (hch _).2.2.1, oldest, hreq]
  rfl

/-- An access outside a locked sequence that finds the arbiters idle comes about at once. -/
theorem accessAs_idle {s : State} (h : ArbiterIdle s) {id : Nat} (hid : id ≤ 16) (a : Nat) (data : Option (List Byte))
    (release : Bool) (owner : Nat) :
    ∃ t, accessAs id a data false release owner s = .ok t ∧ Accessed id a data s t := by
  let r : MemReq := ⟨a, data, false, chanFin s a, arrival s (chanFin s a), 0⟩
  have ht := issue_arrived h id (r := r) rfl
  have hwin := ht.slotWinner (c := chanFin s a) rfl hid h
  have hpow : s.powered 36 = true := by
    have hm := h.1
    simp only [memServes, Bool.and_eq_true] at hm
    exact hm.1
  refine ⟨_, ?_, slot_accessed (c := chanFin s a) hid h ht rfl rfl (by decide : (0 : Nat) < parkTag)⟩
  have hland : ∀ p : MemReq → Bool, (requester s id).landed.any p = false := fun p => by
    rw [requester_idle h]; rfl
  simp only [accessAs, hland, parkedAlready_idle h, portTakes_idle h, hpow, slotOpen_idle h, Bool.not_true,
    Bool.or_self, Bool.false_eq_true, if_false, if_true]
  rw [if_pos hwin]

theorem dramAccess_idle {s : State} (h : ArbiterIdle s) {id : Nat} (hid : id ≤ 16) (a : Nat)
    (data : Option (List Byte)) : ∃ t, dramAccess id a data s = .ok t ∧ Accessed id a data s t :=
  accessAs_idle h hid a data false 0

end Sys2Proof.Machine
end

section
/-! SUPPORT. What reads of memory hang on, and lines read again from DRAM. -/
namespace Sys2Proof.Machine

theorem streamed_congr {s t : State} (hc : t.clu = s.clu) (key : Nat) : t.streamed key = s.streamed key := by
  unfold State.streamed; rw [hc]

section
variable {s t : State} (hm : t.mem = s.mem) (hb : t.blt = s.blt) (hc : t.clu = s.clu) (hf : t.free = s.free)
include hm hb hc hf

/-- A byte hangs on memory, on a blit command's pixels, on the stream buffers' places and on the free values. -/
theorem byte_congr (key : Nat) : t.byte key = s.byte key := by
  unfold State.byte State.stored; rw [streamed_congr hc, hm, hb, hf]

theorem readBytes_congr (n : Nat) : ∀ key, t.readBytes key n = s.readBytes key n := by
  induction n with
  | zero => exact fun _ => rfl
  | succ n ih => exact fun key => congrArg₂ List.cons (byte_congr hm hb hc hf key) (ih (key + 1))

end

theorem readBytes_same {s t : State} (hm : t.mem = s.mem) (hb : t.blt = s.blt) (hc : t.clu = s.clu) (key n : Nat) :
    ReadBytes s key n (t.readBytes key n) :=
  ⟨t.free, readBytes_congr (s := { s with free := t.free }) hm hb hc rfl n key⟩

/-! ## Lines filled from DRAM -/

/-- An L2 line filled while the arbiters are idle. -/
theorem l2Fill_idle {s : State} (h : ArbiterIdle s) (line : Nat) :
    ∃ t, l2Fill line s = .ok { t with l2 := Tab.insert s.l2 line ⟨t.readBytes (64 * line) 64, false⟩ } ∧
      Accessed 8 (64 * line) none s t := by
  obtain ⟨t, ht, hacc⟩ := dramAccess_idle h (id := 8) (by decide) (64 * line) none
  refine ⟨t, ?_, hacc⟩
  rw [l2Fill, ht]
  have hl2 : t.l2 = s.l2 := by rw [hacc.only.rest]
  rw [← hl2]
  rfl

theorem patFind_insert {s : State} {line : Nat} (hon : patSetOn s (line % 32768) = true) :
    patFind (patInsert line s) line = some (s.readBytes (64 * line) 64) := by
  have hget : ∀ (p : List (Nat × List PatLine)) (k : Nat) (x : List PatLine), Tab.get (Tab.insert p k x) [] k = x :=
    fun p k x => by rw [Tab.get, Tab.find_insert_same]; rfl
  simp [patInsert, hon, patFind, setPatSet, State.draw, hget, List.take_succ_cons]

theorem patErase_idle {s : State} (h : ArbiterIdle s) (line : Nat) : ArbiterIdle (patErase line s) := h

/-- A pattern-cache line fetched again while the arbiters are idle. -/
theorem refetchPat_idle {s : State} (h : ArbiterIdle s) {line : Nat} (hf : (patFind s line).isSome = true)
    (hr : patReach s line = true) : ∃ t, refetchPat line s = .ok (patInsert line t) ∧
      Accessed 0 (64 * line) none (patErase line s) t := by
  obtain ⟨t, ht, hacc⟩ := dramAccess_idle (patErase_idle h line) (id := 0) (by decide) (64 * line) none
  refine ⟨t, ?_, hacc⟩
  rw [refetchPat, hf, hr, ht]
  rfl

end Sys2Proof.Machine
end

section
/-! THEOREM. DRAM reads and shared SRAM words with errors. -/
namespace Sys2Proof.Machine

/-! ## Reads returned -/


theorem execReadReturn_empty {c : Fin 4} {s : State} (e : Ecc) (h : s.mc.chans[c].flights = []) :
    execReadReturn c e s =
      .next (if e = .good then s else setChannel c { s.mc.chans[c] with link := true } s) := by
  simp only [execReadReturn, h]

section
variable {c : Fin 4} {f : Flight} {rest : List Flight} {s : State} (h : s.mc.chans[c].flights = f :: rest)
  (hm : memServes s = true)
include h hm

theorem execReadReturn_first (e : Ecc) (hr : f.repeating = false) : execReadReturn c e s = .next
    (match e with
    | .good => deliver c f rest s
    | .corrected => dramCorrected f.addr (deliver c f rest s)
    | .bad => setChannel c { s.mc.chans[c] with flights := { f with repeating := true } :: rest } s) := by
  cases e <;> simp only [execReadReturn, h, hr, hm, Bool.not_true, Bool.or_self, Bool.false_eq_true, if_false]

theorem execDramReadRepeat_good (hr : f.repeating = true) :
    execDramReadRepeat c .good s = .next (dramRepeated c f rest s) := by
  simp only [execDramReadRepeat, h, hr, hm, Bool.not_true, Bool.or_self, Bool.false_eq_true, if_false]

theorem execDramReadRepeat_bad (hr : f.repeating = true) : execDramReadRepeat c .bad s =
    .next (raiseTilt 0x0102 (setChannel c { s.mc.chans[c] with flights := rest } s)) := by
  simp only [execDramReadRepeat, h, hr, hm, Bool.not_true, Bool.or_self, Bool.false_eq_true, if_false]

end

/-- An error counted in a field of MEM_ECC_STAT, flagged in MEM_INT_STAT, its address kept. -/
def eccCounted (a : Nat) (sram : Bool) (count flag : Fld) (s : State) : State :=
  noteEcc a sram (setF (addF s P.MEM_ECC_STAT count 1) P.MEM_INT_STAT flag 1)

theorem onF_noteEcc (a : Nat) (sram : Bool) (s : State) (key : Nat) (f : Fld) :
    onF (noteEcc a sram s) key f = onF s key f := rfl

theorem noteEcc_mc (a : Nat) (sram : Bool) (s : State) :
    (noteEcc a sram s).mc = { s.mc with eccAddr := a, eccSram := sram } := rfl

theorem noteEcc_regsBut (a : Nat) (sram : Bool) (s : State) (keys : List Nat) : RegsBut s (noteEcc a sram s) keys :=
  RegsBut.of_regs rfl keys

/-- What counting an error makes of the state u in which its read has been delivered. -/
theorem eccCounted_spec (a : Nat) (sram : Bool) (count : Fld) {flag : Fld} (hf : flag.inWord = true) (u : State) :
    (eccCounted a sram count flag u).mc = { u.mc with eccAddr := a, eccSram := sram } ∧
    onF (eccCounted a sram count flag u) P.MEM_INT_STAT flag = true ∧
    RegsBut u (eccCounted a sram count flag u) [P.MEM_ECC_STAT, P.MEM_INT_STAT] := by
  unfold eccCounted
  refine ⟨?_, ?_, ?_⟩
  · rw [noteEcc_mc, setF_mc, addF_mc]
  · rw [onF_noteEcc, onF_setF_self _ _ _ _ hf]; rfl
  · exact RegsBut.trans (RegsBut.trans (RegsBut.addF u count 1 (by simp)) (RegsBut.setF _ flag 1 (by simp)))
      (noteEcc_regsBut _ _ _ _)

/-! ## Shared SRAM -/

theorem execSramRefetch_bad {a : Nat} {line : Option Nat} {s t : State} (hs : (s.region a).sram = true)
    (hb : s.bankOn a = true) (h : sramBad a line s = .ok t) : execSramRefetch a line false s = .next t := by
  simp only [execSramRefetch, hs, hb, h, Bool.not_true, Bool.or_self, Bool.false_eq_true, if_false]

theorem sramRecovered_spec (a : Nat) (s : State) :
    onF (sramRecovered a s) P.MEM_INT_STAT F.MEM_INT_STAT_sram_refetch = true ∧
    (sramRecovered a s).mc = { s.mc with eccAddr := a, eccSram := true } ∧
    RegsBut s (sramRecovered a s) [P.MEM_INT_STAT] := by
  unfold sramRecovered
  refine ⟨?_, ?_, ?_⟩
  · rw [onF_noteEcc, onF_setF_self _ _ _ _ rfl]; rfl
  · rw [noteEcc_mc, setF_mc]
  · exact RegsBut.trans (RegsBut.setF s _ _ (by simp)) (noteEcc_regsBut _ _ _ _)

/-- An error where the array holds no line, or no band, is recovered at once. -/
theorem sramBad_empty {a : Nat} {line : Option Nat} {s : State}
    (h : (s.region a = .patternCache ∧ ∀ n, line = some n → patFind s n = none) ∨
      (∃ d, s.region a = .stream d ∧ (heldBands s.clu[Fin.ofNat 4 d])[line.getD 0]? = none) ∨
      s.region a = .l2Array ∧ ∀ n, line = some n → Tab.find s.l2 n = none) :
    sramBad a line s = .ok (sramRecovered a s) := by
  rcases h with ⟨hr, hl⟩ | ⟨d, hr, hb⟩ | ⟨hr, hl⟩
  · cases line with
    | none => simp only [sramBad, hr]
    | some n => simp only [sramBad, hr, refetchPat, hl n rfl, Option.isSome_none, Bool.false_and, Bool.false_eq_true,
        if_false]; rfl
  · cases line <;> simp only [sramBad, hr, rereadBand, hb] <;> rfl
  · cases line with
    | none => simp only [sramBad, hr]
    | some n => simp only [sramBad, hr, hl n rfl]

/-- An error that cannot be made good: in the comet store, the line buffer or a dirty L2 line. -/
theorem sramBad_tilts {a : Nat} {line : Option Nat} {s : State}
    (h : s.region a = .comets ∨ s.region a = .lineBuffer ∨
      ∃ n d, s.region a = .l2Array ∧ line = some n ∧ Tab.find s.l2 n = some ⟨d, true⟩) :
    sramBad a line s = .ok (raiseTilt 0x0103 s) := by
  rcases h with hr | hr | ⟨n, d, hr, rfl, hl⟩
  · cases line <;> simp only [sramBad, hr]
  · cases line <;> simp only [sramBad, hr]
  · simp only [sramBad, hr, hl, if_true]

theorem execSramRefetch_corrected {a : Nat} (line : Option Nat) {s : State} (hs : (s.region a).sram = true)
    (hb : s.bankOn a = true) : execSramRefetch a line true s =
      .next (eccCounted a true F.MEM_ECC_STAT_sram_ce F.MEM_INT_STAT_sram_ce s) := by
  simp only [execSramRefetch, hs, hb, Bool.not_true, Bool.or_self, Bool.false_eq_true, if_false, if_true]
  rfl

/-- What a recovery leaves beside the registers that it writes. -/
structure RecoveredFrom (a : Nat) (s t : State) : Prop where
  flag : onF t P.MEM_INT_STAT F.MEM_INT_STAT_sram_refetch = true
  addr : t.mc.eccAddr = a
  sram : t.mc.eccSram = true
  mem : t.mem = s.mem
  tilt : t.tilt = s.tilt

theorem sramRecovered_from {a : Nat} {s u : State} (hm : u.mem = s.mem) (ht : u.tilt = s.tilt) :
    RecoveredFrom a s (sramRecovered a u) := by
  obtain ⟨h1, h2, -⟩ := sramRecovered_spec a u
  exact ⟨h1, by rw [h2], by rw [h2], hm, ht⟩

theorem patFind_recovered (a n : Nat) (s : State) : patFind (sramRecovered a s) n = patFind s n := by
  unfold patFind sramRecovered noteEcc
  rfl

/-- The registers after an access of requester id and a recovery. -/
theorem sramRecovered_regsBut {a id : Nat} {s u v : State} (h : RegsBut s u (dramKeys id)) (hv : v.regs = u.regs) :
    RegsBut s (sramRecovered a v) (P.MEM_INT_STAT :: dramKeys id) :=
  RegsBut.trans (RegsBut.trans (RegsBut.mono h fun _ hk => List.mem_cons_of_mem _ hk) (RegsBut.of_regs hv _))
    (RegsBut.mono (sramRecovered_spec a v).2.2 (by simp))

/-- A pattern-cache line is read again. -/
theorem sramBad_pattern {a n : Nat} {bs : List Byte} {s : State} (hreg : s.region a = .patternCache)
    (hf : patFind s n = some bs) (hr : patReach s n = true) (hon : patSetOn s (n % 32768) = true)
    (hi : ArbiterIdle s) : ∃ t, sramBad a (some n) s = .ok t ∧ RecoveredFrom a s t ∧
      (∃ new, patFind t n = some new ∧ ReadBytes s (64 * n) 64 new) ∧
      RegsBut s t (P.MEM_INT_STAT :: dramKeys 0) := by
  obtain ⟨u, hu, hacc⟩ := refetchPat_idle hi (by rw [hf]; rfl) hr
  have hpwr : u.pwr = s.pwr := by rw [hacc.only.rest]; rfl
  have honu : patSetOn u (n % 32768) = true := by
    rw [← hon, patSetOn, patSetOn]
    simp only [State.powered, hpwr]
  have hins : patInsert n u = { u with pat := (patInsert n u).pat, free := (patInsert n u).free } := by
    unfold patInsert; dsimp only; split <;> rfl
  have hmem : u.mem = s.mem := hacc.mem
  refine ⟨sramRecovered a (patInsert n u), by simp only [sramBad, hreg, hu]; rfl, sramRecovered_from ?_ ?_,
    ⟨_, (patFind_recovered a n _).trans (patFind_insert honu), readBytes_same hmem ?_ ?_ _ _⟩, ?_⟩
  · rw [hins]; exact hmem
  · rw [hins, hacc.only.rest]; rfl
  · rw [hacc.only.rest]; rfl
  · rw [hacc.only.rest]; rfl
  · exact sramRecovered_regsBut (u := u) hacc.only.regs (by rw [hins])

/-- A clean L2 line is read again. -/
theorem sramBad_l2 {a n : Nat} {bs : List Byte} {s : State} (hreg : s.region a = .l2Array)
    (hf : Tab.find s.l2 n = some ⟨bs, false⟩) (hi : ArbiterIdle s) : ∃ t, sramBad a (some n) s = .ok t ∧
      RecoveredFrom a s t ∧ (∃ new, Tab.find t.l2 n = some ⟨new, false⟩ ∧ ReadBytes s (64 * n) 64 new) ∧
      RegsBut s t (P.MEM_INT_STAT :: dramKeys 8) := by
  obtain ⟨u, hu, hacc⟩ := l2Fill_idle hi n
  have hmem : u.mem = s.mem := hacc.mem
  refine ⟨sramRecovered a { u with l2 := Tab.insert s.l2 n ⟨u.readBytes (64 * n) 64, false⟩ }, ?_,
    sramRecovered_from hmem ?_, ⟨_, Tab.find_insert_same _ _ _, readBytes_same hmem ?_ ?_ _ _⟩, ?_⟩
  · simp only [sramBad, hreg, hf, Bool.false_eq_true, if_false, hu]; rfl
  · rw [hacc.only.rest]
  · rw [hacc.only.rest]
  · rw [hacc.only.rest]
  · exact sramRecovered_regsBut hacc.only.regs rfl

/-! ## The error's address -/

/-- MEM_ECC_ADDR_HI as the read of the low half captures it. -/
def eccAddrHi (s : State) : Word := BitVec.ofNat 32 ((s.mc.eccAddr >>> 32) % 256 + 0x100 * b2n s.mc.eccSram)

theorem eccAddrHi_eq (s : State) :
    eccAddrHi s = BitVec.ofNat 32 (s.mc.eccAddr / 0x100000000 % 256 + if s.mc.eccSram then 256 else 0) := by
  rw [eccAddrHi, Nat.shiftRight_eq_div_pow]
  cases s.mc.eccSram <;> simp

theorem execMemEccAddrLoRead_reaches {m : Master} {s : State} (h : s.reaches m false P.MEM_ECC_ADDR_LO = true) :
    execMemEccAddrLoRead m s =
      .next { setReg s P.MEM_ECC_ADDR_HI (eccAddrHi s) with rdata := BitVec.ofNat 32 s.mc.eccAddr } :=
  gate_reaches _ h

/-! ## The statement's parts -/

/-- The keys of a delivery's registers. -/
def deliverKeys (f : Flight) : List Nat := if f.tag < parkTag then [] else [P.MEM_RANK f.id]

/-- A unit whose parked read has been delivered finds it. -/
def FoundServed (f : Flight) (t : State) : Prop :=
  parkTag ≤ f.tag → ∃ r ∈ (requester t f.id).landed, r.addr = f.addr ∧ r.tag = f.tag

theorem FoundServed.congr {f : Flight} {s t : State} (h : FoundServed f s) (hr : t.mc.reqs = s.mc.reqs) :
    FoundServed f t := fun hp => by rw [requester_congr hr]; exact h hp

/-- A read that has been delivered, then counted as an error made good. -/
theorem eccCounted_delivered {c : Fin 4} {f : Flight} {rest : List Flight} {s u : State} (count : Fld) {flag : Fld}
    (hf : flag.inWord = true) (hd : Delivers c f rest s (deliver c f rest s))
    (hu : u.mc = (deliver c f rest s).mc) (hr : u.regs = (deliver c f rest s).regs) :
    let t := eccCounted f.addr false count flag u
    t.mc.delivered = some (f.id, f.addr, f.data) ∧ t.mc.chans[c].flights = rest ∧ t.mc.eccAddr = f.addr ∧
    t.mc.eccSram = false ∧ onF t P.MEM_INT_STAT flag = true ∧
    RegsBut s t ([P.MEM_ECC_STAT, P.MEM_INT_STAT] ++ deliverKeys f) ∧ FoundServed f t := by
  obtain ⟨hmc, hflag, hregs⟩ := eccCounted_spec f.addr false count hf u
  intro t
  have hreg : RegsBut s u (deliverKeys f) := RegsBut.trans hd.regs (RegsBut.of_regs hr _)
  refine ⟨?_, ?_, by rw [hmc], by rw [hmc], hflag, ?_, FoundServed.congr hd.served (by rw [hmc, hu])⟩
  · rw [hmc, hu, hd.delivered]
  · rw [hmc, hu, hd.chans]; simp
  · exact RegsBut.trans (RegsBut.mono hreg fun k hk => List.mem_append_right _ hk)
      (RegsBut.mono hregs fun k hk => List.mem_append_left _ hk)

/-- Settles O29: each command comes to one operation, and a line is read again by an access that finds the arbiters
idle. -/
theorem memoryErrors : Obligations.MemoryErrors := by
  unfold Obligations.MemoryErrors
  refine ⟨fun c s h => ⟨?_, fun e he => ?_⟩, ?_, ?_, ?_⟩
  · rw [exec, execReadReturn_empty _ h, if_pos rfl]
  · rw [exec, execReadReturn_empty _ h, if_neg he]; rfl
  · intro c f rest s h hm
    have hd := deliver_delivers c f rest s
    refine ⟨fun hr => ⟨?_, ?_, ?_⟩, fun hr => ⟨?_, fun hin ht => ?_⟩⟩
    · refine ⟨_, execReadReturn_first h hm .good hr, hd.delivered, ?_, hd.regs, by rw [hd.frame], hd.served⟩
      rw [hd.chans]; simp
    · obtain ⟨h1, -, h3, h4, h5, h6, h7⟩ := eccCounted_delivered (u := pmcEvent 0x051 0 1 (deliver c f rest s))
        F.MEM_ECC_STAT_dram_ce (flag := F.MEM_INT_STAT_dram_ce) rfl hd rfl rfl
      exact ⟨_, execReadReturn_first h hm .corrected hr, h1, h3, h4, h5, h6, h7⟩
    · exact ⟨_, execReadReturn_first h hm .bad hr, rfl, by rw [setChannel_same], rfl⟩
    · obtain ⟨h1, h2, -, -, h5, h6, h7⟩ := eccCounted_delivered (u := deliver c f rest s)
        F.MEM_ECC_STAT_dram_retry (flag := F.MEM_INT_STAT_dram_retry) rfl hd rfl rfl
      exact ⟨_, execDramReadRepeat_good h hm hr, h1, h2, h5, h6, h7⟩
    · have htilt := raiseTilt_code (s := setChannel c { s.mc.chans[c] with flights := rest } s) 0x0102 hin ht
      exact ⟨_, execDramReadRepeat_bad h hm hr, htilt, by rw [raiseTilt_mc]; rfl⟩
  · intro a line s hs hb
    refine ⟨?_, ?_, fun n bs hreg hl hf hr hon hi => ?_, fun n bs hreg hl hf hi => ?_, fun hin ht h => ?_⟩
    · obtain ⟨hmc, hflag, hregs⟩ := eccCounted_spec a true F.MEM_ECC_STAT_sram_ce (flag := F.MEM_INT_STAT_sram_ce) rfl s
      exact ⟨_, execSramRefetch_corrected line hs hb, hflag, by rw [hmc], by rw [hmc], rfl, hregs⟩
    · intro h
      obtain ⟨h1, h2, h3, h4, h5⟩ := sramRecovered_from (a := a) (s := s) rfl rfl
      exact ⟨_, execSramRefetch_bad hs hb (sramBad_empty h), ⟨h1, h2, h3, h4, h5⟩, (sramRecovered_spec a s).2.2⟩
    · subst hl
      obtain ⟨t, ht, ⟨h1, h2, h3, h4, h5⟩, hnew, hregs⟩ := sramBad_pattern hreg hf hr hon hi
      exact ⟨t, execSramRefetch_bad hs hb ht, ⟨h1, h2, h3, h4, h5⟩, hnew, hregs⟩
    · subst hl
      obtain ⟨t, ht, ⟨h1, h2, h3, h4, h5⟩, hnew, hregs⟩ := sramBad_l2 hreg hf hi
      exact ⟨t, execSramRefetch_bad hs hb ht, ⟨h1, h2, h3, h4, h5⟩, hnew, hregs⟩
    · exact ⟨_, execSramRefetch_bad hs hb (sramBad_tilts h), raiseTilt_code 0x0103 hin ht⟩
  · intro m s h
    refine ⟨_, execMemEccAddrLoRead_reaches h, rfl, ?_, rfl, RegsBut.setReg s _ (by simp)⟩
    rw [← eccAddrHi_eq]
    exact getReg_setReg_same s _ _

end Sys2Proof.Machine
end

section
/-! SUPPORT. Lines of a range in the caches: what filtering and marking leave to be found, and requests issued. -/
namespace Sys2Proof.Machine

/-! ## Tables filtered or mapped by key -/

theorem Tab.find_filter_key {α : Type} (p : Nat → Bool) (t : Tab α) (k : Nat) :
    Tab.find (t.filter (fun e => p e.1)) k = if p k then Tab.find t k else none := by
  induction t with
  | nil => simp [Tab.find]
  | cons e t ih =>
    obtain ⟨j, x⟩ := e
    by_cases hj : j = k
    · subst hj
      cases hp : p j <;> simp [Tab.find, hp, ih]
    · cases hp : p j <;> simp [Tab.find, hp, ih, hj]

/-- A table with the values at the keys of a set changed. -/
theorem Tab.find_map_key {α : Type} (p : Nat → Bool) (f : α → α) (t : Tab α) (k : Nat) :
    Tab.find (t.map (fun e => if p e.1 then (e.1, f e.2) else e)) k =
      (Tab.find t k).map (fun x => if p k then f x else x) := by
  induction t with
  | nil => rfl
  | cons e t ih =>
    obtain ⟨j, x⟩ := e
    by_cases hj : j = k
    · subst hj
      cases hp : p j <;> simp [Tab.find, hp]
    · cases hp : p j <;> simp [Tab.find, hp, ih, hj]

theorem inLines_iff {first n line : Nat} : inLines first n line = true ↔ first ≤ line ∧ line < first + n := by
  simp [inLines]

theorem inLines_false {first n line : Nat} (h : ¬(first ≤ line ∧ line < first + n)) : inLines first n line = false := by
  simpa using mt inLines_iff.1 h

/-! ## Requests issued one after another -/

/-- What a requester holds is what it was given to hold. -/
theorem waiting_holding (r : Requester) (l : List MemReq) : (r.holding l).waiting = l := by
  have h : (l.drop 64).head?.toList ++ l.drop 65 = l.drop 64 := by
    rw [← List.drop_drop (i := 1) (j := 64)]
    cases l.drop 64 <;> simp
  simp only [Requester.waiting, Requester.holding, List.append_assoc, h, List.take_append_drop]

theorem waiting_issueAll (id : Nat) (rs : List MemReq) (s : State) :
    (requester (issueAll id rs s) id).waiting = (requester s id).waiting ++ rs := by
  rw [issueAll, requester_setRequester_same, waiting_holding]

theorem waiting_issue (id : Nat) (r : MemReq) (s : State) :
    (requester (issue id r s) id).waiting = (requester s id).waiting ++ [r] := by
  rw [issue, requester_setRequester_same]
  exact waiting_holding (requester s id) _

end Sys2Proof.Machine
end

section
/-! SUPPORT. The operations of a core's cache engine. -/
namespace Sys2Proof.Machine

/-! ## Clean and invalidate -/

theorem cleanLines_only (k first n : Nat) (s : State) : cleanLines k first n s =
    { s with regs := (cleanLines k first n s).regs, l2 := (cleanLines k first n s).l2, mc := (cleanLines k first n s).mc } := by
  unfold cleanLines issueAll
  dsimp only
  rw [setRequester_only]

theorem cleanLines_waiting (k first n : Nat) (s : State) : (requester (cleanLines k first n s) 8).waiting =
    (requester s 8).waiting ++ cleanRequests k (dirtyIn first n s) s := waiting_issueAll 8 _ s

theorem cleanLines_regsBut (k first n : Nat) (s : State) : RegsBut s (cleanLines k first n s) [P.MEM_RANK 8] :=
  setRequester_regsBut 8 _ s

theorem cleanLines_find (k first n : Nat) (s : State) (line : Nat) : Tab.find (cleanLines k first n s).l2 line =
    (Tab.find s.l2 line).map (fun l => if inLines first n line then { l with dirty := false } else l) := by
  have hl : (issueAll 8 (cleanRequests k (dirtyIn first n s) s) s).l2 = s.l2 := by
    unfold issueAll; rw [setRequester_only]
  unfold cleanLines
  dsimp only
  rw [hl]
  exact Tab.find_map_key (inLines first n) (fun l : L2Line => { l with dirty := false }) s.l2 line

theorem invalidateLines_find (first n : Nat) (s : State) (line : Nat) :
    Tab.find (invalidateLines first n s).l2 line = if inLines first n line then none else Tab.find s.l2 line := by
  unfold invalidateLines
  refine (Tab.find_filter_key (fun k => !inLines first n k) s.l2 line).trans ?_
  cases inLines first n line <;> rfl

theorem invalidateLines_dcache (first n : Nat) (s : State) (j : CoreId) (line : Nat) :
    Tab.find (invalidateLines first n s).cores[j].dcache line =
      if inLines first n line then none else Tab.find s.cores[j].dcache line := by
  have hj : (invalidateLines first n s).cores[j] = dropDcache first n s.cores[j] := by
    simp [invalidateLines]
  rw [hj]
  refine (Tab.find_filter_key (fun k => !inLines first n k) s.cores[j].dcache line).trans ?_
  cases inLines first n line <;> rfl

theorem invalidateLines_mem (first n : Nat) (s : State) : (invalidateLines first n s).mem = s.mem := rfl

/-! ## The operation's status -/

/-- SYS_CMO_CTRL of core k once its engine has started an operation that writes back so many dirty lines. -/
structure CmoStarted (k : CoreId) (op dirty : Nat) (t : State) : Prop where
  op : getF t (P.SYS_CMO_CTRL k) F.SYS_CMO_CTRL_op = op
  busy : onF t (P.SYS_CMO_CTRL k) F.SYS_CMO_CTRL_busy = true
  dirty : getF t (P.SYS_CMO_CTRL k) F.SYS_CMO_CTRL_dirty = min dirty 0x7FFF

theorem cmoStarted_started (k : CoreId) {op : Nat} (hop : op < 8) (dirty : Nat) (s : State) :
    CmoStarted k op dirty (cmoStarted k op dirty s) := by
  have hmin : Nat.min dirty 0x7FFF ≤ 0x7FFF := Nat.min_le_right _ _
  have hw : (BitVec.ofNat 32 (op + 0x100 + Nat.min dirty 0x7FFF <<< 16)).toNat =
      op + 0x100 + 65536 * Nat.min dirty 0x7FFF := by
    rw [BitVec.toNat_ofNat, Nat.shiftLeft_eq, Nat.mod_eq_of_lt] <;> omega
  refine ⟨?_, ?_, ?_⟩
  all_goals simp only [cmoStarted, getF, onF, getReg_setReg_same, Fld.get, Fld.on, bits, hw, Nat.shiftRight_eq_div_pow,
    Nat.testBit_eq_decide_div_mod_eq]
  · norm_num; omega
  · simp; omega
  · change _ = Nat.min _ _
    norm_num
    omega

/-- The writes of an operation that cleans, and what it leaves beside them. -/
structure CmoWrites (k : CoreId) (first n : Nat) (s t : State) : Prop where
  waiting : (requester t 8).waiting = (requester s 8).waiting ++ cleanRequests k (dirtyIn first n s) s
  regs : RegsBut s t [P.SYS_CMO_CTRL k, P.MEM_RANK 8]
  mem : t.mem = s.mem

/-- Once the lines are cleaned, a change of the caches and the operation's start keep its writes. -/
theorem cmoWrites_started {k : CoreId} {first n : Nat} {s u : State} (op dirty : Nat)
    (hm : u.mc = (cleanLines k first n s).mc) (hr : u.regs = (cleanLines k first n s).regs) (hmem : u.mem = s.mem) :
    CmoWrites k first n s (cmoStarted k op dirty u) := by
  unfold cmoStarted
  refine ⟨?_, ?_, (setReg_mem ..).trans hmem⟩
  · rw [requester_congr (congrArg MemCtl.reqs ((setReg_mc ..).trans hm)), cleanLines_waiting]
  · exact RegsBut.trans (RegsBut.trans (RegsBut.mono (cleanLines_regsBut k first n s) (by simp)) (RegsBut.of_regs hr _))
      (RegsBut.setReg u _ (by simp))

/-! ## What each operation leaves of the lines -/

/-- What an operation over a range of lines leaves: its status, and the L2 lines of the range and outside it. -/
structure CmoOver (k : CoreId) (op dirty first n : Nat) (s t : State) : Prop where
  started : CmoStarted k op dirty t
  outside : ∀ line, ¬(first ≤ line ∧ line < first + n) → Tab.find t.l2 line = Tab.find s.l2 line

/-- The state after the clean of a range. -/
def cleaned (k : CoreId) (first n : Nat) (s : State) : State :=
  cmoStarted k 1 (dirtyIn first n s).length (cleanLines k first n s)

/-- The state after the invalidation of a range. -/
def invalidated (k : CoreId) (first n : Nat) (s : State) : State := cmoStarted k 2 0 (invalidateLines first n s)

/-- The state after the clean and invalidation of a range. -/
def cleanInvalidated (k : CoreId) (first n : Nat) (s : State) : State :=
  cmoStarted k 3 (dirtyIn first n s).length (invalidateLines first n (cleanLines k first n s))

theorem cmoStarted_l2 (k op dirty : Nat) (s : State) : (cmoStarted k op dirty s).l2 = s.l2 := setReg_l2 ..
theorem cmoStarted_cores (k op dirty : Nat) (s : State) : (cmoStarted k op dirty s).cores = s.cores := setReg_cores ..

theorem cmoStarted_only (k op dirty : Nat) (s : State) :
    cmoStarted k op dirty s = { s with regs := (cmoStarted k op dirty s).regs } := by
  unfold cmoStarted
  exact (OnlyRegs.setReg s _ (List.mem_singleton.2 rfl)).1

theorem cleaned_over (k : CoreId) (first n : Nat) (s : State) :
    CmoOver k 1 (dirtyIn first n s).length first n s (cleaned k first n s) := by
  refine ⟨cmoStarted_started k (by omega) _ _, fun line hout => ?_⟩
  rw [cleaned, cmoStarted_l2, cleanLines_find, inLines_false hout]
  cases Tab.find s.l2 line <;> rfl

theorem cleaned_writes (k : CoreId) (first n : Nat) (s : State) : CmoWrites k first n s (cleaned k first n s) :=
  cmoWrites_started 1 _ rfl rfl (by rw [cleanLines_only])

theorem cleaned_inside (k : CoreId) {first n line : Nat} {l : L2Line} {s : State} (hl : Tab.find s.l2 line = some l)
    (hin : first ≤ line ∧ line < first + n) : Tab.find (cleaned k first n s).l2 line = some { l with dirty := false } := by
  rw [cleaned, cmoStarted_l2, cleanLines_find, hl, inLines_iff.2 hin]
  rfl

theorem cleaned_only (k : CoreId) (first n : Nat) (s : State) : cleaned k first n s =
    { s with regs := (cleaned k first n s).regs, l2 := (cleaned k first n s).l2, mc := (cleaned k first n s).mc } := by
  have hl2 : (cleaned k first n s).l2 = (cleanLines k first n s).l2 := cmoStarted_l2 ..
  have hmc : (cleaned k first n s).mc = (cleanLines k first n s).mc := setReg_mc ..
  rw [hl2, hmc]
  refine (cmoStarted_only k 1 _ _).trans ?_
  conv_lhs => rw [cleanLines_only]
  rfl

theorem invalidated_over (k : CoreId) (first n : Nat) (s : State) :
    CmoOver k 2 0 first n s (invalidated k first n s) := by
  refine ⟨cmoStarted_started k (by omega) _ _, fun line hout => ?_⟩
  rw [invalidated, cmoStarted_l2, invalidateLines_find, inLines_false hout]
  rfl

theorem invalidated_inside (k : CoreId) {first n line : Nat} (s : State) (hin : first ≤ line ∧ line < first + n) :
    Tab.find (invalidated k first n s).l2 line = none := by
  rw [invalidated, cmoStarted_l2, invalidateLines_find, inLines_iff.2 hin, if_pos rfl]

theorem invalidated_dcache (k : CoreId) (first n : Nat) (s : State) (j : CoreId) (line : Nat) :
    Tab.find (invalidated k first n s).cores[j].dcache line =
      if inLines first n line then none else Tab.find s.cores[j].dcache line := by
  rw [invalidated, cmoStarted_cores, invalidateLines_dcache]

theorem cleanInvalidated_over (k : CoreId) (first n : Nat) (s : State) :
    CmoOver k 3 (dirtyIn first n s).length first n s (cleanInvalidated k first n s) := by
  refine ⟨cmoStarted_started k (by omega) _ _, fun line hout => ?_⟩
  rw [cleanInvalidated, cmoStarted_l2, invalidateLines_find, inLines_false hout, cleanLines_find, inLines_false hout]
  cases Tab.find s.l2 line <;> rfl

theorem cleanInvalidated_writes (k : CoreId) (first n : Nat) (s : State) :
    CmoWrites k first n s (cleanInvalidated k first n s) :=
  cmoWrites_started 3 _ rfl rfl ((invalidateLines_mem ..).trans (by rw [cleanLines_only]))

theorem cleanInvalidated_inside (k : CoreId) {first n line : Nat} (s : State)
    (hin : first ≤ line ∧ line < first + n) : Tab.find (cleanInvalidated k first n s).l2 line = none := by
  rw [cleanInvalidated, cmoStarted_l2, invalidateLines_find, inLines_iff.2 hin, if_pos rfl]

section
variable {m : Master} {k : CoreId} {s : State} (hr : s.reaches m true (P.SYS_CMO_CTRL k) = true)
  (hb : onF s (P.SYS_CMO_CTRL k) F.SYS_CMO_CTRL_busy = false)
include hr hb

theorem execCmoClean_starts : execCmoClean m k s = .next (cleaned k (cmoFirst k s) (cmoLines k s) s) := by
  rw [execCmoClean, gate_reaches _ hr]
  simp only [cmoStart, hb, Bool.false_eq_true, if_false]
  rfl

theorem execCmoInvalidate_starts : execCmoInvalidate m k s =
    .next (invalidated k (cmoFirst k s) (cmoLines k s) s) := by
  rw [execCmoInvalidate, gate_reaches _ hr]
  simp only [cmoStart, hb, Bool.false_eq_true, if_false]
  rfl

theorem execCmoCleanInvalidate_starts : execCmoCleanInvalidate m k s =
    .next (cleanInvalidated k (cmoFirst k s) (cmoLines k s) s) := by
  rw [execCmoCleanInvalidate, gate_reaches _ hr]
  simp only [cmoStart, hb, Bool.false_eq_true, if_false]
  rfl

theorem execICacheInvalidate_starts : execICacheInvalidate m k s =
    .next (cmoStarted k 4 0 (s.setCore k { s.cores[k] with icache := [] })) := by
  rw [execICacheInvalidate, gate_reaches _ hr]
  simp only [cmoStart, hb, Bool.false_eq_true, if_false]

end

/-! ## The operation's end -/

theorem tagWaits_false {id tag : Nat} {s : State} (h : ∀ r ∈ (requester s id).waiting, r.tag ≠ tag) :
    tagWaits id tag s = false := by
  rw [tagWaits, List.any_eq_false]
  exact fun r hr => by simpa using h r hr

/-- A source's bit once it has been set. -/
theorem getSrcBit_setSrcBit (base key : Nat) (b : Bool) (s : State) : getSrcBit base key (setSrcBit base key b s) = b := by
  have hb : arrayBit key < 32 := by unfold arrayBit; omega
  rw [getSrcBit, setSrcBit, getReg_setF_same, Fld.put_bit _ _ _ _ hb]
  cases b <;> simp [Fld.len]

theorem arrayKey_private (base k n : Nat) (hn : n < 32) : arrayKey base (srcKey k n) = own k base := by
  have h1 : ¬ srcKey k n < 512 := by rw [srcKey, if_pos hn]; omega
  have h2 : keyBank (srcKey k n) = k := by rw [srcKey, if_pos hn, keyBank]; omega
  rw [arrayKey, if_neg h1, h2]

/-! ## A dirty line written back -/

theorem execL2WriteBack_dirty {line : Nat} {l : L2Line} {s : State} (hf : Tab.find s.l2 line = some l)
    (hd : l.dirty = true) (hp : portTakes 8 false s = true) : execL2WriteBack line s =
      .next { issue 8 ⟨64 * line, some l.data, false, chanOf s (64 * line), arrival s (chanOf s (64 * line)), 0⟩
        (leaveSelfRefresh s) with l2 := Tab.erase s.l2 line } := by
  simp only [execL2WriteBack, hf, hd, hp, Bool.and_self, if_true]

end Sys2Proof.Machine
end

section
/-! SUPPORT. A core's own GPIO port. -/
namespace Sys2Proof.Machine

/-- A port of PIN_PRIV that a core may write: privileged, or in user mode with ugpio set. -/
theorem priv_reaches {k : CoreId} {p : Nat} {s : State} (hp : 0xA8000 ≤ p ∧ p ≤ 0xA803F) (h4 : p % 4 = 0)
    (hu : s.cores[k].user = false ∨ s.cores[k].ugpio = true) (hpow : s.powered 11 = true) :
    s.reaches (.core k) true p = true := by
  have hdom : domainOf p = some 11 := by
    unfold domainOf
    repeat rw [if_neg (by omega)]
    rw [if_pos (by omega)]
  have hpriv : isPrivGpio p = true := by simpa [isPrivGpio] using hp
  have hmay : (s.cores[k].user && !userMay k true p s) = false := by
    rcases hu with hu | hu
    · rw [hu, Bool.false_and]
    · rw [userMay, hpriv, hu, Bool.and_self, Bool.true_or, Bool.not_true, Bool.and_false]
  have hass : (!assigned p || isDbg p || decide (0x1000000 ≤ p)) = false := by
    simp [assigned, isDbg, hdom]; omega
  have hstop : ioStop k true p s = none := by
    have hreach : audioReaches k p = true := by simp [audioReaches, hpriv]
    rw [ioStop, hmay, hass, hreach, Bool.not_true, Bool.and_false, if_neg Bool.false_ne_true, if_neg (not_not.2 h4),
      if_neg Bool.false_ne_true, if_neg Bool.false_ne_true]
  simp [State.reaches, hstop, State.portOn, hdom, hpow]

/-- The port's history after an OUT that takes one clock: the new value now, the old one a clock ago. -/
theorem agedBy_portAt {c : Core} {old : Vector Word 4} (h : ∀ e ∈ c.privPast, 0 < e.1) :
    (c.agedBy old 1).portAt 0 = c.privOut ∧ (c.agedBy old 1).portAt 1 = old := by
  have hpast : ∀ d, d ≤ 1 → (agePast 1 c.privPast).filter (fun e => e.1 ≤ d) = [] := by
    intro d hd
    rw [List.filter_eq_nil_iff]
    intro e he
    obtain ⟨x, hx, rfl⟩ := List.mem_map.1 (List.mem_filter.1 he).1
    have := h x hx
    simp; omega
  simp only [Core.agedBy, Core.portAt]
  by_cases ho : old = c.privOut
  · rw [if_pos ho, hpast 0 (by omega), hpast 1 (by omega), ho]
    exact ⟨rfl, rfl⟩
  · rw [if_neg ho, List.filter_cons_of_neg (by simp), List.filter_cons_of_pos (by simp), hpast 0 (by omega),
      hpast 1 (by omega)]
    exact ⟨rfl, rfl⟩

/-- What an OUT of value v to group g of core k's port makes of the state. -/
structure Drives (k : CoreId) (g : Fin 4) (v : Word) (s t : State) : Prop where
  rest : t = { s.edged t with cores := t.cores }
  others : ∀ j : CoreId, j ≠ k → t.cores[j] = s.cores[j]
  core : t.cores[k] = { s.cores[k] with privOut := s.cores[k].privOut.set g v, privPast := t.cores[k].privPast }
  port : (∀ e ∈ s.cores[k].privPast, 0 < e.1) →
    t.cores[k].portAt 0 = s.cores[k].privOut.set g v ∧ t.cores[k].portAt 1 = s.cores[k].privOut

theorem privOutRun_drives (k : CoreId) (g : Fin 4) (v : Word) (s : State) : Drives k g v s (privOutRun k g v s) := by
  have he := OnlyEdges.latchPads (changedPins g s.cores[k].privOut[g] v) s
    (s.setCore k { s.cores[k] with privOut := s.cores[k].privOut.set g v })
  have hcores : (privSet k g v s).cores = s.cores.set k { s.cores[k] with privOut := s.cores[k].privOut.set g v } :=
    congrArg State.cores he
  have hk : (privSet k g v s).cores[k] = { s.cores[k] with privOut := s.cores[k].privOut.set g v } := by
    rw [hcores]; simp
  have ht : (privOutRun k g v s).cores[k] = Core.agedBy { s.cores[k] with privOut := s.cores[k].privOut.set g v }
      s.cores[k].privOut 1 := by
    rw [privOutRun, agePort_eq, setCore_fin, hk]
  refine ⟨?_, fun j hj => ?_, ?_, fun hpast => ?_⟩
  · rw [privOutRun, agePort_eq, privSet, he]; rfl
  · have hne : j.val ≠ k.val := fun e => hj (Fin.ext e)
    rw [privOutRun, agePort_eq]
    refine (State.setCore_ne _ _ j.isLt hne).trans ?_
    rw [hcores]
    exact Vector.getElem_set_ne _ _ hne.symm
  · rw [ht]; rfl
  · rw [ht]; exact agedBy_portAt hpast

end Sys2Proof.Machine
end

section
/-! SUPPORT. A dirty line written back, and the commands of an operation's end and of the port. -/
namespace Sys2Proof.Machine

/-- What the write of a dirty line back leaves: the line gone from the L2, and a write of requester 8 waiting. -/
structure WrittenBack (line : Nat) (data : List Byte) (r : MemReq) (s t : State) : Prop where
  rest : t = { s with regs := t.regs, mc := t.mc, l2 := t.l2 }
  regs : RegsBut s t [P.MEM_RANK 8, P.MEM_SR_STAT]
  l2 : t.l2 = Tab.erase s.l2 line
  waiting : (requester t 8).waiting = (requester s 8).waiting ++ [r]
  addr : r.addr = 64 * line
  data : r.data = some data

theorem issue_only (id : Nat) (r : MemReq) (s : State) :
    issue id r s = { s with regs := (issue id r s).regs, mc := (issue id r s).mc } := by
  have h := setRequester_only id { (requester s id).holding ((requester s id).waiting ++ [r]) with
    opened := if r.lock then some r.chan else none } s
  unfold issue
  rw [h]

theorem issue_regsBut (id : Nat) (r : MemReq) (s : State) : RegsBut s (issue id r s) [P.MEM_RANK id] :=
  setRequester_regsBut id _ s

/-- A request that ends self-refresh changes registers and the arbiter only. -/
theorem issue_awake (id : Nat) (r : MemReq) (s : State) :
    ∃ regs mc, issue id r (leaveSelfRefresh s) = { s with regs := regs, mc := mc } := by
  obtain ⟨hl, -⟩ := leaveSelfRefresh_onlyRegs s
  generalize leaveSelfRefresh s = u at hl
  generalize u.regs = regs at hl
  subst hl
  exact ⟨_, _, issue_only ..⟩

theorem issue_awake_regsBut (id : Nat) (r : MemReq) (s : State) :
    RegsBut s (issue id r (leaveSelfRefresh s)) [P.MEM_RANK id, P.MEM_SR_STAT] := by
  have h1 := RegsBut.mono (leaveSelfRefresh_onlyRegs s).2 (List.subset_cons_self (P.MEM_RANK id) _)
  exact RegsBut.trans h1 (RegsBut.mono (issue_regsBut id r _) (by simp))

theorem waiting_issue_awake (id : Nat) (r : MemReq) (s : State) :
    (requester (issue id r (leaveSelfRefresh s)) id).waiting = (requester s id).waiting ++ [r] := by
  rw [waiting_issue, requester_congr (s := s) (by rw [(leaveSelfRefresh_onlyRegs s).1])]

/-- A write issued by requester 8 as its line leaves the L2. -/
theorem writtenBack_issue (line : Nat) {data : List Byte} {r : MemReq} (ha : r.addr = 64 * line)
    (hd : r.data = some data) (s : State) :
    WrittenBack line data r s { issue 8 r (leaveSelfRefresh s) with l2 := Tab.erase s.l2 line } := by
  have hw := waiting_issue_awake 8 r s
  have hr := issue_awake_regsBut 8 r s
  obtain ⟨regs, mc, h⟩ := issue_awake 8 r s
  rw [h] at hw hr ⊢
  exact ⟨rfl, hr, rfl, hw, ha, hd⟩

/-- Once no write of the operation waits, its busy bit clears and source 18 of its core is pending. -/
theorem execCacheOperationDone_done {k : CoreId} {s : State}
    (hb : onF s (P.SYS_CMO_CTRL k) F.SYS_CMO_CTRL_busy = true) (hp : s.powered 11 = true)
    (hw : ∀ r ∈ (requester s 8).waiting, r.tag ≠ k.val + 1) : execCacheOperationDone k s =
      .next (setSrcBit (P.INT_PEND_SET 0) (srcKey k 18) true (setF s (P.SYS_CMO_CTRL k) F.SYS_CMO_CTRL_busy 0)) := by
  have hp' : (setF s (P.SYS_CMO_CTRL k) F.SYS_CMO_CTRL_busy 0).powered 11 = true := hp
  simp only [execCacheOperationDone, hb, tagWaits_false hw, raisePrivate, setPending, hp', Bool.not_false,
    Bool.and_self, if_true]

/-- The pending word of a core's own sources is no operation status. -/
theorem srcKey_ne_cmoCtrl (k : CoreId) : P.SYS_CMO_CTRL k ≠ arrayKey (P.INT_PEND_SET 0) (srcKey k 18) := by
  rw [arrayKey_private _ _ _ (by omega)]
  unfold P.SYS_CMO_CTRL P.INT_PEND_SET own
  omega

section
variable {k : CoreId} (g : Fin 4) (v : Word) {s : State}
  (hr : ∀ p, 0xA8000 ≤ p → p ≤ 0xA803F → p % 4 = 0 → s.reaches (.core k) true p = true)
include hr

theorem execPinPrivOut_runs : execPinPrivOut k g v s = .next (privOutRun k g v s) := by
  have hg := g.isLt
  exact gate_reaches _ (hr _ (by unfold P.PIN_PRIV_OUT; omega) (by unfold P.PIN_PRIV_OUT; omega)
    (by unfold P.PIN_PRIV_OUT; omega))

theorem execPinPrivSet_runs : execPinPrivSet k g v s = .next (privOutRun k g (s.cores[k].privOut[g] ||| v) s) := by
  have hg := g.isLt
  exact gate_reaches _ (hr _ (by unfold P.PIN_PRIV_SET; omega) (by unfold P.PIN_PRIV_SET; omega)
    (by unfold P.PIN_PRIV_SET; omega))

theorem execPinPrivClr_runs : execPinPrivClr k g v s = .next (privOutRun k g (s.cores[k].privOut[g] &&& ~~~v) s) := by
  have hg := g.isLt
  exact gate_reaches _ (hr _ (by unfold P.PIN_PRIV_CLR; omega) (by unfold P.PIN_PRIV_CLR; omega)
    (by unfold P.PIN_PRIV_CLR; omega))

end

end Sys2Proof.Machine
end

section
/-! THEOREM. The cache engines and a core's own GPIO port. -/
namespace Sys2Proof.Machine

/-- Settles O21: each operation is the model's change of the lines under one write of its status, and each OUT to the
GPIO port is one change of the issuing core. -/
theorem cachesAndPrivatePins : Obligations.CachesAndPrivatePins := by
  unfold Obligations.CachesAndPrivatePins
  refine ⟨⟨?_, ?_, ?_⟩, ?_⟩
  · intro m k s hr hb
    dsimp only
    refine ⟨⟨_, execCmoClean_starts hr hb, ?_⟩, ⟨_, execCmoInvalidate_starts hr hb, ?_⟩,
      ⟨_, execCmoCleanInvalidate_starts hr hb, ?_⟩, ⟨_, execICacheInvalidate_starts hr hb, ?_⟩⟩
    · have ho := cleaned_over k (cmoFirst k s) (cmoLines k s) s
      have hw := cleaned_writes k (cmoFirst k s) (cmoLines k s) s
      exact ⟨⟨ho.started.op, ho.started.busy⟩, ⟨hw.waiting, hw.regs, hw.mem, ho.started.dirty⟩, cleaned_only ..,
        fun line l hl hin => cleaned_inside k hl hin, ho.outside⟩
    · have ho := invalidated_over k (cmoFirst k s) (cmoLines k s) s
      refine ⟨⟨ho.started.op, ho.started.busy⟩, RegsBut.setReg _ _ (by simp), rfl,
        fun line hin => invalidated_inside k s hin, ho.outside, fun j line hin => ?_, fun j line hout => ?_⟩
      · exact (invalidated_dcache ..).trans (by rw [inLines_iff.2 hin, if_pos rfl])
      · exact (invalidated_dcache ..).trans (by rw [inLines_false hout]; rfl)
    · have ho := cleanInvalidated_over k (cmoFirst k s) (cmoLines k s) s
      have hw := cleanInvalidated_writes k (cmoFirst k s) (cmoLines k s) s
      exact ⟨⟨ho.started.op, ho.started.busy⟩, ⟨hw.waiting, hw.regs, hw.mem, ho.started.dirty⟩,
        fun line hin => cleanInvalidated_inside k s hin, ho.outside⟩
    · have hst := cmoStarted_started k (op := 4) (by omega) 0 (s.setCore k { s.cores[k] with icache := [] })
      exact ⟨⟨hst.op, hst.busy⟩, RegsBut.setReg _ _ (by simp), rfl⟩
  · intro k s hb hp hw
    refine ⟨_, execCacheOperationDone_done hb hp hw, ?_, getSrcBit_setSrcBit .., ?_⟩
    · unfold onF setSrcBit
      rw [getReg_setF_ne _ _ _ (srcKey_ne_cmoCtrl k)]
      exact onF_setF_self _ _ _ _ rfl
    · exact OnlyRegs.trans (OnlyRegs.setF _ _ _ (by simp)) (OnlyRegs.setF _ _ _ (by simp))
  · intro line l s hf hd hp
    have h := writtenBack_issue line
      (r := ⟨64 * line, some l.data, false, chanOf s (64 * line), arrival s (chanOf s (64 * line)), 0⟩) rfl rfl s
    refine ⟨_, _, execL2WriteBack_dirty hf hd hp, h.rest, h.regs, ?_, fun j hj => ?_, h.waiting, h.addr, h.data⟩
    · rw [h.l2, Tab.find_erase_same]
    · rw [h.l2, Tab.find_erase_ne _ hj]
  · intro k g v s hu hp
    dsimp only
    have hr : ∀ p, 0xA8000 ≤ p → p ≤ 0xA803F → p % 4 = 0 → s.reaches (.core k) true p = true :=
      fun p h1 h2 h4 => priv_reaches ⟨h1, h2⟩ h4 hu hp
    have hout := privOutRun_drives k g v s
    have hset := privOutRun_drives k g (s.cores[k].privOut[g] ||| v) s
    have hclr := privOutRun_drives k g (s.cores[k].privOut[g] &&& ~~~v) s
    refine ⟨⟨_, execPinPrivOut_runs g v hr, hout.rest, hout.others, hout.core, hout.port⟩,
      ⟨_, execPinPrivSet_runs g v hr, _, ⟨hset.rest, hset.others, hset.core, hset.port⟩, fun i => ?_⟩,
      ⟨_, execPinPrivClr_runs g v hr, _, ⟨hclr.rest, hclr.others, hclr.core, hclr.port⟩, fun i => ?_⟩⟩
    · exact BitVec.getLsbD_or
    · rw [BitVec.getLsbD_and, BitVec.getLsbD_not]
      by_cases hi : i < 32
      · simp only [hi, decide_true, Bool.true_and]
      · rw [BitVec.getLsbD_of_ge _ _ (by omega), Bool.false_and, Bool.false_and]

end Sys2Proof.Machine
end

section
/-! SUPPORT. What the floor link's sendings leave of the messages and of the rest of the state. -/
namespace Sys2Proof.Machine

/-- A message of this type and body is in the queue. -/
def Queued (q : List FloorMsg) (type_ : Nat) (body : List Byte) : Prop := ∃ m ∈ q, m.type_ = type_ ∧ m.body = body

theorem queued_append (q : List FloorMsg) (type_ : Nat) (body : List Byte) :
    Queued (q ++ [⟨type_, body, none⟩]) type_ body :=
  ⟨_, List.mem_append_right _ (List.mem_singleton_self _), rfl, rfl⟩

/-- From s to t the floor link has at most sent: no message, item or checkpoint is lost or taken in, the clusters, the tilt
latch, the power and the trust cluster are as they were, and so is every register but the counters of what it sends. -/
structure Sends (s t : State) : Prop where
  clu : t.clu = s.clu
  tilt : t.tilt = s.tilt
  pwr : t.pwr = s.pwr
  sec : t.sec = s.sec
  regs : RegsBut s t [P.MEM_RANK 12, P.FLR_CNT]
  items : t.flr.items = s.flr.items
  part : t.flr.part = s.flr.part
  full : t.flr.full = s.flr.full
  ckpt : t.flr.ckpt = s.flr.ckpt
  queue : ∀ type_ body, Queued s.flr.queue type_ body → Queued t.flr.queue type_ body

theorem Sends.refl (s : State) : Sends s s := ⟨rfl, rfl, rfl, rfl, fun _ _ => rfl, rfl, rfl, rfl, rfl, fun _ _ hq => hq⟩

/-- A change of registers, arbiters and free values only. -/
theorem Sends.of_regsBut {s t : State} (h : t = { s with regs := t.regs, mc := t.mc, free := t.free })
    (hr : RegsBut s t [P.MEM_RANK 12, P.FLR_CNT]) : Sends s t :=
  ⟨by rw [h], by rw [h], by rw [h], by rw [h], hr, by rw [h], by rw [h], by rw [h], by rw [h],
    by rw [h]; exact fun _ _ hq => hq⟩

section
variable {s t : State} (h : Sends s t)
include h

theorem Sends.trans {u : State} (h2 : Sends t u) : Sends s u :=
  ⟨h2.clu.trans h.clu, h2.tilt.trans h.tilt, h2.pwr.trans h.pwr, h2.sec.trans h.sec, RegsBut.trans h.regs h2.regs,
    h2.items.trans h.items, h2.part.trans h.part, h2.full.trans h.full, h2.ckpt.trans h.ckpt,
    fun type_ body hq => h2.queue type_ body (h.queue type_ body hq)⟩

theorem Sends.addCnt (f : Fld) (n : Nat) : Sends s (addF t P.FLR_CNT f n) :=
  h.trans (.of_regsBut rfl (RegsBut.setReg t _ (by simp)))

theorem Sends.issueAll (rs : List MemReq) : Sends s (issueAll 12 rs t) := by
  refine h.trans (.of_regsBut ?_ ?_)
  · unfold Machine.issueAll
    dsimp only
    rw [setRequester_only]
  · exact RegsBut.mono (setRequester_regsBut 12 _ t) (by simp)

theorem Sends.draw : Sends s t.draw := h.trans (.of_regsBut rfl fun _ _ => rfl)

theorem Sends.requeue {f : Flr} (hi : f.items = t.flr.items) (hp : f.part = t.flr.part) (hf : f.full = t.flr.full)
    (hc : f.ckpt = t.flr.ckpt) (hq : ∀ type_ body, Queued s.flr.queue type_ body → Queued f.queue type_ body) :
    Sends s (setFlr f t) :=
  ⟨h.clu, h.tilt, h.pwr, h.sec, h.regs, hi.trans h.items, hp.trans h.part, hf.trans h.full, hc.trans h.ckpt, hq⟩

theorem Sends.setFlr {f : Flr} (hi : f.items = t.flr.items) (hp : f.part = t.flr.part) (hf : f.full = t.flr.full)
    (hc : f.ckpt = t.flr.ckpt) (hq : f.queue = t.flr.queue) : Sends s (setFlr f t) :=
  h.requeue hi hp hf hc (by rw [hq]; exact h.queue)

theorem Sends.ite {c : Prop} [Decidable c] {u : State} (h2 : Sends s u) : Sends s (if c then t else u) := by
  split
  · exact h
  · exact h2

theorem Sends.fold {α : Type} {f : State → α → State} {xs : List α} (hf : ∀ u x, Sends s u → Sends s (f u x)) :
    Sends s (xs.foldl f t) :=
  List.foldlRecOn (motive := Sends s) xs f h fun u hu x _ => hf u x hu

theorem Sends.floorFetch (n : Nat) : Sends s (floorFetch n t) := (h.issueAll _).draw

theorem Sends.floorStore (bs : List Byte) : Sends s (floorStore bs t) := (h.issueAll _).draw

theorem Sends.resolveHop : Sends s (resolveHop t) := .ite h (h.setFlr rfl rfl rfl rfl rfl)

theorem Sends.sendFragment (type_ count msg : Nat) (again : Bool) (part : List Byte × Nat) :
    Sends s (sendFragment type_ count msg again part t) :=
  ((h.resolveHop.addCnt _ _).addCnt _ _).setFlr rfl rfl rfl rfl rfl

theorem Sends.sendMessage (type_ : Nat) (body : List Byte) (again : Option Nat) : Sends s (sendMessage type_ body again t) :=
  (Sends.ite h (h.floorFetch _)).fold fun _ x hu => hu.sendFragment _ _ _ _ x

theorem Sends.sendRecord : Sends s (sendRecord t) := by
  have hw : ∀ n, Sends s (Machine.setFlr { t.flr with ledger := n } t) := fun n => h.setFlr rfl rfl rfl rfl rfl
  unfold Machine.sendRecord
  dsimp only
  refine Sends.ite h ?_
  cases oldestRecord t with
  | none => exact hw none
  | some r => exact (hw _).sendMessage _ _ _

end

theorem Sends.sendQueued {s t : State} (h : Sends s t) (n : Nat) (ms : List FloorMsg) : Sends s (sendQueued n ms t).2 := by
  induction ms generalizing n t with
  | nil => exact h
  | cons m ms ih =>
    unfold Machine.sendQueued
    split
    · exact ih h n
    split
    · exact ih (h.sendMessage _ _ _) (n + 1)
    · exact h

/-- What is sent of a queue stays in it. -/
theorem queued_sendQueued {type_ : Nat} {body : List Byte} (n : Nat) {ms : List FloorMsg} (t : State)
    (h : Queued ms type_ body) : Queued (sendQueued n ms t).1 type_ body := by
  induction ms generalizing n t with
  | nil => exact h
  | cons m ms ih =>
    obtain ⟨x, hx, hb⟩ := h
    have htail : x ∈ ms → ∀ n t, Queued (sendQueued n ms t).1 type_ body := fun hm n t => ih n t ⟨x, hm, hb⟩
    unfold Machine.sendQueued
    split
    · rcases List.mem_cons.1 hx with rfl | hm
      · exact ⟨x, List.mem_cons_self .., hb⟩
      · obtain ⟨y, hy, hby⟩ := htail hm n t
        exact ⟨y, List.mem_cons_of_mem _ hy, hby⟩
    split
    · rcases List.mem_cons.1 hx with rfl | hm
      · exact ⟨_, List.mem_cons_self .., hb⟩
      · obtain ⟨y, hy, hby⟩ := htail hm _ _
        exact ⟨y, List.mem_cons_of_mem _ hy, hby⟩
    · exact ⟨x, hx, hb⟩

theorem Sends.floorPump {s t : State} (h : Sends s t) : Sends s (floorPump t) := by
  refine .ite ?_ h
  have h1 := h.sendRecord
  exact (h1.sendQueued _ _).requeue rfl rfl rfl rfl fun type_ body hq => queued_sendQueued _ _ (h1.queue type_ body hq)

end Sys2Proof.Machine
end

section
/-! SUPPORT. The messages that a command creates, and the items of the open game. -/
namespace Sys2Proof.Machine

/-! ## What a state shows the floor link -/

/-- The power and the registers from which the floor link reads its run state, its session and its buffer are the same. -/
structure FloorSees (s t : State) : Prop where
  pwr : t.pwr = s.pwr
  stat : getReg t P.FLR_STAT = getReg s P.FLR_STAT
  buf : getReg t P.FLR_BUF = getReg s P.FLR_BUF

theorem FloorSees.runs {s t : State} (h : FloorSees s t) : floorRuns t = floorRuns s := by
  rw [floorRuns, floorRuns, State.powered, State.powered, h.pwr, onF, onF, h.stat]

theorem FloorSees.session {s t : State} (h : FloorSees s t) : floorSession t = floorSession s := by
  rw [floorSession, floorSession, getF, getF, h.stat]

theorem FloorSees.size {s t : State} (h : FloorSees s t) : floorSize t = floorSize s := by
  rw [floorSize, floorSize, getF, getF, h.buf]

theorem FloorSees.base {s t : State} (h : FloorSees s t) : floorBase t = floorBase s := by
  rw [floorBase, floorBase, getF, getF, h.buf]

theorem FloorSees.trans {s t u : State} (h1 : FloorSees s t) (h2 : FloorSees t u) : FloorSees s u :=
  ⟨h2.pwr.trans h1.pwr, h2.stat.trans h1.stat, h2.buf.trans h1.buf⟩

theorem setFlr_sees (f : Flr) (s : State) : FloorSees s (setFlr f s) := ⟨rfl, rfl, rfl⟩

theorem Sends.sees {s t : State} (h : Sends s t) : FloorSees s t :=
  ⟨h.pwr, h.regs _ (by decide), h.regs _ (by decide)⟩

/-! ## The buffer -/

theorem floorStore_flr (bs : List Byte) (s : State) : (floorStore bs s).flr = s.flr := by
  unfold floorStore issueAll
  dsimp only [State.draw]
  rw [setRequester_only]

/-- The item that joins is written by requester 12 at a place in the buffer. -/
theorem waiting_floorStore {bs : List Byte} {s : State} (h0 : 0 < bs.length) (h64 : bs.length ≤ 64) (hs : 0 < floorSize s) :
    ∃ r, (requester (floorStore bs s) 12).waiting = (requester s 12).waiting ++ [r] ∧ r.data = some bs ∧
      floorBase s ≤ r.addr ∧ r.addr < floorBase s + floorSize s := by
  have hn : (bs.length + 63) / 64 = 1 := by omega
  have hburst : floorBursts bs.length s = [floorBase s + 64 * (Config.floorPlace s.free % (floorSize s / 64))] := by
    simp [floorBursts, hn]
  have hmod : Config.floorPlace s.free % (floorSize s / 64) < floorSize s / 64 := by
    refine Nat.mod_lt _ ?_
    unfold floorSize at hs ⊢
    omega
  refine ⟨floorRequest s (floorBase s + 64 * (Config.floorPlace s.free % (floorSize s / 64))) (some bs), ?_, rfl,
    Nat.le_add_right .., ?_⟩
  · refine (waiting_issueAll 12 _ s).trans ?_
    rw [hburst]
    simp [List.take_of_length_le h64]
  · change floorBase s + 64 * (Config.floorPlace s.free % (floorSize s / 64)) < floorBase s + floorSize s
    omega

theorem floorPut_fits {held : Nat} {body : List Byte} {s : State} (type_ : Nat) (hr : floorRuns s = true)
    (hu : s.flr.use + body.length ≤ floorSize s) : floorPut type_ held body s =
      setFlr { s.flr with queue := s.flr.queue ++ [⟨type_, body, none⟩] }
        (floorStore (body.take (body.length - held)) s) := by
  rw [floorPut, hr, Bool.not_true, if_neg Bool.false_ne_true, if_pos hu]

/-- A message that fits has been created, and the floor link has at most sent beside it. -/
theorem sends_floorPut {held : Nat} {body : List Byte} {s : State} (type_ : Nat) (hr : floorRuns s = true)
    (hu : s.flr.use + body.length ≤ floorSize s) :
    Sends s (floorPut type_ held body s) ∧ Queued (floorPut type_ held body s).flr.queue type_ body := by
  rw [floorPut_fits type_ hr hu]
  refine ⟨((Sends.refl s).floorStore _).requeue ?_ ?_ ?_ ?_ ?_, queued_append ..⟩
  · rw [floorStore_flr]
  · rw [floorStore_flr]
  · rw [floorStore_flr]
  · rw [floorStore_flr]
  · exact fun t b ⟨m, hm, h⟩ => ⟨m, List.mem_append_left _ hm, h⟩

/-! ## Items -/

theorem use_noItems {f : Flr} (h : f.items = []) : f.use = (f.queue.map (fun m => m.body.length)).sum := by
  rw [Flr.use, if_pos h, Nat.add_zero]

theorem use_items {f : Flr} (h : f.items ≠ []) :
    f.use = (f.queue.map (fun m => m.body.length)).sum + (64 + 40 * f.items.length) := by
  rw [Flr.use, if_neg h]

/-- The bytes that an item takes of the buffer, the head of a part with its first item. -/
def itemUse (f : Flr) : Nat := f.use + 40 + (if f.items = [] then 64 else 0)

/-- A part that becomes a message takes of the buffer what it took with its last item. -/
theorem use_part {f : Flr} (h : f.items ≠ []) (n : Nat) :
    ({ f with items := [], part := n } : Flr).use + (64 + 40 * (f.items.length + 1)) = itemUse f := by
  rw [use_noItems rfl, itemUse, use_items h, if_neg h]
  generalize (f.queue.map (fun m => m.body.length)).sum = q
  omega

theorem floorItem_over {item : List Byte} {s : State} (g : Nat) (h : floorSize s < itemUse s.flr) :
    floorItem g item s = setFlr { s.flr with full := true } s := by
  unfold floorItem
  exact if_pos h

theorem floorItem_joins {item : List Byte} {s : State} (g : Nat) (h : itemUse s.flr ≤ floorSize s)
    (hn : s.flr.items.length < 5999) :
    floorItem g item s = setFlr { s.flr with items := s.flr.items ++ [item] } (floorStore item s) := by
  have hlen : (s.flr.items ++ [item]).length < 6000 := by simp; omega
  unfold floorItem
  refine (if_neg (Nat.not_lt.2 h)).trans ((if_pos hlen).trans ?_)
  rw [floorStore_flr]

theorem floorItem_part {item : List Byte} {s : State} (g : Nat) (h : itemUse s.flr ≤ floorSize s)
    (hn : s.flr.items.length = 5999) : floorItem g item s =
      floorPart (gameBody g s.flr.part false (natToLe 8 0) (List.replicate 32 0) (s.flr.items ++ [item])) (s.flr.part + 1)
        (floorStore item s) := by
  have hlen : ¬(s.flr.items ++ [item]).length < 6000 := by simp; omega
  unfold floorItem
  exact (if_neg (Nat.not_lt.2 h)).trans (if_neg hlen)

theorem natToLe_length (n v : Nat) : (natToLe n v).length = n := by
  induction n generalizing v with
  | zero => rfl
  | succ n ih => simp [natToLe, ih]

theorem gameBody_length {g part : Nat} {last : Bool} {items : List (List Byte)} (h : ∀ x ∈ items, x.length = 40) :
    (gameBody g part last (natToLe 8 0) (List.replicate 32 0) items).length = 64 + 40 * items.length := by
  have hflat : items.flatten.length = 40 * items.length := by
    rw [List.length_flatten, List.map_congr_left h]
    simp [Nat.mul_comm]
  simp only [gameBody, List.length_append, natToLe_length, List.length_replicate, hflat]

/-! ## The settling of a command's messages -/

theorem sends_floorQuiet (s : State) : Sends s (floorQuiet s) := (Sends.refl s).setFlr rfl rfl rfl rfl rfl

theorem floorSettle_sends {s : State} (h : s.flr.full = false) : Sends s (floorSettle s) := by
  have hp := (sends_floorQuiet s).floorPump
  rw [floorSettle, floorFull, if_neg (by rw [hp.full, h]; exact Bool.false_ne_true)]
  exact hp

theorem floorSettle_notReady {s : State} (h : s.flr.full = false) (hs : floorSession s ≠ 2) :
    floorSettle s = floorQuiet s := by
  have hq : floorPump (floorQuiet s) = floorQuiet s := by
    have : floorSession (floorQuiet s) ≠ 2 := by rwa [(sends_floorQuiet s).sees.session]
    rw [floorPump, decide_eq_false this, Bool.and_false, Bool.false_and, if_neg Bool.false_ne_true]
  rw [floorSettle, floorFull, hq, if_neg]
  rw [(sends_floorQuiet s).full, h]
  exact Bool.false_ne_true

/-- A full buffer is reported with its cause, and taken to the tilt latch. -/
structure FullReported (s t : State) : Prop where
  exports : ∀ d : Fin 4, t.clu[d].export_ = s.clu[d].export_
  items : t.flr.items = s.flr.items
  cause : getF t P.FLR_STAT F.FLR_STAT_tilt_cause = 1
  tilt : s.pwr.inReset = false → s.tilt.code = none → t.tilt.code = some 0x3001

theorem floorSettle_full {s : State} (h : s.flr.full = true) : FullReported s (floorSettle s) := by
  have hp := (sends_floorQuiet s).floorPump
  rw [floorSettle, floorFull, if_pos (by rw [hp.full, h])]
  generalize floorPump (floorQuiet s) = p at hp
  have hcause : getF (setF (setFlr { p.flr with full := false } p) P.FLR_STAT F.FLR_STAT_tilt_cause 1) P.FLR_STAT
      F.FLR_STAT_tilt_cause = 1 := getF_setF_self _ _ _ _ rfl
  generalize hu : setF (setFlr { p.flr with full := false } p) P.FLR_STAT F.FLR_STAT_tilt_cause 1 = u at hcause
  refine ⟨fun d => ?_, ?_, ?_, fun hr ht => raiseTilt_code _ ?_ ?_⟩
  · rw [raiseTilt_export, ← hu, ← hp.clu]; rfl
  · rw [raiseTilt_flr, ← hu, ← hp.items]; rfl
  · rw [getF, raiseTilt_reg _ (by unfold tiltSpares; decide)]
    exact hcause
  · rw [← hu, ← hr, ← hp.pwr]; rfl
  · rw [← hu, ← ht, ← hp.tilt]; rfl

end Sys2Proof.Machine
end

section
/-! SUPPORT. A digest queue drained into the floor link. -/
namespace Sys2Proof.Machine

/-! ## The queue -/

theorem setExport_export (d : Fin 4) (q : List ExportEntry) (s : State) : (setExport d q s).clu[d].export_ = q :=
  congrArg Cluster.export_ (setClu_same d _ s)

theorem setExport_sees (d : Fin 4) (q : List ExportEntry) (s : State) : FloorSees s (setExport d q s) := by
  have hd := d.isLt
  refine ⟨rfl, ?_, ?_⟩
  · exact getReg_setF_ne _ _ _ (by unfold P.FLR_STAT P.DIG_STAT; omega)
  · exact getReg_setF_ne _ _ _ (by unfold P.FLR_BUF P.DIG_STAT; omega)

section
variable {d : Fin 4} {e : ExportEntry} {rest : List ExportEntry} {s : State} (he : s.clu[d].export_ = e :: rest)
include he

theorem execDigestDrain_waits (h : (!floorRuns s || !s.powered (pdComposer d.val) ||
    (e.isRecall && decide (floorSession s ≠ 2))) = true) : execDigestDrain d s = .next s := by
  simp only [execDigestDrain, he, h, if_true]

variable (hr : floorRuns s = true) (hp : s.powered (pdComposer d.val) = true)
include hr hp

theorem execDigestDrain_noGame (hk : e.isRecall = false) (hg : s.ldg.game = none) :
    execDigestDrain d s = .next (setExport d rest s) := by
  simp only [execDigestDrain, he, hr, hp, hk, hg, Bool.not_true, Bool.false_and, Bool.or_self, Bool.false_eq_true,
    if_false]

theorem execDigestDrain_game (hk : e.isRecall = false) {g : Nat} (hg : s.ldg.game = some g) : execDigestDrain d s =
    .next (floorSettle (floorItem g (natToLe 4 e.frame ++ natToLe 4 (exportWord1 d e) ++ e.digest)
      (setExport d rest s))) := by
  simp only [execDigestDrain, he, hr, hp, hk, hg, Bool.not_true, Bool.false_and, Bool.or_self, Bool.false_eq_true,
    if_false]

theorem execDigestDrain_recall (hk : e.isRecall = true) (hs : floorSession s = 2) : execDigestDrain d s =
    if floorVersion s < 2 then .next (setExport d rest s)
    else .next (floorSettle (floorMessage 0x31 (exportBytes d e) (setExport d rest s))) := by
  simp only [execDigestDrain, he, hr, hp, hk, hs, Bool.not_true, ne_eq, not_true_eq_false, decide_false, Bool.and_false,
    Bool.or_self, Bool.false_eq_true, if_false, if_true]

end

/-! ## What the drained entry leaves -/

/-- An item has joined the open game. -/
structure Joined (item : List Byte) (s t : State) : Prop where
  clu : t.clu = s.clu
  tilt : t.tilt = s.tilt
  items : t.flr.items = s.flr.items ++ [item]
  part : t.flr.part = s.flr.part

theorem settled_floorItem_joins {item : List Byte} {s : State} (g : Nat) (hf : s.flr.full = false)
    (h : itemUse s.flr ≤ floorSize s) (hn : s.flr.items.length < 5999) :
    Joined item s (floorSettle (floorItem g item s)) := by
  have h1 := (Sends.refl s).floorStore item
  rw [floorItem_joins g h hn]
  have h2 := floorSettle_sends (s := setFlr { s.flr with items := s.flr.items ++ [item] } (floorStore item s)) hf
  exact ⟨h2.clu.trans h1.clu, h2.tilt.trans h1.tilt, h2.items, h2.part⟩

/-- While the session is not ready the write of the item is all that requester 12 is given. -/
theorem settled_floorItem_waiting {item : List Byte} {s : State} (g : Nat) (hf : s.flr.full = false)
    (h : itemUse s.flr ≤ floorSize s) (hn : s.flr.items.length < 5999) (hs : floorSession s ≠ 2)
    (hlen : item.length = 40) : ∃ r, (requester (floorSettle (floorItem g item s)) 12).waiting =
        (requester s 12).waiting ++ [r] ∧ r.data = some item ∧ floorBase s ≤ r.addr ∧
        r.addr < floorBase s + floorSize s := by
  have hsize : 0 < floorSize s := by unfold itemUse at h; omega
  obtain ⟨r, hr, hdata, haddr⟩ := waiting_floorStore (bs := item) (by omega) (by omega) hsize
  have hses : floorSession (floorStore item s) ≠ 2 := by rwa [((Sends.refl s).floorStore item).sees.session]
  rw [floorItem_joins g h hn]
  generalize floorStore item s = u at hr hses
  have hq := floorSettle_notReady (s := setFlr { s.flr with items := s.flr.items ++ [item] } u) hf
    (by rwa [(setFlr_sees _ u).session])
  refine ⟨r, ?_, hdata, haddr⟩
  rw [hq, ← hr]
  rfl

/-- A part has become a message, and the next part has begun. -/
structure Parted (g : Nat) (item : List Byte) (s t : State) : Prop where
  clu : t.clu = s.clu
  tilt : t.tilt = s.tilt
  items : t.flr.items = []
  part : t.flr.part = s.flr.part + 1
  message : Queued t.flr.queue 0x30
    (gameBody g s.flr.part false (natToLe 8 0) (List.replicate 32 0) (s.flr.items ++ [item]))

theorem settled_floorItem_part {item : List Byte} {s : State} (g : Nat) (hr : floorRuns s = true)
    (hf : s.flr.full = false) (h : itemUse s.flr ≤ floorSize s) (hn : s.flr.items.length = 5999)
    (h40 : ∀ x ∈ s.flr.items ++ [item], x.length = 40) : Parted g item s (floorSettle (floorItem g item s)) := by
  have h1 := (Sends.refl s).floorStore item
  have hflr := floorStore_flr item s
  rw [floorItem_part g h hn, floorPart]
  generalize hbody : gameBody g s.flr.part false (natToLe 8 0) (List.replicate 32 0) (s.flr.items ++ [item]) = body
  generalize floorStore item s = u at h1 hflr
  have hlen : body.length = 64 + 40 * (s.flr.items.length + 1) := by
    rw [← hbody, gameBody_length h40, List.length_append, List.length_singleton]
  have hne : s.flr.items ≠ [] := List.ne_nil_of_length_pos (by omega)
  have huse : ({ s.flr with items := [], part := s.flr.part + 1 } : Flr).use + body.length ≤ floorSize s := by
    rw [hlen, use_part hne]
    exact h
  rw [hflr]
  obtain ⟨h2, hq⟩ := sends_floorPut (held := body.length - 64)
    (s := setFlr { s.flr with items := [], part := s.flr.part + 1 } u) 0x30
    (by rw [(setFlr_sees _ u).runs, h1.sees.runs, hr]) (by rw [(setFlr_sees _ u).size, h1.sees.size]; exact huse)
  have h3 := floorSettle_sends (h2.full.trans hf)
  refine ⟨h3.clu.trans (h2.clu.trans h1.clu), h3.tilt.trans (h2.tilt.trans h1.tilt), h3.items.trans h2.items,
    h3.part.trans h2.part, ?_⟩
  rw [hbody]
  exact h3.queue _ _ hq

end Sys2Proof.Machine
end

section
/-! SUPPORT. A checkpoint signed. -/
namespace Sys2Proof.Machine

/-! ## Signatures -/

theorem slhHolds_length {set : Nat} {pre : Bool} {sk ctx msg sig : List Byte}
    (h : slhHolds set pre sk ctx msg sig = true) : sig.length = sigLen set := by
  have hbody := (Bool.and_eq_true_iff.1 h).2
  exact of_decide_eq_true (Bool.and_eq_true_iff.1 hbody).1

theorem mgmtDraw_draws {g : Drbg} {s : State} (n : Nat) (hm : s.sec.mgmt = some g) (hc : g.count ≤ 65536) :
    mgmtDraw n s = (some (drbgGenerate g n).1, setMgmt (drbgGenerate g n).2 s) := by
  simp only [mgmtDraw, hm, hc, if_true]

theorem drbgGenerate_count (g : Drbg) {n : Nat} (h : g.count < n) : (drbgGenerate g 16).2.count ≤ n := h

/-- SignedAs speaks of the signature, the management generator and the tilt latch only. -/
theorem SignedAs.congr {set : Nat} {pre : Bool} {sk ctx msg e1 e2 : List Byte} {d : Drbg} {s s' t t' : State}
    (h : SignedAs set pre sk ctx msg e1 e2 d s t) (hsig : t'.sec.sig = t.sec.sig) (hmgmt : t'.sec.mgmt = t.sec.mgmt)
    (htilt : t'.tilt = t.tilt) (hs : s'.sec = s.sec) (hp : s'.pwr = s.pwr) (hl : s'.tilt = s.tilt) :
    SignedAs set pre sk ctx msg e1 e2 d s' t' := by
  unfold SignedAs at h ⊢
  rw [hsig, hmgmt, htilt, hs, hp, hl]
  exact h

/-- The trust cluster once a job has released a signature and left the management generator as d. -/
def signedWith (d : Drbg) (sig : List Byte) (x : Trust) : Trust :=
  { x with mgmt := some d, mgmtWaits := false, sig := sig }

section
variable (set : Nat) (pre : Bool) (sk ctx msg e1 e2 : List Byte) {g : Drbg} {s : State}
  (hm : s.sec.mgmt = some g) (hc : g.count < 65536) (hd : s.sec.redraw = false)
include hm hc hd

/-- A job that releases a signature changes the trust cluster only. -/
theorem slhSignOp_signs (hrel : Sys2Proof.released set pre sk ctx msg e1 e2 g = true) :
    ∃ sig x, slhSignOp set pre sk ctx msg e1 e2 s = (.signed sig, { s with sec := x }) ∧ x.sig = sig ∧
      sig.length = sigLen set ∧ SignedAs set pre sk ctx msg e1 e2 g s { s with sec := x } := by
  have h1 := mgmtDraw_draws 16 hm hc.le
  have h2 := mgmtDraw_draws (s := setMgmt (drbgGenerate g 16).2 s) 16 rfl (drbgGenerate_count g hc)
  cases hone : slhHolds set pre sk ctx msg (slhMade set pre sk ctx msg (drbgGenerate g 16).1 e1) with
  | true =>
    refine ⟨_, signedWith (drbgGenerate g 16).2
      (slhMade set pre sk ctx msg (drbgGenerate g 16).1 e1) s.sec, ?_, rfl, slhHolds_length hone, ?_⟩
    · simp only [slhSignOp, hd, h1, hone, Bool.false_eq_true, if_false, if_true, releaseSig, setMgmt, signedWith]
    · simp only [SignedAs, signedWith, hone, if_true, Bool.not_true, Bool.false_and, Bool.false_eq_true,
        false_implies, and_self]
  | false =>
    have htwo : slhHolds set pre sk ctx msg
        (slhMade set pre sk ctx msg (drbgGenerate (drbgGenerate g 16).2 16).1 e2) = true := by
      simpa only [Sys2Proof.released, hone, Bool.false_or] using hrel
    refine ⟨_, signedWith (drbgGenerate (drbgGenerate g 16).2 16).2
      (slhMade set pre sk ctx msg (drbgGenerate (drbgGenerate g 16).2 16).1 e2) { s.sec with redraw := false }, ?_, rfl,
      slhHolds_length htwo, ?_⟩
    · simp only [slhSignOp, slhAgain, hd, h1, h2, hone, htwo, Bool.false_eq_true, if_false, if_true]
      simp only [releaseSig, setMgmt, setRedraw, signedWith]
    · simp only [SignedAs, signedWith, hone, htwo, Bool.false_eq_true, if_false, if_true, Bool.not_true, Bool.and_false,
        Bool.false_and, false_implies, and_self]

/-- A job whose two signatures fail their checks. -/
theorem slhSignOp_fails (hrel : Sys2Proof.released set pre sk ctx msg e1 e2 g = false) :
    ∃ u, slhSignOp set pre sk ctx msg e1 e2 s = (.failed, u) ∧ SignedAs set pre sk ctx msg e1 e2 g s u := by
  have h1 := mgmtDraw_draws 16 hm hc.le
  have h2 := mgmtDraw_draws (s := setMgmt (drbgGenerate g 16).2 s) 16 rfl (drbgGenerate_count g hc)
  obtain ⟨hone, htwo⟩ := Bool.or_eq_false_iff.1 hrel
  refine ⟨_, by simp only [slhSignOp, slhAgain, hd, h1, h2, hone, htwo, Bool.false_eq_true, if_false]; rfl, ?_⟩
  generalize hu : setF (setRedraw false (setMgmt (drbgGenerate (drbgGenerate g 16).2 16).2
    (setMgmt (drbgGenerate g 16).2 s))) P.SEC_STAT F.SEC_STAT_tilt_cause 4 = u
  simp only [SignedAs, hone, htwo, Bool.false_eq_true, if_false, Bool.not_false, Bool.true_and, Bool.and_eq_true,
    Bool.not_eq_true', Option.isNone_iff_eq_none]
  refine ⟨?_, ?_, fun ⟨hr, ht⟩ => raiseTilt_code _ ?_ ?_⟩
  · rw [raiseTilt_sig, ← hu]; rfl
  · rw [raiseTilt_mgmt, ← hu]; rfl
  · rw [← hr, ← hu]; rfl
  · rw [← ht, ← hu]; rfl

end

/-! ## The checkpoint that waits -/

theorem checkpointStart_waiting {s : State} (h : s.flr.ckpt.isSome = true) : checkpointStart s = s :=
  if_pos (Bool.or_eq_true_iff.2 (.inr h))

/-- From s to t checkpoint periods have been counted at most. -/
structure PeriodsCounted (s t : State) : Prop where
  sees : FloorSees s t
  sec : t.sec = s.sec
  tilt : t.tilt = s.tilt
  ckpt : t.flr.ckpt = s.flr.ckpt
  full : t.flr.full = s.flr.full
  use : t.flr.use = s.flr.use

/-- A checkpoint that waits is not begun anew: a period that has passed is counted. -/
theorem checkpointDue_waiting {s : State} (h : s.flr.ckpt.isSome = true) : PeriodsCounted s (checkpointDue s) := by
  unfold checkpointDue
  split
  · rw [checkpointStart_waiting]
    · exact ⟨⟨rfl, rfl, rfl⟩, rfl, rfl, rfl, rfl, rfl⟩
    · exact h
  · exact ⟨⟨rfl, rfl, rfl⟩, rfl, rfl, rfl, rfl, rfl⟩

section
variable {body sk : List Byte} (e1 e2 : List Byte) {s u : State} (hr : floorRuns s = true) (hs : floorSession s = 2)
  (hv : 2 ≤ floorVersion s) (hp : s.powered 2 = true) (hb : (checkpointDue s).flr.ckpt = some body)
  (hk : (checkpointDue s).sec.ckpt = some sk)
include hr hs hv hp hb hk

theorem checkpointSigned_signed {sig : List Byte}
    (h : slhSignOp 1 false sk (ascii "AH7140-CHECKPOINT") body e1 e2 (checkpointDue s) = (.signed sig, u)) :
    checkpointSigned e1 e2 s = floorSettle (floorMessage 0x40 (body ++ sig) (setFlr { u.flr with ckpt := none } u)) := by
  simp only [checkpointSigned, hr, hs, Nat.not_lt.2 hv, hp, hb, hk, h, Bool.not_true, ne_eq, not_true_eq_false,
    decide_false, Bool.or_self, Bool.false_eq_true, if_false]

theorem checkpointSigned_failed
    (h : slhSignOp 1 false sk (ascii "AH7140-CHECKPOINT") body e1 e2 (checkpointDue s) = (.failed, u)) :
    checkpointSigned e1 e2 s = setFlr { u.flr with ckpt := none } u := by
  simp only [checkpointSigned, hr, hs, Nat.not_lt.2 hv, hp, hb, hk, h, Bool.not_true, ne_eq, not_true_eq_false,
    decide_false, Bool.or_self, Bool.false_eq_true, if_false]

end

/-- A checkpoint with its signature has become a message. -/
structure Checkpointed (msg : List Byte) (s t : State) : Prop where
  sec : t.sec = s.sec
  tilt : t.tilt = s.tilt
  ckpt : t.flr.ckpt = none
  message : Queued t.flr.queue 0x40 msg

theorem settled_checkpoint {msg : List Byte} {s : State} (hr : floorRuns s = true) (hf : s.flr.full = false)
    (hu : s.flr.use + msg.length ≤ floorSize s) :
    Checkpointed msg s (floorSettle (floorMessage 0x40 msg (setFlr { s.flr with ckpt := none } s))) := by
  obtain ⟨h1, hq⟩ := sends_floorPut (held := 0) (body := msg) (s := setFlr { s.flr with ckpt := none } s) 0x40
    (by rw [(setFlr_sees _ s).runs, hr]) (by rw [(setFlr_sees _ s).size]; exact hu)
  have h2 := floorSettle_sends (h1.full.trans hf)
  exact ⟨h2.sec.trans h1.sec, h2.tilt.trans h1.tilt, h2.ckpt.trans h1.ckpt, h2.queue _ _ hq⟩

end Sys2Proof.Machine
end

section
/-! THEOREM. Digests, recall evidence and checkpoints reported. -/
namespace Sys2Proof.Machine

/-- A recall entry that fits has become a message. -/
theorem settled_recall {body : List Byte} {s : State} (hr : floorRuns s = true) (hf : s.flr.full = false)
    (hu : s.flr.use + body.length ≤ floorSize s) : Sends s (floorSettle (floorMessage 0x31 body s)) ∧
      Queued (floorSettle (floorMessage 0x31 body s)).flr.queue 0x31 body := by
  obtain ⟨h1, hq⟩ := sends_floorPut (held := 0) 0x31 hr hu
  have h2 := floorSettle_sends (h1.full.trans hf)
  exact ⟨h1.trans h2, h2.queue _ _ hq⟩

/-- Settles O56: each entry drained and each checkpoint signed is one change of the link's messages or items, beside which
the link at most sends. -/
theorem floorReports : Obligations.FloorReports := by
  unfold Obligations.FloorReports
  refine ⟨fun d s h => ?_, ?_, ?_⟩
  · show execDigestDrain d s = _
    cases he : s.clu[d].export_ with
    | nil => simp only [execDigestDrain, he]
    | cons e rest =>
      refine execDigestDrain_waits he ?_
      rcases h with h | h | h
      · rw [he] at h; exact absurd h (List.cons_ne_nil _ _)
      · rw [h]; rfl
      · rw [h, Bool.not_false, Bool.or_true, Bool.true_or]
  · intro d e rest s he hr hp hf
    dsimp only
    have hexp := setExport_export d rest s
    have hsee := setExport_sees d rest s
    have hf1 : (setExport d rest s).flr.full = false := hf
    have hr1 : floorRuns (setExport d rest s) = true := hsee.runs.trans hr
    refine ⟨fun hk hs => ?_, fun h => ?_, fun g hk hg hsize => ?_, fun g hk hg hsize hn => ?_,
      fun g hk hg hsize hn h40 h32 => ?_, fun hk hs hv hu => ?_⟩
    · refine execDigestDrain_waits he ?_
      rw [hk, decide_eq_true hs, Bool.and_self, Bool.or_true]
    · rcases h with ⟨hk, hg⟩ | ⟨hk, hs, hv⟩
      · exact execDigestDrain_noGame he hr hp hk hg
      · exact (execDigestDrain_recall he hr hp hk hs).trans (if_pos hv)
    · have hover : floorSize (setExport d rest s) < itemUse (setExport d rest s).flr := by rw [hsee.size]; exact hsize
      refine ⟨_, execDigestDrain_game he hr hp hk hg, ?_⟩
      rw [floorItem_over g hover]
      have h1 := floorSettle_full (s := setFlr { (setExport d rest s).flr with full := true } (setExport d rest s)) rfl
      exact ⟨(h1.exports d).trans hexp, h1.items, h1.cause, h1.tilt⟩
    · have hfits : itemUse (setExport d rest s).flr ≤ floorSize (setExport d rest s) := by rw [hsee.size]; exact hsize
      have h1 := settled_floorItem_joins (item := natToLe 4 e.frame ++ natToLe 4 (exportWord1 d e) ++ e.digest) g hf1 hfits hn
      refine ⟨_, execDigestDrain_game he hr hp hk hg, by rw [h1.clu, hexp], h1.items, h1.part, h1.tilt, fun hs h32 => ?_⟩
      have h2 := settled_floorItem_waiting (item := natToLe 4 e.frame ++ natToLe 4 (exportWord1 d e) ++ e.digest) g hf1
        hfits hn (by rwa [hsee.session]) (by simp [natToLe_length, h32])
      rwa [hsee.base, hsee.size] at h2
    · have hfits : itemUse (setExport d rest s).flr ≤ floorSize (setExport d rest s) := by rw [hsee.size]; exact hsize
      have hitems : ∀ x ∈ (setExport d rest s).flr.items ++ [natToLe 4 e.frame ++ natToLe 4 (exportWord1 d e) ++ e.digest],
          x.length = 40 := by
        intro x hx
        rcases List.mem_append.1 hx with hx | hx
        · exact h40 x hx
        · rw [List.mem_singleton.1 hx]
          simp [natToLe_length, h32]
      have h1 := settled_floorItem_part g hr1 hf1 hfits hn hitems
      exact ⟨_, execDigestDrain_game he hr hp hk hg, by rw [h1.clu, hexp], h1.items, h1.part, h1.tilt, h1.message⟩
    · obtain ⟨h1, hq⟩ := settled_recall (body := exportBytes d e) hr1 hf1 (by rw [hsee.size]; exact hu)
      exact ⟨_, (execDigestDrain_recall he hr hp hk hs).trans (if_neg (Nat.not_lt.2 hv)), by rw [h1.clu, hexp], h1.tilt, hq⟩
  · intro body sk e1 e2 g s hr hs hv hp hf hb hk hm hc hd hu
    have hdue := checkpointDue_waiting (s := s) (by rw [hb]; rfl)
    have hm1 : (checkpointDue s).sec.mgmt = some g := by rw [hdue.sec, hm]
    have hd1 : (checkpointDue s).sec.redraw = false := by rw [hdue.sec, hd]
    have hb1 : (checkpointDue s).flr.ckpt = some body := by rw [hdue.ckpt, hb]
    have hk1 : (checkpointDue s).sec.ckpt = some sk := by rw [hdue.sec, hk]
    refine ⟨_, rfl, ?_⟩
    cases hrel : Sys2Proof.released 1 false sk (ascii "AH7140-CHECKPOINT") body e1 e2 g with
    | true =>
      obtain ⟨sig, x, hop, hsig, hlen, hsa⟩ :=
        slhSignOp_signs 1 false sk (ascii "AH7140-CHECKPOINT") body e1 e2 hm1 hc hd1 hrel
      rw [checkpointSigned_signed e1 e2 hr hs hv hp hb1 hk1 hop]
      have hsee : FloorSees s { checkpointDue s with sec := x } := FloorSees.trans hdue.sees ⟨rfl, rfl, rfl⟩
      have hfits : (checkpointDue s).flr.use + (body ++ sig).length ≤ floorSize s := by
        rw [hdue.use, List.length_append, hlen, ← Nat.add_assoc]
        exact hu
      have h1 := settled_checkpoint (msg := body ++ sig) (s := { checkpointDue s with sec := x }) (hsee.runs.trans hr)
        (hdue.full.trans hf) (by rw [hsee.size]; exact hfits)
      refine ⟨h1.ckpt, SignedAs.congr hsa (by rw [h1.sec]) (by rw [h1.sec]) h1.tilt hdue.sec.symm hdue.sees.pwr.symm
        hdue.tilt.symm, fun _ => ⟨h1.tilt.trans hdue.tilt, ?_⟩⟩
      rw [h1.sec, hsig]
      exact h1.message
    | false =>
      obtain ⟨u, hop, hsa⟩ := slhSignOp_fails 1 false sk (ascii "AH7140-CHECKPOINT") body e1 e2 hm1 hc hd1 hrel
      rw [checkpointSigned_failed e1 e2 hr hs hv hp hb1 hk1 hop]
      exact ⟨rfl, SignedAs.congr hsa rfl rfl rfl hdue.sec.symm hdue.sees.pwr.symm hdue.tilt.symm,
        fun h => absurd h Bool.false_ne_true⟩

end Sys2Proof.Machine
end

section
/-! SUPPORT. Palettes and coefficients written and swapped, and probe positions armed. -/
namespace Sys2Proof.Machine

theorem Tab.find_insert {α : Type} (t : Tab α) (k j : Nat) (x : α) :
    Tab.find (Tab.insert t k x) j = if j = k then some x else Tab.find t j := by
  split
  · next h => rw [h, Tab.find_insert_same]
  · next h => exact Tab.find_insert_ne t x h

/-! ## A cluster replaced and one register written -/

/-- Beside the cluster and the register nothing differs. -/
theorem setReg_setClu_frame (d : Fin 4) (c : Cluster) (key : Nat) (v : Word) (s : State) :
    RegsBut s (setReg (setClu d c s) key v) [key] ∧
    (∀ j : Fin 4, j ≠ d → (setReg (setClu d c s) key v).clu[j] = s.clu[j]) ∧
    setReg (setClu d c s) key v =
      { s with regs := (setReg (setClu d c s) key v).regs, clu := (setReg (setClu d c s) key v).clu } :=
  ⟨RegsBut.setReg (setClu d c s) v (List.mem_singleton.2 rfl), fun _ hj => setClu_ne hj c s, rfl⟩

/-! ## Palettes (R71, R77) -/

theorem execPaletteWrite_running {m : Master} {d : Fin 4} {s : State} (high : BitVec 8)
    (hr : s.reaches m true (P.PLN_PAL_HI d) = true) (h : seqRuns s d = true) :
    execPaletteWrite m d high s = .next s := by
  rw [execPaletteWrite, gate_reaches _ hr, palWrite, if_pos h]

/-- The cluster with the staged low word and the high byte in the palette entry that PLN_PAL_ADDR selects. -/
def palStored (s : State) (d : Fin 4) (high : BitVec 8) : Cluster :=
  { s.clu[d] with
    pal := Tab.insert s.clu[d].pal (getF s (P.PLN_PAL_ADDR d) F.PLN_PAL_ADDR_entry) (high ++ getReg s (P.PLN_PAL_LO d)) }

theorem ofNat_halves (high : BitVec 8) (low : Word) :
    BitVec.ofNat 40 (low.toNat + 4294967296 * high.toNat) = high ++ low := by
  apply BitVec.eq_of_toNat_eq
  have hl := low.isLt
  rw [BitVec.toNat_append, ← Nat.shiftLeft_add_eq_or_of_lt hl, BitVec.toNat_ofNat, Nat.shiftLeft_eq,
    Nat.mod_eq_of_lt (by have := high.isLt; omega)]
  omega

theorem execPaletteWrite_stopped {m : Master} {d : Fin 4} {s : State} (high : BitVec 8)
    (hr : s.reaches m true (P.PLN_PAL_HI d) = true) (h : seqRuns s d = false) :
    execPaletteWrite m d high s = .next (setF (setClu d (palStored s d high) s) (P.PLN_PAL_ADDR d)
      F.PLN_PAL_ADDR_entry (getF s (P.PLN_PAL_ADDR d) F.PLN_PAL_ADDR_entry + 1)) := by
  rw [execPaletteWrite, gate_reaches _ hr, palWrite, if_neg (by simp [h]), palStored, ← ofNat_halves]
  rfl

/-! ## Coefficients (R70, R71, R77) -/

/-- The cluster with a value in the shadow coefficient that PLN_COEF_ADDR selects, if it selects one. -/
def coefStored (s : State) (d : Fin 4) (v : BitVec 10) : Cluster :=
  { s.clu[d] with
    coefs := match shadowKey s d with
      | some k => Tab.insert s.clu[d].coefs k v
      | none => s.clu[d].coefs }

theorem find_coefStored (s : State) (d : Fin 4) (v : BitVec 10) (key : Nat) :
    Tab.find (coefStored s d v).coefs key =
      if shadowKey s d = some key then some v else Tab.find s.clu[d].coefs key := by
  unfold coefStored
  cases h : shadowKey s d with
  | none => simp
  | some k => simp [Tab.find_insert, eq_comm]

theorem setClu_self (d : Fin 4) (s : State) : setClu d s.clu[d] s = s := by
  have h : s.clu.set d s.clu[d] = s.clu := Vector.set_getElem_self _
  rw [setClu, h]

/-- PLN_COEF_ADDR advanced as one counter of 12 bits. -/
def nextCoefAddr (s : State) (d : Fin 4) : Nat := ((getReg s (P.PLN_COEF_ADDR d)).toNat % 4096 + 1) % 4096

theorem coefWrite_eq (s : State) (d : Fin 4) (v : BitVec 10) :
    coefWrite d v s = setReg (setClu d (coefStored s d v) s) (P.PLN_COEF_ADDR d) (BitVec.ofNat 32 (nextCoefAddr s d)) := by
  unfold coefWrite coefStored
  cases h : shadowKey s d with
  | none =>
    have hc : setClu d { s.clu[d] with coefs := s.clu[d].coefs } s = s := setClu_self d s
    simp only [hc]
    rfl
  | some k => rfl

theorem execCoefWrite_reaches {m : Master} {d : Fin 4} {s : State} (v : BitVec 10)
    (hr : s.reaches m true (P.PLN_COEF_DATA d) = true) : execCoefWrite m d v s = .next
      (setReg (setClu d (coefStored s d v) s) (P.PLN_COEF_ADDR d) (BitVec.ofNat 32 (nextCoefAddr s d))) := by
  rw [execCoefWrite, gate_reaches _ hr, coefWrite_eq]

theorem execCoefSwap_running {m : Master} {d : Fin 4} {s : State} (mask : Fin 16)
    (hr : s.reaches m true (P.PLN_COEF_CTRL d) = true) (h : seqRuns s d = true) : execCoefSwap m d mask s = .next s := by
  rw [execCoefSwap, gate_reaches _ hr, if_pos h]

theorem execCoefSwap_stopped {m : Master} {d : Fin 4} {s : State} (mask : Fin 16)
    (hr : s.reaches m true (P.PLN_COEF_CTRL d) = true) (h : seqRuns s d = false) :
    execCoefSwap m d mask s = .next (swapCoefs d mask s) := by
  rw [execCoefSwap, gate_reaches _ hr, if_neg (by simp [h])]

/-- Each set of the mask has its copies exchanged. -/
theorem live_swapCoefs (d : Fin 4) (mask : Nat) (set : Fin 4) (s : State) :
    (swapCoefs d mask s).clu[d].live.getLsbD set = (s.clu[d].live.getLsbD set != mask.testBit set) := by
  rw [swapCoefs, setClu_same, BitVec.getLsbD_xor, BitVec.getLsbD_ofNat, decide_eq_true set.isLt]
  simp

/-! ## Probes (R77, R94, R141) -/

/-- The fields of the word that arms a probe. -/
theorem probeWord_fields (x y : Fin 8192) (plane : Fin 8) :
    let w : Word := BitVec.ofNat 32 (probeWord x y + plane.val <<< 13)
    F.PLN_PROBE_POS_arm.on w = true ∧ F.PLN_PROBE_POS_x.get w = x ∧ F.PLN_PROBE_POS_y.get w = y ∧
      F.PLN_PROBE_POS_plane.get w = plane := by
  have hw : (BitVec.ofNat 32 (probeWord x y + plane.val <<< 13)).toNat =
      x.val + 65536 * y.val + 2147483648 + 8192 * plane.val := by
    rw [BitVec.toNat_ofNat, probeWord, Nat.shiftLeft_eq, Nat.shiftLeft_eq]
    omega
  dsimp only
  simp only [Fld.on, Fld.get, bits, hw, Nat.shiftRight_eq_div_pow, Nat.testBit_eq_decide_div_mod_eq, decide_eq_true_eq]
  omega

theorem execPlnProbeArm_reaches {m : Master} {d : Fin 4} {s : State} (plane : Fin 8) (x y : Fin 8192)
    (hr : s.reaches m true (P.PLN_PROBE_POS d) = true) : execPlnProbeArm m d plane x y s = .next
      (armProbe (P.PLN_PROBE_POS d) (P.PLN_PROBE_HI d) F.PLN_PROBE_HI_valid
        (BitVec.ofNat 32 (probeWord x y + plane.val <<< 13)) s) := by
  rw [execPlnProbeArm, gate_reaches _ hr]

theorem execCmtProbeArm_reaches {m : Master} {d : Fin 4} {s : State} (x y : Fin 8192)
    (hr : s.reaches m true (P.CMT_PROBE_POS d) = true) : execCmtProbeArm m d x y s = .next
      (armProbe (P.CMT_PROBE_POS d) (P.CMT_PROBE_HI d) F.CMT_PROBE_HI_valid (BitVec.ofNat 32 (probeWord x y)) s) := by
  rw [execCmtProbeArm, gate_reaches _ hr]

theorem execCmpProbeArm_reaches {m : Master} {d : Fin 4} {s : State} (x y : Fin 8192)
    (hr : s.reaches m true (P.CMP_PROBE_POS d) = true) : execCmpProbeArm m d x y s = .next
      (armProbe (P.CMP_PROBE_POS d) (P.CMP_PROBE_BLEND d) F.CMP_PROBE_BLEND_valid (BitVec.ofNat 32 (probeWord x y)) s) := by
  rw [execCmpProbeArm, gate_reaches _ hr]

/-- A probe armed with a word: its position, plane and valid bit, and nothing but its two registers changed. -/
theorem armProbe_spec {pos valid : Nat} (hne : valid ≠ pos) {f : Fld} (hf : f.inWord = true) {w : Nat} {x y : Fin 8192}
    {plane : Fin 8} (hw : w = probeWord x y + plane.val <<< 13) (s : State) :
    let t := armProbe pos valid f (BitVec.ofNat 32 w) s
    OnlyRegs s t [pos, valid] ∧ onF t pos F.PLN_PROBE_POS_arm = true ∧ getF t pos F.PLN_PROBE_POS_x = x ∧
      getF t pos F.PLN_PROBE_POS_y = y ∧ getF t pos F.PLN_PROBE_POS_plane = plane ∧ onF t valid f = false := by
  obtain ⟨ha, hx, hy, hp⟩ := probeWord_fields x y plane
  rw [← hw] at ha hx hy hp
  intro t
  have hpos : getReg t pos = BitVec.ofNat 32 w :=
    (getReg_setF_ne _ f 0 hne.symm).trans (getReg_setReg_same s pos _)
  refine ⟨OnlyRegs.trans (OnlyRegs.setReg s _ (by simp)) (OnlyRegs.setF _ f 0 (by simp)), ?_, ?_, ?_, ?_,
    onF_setF_self _ valid f 0 hf⟩
  · rw [onF, hpos, ha]
  · rw [getF, hpos, hx]
  · rw [getF, hpos, hy]
  · rw [getF, hpos, hp]

end Sys2Proof.Machine
end

section
/-! THEOREM. Palette and coefficient writes, and the probe registers. -/
namespace Sys2Proof.Machine

/-- Settles O30: a palette or coefficient write is one change of the cluster and one step of its address register, and a
probe armed is a word whose fields are read off. -/
theorem palettesAndProbes : Obligations.PalettesAndProbes := by
  unfold Obligations.PalettesAndProbes
  refine ⟨⟨fun m d high s hr => ⟨execPaletteWrite_running high hr, fun h => ?_⟩, fun m d v s hr => ?_,
    fun m d mask s hr => ⟨execCoefSwap_running mask hr, fun h => ?_⟩⟩, fun m d plane x y s hr => ?_,
    fun m d x y s hr => ?_, fun m d x y s hr => ?_⟩
  · have hc : (setClu d (palStored s d high) s).clu[d] = palStored s d high := setClu_same _ _ _
    obtain ⟨hregs, hclu, hrest⟩ := setReg_setClu_frame d (palStored s d high) (P.PLN_PAL_ADDR d)
      (F.PLN_PAL_ADDR_entry.put (getF s (P.PLN_PAL_ADDR d) F.PLN_PAL_ADDR_entry + 1) (getReg s (P.PLN_PAL_ADDR d))) s
    refine ⟨_, execPaletteWrite_stopped high hr h, fun n => ?_, getF_setF_self _ _ _ _ rfl, hregs, hclu, hrest, ?_⟩
    · rw [setF_clu, hc, palStored, Tab.find_insert]
    · rw [setF_clu, hc]
      rfl
  · have hc : (setClu d (coefStored s d v) s).clu[d] = coefStored s d v := setClu_same _ _ _
    obtain ⟨hregs, hclu, hrest⟩ := setReg_setClu_frame d (coefStored s d v) (P.PLN_COEF_ADDR d)
      (BitVec.ofNat 32 (nextCoefAddr s d)) s
    refine ⟨_, execCoefWrite_reaches v hr, fun key => ?_, ?_, hregs, hclu, hrest, ?_⟩
    · rw [setReg_clu, hc, find_coefStored]
    · rw [getReg_setReg_same, BitVec.toNat_ofNat, nextCoefAddr]
      omega
    · rw [setReg_clu, hc]
      rfl
  · refine ⟨_, execCoefSwap_stopped mask hr h, fun set => live_swapCoefs d mask set s, rfl,
      fun j hj => setClu_ne hj _ s, ?_⟩
    rw [swapCoefs, setClu_same]
  · have hne : P.PLN_PROBE_HI d ≠ P.PLN_PROBE_POS d := by unfold P.PLN_PROBE_HI P.PLN_PROBE_POS; omega
    exact ⟨_, execPlnProbeArm_reaches plane x y hr, armProbe_spec hne rfl rfl s⟩
  · have hne : P.CMT_PROBE_HI d ≠ P.CMT_PROBE_POS d := by unfold P.CMT_PROBE_HI P.CMT_PROBE_POS; omega
    obtain ⟨ho, ha, hx, hy, -, hv⟩ :=
      armProbe_spec hne (f := F.CMT_PROBE_HI_valid) rfl (plane := 0) (Nat.add_zero (probeWord x y)).symm s
    exact ⟨_, execCmtProbeArm_reaches x y hr, ho, ha, hx, hy, hv⟩
  · have hne : P.CMP_PROBE_BLEND d ≠ P.CMP_PROBE_POS d := by unfold P.CMP_PROBE_BLEND P.CMP_PROBE_POS; omega
    obtain ⟨ho, ha, hx, hy, -, hv⟩ :=
      armProbe_spec hne (f := F.CMP_PROBE_BLEND_valid) rfl (plane := 0) (Nat.add_zero (probeWord x y)).symm s
    exact ⟨_, execCmpProbeArm_reaches x y hr, ho, ha, hx, hy, hv⟩

end Sys2Proof.Machine
end

section
/-! SUPPORT. The pattern cache: what its operations leave to be found in it, and what an invalidation takes out. -/
namespace Sys2Proof.Machine

/-! ## Sets of lines -/

theorem patFind_congr {s t : State} (h : t.pat = s.pat) (l : Nat) : patFind t l = patFind s l := by
  rw [patFind, patFind, h]

theorem patFind_setPatSet (set : Nat) (ls : List PatLine) (s : State) (l : Nat) :
    patFind (setPatSet set ls s) l =
      if l % 32768 = set then (ls.find? (fun x => x.line = l)).map (·.data) else patFind s l := by
  unfold patFind setPatSet Tab.get
  dsimp only
  split
  · next h => rw [h, Tab.find_insert_same, Option.getD_some]
  · next h => rw [Tab.find_insert_ne _ _ h]

/-- Lines other than one are found alike where that one has been taken out. -/
theorem find?_filter_line {line l : Nat} (h : l ≠ line) (ls : List PatLine) :
    (ls.filter (fun x => x.line ≠ line)).find? (fun x => x.line = l) = ls.find? (fun x => x.line = l) := by
  rw [List.find?_filter]
  congr 1
  funext x
  by_cases hx : x.line = l <;> simp [hx, h]

/-- Reading a line changes the order of its set alone (R72). -/
theorem patFind_patTouch (line : Nat) (s : State) (l : Nat) : patFind (patTouch line s) l = patFind s l := by
  unfold patTouch
  dsimp only
  split
  · next y hy =>
    have hline : y.line = line := by simpa using List.find?_some hy
    rw [patFind_setPatSet]
    split
    · next hset =>
      by_cases hl : l = line
      · subst hl
        rw [patFind, List.find?_cons_of_pos (by simp [hline]), ← patSet, hy]
      · rw [List.find?_cons_of_neg (by simp [hline, Ne.symm hl]), find?_filter_line hl, patFind, hset, patSet]
    · rfl
  · rfl

theorem patFind_draw (s : State) (l : Nat) : patFind s.draw l = patFind s l := rfl

/-- A line put into the cache brings no other (R72). -/
theorem patFind_of_patInsert {line l : Nat} (h : l ≠ line) {s : State} {x : List Byte}
    (hx : patFind (patInsert line s) l = some x) : patFind s l = some x := by
  unfold patInsert at hx
  dsimp only at hx
  split at hx
  · rw [patFind_draw, patFind_setPatSet] at hx
    split at hx
    · next hset =>
      obtain ⟨y, hy, rfl⟩ := Option.map_eq_some_iff.1 hx
      have hfull := (List.take_prefix 12 _).find?_eq_some hy
      rw [List.find?_cons_of_neg (by simp [Ne.symm h]), find?_filter_line h] at hfull
      rw [patFind, hset, ← patSet, hfull]
      rfl
    · exact hx
  · exact hx

/-- A line put into the cache changes its sets and the free counter alone. -/
theorem patInsert_beside (line : Nat) (s : State) :
    patInsert line s = { s with pat := (patInsert line s).pat, free := (patInsert line s).free } := by
  unfold patInsert
  dsimp only
  split <;> rfl

theorem patTouch_beside (line : Nat) (s : State) : patTouch line s = { s with pat := (patTouch line s).pat } := by
  unfold patTouch
  dsimp only
  split <;> rfl

/-! ## Ranges taken out (R75) -/

theorem Tab.mem_of_find {α : Type} {t : Tab α} {k : Nat} {x : α} (h : Tab.find t k = some x) : (k, x) ∈ t := by
  induction t with
  | nil => nomatch h
  | cons e t ih =>
    rw [Tab.find] at h
    split at h
    · next hk => rw [← hk, ← Option.some.inj h]; exact List.mem_cons_self
    · exact List.mem_cons_of_mem _ (ih h)

/-- A table whose keys rise lists none below its bound. -/
theorem Tab.find_below {α : Type} {t : Tab α} {lo k : Nat} (hs : Tab.sortedFrom lo t = true) (hk : k < lo) :
    Tab.find t k = none := by
  induction t generalizing lo with
  | nil => rfl
  | cons e t ih =>
    simp only [Tab.sortedFrom, Bool.and_eq_true, decide_eq_true_eq] at hs
    rw [Tab.find, if_neg (by omega)]
    exact ih hs.2 (by omega)

/-- Each value changed, and the entries that come to nothing dropped: where keys rise the others read as changed. -/
theorem Tab.get_shrunk {α : Type} (f : List α → List α) (hf : f [] = []) {t : Tab (List α)} {lo : Nat}
    (hs : Tab.sortedFrom lo t = true) (p : Nat × List α → Bool) (hp : ∀ e, p e = false ↔ e.2 = []) (k : Nat) :
    Tab.get ((t.map (fun e => (e.1, f e.2))).filter p) [] k = f (Tab.get t [] k) := by
  induction t generalizing lo with
  | nil => exact hf.symm
  | cons e t ih =>
    simp only [Tab.sortedFrom, Bool.and_eq_true, decide_eq_true_eq] at hs
    obtain ⟨j, x⟩ := e
    have hrest := ih hs.2
    rw [List.map_cons, List.filter_cons]
    by_cases hj : j = k
    · have hnone : Tab.get t [] k = [] := by rw [Tab.get, Tab.find_below hs.2 (by omega)]; rfl
      cases hx : p (j, f x) with
      | true => simp [Tab.get, Tab.find, hj]
      | false =>
        have hfx : f x = [] := (hp _).1 hx
        rw [hnone, hf] at hrest
        simpa [Tab.get, Tab.find, hj, hfx] using hrest
    · have hget : Tab.get ((j, x) :: t) [] k = Tab.get t [] k := by simp [Tab.get, Tab.find, hj]
      rw [hget, ← hrest]
      split
      · simp [Tab.get, Tab.find, hj]
      · rfl

theorem patFind_patDrop_hit {hit : Nat → Bool} {line : Nat} (h : hit line = true) (s : State) :
    patFind (patDrop hit s) line = none := by
  rw [patFind, Option.map_eq_none_iff, List.find?_eq_none]
  intro x hx
  cases hf : Tab.find (patDrop hit s).pat (line % 32768) with
  | none => simp [Tab.get, hf] at hx
  | some ls =>
    rw [Tab.get, hf, Option.getD_some] at hx
    obtain ⟨e, -, he⟩ := List.mem_map.1 (List.mem_filter.1 (Tab.mem_of_find hf)).1
    obtain ⟨-, rfl⟩ := Prod.mk.inj he
    have hmiss : hit x.line = false := by simpa using (List.mem_filter.1 hx).2
    intro hl
    rw [of_decide_eq_true hl, h] at hmiss
    exact Bool.false_ne_true hmiss.symm

theorem patFind_patDrop_other {hit : Nat → Bool} {line : Nat} (h : hit line = false) {s : State}
    (hs : Tab.sortedFrom 0 s.pat = true) : patFind (patDrop hit s) line = patFind s line := by
  rw [patFind, patDrop, Tab.get_shrunk (fun ls => ls.filter (fun l => !hit l.line)) rfl hs _ (by simp), patFind,
    List.find?_filter]
  congr 2
  funext x
  by_cases hx : x.line = line <;> simp [hx, h]

theorem pat_patDrop_all (s : State) : (patDrop (fun _ => true) s).pat = [] := by
  simp [patDrop]

/-- The fills of a walk met by an invalidation are those for a line of its range. -/
theorem flights_meetFills (hit : Nat → Bool) (s : State) (d : Fin 4) (i : Fin 9) :
    (meetFills hit s).clu[d].walks[i].flights = s.clu[d].walks[i].flights.map (fun f => (f.1, f.2 || hit f.1)) := by
  simp [meetFills]

end Sys2Proof.Machine
end
section
/-! SUPPORT. The walks of the fetchers and the comet unit: what going on with one leaves as it was. -/
namespace Sys2Proof.Machine

@[simp] theorem setWalk_walk (d : Fin 4) (i : Fin 9) (w : Walk) (s : State) : (setWalk d i w s).clu[d].walks[i] = w := by
  rw [setWalk, setClu_same]
  exact Vector.getElem_set_self i.isLt

/-- The registers that a walk of cluster d writes. -/
def walkKeys (d : Fin 4) (i : Fin 9) : List Nat := [P.MEM_RANK (fillId d i), P.PLN_STAT d, P.CMT_STAT d]

/-- From s to t walk i of cluster d has gone on: memory is as it was, of the registers only its requester's and its unit's
status may differ, the cache holds what it held, and no more than 16 fills are outstanding (R73, R86). -/
structure Walked (d : Fin 4) (i : Fin 9) (s t : State) : Prop where
  mem : t.mem = s.mem
  regs : RegsBut s t (walkKeys d i)
  lines : ∀ l, patFind t l = patFind s l
  flights : s.clu[d].walks[i].flights.length ≤ 16 → t.clu[d].walks[i].flights.length ≤ 16

namespace Walked
variable {d : Fin 4} {i : Fin 9} {s t u : State}

theorem refl (d : Fin 4) (i : Fin 9) (s : State) : Walked d i s s := ⟨rfl, RegsBut.refl s _, fun _ => rfl, id⟩

theorem trans (h1 : Walked d i s t) (h2 : Walked d i t u) : Walked d i s u :=
  ⟨h2.mem.trans h1.mem, RegsBut.trans h1.regs h2.regs, fun l => (h2.lines l).trans (h1.lines l),
    fun h => h2.flights (h1.flights h)⟩

theorem setWalk {w : Walk} (hw : s.clu[d].walks[i].flights.length ≤ 16 → w.flights.length ≤ 16) :
    Walked d i s (setWalk d i w s) :=
  ⟨rfl, RegsBut.of_regs rfl _, fun _ => rfl, fun h => by rw [setWalk_walk]; exact hw h⟩

theorem patTouch (d : Fin 4) (i : Fin 9) (line : Nat) (s : State) : Walked d i s (patTouch line s) := by
  have hb := patTouch_beside line s
  exact ⟨by rw [hb], RegsBut.of_regs (by rw [hb]) _, patFind_patTouch line s, fun h => by rw [hb]; exact h⟩

end Walked

/-! ## Fills asked for -/

theorem countFill_beside (d : Fin 4) (i : Fin 9) (s : State) :
    countFill d i s = { s with regs := (countFill d i s).regs, pmc := (countFill d i s).pmc } := by
  unfold countFill
  dsimp only
  split
  · split <;> rfl
  · rfl

theorem countFill_regsBut (d : Fin 4) (i : Fin 9) (s : State) : RegsBut s (countFill d i s) (walkKeys d i) := by
  have hadd : ∀ key ∈ walkKeys d i, ∀ f, RegsBut s (addF (pmcEvent (0x070 + d.val) 0 1 s) key f 1) (walkKeys d i) :=
    fun _ hk f => RegsBut.addF (pmcEvent (0x070 + d.val) 0 1 s) f 1 hk
  unfold countFill
  dsimp only
  split
  · split
    · exact hadd _ (by simp [walkKeys]) _
    · exact RegsBut.of_regs rfl _
  · exact hadd _ (by simp [walkKeys]) _

theorem issueAll_beside (id : Nat) (rs : List MemReq) (s : State) :
    issueAll id rs s = { s with regs := (issueAll id rs s).regs, mc := (issueAll id rs s).mc } := by
  rw [issueAll, setRequester_only]

/-- Before its walk notes it, a fill asked for changes the arbiters, the counters and the walk's registers alone. -/
theorem Walked.issued (d : Fin 4) (i : Fin 9) (rs : List MemReq) (s : State) :
    Walked d i s (issueAll (fillId d i) rs (countFill d i s)) := by
  have hb := issueAll_beside (fillId d i) rs (countFill d i s)
  have hc := countFill_beside d i s
  refine ⟨?_, RegsBut.trans (countFill_regsBut d i s) ?_, patFind_congr ?_, fun h => ?_⟩
  · rw [hb, hc]
  · exact RegsBut.mono (setRequester_regsBut _ _ _) (by simp [walkKeys])
  · rw [hb, hc]
  · rw [hb, hc]
    exact h

/-- A walk that has fewer than 16 fills outstanding may ask for one more. -/
theorem Walked.askFill {d : Fin 4} {i : Fin 9} {s : State} (line : Nat)
    (h : s.clu[d].walks[i].flights.length < 16) : Walked d i s (askFill d i line s) := by
  have hi := Walked.issued d i
    [⟨64 * line, none, false, chanOf s (64 * line), arrival s (chanOf s (64 * line)), i.val + 1⟩] s
  refine hi.trans (.setWalk fun _ => ?_)
  rw [issueAll_beside, countFill_beside, List.length_append]
  exact h

theorem Walked.walkOn (d : Fin 4) (i : Fin 9) (ls : List Nat) (s : State) : Walked d i s (walkOn d i ls s) := by
  induction ls generalizing s with
  | nil => exact .setWalk id
  | cons l ls ih =>
    rw [Machine.walkOn]
    split
    · exact ih s
    · split
      · exact (Walked.patTouch d i l s).trans (ih _)
      · split
        · exact .setWalk id
        · next hlt => exact (Walked.askFill l (Nat.lt_of_not_le hlt)).trans (ih _)

theorem Walked.nextPhase (d : Fin 4) (i : Fin 9) (s : State) : Walked d i s (nextPhase d i s) := by
  unfold Machine.nextPhase
  dsimp only
  split
  · split
    · split
      · have hw : Walked d i s (Machine.setWalk d i { s.clu[d].walks[i] with pattern := true } s) := .setWalk id
        exact hw.trans (.walkOn d i _ _)
      · exact .refl d i s
    · exact .refl d i s
  · exact .refl d i s

theorem noteWalks_regs (d : Fin 4) (s : State) : (noteWalks d s).regs = s.regs := by
  unfold noteWalks
  split <;> rfl

theorem noteWalks_walks (d : Fin 4) (s : State) : (noteWalks d s).clu[d].walks = s.clu[d].walks := by
  unfold noteWalks
  split
  · rw [setClu_same]
  · rfl

theorem Walked.noteWalks (d : Fin 4) (i : Fin 9) (s : State) : Walked d i s (noteWalks d s) := by
  refine ⟨?_, RegsBut.of_regs (noteWalks_regs d s) _, patFind_congr ?_, fun h => by rw [noteWalks_walks]; exact h⟩ <;>
  · unfold Machine.noteWalks
    split <;> rfl

/-- A walk over pattern lines has no further phase. -/
theorem nextPhase_pattern {d : Fin 4} {i : Fin 9} {s : State} (h : s.clu[d].walks[i].pattern = true) :
    nextPhase d i s = s := by
  unfold nextPhase
  dsimp only
  rw [h, Bool.not_true, Bool.and_false]
  split
  · split <;> rfl
  · rfl

/-! ## Fills that arrive -/

theorem length_dropFlight_le (line : Nat) (fs : List (Nat × Bool)) : (dropFlight line fs).length ≤ fs.length := by
  induction fs with
  | nil => exact Nat.le_refl 0
  | cons f fs ih =>
    rw [dropFlight]
    split
    · exact Nat.le_succ _
    · exact Nat.succ_le_succ ih

/-- The walk with the fill of a line no longer outstanding. -/
def landed (d : Fin 4) (i : Fin 9) (line : Nat) (s : State) : State :=
  setWalk d i { s.clu[d].walks[i] with flights := dropFlight line s.clu[d].walks[i].flights } s

/-- The cache with a line that has arrived, unless an invalidation met its fill or it is there already (R72, R75). -/
def lineStored (line : Nat) (met : Bool) (s : State) : State :=
  if met || (patFind s line).isSome then s else patInsert line s

theorem lineStored_beside (line : Nat) (met : Bool) (s : State) :
    lineStored line met s =
      { s with pat := (lineStored line met s).pat, free := (lineStored line met s).free } := by
  unfold lineStored
  split
  · rfl
  · exact patInsert_beside line s

/-- A fill arrives: its line is stored, and the walk goes on. -/
theorem fillArrives_eq (d : Fin 4) (i : Fin 9) (line : Nat) (met : Bool) (s : State) :
    fillArrives d i line met s = walkOn d i s.clu[d].walks[i].todo (lineStored line met (landed d i line s)) := by
  have htodo : (lineStored line met (landed d i line s)).clu[d].walks[i].todo = s.clu[d].walks[i].todo := by
    rw [lineStored_beside, landed, setWalk_walk]
  rw [← htodo]
  rfl

theorem walked_landed (d : Fin 4) (i : Fin 9) (line : Nat) (s : State) : Walked d i s (landed d i line s) :=
  .setWalk fun h => Nat.le_trans (length_dropFlight_le _ _) h

/-! ## The line's bytes -/

theorem streamed_eq (s : State) (key : Nat) : s.streamed key = (decide (0x8002800000 ≤ key) &&
    (s.clu[(key - 0x8002800000) / 0x100000]?.map (·.streamed)).getD false) := by
  unfold State.streamed
  cases s.clu[(key - 0x8002800000) / 0x100000]? <;> rfl

theorem streamed_setWalk (d : Fin 4) (i : Fin 9) (w : Walk) (s : State) (key : Nat) :
    (setWalk d i w s).streamed key = s.streamed key := by
  rw [streamed_eq, streamed_eq, setWalk, setClu, Vector.getElem?_set]
  split
  · next h => rw [← h, Vector.getElem?_eq_getElem d.isLt]; rfl
  · rfl

theorem readBytes_landed (d : Fin 4) (i : Fin 9) (line key n : Nat) (s : State) :
    ReadBytes s key n ((landed d i line s).readBytes key n) := by
  refine ⟨s.free, ?_⟩
  induction n generalizing key with
  | zero => rfl
  | succ n ih =>
    have hb : (landed d i line s).byte key = State.byte { s with free := s.free } key := by
      unfold State.byte State.stored
      rw [landed, streamed_setWalk]
      rfl
    rw [State.readBytes, State.readBytes, hb, ih]

end Sys2Proof.Machine
end

section
/-! THEOREM. Pattern-cache fills and invalidations. -/
namespace Sys2Proof.Machine

/-! ## Fills -/

theorem execPatternFill_unasked {d : Fin 4} {u : PatUser} {tag : Nat} {set : Fin 32768} {s : State}
    (h : s.clu[d].walks[userWalk u].flight (32768 * tag + set.val) = none) :
    execPatternFill d u tag set s = .next s := by
  simp only [execPatternFill, h]

theorem execPatternFill_underWay {d : Fin 4} {u : PatUser} {tag : Nat} {set : Fin 32768} {s : State}
    (h : fillUnderWay d (userWalk u) (32768 * tag + set.val) s = true) : execPatternFill d u tag set s = .next s := by
  cases hf : s.clu[d].walks[userWalk u].flight (32768 * tag + set.val) with
  | none => exact execPatternFill_unasked hf
  | some met => simp only [execPatternFill, hf, h, Bool.or_true, if_true]

/-- The state in which the fill of a line has arrived for walk i of cluster d. -/
def filled (d : Fin 4) (i : Fin 9) (line : Nat) (met : Bool) (s : State) : State :=
  noteWalks d (nextPhase d i (fillArrives d i line met s))

theorem execPatternFill_arrives {d : Fin 4} {u : PatUser} {tag : Nat} {set : Fin 32768} {s : State} {met : Bool}
    (hf : s.clu[d].walks[userWalk u].flight (32768 * tag + set.val) = some met)
    (hw : fillUnderWay d (userWalk u) (32768 * tag + set.val) s = false) (hp : s.powered 11 = true)
    (hd : s.powered (if userWalk u = 8 then pdComet d else pdComposer d) = true) :
    execPatternFill d u tag set s = .next (filled d (userWalk u) (32768 * tag + set.val) met s) := by
  simp only [execPatternFill, hf, hw, hp, hd, Bool.not_true, Bool.or_self, Bool.false_eq_true, if_false]
  rfl

section
variable (d : Fin 4) (i : Fin 9) (line : Nat) (s : State)

/-- Once its line is stored, what is left of an arrival is the walk going on. -/
theorem walked_filled (met : Bool) : Walked d i (lineStored line met (landed d i line s)) (filled d i line met s) := by
  rw [filled, fillArrives_eq]
  exact ((Walked.walkOn d i _ _).trans (.nextPhase d i _)).trans (.noteWalks d i _)

theorem filled_mem (met : Bool) : (filled d i line met s).mem = s.mem := by
  rw [(walked_filled d i line s met).mem, lineStored_beside, (walked_landed d i line s).mem]

theorem filled_regsBut (met : Bool) : RegsBut s (filled d i line met s) (walkKeys d i) := by
  refine RegsBut.trans (RegsBut.trans (walked_landed d i line s).regs (RegsBut.of_regs ?_ _))
    (walked_filled d i line s met).regs
  rw [lineStored_beside]

theorem filled_flights (met : Bool) (h : s.clu[d].walks[i].flights.length ≤ 16) :
    (filled d i line met s).clu[d].walks[i].flights.length ≤ 16 := by
  apply (walked_filled d i line s met).flights
  rw [lineStored_beside]
  exact (walked_landed d i line s).flights h

/-- A fill that an invalidation met leaves the cache as it was (R75). -/
theorem patFind_filled_met (l : Nat) : patFind (filled d i line true s) l = patFind s l := by
  rw [(walked_filled d i line s true).lines, ← (walked_landed d i line s).lines]
  rfl

/-- An arrival brings no line but its own into the cache. -/
theorem patFind_of_filled {l : Nat} (h : l ≠ line) (met : Bool) {x : List Byte}
    (hx : patFind (filled d i line met s) l = some x) : patFind s l = some x := by
  rw [(walked_filled d i line s met).lines, lineStored] at hx
  rw [← (walked_landed d i line s).lines]
  split at hx
  · exact hx
  · exact patFind_of_patInsert h hx

variable {line s}

/-- A line not in the cache, whose fill no invalidation met, is there as DRAM held it (R72). -/
theorem patFind_filled_new (hn : patFind s line = none) (hon : patSetOn s (line % 32768) = true) :
    ∃ new, patFind (filled d i line false s) line = some new ∧ ReadBytes s (64 * line) 64 new := by
  refine ⟨_, ?_, readBytes_landed d i line _ _ s⟩
  have hn' : patFind (landed d i line s) line = none := ((walked_landed d i line s).lines line).trans hn
  have hon' : patSetOn (landed d i line s) (line % 32768) = true := hon
  rw [(walked_filled d i line s false).lines, lineStored, hn', if_neg (by simp), patFind_insert hon']

variable {d i}

/-- With nothing left to look up, an arrival changes of the walk its fills alone. -/
theorem filled_last (met : Bool) (ht : s.clu[d].walks[i].todo = []) (hp : s.clu[d].walks[i].pattern = true) :
    (filled d i line met s).regs = s.regs ∧ (filled d i line met s).clu[d].walks[i] =
      { s.clu[d].walks[i] with flights := dropFlight line s.clu[d].walks[i].flights } := by
  have harr : fillArrives d i line met s = setWalk d i
      { s.clu[d].walks[i] with todo := [], flights := dropFlight line s.clu[d].walks[i].flights }
      (lineStored line met (landed d i line s)) := by
    rw [fillArrives_eq, ht, walkOn, lineStored_beside, landed, setWalk_walk]
  have hphase : filled d i line met s = noteWalks d (fillArrives d i line met s) := by
    rw [filled, nextPhase_pattern]
    rw [harr, setWalk_walk, hp]
  rw [hphase, noteWalks_regs, noteWalks_walks, harr, setWalk_walk, ← ht]
  refine ⟨?_, rfl⟩
  rw [lineStored_beside]
  rfl

end

/-! ## Invalidations -/

/-- The lines of the range that PLN_PCI_BASE and PLN_PCI_SIZE give. -/
def inPciRange (s : State) (l : Nat) : Bool :=
  decide (getF s P.PLN_PCI_BASE F.PLN_PCI_BASE_base ≤ l) &&
    decide (l < getF s P.PLN_PCI_BASE F.PLN_PCI_BASE_base + getF s P.PLN_PCI_SIZE F.PLN_PCI_SIZE_lines)

/-- The state in which an invalidation of the lines that hit names has begun, PLN_PCI_CTRL holding a word. -/
def pciInvalidated (hit : Nat → Bool) (w : Word) (s : State) : State :=
  setReg (patInvalidate hit s) P.PLN_PCI_CTRL w

section
variable {s : State}

theorem pciStart_busy (h : onF s P.PLN_PCI_CTRL F.PLN_PCI_CTRL_busy = true) (start all : Bool) :
    pciStart start all s = s := by
  rw [pciStart, h, Bool.true_or, if_pos rfl]

variable {m : Master} (hr : s.reaches m true P.PLN_PCI_CTRL = true)
include hr

theorem execInvalidateRange_busy (h : onF s P.PLN_PCI_CTRL F.PLN_PCI_CTRL_busy = true) :
    execInvalidateRange m s = .next s := by
  rw [execInvalidateRange, gate_reaches _ hr, pciStart_busy h]

theorem execInvalidateAll_busy (h : onF s P.PLN_PCI_CTRL F.PLN_PCI_CTRL_busy = true) (start : Bool) :
    execInvalidateAll m start s = .next s := by
  rw [execInvalidateAll, gate_reaches _ hr, pciStart_busy h]

theorem execInvalidateRange_idle (h : onF s P.PLN_PCI_CTRL F.PLN_PCI_CTRL_busy = false) :
    execInvalidateRange m s = .next (pciInvalidated (inPciRange s) 0x101 s) := by
  rw [execInvalidateRange, gate_reaches _ hr, pciStart, h, if_neg (by decide)]
  rfl

theorem execInvalidateAll_idle (h : onF s P.PLN_PCI_CTRL F.PLN_PCI_CTRL_busy = false) (start : Bool) :
    execInvalidateAll m start s =
      .next (pciInvalidated (fun _ => true) (BitVec.ofNat 32 (b2n start + 2 * b2n true + 0x100)) s) := by
  rw [execInvalidateAll, gate_reaches _ hr, pciStart, h, if_neg (by simp)]
  rfl

end

section
variable {s : State} (hit : Nat → Bool) (w : Word)

theorem pciInvalidated_beside : pciInvalidated hit w s =
    { s with
      regs := (pciInvalidated hit w s).regs
      pat := (pciInvalidated hit w s).pat
      clu := (pciInvalidated hit w s).clu } :=
  rfl

theorem pciInvalidated_regsBut : RegsBut s (pciInvalidated hit w s) [P.PLN_PCI_CTRL] :=
  RegsBut.setReg (patInvalidate hit s) w (by simp)

theorem patFind_pciInvalidated (l : Nat) : patFind (pciInvalidated hit w s) l = patFind (patDrop hit s) l := rfl

theorem pat_pciInvalidated_all : (pciInvalidated (fun _ => true) w s).pat = [] := pat_patDrop_all s

theorem flights_pciInvalidated (d : Fin 4) (i : Fin 9) : (pciInvalidated hit w s).clu[d].walks[i].flights =
    s.clu[d].walks[i].flights.map (fun f => (f.1, f.2 || hit f.1)) :=
  flights_meetFills hit (patDrop hit s) d i

theorem busy_pciInvalidated (hw : F.PLN_PCI_CTRL_busy.on w = true) :
    onF (pciInvalidated hit w s) P.PLN_PCI_CTRL F.PLN_PCI_CTRL_busy = true := by
  rw [onF, pciInvalidated, getReg_setReg_same, hw]

end

theorem inPciRange_other {s : State} {l : Nat} (h : l < getF s P.PLN_PCI_BASE F.PLN_PCI_BASE_base ∨
    getF s P.PLN_PCI_BASE F.PLN_PCI_BASE_base + getF s P.PLN_PCI_SIZE F.PLN_PCI_SIZE_lines ≤ l) :
    inPciRange s l = false := by
  simp only [inPciRange, Bool.and_eq_false_iff, decide_eq_false_iff_not]
  omega

theorem execInvalidationEnd_busy {s : State} (h : onF s P.PLN_PCI_CTRL F.PLN_PCI_CTRL_busy = true) :
    execInvalidationEnd s = .next (setReg s P.PLN_PCI_CTRL 0) := by
  rw [execInvalidationEnd, if_pos h]

/-- Settles O31: an arrival is its line stored and its walk going on, and an invalidation is one change of the sets and of
the fills outstanding. -/
theorem patternCache : Obligations.PatternCache := by
  unfold Obligations.PatternCache
  refine ⟨fun d u tag set s => ?_, fun m s hr => ⟨fun hb => ?_, fun hb => ⟨?_, fun start => ?_⟩⟩, fun s hb => ?_⟩
  · intro i w line
    have hset : line % 32768 = set.val := by
      have := set.isLt
      omega
    refine ⟨execPatternFill_unasked, execPatternFill_underWay, fun met hf hu hp hd =>
      ⟨_, execPatternFill_arrives hf hu hp hd, filled_mem d i line s met, filled_regsBut d i line s met,
        ?_, ?_, ?_, filled_flights d i line s met, filled_last met⟩⟩
    · rintro rfl hn hon
      have hon' : patSetOn s (line % 32768) = true := by rw [hset]; exact hon
      exact patFind_filled_new d i hn hon'
    · rintro l x (rfl | hl) hx
      · rwa [patFind_filled_met] at hx
      · exact patFind_of_filled d i line s hl met hx
    · rintro rfl l
      exact patFind_filled_met d i line s l
  · exact ⟨execInvalidateRange_busy hr hb, execInvalidateAll_busy hr hb⟩
  · refine ⟨_, execInvalidateRange_idle hr hb, busy_pciInvalidated _ _ (by decide), pciInvalidated_beside _ _,
      pciInvalidated_regsBut _ _, fun l h1 h2 => ?_, fun hs l hl => ?_, flights_pciInvalidated _ _⟩
    · rw [patFind_pciInvalidated, patFind_patDrop_hit (by simp [inPciRange, h1, h2])]
    · rw [patFind_pciInvalidated, patFind_patDrop_other (inPciRange_other hl) hs]
  · have hw : F.PLN_PCI_CTRL_busy.on (BitVec.ofNat 32 (b2n start + 2 * b2n true + 0x100)) = true := by
      cases start <;> decide
    refine ⟨_, execInvalidateAll_idle hr hb start, pat_pciInvalidated_all _, busy_pciInvalidated _ _ hw, ?_,
      pciInvalidated_regsBut _ _, fun d i => ?_⟩
    · rw [← pat_pciInvalidated_all]
      exact pciInvalidated_beside _ _
    · rw [flights_pciInvalidated]
      simp only [Bool.or_true]
  · exact ⟨_, execInvalidationEnd_busy hb, getReg_setReg_same s _ _, OnlyRegs.setReg s _ (by simp)⟩

end Sys2Proof.Machine
end

section
/-! SUPPORT. Commits, rewrites and EPH_FRAME0: what each leaves of its cluster and of the registers. -/
namespace Sys2Proof.Machine

/-! ## Commits (R115) -/

theorem handCue_only (d : Fin 4) (frame : Nat) (s : State) :
    handCue d frame s = { s with ktl := (handCue d frame s).ktl } := by
  unfold handCue
  split <;> rfl

/-- The cluster with a committed frame whose header has not been read. -/
def committedFrame (s : State) (d : Fin 4) (frame : Word) : Cluster :=
  { s.clu[d] with headers := s.clu[d].headers ++ [(frame.toNat, none)] }

theorem exec_ephCommit_accepted {m : Master} {d : Fin 4} {frame : Word} {s : State}
    (hr : s.reaches m true (P.EPH_COMMIT d) = true) (h : commitOk s d frame.toNat = true) :
    exec (.ephCommit m d frame) s = .next (handCue d frame.toNat
      (setClu d (committedFrame s d frame) (setReg s (P.EPH_COMMIT d) frame))) := by
  show execEphCommit m d frame s = _
  rw [execEphCommit, gate_reaches _ hr, commitWrite, if_pos h]
  rfl

theorem exec_ephCommit_refused {m : Master} {d : Fin 4} {frame : Word} {s : State}
    (hr : s.reaches m true (P.EPH_COMMIT d) = true) (h : commitOk s d frame.toNat = false) :
    exec (.ephCommit m d frame) s = .next (setF s (P.EPH_STAT d) F.EPH_STAT_commit_err 1) := by
  show execEphCommit m d frame s = _
  rw [execEphCommit, gate_reaches _ hr, commitWrite, if_neg (by simp [h])]

/-! ## Rewrites (R120 to R122) -/

/-- From s to t only the overrides and the waiting rewrites of cluster d differ, and the two registers that rewrites
report in. -/
structure Rewrites (d : Fin 4) (s t : State) : Prop where
  rest : t = { s with regs := t.regs, clu := t.clu }
  regs : RegsBut s t [P.EPH_REWRITE_STAT d, P.EPH_STAT d]
  others : ∀ j : Fin 4, j ≠ d → t.clu[j] = s.clu[j]
  own : t.clu[d] = { s.clu[d] with overrides := t.clu[d].overrides, rewrites := t.clu[d].rewrites }

theorem Rewrites.refl (d : Fin 4) (s : State) : Rewrites d s s := ⟨rfl, RegsBut.refl s _, fun _ _ => rfl, rfl⟩

section
variable {d : Fin 4} {s t : State} (h : Rewrites d s t)
include h

theorem Rewrites.trans {u : State} (h2 : Rewrites d t u) : Rewrites d s u := by
  refine ⟨?_, RegsBut.trans h.regs h2.regs, fun j hj => (h2.others j hj).trans (h.others j hj), ?_⟩
  · rw [h2.rest, h.rest]
  · rw [h2.own, h.own]

theorem Rewrites.setReg {key : Nat} (v : Word) (hk : key ∈ [P.EPH_REWRITE_STAT d, P.EPH_STAT d] := by simp) :
    Rewrites d s (setReg t key v) :=
  h.trans ⟨rfl, RegsBut.setReg t v hk, fun _ _ => rfl, rfl⟩

theorem Rewrites.setClu {c : Cluster}
    (hc : c = { t.clu[d] with overrides := c.overrides, rewrites := c.rewrites } := by rfl) :
    Rewrites d s (setClu d c t) :=
  h.trans ⟨rfl, RegsBut.of_regs rfl _, fun _ hj => setClu_ne hj c t, by rw [setClu_same]; exact hc⟩

theorem Rewrites.headers : t.clu[d].headers = s.clu[d].headers := by rw [h.own]

theorem Rewrites.reportRewrite (outcome : Nat) : Rewrites d s (reportRewrite d outcome t) := h.setReg _

theorem Rewrites.setOverrides (os : List Override) : Rewrites d s (setOverrides d os t) := h.setClu.setReg _

theorem Rewrites.decideRewrite (f : Nat) (o : Override) : Rewrites d s (decideRewrite d f o t) := by
  unfold Machine.decideRewrite
  split
  · exact h.reportRewrite 3
  · exact h.setClu
  · extract_lets out t1
    have h1 : Rewrites d s t1 := h.reportRewrite out
    split
    · exact h1.setOverrides _
    · exact h1

theorem Rewrites.settleRewrites : Rewrites d s (settleRewrites d t) :=
  List.foldlRecOn (motive := Rewrites d s) _ _ h.setClu fun _ hu r _ => hu.decideRewrite r.1 r.2

end

/-- The committed frame whose number ends in f, with its band_count once its header has been read. -/
def rewriteTarget (s : State) (d : Fin 4) (f : Nat) : Option (Nat × Option Nat) :=
  s.clu[d].headers.find? (fun h => h.1 % 8388608 = f)

section
variable {d : Fin 4} {f : Nat} {o : Override} {s : State}

theorem decideRewrite_unknown (h : rewriteTarget s d f = none) : decideRewrite d f o s = reportRewrite d 3 s := by
  unfold rewriteTarget at h
  rw [decideRewrite, h]

theorem decideRewrite_unread {frame : Nat} (h : rewriteTarget s d f = some (frame, none)) : decideRewrite d f o s =
    setClu d { s.clu[d] with rewrites := s.clu[d].rewrites ++ [(f, o)] } s := by
  unfold rewriteTarget at h
  rw [decideRewrite, h]

theorem decideRewrite_refused {frame n : Nat} (h : rewriteTarget s d f = some (frame, some n))
    (ho : rewriteOutcome s d frame n o ≠ 1) :
    decideRewrite d f o s = reportRewrite d (rewriteOutcome s d frame n o) s := by
  unfold rewriteTarget at h
  rw [decideRewrite, h]
  exact if_neg ho

/-- The overrides with one for a band in place of any other for it. -/
def overridesWith (os : List Override) (o : Override) : List Override :=
  os.filter (fun p => !(decide (p.frame = o.frame) && decide (p.band = o.band))) ++ [o]

theorem decideRewrite_accepted {frame n : Nat} (h : rewriteTarget s d f = some (frame, some n))
    (ho : rewriteOutcome s d frame n o = 1) : decideRewrite d f o s =
      setOverrides d (overridesWith s.clu[d].overrides { o with frame := frame }) (reportRewrite d 1 s) := by
  unfold rewriteTarget at h
  rw [decideRewrite, h]
  dsimp only
  rw [if_pos ho, ho]
  rfl

end

/-- A take latches the override that was set for its band last. -/
theorem find_overridesWith (os : List Override) (o : Override) :
    (overridesWith os o).find? (fun p => decide (p.frame = o.frame) && decide (p.band = o.band)) = some o := by
  rw [overridesWith, List.find?_append, List.find?_eq_none.2 fun p hp => ?_]
  · simp
  · exact Bool.eq_false_iff.1 (Bool.eq_false_of_not_eq_true' (List.mem_filter.1 hp).2)

theorem takeEntry_override {t : State} {d : Fin 4} {os : List Override} {o : Override}
    (h : t.clu[d].overrides = overridesWith os o) : takeEntry t d o.frame o.band = o := by
  rw [takeEntry, h, find_overridesWith, Option.getD_some]

theorem rewriteOutcome_lt (s : State) (d : Fin 4) (frame n : Nat) (o : Override) : rewriteOutcome s d frame n o < 8 := by
  unfold rewriteOutcome
  extract_lets os
  split_ifs <;> decide

/-- The report's two fields. -/
theorem reportRewrite_fields (d : Fin 4) {outcome : Nat} (ho : outcome < 8) (s : State) :
    getF (reportRewrite d outcome s) (P.EPH_REWRITE_STAT d) F.EPH_REWRITE_STAT_outcome = outcome ∧
    getF (reportRewrite d outcome s) (P.EPH_REWRITE_STAT d) F.EPH_REWRITE_STAT_seq =
      (getF s (P.EPH_REWRITE_STAT d) F.EPH_REWRITE_STAT_seq + 1) % 16 := by
  simp only [reportRewrite, getF, getReg_setReg_same, Fld.get, bits, BitVec.toNat_ofNat, Nat.shiftLeft_eq,
    Nat.shiftRight_eq_div_pow]
  omega

theorem getReg_setOverrides {key : Nat} {d : Fin 4} (hk : key ≠ P.EPH_STAT d) (os : List Override) (s : State) :
    getReg (setOverrides d os s) key = getReg s key := getReg_setF_ne _ _ _ hk

theorem clu_setOverrides (d : Fin 4) (os : List Override) (s : State) :
    (setOverrides d os s).clu[d] = { s.clu[d] with overrides := os } := by
  rw [setOverrides, setF_clu, setClu_same]

theorem overrides_setOverrides (d : Fin 4) (os : List Override) (s : State) :
    (setOverrides d os s).clu[d].overrides = os := by rw [clu_setOverrides]

theorem rewriteStat_ne_stat (d : Fin 4) : P.EPH_REWRITE_STAT d ≠ P.EPH_STAT d := by
  unfold P.EPH_REWRITE_STAT P.EPH_STAT; omega

/-- A rewrite that is decided reports its outcome, and changes its cluster if it is accepted alone. -/
theorem decideRewrite_reports {d : Fin 4} {f out : Nat} {o : Override} {s : State}
    (h : (rewriteTarget s d f = none ∧ out = 3) ∨
      (∃ frame n, rewriteTarget s d f = some (frame, some n) ∧ out = rewriteOutcome s d frame n o)) :
    let t := decideRewrite d f o s
    getF t (P.EPH_REWRITE_STAT d) F.EPH_REWRITE_STAT_outcome = out ∧
    getF t (P.EPH_REWRITE_STAT d) F.EPH_REWRITE_STAT_seq =
      (getF s (P.EPH_REWRITE_STAT d) F.EPH_REWRITE_STAT_seq + 1) % 16 ∧ (out ≠ 1 → t.clu[d] = s.clu[d]) := by
  intro t
  suffices ht : getReg t (P.EPH_REWRITE_STAT d) = getReg (reportRewrite d out s) (P.EPH_REWRITE_STAT d) ∧
      (out ≠ 1 → t.clu[d] = s.clu[d]) ∧ out < 8 by
    obtain ⟨hg, hc, hlt⟩ := ht
    rw [getF, getF, hg]
    obtain ⟨h1, h2⟩ := reportRewrite_fields d hlt s
    exact ⟨h1, h2, hc⟩
  rcases h with ⟨hn, rfl⟩ | ⟨frame, n, hf, rfl⟩
  · have ht : t = reportRewrite d 3 s := decideRewrite_unknown hn
    rw [ht]
    exact ⟨rfl, fun _ => rfl, by decide⟩
  · by_cases ho : rewriteOutcome s d frame n o = 1
    · have ht : t = _ := decideRewrite_accepted hf ho
      rw [ht, ho]
      exact ⟨getReg_setOverrides (rewriteStat_ne_stat d) _ _, fun hne => absurd rfl hne, by decide⟩
    · have ht : t = _ := decideRewrite_refused hf ho
      rw [ht]
      exact ⟨rfl, fun _ => rfl, rewriteOutcome_lt s d frame n o⟩

/-- An accepted rewrite is what a take latches. -/
theorem takeEntry_decideRewrite {d : Fin 4} {f frame n : Nat} {o : Override} {s : State}
    (h : rewriteTarget s d f = some (frame, some n)) (ho : rewriteOutcome s d frame n o = 1) :
    takeEntry (decideRewrite d f o s) d frame o.band = { o with frame := frame } := by
  rw [decideRewrite_accepted h ho]
  exact takeEntry_override (o := { o with frame := frame }) (overrides_setOverrides d _ _)

theorem exec_ephRewrite {m : Master} {d : Fin 4} {s : State} (hr : s.reaches m true (P.EPH_REWRITE d) = true)
    (f : BitVec 23) (band : BitVec 9) : exec (.ephRewrite m d f band) s =
      .next (decideRewrite d f.toNat ⟨0, band.toNat, getReg s (P.EPH_RW_E0 d), getReg s (P.EPH_RW_E1 d),
        getReg s (P.EPH_RW_E2 d), getReg s (P.EPH_RW_E3 d)⟩ s) := by
  show execEphRewrite m d f band s = _
  rw [execEphRewrite, gate_reaches _ hr]
  rfl

/-! ## EPH_FRAME0 (R123) -/

/-- Without committed frames no rewrite is accepted, whatever waits. -/
theorem overrides_settleRewrites {d : Fin 4} {s : State} (h : s.clu[d].headers = []) :
    (settleRewrites d s).clu[d].overrides = s.clu[d].overrides := by
  suffices hfold : (settleRewrites d s).clu[d].headers = [] ∧ (settleRewrites d s).clu[d].overrides = s.clu[d].overrides
    from hfold.2
  refine List.foldlRecOn (motive := fun t : State => t.clu[d].headers = [] ∧ t.clu[d].overrides = s.clu[d].overrides)
    _ _ (by rw [setClu_same]; exact ⟨h, rfl⟩) fun t ht r _ => ?_
  rw [decideRewrite_unknown (by rw [rewriteTarget, ht.1]; rfl)]
  exact ht

/-- The registers that EPH_FRAME0 sets, written (R123). -/
def frame0Set (d : Fin 4) (v : Word) (s : State) : State :=
  setReg (setReg (setReg s (P.EPH_FRAME0 d) v) (P.EPH_COMMIT d) (v - 1)) (P.EPH_RETIRED d) (v - 1)

/-- The cluster before the first commit of frame v. -/
def Cluster.beforeFrame (c : Cluster) (v : Word) : Cluster := { c with headers := [], nextFrame := v.toNat, nextBand := 0 }

/-- The state in which the rewrites that waited are decided once EPH_FRAME0 has been written. -/
def frame0Cleared (d : Fin 4) (v : Word) (s : State) : State :=
  setOverrides d [] (setClu d (s.clu[d].beforeFrame v) (frame0Set d v s))

theorem exec_ephFrame0Write_running {m : Master} {d : Fin 4} {v : Word} {s : State}
    (hr : s.reaches m true (P.EPH_FRAME0 d) = true) (h : seqRuns s d = true) :
    exec (.ephFrame0Write m d v) s = .next s := by
  show execEphFrame0Write m d v s = _
  rw [execEphFrame0Write, gate_reaches _ hr, frame0Write, if_pos h]

theorem exec_ephFrame0Write_stopped {m : Master} {d : Fin 4} {v : Word} {s : State}
    (hr : s.reaches m true (P.EPH_FRAME0 d) = true) (h : seqRuns s d = false) :
    exec (.ephFrame0Write m d v) s = .next (settleRewrites d (frame0Cleared d v s)) := by
  show execEphFrame0Write m d v s = _
  rw [execEphFrame0Write, gate_reaches _ hr, frame0Write, if_neg (by simp [h])]
  rfl

theorem frame0Set_regs (d : Fin 4) (v : Word) (s : State) :
    getReg (frame0Set d v s) (P.EPH_FRAME0 d) = v ∧ getReg (frame0Set d v s) (P.EPH_COMMIT d) = v - 1 ∧
    getReg (frame0Set d v s) (P.EPH_RETIRED d) = v - 1 ∧
    RegsBut s (frame0Set d v s) [P.EPH_FRAME0 d, P.EPH_COMMIT d, P.EPH_RETIRED d] := by
  have h1 : P.EPH_FRAME0 d ≠ P.EPH_COMMIT d := by unfold P.EPH_FRAME0 P.EPH_COMMIT; omega
  have h2 : P.EPH_FRAME0 d ≠ P.EPH_RETIRED d := by unfold P.EPH_FRAME0 P.EPH_RETIRED; omega
  have h3 : P.EPH_COMMIT d ≠ P.EPH_RETIRED d := by unfold P.EPH_COMMIT P.EPH_RETIRED; omega
  refine ⟨?_, ?_, getReg_setReg_same _ _ _, ?_⟩
  · rw [frame0Set, getReg_setReg_ne _ _ h2, getReg_setReg_ne _ _ h1, getReg_setReg_same]
  · rw [frame0Set, getReg_setReg_ne _ _ h3, getReg_setReg_same]
  · exact RegsBut.trans (RegsBut.trans (RegsBut.setReg s v (by simp)) (RegsBut.setReg _ _ (by simp)))
      (RegsBut.setReg _ _ (by simp))

/-- What a write of EPH_FRAME0 to a stopped sequencer leaves. -/
theorem frame0_spec (d : Fin 4) (v : Word) (s : State) :
    let t := settleRewrites d (frame0Cleared d v s)
    getReg t (P.EPH_FRAME0 d) = v ∧ getReg t (P.EPH_COMMIT d) = v - 1 ∧ getReg t (P.EPH_RETIRED d) = v - 1 ∧
    t.clu[d].nextFrame = v.toNat ∧ t.clu[d].nextBand = 0 ∧ t.clu[d].overrides = [] ∧ t.mem = s.mem ∧
    RegsBut s t [P.EPH_FRAME0 d, P.EPH_COMMIT d, P.EPH_RETIRED d, P.EPH_STAT d, P.EPH_REWRITE_STAT d] := by
  intro t
  obtain ⟨h1, h2, h3, hregs⟩ := frame0Set_regs d v s
  have hc : (setClu d (s.clu[d].beforeFrame v) (frame0Set d v s)).clu[d] = s.clu[d].beforeFrame v := setClu_same _ _ _
  have hw : Rewrites d (setClu d (s.clu[d].beforeFrame v) (frame0Set d v s)) t :=
    ((Rewrites.refl d _).setOverrides []).settleRewrites
  have hown := hw.own
  rw [hc] at hown
  have hkeep : ∀ key, key < P.EPH_REWRITE_STAT d → getReg t key = getReg (frame0Set d v s) key := fun key hk =>
    hw.regs key (by
      simp only [P.EPH_REWRITE_STAT, P.EPH_STAT, List.mem_cons, List.not_mem_nil, or_false] at hk ⊢
      omega)
  refine ⟨(hkeep _ ?_).trans h1, (hkeep _ ?_).trans h2, (hkeep _ ?_).trans h3, congrArg Cluster.nextFrame hown,
    congrArg Cluster.nextBand hown, ?_, by rw [hw.rest]; rfl, fun key hk => ?_⟩
  · unfold P.EPH_FRAME0 P.EPH_REWRITE_STAT; omega
  · unfold P.EPH_COMMIT P.EPH_REWRITE_STAT; omega
  · unfold P.EPH_RETIRED P.EPH_REWRITE_STAT; omega
  · have hh : (frame0Cleared d v s).clu[d].headers = [] := by
      rw [frame0Cleared, clu_setOverrides, hc]
      rfl
    exact (overrides_settleRewrites hh).trans (overrides_setOverrides d [] _)
  · simp only [List.mem_cons, List.not_mem_nil, or_false, not_or] at hk
    obtain ⟨hf, hm, hr, hst, hrw⟩ := hk
    exact (hw.regs key (by simp [hst, hrw])).trans (hregs key (by simp [hf, hm, hr]))

end Sys2Proof.Machine
end

section
/-! SUPPORT. What a sequencer reads of its ring while the arbiters are idle, and the header read after a commit. -/
namespace Sys2Proof.Machine

/-! ## Reads of DRAM while the arbiters are idle -/

/-- Requester id has read from DRAM: memory is as it was, and the arbiters are idle again. -/
structure Fetched (id : Nat) (s t : State) : Prop where
  only : ArbOnly s t (dramKeys id)
  mem : t.mem = s.mem
  idle : ArbiterIdle t

theorem Fetched.trans {id : Nat} {s t u : State} (h : Fetched id s t) (h2 : Fetched id t u) : Fetched id s u :=
  ⟨h.only.trans h2.only, h2.mem.trans h.mem, h2.idle⟩

theorem Fetched.reg {id : Nat} {s t : State} (h : Fetched id s t) (hid : id ≤ 16) {key : Nat}
    (hk : key < 0x60020 ∨ 0x60228 < key) : getReg t key = getReg s key := h.only.regs key (not_mem_dramKeys hk hid)

theorem dramReads_idle {id : Nat} (hid : id ≤ 16) (as : List Nat) {s : State} (h : ArbiterIdle s) :
    ∃ t, dramReads id as s = .ok t ∧ Fetched id s t := by
  induction as generalizing s with
  | nil => exact ⟨s, rfl, ArbOnly.refl s _, rfl, h⟩
  | cons a as ih =>
    obtain ⟨u, hu, ha⟩ := dramAccess_idle h hid a none
    obtain ⟨t, ht, hf⟩ := ih ha.idle
    refine ⟨t, ?_, Fetched.trans ⟨ha.only, ha.mem, ha.idle⟩ hf⟩
    rw [dramReads, hu]
    exact ht

theorem dramRead_idle {id : Nat} (hid : id ≤ 16) (a n : Nat) {s : State} (h : ArbiterIdle s) :
    ∃ t, dramRead id a n s = .ok t ∧ Fetched id s t := dramReads_idle hid _ h

/-! ## What reads of the ring hang on -/

/-- What the sequencer of cluster d reads through its ring, and judges it by, is as it was. -/
structure SameRing (d : Fin 4) (s t : State) : Prop where
  byte : ∀ key, t.byte key = s.byte key
  base : getReg t (P.EPH_RING_BASE d) = getReg s (P.EPH_RING_BASE d)
  ctrl : getReg t (P.EPH_CTRL d) = getReg s (P.EPH_CTRL d)
  cfg : getReg t P.MEM_CFG = getReg s P.MEM_CFG
  part : ∀ i, getReg t (P.CMP_PART i) = getReg s (P.CMP_PART i)
  overrides : t.clu[d].overrides = s.clu[d].overrides

theorem SameRing.trans {d : Fin 4} {s t u : State} (h : SameRing d s t) (h2 : SameRing d t u) : SameRing d s u :=
  ⟨fun key => (h2.byte key).trans (h.byte key), h2.base.trans h.base, h2.ctrl.trans h.ctrl, h2.cfg.trans h.cfg,
    fun i => (h2.part i).trans (h.part i), h2.overrides.trans h.overrides⟩

/-- Reads of DRAM leave the ring as it was, but for bytes that hang on a free value. -/
theorem Fetched.sameRing {id : Nat} {s t : State} (h : Fetched id s t) (hid : id ≤ 16) (d : Fin 4) (f : Nat) :
    SameRing d { s with free := f } { t with free := f } := by
  have hb : t.blt = s.blt := by rw [h.only.rest]
  have hc : t.clu = s.clu := by rw [h.only.rest]
  refine ⟨byte_congr (s := { s with free := f }) (t := { t with free := f }) h.mem hb hc rfl, h.reg hid (.inr ?_),
    h.reg hid (.inr ?_), h.reg hid (.inl (by decide)), fun i => h.reg hid (.inr ?_),
    by rw [Fin.getElem_fin, Fin.getElem_fin, hc]⟩
  · unfold P.EPH_RING_BASE; omega
  · unfold P.EPH_CTRL; omega
  · unfold P.CMP_PART; omega

/-- A byte read hangs on a cluster for the places of its stream buffer alone. -/
theorem byte_setClu {d : Fin 4} {c : Cluster} {s : State} (hc : c.streamed = s.clu[d].streamed) (key : Nat) :
    (setClu d c s).byte key = s.byte key := by
  have hst : (setClu d c s).streamed key = s.streamed key := by
    rw [streamed_eq, streamed_eq, setClu, Vector.getElem?_set]
    split
    · next h => rw [← h, Vector.getElem?_eq_getElem d.isLt]; exact congrArg (_ && ·) hc
    · rfl
  unfold State.byte State.stored
  rw [hst]
  rfl

theorem SameRing.setClu {d : Fin 4} {c : Cluster} {s : State} (hs : c.streamed = s.clu[d].streamed)
    (ho : c.overrides = s.clu[d].overrides) : SameRing d s (setClu d c s) :=
  ⟨byte_setClu hs, rfl, rfl, rfl, fun _ => rfl, by rw [setClu_same]; exact ho⟩

section
variable {d : Fin 4} {s t : State} (h : SameRing d s t)
include h

theorem SameRing.readLe (key n : Nat) : t.readLe key n = s.readLe key n := by
  have hb : t.readBytes key n = s.readBytes key n := by
    induction n generalizing key with
    | zero => rfl
    | succ n ih => exact congrArg₂ List.cons (h.byte key) (ih (key + 1))
  rw [State.readLe, State.readLe, hb]

theorem SameRing.word (key : Nat) : t.word key = s.word key := by rw [State.word, State.word, h.readLe]

theorem SameRing.ringFormat : ringFormat t d = ringFormat s d := by
  rw [Machine.ringFormat, Machine.ringFormat, getF, getF, h.ctrl]

theorem SameRing.slotAddr (frame : Nat) : slotAddr t d frame = slotAddr s d frame := by
  simp only [Machine.slotAddr, ringSlots, slotSize, h.ringFormat, getF, h.ctrl, h.base]

theorem SameRing.hdrWord (frame i : Nat) : hdrWord t d frame i = hdrWord s d frame i := by
  rw [Machine.hdrWord, Machine.hdrWord, h.slotAddr, h.readLe]

theorem SameRing.hdrCount (frame : Nat) : hdrCount t d frame = hdrCount s d frame := by
  rw [Machine.hdrCount, Machine.hdrCount, h.hdrWord]

theorem SameRing.hdrHeight (frame : Nat) : hdrHeight t d frame = hdrHeight s d frame := by
  rw [Machine.hdrHeight, Machine.hdrHeight, h.hdrWord]

theorem SameRing.headerCause (frame : Nat) : headerCause t d frame = headerCause s d frame := by
  simp only [Machine.headerCause, h.hdrWord, h.ringFormat]

theorem SameRing.headerForm (frame : Nat) : headerForm t d frame = headerForm s d frame := by
  simp only [Machine.headerForm, h.hdrWord, h.ringFormat, h.hdrCount, h.hdrHeight]

theorem SameRing.takeEntry (frame band : Nat) : takeEntry t d frame band = takeEntry s d frame band := by
  simp only [Machine.takeEntry, slotEntry, h.overrides, h.ringFormat, h.slotAddr, h.word]

theorem SameRing.entryPatches (e : Override) : entryPatches t d e = entryPatches s d e := by
  simp only [Machine.entryPatches, h.ringFormat, h.word]

theorem SameRing.patchedWords (e : Override) : patchedWords t d e = patchedWords s d e := by
  simp only [Machine.patchedWords, entryWords, h.entryPatches, h.word]

theorem SameRing.dramSize : t.dramSize = s.dramSize := by
  rw [State.dramSize, State.dramSize, getF, getF, getF, getF, h.cfg]

theorem SameRing.entryForms (e : Override) : entryForms t d e = entryForms s d e := by
  rw [Machine.entryForms, Machine.entryForms, h.entryPatches, h.ringFormat, h.dramSize]

theorem SameRing.recordForm (b : Band) (lines : Nat) : recordForm t d b lines = recordForm s d b lines := by
  simp only [Machine.recordForm, h.part]

end

/-! ## The header of a committed frame (R120) -/

/-- The committed frames with the band_count of one, its header having been read. -/
def headersRead (s : State) (d : Fin 4) (frame : Nat) : List (Nat × Option Nat) :=
  s.clu[d].headers.map (fun h => if h.1 = frame then (frame, some (hdrCount s d frame)) else h)

/-- The cluster with them. -/
def headerNoted (s : State) (d : Fin 4) (frame : Nat) : Cluster := { s.clu[d] with headers := headersRead s d frame }

theorem mem_headersRead {s : State} {d : Fin 4} {frame : Nat} (h : unreadHeader s d = some frame) :
    (frame, some (hdrCount s d frame)) ∈ headersRead s d frame := by
  obtain ⟨x, hx, rfl⟩ := Option.map_eq_some_iff.1 h
  exact List.mem_map.2 ⟨x, List.mem_of_find?_eq_some hx, if_pos rfl⟩

theorem exec_headerRead_idle {d : Fin 4} {frame : Nat} {s : State} (h : unreadHeader s d = some frame)
    (hc : compRuns s d = true) (hi : ArbiterIdle s) : ∃ u, Fetched d s u ∧
      exec (.headerRead d) s = .next (settleRewrites d (setClu d (headerNoted u d frame) u)) := by
  obtain ⟨u, hu, hf⟩ := dramRead_idle (id := d) (by omega) (slotAddr s d frame) 64 hi
  refine ⟨u, hf, ?_⟩
  show execHeaderRead d s = _
  unfold execHeaderRead
  rw [h]
  dsimp only
  rw [if_pos hc, hu]
  rfl

/-- What the header's read leaves: its band_count, as the reader found it, and the registers of rewrites and accesses. -/
theorem headerRead_spec {d : Fin 4} {frame : Nat} {s u : State} (h : unreadHeader s d = some frame) (hf : Fetched d s u) :
    let t := settleRewrites d (setClu d (headerNoted u d frame) u)
    (∃ n, (frame, some (hdrCount { s with free := n } d frame)) ∈ t.clu[d].headers) ∧ t.mem = s.mem ∧
    RegsBut s t ([P.EPH_REWRITE_STAT d, P.EPH_STAT d] ++ dramKeys d) := by
  intro t
  have hw : Rewrites d (setClu d (headerNoted u d frame) u) t := (Rewrites.refl d _).settleRewrites
  have hu : unreadHeader u d = some frame := by
    rw [← h, unreadHeader, unreadHeader, hf.only.rest]
  refine ⟨⟨u.free, ?_⟩, ?_, ?_⟩
  · rw [hw.headers, setClu_same, headerNoted, ← (hf.sameRing (by omega) d u.free).hdrCount]
    exact mem_headersRead hu
  · rw [hw.rest]
    exact hf.mem
  · exact RegsBut.trans (RegsBut.mono hf.only.regs fun _ hk => List.mem_append_right _ hk)
      (RegsBut.mono hw.regs fun _ hk => List.mem_append_left _ hk)

end Sys2Proof.Machine
end

section
/-! SUPPORT. Starting and stopping sequencers: EPH_CTRL as a write leaves it, and the cluster at a start and a stop. -/
namespace Sys2Proof.Machine

/-! ## EPH_CTRL (R127) -/

/-- A word written agrees with another in a field of type RW, wherever the two agree in its bits. -/
theorem RegSpec.Tidy.get_write {r : RegSpec} (hr : r.Tidy) {f : RField} (hf : f ∈ r.fields) (ha : f.acc = .rw) {v x : Word}
    (hv : ∀ i, f.fld.Holds i → v.getLsbD i = x.getLsbD i) (w : Word) : f.fld.get (r.write v w) = f.fld.get x := by
  refine Nat.eq_of_testBit_eq fun i => ?_
  obtain ⟨hlo, hhi⟩ := hr.1 f hf
  rw [Fld.get, Fld.get, bits_testBit, bits_testBit]
  by_cases hi : i < f.fld.hi + 1 - f.fld.lo
  · have hb : f.fld.Holds (f.fld.lo + i) := ⟨by omega, by omega⟩
    have hw := hr.write_inside hf hb v w
    rw [ha, Access.bitAfter, hv _ hb] at hw
    exact congrArg _ hw
  · rw [decide_eq_false hi, Bool.false_and, Bool.false_and]

/-- The row of EPH_CTRL. -/
def ephCtrlRow : RegSpec := ⟨P.EPH_CTRL 0, [(0x8000, 4)], [⟨F.EPH_CTRL_run, .rw, 0x0⟩, ⟨F.EPH_CTRL_format, .rw, 0x0⟩,
  ⟨F.EPH_CTRL_lookahead, .rw, 0x2⟩, ⟨F.EPH_CTRL_window, .rw, 0x8⟩, ⟨F.EPH_CTRL_slots_log2, .rw, 0x0⟩]⟩

theorem specOf_ephCtrl : ∀ d : Fin 4, specOf (P.EPH_CTRL d % 0x1000000) = some ephCtrlRow := by decide +kernel

theorem ephCtrlRow_tidy : ephCtrlRow.Tidy := by unfold RegSpec.Tidy; decide

/-- A word written to EPH_CTRL of a stopped sequencer is stored with run clear. -/
def ctrlStored (d : Fin 4) (v : Word) (s : State) : State :=
  setReg s (P.EPH_CTRL d) (ephCtrlRow.write (F.EPH_CTRL_run.put 0 v) (getReg s (P.EPH_CTRL d)))

theorem tableWrite_ephCtrl (d : Fin 4) (v : Word) (s : State) :
    tableWrite (P.EPH_CTRL d) (F.EPH_CTRL_run.put 0 v) s = ctrlStored d v s := by
  rw [tableWrite, specOf_ephCtrl d, ctrlStored]

theorem ctrlStored_onlyRegs (d : Fin 4) (v : Word) (s : State) : OnlyRegs s (ctrlStored d v s) [P.EPH_CTRL d] :=
  OnlyRegs.setReg s _ (List.mem_singleton.2 rfl)

theorem run_ctrlStored (d : Fin 4) (v : Word) (s : State) :
    onF (ctrlStored d v s) (P.EPH_CTRL d) F.EPH_CTRL_run = false := by
  rw [onF, ctrlStored, getReg_setReg_same]
  have h := ephCtrlRow_tidy.write_inside (f := ⟨F.EPH_CTRL_run, .rw, 0x0⟩) List.mem_cons_self (i := 0)
    ⟨by decide, by decide⟩ (F.EPH_CTRL_run.put 0 v) (getReg s (P.EPH_CTRL d))
  exact h.trans (Fld.put_zero_bit (by decide) v ⟨by decide, by decide⟩ (by decide))

/-- The format of the ring is the one written, whatever run is. -/
theorem ringFormat_ctrlStored (d : Fin 4) {v x : Word} (s : State)
    (h : ∀ i, 0 < i → i < 32 → v.getLsbD i = x.getLsbD i) : ringFormat (ctrlStored d v s) d = F.EPH_CTRL_format.get x := by
  rw [ringFormat, getF, ctrlStored, getReg_setReg_same]
  refine ephCtrlRow_tidy.get_write (f := ⟨F.EPH_CTRL_format, .rw, 0x0⟩) (by simp [ephCtrlRow]) rfl (fun i hi => ?_) _
  obtain ⟨h4, h7⟩ : 4 ≤ i ∧ i ≤ 7 := hi
  rw [Fld.put_bit_apart (by decide) 0 v (fun hh => ?_) (by omega), h i (by omega) (by omega)]
  have : i ≤ 0 := hh.2
  omega

theorem getLsbD_setRun (v : Word) (i : Nat) (h : 0 < i) (_ : i < 32) : (v ||| 1).getLsbD i = v.getLsbD i := by
  rw [BitVec.getLsbD_or, show (1 : Word) = 1#32 from rfl, BitVec.getLsbD_one]
  simp [Nat.ne_of_gt h]

theorem getLsbD_clearRun (v : Word) (i : Nat) (h : 0 < i) (h32 : i < 32) : (v &&& ~~~1).getLsbD i = v.getLsbD i := by
  rw [BitVec.getLsbD_and, BitVec.getLsbD_not, show (1 : Word) = 1#32 from rfl, BitVec.getLsbD_one]
  simp [Nat.ne_of_gt h, h32]

theorem run_setRun (v : Word) : F.EPH_CTRL_run.on (v ||| 1) = true := by
  show (v ||| 1).getLsbD 0 = true
  simp

theorem run_clearRun (v : Word) : F.EPH_CTRL_run.on (v &&& ~~~1) = false := by
  show (v &&& ~~~1).getLsbD 0 = false
  simp

/-! ## Cues discarded at a start (R199) -/

/-- From s to t Kettle alone differs, and KTL_CUE_POS. -/
structure CuesMoved (s t : State) : Prop where
  rest : t = { s with ktl := t.ktl, regs := t.regs }
  regs : RegsBut s t [P.KTL_CUE_POS]

theorem settleSlots_moves (xs : List CueSlot) (s : State) : CuesMoved s (settleSlots xs s) := by
  induction xs generalizing s with
  | nil => exact ⟨rfl, RegsBut.of_regs rfl _⟩
  | cons x xs ih =>
    unfold settleSlots
    split
    · obtain ⟨hrest, hregs⟩ := ih (setReg s P.KTL_CUE_POS (BitVec.ofNat 32 x.frame))
      exact ⟨by rw [hrest]; rfl, RegsBut.trans (RegsBut.setReg s _ (List.mem_singleton.2 rfl)) hregs⟩
    · exact ⟨rfl, RegsBut.of_regs rfl _⟩

theorem dropCues_moves (d : Fin 4) (s : State) : CuesMoved s (dropCues d s) := by
  unfold dropCues
  split
  · unfold discardCues settle
    extract_lets k rings
    obtain ⟨hrest, hregs⟩ := settleSlots_moves _ (setKtl { k with
      cues := [], rings := rings, slots := k.slots.map (fun x => { x with read := true }) } s)
    exact ⟨by rw [hrest]; rfl, hregs⟩
  · exact ⟨rfl, RegsBut.refl s _⟩

/-! ## A start (R108, R119, R123) -/

theorem exec_sequencerStart {m : Master} {d : Fin 4} {v : Word} {s : State} (hr : s.reaches m true (P.EPH_CTRL d) = true)
    (hv : reservedOk (P.EPH_CTRL d) v = true) : exec (.sequencerStart m d v) s =
      if seqRuns s d then .next s else tryStart d (ctrlStored d (v ||| 1) s) := by
  show execSequencerStart m d v s = _
  rw [execSequencerStart, gate_reaches _ hr, if_pos hv, ephCtrlWrite, run_setRun, Bool.or_true, tableWrite_ephCtrl]
  rfl

/-- What a try to start looks at is as it was before EPH_CTRL was written. -/
theorem ctrlStored_asks (d : Fin 4) (v : Word) (s : State) :
    (ctrlStored d v s).tilted = s.tilted ∧ (∀ fmt, advertised (ctrlStored d v s) d fmt = advertised s d fmt) ∧
    modeOf (ctrlStored d v s) d = modeOf s d ∧ ∀ frame, committed (ctrlStored d v s) d frame = committed s d frame := by
  have hk : ∀ key, key ≠ P.EPH_CTRL d → getReg (ctrlStored d v s) key = getReg s key := fun key hk =>
    (ctrlStored_onlyRegs d v s).2 key (by simpa using hk)
  have h1 : P.EPH_CAPS d ≠ P.EPH_CTRL d := by unfold P.EPH_CAPS P.EPH_CTRL; omega
  have h2 : P.DSP_CTRL d ≠ P.EPH_CTRL d := by unfold P.DSP_CTRL P.EPH_CTRL; omega
  have h3 : P.EPH_COMMIT d ≠ P.EPH_CTRL d := by unfold P.EPH_COMMIT P.EPH_CTRL; omega
  have h4 : P.EPH_FRAME0 d ≠ P.EPH_CTRL d := by unfold P.EPH_FRAME0 P.EPH_CTRL; omega
  exact ⟨rfl, fun fmt => by rw [advertised, advertised, hk _ h1], by rw [modeOf, modeOf, getF, getF, hk _ h2],
    fun frame => by rw [committed, committed, hk _ h3, hk _ h4]⟩

/-- The state with the sequencer running from the first frame on, its cluster empty. -/
def startMarked (d : Fin 4) (s : State) : State :=
  setF (setF (setClu d (s.clu[d].started (getReg s (P.EPH_FRAME0 d)).toNat s.clock) s)
    (P.EPH_CTRL d) F.EPH_CTRL_run 1) (P.EPH_STAT d) F.EPH_STAT_running 1

theorem startMarked_onlyRegs (d : Fin 4) (s : State) :
    OnlyRegs (setClu d (s.clu[d].started (getReg s (P.EPH_FRAME0 d)).toNat s.clock) s) (startMarked d s)
      [P.EPH_CTRL d, P.EPH_STAT d] :=
  OnlyRegs.trans (OnlyRegs.setF _ _ _ (by simp)) (OnlyRegs.setF _ _ _ (by simp))

theorem committed_startMarked (d : Fin 4) (s : State) (frame : Nat) :
    committed (startMarked d s) d frame = committed s d frame := by
  have hk : ∀ key, key ∉ [P.EPH_CTRL d, P.EPH_STAT d] → getReg (startMarked d s) key = getReg s key :=
    (startMarked_onlyRegs d s).2
  rw [committed, committed, hk (P.EPH_COMMIT d) ?_, hk (P.EPH_FRAME0 d) ?_]
  · simp only [P.EPH_FRAME0, P.EPH_CTRL, P.EPH_STAT, List.mem_cons, List.not_mem_nil, or_false]; omega
  · simp only [P.EPH_COMMIT, P.EPH_CTRL, P.EPH_STAT, List.mem_cons, List.not_mem_nil, or_false]; omega

/-- The state with starve set when the first frame is not committed. -/
def startJudged (d : Fin 4) (s : State) : State :=
  if committed s d (getReg s (P.EPH_FRAME0 d)).toNat then startMarked d s
  else setF (startMarked d s) (P.EPH_STAT d) F.EPH_STAT_starve 1

theorem startSequencer_eq (d : Fin 4) (s : State) : startSequencer d s = dropCues d (startJudged d s) := by
  rw [startJudged, ← committed_startMarked]
  rfl

theorem startJudged_onlyRegs (d : Fin 4) (s : State) :
    OnlyRegs (setClu d (s.clu[d].started (getReg s (P.EPH_FRAME0 d)).toNat s.clock) s) (startJudged d s)
      [P.EPH_CTRL d, P.EPH_STAT d] :=
  OnlyRegs.ite (startMarked_onlyRegs d s) (OnlyRegs.trans (startMarked_onlyRegs d s) (OnlyRegs.setF _ _ _ (by simp)))

theorem ephCtrl_ne_stat (d : Fin 4) : P.EPH_CTRL d ≠ P.EPH_STAT d := by unfold P.EPH_CTRL P.EPH_STAT; omega

theorem onF_setF_other (s : State) (k : Nat) (f g : Fld) (n : Nat) (h : f.leaves g = true) :
    onF (setF s k f n) k g = onF s k g :=
  onF_setF_apart s k f g (Fld.apart_of_leaves h).1 (Fld.apart_of_leaves h).2 n

theorem startMarked_fields (d : Fin 4) (s : State) :
    let t := startMarked d s
    seqRuns t d = true ∧ onF t (P.EPH_STAT d) F.EPH_STAT_starve = onF s (P.EPH_STAT d) F.EPH_STAT_starve ∧
    onF t (P.EPH_CTRL d) F.EPH_CTRL_run = true ∧ ringFormat t d = ringFormat s d := by
  have hne := ephCtrl_ne_stat d
  refine ⟨onF_setF_self _ _ _ 1 rfl, ?_, ?_, ?_⟩
  · exact (onF_setF_other _ _ _ _ _ rfl).trans (onF_setF_ne _ _ _ _ hne.symm)
  · exact (onF_setF_ne _ _ _ _ hne).trans (onF_setF_self _ _ _ 1 rfl)
  · exact (getF_setF_ne _ _ _ _ hne).trans (getF_setF_other _ _ _ _ _ rfl)

/-- The fields of EPH_CTRL and EPH_STAT at a start. -/
theorem startJudged_fields (d : Fin 4) (s : State) :
    let t := startJudged d s
    seqRuns t d = true ∧ onF t (P.EPH_STAT d) F.EPH_STAT_starve =
      (onF s (P.EPH_STAT d) F.EPH_STAT_starve || !committed s d (getReg s (P.EPH_FRAME0 d)).toNat) ∧
    onF t (P.EPH_CTRL d) F.EPH_CTRL_run = true ∧ ringFormat t d = ringFormat s d := by
  obtain ⟨hruns, hstarve, hctrl⟩ := startMarked_fields d s
  have hne := ephCtrl_ne_stat d
  unfold startJudged
  split
  · next h => exact ⟨hruns, by rw [hstarve, h, Bool.not_true, Bool.or_false], hctrl⟩
  · next h =>
    refine ⟨(onF_setF_other _ _ _ _ _ rfl).trans hruns, ?_, (onF_setF_ne _ _ _ _ hne).trans hctrl.1,
      (getF_setF_ne _ _ _ _ hne).trans hctrl.2⟩
    rw [Bool.eq_false_of_not_eq_true h, Bool.not_false, Bool.or_true]
    exact onF_setF_self _ _ _ 1 rfl

/-- What a start leaves. -/
theorem startSequencer_spec (d : Fin 4) (s : State) :
    let t := startSequencer d s
    let first := (getReg s (P.EPH_FRAME0 d)).toNat
    seqRuns t d = true ∧ onF t (P.EPH_CTRL d) F.EPH_CTRL_run = true ∧ ringFormat t d = ringFormat s d ∧
    t.clu[d] = s.clu[d].started first s.clock ∧
    onF t (P.EPH_STAT d) F.EPH_STAT_starve = (onF s (P.EPH_STAT d) F.EPH_STAT_starve || !committed s d first) ∧
    RegsBut s t [P.EPH_CTRL d, P.EPH_STAT d, P.KTL_CUE_POS] ∧ t.mem = s.mem := by
  intro t first
  have ht : t = dropCues d (startJudged d s) := startSequencer_eq d s
  obtain ⟨hrest, hregs⟩ := dropCues_moves d (startJudged d s)
  rw [← ht] at hrest hregs
  have ho := startJudged_onlyRegs d s
  obtain ⟨h1, h4, h2, h3⟩ := startJudged_fields d s
  have hc : getReg t (P.EPH_CTRL d) = getReg (startJudged d s) (P.EPH_CTRL d) :=
    hregs _ (by simp only [P.EPH_CTRL, P.KTL_CUE_POS, List.mem_cons, List.not_mem_nil, or_false]; omega)
  have hst : getReg t (P.EPH_STAT d) = getReg (startJudged d s) (P.EPH_STAT d) :=
    hregs _ (by simp only [P.EPH_STAT, P.KTL_CUE_POS, List.mem_cons, List.not_mem_nil, or_false]; omega)
  rw [seqRuns, ringFormat, getF, onF, onF, onF, hc, hst]
  refine ⟨h1, h2, h3, ?_, h4, ?_, ?_⟩
  · rw [Fin.getElem_fin, hrest, ho.1]
    exact setClu_same d _ s
  · exact RegsBut.trans (RegsBut.mono ho.2 (by simp)) (RegsBut.mono hregs (by simp))
  · rw [hrest, ho.1]
    rfl

/-! ## A stop (R124) -/

theorem exec_sequencerStop {m : Master} {d : Fin 4} {v : Word} {s : State} (hr : s.reaches m true (P.EPH_CTRL d) = true)
    (hv : reservedOk (P.EPH_CTRL d) v = true) : exec (.sequencerStop m d v) s =
      if seqRuns s d then
        if s.clu[d].stopping then .next s else .next (setF (stopCluster d s) (P.EPH_CTRL d) F.EPH_CTRL_run 0)
      else .next (ctrlStored d (v &&& ~~~1) s) := by
  show execSequencerStop m d v s = _
  rw [execSequencerStop, gate_reaches _ hr, if_pos hv, ephCtrlWrite, run_clearRun, Bool.or_false, tableWrite_ephCtrl]
  rfl

theorem stopCluster_own (d : Fin 4) (s : State) : (stopCluster d s).clu[d].stopping = true ∧
    (stopCluster d s).clu[d].taken = s.clu[d].taken := by
  rw [stopCluster, setClu_same]
  exact ⟨rfl, rfl⟩

/-- The state once a stop has completed (R124). -/
def stopDone (d : Fin 4) (s : State) : State :=
  setF (setClu d { s.clu[d] with stopping := false, send := none } s) (P.EPH_STAT d) F.EPH_STAT_running 0

theorem exec_sequencerStopped {d : Fin 4} {s : State} (hr : seqRuns s d = true) (hs : s.clu[d].stopping = true)
    (hd : drained s.clu[d] = true) : exec (.sequencerStopped d) s = .next (stopDone d s) := by
  show execSequencerStopped d s = _
  rw [execSequencerStopped, if_pos (by rw [hr, hs, hd]; rfl)]
  rfl

theorem stopDone_spec (d : Fin 4) (s : State) : seqRuns (stopDone d s) d = false ∧
    (stopDone d s).clu[d].stopping = false ∧ RegsBut s (stopDone d s) [P.EPH_STAT d] ∧ (stopDone d s).mem = s.mem := by
  refine ⟨onF_setF_self _ _ _ 0 rfl, ?_, RegsBut.setF (setClu d _ s) _ _ (by simp), rfl⟩
  rw [stopDone, setF_clu, setClu_same]

end Sys2Proof.Machine
end

section
/-! THEOREM. Frame commits, rewrites, and starting and stopping sequencers. -/
namespace Sys2Proof.Machine

/-! ## Commits and rewrites -/

theorem commit_accepted {m : Master} {d : Fin 4} {frame : Word} {s : State}
    (hr : s.reaches m true (P.EPH_COMMIT d) = true) (h : commitOk s d frame.toNat = true) :
    ∃ t, exec (.ephCommit m d frame) s = .next t ∧ getReg t (P.EPH_COMMIT d) = frame ∧ RegsBut s t [P.EPH_COMMIT d] ∧
      t.mem = s.mem ∧ t.clu[d] = { s.clu[d] with headers := s.clu[d].headers ++ [(frame.toNat, none)] } := by
  refine ⟨_, exec_ephCommit_accepted hr h, ?_⟩
  rw [handCue_only]
  refine ⟨getReg_setReg_same s _ frame, RegsBut.setReg s frame (List.mem_singleton.2 rfl), rfl, ?_⟩
  exact setClu_same d (committedFrame s d frame) (setReg s (P.EPH_COMMIT d) frame)

theorem commit_refused {m : Master} {d : Fin 4} {frame : Word} {s : State}
    (hr : s.reaches m true (P.EPH_COMMIT d) = true) (h : commitOk s d frame.toNat = false) :
    ∃ t, exec (.ephCommit m d frame) s = .next t ∧ OnlyRegs s t [P.EPH_STAT d] ∧
      onF t (P.EPH_STAT d) F.EPH_STAT_commit_err = true :=
  ⟨_, exec_ephCommit_refused hr h, OnlyRegs.setF s _ 1 (List.mem_singleton.2 rfl), onF_setF_self _ _ _ 1 rfl⟩

theorem header_read {d : Fin 4} {frame : Nat} {s : State} (h : unreadHeader s d = some frame)
    (hc : compRuns s d = true) (hi : ArbiterIdle s) : ∃ t, exec (.headerRead d) s = .next t ∧
      (∃ n, (frame, some (hdrCount { s with free := n } d frame)) ∈ t.clu[d].headers) ∧ t.mem = s.mem ∧
      RegsBut s t ([P.EPH_REWRITE_STAT d, P.EPH_STAT d] ++ dramKeys d) := by
  obtain ⟨u, hf, hu⟩ := exec_headerRead_idle h hc hi
  exact ⟨_, hu, headerRead_spec h hf⟩

/-- What a rewrite leaves, whether it is decided or held until its frame's header has been read. -/
theorem decideRewrite_spec (d : Fin 4) (f : Nat) (o : Override) (s : State) :
    let found := rewriteTarget s d f
    let t := decideRewrite d f o s
    RegsBut s t [P.EPH_REWRITE_STAT d, P.EPH_STAT d] ∧ t.mem = s.mem ∧ (∀ j : Fin 4, j ≠ d → t.clu[j] = s.clu[j]) ∧
    (∀ frame, found = some (frame, none) → t.regs = s.regs ∧ t.clu[d].rewrites = s.clu[d].rewrites ++ [(f, o)]) ∧
    (∀ out, (found = none ∧ out = 3) ∨
        (∃ frame n, found = some (frame, some n) ∧ out = rewriteOutcome s d frame n o) →
      getF t (P.EPH_REWRITE_STAT d) F.EPH_REWRITE_STAT_outcome = out ∧
      getF t (P.EPH_REWRITE_STAT d) F.EPH_REWRITE_STAT_seq =
        (getF s (P.EPH_REWRITE_STAT d) F.EPH_REWRITE_STAT_seq + 1) % 16 ∧ (out ≠ 1 → t.clu[d] = s.clu[d])) ∧
    (∀ frame n, found = some (frame, some n) → rewriteOutcome s d frame n o = 1 →
      takeEntry t d frame o.band = { o with frame := frame }) := by
  intro found t
  have hw : Rewrites d s t := (Rewrites.refl d s).decideRewrite f o
  refine ⟨hw.regs, by rw [hw.rest], hw.others, fun frame h => ?_, fun out h => decideRewrite_reports h,
    fun frame n h ho => takeEntry_decideRewrite h ho⟩
  have ht : t = _ := decideRewrite_unread h
  rw [ht, setClu_same]
  exact ⟨rfl, rfl⟩

/-! ## Starts and stops -/

section
variable {m : Master} {d : Fin 4} {v : Word} {s : State} (hr : s.reaches m true (P.EPH_CTRL d) = true)
  (hv : reservedOk (P.EPH_CTRL d) v = true)
include hr hv

theorem start_running (h : seqRuns s d = true) : exec (.sequencerStart m d v) s = .next s := by
  rw [exec_sequencerStart hr hv, if_pos h]

/-- A start of a stopped sequencer is tried with EPH_CTRL written. -/
theorem start_tried (h : seqRuns s d = false) :
    exec (.sequencerStart m d v) s = tryStart d (ctrlStored d (v ||| 1) s) := by
  rw [exec_sequencerStart hr hv, if_neg (by simp [h])]

theorem start_tilted (h : seqRuns s d = false) (ht : s.tilted = true) :
    ∃ t, exec (.sequencerStart m d v) s = .next t ∧ OnlyRegs s t [P.EPH_CTRL d] ∧
      onF t (P.EPH_CTRL d) F.EPH_CTRL_run = false := by
  refine ⟨_, ?_, ctrlStored_onlyRegs d _ s, run_ctrlStored d (v ||| 1) s⟩
  rw [start_tried hr hv h, tryStart, if_pos ((ctrlStored_asks d _ s).1.trans ht)]

theorem start_unadvertised (h : seqRuns s d = false) (ht : s.tilted = false)
    (ha : advertised s d (F.EPH_CTRL_format.get v) = false) :
    ∃ t, exec (.sequencerStart m d v) s = .next t ∧ OnlyRegs s t [P.EPH_CTRL d, P.EPH_STAT d] ∧
      onF t (P.EPH_STAT d) F.EPH_STAT_fmt_refused = true ∧ seqRuns t d = false := by
  obtain ⟨htilt, hadv, -, -⟩ := ctrlStored_asks d (v ||| 1) s
  have ho := ctrlStored_onlyRegs d (v ||| 1) s
  refine ⟨setF (ctrlStored d (v ||| 1) s) (P.EPH_STAT d) F.EPH_STAT_fmt_refused 1, ?_,
    OnlyRegs.trans ⟨ho.1, RegsBut.mono ho.2 (by simp)⟩ (OnlyRegs.setF _ _ _ (by simp)), onF_setF_self _ _ _ 1 rfl, ?_⟩
  · rw [start_tried hr hv h, tryStart, htilt, ht, hadv, ringFormat_ctrlStored d s (getLsbD_setRun v), ha]
    rfl
  · exact (onF_setF_other _ _ _ _ _ rfl).trans ((onF_setReg_ne s _ _ (ephCtrl_ne_stat d).symm).trans h)

theorem start_begins (h : seqRuns s d = false) (ht : s.tilted = false)
    (ha : advertised s d (F.EPH_CTRL_format.get v) = true) (hm : modeOf s d ≠ 0) :
    exec (.sequencerStart m d v) s = .next (startSequencer d (ctrlStored d (v ||| 1) s)) := by
  obtain ⟨htilt, hadv, hmode, -⟩ := ctrlStored_asks d (v ||| 1) s
  rw [start_tried hr hv h, tryStart, htilt, ht, hadv, ringFormat_ctrlStored d s (getLsbD_setRun v), ha, hmode, if_neg hm]
  rfl

/-- What the start leaves, in terms of the state before EPH_CTRL was written. -/
theorem start_advertised (h : seqRuns s d = false) (ht : s.tilted = false)
    (ha : advertised s d (F.EPH_CTRL_format.get v) = true) (hm : modeOf s d ≠ 0) :
    let first := (getReg s (P.EPH_FRAME0 d)).toNat
    ∃ t, exec (.sequencerStart m d v) s = .next t ∧ seqRuns t d = true ∧
      onF t (P.EPH_CTRL d) F.EPH_CTRL_run = true ∧ ringFormat t d = F.EPH_CTRL_format.get v ∧
      t.clu[d].nextFrame = first ∧ t.clu[d].nextBand = 0 ∧ t.clu[d].ticks = 0 ∧ t.clu[d].carry = [] ∧
      t.clu[d].taken = [] ∧ t.clu[d].stopping = false ∧
      onF t (P.EPH_STAT d) F.EPH_STAT_starve = (onF s (P.EPH_STAT d) F.EPH_STAT_starve || !committed s d first) ∧
      RegsBut s t [P.EPH_CTRL d, P.EPH_STAT d, P.KTL_CUE_POS] ∧ t.mem = s.mem := by
  intro first
  have hcom := (ctrlStored_asks d (v ||| 1) s).2.2.2
  have ho := ctrlStored_onlyRegs d (v ||| 1) s
  have hf : getReg (ctrlStored d (v ||| 1) s) (P.EPH_FRAME0 d) = getReg s (P.EPH_FRAME0 d) :=
    ho.2 _ (by simp only [P.EPH_FRAME0, P.EPH_CTRL, List.mem_cons, List.not_mem_nil, or_false]; omega)
  have hst : onF (ctrlStored d (v ||| 1) s) (P.EPH_STAT d) F.EPH_STAT_starve = onF s (P.EPH_STAT d) F.EPH_STAT_starve :=
    onF_setReg_ne s _ _ (ephCtrl_ne_stat d).symm
  obtain ⟨hruns, hrun, hfmt, hown, hstarve, hregs, hmem⟩ := startSequencer_spec d (ctrlStored d (v ||| 1) s)
  rw [hf] at hown hstarve
  rw [hcom, hst] at hstarve
  refine ⟨_, start_begins hr hv h ht ha hm, hruns, hrun, hfmt.trans (ringFormat_ctrlStored d s (getLsbD_setRun v)), ?_⟩
  rw [hown]
  exact ⟨rfl, rfl, rfl, rfl, rfl, rfl, hstarve, RegsBut.trans (RegsBut.mono ho.2 (by simp)) hregs, hmem⟩

theorem stop_begins (h : seqRuns s d = true) (hs : s.clu[d].stopping = false) :
    ∃ t, exec (.sequencerStop m d v) s = .next t ∧ OnlyRegs { s with clu := t.clu } t [P.EPH_CTRL d] ∧
      onF t (P.EPH_CTRL d) F.EPH_CTRL_run = false ∧ seqRuns t d = true ∧ t.clu[d].stopping = true ∧
      t.clu[d].taken = s.clu[d].taken := by
  obtain ⟨hst, htk⟩ := stopCluster_own d s
  refine ⟨setF (stopCluster d s) (P.EPH_CTRL d) F.EPH_CTRL_run 0, ?_,
    OnlyRegs.setF (stopCluster d s) _ _ (List.mem_singleton.2 rfl), onF_setF_self _ _ _ 0 rfl, ?_, hst, htk⟩
  · rw [exec_sequencerStop hr hv, if_pos h, if_neg (Bool.eq_false_iff.1 hs)]
  · exact (onF_setF_ne _ _ _ _ (ephCtrl_ne_stat d).symm).trans h

theorem stop_stopping (h : seqRuns s d = true) (hs : s.clu[d].stopping = true) :
    exec (.sequencerStop m d v) s = .next s := by
  rw [exec_sequencerStop hr hv, if_pos h, if_pos hs]

theorem stop_stopped (h : seqRuns s d = false) :
    ∃ t, exec (.sequencerStop m d v) s = .next t ∧ OnlyRegs s t [P.EPH_CTRL d] ∧
      onF t (P.EPH_CTRL d) F.EPH_CTRL_run = false ∧ ringFormat t d = F.EPH_CTRL_format.get v := by
  refine ⟨_, ?_, ctrlStored_onlyRegs d _ s, run_ctrlStored d (v &&& ~~~1) s,
    ringFormat_ctrlStored d s (getLsbD_clearRun v)⟩
  rw [exec_sequencerStop hr hv, if_neg (by simp [h])]

end

/-- Settles O32: each command comes to one change of its cluster and of the sequencer's registers, and what it claims is
read off there. -/
theorem commitsAndSequencers : Obligations.CommitsAndSequencers := by
  unfold Obligations.CommitsAndSequencers
  refine ⟨⟨fun m d frame s hr => ⟨commit_accepted hr, commit_refused hr⟩, fun d frame s => header_read,
    fun m d f band s hr => ⟨_, exec_ephRewrite hr f band, decideRewrite_spec d f.toNat _ s⟩,
    fun m d v s hr => ⟨exec_ephFrame0Write_running hr,
      fun h => ⟨_, exec_ephFrame0Write_stopped hr h, frame0_spec d v s⟩⟩⟩,
    fun m d v s hr hv => ⟨start_running hr hv, start_tilted hr hv, start_unadvertised hr hv, start_advertised hr hv⟩,
    fun m d v s hr hv => ⟨stop_begins hr hv, stop_stopping hr hv, stop_stopped hr hv⟩,
    fun d s hr hs hd => ⟨_, exec_sequencerStopped hr hs hd, stopDone_spec d s⟩⟩

end Sys2Proof.Machine
end

section
/-! SUPPORT. What tilt leaves of the sequencers: they stop, and keep their place in the ring. -/
namespace Sys2Proof.Machine

/-- A register of a sequencer (R127). -/
def ephKey (key : Nat) : Prop := 0x180000 ≤ key ∧ key < 0x1A0000

/-- The next band of a cluster's sequencer, and whether its stream buffer holds records. -/
structure Place where
  streamed : Bool
  nextFrame : Nat
  nextBand : Nat

def Cluster.place (c : Cluster) : Place := ⟨c.streamed, c.nextFrame, c.nextBand⟩

/-- From s to t memory, the tilt latch, the sequencers' registers and their places in their rings are as they were. -/
structure RingKept (s t : State) : Prop where
  mem : t.mem = s.mem
  tilt : t.tilt = s.tilt
  regs : ∀ key, ephKey key → getReg t key = getReg s key
  place : ∀ d : Fin 4, t.clu[d].place = s.clu[d].place

theorem RingKept.refl (s : State) : RingKept s s := ⟨rfl, rfl, fun _ _ => rfl, fun _ => rfl⟩

theorem timingPort_not_ephKey : ∀ d : Fin 4, ∀ i : Fin 5, ¬ephKey (timingPort d i) := by
  unfold ephKey; decide

section
variable {s t : State} (h : RingKept s t)
include h

theorem RingKept.trans {u : State} (h2 : RingKept t u) : RingKept s u :=
  ⟨h2.mem.trans h.mem, h2.tilt.trans h.tilt, fun key hk => (h2.regs key hk).trans (h.regs key hk),
    fun d => (h2.place d).trans (h.place d)⟩

/-- A write of a register of another block. -/
theorem RingKept.setReg {key : Nat} (v : Word) (hk : ¬ephKey key := by
      simp only [ephKey, own, P.KTL_CTRL, P.SYS_TILT_LAST, P.SYS_TILT_TIME_LO, P.SYS_TILT_TIME_HI, P.SYS_TILT,
        P.SEC_DRBG_PSTAT, P.SEC_DRBG_OUT, P.LDG_STAT, P.LDG_MEV_STAT, P.LDG_BOOTCNT, P.CFG_STOP, P.CFG_STAT, P.DSP_CTRL,
        P.DSP_STAT, P.DSP_TRAIN, P.DSP_LINK, P.DSP_CNT, P.CMP_CTRL, P.CMT_CTX_BASE, P.CMT_CTRL, P.CMT_VIEW, P.MEM_LTR_D]
      omega) : RingKept s (setReg t key v) :=
  h.trans ⟨rfl, rfl, fun _ hj => getReg_setReg_ne t v (fun e => hk (e ▸ hj)), fun _ => rfl⟩

/-- A change of nothing that is kept. -/
theorem RingKept.same {u : State} (hm : u.mem = t.mem) (ht : u.tilt = t.tilt) (hr : u.regs = t.regs) (hc : u.clu = t.clu) :
    RingKept s u :=
  h.trans ⟨hm, ht, fun key _ => getReg_congr hr key, fun d => by rw [hc]⟩

theorem RingKept.setClu (d : Fin 4) {c : Cluster} (hc : c.place = t.clu[d].place := by rfl) :
    RingKept s (setClu d c t) := by
  refine h.trans ⟨rfl, rfl, fun _ _ => rfl, fun j => ?_⟩
  by_cases hj : j = d
  · rw [hj, setClu_same, hc]
  · rw [setClu_ne hj]

omit h in
theorem RingKept.ite {c : Prop} [Decidable c] {u : State} (h1 : RingKept s t) (h2 : RingKept s u) :
    RingKept s (if c then t else u) := by split <;> assumption

theorem RingKept.fold {α : Type} {f : State → α → State} {xs : List α} (hf : ∀ u x, RingKept s u → RingKept s (f u x)) :
    RingKept s (xs.foldl f t) :=
  List.foldlRecOn (motive := RingKept s) xs f h fun u hu x _ => hf u x hu

theorem RingKept.setLdg (l : Ledger) : RingKept s (setLdg l t) := h.same rfl rfl rfl rfl

theorem RingKept.withKtl (k : Kettle) : RingKept s { t with ktl := k } := h.same rfl rfl rfl rfl

theorem RingKept.withSec (x : Trust) : RingKept s { t with sec := x } := h.same rfl rfl rfl rfl

theorem RingKept.withPwr (p : Power) : RingKept s { t with pwr := p } := h.same rfl rfl rfl rfl

theorem RingKept.setBeam (d : Fin 4) (b : Beam) : RingKept s (setBeam d b t) := h.setClu d

/-! ## The units on tilt (R469) -/

theorem RingKept.kettleTilt : RingKept s (kettleTilt t) :=
  .ite ((h.setReg (key := P.KTL_CTRL) _).withKtl _) h

theorem RingKept.discardUnread (k : Fin 8) : RingKept s (discardUnread k t) := by
  unfold Machine.discardUnread
  exact (((h.setReg _).fold fun _ i hu => hu.setReg _).setReg _).withSec _

theorem RingKept.mevEnd (k result : Nat) : RingKept s (mevEnd k result t) := ((h.setReg _).setReg _).setReg _

theorem RingKept.logEvent (e : LogEvent) : RingKept s (logEvent e t) := .ite ((h.setLdg _).setLdg _) h

theorem RingKept.endQueued (result : Nat) : RingKept s (endQueued result t) :=
  (((h.fold fun _ e hu => hu.mevEnd e.1 result).setLdg _).setLdg _ |>.setLdg _).fold fun _ x hu => hu.logEvent x.2

theorem RingKept.freezeMeters : RingKept s (freezeMeters t) := by
  unfold Machine.freezeMeters
  dsimp only
  split
  · exact ((RingKept.ite ((h.setLdg _).mevEnd _ 3) h).endQueued 3).setReg _
  · exact (h.endQueued 3).setReg _

theorem RingKept.ledgerTilt (code : Nat) : RingKept s (ledgerTilt code t) := .ite h.freezeMeters (h.freezeMeters.logEvent _)

/-! ## The stop of start-up (R357, R359) -/

theorem RingKept.declareMode (d : Fin 4) (mode : Nat) (refused : Bool) : RingKept s (declareMode d mode refused t) :=
  .ite h (.ite (h.setReg _) (.ite (h.setReg _) h))

theorem RingKept.modeLive (d : Fin 4) (mode : Nat) : RingKept s (modeLive d mode t) :=
  ((RingKept.ite ((h.setReg _).setReg _) (h.setReg _)).setBeam d _).declareMode d mode _

theorem RingKept.modeWrite (d : Fin 4) (mode : Nat) : RingKept s (modeWrite d mode t) :=
  .ite ((h.setBeam d _).modeLive d mode) (h.setBeam d _)

theorem RingKept.timingWrite (d : Fin 4) (i : Fin 5) (v : Word) : RingKept s (timingWrite d i v t) :=
  .ite ((h.setBeam d _).setReg v (timingPort_not_ephKey d i)) (h.setBeam d _)

theorem RingKept.startTraining (d : Fin 4) : RingKept s (startTraining d t) :=
  .ite (h.setReg _) (((((h.setReg _).setBeam d _).withPwr _).setReg _).setReg _)

theorem RingKept.loadD0 (ws : List Nat) (edp : Bool) : RingKept s (loadD0 ws edp t) :=
  (((h.fold fun _ i hu => hu.timingWrite 0 i _).setReg _).setReg _).setReg _

theorem RingKept.stopShows : RingKept s (stopShows t) := by
  unfold Machine.stopShows
  extract_lets s1
  have h1 : RingKept s s1 := .ite (h.loadD0 _ _) ((h.loadD0 _ _).setReg _)
  exact .ite (h1.modeWrite 0 2) (.ite h1 (h1.startTraining 0))

theorem RingKept.countBoot : RingKept s (countBoot t) := .ite (((h.setLdg _).setLdg _).setReg _) h

theorem RingKept.bootStop (code sect : Nat) : RingKept s (bootStop code sect t) := by
  unfold Machine.bootStop
  extract_lets s1 s2 s3 r
  have h1 : RingKept s s1 := (h.stopShows.setReg _).setReg _
  have h3 : RingKept s s3 := (RingKept.ite h1.countBoot h1).logEvent _
  exact .ite (.ite (h3.setLdg _) (h3.setLdg _)) h3

end

/-! ## The sequencers on tilt (R469) -/

/-- Every cluster halted. -/
def haltClusters (ds : List (Fin 4)) (s : State) : State := ds.foldl (fun t d => haltCluster d t) s

/-- From s to t sequencers may have stopped, and nothing else that RingKept speaks of but EPH_CTRL differs. -/
structure Halts (s t : State) : Prop where
  mem : t.mem = s.mem
  tilt : t.tilt = s.tilt
  cause : ∀ d : Fin 4, getF t (P.EPH_STAT d) F.EPH_STAT_tilt_cause = getF s (P.EPH_STAT d) F.EPH_STAT_tilt_cause
  stopped : ∀ d : Fin 4, seqRuns s d = false → seqRuns t d = false
  place : ∀ d : Fin 4, t.clu[d].place = s.clu[d].place

theorem Halts.refl (s : State) : Halts s s := ⟨rfl, rfl, fun _ => rfl, fun _ h => h, fun _ => rfl⟩

theorem Halts.trans {s t u : State} (h : Halts s t) (h2 : Halts t u) : Halts s u :=
  ⟨h2.mem.trans h.mem, h2.tilt.trans h.tilt, fun d => (h2.cause d).trans (h.cause d),
    fun d hd => h2.stopped d (h.stopped d hd), fun d => (h2.place d).trans (h.place d)⟩

theorem RingKept.halts {s t : State} (h : RingKept s t) : Halts s t := by
  have hst : ∀ d : Fin 4, getReg t (P.EPH_STAT d) = getReg s (P.EPH_STAT d) := fun d =>
    h.regs _ (by unfold ephKey P.EPH_STAT; omega)
  refine ⟨h.mem, h.tilt, fun d => by rw [getF, getF, hst], fun d hd => ?_, h.place⟩
  rwa [seqRuns, onF, hst]

/-- Run and running of a cluster cleared. -/
def runCleared (d : Fin 4) (s : State) : State :=
  setF (setF s (P.EPH_CTRL d) F.EPH_CTRL_run 0) (P.EPH_STAT d) F.EPH_STAT_running 0

theorem haltCluster_eq (d : Fin 4) (s : State) : haltCluster d s = setClu d s.clu[d].halt (runCleared d s) := rfl

theorem getReg_haltCluster (d : Fin 4) (s : State) (key : Nat) :
    getReg (haltCluster d s) key = getReg (runCleared d s) key := getReg_congr (congrArg State.regs (haltCluster_eq d s)) key

theorem getReg_haltCluster_ne {d j : Fin 4} (h : j ≠ d) (s : State) :
    getReg (haltCluster d s) (P.EPH_STAT j) = getReg s (P.EPH_STAT j) := by
  have h1 : P.EPH_STAT j ≠ P.EPH_STAT d := fun e => h (Fin.ext (by unfold P.EPH_STAT at e; omega))
  have h2 : P.EPH_STAT j ≠ P.EPH_CTRL d := by unfold P.EPH_STAT P.EPH_CTRL; omega
  rw [getReg_haltCluster, runCleared, getReg_setF_ne _ _ _ h1, getReg_setF_ne _ _ _ h2]

theorem seqRuns_haltCluster (d : Fin 4) (s : State) : seqRuns (haltCluster d s) d = false := by
  rw [seqRuns, onF, getReg_haltCluster]
  exact onF_setF_self _ _ _ 0 rfl

theorem tiltCause_haltCluster (d : Fin 4) (s : State) :
    getF (haltCluster d s) (P.EPH_STAT d) F.EPH_STAT_tilt_cause = getF s (P.EPH_STAT d) F.EPH_STAT_tilt_cause := by
  rw [getF, getReg_haltCluster]
  exact (getF_setF_other _ _ _ _ _ rfl).trans (getF_setF_ne _ _ _ _ (ephCtrl_ne_stat d).symm)

theorem haltCluster_halts (d : Fin 4) (s : State) : Halts s (haltCluster d s) := by
  refine ⟨rfl, rfl, fun j => ?_, fun j hj => ?_, fun j => ?_⟩
  · by_cases hj : j = d
    · subst hj
      exact tiltCause_haltCluster j s
    · rw [getF, getF, getReg_haltCluster_ne hj]
  · by_cases h : j = d
    · rw [h, seqRuns_haltCluster]
    · rwa [seqRuns, onF, getReg_haltCluster_ne h]
  · by_cases hj : j = d
    · subst hj
      rw [haltCluster_eq, setClu_same]
      rfl
    · rw [haltCluster_eq, setClu_ne hj]
      rfl

theorem haltClusters_halts (ds : List (Fin 4)) (s : State) :
    Halts s (haltClusters ds s) ∧ ∀ d ∈ ds, seqRuns (haltClusters ds s) d = false := by
  induction ds generalizing s with
  | nil => exact ⟨Halts.refl s, fun _ hd => nomatch hd⟩
  | cons e ds ih =>
    obtain ⟨hh, hs⟩ := ih (haltCluster e s)
    refine ⟨(haltCluster_halts e s).trans hh, fun d hd => ?_⟩
    rcases List.mem_cons.1 hd with rfl | hd
    · exact hh.stopped d (seqRuns_haltCluster d s)
    · exact hs d hd

theorem unitsSeeTilt_halts (code : Nat) (s : State) :
    Halts s (unitsSeeTilt code s) ∧ ∀ d, seqRuns (unitsSeeTilt code s) d = false := by
  obtain ⟨hh, hs⟩ := haltClusters_halts (List.finRange 4) (kettleTilt s)
  have hk : Halts s (kettleTilt s) := (RingKept.refl s).kettleTilt.halts
  have h1 := ((RingKept.refl (haltClusters (List.finRange 4) (kettleTilt s))).fold (xs := List.finRange 8)
    fun _ k hu => hu.discardUnread k).ledgerTilt code
  have h2 : RingKept (haltClusters (List.finRange 4) (kettleTilt s)) (unitsSeeTilt code s) := .ite (h1.bootStop 16 0) h1
  exact ⟨(hk.trans hh).trans h2.halts, fun d => h2.halts.stopped d (hs d (List.mem_finRange d))⟩

theorem latchLoaded_kept (code : Nat) (s : State) : RingKept s (latchLoaded code s) :=
  (((RingKept.refl s).setReg _ |>.setReg _).setReg _).setReg _

/-- A tilt that the latch captures stops every sequencer in its place. -/
theorem raiseTilt_halts {s : State} (code : Nat) (hr : s.pwr.inReset = false) (ht : s.tilted = false) :
    let t := raiseTilt code s
    t.mem = s.mem ∧ (∀ d : Fin 4, t.clu[d].place = s.clu[d].place) ∧ (∀ d, seqRuns t d = false) ∧
    ∀ d : Fin 4, getF t (P.EPH_STAT d) F.EPH_STAT_tilt_cause = getF s (P.EPH_STAT d) F.EPH_STAT_tilt_cause := by
  have hl := (latchLoaded_kept code s).halts
  obtain ⟨hu, hs⟩ := unitsSeeTilt_halts code
    { latchLoaded code s with tilt := { (latchLoaded code s).tilt with code := some code } }
  rw [raiseTilt, if_neg (by simp [hr]), if_neg (by simp [ht]), captureTilt_eq]
  exact ⟨hu.mem.trans hl.mem, fun d => (hu.place d).trans (hl.place d), hs, fun d => (hu.cause d).trans (hl.cause d)⟩

theorem headerCause_lt (s : State) (d : Fin 4) (frame : Nat) : headerCause s d frame < 8 := by
  unfold headerCause
  extract_lets w
  split_ifs <;> decide

/-- A failed check of a header: tilt is raised with the cause, and the sequencer stands where it was (R109). -/
theorem headerTilt_spec {s : State} (d : Fin 4) {cause : Nat} (hc : cause < 8) (hr : s.pwr.inReset = false)
    (ht : s.tilted = false) :
    let t := headerTilt d cause s
    t.tilt.code = some (0x1000 + 0x100 * d.val + cause) ∧ getF t (P.EPH_STAT d) F.EPH_STAT_tilt_cause = cause ∧
    seqRuns t d = false ∧ t.clu[d].place = s.clu[d].place ∧ t.mem = s.mem := by
  obtain ⟨hm, hp, hs, hk⟩ := raiseTilt_halts (s := setF s (P.EPH_STAT d) F.EPH_STAT_tilt_cause cause)
    (0x1000 + 0x100 * d.val + cause) hr ht
  refine ⟨raiseTilt_code _ hr ?_, (hk d).trans ?_, hs d, hp d, hm⟩
  · simpa [State.tilted] using ht
  · rw [getF_setF_self _ _ _ _ rfl]
    exact Nat.mod_eq_of_lt hc

end Sys2Proof.Machine
end

section
/-! SUPPORT. A band taken: the reads that it makes, the ring that it leaves, and the Record stage that it enters. -/
namespace Sys2Proof.Machine

/-! ## The band and its reads (R40, R110) -/

/-- State s reads its ring as s₀ does, whatever the free values are. -/
def RingOf (d : Fin 4) (s₀ s : State) : Prop := ∀ f, SameRing d { s₀ with free := f } { s with free := f }

theorem RingOf.refl (d : Fin 4) (s : State) : RingOf d s s := fun _ => ⟨fun _ => rfl, rfl, rfl, rfl, fun _ => rfl, rfl⟩

section
variable {d : Fin 4} {s₀ s : State} (h : RingOf d s₀ s)
include h

theorem RingOf.same : SameRing d { s₀ with free := s.free } s := h s.free

theorem RingOf.fetched {u : State} (hf : Fetched d s u) : RingOf d s₀ u :=
  fun f => (h f).trans (hf.sameRing (by omega) d f)

theorem RingOf.setClu {c : Cluster} (hs : c.streamed = s.clu[d].streamed := by rfl)
    (ho : c.overrides = s.clu[d].overrides := by rfl) : RingOf d s₀ (setClu d c s) :=
  fun f => (h f).trans (SameRing.setClu (s := { s with free := f }) hs ho)

end

/-- What the sequencer reads of a frame's header, and the entry of a band, do not hang on the free values. -/
structure HeaderFixed (d : Fin 4) (frame band : Nat) (s : State) : Prop where
  cause : ∀ f, headerCause { s with free := f } d frame = headerCause s d frame
  form : ∀ f, headerForm { s with free := f } d frame = headerForm s d frame
  count : ∀ f, hdrCount { s with free := f } d frame = hdrCount s d frame
  height : ∀ f, hdrHeight { s with free := f } d frame = hdrHeight s d frame
  lines : ∀ f, bits (hdrWord { s with free := f } d frame 2) 12 0 = bits (hdrWord s d frame 2) 12 0
  entry : ∀ f, takeEntry { s with free := f } d frame band = takeEntry s d frame band

/-- What the sequencer reads of a band's record and patches does not hang on the free values. -/
structure RecordFixed (d : Fin 4) (e : Override) (s : State) : Prop where
  forms : ∀ f, entryForms { s with free := f } d e = entryForms s d e
  words : ∀ f, patchedWords { s with free := f } d e = patchedWords s d e

theorem takeReads_idle {d : Fin 4} {s : State} (hi : ArbiterIdle s) (frame band : Nat) (e : Override) :
    ∃ u, takeReads d frame band e s = .ok u ∧ Fetched d s u := by
  have hd : d.val ≤ 16 := by omega
  unfold takeReads
  extract_lets stands n s1
  obtain ⟨v, hv, h1⟩ : ∃ v, s1 = .ok v ∧ Fetched d s v := by
    unfold s1
    split
    · exact ⟨s, rfl, ArbOnly.refl s _, rfl, hi⟩
    · exact dramRead_idle hd _ _ hi
  obtain ⟨w, hw, h2⟩ := dramRead_idle hd (64 * bits e.e0.toNat 28 0) (64 * entryLen e) h1.idle
  obtain ⟨u, hu, h3⟩ := dramRead_idle hd (64 * bits e.e2.toNat 28 0) (8 * (entryPatches s d e).length) h2.idle
  refine ⟨u, ?_, (h1.trans h2).trans h3⟩
  rw [hv, Except.bind, hw, Except.bind, hu]

/-- A band hangs on its record's words, and on the first frame and the time. -/
theorem bandOf_congr {s t : State} {d : Fin 4} {e : Override} (hw : patchedWords t d e = patchedWords s d e)
    (hf : t.clu[d].first = s.clu[d].first) (hc : t.clock = s.clock) (frame band height count : Nat) :
    bandOf t d frame band height count e = bandOf s d frame band height count e := by
  rw [bandOf, bandOf, hw, hf, hc]

/-- The state once a band has left the ring, u being the state that the reads leave. -/
def bandTakenIn (d : Fin 4) (b : Band) (u : State) : State :=
  let t := queueBand d b (assignFirst d b (noteTake d b u))
  setClu d { t.clu[d] with streamed := true } t

/-- A band with a record in form is taken at once while the arbiters are idle; s₀ is the state before the header's read. -/
theorem takeBand_idle {d : Fin 4} {frame band height count : Nat} {s₀ s : State} (hr : RingOf d s₀ s) (hi : ArbiterIdle s)
    (hfirst : s.clu[d].first = s₀.clu[d].first) (hclock : s.clock = s₀.clock) (hh : HeaderFixed d frame band s₀)
    (hrec : RecordFixed d (takeEntry s₀ d frame band) s₀) (hforms : entryForms s₀ d (takeEntry s₀ d frame band) = true) :
    let b := bandOf s₀ d frame band height count (takeEntry s₀ d frame band)
    b.format = ringFormat s₀ d → recordForm s₀ d b (bits (hdrWord s₀ d frame 2) 12 0) = true →
    ∃ u, Fetched d s u ∧ takeBand d frame band height count s = .next (bandTakenIn d b u) := by
  intro b hfmt hform
  have he : takeEntry s d frame band = takeEntry s₀ d frame band := (hr.same.takeEntry frame band).trans (hh.entry _)
  have hef : entryForms s d (takeEntry s₀ d frame band) = true :=
    (hr.same.entryForms _).trans ((hrec.forms _).trans hforms)
  obtain ⟨u, hu, hf⟩ := takeReads_idle hi frame band (takeEntry s₀ d frame band)
  have hru := (hr.fetched hf).same
  have hb : bandOf u d frame band height count (takeEntry s₀ d frame band) = b :=
    bandOf_congr ((hru.patchedWords _).trans (hrec.words _))
      ((show u.clu[d].first = s.clu[d].first by rw [hf.only.rest]).trans hfirst)
      ((show u.clock = s.clock by rw [hf.only.rest]).trans hclock) _ _ _ _
  have hfu : ringFormat u d = ringFormat s₀ d := hru.ringFormat
  have hlu : bits (hdrWord u d frame 2) 12 0 = bits (hdrWord s₀ d frame 2) 12 0 := by
    rw [hru.hdrWord]
    exact hh.lines _
  have hrf : recordForm u d b (bits (hdrWord s₀ d frame 2) 12 0) = true := (hru.recordForm b _).trans hform
  refine ⟨u, hf, ?_⟩
  unfold takeBand
  dsimp only
  rw [he, hef, Bool.not_true, if_neg Bool.false_ne_true, hu]
  dsimp only
  rw [hb, hfu, if_neg (not_not.2 hfmt), hlu, hrf, Bool.not_true, if_neg Bool.false_ne_true]
  rfl

/-! ## The band leaves the ring (R110, R117, R122) -/

/-- From s to t band b has left the ring of cluster d: the place after it, and the frame retired with its last band. -/
structure Noted (d : Fin 4) (b : Band) (s t : State) : Prop where
  mem : t.mem = s.mem
  tilt : t.tilt = s.tilt
  pos : getReg t (P.EPH_POS d) = getReg s (P.EPH_POS d)
  ticks : t.clu[d].ticks = s.clu[d].ticks
  record : t.clu[d].record = s.clu[d].record
  taken : t.clu[d].taken = s.clu[d].taken
  last : b.isLast = true → getReg t (P.EPH_RETIRED d) = BitVec.ofNat 32 b.frame ∧
    t.clu[d].nextFrame = frameAdd b.frame 1 ∧ t.clu[d].nextBand = 0
  more : b.isLast = false → getReg t (P.EPH_RETIRED d) = getReg s (P.EPH_RETIRED d) ∧
    t.clu[d].nextFrame = s.clu[d].nextFrame ∧ t.clu[d].nextBand = b.band + 1

theorem ephPos_ne (d : Fin 4) : P.EPH_POS d ≠ P.EPH_STAT d ∧ P.EPH_POS d ≠ P.EPH_RETIRED d ∧
    P.EPH_RETIRED d ≠ P.EPH_STAT d ∧ P.EPH_RETIRED d ≠ P.EPH_POS d := by
  unfold P.EPH_POS P.EPH_STAT P.EPH_RETIRED; omega

/-- The overrides that stand once band b has been taken. -/
def overridesAfter (s : State) (d : Fin 4) (b : Band) : List Override :=
  s.clu[d].overrides.filter (fun p => !(decide (p.frame = b.frame) && decide (p.band = b.band)))

/-- The cluster's place behind the last band of a frame. -/
def Cluster.behindFrame (c : Cluster) (frame : Nat) : Cluster :=
  { c with headers := c.headers.filter (fun h => h.1 ≠ frame), nextFrame := frameAdd frame 1, nextBand := 0 }

theorem noteTake_last {d : Fin 4} {b : Band} (h : b.isLast = true) (s : State) : noteTake d b s =
    let u := setOverrides d (overridesAfter s d b) s
    setClu d (u.clu[d].behindFrame b.frame) (setReg u (P.EPH_RETIRED d) (BitVec.ofNat 32 b.frame)) := by
  unfold noteTake
  dsimp only
  rw [if_pos h]
  rfl

theorem noteTake_more {d : Fin 4} {b : Band} (h : b.isLast = false) (s : State) : noteTake d b s =
    let u := setOverrides d (overridesAfter s d b) s
    setClu d { u.clu[d] with nextBand := b.band + 1 } u := by
  unfold noteTake
  dsimp only
  rw [if_neg (Bool.eq_false_iff.1 h)]
  rfl

theorem noteTake_noted (d : Fin 4) (b : Band) (s : State) : Noted d b s (noteTake d b s) := by
  obtain ⟨hps, hpr, hrs, -⟩ := ephPos_ne d
  have hu := clu_setOverrides d (overridesAfter s d b) s
  have hpos := getReg_setOverrides hps (overridesAfter s d b) s
  have hret := getReg_setOverrides hrs (overridesAfter s d b) s
  have hmem : (setOverrides d (overridesAfter s d b) s).mem = s.mem := rfl
  have htilt : (setOverrides d (overridesAfter s d b) s).tilt = s.tilt := rfl
  have hlast := noteTake_last (d := d) (b := b) (s := s)
  have hmore := noteTake_more (d := d) (b := b) (s := s)
  generalize setOverrides d (overridesAfter s d b) s = u at *
  cases h : b.isLast with
  | true =>
    rw [hlast h]
    refine ⟨hmem, htilt, (getReg_setReg_ne u _ hpr).trans hpos, ?_, ?_, ?_,
      fun _ => ⟨getReg_setReg_same u _ _, ?_, ?_⟩, fun hn => absurd (h.symm.trans hn) (by decide)⟩ <;>
      rw [setClu_same, hu] <;> rfl
  | false =>
    rw [hmore h]
    refine ⟨hmem, htilt, hpos, ?_, ?_, ?_, fun hy => absurd (h.symm.trans hy) (by decide),
      fun _ => ⟨hret, ?_, ?_⟩⟩ <;> rw [setClu_same, hu]

/-- The first refresh is assigned, or nothing is done. -/
theorem assignFirst_cases (d : Fin 4) (b : Band) (s : State) : assignFirst d b s = s ∨
    ∃ r, OnlyRegs (setClu d (s.clu[d].withFirst r) s) (assignFirst d b s) (firstKeys d) := by
  by_cases h : b.band = 0 ∧ b.frame = s.clu[d].first ∧ s.clu[d].r0 = none
  · obtain ⟨hb, hf, h0⟩ := h
    cases hr : firstRefresh s d b with
    | none => exact .inl (assignFirst_none hr)
    | some r => exact .inr ⟨r, assignFirst_some hb hf h0 hr⟩
  · rw [assignFirst, if_neg h]
    exact .inl rfl

theorem Noted.assignFirst {d : Fin 4} {b : Band} {s t : State} (h : Noted d b s t) : Noted d b s (assignFirst d b t) := by
  rcases assignFirst_cases d b t with he | ⟨r, ho⟩
  · rwa [he]
  · obtain ⟨hrest, hregs⟩ := ho
    have hc : (Machine.assignFirst d b t).clu[d] = t.clu[d].withFirst r := by
      rw [hrest]; exact setClu_same d _ t
    have hpos : getReg (Machine.assignFirst d b t) (P.EPH_POS d) = getReg t (P.EPH_POS d) :=
      hregs _ (by simp only [firstKeys, P.EPH_POS, P.EPH_STAT, P.DSP_ERR_CNT, P.DSP_STAT, List.mem_cons, List.not_mem_nil,
        or_false]; omega)
    have hret : getReg (Machine.assignFirst d b t) (P.EPH_RETIRED d) = getReg t (P.EPH_RETIRED d) :=
      hregs _ (by simp only [firstKeys, P.EPH_RETIRED, P.EPH_STAT, P.DSP_ERR_CNT, P.DSP_STAT, List.mem_cons,
        List.not_mem_nil, or_false]; omega)
    have hmem : (Machine.assignFirst d b t).mem = t.mem ∧ (Machine.assignFirst d b t).tilt = t.tilt := by
      rw [hrest]; exact ⟨rfl, rfl⟩
    refine ⟨hmem.1.trans h.mem, hmem.2.trans h.tilt, hpos.trans h.pos, ?_, ?_, ?_, fun hl => ?_, fun hl => ?_⟩
    · rw [hc]; exact h.ticks
    · rw [hc]; exact h.record
    · rw [hc]; exact h.taken
    · rw [hc, hret]; exact h.last hl
    · rw [hc, hret]; exact h.more hl

/-! ## The Record stage (R112, R119) -/

section
variable {s t : State} (h : RingKept s t)
include h

theorem RingKept.cmtLoad (d : Fin 4) (b : Band) : RingKept s (cmtLoad d b t) :=
  .ite (((h.setReg _).setReg _).setReg _) h

theorem RingKept.openFrame (d : Fin 4) (b : Band) : RingKept s (openFrame d b t) := .ite (h.setClu d) h

theorem RingKept.countLate (frame band : Nat) (e : Fin 4) : RingKept s (countLate frame band t e) := by
  have hc : RingKept s (pmcEvent (0x060 + e.val) 0 1
      (Machine.setClu e { t.clu[e] with lateSeen := ((frame, band) :: t.clu[e].lateSeen).take 1024 } t)) :=
    RingKept.same (h.setClu e) rfl rfl rfl rfl
  exact .ite h ((hc.setReg _).setReg _)

theorem RingKept.openRaster (d : Fin 4) (b : Band) : RingKept s (openRaster d b t) :=
  .ite (.ite ((h.setClu d).fold fun _ _ hu => hu.countLate _ _ _) (h.setClu d)) h

end

/-- A band that enters the Record stage stands there with its words, and EPH_POS shows it; the ring is as it was. -/
theorem enterRecord_spec (d : Fin 4) (b : Band) (s : State) :
    RingKept (setReg s (P.EPH_POS d) b.pos) (enterRecord d b s) ∧
    (enterRecord d b s).clu[d].record.map Band.words = some b.words := by
  unfold enterRecord
  extract_lets b' s1 s2
  have h2 : RingKept (setReg s (P.EPH_POS d) b.pos) s2 :=
    (((RingKept.refl (setReg s (P.EPH_POS d) b.pos)).cmtLoad d b').openFrame d b').openRaster d b'
  refine ⟨h2.setClu d, ?_⟩
  rw [setClu_same]
  rfl

/-! ## What a take leaves -/

theorem bandTakenIn_spec (d : Fin 4) (b : Band) (s : State) :
    let t := bandTakenIn d b s
    t.mem = s.mem ∧ t.tilt = s.tilt ∧ t.clu[d].streamed = true ∧
    (if s.clu[d].ticks ≠ 0 ∧ s.clu[d].record = none ∧ s.clu[d].taken = [] then
      t.clu[d].record.map Band.words = some b.words ∧ getReg t (P.EPH_POS d) = b.pos
    else t.clu[d].taken = s.clu[d].taken ++ [b] ∧ getReg t (P.EPH_POS d) = getReg s (P.EPH_POS d)) ∧
    (if b.isLast then getReg t (P.EPH_RETIRED d) = BitVec.ofNat 32 b.frame ∧
      t.clu[d].nextFrame = frameAdd b.frame 1 ∧ t.clu[d].nextBand = 0
    else getReg t (P.EPH_RETIRED d) = getReg s (P.EPH_RETIRED d) ∧ t.clu[d].nextFrame = s.clu[d].nextFrame ∧
      t.clu[d].nextBand = b.band + 1) := by
  intro t
  have hn := (noteTake_noted d b s).assignFirst
  generalize hv : assignFirst d b (noteTake d b s) = v at hn
  have ht : t = setClu d { (queueBand d b v).clu[d] with streamed := true } (queueBand d b v) := by rw [← hv]; rfl
  have hc : t.clu[d] = { (queueBand d b v).clu[d] with streamed := true } := by rw [ht, setClu_same]
  have hnext : ∀ r, r = getReg v (P.EPH_RETIRED d) → ∀ p : Place, p.nextFrame = v.clu[d].nextFrame →
      p.nextBand = v.clu[d].nextBand → if b.isLast then r = BitVec.ofNat 32 b.frame ∧
        p.nextFrame = frameAdd b.frame 1 ∧ p.nextBand = 0
      else r = getReg s (P.EPH_RETIRED d) ∧ p.nextFrame = s.clu[d].nextFrame ∧ p.nextBand = b.band + 1 := by
    rintro r rfl p hf hb
    rw [hf, hb]
    cases hl : b.isLast with
    | true => exact hn.last hl
    | false => exact hn.more hl
  have hcond : (v.clu[d].ticks ≠ 0 ∧ v.clu[d].record = none ∧ v.clu[d].taken = []) =
      (s.clu[d].ticks ≠ 0 ∧ s.clu[d].record = none ∧ s.clu[d].taken = []) := by
    rw [hn.ticks, hn.record, hn.taken]
  by_cases h : s.clu[d].ticks ≠ 0 ∧ s.clu[d].record = none ∧ s.clu[d].taken = []
  · have hq : queueBand d b v = enterRecord d b v := by rw [queueBand, if_pos (hcond ▸ h)]
    obtain ⟨hk, hrec⟩ := enterRecord_spec d b v
    have hpos : getReg (enterRecord d b v) (P.EPH_POS d) = b.pos :=
      (hk.regs _ (by unfold ephKey P.EPH_POS; omega)).trans (getReg_setReg_same v _ _)
    have hret : getReg (enterRecord d b v) (P.EPH_RETIRED d) = getReg v (P.EPH_RETIRED d) :=
      (hk.regs _ (by unfold ephKey P.EPH_RETIRED; omega)).trans (getReg_setReg_ne v _ (ephPos_ne d).2.2.2)
    rw [if_pos h]
    rw [hq] at ht hc
    refine ⟨?_, ?_, by rw [hc], ⟨?_, ?_⟩, ?_⟩
    · rw [ht]; exact hk.mem.trans hn.mem
    · rw [ht]; exact hk.tilt.trans hn.tilt
    · rw [hc]; exact hrec
    · rw [ht]; exact hpos
    · rw [hc]
      exact hnext _ (by rw [ht]; exact hret) (enterRecord d b v).clu[d].place (congrArg Place.nextFrame (hk.place d))
        (congrArg Place.nextBand (hk.place d))
  · have hq : queueBand d b v = setClu d { v.clu[d] with taken := v.clu[d].taken ++ [b] } v := by
      rw [queueBand, if_neg (hcond ▸ h)]
    rw [if_neg h]
    rw [hq, setClu_same] at hc
    rw [hq] at ht
    refine ⟨?_, ?_, by rw [hc], ⟨?_, ?_⟩, ?_⟩
    · rw [ht]; exact hn.mem
    · rw [ht]; exact hn.tilt
    · rw [hc, ← hn.taken]
    · rw [ht]; exact hn.pos
    · rw [hc]
      exact hnext _ (by rw [ht]; rfl) v.clu[d].place rfl rfl

end Sys2Proof.Machine
end

section
/-! THEOREM. The sequencer takes bands in order, at start and in play. -/
namespace Sys2Proof.Machine

/-- The sequencer of cluster d may take its next band: it runs, and the band is committed, within the window and has room
(R109, R110). -/
structure MayTake (d : Fin 4) (s : State) : Prop where
  runs : seqRuns s d = true
  going : s.clu[d].stopping = false
  untilted : s.tilted = false
  powered : compRuns s d = true
  committed : committed s d s.clu[d].nextFrame = true
  window : inWindow s d = true
  room : streamRoom s d = true

theorem exec_ephTake {d : Fin 4} {s : State} (h : MayTake d s) : exec (.ephTake d) s =
    if s.clu[d].nextBand ≠ 0 then
      takeBand d s.clu[d].nextFrame s.clu[d].nextBand s.clu[d].hdrHeight s.clu[d].hdrCount s
    else takeFirst d s.clu[d].nextFrame s := by
  obtain ⟨h1, h2, h3, h4, h5, h6, h7⟩ := h
  show execEphTake d s = _
  unfold execEphTake
  dsimp only
  rw [if_neg (by rw [h1, h2, h3, h4, h5, h6, h7]; decide)]

/-- The state with a header's band count and height noted in the cluster. -/
def headerTaken (d : Fin 4) (frame : Nat) (u : State) : State :=
  setClu d { u.clu[d] with hdrCount := hdrCount u d frame, hdrHeight := hdrHeight u d frame } u

theorem takeFirst_eq {d : Fin 4} {frame band : Nat} {s u : State} (h : dramRead d (slotAddr s d frame) 64 s = .ok u)
    (h0 : band = 0) : takeFirst d frame s =
      if headerCause u d frame ≠ 0 then .next (headerTilt d (headerCause u d frame) u)
      else if !headerForm u d frame then .fault .ephemerisForm
      else takeBand d frame band (hdrHeight u d frame) (hdrCount u d frame) (headerTaken d frame u) := by
  rw [takeFirst, h, h0]
  rfl

/-- A header that fails a check raises tilt, and the band is not taken. -/
theorem ephTake_tilts {d : Fin 4} {s : State} (hm : MayTake d s) (hi : ArbiterIdle s)
    (hh : HeaderFixed d s.clu[d].nextFrame s.clu[d].nextBand s) (h0 : s.clu[d].nextBand = 0)
    (hc : headerCause s d s.clu[d].nextFrame ≠ 0) :
    ∃ u, Fetched d s u ∧
      exec (.ephTake d) s = .next (headerTilt d (headerCause s d s.clu[d].nextFrame) u) := by
  obtain ⟨u, hu, hf⟩ := dramRead_idle (id := d) (by omega) (slotAddr s d s.clu[d].nextFrame) 64 hi
  have hcause : headerCause u d s.clu[d].nextFrame = headerCause s d s.clu[d].nextFrame :=
    (((RingOf.refl d s).fetched hf).same.headerCause _).trans (hh.cause _)
  refine ⟨u, hf, ?_⟩
  rw [exec_ephTake hm, if_neg (not_not.2 h0), takeFirst_eq hu h0, hcause, if_pos hc]

/-- The band height and the band count of the next band's frame. -/
def nextBandHeight (s : State) (d : Fin 4) : Nat :=
  if s.clu[d].nextBand = 0 then hdrHeight s d s.clu[d].nextFrame else s.clu[d].hdrHeight
def nextBandCount (s : State) (d : Fin 4) : Nat :=
  if s.clu[d].nextBand = 0 then hdrCount s d s.clu[d].nextFrame else s.clu[d].hdrCount

/-- The next band's entry, and the band. -/
def nextEntry (s : State) (d : Fin 4) : Override := takeEntry s d s.clu[d].nextFrame s.clu[d].nextBand
def nextTaken (s : State) (d : Fin 4) : Band :=
  bandOf s d s.clu[d].nextFrame s.clu[d].nextBand (nextBandHeight s d) (nextBandCount s d) (nextEntry s d)

/-- From s to u the sequencer has read the next band, and of its cluster at most the frame's height and count differ. -/
structure Ready (d : Fin 4) (s u : State) : Prop where
  mem : u.mem = s.mem
  tilt : u.tilt = s.tilt
  regs : ∀ key, ephKey key → getReg u key = getReg s key
  clu : u.clu[d] = { s.clu[d] with hdrCount := u.clu[d].hdrCount, hdrHeight := u.clu[d].hdrHeight }

theorem Fetched.ready {d : Fin 4} {s t u : State} (h : Ready d s t) (hf : Fetched d t u) : Ready d s u := by
  obtain ⟨hm, ht, hr, hc⟩ := h
  have hclu : u.clu = t.clu := by rw [hf.only.rest]
  have htilt : u.tilt = t.tilt := by rw [hf.only.rest]
  refine ⟨hf.mem.trans hm, htilt.trans ht, fun key hk => (hf.reg (by omega) (.inr ?_)).trans (hr key hk), ?_⟩
  · have := hk.1
    omega
  · rw [Fin.getElem_fin, hclu]
    exact hc

theorem Ready.refl (d : Fin 4) (s : State) : Ready d s s := ⟨rfl, rfl, fun _ _ => rfl, rfl⟩

theorem Ready.headerTaken {d : Fin 4} {s u : State} (h : Ready d s u) (frame : Nat) : Ready d s (headerTaken d frame u) := by
  refine ⟨h.mem, h.tilt, h.regs, ?_⟩
  rw [Machine.headerTaken, setClu_same, h.clu]

section
variable {d : Fin 4} {s : State} (hi : ArbiterIdle s) (hh : HeaderFixed d s.clu[d].nextFrame s.clu[d].nextBand s)
  (hrec : RecordFixed d (nextEntry s d) s) (hforms : entryForms s d (nextEntry s d) = true)
  (hfmt : (nextTaken s d).format = ringFormat s d)
  (hform : recordForm s d (nextTaken s d) (bits (hdrWord s d s.clu[d].nextFrame 2) 12 0) = true)
include hi hh hrec hforms hfmt hform

/-- Band 0 is taken with what its frame's header gives. -/
theorem takeFirst_takes (h0 : s.clu[d].nextBand = 0) (hc : headerCause s d s.clu[d].nextFrame = 0)
    (hf : headerForm s d s.clu[d].nextFrame = true) :
    ∃ u, Ready d s u ∧ takeFirst d s.clu[d].nextFrame s = .next (bandTakenIn d (nextTaken s d) u) := by
  obtain ⟨u, hu, hfu⟩ := dramRead_idle (id := d) (by omega) (slotAddr s d s.clu[d].nextFrame) 64 hi
  have hring := (RingOf.refl d s).fetched hfu
  have hready := (hfu.ready (Ready.refl d s)).headerTaken s.clu[d].nextFrame
  have hcause : headerCause u d s.clu[d].nextFrame = 0 := ((hring.same.headerCause _).trans (hh.cause _)).trans hc
  have hhf : headerForm u d s.clu[d].nextFrame = true := ((hring.same.headerForm _).trans (hh.form _)).trans hf
  have hH : hdrHeight u d s.clu[d].nextFrame = nextBandHeight s d := by
    rw [nextBandHeight, if_pos h0, hring.same.hdrHeight, hh.height]
  have hC : hdrCount u d s.clu[d].nextFrame = nextBandCount s d := by
    rw [nextBandCount, if_pos h0, hring.same.hdrCount, hh.count]
  have hclock : u.clock = s.clock := by rw [hfu.only.rest]
  obtain ⟨v, hfv, hv⟩ := takeBand_idle (s := headerTaken d s.clu[d].nextFrame u) hring.setClu hfu.idle
    (by rw [hready.clu]) hclock hh hrec hforms hfmt hform
  refine ⟨v, hfv.ready hready, ?_⟩
  rw [takeFirst_eq hu h0, hcause, if_neg (not_not.2 rfl), hhf, Bool.not_true, if_neg Bool.false_ne_true, hH, hC]
  exact hv

/-- A later band is taken with what band 0 left. -/
theorem takeBand_takes (h0 : s.clu[d].nextBand ≠ 0) : ∃ u, Ready d s u ∧
    takeBand d s.clu[d].nextFrame s.clu[d].nextBand s.clu[d].hdrHeight s.clu[d].hdrCount s =
      .next (bandTakenIn d (nextTaken s d) u) := by
  have hH : s.clu[d].hdrHeight = nextBandHeight s d := by rw [nextBandHeight, if_neg h0]
  have hC : s.clu[d].hdrCount = nextBandCount s d := by rw [nextBandCount, if_neg h0]
  obtain ⟨v, hfv, hv⟩ := takeBand_idle (RingOf.refl d s) hi rfl rfl hh hrec hforms hfmt hform
  refine ⟨v, hfv.ready (Ready.refl d s), ?_⟩
  rw [hH, hC]
  exact hv

/-- A next band whose header and record are in form is taken. -/
theorem ephTake_takes (hm : MayTake d s)
    (hok : s.clu[d].nextBand = 0 → headerCause s d s.clu[d].nextFrame = 0 ∧ headerForm s d s.clu[d].nextFrame = true) :
    ∃ u, Ready d s u ∧ exec (.ephTake d) s = .next (bandTakenIn d (nextTaken s d) u) := by
  rw [exec_ephTake hm]
  by_cases h0 : s.clu[d].nextBand = 0
  · obtain ⟨hc, hf⟩ := hok h0
    rw [if_neg (not_not.2 h0)]
    exact takeFirst_takes hi hh hrec hforms hfmt hform h0 hc hf
  · rw [if_pos h0]
    exact takeBand_takes hi hh hrec hforms hfmt hform h0

end

/-- Settles O33: the reads come about at once and find the ring as it was, so the checks come out as they do before them;
the rest is what tilt, or the band's way to the Record stage, leaves. -/
theorem bandTakes : Obligations.BandTakes := by
  unfold Obligations.BandTakes
  intro d s c frame n h e b header record hruns hgo htilt hcomp hcom hwin hroom hi hfree
  have hm : MayTake d s := ⟨hruns, hgo, htilt, hcomp, hcom, hwin, hroom⟩
  have hh : HeaderFixed d s.clu[d].nextFrame s.clu[d].nextBand s := by
    simp only [header, Prod.mk.injEq, forall_and] at hfree
    obtain ⟨hcause, hform, hcount, hheight, hlines, hentry⟩ := hfree
    exact ⟨hcause, hform, hcount, hheight, hlines, hentry⟩
  refine ⟨fun h0 hc hr => ?_, fun hok hrfree hforms hfmt hform => ?_⟩
  · obtain ⟨u, hf, hu⟩ := ephTake_tilts hm hi hh h0 hc
    have hpwr : u.pwr = s.pwr := by rw [hf.only.rest]
    have hut : u.tilted = s.tilted := by rw [hf.only.rest]; rfl
    have huc : u.clu = s.clu := by rw [hf.only.rest]
    obtain ⟨hcode, hcause, hstop, hplace, hmem⟩ := headerTilt_spec (s := u) d (headerCause_lt s d s.clu[d].nextFrame)
      (by rw [hpwr, hr]) (hut.trans htilt)
    rw [huc] at hplace
    exact ⟨_, hu, hcode, hcause, hstop, (congrArg Place.nextBand hplace).trans h0, congrArg Place.streamed hplace,
      hmem.trans hf.mem⟩
  · have hrec : RecordFixed d (nextEntry s d) s := by
      simp only [record, Prod.mk.injEq, forall_and] at hrfree
      obtain ⟨hentry, -, hwords⟩ := hrfree
      exact ⟨hentry, hwords⟩
    obtain ⟨u, hu, hx⟩ := ephTake_takes hi hh hrec hforms hfmt hform hm hok
    obtain ⟨hmem, htl, hst, hq, hn⟩ := bandTakenIn_spec d (nextTaken s d) u
    rw [hu.clu, hu.regs (P.EPH_POS d) (by unfold ephKey P.EPH_POS; omega)] at hq
    rw [hu.clu, hu.regs (P.EPH_RETIRED d) (by unfold ephKey P.EPH_RETIRED; omega)] at hn
    exact ⟨_, hx, hmem.trans hu.mem, htl.trans hu.tilt, hst, hq, hn⟩

end Sys2Proof.Machine
end

section
/-! SUPPORT. Training of an output's link: what its start and its end come to. -/
namespace Sys2Proof.Machine

/-! ## The start (R160, R161) -/

/-- The power state once output d's training has its PHY PLL locked or starting. -/
def Power.linkStarted (p : Power) (d : Fin 4) : Power :=
  { p with
    linkStarting := if p.linkLocked &&& BitVec.ofNat 4 (1 <<< d.val) = 0
      then p.linkStarting ||| BitVec.ofNat 4 (1 <<< d.val) else p.linkStarting }

theorem linkStarted_bit (p : Power) (d : Fin 4) :
    ((p.linkStarted d).linkStarting.getLsbD d || (p.linkStarted d).linkLocked.getLsbD d) = true := by
  have hlocked : ∀ d : Fin 4, ∀ x : BitVec 4, x &&& BitVec.ofNat 4 (1 <<< d.val) ≠ 0 → x.getLsbD d = true := by decide
  have hstarting : ∀ d : Fin 4, ∀ x : BitVec 4, (x ||| BitVec.ofNat 4 (1 <<< d.val)).getLsbD d = true := by decide
  rw [Bool.or_eq_true]
  by_cases h : p.linkLocked &&& BitVec.ofNat 4 (1 <<< d.val) = 0
  · left
    rw [Power.linkStarted, if_pos h]
    exact hstarting d _
  · exact .inr (hlocked d _ h)

/-- eDP, at a rate that it does not offer. -/
def rateRefused (s : State) (d : Fin 4) : Prop :=
  onF s (P.DSP_CTRL d) F.DSP_CTRL_iface = true ∧ 8 ≤ getF s (P.DSP_LINK d) F.DSP_LINK_rate

/-- The cluster of output d as a training with the rate and the interface that stand leaves it. -/
def trainedCluster (s : State) (d : Fin 4) : Cluster :=
  { s.clu[d] with beam := { s.clu[d].beam with
      rate := getF s (P.DSP_LINK d) F.DSP_LINK_rate
      edp := onF s (P.DSP_CTRL d) F.DSP_CTRL_iface } }

/-- The link of output d taken down. -/
def linkDown (d : Fin 4) (s : State) : State := setF s (P.DSP_STAT d) F.DSP_STAT_link_up 0

theorem startTraining_refused {d : Fin 4} {s : State} (h : rateRefused s d) :
    startTraining d s = setF s (P.DSP_TRAIN d) F.DSP_TRAIN_result 6 :=
  if_pos (by simpa [rateRefused] using h)

theorem startTraining_begins {d : Fin 4} {s : State} (h : ¬rateRefused s d) :
    startTraining d s = setF (setF { setClu d (trainedCluster s d) (linkDown d s) with pwr := s.pwr.linkStarted d }
      (P.DSP_TRAIN d) F.DSP_TRAIN_start 1) (P.DSP_TRAIN d) F.DSP_TRAIN_busy 1 :=
  if_neg (by simpa [rateRefused] using h)

/-- What the start of a training on output d brings about. -/
def Trains (d : Fin 4) (s t : State) : Prop :=
  let rate := getF s (P.DSP_LINK d) F.DSP_LINK_rate
  let edp := onF s (P.DSP_CTRL d) F.DSP_CTRL_iface
  (edp = true ∧ 8 ≤ rate → OnlyRegs s t [P.DSP_TRAIN d] ∧ getF t (P.DSP_TRAIN d) F.DSP_TRAIN_result = 6 ∧
    trainingRuns t d = trainingRuns s d) ∧
  (¬(edp = true ∧ 8 ≤ rate) →
    t = { s with regs := t.regs, clu := t.clu, pwr := t.pwr } ∧ RegsBut s t [P.DSP_STAT d, P.DSP_TRAIN d] ∧
    onF t (P.DSP_STAT d) F.DSP_STAT_link_up = false ∧ onF t (P.DSP_TRAIN d) F.DSP_TRAIN_start = true ∧
    trainingRuns t d = true ∧ t.clu[d] = { s.clu[d] with beam := { s.clu[d].beam with rate := rate, edp := edp } } ∧
    t.pwr = { s.pwr with linkStarting := t.pwr.linkStarting } ∧
    (t.pwr.linkStarting.getLsbD d || t.pwr.linkLocked.getLsbD d) = true)

theorem dspStat_ne_train (d : Fin 4) : P.DSP_STAT d ≠ P.DSP_TRAIN d := by unfold P.DSP_STAT P.DSP_TRAIN; omega

theorem startTraining_trains (d : Fin 4) (s : State) : Trains d s (startTraining d s) := by
  refine ⟨fun h => ?_, fun h => ?_⟩
  · rw [startTraining_refused h]
    exact ⟨OnlyRegs.setF s _ 6 (by simp), getF_setF_self _ _ _ 6 rfl, onF_setF_other _ _ _ _ _ rfl⟩
  · rw [startTraining_begins h]
    have hstat := dspStat_ne_train d
    refine ⟨rfl, ?_, ?_, ?_, onF_setF_self _ _ _ 1 rfl, setClu_same d _ _, rfl, linkStarted_bit s.pwr d⟩
    · exact RegsBut.trans (RegsBut.setF s (k := P.DSP_STAT d) F.DSP_STAT_link_up 0 (by simp))
        (RegsBut.trans (RegsBut.setF _ F.DSP_TRAIN_start 1 (by simp)) (RegsBut.setF _ F.DSP_TRAIN_busy 1 (by simp)))
    · exact (onF_setF_ne _ _ _ _ hstat).trans ((onF_setF_ne _ _ _ _ hstat).trans (onF_setF_self s _ _ 0 rfl))
    · exact (onF_setF_other _ _ _ _ _ rfl).trans (onF_setF_self _ _ _ 1 rfl)

theorem exec_dspTrain {m : Master} {d : Fin 4} {s : State} (hr : s.reaches m true (P.DSP_TRAIN d) = true) :
    exec (.dspTrain m d) s = .next (trainWrite d s) :=
  gate_reaches (fun s => .next (trainWrite d s)) hr

theorem trainWrite_ignored {d : Fin 4} {s : State} (h : modeOf s d ≠ 0 ∨ trainingRuns s d = true) : trainWrite d s = s :=
  if_pos h

theorem trainWrite_starts {d : Fin 4} {s : State} (hm : modeOf s d = 0) (hb : trainingRuns s d = false) :
    trainWrite d s = startTraining d s := if_neg (by simp [hm, hb])

theorem exec_retrain_down {d : Fin 4} {s : State} (ht : s.tilted = true) (ho : outputOn s d = true) (hm : modeOf s d ≠ 0)
    (hl : onF s (P.DSP_STAT d) F.DSP_STAT_link_up = false) (hb : trainingRuns s d = false) :
    exec (.retrain d) s = .next (startTraining d s) := if_pos (by simp [ht, ho, hm, hl, hb])

theorem exec_retrain_up {d : Fin 4} {s : State} (hl : onF s (P.DSP_STAT d) F.DSP_STAT_link_up = true) :
    exec (.retrain d) s = .next s := if_neg (by simp [hl])

/-! ## The end (R154, R161) -/

/-- DSP_TRAIN as a training that ends with a result leaves it. -/
def trainingWord (result : Fin 8) (su : Bool) (ygran : Fin 64) : Word :=
  BitVec.ofNat 32 (4 * result.val + 32 * b2n su + ygran.val <<< 8)

theorem trainingWord_fields (result : Fin 8) (su : Bool) (ygran : Fin 64) :
    let w := trainingWord result su ygran
    F.DSP_TRAIN_start.on w = false ∧ F.DSP_TRAIN_busy.on w = false ∧ F.DSP_TRAIN_result.get w = result ∧
      F.DSP_TRAIN_ygran.get w = ygran ∧ F.DSP_TRAIN_su_ok.on w = su := by
  have hb : b2n su < 2 := by cases su <;> decide
  have hw : (trainingWord result su ygran).toNat = 4 * result.val + 32 * b2n su + 256 * ygran.val := by
    rw [trainingWord, BitVec.toNat_ofNat, Nat.shiftLeft_eq]
    omega
  dsimp only
  simp only [Fld.on, Fld.get, bits, hw, Nat.shiftRight_eq_div_pow, Nat.testBit_eq_decide_div_mod_eq,
    decide_eq_false_iff_not, Nat.reduceAdd, Nat.reduceSub, Nat.reducePow]
  refine ⟨by omega, by omega, by omega, by omega, ?_⟩
  cases su with
  | false => exact decide_eq_false (by rw [b2n_false]; omega)
  | true => exact decide_eq_true (by rw [b2n_true]; omega)

/-- The state in which output d's training has ended, before start-up looks at it. -/
def trainingOver (d : Fin 4) (result : Fin 8) (su : Bool) (ygran : Fin 64) (s : State) : State :=
  setF (setReg s (P.DSP_TRAIN d) (trainingWord result (decide (result = 1) && suOk s d su ygran.val) ygran))
    (P.DSP_STAT d) F.DSP_STAT_link_up (b2n (decide (result = 1)))

theorem exec_trainingEnd {d : Fin 4} {result : Fin 8} {su : Bool} {ygran : Fin 64} {s : State}
    (hb : trainingRuns s d = true) (ho : outputOn s d = true) (hl : s.pwr.linkLocked.getLsbD d = true)
    (h1 : 1 ≤ result.val) (h5 : result.val ≤ 5) :
    exec (.trainingEnd d result su ygran) s = .next (if decide (result = 1) = true
      then bootTrained d (trainingOver d result su ygran s) else trainingOver d result su ygran s) :=
  if_neg (by simp only [hb, ho, hl, Bool.not_true, Bool.or_self, Bool.false_or, Bool.or_eq_true, decide_eq_true_eq]; omega)

/-- What a training's end leaves of its output. -/
structure TrainingEnded (d : Fin 4) (result : Fin 8) (ok su : Bool) (ygran : Fin 64) (s t : State) : Prop where
  train : getReg t (P.DSP_TRAIN d) = trainingWord result su ygran
  link : onF t (P.DSP_STAT d) F.DSP_STAT_link_up = ok
  mem : t.mem = s.mem

theorem trainingOver_ended (d : Fin 4) (result : Fin 8) (su : Bool) (ygran : Fin 64) (s : State) :
    TrainingEnded d result (decide (result = 1)) (decide (result = 1) && suOk s d su ygran.val) ygran s
      (trainingOver d result su ygran s) where
  train := (getReg_setF_ne _ _ _ (dspStat_ne_train d).symm).trans (getReg_setReg_same s _ _)
  link := (onF_setF_self _ _ _ _ rfl).trans (b2n_testBit _)
  mem := rfl

theorem trainingOver_onlyRegs (d : Fin 4) (result : Fin 8) (su : Bool) (ygran : Fin 64) (s : State) :
    OnlyRegs s (trainingOver d result su ygran s) [P.DSP_STAT d, P.DSP_TRAIN d] :=
  OnlyRegs.trans (OnlyRegs.setReg s _ (by simp)) (OnlyRegs.setF _ _ _ (by simp))

end Sys2Proof.Machine
end

section
/-! SUPPORT. What a mode written leaves, and what a tilt leaves of the status of the outputs. -/
namespace Sys2Proof.Machine

theorem getF_addF_self (s : State) (k : Nat) (f : Fld) (n : Nat) (h : f.inWord = true) :
    getF (addF s k f n) k f = min (getF s k f + n) (2 ^ f.len - 1) := by
  rw [addF, getF_setF_self _ _ _ _ h]
  exact Nat.mod_eq_of_lt (lt_of_le_of_lt (min_le_right _ _) (Nat.sub_lt (Nat.two_pow_pos _) Nat.one_pos))

theorem onF_addF_other (s : State) (k : Nat) (f g : Fld) (n : Nat) (h : f.leaves g = true) :
    onF (addF s k f n) k g = onF s k g := onF_setF_other s k f g _ h

theorem getF_addF_other (s : State) (k : Nat) (f g : Fld) (n : Nat) (h : f.leaves g = true) :
    getF (addF s k f n) k g = getF s k g := getF_setF_other s k f g _ h

/-! ## A mode written (R52, R154, R159) -/

/-- From s to t a mode of output d may have been written: its DSP_CTRL, its DSP_STAT.su_refused, its declared tolerance and
its cluster. -/
structure ModeSet (d : Fin 4) (s t : State) : Prop where
  mem : t.mem = s.mem
  regs : RegsBut s t [P.DSP_CTRL d, P.DSP_STAT d, P.MEM_LTR_D d]
  on : ∀ f, F.DSP_STAT_su_refused.leaves f = true → onF t (P.DSP_STAT d) f = onF s (P.DSP_STAT d) f
  num : ∀ f, F.DSP_STAT_su_refused.leaves f = true → getF t (P.DSP_STAT d) f = getF s (P.DSP_STAT d) f

theorem ModeSet.refl (d : Fin 4) (s : State) : ModeSet d s s := ⟨rfl, RegsBut.refl s _, fun _ _ => rfl, fun _ _ => rfl⟩

section
variable {d : Fin 4} {s t : State} (h : ModeSet d s t)
include h

theorem ModeSet.setReg {key : Nat} (v : Word) (hk : key = P.DSP_CTRL d ∨ key = P.MEM_LTR_D d) :
    ModeSet d s (setReg t key v) := by
  have hne : P.DSP_STAT d ≠ key := by unfold P.DSP_STAT; unfold P.DSP_CTRL P.MEM_LTR_D at hk; omega
  refine ⟨h.mem, RegsBut.trans h.regs (RegsBut.setReg t v (by simpa using hk.imp_right .inr)), fun f hf => ?_, fun f hf => ?_⟩
  · exact (onF_setReg_ne t v f hne).trans (h.on f hf)
  · exact (getF_setReg_ne t v f hne).trans (h.num f hf)

theorem ModeSet.refused (n : Nat) : ModeSet d s (setF t (P.DSP_STAT d) F.DSP_STAT_su_refused n) :=
  ⟨h.mem, RegsBut.trans h.regs (RegsBut.setF t _ n (by simp)), fun f hf => (onF_setF_other t _ _ f n hf).trans (h.on f hf),
    fun f hf => (getF_setF_other t _ _ f n hf).trans (h.num f hf)⟩

theorem ModeSet.setBeam (b : Beam) : ModeSet d s (setBeam d b t) := ⟨h.mem, h.regs, h.on, h.num⟩

omit h in
theorem ModeSet.ite {c : Prop} [Decidable c] {u : State} (h1 : ModeSet d s t) (h2 : ModeSet d s u) :
    ModeSet d s (if c then t else u) := by split <;> assumption

theorem ModeSet.modeLive (mode : Nat) : ModeSet d s (modeLive d mode t) := by
  unfold Machine.modeLive
  extract_lets refused s1 s2
  have h1 : ModeSet d s s1 := h.setReg _ (.inl rfl)
  have h2 : ModeSet d s s2 := .ite (h1.refused 1) h1
  have h3 := h2.setBeam { s2.clu[d].beam with refused := refused }
  exact .ite h3 (.ite (h3.setReg _ (.inr rfl)) (.ite (h3.setReg _ (.inr rfl)) h3))

theorem ModeSet.modeWrite (mode : Nat) : ModeSet d s (modeWrite d mode t) :=
  .ite ((h.setBeam _).modeLive mode) (h.setBeam _)

end

/-! ## The status of the outputs -/

/-- A register of an output from DSP_ERR_CNT on. -/
def statusKey (key : Nat) : Prop := 0x1C0000 ≤ key ∧ key < 0x1E0000 ∧ 0x3C ≤ key % 0x8000

/-- From s to t the outputs' error counts, their bursts and their tilt causes are as they were, and no link has come up. -/
structure StatusKept (s t : State) : Prop where
  counts : ∀ d : Fin 4, getReg t (P.DSP_ERR_CNT d) = getReg s (P.DSP_ERR_CNT d)
  burst : ∀ d : Fin 4, onF t (P.DSP_STAT d) F.DSP_STAT_burst = onF s (P.DSP_STAT d) F.DSP_STAT_burst
  cause : ∀ d : Fin 4, getF t (P.DSP_STAT d) F.DSP_STAT_tilt_cause = getF s (P.DSP_STAT d) F.DSP_STAT_tilt_cause
  down : ∀ d : Fin 4, onF s (P.DSP_STAT d) F.DSP_STAT_link_up = false → onF t (P.DSP_STAT d) F.DSP_STAT_link_up = false

theorem StatusKept.refl (s : State) : StatusKept s s := ⟨fun _ => rfl, fun _ => rfl, fun _ => rfl, fun _ h => h⟩

theorem timingPort_not_status : ∀ d : Fin 4, ∀ i : Fin 5, ¬statusKey (timingPort d i) := by
  unfold statusKey; decide

theorem dspStat_injective {d e : Fin 4} (h : P.DSP_STAT d = P.DSP_STAT e) : d = e :=
  Fin.ext (by unfold P.DSP_STAT at h; omega)

section
variable {s t : State} (h : StatusKept s t)
include h

theorem StatusKept.trans {u : State} (h2 : StatusKept t u) : StatusKept s u :=
  ⟨fun d => (h2.counts d).trans (h.counts d), fun d => (h2.burst d).trans (h.burst d),
    fun d => (h2.cause d).trans (h.cause d), fun d hd => h2.down d (h.down d hd)⟩

/-- A change of no register. -/
theorem StatusKept.same {u : State} (hr : u.regs = t.regs) : StatusKept s u :=
  h.trans ⟨fun _ => getReg_congr hr _, fun _ => by rw [onF, onF, getReg_congr hr],
    fun _ => by rw [getF, getF, getReg_congr hr], fun _ hd => by rwa [onF, getReg_congr hr]⟩

/-- A write of a register that is not an output's status. -/
theorem StatusKept.setReg {key : Nat} (v : Word) (hk : ¬statusKey key := by
      simp only [statusKey, own, P.KTL_CTRL, P.SYS_TILT_LAST, P.SYS_TILT_TIME_LO, P.SYS_TILT_TIME_HI, P.SYS_TILT,
        P.EPH_CTRL, P.EPH_STAT, P.SEC_DRBG_PSTAT, P.SEC_DRBG_OUT, P.LDG_STAT, P.LDG_MEV_STAT, P.LDG_BOOTCNT, P.CFG_STOP,
        P.CFG_STAT, P.DSP_TRAIN, P.DSP_LINK, P.DSP_CTRL, P.CMP_CTRL]
      omega) : StatusKept s (setReg t key v) := by
  have hstat : ∀ d : Fin 4, P.DSP_STAT d ≠ key := fun d e => hk (by subst e; unfold statusKey P.DSP_STAT; omega)
  have hcnt : ∀ d : Fin 4, P.DSP_ERR_CNT d ≠ key := fun d e => hk (by subst e; unfold statusKey P.DSP_ERR_CNT; omega)
  exact h.trans ⟨fun d => getReg_setReg_ne t v (hcnt d), fun d => onF_setReg_ne t v _ (hstat d),
    fun d => getF_setReg_ne t v _ (hstat d), fun d hd => (onF_setReg_ne t v _ (hstat d)).trans hd⟩

/-- Output d's status written but for its burst and its tilt cause, its link not up after it unless it was. -/
theorem StatusKept.writeStat (d : Fin 4) {u : State} (hr : ∀ key, key ≠ P.DSP_STAT d → statusKey key → getReg u key = getReg t key)
    (hb : onF u (P.DSP_STAT d) F.DSP_STAT_burst = onF t (P.DSP_STAT d) F.DSP_STAT_burst)
    (hc : getF u (P.DSP_STAT d) F.DSP_STAT_tilt_cause = getF t (P.DSP_STAT d) F.DSP_STAT_tilt_cause)
    (hl : onF t (P.DSP_STAT d) F.DSP_STAT_link_up = false → onF u (P.DSP_STAT d) F.DSP_STAT_link_up = false) :
    StatusKept s u := by
  have hne : ∀ e : Fin 4, e ≠ d → getReg u (P.DSP_STAT e) = getReg t (P.DSP_STAT e) := fun e he =>
    hr _ (fun h => he (dspStat_injective h)) (by unfold statusKey P.DSP_STAT; omega)
  refine h.trans ⟨fun e => hr _ (by unfold P.DSP_STAT P.DSP_ERR_CNT; omega) (by unfold statusKey P.DSP_ERR_CNT; omega),
    fun e => ?_, fun e => ?_, fun e => ?_⟩
  · by_cases he : e = d
    · exact he ▸ hb
    · rw [onF, onF, hne e he]
  · by_cases he : e = d
    · exact he ▸ hc
    · rw [getF, getF, hne e he]
  · by_cases he : e = d
    · exact he ▸ hl
    · rw [onF, onF, hne e he]; exact id

theorem StatusKept.linkDown (d : Fin 4) : StatusKept s (linkDown d t) :=
  h.writeStat d (fun _ hk _ => getReg_setF_ne t _ 0 hk) (onF_setF_other t _ _ _ 0 rfl) (getF_setF_other t _ _ _ 0 rfl)
    fun _ => onF_setF_self t _ _ 0 rfl

theorem StatusKept.modeWrite (d : Fin 4) (mode : Nat) : StatusKept s (modeWrite d mode t) := by
  have hm := (ModeSet.refl d t).modeWrite mode
  refine h.writeStat d (fun key hk hs => hm.regs key ?_) (hm.on _ rfl) (hm.num _ rfl) fun hl => (hm.on _ rfl).trans hl
  simp only [List.mem_cons, List.not_mem_nil, or_false, not_or]
  unfold statusKey at hs
  exact ⟨by unfold P.DSP_CTRL; omega, hk, by unfold P.MEM_LTR_D; omega⟩

omit h in
theorem StatusKept.ite {c : Prop} [Decidable c] {u : State} (h1 : StatusKept s t) (h2 : StatusKept s u) :
    StatusKept s (if c then t else u) := by split <;> assumption

theorem StatusKept.fold {α : Type} {f : State → α → State} {xs : List α}
    (hf : ∀ u x, StatusKept s u → StatusKept s (f u x)) : StatusKept s (xs.foldl f t) :=
  List.foldlRecOn (motive := StatusKept s) xs f h fun u hu x _ => hf u x hu

theorem StatusKept.setLdg (l : Ledger) : StatusKept s (setLdg l t) := h.same rfl

theorem StatusKept.withKtl (k : Kettle) : StatusKept s { t with ktl := k } := h.same rfl

theorem StatusKept.withSec (x : Trust) : StatusKept s { t with sec := x } := h.same rfl

theorem StatusKept.withPwr (p : Power) : StatusKept s { t with pwr := p } := h.same rfl

theorem StatusKept.withTilt (x : Tilt) : StatusKept s { t with tilt := x } := h.same rfl

theorem StatusKept.setClu (d : Fin 4) (c : Cluster) : StatusKept s (setClu d c t) := h.same rfl

/-! ## The units on tilt (R469) -/

theorem StatusKept.kettleTilt : StatusKept s (kettleTilt t) := .ite ((h.setReg (key := P.KTL_CTRL) _).withKtl _) h

theorem StatusKept.haltCluster (d : Fin 4) : StatusKept s (haltCluster d t) := ((h.setReg _).setReg _).setClu d _

theorem StatusKept.discardUnread (k : Fin 8) : StatusKept s (discardUnread k t) := by
  unfold Machine.discardUnread
  exact (((h.setReg _).fold fun _ i hu => hu.setReg _).setReg _).withSec _

theorem StatusKept.mevEnd (k result : Nat) : StatusKept s (mevEnd k result t) := ((h.setReg _).setReg _).setReg _

theorem StatusKept.logEvent (e : LogEvent) : StatusKept s (logEvent e t) := .ite ((h.setLdg _).setLdg _) h

theorem StatusKept.endQueued (result : Nat) : StatusKept s (endQueued result t) :=
  (((h.fold fun _ e hu => hu.mevEnd e.1 result).setLdg _).setLdg _ |>.setLdg _).fold fun _ x hu => hu.logEvent x.2

theorem StatusKept.freezeMeters : StatusKept s (freezeMeters t) := by
  unfold Machine.freezeMeters
  dsimp only
  split
  · exact ((StatusKept.ite ((h.setLdg _).mevEnd _ 3) h).endQueued 3).setReg _
  · exact (h.endQueued 3).setReg _

theorem StatusKept.ledgerTilt (code : Nat) : StatusKept s (ledgerTilt code t) :=
  .ite h.freezeMeters (h.freezeMeters.logEvent _)

/-! ## The stop of start-up (R357, R359) -/

theorem StatusKept.timingWrite (d : Fin 4) (i : Fin 5) (v : Word) : StatusKept s (timingWrite d i v t) :=
  .ite ((h.setClu d _).setReg v (timingPort_not_status d i)) (h.setClu d _)

theorem StatusKept.startTraining (d : Fin 4) : StatusKept s (startTraining d t) := by
  by_cases hr : rateRefused t d
  · rw [startTraining_refused hr]
    exact h.setReg _
  · rw [startTraining_begins hr]
    exact ((((h.linkDown d).setClu d _).withPwr _).setReg _).setReg _

theorem StatusKept.loadD0 (ws : List Nat) (edp : Bool) : StatusKept s (loadD0 ws edp t) :=
  (((h.fold fun _ i hu => hu.timingWrite 0 i _).setReg _).setReg _).setReg _

theorem StatusKept.stopShows : StatusKept s (stopShows t) := by
  unfold Machine.stopShows
  extract_lets s1
  have h1 : StatusKept s s1 := .ite (h.loadD0 _ _) ((h.loadD0 _ _).setReg _)
  exact .ite (h1.modeWrite 0 2) (.ite h1 (h1.startTraining 0))

theorem StatusKept.countBoot : StatusKept s (countBoot t) := .ite (((h.setLdg _).setLdg _).setReg _) h

theorem StatusKept.bootStop (code sect : Nat) : StatusKept s (bootStop code sect t) := by
  unfold Machine.bootStop
  extract_lets s1 s2 s3 r
  have h1 : StatusKept s s1 := (h.stopShows.setReg _).setReg _
  have h3 : StatusKept s s3 := (StatusKept.ite h1.countBoot h1).logEvent _
  exact .ite (.ite (h3.setLdg _) (h3.setLdg _)) h3

theorem StatusKept.unitsSeeTilt (code : Nat) : StatusKept s (unitsSeeTilt code t) := by
  have h0 := h.kettleTilt.fold (xs := List.finRange 4) fun _ d hu => hu.haltCluster d
  have h2 := (h0.fold (xs := List.finRange 8) fun _ k hu => hu.discardUnread k).ledgerTilt code
  exact .ite (h2.bootStop 16 0) h2

theorem StatusKept.latchLoaded (code : Nat) : StatusKept s (latchLoaded code t) :=
  (((h.setReg _).setReg _).setReg _).setReg _

end

/-- Whatever becomes of a tilt request, it keeps the status of the outputs. -/
theorem raiseTilt_statusKept (code : Nat) (s : State) : StatusKept s (raiseTilt code s) := by
  unfold raiseTilt
  split
  · exact StatusKept.refl s
  split
  · exact (StatusKept.refl s).setReg _ (by unfold statusKey P.SYS_TILT_CNT; omega)
  · rw [captureTilt_eq]
    exact (((StatusKept.refl s).latchLoaded code).withTilt _).unitsSeeTilt code

end Sys2Proof.Machine
end

section
/-! SUPPORT. Bursts of mismatches and lost links. -/
namespace Sys2Proof.Machine

/-! ## A tilt by an output (R164, R467) -/

/-- A burst found on output d, which resends n lines, is counted and flagged. -/
def BurstNoted (d : Fin 4) (n : Nat) (s t : State) : Prop :=
  onF t (P.DSP_STAT d) F.DSP_STAT_burst = true ∧
  getF t (P.DSP_ERR_CNT d) F.DSP_ERR_CNT_bursts =
    min (getF s (P.DSP_ERR_CNT d) F.DSP_ERR_CNT_bursts + 1) (2 ^ F.DSP_ERR_CNT_bursts.len - 1) ∧
  getF t (P.DSP_ERR_CNT d) F.DSP_ERR_CNT_resent =
    min (getF s (P.DSP_ERR_CNT d) F.DSP_ERR_CNT_resent + n) (2 ^ F.DSP_ERR_CNT_resent.len - 1)

theorem dspErrCnt_ne_stat (d : Fin 4) : P.DSP_ERR_CNT d ≠ P.DSP_STAT d := by unfold P.DSP_ERR_CNT P.DSP_STAT; omega

theorem noteBurst_onlyRegs (d : Fin 4) (n : Nat) (s : State) :
    OnlyRegs s (noteBurst d n s) [P.DSP_STAT d, P.DSP_ERR_CNT d] :=
  OnlyRegs.trans (OnlyRegs.trans (OnlyRegs.setF s _ 1 (by simp)) (OnlyRegs.addF _ _ 1 (by simp)))
    (OnlyRegs.addF _ _ n (by simp))

theorem noteBurst_noted (d : Fin 4) (n : Nat) (s : State) : BurstNoted d n s (noteBurst d n s) := by
  have hne := dspErrCnt_ne_stat d
  refine ⟨?_, ?_, ?_⟩
  · exact (onF_setF_ne _ _ _ _ hne.symm).trans ((onF_setF_ne _ _ _ _ hne.symm).trans (onF_setF_self s _ _ 1 rfl))
  · rw [noteBurst, getF_addF_other _ _ _ _ _ rfl, getF_addF_self _ _ _ _ rfl, getF_setF_ne _ _ _ _ hne]
  · rw [noteBurst, getF_addF_self _ _ _ _ rfl, getF_addF_other _ _ _ _ _ rfl, getF_setF_ne _ _ _ _ hne]

/-- A tilt that output d raises while none stands. -/
structure OutputTilted (d : Fin 4) (cause : Nat) (s t : State) : Prop where
  code : t.tilt.code = some (0x1400 + 0x100 * d.val + cause)
  cause : getF t (P.DSP_STAT d) F.DSP_STAT_tilt_cause = cause
  link : onF s (P.DSP_STAT d) F.DSP_STAT_link_up = false → onF t (P.DSP_STAT d) F.DSP_STAT_link_up = false
  burst : onF t (P.DSP_STAT d) F.DSP_STAT_burst = onF s (P.DSP_STAT d) F.DSP_STAT_burst
  counts : getReg t (P.DSP_ERR_CNT d) = getReg s (P.DSP_ERR_CNT d)

theorem outputTilt_tilted {s : State} (d : Fin 4) {cause : Nat} (hc : cause < 8) (hr : s.pwr.inReset = false)
    (ht : s.tilt.code = none) : OutputTilted d cause s (outputTilt d cause s) := by
  have hk := raiseTilt_statusKept (0x1400 + 0x100 * d.val + cause) (setF s (P.DSP_STAT d) F.DSP_STAT_tilt_cause cause)
  refine ⟨raiseTilt_code _ hr ht, (hk.cause d).trans ((getF_setF_self _ _ _ _ rfl).trans (Nat.mod_eq_of_lt hc)),
    fun hl => hk.down d ((onF_setF_other _ _ _ _ _ rfl).trans hl), (hk.burst d).trans (onF_setF_other _ _ _ _ _ rfl),
    (hk.counts d).trans (getReg_setF_ne _ _ _ (dspErrCnt_ne_stat d))⟩

/-- A tilt leaves the burst that it is raised for noted. -/
theorem BurstNoted.tilted {d : Fin 4} {n cause : Nat} {s t u : State} (h : BurstNoted d n s t)
    (ht : OutputTilted d cause t u) : BurstNoted d n s u := by
  obtain ⟨hburst, hbursts, hresent⟩ := h
  refine ⟨ht.burst.trans hburst, ?_, ?_⟩
  · rw [getF, ht.counts]
    exact hbursts
  · rw [getF, ht.counts]
    exact hresent

/-- A burst that is not handled raises tilt with cause 4 (R163). -/
theorem burst_tilts {d : Fin 4} {n : Nat} {s u : State} (h : BurstNoted d n s u) (hr : u.pwr.inReset = false)
    (ht : u.tilt.code = none) :
    BurstNoted d n s (outputTilt d 4 u) ∧ (outputTilt d 4 u).tilt.code = some (0x1404 + 0x100 * d.val) ∧
      getF (outputTilt d 4 u) (P.DSP_STAT d) F.DSP_STAT_tilt_cause = 4 := by
  have hu := outputTilt_tilted d (cause := 4) (by decide) hr ht
  exact ⟨h.tilted hu, by rw [hu.code]; congr 1; omega, hu.cause⟩

/-! ## A burst in a send (R162) -/

/-- A send after its lines i to k, each of l clocks, are sent again. -/
def Sending.resent (z : Sending) (i k l : Nat) : Sending :=
  { z with
    extra := z.extra + (k + 1 - i) * l
    resends := z.resends ++ [((z.lines.map (·.1)).getD i 0, (z.lines.map (·.1)).getD k 0)]
    region := (z.lines.map (·.1)).getD (k + 1) ((z.lines.map (·.1)).getD i 0) }

/-- Lines i to k of the send z under way on output d marked and resent. -/
def burstResent (d : Fin 4) (z : Sending) (i k : Nat) (s : State) : State :=
  noteBurst d (k + 1 - i) (setClu d { s.clu[d] with sending := some (z.resent i k (lineSend s d)) } s)

/-- The resend of lines i to k of the send z is over in time, and the tear rule admits each line. -/
def ResentInTime (s : State) (d : Fin 4) (z : Sending) (i k clocks : Nat) : Prop :=
  clocks + (k + 1 - i) * lineSend s d ≤ 30000 ∧ ∀ j < k + 1 - i,
    resendOk s d ((z.lines.map (·.1)).getD (i + j) 0) (linePassed s d z k + j * lineSend s d) = true

section
variable {d : Fin 4} {z : Sending} {i k clocks : Nat} {s : State}

theorem burstInSend_handled (h : ResentInTime s d z i k clocks) : burstInSend d z i k clocks s = burstResent d z i k s :=
  if_pos (by simpa [ResentInTime, List.all_eq_true] using h)

theorem burstInSend_late (h : ¬ResentInTime s d z i k clocks) :
    burstInSend d z i k clocks s = outputTilt d 4 (burstResent d z i k s) :=
  if_neg (by simpa [ResentInTime, List.all_eq_true] using h)

theorem burstResent_noted : BurstNoted d (k + 1 - i) s (burstResent d z i k s) := noteBurst_noted d _ _

theorem burstResent_rest : burstResent d z i k s =
    { setClu d { s.clu[d] with sending := some (z.resent i k (lineSend s d)) } s with
      regs := (burstResent d z i k s).regs } := (noteBurst_onlyRegs d _ _).1

theorem burstResent_sending : (burstResent d z i k s).clu[d].sending = some (z.resent i k (lineSend s d)) := by
  rw [burstResent_rest]
  exact congrArg Cluster.sending (setClu_same d _ s)

theorem burstResent_regsBut : RegsBut s (burstResent d z i k s) [P.DSP_STAT d, P.DSP_ERR_CNT d] :=
  (noteBurst_onlyRegs d _ _).2

end

theorem getD_idxOf {ys : List Nat} {a i : Nat} (h : ys.idxOf a = i) (hi : i < ys.length) : ys.getD i 0 = a := by
  subst h
  rw [List.getD_eq_getElem _ _ hi, List.getElem_idxOf]

section
variable {d lane : Fin 4} {first last : Fin 8192} {clocks : Nat} {s : State} (ho : outputOn s d = true)
  (hm : modeOf s d ≠ 0)
include ho hm

theorem exec_laneMismatch_raster (hr : rasterMode s d = true) : exec (.laneMismatch d lane first last clocks) s =
    .next (if 30000 < clocks then outputTilt d 4 (noteBurst d 0 s) else noteBurst d 0 s) := by
  show execLaneMismatch d lane first last clocks s = _
  rw [execLaneMismatch, if_neg (by simp [ho, hm]), if_pos hr]

theorem exec_laneMismatch_between (hr : rasterMode s d = false) (hz : s.clu[d].sending = none) :
    exec (.laneMismatch d lane first last clocks) s = .next (noteBurst d 0 s) := by
  show execLaneMismatch d lane first last clocks s = _
  rw [execLaneMismatch, if_neg (by simp [ho, hm]), if_neg (by simp [hr]), hz]

theorem exec_laneMismatch_sending {z : Sending} {i k : Nat} (hr : rasterMode s d = false)
    (hz : s.clu[d].sending = some z) (hi : (z.lines.map (·.1)).idxOf first.val = i)
    (hk : (z.lines.map (·.1)).idxOf last.val = k) (hin : i < (z.lines.map (·.1)).length)
    (hkn : k < (z.lines.map (·.1)).length) (hle : first.val ≤ last.val)
    (hc : clocks ≤ (last.val + 1 - first.val) * lineSend s d) :
    exec (.laneMismatch d lane first last clocks) s = .next (burstInSend d z i k clocks s) := by
  subst hi hk
  have hf := List.contains_iff_mem.2 (List.idxOf_lt_length_iff.1 hin)
  have hl := List.contains_iff_mem.2 (List.idxOf_lt_length_iff.1 hkn)
  show execLaneMismatch d lane first last clocks s = _
  rw [execLaneMismatch, if_neg (by simp [ho, hm]), if_neg (by simp [hr]), hz]
  exact if_pos (by simp only [hf, hl, hle, hc, decide_true, Bool.and_self])

end

/-! ## Lost links (R164) -/

theorem linkLost_tilts {s : State} (d : Fin 4) {cause : Nat} (hc : cause < 8) (ho : outputOn s d = true)
    (hr : s.pwr.inReset = false) (ht : s.tilt.code = none) :
    ∃ t, linkLost d cause s = .next t ∧ onF t (P.DSP_STAT d) F.DSP_STAT_link_up = false ∧
      t.tilt.code = some (0x1400 + 0x100 * d.val + cause) ∧ getF t (P.DSP_STAT d) F.DSP_STAT_tilt_cause = cause := by
  have hu := outputTilt_tilted (s := linkDown d s) d hc hr ht
  exact ⟨_, if_pos ho, hu.link (onF_setF_self s _ _ 0 rfl), hu.code, hu.cause⟩

end Sys2Proof.Machine
end

section
/-! THEOREM. Link training and link faults. -/
namespace Sys2Proof.Machine

/-! ## A trained D0 in start-up (R352, R359) -/

/-- What start-up makes of a trained output leaves its training ended. -/
theorem TrainingEnded.bootTrained {d : Fin 4} {result : Fin 8} {ok su : Bool} {ygran : Fin 64} {s t : State}
    (h : TrainingEnded d result ok su ygran s t) : TrainingEnded d result ok su ygran s (bootTrained d t) := by
  unfold Machine.bootTrained
  split
  · exact h
  next hd =>
  obtain rfl : d = 0 := of_not_not hd
  split
  · have hm := (ModeSet.refl 0 t).modeWrite 2
    exact ⟨(hm.regs _ (by decide)).trans h.train, (hm.on _ rfl).trans h.link, hm.mem.trans h.mem⟩
  split
  · exact ⟨(getReg_setF_ne t _ 1 (by decide)).trans h.train, (onF_setF_ne t _ _ 1 (by decide)).trans h.link, h.mem⟩
  · exact h

theorem bootTrained_other {d : Fin 4} (h : d ≠ 0) (s : State) : bootTrained d s = s := if_pos h

theorem trainingEnd_spec {d : Fin 4} {result : Fin 8} {su : Bool} {ygran : Fin 64} {s : State}
    (hb : trainingRuns s d = true) (ho : outputOn s d = true) (hl : s.pwr.linkLocked.getLsbD d = true)
    (h1 : 1 ≤ result.val) (h5 : result.val ≤ 5) :
    ∃ t, exec (.trainingEnd d result su ygran) s = .next t ∧
      TrainingEnded d result (decide (result = 1)) (decide (result = 1) && suOk s d su ygran.val) ygran s t ∧
      (d ≠ 0 → OnlyRegs s t [P.DSP_STAT d, P.DSP_TRAIN d]) := by
  have ht := trainingOver_ended d result su ygran s
  have ho' := trainingOver_onlyRegs d result su ygran s
  refine ⟨_, exec_trainingEnd hb ho hl h1 h5, ?_, fun hd => ?_⟩
  · split
    · exact ht.bootTrained
    · exact ht
  · rw [bootTrained_other hd, ite_self]
    exact ho'

/-- Settles O38: a training's start and end are read off one state each; a burst is noted before it is decided whether it
raises tilt, and a tilt keeps the status of the outputs. -/
theorem linkTrainingAndFaults : Obligations.LinkTrainingAndFaults := by
  unfold Obligations.LinkTrainingAndFaults
  refine ⟨⟨fun m d s hr => ⟨fun h => ?_, fun hm hb => ?_⟩, fun d result su ygran s hb ho hl h1 h5 => ?_,
    fun d s ht ho hm => ⟨fun hl hb => ?_, fun hl => exec_retrain_up hl⟩⟩,
    fun d lane first last clocks s ho hm hrz => ⟨fun h => ?_, fun hr hc hrst ht => ?_⟩,
    fun d lane first last clocks i k z s ho hm hr hz => ?_, fun d s ho hr ht => ⟨?_, fun err => ?_⟩⟩
  · rw [exec_dspTrain hr, trainWrite_ignored h]
  · exact ⟨_, by rw [exec_dspTrain hr, trainWrite_starts hm hb], startTraining_trains d s⟩
  · obtain ⟨t, he, ht, hd⟩ := trainingEnd_spec (su := su) (ygran := ygran) hb ho hl h1 h5
    obtain ⟨hstart, hbusy, hresult, hygran, hsu⟩ :=
      trainingWord_fields result (decide (result = 1) && suOk s d su ygran.val) ygran
    refine ⟨t, he, ?_, ?_, ?_, ?_, ?_, ht.link, ht.mem, hd⟩
    · rw [trainingRuns, onF, ht.train, hbusy]
    · rw [onF, ht.train, hstart]
    · rw [getF, ht.train, hresult]
    · rw [getF, ht.train, hygran]
    · rw [onF, ht.train, hsu]
  · exact ⟨_, exec_retrain_down ht ho hm hl hb, startTraining_trains d s⟩
  · refine ⟨noteBurst d 0 s, ?_, noteBurst_noted d 0 s, noteBurst_onlyRegs d 0 s⟩
    cases hr : rasterMode s d with
    | true => rw [exec_laneMismatch_raster ho hm hr, if_neg (by simpa [hr] using h)]
    | false => exact exec_laneMismatch_between ho hm hr (by simpa [hr] using hrz)
  · exact ⟨_, by rw [exec_laneMismatch_raster ho hm hr, if_pos hc], burst_tilts (noteBurst_noted d 0 s) hrst ht⟩
  · intro ys n l hi hk hin hkn hle hc inTime
    have hexec := exec_laneMismatch_sending (lane := lane) ho hm hr hz hi hk hin hkn hle hc
    have hrest := burstResent_rest (d := d) (z := z) (i := i) (k := k) (s := s)
    refine ⟨fun h => ⟨_, hexec.trans (congrArg _ (burstInSend_handled h)), burstResent_noted, ?_,
      by rw [hrest]; rfl, by rw [hrest]; rfl, burstResent_regsBut⟩, fun h hrst ht => ⟨_,
      hexec.trans (congrArg _ (burstInSend_late h)), burst_tilts burstResent_noted (by rw [hrest]; exact hrst)
        (by rw [hrest]; exact ht)⟩⟩
    rw [burstResent_sending, Sending.resent, getD_idxOf hi hin, getD_idxOf hk hkn]
  · obtain ⟨t, he, hl, hc, hcause⟩ := linkLost_tilts d (cause := 1) (by decide) ho hr ht
    exact ⟨t, he, hl, by rw [hc]; congr 1; omega, hcause⟩
  · exact linkLost_tilts d (by cases err <;> decide) ho hr ht

end Sys2Proof.Machine
end

section
/-! SUPPORT. What a hold, a late band and the begin of a send make of the outputs. -/
namespace Sys2Proof.Machine

/-! ## The counts (R150, R152) -/

/-- A counting field one further. -/
def Fld.counted (f : Fld) (w : Word) : Word := f.put (min (f.get w + 1) (2 ^ f.len - 1)) w

theorem Fld.get_counted {f : Fld} (h : f.inWord = true) (w : Word) :
    f.get (f.counted w) = min (f.get w + 1) (2 ^ f.len - 1) := by
  rw [Fld.counted, Fld.get_put_same f (Fld.ok_of_inWord h)]
  exact Nat.mod_eq_of_lt (lt_of_le_of_lt (min_le_right _ _) (Nat.sub_lt (Nat.two_pow_pos _) Nat.one_pos))

theorem Fld.get_counted_other {f g : Fld} (h : f.leaves g = true) (w : Word) : g.get (f.counted w) = g.get w :=
  Fld.get_put_apart f g (Fld.apart_of_leaves h).1 (Fld.apart_of_leaves h).2 _ w

/-- DSP_CNT of output j, and its cluster. -/
def outputAt (s : State) (j : Fin 4) : Word × Cluster := (getReg s (P.DSP_CNT j), s.clu[j])

/-- An output after a hold of its group (R152). -/
def holdCounted (p : Word × Cluster) : Word × Cluster :=
  if p.2.held then p else (F.DSP_CNT_held.counted p.1, { p.2 with held := true })

/-- An output after a late band, by its frame and number, of its group (R150). -/
def lateCounted (k : Nat × Nat) (p : Word × Cluster) : Word × Cluster :=
  if p.2.lateSeen.contains k then p
  else (F.DSP_CNT_late.counted p.1, { p.2 with lateSeen := (k :: p.2.lateSeen).take 1024 })

theorem holdCounted_held {p : Word × Cluster} (h : p.2.held = true) : holdCounted p = p := if_pos h

theorem holdCounted_new {p : Word × Cluster} (h : ¬p.2.held = true) :
    holdCounted p = (F.DSP_CNT_held.counted p.1, { p.2 with held := true }) := if_neg h

theorem lateCounted_seen {k : Nat × Nat} {p : Word × Cluster} (h : p.2.lateSeen.contains k = true) :
    lateCounted k p = p := if_pos h

theorem lateCounted_new {k : Nat × Nat} {p : Word × Cluster} (h : ¬p.2.lateSeen.contains k = true) : lateCounted k p =
    (F.DSP_CNT_late.counted p.1, { p.2 with lateSeen := (k :: p.2.lateSeen).take 1024 }) := if_neg h

/-- A band is counted late once. -/
theorem lateCounted_idem (k : Nat × Nat) (p : Word × Cluster) : lateCounted k (lateCounted k p) = lateCounted k p := by
  by_cases h : p.2.lateSeen.contains k = true
  · rw [lateCounted_seen h, lateCounted_seen h]
  · refine lateCounted_seen ?_
    rw [lateCounted_new h, List.take_succ_cons]
    exact List.contains_iff_mem.2 List.mem_cons_self

theorem holdCounted_rest (p : Word × Cluster) : ∃ b, (holdCounted p).2 = { p.2 with held := b } := by
  unfold holdCounted
  split
  · exact ⟨p.2.held, rfl⟩
  · exact ⟨true, rfl⟩

theorem lateCounted_rest (k : Nat × Nat) (p : Word × Cluster) : ∃ l, (lateCounted k p).2 = { p.2 with lateSeen := l } := by
  unfold lateCounted
  split
  · exact ⟨p.2.lateSeen, rfl⟩
  · exact ⟨_, rfl⟩

theorem late_holdCounted (p : Word × Cluster) : F.DSP_CNT_late.get (holdCounted p).1 = F.DSP_CNT_late.get p.1 := by
  unfold holdCounted
  split
  · rfl
  · exact Fld.get_counted_other rfl p.1

theorem held_lateCounted (k : Nat × Nat) (p : Word × Cluster) :
    F.DSP_CNT_held.get (lateCounted k p).1 = F.DSP_CNT_held.get p.1 := by
  unfold lateCounted
  split
  · rfl
  · exact Fld.get_counted_other rfl p.1

theorem held_holdCounted (p : Word × Cluster) : F.DSP_CNT_held.get (holdCounted p).1 = if !p.2.held then
    min (F.DSP_CNT_held.get p.1 + 1) (2 ^ F.DSP_CNT_held.len - 1) else F.DSP_CNT_held.get p.1 := by
  unfold holdCounted
  cases p.2.held
  · exact Fld.get_counted rfl p.1
  · rfl

theorem late_lateCounted (k : Nat × Nat) (p : Word × Cluster) : F.DSP_CNT_late.get (lateCounted k p).1 =
    if !p.2.lateSeen.contains k then min (F.DSP_CNT_late.get p.1 + 1) (2 ^ F.DSP_CNT_late.len - 1)
    else F.DSP_CNT_late.get p.1 := by
  unfold lateCounted
  cases p.2.lateSeen.contains k
  · exact Fld.get_counted rfl p.1
  · rfl

/-- An output that begins to send band a at clock x, its first line that of the region or first (R149, R151). -/
def sendBegun (a : Band) (first x : Nat) (late : Bool) (c : Cluster) : Cluster :=
  { c with
    toSend := c.toSend.drop 1
    sending := some ⟨a.frame, a.band, x, 0, ((slotOf c a.frame a.band).map (·.lines)).getD [], regionFirst c a first x, []⟩
    frames := c.frames.map (fun w => if w.frame = a.frame then
      { w with decided := w.decided + 1, late := w.late + b2n (late || c.lateSeen.contains (a.frame, a.band)) } else w) }

/-! ## The operations -/

/-- A count of output j, an event and a flag with it, its cluster being c. -/
def noted (ev : Nat) (j : Fin 4) (c : Cluster) (f g : Fld) (s : State) : State :=
  setF (addF (pmcEvent ev 0 1 (setClu j c s)) (P.DSP_CNT j) f 1) (P.DSP_STAT j) g 1

theorem outputAt_setClu_same (j : Fin 4) (c : Cluster) (s : State) :
    outputAt (setClu j c s) j = (getReg s (P.DSP_CNT j), c) := Prod.ext rfl (setClu_same j c s)

theorem outputAt_setClu_ne {i j : Fin 4} (h : i ≠ j) (c : Cluster) (s : State) :
    outputAt (setClu j c s) i = outputAt s i := Prod.ext rfl (setClu_ne h c s)

theorem dspCnt_ne_stat (i j : Fin 4) : P.DSP_CNT i ≠ P.DSP_STAT j := by unfold P.DSP_CNT P.DSP_STAT; omega

theorem outputAt_noted_same (ev : Nat) (j : Fin 4) (c : Cluster) (f g : Fld) (s : State) :
    outputAt (noted ev j c f g s) j = (f.counted (getReg s (P.DSP_CNT j)), c) :=
  Prod.ext ((getReg_setF_ne _ _ _ (dspCnt_ne_stat j j)).trans (getReg_setF_same _ _ _ _)) (setClu_same j c s)

theorem outputAt_noted_ne {i j : Fin 4} (h : i ≠ j) (ev : Nat) (c : Cluster) (f g : Fld) (s : State) :
    outputAt (noted ev j c f g s) i = outputAt s i := by
  have hk : P.DSP_CNT i ≠ P.DSP_CNT j := fun e => h (Fin.ext (by unfold P.DSP_CNT at e; omega))
  exact Prod.ext ((getReg_setF_ne _ _ _ (dspCnt_ne_stat i j)).trans (getReg_setF_ne _ _ _ hk)) (setClu_ne h c s)

theorem countHeld_eq (s : State) (j : Fin 4) : countHeld s j = if s.clu[j].held then s
    else noted (0x064 + j.val) j { s.clu[j] with held := true } F.DSP_CNT_held F.DSP_STAT_held s := rfl

theorem countLate_eq (frame band : Nat) (s : State) (j : Fin 4) : countLate frame band s j =
    if s.clu[j].lateSeen.contains (frame, band) then s
    else noted (0x060 + j.val) j { s.clu[j] with lateSeen := ((frame, band) :: s.clu[j].lateSeen).take 1024 }
      F.DSP_CNT_late F.DSP_STAT_late s := rfl

theorem outputAt_countHeld_same (s : State) (j : Fin 4) : outputAt (countHeld s j) j = holdCounted (outputAt s j) := by
  rw [countHeld_eq]
  by_cases h : s.clu[j].held = true
  · rw [if_pos h]
    exact (holdCounted_held h).symm
  · rw [if_neg h, outputAt_noted_same]
    exact (holdCounted_new (p := outputAt s j) h).symm

theorem outputAt_countHeld_ne {i j : Fin 4} (h : i ≠ j) (s : State) : outputAt (countHeld s j) i = outputAt s i := by
  rw [countHeld_eq]
  split
  · rfl
  · exact outputAt_noted_ne h ..

theorem outputAt_countLate_same (frame band : Nat) (s : State) (j : Fin 4) :
    outputAt (countLate frame band s j) j = lateCounted (frame, band) (outputAt s j) := by
  rw [countLate_eq]
  by_cases h : s.clu[j].lateSeen.contains (frame, band) = true
  · rw [if_pos h]
    exact (lateCounted_seen h).symm
  · rw [if_neg h, outputAt_noted_same]
    exact (lateCounted_new (p := outputAt s j) h).symm

theorem outputAt_countLate_ne {i j : Fin 4} (h : i ≠ j) (frame band : Nat) (s : State) :
    outputAt (countLate frame band s j) i = outputAt s i := by
  rw [countLate_eq]
  split
  · rfl
  · exact outputAt_noted_ne h ..

theorem beginSend_eq (j : Fin 4) (a : Band) (x : Nat) (late : Bool) (s : State) :
    beginSend j a x late s = setClu j (sendBegun a (a.out0 s j) x late s.clu[j]) s := by
  unfold beginSend decideLate onFrame
  simp only [setClu_same]
  unfold setClu sendBegun
  simp [Vector.set_set]

/-! ## The frame of a send -/

/-- The registers that a send of output d's group writes. -/
def sendKeys (s : State) (d : Fin 4) : List Nat := (group s d).flatMap (fun j => [P.DSP_CNT j, P.DSP_STAT j])

/-- From s to u the counts and flags of output d's group and the clusters may differ, not their beams. -/
structure SendFrame (d : Fin 4) (s u : State) : Prop where
  clock : u.clock = s.clock
  mem : u.mem = s.mem
  regs : RegsBut s u (sendKeys s d)
  beams : ∀ j : Fin 4, u.clu[j].beam = s.clu[j].beam

theorem SendFrame.refl (d : Fin 4) (s : State) : SendFrame d s s := ⟨rfl, rfl, RegsBut.refl s _, fun _ => rfl⟩

theorem mem_sendKeys {s : State} {d : Fin 4} {key : Nat} :
    key ∈ sendKeys s d ↔ ∃ j ∈ group s d, key = P.DSP_CNT j ∨ key = P.DSP_STAT j := by
  simp [sendKeys]

section
variable {d : Fin 4} {s u : State} (h : SendFrame d s u)
include h

theorem SendFrame.setClu (j : Fin 4) {c : Cluster} (hc : c.beam = u.clu[j].beam) : SendFrame d s (setClu j c u) := by
  refine ⟨h.clock, h.mem, h.regs, fun i => ?_⟩
  by_cases hi : i = j
  · rw [hi, setClu_same, hc, h.beams]
  · rw [setClu_ne hi, h.beams]

theorem SendFrame.noted {j : Fin 4} (hj : j ∈ group s d) (ev : Nat) {c : Cluster} (hc : c.beam = u.clu[j].beam) (f g : Fld) :
    SendFrame d s (noted ev j c f g u) :=
  have hs := h.setClu j hc
  have hcnt := mem_sendKeys.2 ⟨j, hj, .inl rfl⟩
  have hstat := mem_sendKeys.2 ⟨j, hj, .inr rfl⟩
  ⟨hs.clock, hs.mem, RegsBut.trans (RegsBut.trans hs.regs (RegsBut.setReg _ _ hcnt)) (RegsBut.setReg _ _ hstat),
    hs.beams⟩

theorem SendFrame.countHeld {j : Fin 4} (hj : j ∈ group s d) : SendFrame d s (countHeld u j) := by
  rw [countHeld_eq]
  split
  · exact h
  · exact h.noted (c := { u.clu[j] with held := true }) hj _ rfl _ _

theorem SendFrame.countLate {j : Fin 4} (hj : j ∈ group s d) (frame band : Nat) :
    SendFrame d s (countLate frame band u j) := by
  rw [countLate_eq]
  split
  · exact h
  · exact h.noted (c := { u.clu[j] with lateSeen := ((frame, band) :: u.clu[j].lateSeen).take 1024 }) hj _ rfl _ _

theorem SendFrame.beginSend (j : Fin 4) (a : Band) (x : Nat) (late : Bool) : SendFrame d s (beginSend j a x late u) := by
  rw [beginSend_eq]
  exact h.setClu j rfl

theorem SendFrame.reg {key : Nat} (hk : ∀ e : Fin 4, key ≠ P.DSP_CNT e ∧ key ≠ P.DSP_STAT e) :
    getReg u key = getReg s key := by
  refine h.regs key fun hm => ?_
  obtain ⟨e, -, he⟩ := mem_sendKeys.1 hm
  exact he.elim (hk e).1 (hk e).2

theorem SendFrame.sameCourse (j : Fin 4) : SameCourse j s u where
  timing i key hk := by
    have : ∀ e i : Fin 4, ∀ key ∈ timingKeys i, key ≠ P.DSP_CNT e ∧ key ≠ P.DSP_STAT e := by decide
    exact h.reg fun e => this e i key hk
  output key hk := by
    have : ∀ e j : Fin 4, ∀ key ∈ outputKeys j, key ≠ P.DSP_CNT e ∧ key ≠ P.DSP_STAT e := by decide
    exact h.reg fun e => this e j key hk
  beams := h.beams

theorem SendFrame.group (e : Fin 4) : group u e = group s e := by
  have hm : gangMaster u e = gangMaster s e := by
    rw [gangMaster, gangMaster, onF, onF, (h.sameCourse e).timing e (P.DSP_CTRL e) (by simp [timingKeys])]
  rw [Machine.group, Machine.group, hm]

end

/-- One operation for each output of a list without repetition: each output changes as its own operation says. -/
theorem foldl_outputs {I : State → Prop} {f : State → Fin 4 → State} {g : Fin 4 → Word × Cluster → Word × Cluster}
    {xs : List (Fin 4)} (hx : xs.Nodup) (hI : ∀ j ∈ xs, ∀ u, I u → I (f u j))
    (hs : ∀ j ∈ xs, ∀ u, I u → outputAt (f u j) j = g j (outputAt u j))
    (hne : ∀ i j u, i ≠ j → outputAt (f u j) i = outputAt u i) {s : State} (h : I s) :
    I (xs.foldl f s) ∧ ∀ i, outputAt (xs.foldl f s) i = if i ∈ xs then g i (outputAt s i) else outputAt s i := by
  induction xs generalizing s with
  | nil => exact ⟨h, fun i => rfl⟩
  | cons j xs ih =>
    obtain ⟨hj, hx⟩ := List.nodup_cons.1 hx
    obtain ⟨hi, ho⟩ := ih hx (fun k hk => hI k (.tail _ hk)) (fun k hk => hs k (.tail _ hk)) (hI j (.head _) s h)
    refine ⟨hi, fun i => ?_⟩
    rw [List.foldl_cons, ho]
    by_cases hij : i = j
    · subst hij
      rw [if_neg hj, if_pos (.head _), hs i (.head _) s h]
    · rw [hne i j s hij]
      simp only [List.mem_cons, hij, false_or]

end Sys2Proof.Machine
end

section
/-! SUPPORT. The stages of SEND_BAND, and what it comes to. -/
namespace Sys2Proof.Machine

theorem sendGroup_sub_group {s : State} {d j : Fin 4} (h : j ∈ sendGroup s d) : j ∈ group s d := List.mem_of_mem_filter h

theorem senders_eq {s : State} {d : Fin 4} {b : Band} (h : oldestSend s (sendGroup s d) = some b) :
    senders s d = (sendGroup s d).filter (fun e =>
      s.clu[e].toSend.head?.any (fun c => decide (c.frame = b.frame) && decide (c.band = b.band))) := by
  unfold senders
  dsimp only
  rw [h]

/-- The band that a ready output sends is the first that waits there. -/
theorem sendReady_head {s : State} {j : Fin 4} {r : Band × Nat × Bool} (h : sendReady s j = some r) :
    s.clu[j].toSend.head? = some r.1 := by
  unfold sendReady at h
  split at h
  · next b bs hb hs =>
    obtain ⟨p, -, rfl⟩ := Option.map_eq_some_iff.1 h
    rw [hb]
    rfl
  · exact nomatch h

/-- Who sends with output d has the band that waits longest. -/
theorem sender_band {s : State} {d j : Fin 4} {b : Band} {r : Band × Nat × Bool}
    (hb : oldestSend s (sendGroup s d) = some b) (hj : j ∈ senders s d) (hr : sendReady s j = some r) :
    r.1.frame = b.frame ∧ r.1.band = b.band := by
  rw [senders_eq hb] at hj
  have := (List.mem_filter.1 hj).2
  rw [sendReady_head hr] at this
  simpa using this

theorem senders_sub_group {s : State} {d j : Fin 4} {b : Band} (hb : oldestSend s (sendGroup s d) = some b)
    (hj : j ∈ senders s d) : j ∈ group s d := by
  rw [senders_eq hb] at hj
  exact sendGroup_sub_group (List.mem_of_mem_filter hj)

theorem senders_nodup {s : State} {d : Fin 4} {b : Band} (hb : oldestSend s (sendGroup s d) = some b) :
    (senders s d).Nodup := by
  rw [senders_eq hb]
  exact (sendGroup_nodup s d).filter _

/-- One of the bands from which the oldest is picked. -/
theorem mem_of_oldestSend {s : State} {ds : List (Fin 4)} {b : Band} (h : oldestSend s ds = some b) :
    ∃ j ∈ ds, s.clu[j].toSend.head? = some b := by
  have hf : ∀ (xs : List Band) (o : Option Band), xs.foldl (fun o b => match o with
      | some a => if b.stamp < a.stamp then some b else o
      | none => some b) o = some b → o = some b ∨ b ∈ xs := by
    intro xs
    induction xs with
    | nil => exact fun o ho => .inl ho
    | cons y xs ih =>
      intro o ho
      rcases ih _ ho with hy | hy
      · cases o with
        | none => exact .inr (Option.some.inj hy ▸ .head _)
        | some a =>
          dsimp only at hy
          split at hy
          · exact .inr (Option.some.inj hy ▸ .head _)
          · exact .inl hy
      · exact .inr (.tail _ hy)
  rcases hf _ _ h with h | h
  · exact nomatch h
  · exact List.mem_filterMap.1 h

theorem senders_ne_nil {s : State} {d : Fin 4} {b : Band} (hb : oldestSend s (sendGroup s d) = some b) :
    senders s d ≠ [] := by
  obtain ⟨j, hj, hh⟩ := mem_of_oldestSend hb
  rw [senders_eq hb]
  refine List.ne_nil_of_mem (List.mem_filter.2 ⟨hj, ?_⟩)
  rw [hh]
  simp

/-! ## The stages -/

section
variable {d : Fin 4} {s : State} {f : Fin 4 → Band × Nat × Bool} (hr : ∀ j ∈ senders s d, sendReady s j = some (f j))
include hr

theorem map_sendReady : (senders s d).map (sendReady s) = (senders s d).map (fun j => some (f j)) :=
  List.map_congr_left hr

/-- Outputs that are ready note a hold when the tear rule holds one of them (R152). -/
theorem noteHold_ready : noteHold d s =
    if (senders s d).any (fun j => (f j).2.2) = true then (sendGroup s d).foldl countHeld s else s := by
  unfold noteHold
  simp only [map_sendReady hr, List.all_map, List.any_map]
  simp [Function.comp_def]

theorem noteHold_outputs : SendFrame d s (noteHold d s) ∧ ∀ i, outputAt (noteHold d s) i =
    if (senders s d).any (fun j => (f j).2.2) = true ∧ i ∈ sendGroup s d then holdCounted (outputAt s i)
    else outputAt s i := by
  have hc := foldl_outputs (I := SendFrame d s) (sendGroup_nodup s d)
    (fun j hj u hu => hu.countHeld (sendGroup_sub_group hj)) (fun j _ u _ => outputAt_countHeld_same u j)
    (fun i j u hij => outputAt_countHeld_ne hij u) (SendFrame.refl d s)
  rw [noteHold_ready hr]
  by_cases hold : (senders s d).any (fun j => (f j).2.2) = true
  · simpa only [hold, if_true, true_and] using hc
  · simpa only [hold, if_false, false_and] using ⟨SendFrame.refl d s, fun _ => rfl⟩

end

section
variable {d : Fin 4} {s u : State} (h : SendFrame d s u)
include h

/-- A late band counts on every output of the group (R150, R165). -/
theorem countPair_outputs (hg : gangSlave s d = false) (frame band : Nat) :
    SendFrame d s (countPair d frame band u) ∧ ∀ i, outputAt (countPair d frame band u) i =
      if i ∈ group s d then lateCounted (frame, band) (outputAt u i) else outputAt u i := by
  have hl : leader u d = d := by rw [(h.sameCourse d).leader, leader, if_neg (by simp [hg])]
  rw [countPair, hl, h.group]
  exact foldl_outputs (group_nodup s d) (fun j hj v hv => hv.countLate hj frame band)
    (fun j _ v _ => outputAt_countLate_same frame band v j)
    (fun i j v hij => outputAt_countLate_ne hij frame band v) h

/-- The band counts once, however many outputs send their halves of it. -/
theorem countPairs_outputs (hg : gangSlave s d = false) (frame band : Nat) {xs : List (Fin 4)} (hx : xs ≠ []) :
    SendFrame d s (xs.foldl (fun t _ => countPair d frame band t) u) ∧
    ∀ i, outputAt (xs.foldl (fun t _ => countPair d frame band t) u) i =
      if i ∈ group s d then lateCounted (frame, band) (outputAt u i) else outputAt u i := by
  induction xs generalizing u with
  | nil => exact absurd rfl hx
  | cons y ys ih =>
    obtain ⟨h1, ho⟩ := countPair_outputs h hg frame band
    by_cases hy : ys = []
    · subst hy
      exact ⟨h1, ho⟩
    · obtain ⟨h2, ho2⟩ := ih h1 hy
      refine ⟨h2, fun i => (ho2 i).trans ?_⟩
      rw [ho]
      by_cases hi : i ∈ group s d
      · simp only [hi, if_true, lateCounted_idem]
      · simp only [hi, if_false]

/-- Each of the outputs begins its send. -/
theorem begins_outputs (f : Fin 4 → Band) (x : Nat) (late : Bool) {ds : List (Fin 4)} (hd : ds.Nodup) :
    SendFrame d s (ds.foldl (fun t j => beginSend j (f j) x late t) u) ∧
    ∀ i, outputAt (ds.foldl (fun t j => beginSend j (f j) x late t) u) i = if i ∈ ds then
      ((outputAt u i).1, sendBegun (f i) ((f i).out0 s i) x late (outputAt u i).2) else outputAt u i := by
  refine foldl_outputs (g := fun j p => (p.1, sendBegun (f j) ((f j).out0 s j) x late p.2)) hd
    (fun j _ v hv => hv.beginSend j (f j) x late) (fun j _ v hv => ?_) (fun i j v hij => ?_) h
  · rw [beginSend_eq, outputAt_setClu_same, (hv.sameCourse j).out0]
    rfl
  · rw [beginSend_eq, outputAt_setClu_ne hij]

end

/-- The holds of a group's outputs end (R152). -/
def holdsOver (d : Fin 4) (s : State) : State :=
  (group s d).foldl (fun t e => setClu e { t.clu[e] with held := false } t) s

theorem holdsOver_outputs {d : Fin 4} {s u : State} (h : SendFrame d s u) : SendFrame d s (holdsOver d u) ∧
    ∀ i, outputAt (holdsOver d u) i =
      if i ∈ group s d then ((outputAt u i).1, { (outputAt u i).2 with held := false }) else outputAt u i := by
  rw [holdsOver, h.group]
  exact foldl_outputs (g := fun _ p => (p.1, { p.2 with held := false })) (group_nodup s d)
    (fun j _ v hv => hv.setClu j rfl) (fun j _ v _ => outputAt_setClu_same j _ v)
    (fun i j v hij => outputAt_setClu_ne hij _ v) h

end Sys2Proof.Machine
end

section
/-! THEOREM. Sends in selective update. -/
namespace Sys2Proof.Machine

/-! ## What SEND_BAND comes to -/

/-- An output of the group once the hold and the late band are counted. -/
def outputNoted (hold late : Bool) (k : Nat × Nat) (p : Word × Cluster) : Word × Cluster :=
  let q := if hold then holdCounted p else p
  if late then lateCounted k q else q

theorem outputNoted_rest (hold late : Bool) (k : Nat × Nat) (p : Word × Cluster) :
    ∃ b l, (outputNoted hold late k p).2 = { p.2 with held := b, lateSeen := l } := by
  obtain ⟨b, hb⟩ : ∃ b, (if hold then holdCounted p else p).2 = { p.2 with held := b } := by
    cases hold
    · exact ⟨p.2.held, rfl⟩
    · exact holdCounted_rest p
  cases late
  · exact ⟨b, p.2.lateSeen, hb⟩
  · obtain ⟨l, hl⟩ := lateCounted_rest k (if hold then holdCounted p else p)
    exact ⟨b, l, hl.trans (by rw [hb])⟩

theorem late_outputNoted (hold late : Bool) (k : Nat × Nat) (p : Word × Cluster) :
    F.DSP_CNT_late.get (outputNoted hold late k p).1 = if late && !p.2.lateSeen.contains k then
      min (F.DSP_CNT_late.get p.1 + 1) (2 ^ F.DSP_CNT_late.len - 1) else F.DSP_CNT_late.get p.1 := by
  have hq : F.DSP_CNT_late.get (if hold then holdCounted p else p).1 = F.DSP_CNT_late.get p.1 ∧
      (if hold then holdCounted p else p).2.lateSeen = p.2.lateSeen := by
    cases hold
    · exact ⟨rfl, rfl⟩
    · obtain ⟨b, hb⟩ := holdCounted_rest p
      exact ⟨late_holdCounted p, by rw [if_pos rfl, hb]⟩
  cases late
  · exact hq.1
  · exact (late_lateCounted k _).trans (by rw [hq.1, hq.2, Bool.true_and])

theorem held_outputNoted (hold late : Bool) (k : Nat × Nat) (p : Word × Cluster) :
    F.DSP_CNT_held.get (outputNoted hold late k p).1 = if hold && !p.2.held then
      min (F.DSP_CNT_held.get p.1 + 1) (2 ^ F.DSP_CNT_held.len - 1) else F.DSP_CNT_held.get p.1 := by
  have hq : F.DSP_CNT_held.get (outputNoted hold late k p).1 =
      F.DSP_CNT_held.get (if hold then holdCounted p else p).1 := by
    cases late
    · rfl
    · exact held_lateCounted k _
  rw [hq]
  cases hold
  · rfl
  · exact (held_holdCounted p).trans (by rw [Bool.true_and])

/-- The outputs that send with d have begun to send the bands f gives them at clock x, b being the band that waits longest. -/
def sendStarted (d : Fin 4) (b : Band) (f : Fin 4 → Band × Nat × Bool) (x : Nat) (late : Bool) (s : State) : State :=
  let u := if late then (senders s d).foldl (fun t _ => countPair d b.frame b.band t) (noteHold d s) else noteHold d s
  holdsOver d ((senders s d).foldl (fun t j => beginSend j (f j).1 x late t) u)

section
variable {d : Fin 4} {b : Band} {f : Fin 4 → Band × Nat × Bool} {x : Nat} {s : State} (hg : gangSlave s d = false)
  (hb : oldestSend s (sendGroup s d) = some b) (hr : ∀ j ∈ senders s d, sendReady s j = some (f j))
include hg hb hr

theorem exec_sendBand (ht : s.tilted = false) (ho : outputOn s d = true)
    (hx : x = (senders s d).foldl (fun n j => max n (f j).2.1) 0) :
    exec (.sendBand d) s = .next (reach x (sendStarted d b f x
      ((senders s d).any (fun j => decide ((sigmaOf s j (f j).1).getD x < x))) s)) := by
  have hjs : ((senders s d).map (fun j => some (f j))).filterMap id = (senders s d).map f := by
    simp [List.filterMap_map]
  have hz : List.zip (senders s d) ((senders s d).map f) = (senders s d).map (fun j => (j, f j)) := by
    simpa using List.zip_map' (f := id) (g := f) (l := senders s d)
  have hpair : ∀ u, ((senders s d).map f).foldl (fun t r => countPair d r.1.frame r.1.band t) u =
      (senders s d).foldl (fun t _ => countPair d b.frame b.band t) u := fun u => by
    rw [List.foldl_map]
    exact List.foldl_ext _ _ u fun t j hj => by rw [(sender_band hb hj (hr j hj)).1, (sender_band hb hj (hr j hj)).2]
  have hxs : ((senders s d).map f).foldl (fun n r => Nat.max n r.2.1) 0 = x := by rw [hx, List.foldl_map]
  show execSendBand d s = _
  unfold execSendBand
  rw [if_neg (by simp [hg, ht, ho, senders_ne_nil hb, map_sendReady hr])]
  simp only [map_sendReady hr, hjs, hxs, hz, hpair, List.foldl_map, List.any_map]
  rfl

theorem sendStarted_outputs (late : Bool) : SendFrame d s (sendStarted d b f x late s) ∧ ∀ i ∈ group s d,
    let q := outputNoted ((senders s d).any (fun j => (f j).2.2) && decide (i ∈ sendGroup s d)) late (b.frame, b.band)
      (outputAt s i)
    (outputAt (sendStarted d b f x late s) i).1 = q.1 ∧ (i ∈ senders s d →
      (outputAt (sendStarted d b f x late s) i).2 =
        { sendBegun (f i).1 ((f i).1.out0 s i) x late q.2 with held := false }) := by
  obtain ⟨h1, ho1⟩ := noteHold_outputs hr
  obtain ⟨h2, ho2⟩ : let u := if late then (senders s d).foldl (fun t _ => countPair d b.frame b.band t) (noteHold d s)
        else noteHold d s
      SendFrame d s u ∧ ∀ i, outputAt u i = if late = true ∧ i ∈ group s d
        then lateCounted (b.frame, b.band) (outputAt (noteHold d s) i) else outputAt (noteHold d s) i := by
    cases late
    · exact ⟨h1, fun i => by simp⟩
    · simpa using countPairs_outputs h1 hg b.frame b.band (senders_ne_nil hb)
  obtain ⟨h3, ho3⟩ := begins_outputs h2 (fun j => (f j).1) x late (senders_nodup hb)
  obtain ⟨h4, ho4⟩ := holdsOver_outputs h3
  refine ⟨h4, fun i hi => ?_⟩
  intro q
  have hq : q = if late = true ∧ i ∈ group s d
      then lateCounted (b.frame, b.band) (outputAt (noteHold d s) i) else outputAt (noteHold d s) i := by
    simp only [q, outputNoted, ho1, hi, and_true, Bool.and_eq_true, decide_eq_true_eq]
  have ht := (ho4 i).trans (if_pos hi)
  rw [ho3, ho2, ← hq] at ht
  refine ⟨(congrArg Prod.fst ht).trans ?_, fun hs => (congrArg Prod.snd ht).trans ?_⟩
  · split <;> rfl
  · rw [if_pos hs]

end

/-- What a begun send leaves of its output. -/
theorem sendBegun_outputNoted {hold late : Bool} {k : Nat × Nat} {a : Band} {first x : Nat} {p : Word × Cluster}
    {c : Cluster} (h : c = { sendBegun a first x late (outputNoted hold late k p).2 with held := false }) :
    c.sending = some ⟨a.frame, a.band, x, 0, ((slotOf p.2 a.frame a.band).map (·.lines)).getD [],
      regionFirst p.2 a first x, []⟩ ∧ c.toSend = p.2.toSend.drop 1 := by
  obtain ⟨b, l, hr⟩ := outputNoted_rest hold late k p
  rw [hr] at h
  subst h
  exact ⟨rfl, rfl⟩

/-! ## What SEND_END comes to -/

/-- The send under way on a cluster, the clock at which the last one ended, and what it was. -/
def Cluster.sends (c : Cluster) : Option Sending × Nat × Option (Nat × Nat × Nat) := (c.sending, c.sendEnd, c.lastSent)

/-- From s to t the time, memory and what the outputs send are as they were. -/
structure SendsKept (s t : State) : Prop where
  clock : t.clock = s.clock
  mem : t.mem = s.mem
  sends : ∀ j : Fin 4, t.clu[j].sends = s.clu[j].sends

theorem SendsKept.refl (s : State) : SendsKept s s := ⟨rfl, rfl, fun _ => rfl⟩

section
variable {s t : State} (h : SendsKept s t)
include h

theorem SendsKept.setReg (key : Nat) (v : Word) : SendsKept s (setReg t key v) := ⟨h.clock, h.mem, h.sends⟩

theorem SendsKept.pmcEvent (ev k n : Nat) : SendsKept s (pmcEvent ev k n t) := ⟨h.clock, h.mem, h.sends⟩

theorem SendsKept.setClu (j : Fin 4) {c : Cluster} (hc : c.sends = t.clu[j].sends := by rfl) :
    SendsKept s (setClu j c t) := by
  refine ⟨h.clock, h.mem, fun i => ?_⟩
  by_cases hi : i = j
  · rw [hi, setClu_same, hc, h.sends]
  · rw [setClu_ne hi, h.sends]

omit h in
theorem SendsKept.ite {c : Prop} [Decidable c] {u : State} (h1 : SendsKept s t) (h2 : SendsKept s u) :
    SendsKept s (if c then t else u) := by split <;> assumption

theorem SendsKept.fold {α : Type} {f : State → α → State} {xs : List α} (hf : ∀ u x, SendsKept s u → SendsKept s (f u x)) :
    SendsKept s (xs.foldl f t) :=
  List.foldlRecOn (motive := SendsKept s) xs f h fun u hu x _ => hf u x hu

theorem SendsKept.freeSlots (d : Fin 4) (x : Nat) : SendsKept s (freeSlots d x t) := by
  refine h.fold fun u i hu => ?_
  dsimp only
  split
  · exact .ite (hu.setClu d) hu
  · exact hu

theorem SendsKept.slotSent (d : Fin 4) (frame band x : Nat) : SendsKept s (slotSent d frame band x t) :=
  have hw : SendsKept s (noteWbWait d frame band t) := .ite (h.setReg _ _) h
  (hw.setClu d).freeSlots d 0

theorem SendsKept.countHeld (j : Fin 4) : SendsKept s (countHeld t j) :=
  .ite h ((((h.setClu j).pmcEvent _ _ _).setReg _ _).setReg _ _)

theorem SendsKept.noteHold (d : Fin 4) : SendsKept s (noteHold d t) :=
  .ite (h.fold fun _ j hu => hu.countHeld j) h

end

/-- The clock in which the last line of a send has passed (R144, R149). -/
def sendOver (s : State) (d : Fin 4) (z : Sending) : Nat := z.started + z.extra + z.lines.length * lineSend s d

/-- The cluster whose send z has ended. -/
def sendEnded (s : State) (d : Fin 4) (z : Sending) : Cluster :=
  { s.clu[d] with sending := none, sendEnd := sendOver s d z, lastSent := some (z.frame, z.band, z.region) }

theorem exec_sendEnd_other {d : Fin 4} {z : Sending} {band : Nat} {s : State} (hz : s.clu[d].sending = some z)
    (hn : band ≠ z.band) : exec (.sendEnd d band) s = .next s := by
  show execSendEnd d band s = _
  rw [execSendEnd, hz]
  exact if_pos hn.symm

theorem exec_sendEnd {d : Fin 4} {z : Sending} {s : State} (hz : s.clu[d].sending = some z) :
    ∃ t, exec (.sendEnd d z.band) s = .next t ∧ t.clu[d].sends = (sendEnded s d z).sends ∧
      t.clock = max s.clock (sendOver s d z) ∧ t.mem = s.mem := by
  have h := ((SendsKept.refl (setClu d (sendEnded s d z) s)).slotSent d z.frame z.band (sendOver s d z)).noteHold
    (leader (setClu d (sendEnded s d z) s) d)
  refine ⟨reach (sendOver s d z) _, ?_, (h.sends d).trans (by rw [setClu_same]), congrArg (max · _) h.clock, h.mem⟩
  show execSendEnd d z.band s = _
  rw [execSendEnd, hz]
  exact if_neg (not_not_intro rfl)

/-- Settles O37: the stages of a send count and begin output by output, and its end changes one cluster. -/
theorem sends : Obligations.Sends := by
  unfold Obligations.Sends
  refine ⟨fun d b f x s hg ht ho hb => ?_, fun d s hg => ?_, fun d z s hz => ⟨fun band hn => exec_sendEnd_other hz hn, ?_⟩⟩
  · intro ds hr hx late hold
    obtain ⟨hf, houts⟩ := sendStarted_outputs (x := x) hg hb hr late
    refine ⟨_, exec_sendBand hg hb hr ht ho hx, congrArg (max · x) hf.clock, hf.mem, fun j hj => ?_, fun j hj => ?_,
      fun j hj => ?_, hf.regs⟩
    · obtain ⟨-, hc⟩ := houts j (senders_sub_group hb hj)
      exact ⟨(sender_band hb hj (hr j hj)).1, (sender_band hb hj (hr j hj)).2, sendBegun_outputNoted (hc hj)⟩
    · obtain ⟨hc, -⟩ := houts j hj
      exact (congrArg F.DSP_CNT_late.get hc).trans (late_outputNoted _ _ _ _)
    · obtain ⟨hc, -⟩ := houts j (sendGroup_sub_group hj)
      rw [decide_eq_true hj, Bool.and_true] at hc
      exact (congrArg F.DSP_CNT_held.get hc).trans (held_outputNoted _ _ _ _)
  · exact if_pos (by simp [hg])
  · obtain ⟨t, he, hs, hclock, hmem⟩ := exec_sendEnd hz
    exact ⟨t, he, congrArg (·.1) hs, congrArg (·.2.1) hs, congrArg (·.2.2) hs, hclock, hmem⟩

end Sys2Proof.Machine
end

section
/-! THEOREM. A beam that starts on its screen's line, beside a write that the requester holds back. -/
namespace Sys2Proof.Machine

/-- A write of one byte to data address 64, which DRAM channel 0 holds. -/
def heldWrite : MemReq := ⟨64, some [1], false, 0, 0, 0⟩

/-- D0 in mode 2, its beam stopped, after a stop of start-up: two pixels and one active line, with the tilt screen's section at
address 0, which does not hold the magic, and DRAM that serves. Its writeback requester, 13, holds a write back while its
queue and its port are empty: no command leaves a requester so, for each one hands the oldest requests to the queue
(Requester.holding). -/
def writeHeldBack : State :=
  let s := { State.reset with
    mem := (List.range 5).map (·, 0)
    pwr := { Power.reset with inReset := false, doms := 0xFFFFFFFFFF, locked := 15 }
    cfg := { Boot.reset with screenOk := true, sections := [⟨2, 0, 64, 0, []⟩] } }
  let s := setF (dramTrained s) P.CFG_STAT F.CFG_STAT_stage 7
  let s := setF (setF s (P.DSP_CTRL 0) F.DSP_CTRL_mode 2) (P.DSP_PCLK 0) F.DSP_PCLK_khz 100000
  let s := setF (setF s (P.DSP_H0 0) F.DSP_H0_active 2) (P.DSP_V0 0) F.DSP_V0_active 1
  setRequester 13 { Requester.reset with backlog := [heldWrite] } s

/-- The memory that a command leaves. -/
def memOf : Out → Option (List Host.Cell)
  | .next t => some t.mem
  | _ => none

theorem writeHeldBack_starts : outputOn writeHeldBack 0 = true ∧ writeHeldBack.tilted = false ∧
    writeHeldBack.clu[(0 : Fin 4)].beam.running = false ∧ modeOf writeHeldBack 0 ≠ 0 ∧
    onF writeHeldBack (P.DSP_APPLY 0) F.DSP_APPLY_arm = false ∧ gangSlave writeHeldBack 0 = false := by
  decide +kernel

/-- The read of line 0 sends the held write into the queue before it, and the slot serves the older of the two. -/
theorem memOf_beamStart_writeHeldBack :
    memOf (exec (.beamStart 0) writeHeldBack) = some (writeHeldBack.mem ++ [(64, 1)]) := by decide +kernel

/-- Refutes O36, in its clause of a beam that starts: the statement says nothing of the output's requester, and where that
holds a write back with its port free, the read of the screen's line 0 (R470) enters the queue behind the write, so that the
slot which was to serve the read serves the write and memory changes. The statement wants a hypothesis that a requester with
a free port holds nothing back. -/
theorem not_beamLines : ¬ Obligations.BeamLines := by
  unfold Obligations.BeamLines
  intro h
  obtain ⟨hon, htilt, hstopped, hmode, harm, hgang⟩ := writeHeldBack_starts
  obtain ⟨-, -, hstarts⟩ := h.1 0 writeHeldBack hon htilt hstopped hmode harm
  obtain ⟨t, ht, -, -, -, -, -, -, -, -, hmem⟩ := hstarts hgang
  have hwritten := memOf_beamStart_writeHeldBack
  rw [ht] at hwritten
  exact List.cons_ne_nil _ _ (List.self_eq_append_right.mp (hmem.symm.trans (Option.some.inj hwritten)))

end Sys2Proof.Machine
end

section
/-! SUPPORT. Writes of DRAM while the arbiters are idle, and the accesses of recall: the table entry read and the dump
written. -/
namespace Sys2Proof.Machine

/-! ## Writes of DRAM while the arbiters are idle -/

/-- Bytes are written as their first n, and the rest after them. -/
theorem Memory.writeBytes_split (n : Nat) : ∀ (m : List Host.Cell) (key : Nat) (bs : List Byte),
    Memory.writeBytes (Memory.writeBytes m key (bs.take n)) (key + n) (bs.drop n) = Memory.writeBytes m key bs := by
  induction n with
  | zero => intros; rfl
  | succ n ih =>
    intro m key bs
    cases bs with
    | nil => rfl
    | cons b bs =>
      rw [List.take_succ_cons, List.drop_succ_cons, ← Nat.add_assoc, Nat.add_right_comm]
      exact ih (Memory.write m key b) (key + 1) bs

/-- Requester id has written to DRAM: memory is m, and the arbiters are idle again. -/
structure Written (id : Nat) (m : List Host.Cell) (s t : State) : Prop where
  only : ArbOnly s t (dramKeys id)
  mem : t.mem = m
  idle : ArbiterIdle t

theorem dramWriteFrom_idle {id : Nat} (hid : id ≤ 16) (fuel a : Nat) (bs : List Byte) {s : State}
    (hb : bs.length < fuel) (h : ArbiterIdle s) :
    ∃ t, dramWriteFrom id fuel a bs s = .ok t ∧ Written id (Memory.writeBytes s.mem a bs) s t := by
  induction fuel generalizing a bs s with
  | zero => omega
  | succ fuel ih =>
    cases bs with
    | nil => exact ⟨s, rfl, .refl s _, rfl, h⟩
    | cons b bs =>
      have hn : 0 < 64 - a % 64 := by omega
      generalize hx : b :: bs = xs at hb
      have hxs : xs.isEmpty = false := by rw [← hx]; rfl
      obtain ⟨u, hu, ha⟩ := dramAccess_idle h hid a (some (xs.take (64 - a % 64)))
      obtain ⟨t, ht, hw⟩ := ih (a + (64 - a % 64)) (xs.drop (64 - a % 64))
        (by rw [List.length_drop]; rw [← hx] at hb ⊢; rw [List.length_cons] at hb ⊢; omega) ha.idle
      refine ⟨t, ?_, ha.only.trans hw.only, ?_, hw.idle⟩
      · simp only [dramWriteFrom, hxs, Bool.false_eq_true, if_false, hu]
        exact ht
      · rw [hw.mem, ha.mem, memAfter, Memory.writeBytes_split]

theorem dramWrite_idle {id : Nat} (hid : id ≤ 16) (a : Nat) (bs : List Byte) {s : State} (h : ArbiterIdle s) :
    ∃ t, dramWrite id a bs s = .ok t ∧ Written id (Memory.writeBytes s.mem a bs) s t :=
  dramWriteFrom_idle hid _ a bs (Nat.lt_succ_self _) h

/-! ## The registers of recall -/

/-- How far a frame follows the first of the expected table (R177). -/
def recallIndex (s : State) (d : Fin 4) (frame : Nat) : Nat := frameSub frame (getReg s (P.DIG_EXP_FIRST d)).toNat

/-- Recall compares the frame: DIG_CTRL.recall is 1 and the table has an entry for it (R177). -/
def recallCompares (s : State) (d : Fin 4) (frame : Nat) : Bool :=
  onF s (P.DIG_CTRL d) F.DIG_CTRL_recall &&
    decide (recallIndex s d frame < getF s (P.DIG_EXP_COUNT d) F.DIG_EXP_COUNT_count)

theorem recallPlace_compares {d : Fin 4} {frame : Nat} {s : State} (h : recallCompares s d frame = true) :
    recallPlace s d frame = some (recallIndex s d frame) := if_pos h

theorem recallPlace_skips {d : Fin 4} {frame : Nat} {s : State} (h : recallCompares s d frame = false) :
    recallPlace s d frame = none := if_neg (Bool.eq_false_iff.1 h)

/-- The registers of cluster d that say which frames recall compares, and with what (R177). -/
def recallKeys (d : Fin 4) : List Nat :=
  [P.DIG_CTRL d, P.DIG_EXP_BASE d, P.DIG_EXP_FIRST d, P.DIG_EXP_COUNT d, P.DIG_DUMP_BASE d]

/-- The registers that may change as a frame enters the digest queue. -/
def exportKeys (d : Fin 4) : List Nat :=
  [P.DIG_LAST d, P.DIG_STAT d, P.DIG_RESULT d, P.DIG_MISS_FRAME d] ++ dramKeys (13 + d.val)

theorem not_exportKeys_of_recallKeys : ∀ d : Fin 4, ∀ key ∈ recallKeys d, key ∉ exportKeys d := by decide

/-- The registers of recall are as they were. -/
def RecallKept (d : Fin 4) (s t : State) : Prop := ∀ key ∈ recallKeys d, getReg t key = getReg s key

theorem RegsBut.recallKept {d : Fin 4} {s t : State} {keys : List Nat} (h : RegsBut s t keys)
    (hk : ∀ key ∈ keys, key ∈ exportKeys d) : RecallKept d s t :=
  fun key hr => h key fun hm => not_exportKeys_of_recallKeys d key hr (hk key hm)

section
variable {d : Fin 4} {s t : State} (h : RecallKept d s t)
include h

theorem RecallKept.recallOn : onF t (P.DIG_CTRL d) F.DIG_CTRL_recall = onF s (P.DIG_CTRL d) F.DIG_CTRL_recall := by
  rw [onF, onF, h _ (by simp [recallKeys])]

theorem RecallKept.dumpOn : onF t (P.DIG_CTRL d) F.DIG_CTRL_dump = onF s (P.DIG_CTRL d) F.DIG_CTRL_dump := by
  rw [onF, onF, h _ (by simp [recallKeys])]

theorem RecallKept.expAddr (n : Nat) : expAddr t d n = expAddr s d n := by
  rw [Machine.expAddr, Machine.expAddr, getF, getF, h _ (by simp [recallKeys])]

theorem RecallKept.dumpAddr (n : Nat) : dumpAddr t d n = dumpAddr s d n := by
  rw [Machine.dumpAddr, Machine.dumpAddr, getF, getF, h _ (by simp [recallKeys])]

theorem RecallKept.recallIndex (frame : Nat) : recallIndex t d frame = recallIndex s d frame := by
  rw [Machine.recallIndex, Machine.recallIndex, h _ (by simp [recallKeys])]

theorem RecallKept.recallCompares (frame : Nat) : recallCompares t d frame = recallCompares s d frame := by
  rw [Machine.recallCompares, Machine.recallCompares, h.recallOn, h.recallIndex, getF, getF, h _ (by simp [recallKeys])]

end

/-! ## The accesses of recall (R40, R177) -/

/-- Memory with band digests in the dump of the frame n after the first. -/
def dumped (s : State) (d : Fin 4) (n : Nat) (es : List (Nat × List Byte)) (m : List Host.Cell) : List Host.Cell :=
  es.foldl (fun m e => Memory.writeBytes m (dumpAddr s d n + 32 * e.1) e.2) m

theorem dumpDigests_idle (d : Fin 4) (n : Nat) (es : List (Nat × List Byte)) {s : State} (h : ArbiterIdle s) :
    ∃ t, dumpDigests d n es s = .ok t ∧ Written (13 + d.val) (dumped s d n es s.mem) s t := by
  induction es generalizing s with
  | nil => exact ⟨s, rfl, .refl s _, rfl, h⟩
  | cons e es ih =>
    obtain ⟨u, hu, hw⟩ := dramWrite_idle (id := 13 + d.val) (by omega) (dumpAddr s d n + 32 * e.1) e.2 h
    obtain ⟨t, ht, hv⟩ := ih hw.idle
    have hk : RecallKept d s u := RegsBut.recallKept hw.only.regs fun _ hm => List.mem_append_right _ hm
    refine ⟨t, ?_, hw.only.trans hv.only, ?_, hv.idle⟩
    · rw [dumpDigests, hu]
      exact ht
    · simp only [hv.mem, hw.mem, dumped, hk.dumpAddr, List.foldl_cons]

/-- The accesses of recall come about at once: nothing but the dump changes in memory. -/
theorem recallAccess_idle {d : Fin 4} {w : FrameWork} {s : State}
    (hi : recallCompares s d w.frame = true → ArbiterIdle s) :
    ∃ u, recallAccess d w s = .ok u ∧ ArbOnly s u (dramKeys (13 + d.val)) ∧
      u.mem = if recallCompares s d w.frame && onF s (P.DIG_CTRL d) F.DIG_CTRL_dump
        then dumped s d (recallIndex s d w.frame) w.digests s.mem else s.mem := by
  cases hc : recallCompares s d w.frame with
  | false => exact ⟨s, by rw [recallAccess, recallPlace_skips hc], .refl s _, rfl⟩
  | true =>
    generalize hn : recallIndex s d w.frame = n
    obtain ⟨u, hu, hf⟩ := dramRead_idle (id := 13 + d.val) (by omega) (expAddr s d n) 32 (hi hc)
    have hk : RecallKept d s u := RegsBut.recallKept hf.only.regs fun _ hm => List.mem_append_right _ hm
    have ha : recallAccess d w s = if onF s (P.DIG_CTRL d) F.DIG_CTRL_dump then dumpFrame d w n u else .ok u := by
      rw [recallAccess, recallPlace_compares hc, hn, ← hk.dumpOn]
      simp only [hu]
      rfl
    rw [ha]
    cases onF s (P.DIG_CTRL d) F.DIG_CTRL_dump with
    | false => exact ⟨u, rfl, hf.only, hf.mem⟩
    | true =>
      obtain ⟨t, ht, hw⟩ := dumpDigests_idle d n w.digests hf.idle
      refine ⟨t, ht, hf.only.trans hw.only, hw.mem.trans ?_⟩
      simp only [dumped, hk.dumpAddr, hf.mem, Bool.and_self, if_true]

end Sys2Proof.Machine
end
section
/-! SUPPORT. What a tilt leaves of the digest units' registers. -/
namespace Sys2Proof.Machine

/-- A register of a digest unit (R179). -/
def digestKey (key : Nat) : Prop := 0x1E0000 ≤ key ∧ key < 0x200000

theorem timingPort_not_digest : ∀ d : Fin 4, ∀ i : Fin 5, ¬digestKey (timingPort d i) := by
  unfold digestKey; decide

/-- From s to t the registers of the digest units are as they were. -/
structure DigestKept (s t : State) : Prop where
  regs : ∀ key, digestKey key → getReg t key = getReg s key

theorem DigestKept.refl (s : State) : DigestKept s s := ⟨fun _ _ => rfl⟩

section
variable {s t : State} (h : DigestKept s t)
include h

theorem DigestKept.trans {u : State} (h2 : DigestKept t u) : DigestKept s u :=
  ⟨fun key hk => (h2.regs key hk).trans (h.regs key hk)⟩

/-- A change of no register. -/
theorem DigestKept.same {u : State} (hr : u.regs = t.regs) : DigestKept s u :=
  h.trans ⟨fun key _ => getReg_congr hr key⟩

/-- A write of a register of another block. -/
theorem DigestKept.setReg {key : Nat} (v : Word) (hk : ¬digestKey key := by
      simp only [digestKey, own, P.KTL_CTRL, P.SYS_TILT_LAST, P.SYS_TILT_TIME_LO, P.SYS_TILT_TIME_HI, P.SYS_TILT,
        P.SYS_TILT_CNT, P.EPH_CTRL, P.EPH_STAT, P.SEC_DRBG_PSTAT, P.SEC_DRBG_OUT, P.LDG_STAT, P.LDG_MEV_STAT,
        P.LDG_BOOTCNT, P.CFG_STOP, P.CFG_STAT, P.DSP_CTRL, P.DSP_STAT, P.DSP_TRAIN, P.DSP_LINK, P.CMP_CTRL]
      omega) : DigestKept s (setReg t key v) :=
  h.trans ⟨fun _ hj => getReg_setReg_ne t v fun e => hk (e ▸ hj)⟩

omit h in
theorem DigestKept.ite {c : Prop} [Decidable c] {u : State} (h1 : DigestKept s t) (h2 : DigestKept s u) :
    DigestKept s (if c then t else u) := by split <;> assumption

theorem DigestKept.fold {α : Type} {f : State → α → State} {xs : List α}
    (hf : ∀ u x, DigestKept s u → DigestKept s (f u x)) : DigestKept s (xs.foldl f t) :=
  List.foldlRecOn (motive := DigestKept s) xs f h fun u hu x _ => hf u x hu

theorem DigestKept.setClu (d : Fin 4) (c : Cluster) : DigestKept s (setClu d c t) := h.same rfl

theorem DigestKept.setLdg (l : Ledger) : DigestKept s (setLdg l t) := h.same rfl

theorem DigestKept.withPwr (p : Power) : DigestKept s { t with pwr := p } := h.same rfl

theorem DigestKept.withKtl (k : Kettle) : DigestKept s { t with ktl := k } := h.same rfl

theorem DigestKept.withSec (x : Trust) : DigestKept s { t with sec := x } := h.same rfl

theorem DigestKept.withTilt (x : Tilt) : DigestKept s { t with tilt := x } := h.same rfl

/-! ## The units on tilt (R469) -/

theorem DigestKept.kettleTilt : DigestKept s (kettleTilt t) := .ite ((h.setReg (key := P.KTL_CTRL) _).withKtl _) h

theorem DigestKept.haltCluster (d : Fin 4) : DigestKept s (haltCluster d t) := ((h.setReg _).setReg _).setClu d _

theorem DigestKept.discardUnread (k : Fin 8) : DigestKept s (discardUnread k t) := by
  unfold Machine.discardUnread
  exact (((h.setReg _).fold fun _ i hu => hu.setReg _).setReg _).withSec _

theorem DigestKept.mevEnd (k result : Nat) : DigestKept s (mevEnd k result t) := ((h.setReg _).setReg _).setReg _

theorem DigestKept.logEvent (e : LogEvent) : DigestKept s (logEvent e t) := .ite ((h.setLdg _).setLdg _) h

theorem DigestKept.endQueued (result : Nat) : DigestKept s (endQueued result t) :=
  (((h.fold fun _ e hu => hu.mevEnd e.1 result).setLdg _).setLdg _ |>.setLdg _).fold fun _ x hu => hu.logEvent x.2

theorem DigestKept.freezeMeters : DigestKept s (freezeMeters t) := by
  unfold Machine.freezeMeters
  dsimp only
  split
  · exact ((DigestKept.ite ((h.setLdg _).mevEnd _ 3) h).endQueued 3).setReg _
  · exact (h.endQueued 3).setReg _

theorem DigestKept.ledgerTilt (code : Nat) : DigestKept s (ledgerTilt code t) :=
  .ite h.freezeMeters (h.freezeMeters.logEvent _)

/-! ## The stop of start-up (R357, R359) -/

theorem DigestKept.modeWrite (d : Fin 4) (mode : Nat) : DigestKept s (modeWrite d mode t) := by
  refine ⟨fun key hk => (((ModeSet.refl d t).modeWrite mode).regs key ?_).trans (h.regs key hk)⟩
  simp only [List.mem_cons, List.not_mem_nil, or_false, P.DSP_CTRL, P.DSP_STAT, P.MEM_LTR_D]
  unfold digestKey at hk
  omega

theorem DigestKept.timingWrite (d : Fin 4) (i : Fin 5) (v : Word) : DigestKept s (timingWrite d i v t) :=
  .ite ((h.setClu d _).setReg v (timingPort_not_digest d i)) (h.setClu d _)

theorem DigestKept.startTraining (d : Fin 4) : DigestKept s (startTraining d t) :=
  .ite (h.setReg _) (((((h.setReg _).setClu d _).withPwr _).setReg _).setReg _)

theorem DigestKept.loadD0 (ws : List Nat) (edp : Bool) : DigestKept s (loadD0 ws edp t) :=
  (((h.fold fun _ i hu => hu.timingWrite 0 i _).setReg _).setReg _).setReg _

theorem DigestKept.stopShows : DigestKept s (stopShows t) := by
  unfold Machine.stopShows
  extract_lets s1
  have h1 : DigestKept s s1 := .ite (h.loadD0 _ _) ((h.loadD0 _ _).setReg _)
  exact .ite (h1.modeWrite 0 2) (.ite h1 (h1.startTraining 0))

theorem DigestKept.countBoot : DigestKept s (countBoot t) := .ite (((h.setLdg _).setLdg _).setReg _) h

theorem DigestKept.bootStop (code sect : Nat) : DigestKept s (bootStop code sect t) := by
  unfold Machine.bootStop
  extract_lets s1 s2 s3 r
  have h1 : DigestKept s s1 := (h.stopShows.setReg _).setReg _
  have h3 : DigestKept s s3 := (DigestKept.ite h1.countBoot h1).logEvent _
  exact .ite (.ite (h3.setLdg _) (h3.setLdg _)) h3

theorem DigestKept.unitsSeeTilt (code : Nat) : DigestKept s (unitsSeeTilt code t) := by
  have h0 := h.kettleTilt.fold (xs := List.finRange 4) fun _ d hu => hu.haltCluster d
  have h2 := (h0.fold (xs := List.finRange 8) fun _ k hu => hu.discardUnread k).ledgerTilt code
  exact .ite (h2.bootStop 16 0) h2

theorem DigestKept.latchLoaded (code : Nat) : DigestKept s (latchLoaded code t) :=
  (((h.setReg _).setReg _).setReg _).setReg _

end

/-- Whatever becomes of a tilt request, it keeps the registers of the digest units. -/
theorem raiseTilt_digestKept (code : Nat) (s : State) : DigestKept s (raiseTilt code s) := by
  unfold raiseTilt
  split
  · exact DigestKept.refl s
  split
  · exact (DigestKept.refl s).setReg _
  · rw [captureTilt_eq]
    exact (((DigestKept.refl s).latchLoaded code).withTilt _).unitsSeeTilt code

end Sys2Proof.Machine
end
section
/-! SUPPORT. Composed slots that free, and the digests of a band and of a frame. -/
namespace Sys2Proof.Machine

/-! ## Slots that free (R139) -/

/-- Nothing but the composed slots of cluster d, and the clocks at which they freed, differs. -/
structure SlotsOnly (d : Fin 4) (s t : State) : Prop where
  rest : t = { s with clu := t.clu }
  cluster : t.clu[d] = { s.clu[d] with slots := t.clu[d].slots, slotFree := t.clu[d].slotFree }

theorem SlotsOnly.refl (d : Fin 4) (s : State) : SlotsOnly d s s := ⟨rfl, rfl⟩

theorem SlotsOnly.trans {d : Fin 4} {s t u : State} (h : SlotsOnly d s t) (h2 : SlotsOnly d t u) : SlotsOnly d s u := by
  refine ⟨?_, ?_⟩
  · rw [h2.rest, h.rest]
  · rw [h2.cluster, h.cluster]

/-- Slot i of cluster d frees if the output, the digest lane and the writeback have done with it (R139). -/
def freeSlot (d : Fin 4) (x : Nat) (s : State) (i : Fin 2) : State :=
  match s.clu[d].slots[i] with
  | some z =>
    if z.sent && z.hashed && !wbHolds s d z then
      setClu d { s.clu[d] with
        slots := s.clu[d].slots.set i none
        slotFree := s.clu[d].slotFree.set i (Nat.max z.freeAt x) } s
    else s
  | none => s

/-- What stands in a slot of cluster d once the slots have freed that may. -/
def slotLeft (s : State) (d : Fin 4) (o : Option Slot) : Option Slot :=
  o.filter (fun z => !(z.sent && z.hashed && !wbHolds s d z))

theorem freeSlots_eq (d : Fin 4) (x : Nat) (s : State) : freeSlots d x s = freeSlot d x (freeSlot d x s 0) 1 := rfl

theorem wbHolds_congr {d : Fin 4} {s t : State} (h : t.mc = s.mc) (z : Slot) : wbHolds t d z = wbHolds s d z := by
  rw [wbHolds, wbHolds, requester, requester, h]

theorem slotLeft_congr {d : Fin 4} {s t : State} (h : t.mc = s.mc) (o : Option Slot) :
    slotLeft t d o = slotLeft s d o := by
  simp only [slotLeft, wbHolds_congr h]

/-- Cluster d with slot i emptied at clock x. -/
def slotFreed (s : State) (d : Fin 4) (i : Fin 2) (x : Nat) : Cluster :=
  { s.clu[d] with slots := s.clu[d].slots.set i none, slotFree := s.clu[d].slotFree.set i x }

/-- A slot stays, or it alone is emptied. -/
theorem freeSlot_cases (d : Fin 4) (x : Nat) (s : State) (i : Fin 2) :
    (freeSlot d x s i = s ∧ slotLeft s d s.clu[d].slots[i] = s.clu[d].slots[i]) ∨
    (∃ y, freeSlot d x s i = setClu d (slotFreed s d i y) s ∧ slotLeft s d s.clu[d].slots[i] = none) := by
  cases hz : s.clu[d].slots[i] with
  | none => exact .inl ⟨by rw [freeSlot, hz], rfl⟩
  | some z =>
    rw [slotLeft, Option.filter_some, freeSlot, hz]
    cases hd : z.sent && z.hashed && !wbHolds s d z with
    | false => exact .inl ⟨if_neg (Bool.eq_false_iff.1 hd), rfl⟩
    | true => exact .inr ⟨_, if_pos hd, rfl⟩

theorem freeSlot_slotsOnly (d : Fin 4) (x : Nat) (s : State) (i : Fin 2) : SlotsOnly d s (freeSlot d x s i) := by
  obtain ⟨he, -⟩ | ⟨y, he, -⟩ := freeSlot_cases d x s i
  · rw [he]; exact .refl d s
  · rw [he]; exact ⟨rfl, by rw [setClu_same]; rfl⟩

theorem freeSlot_same (d : Fin 4) (x : Nat) (s : State) (i : Fin 2) :
    (freeSlot d x s i).clu[d].slots[i] = slotLeft s d s.clu[d].slots[i] := by
  obtain ⟨he, hl⟩ | ⟨y, he, hl⟩ := freeSlot_cases d x s i
  · rw [he, hl]
  · rw [he, hl, setClu_same]
    exact Vector.getElem_set_self i.isLt

theorem freeSlot_ne (d : Fin 4) (x : Nat) (s : State) {i j : Fin 2} (h : j ≠ i) :
    (freeSlot d x s i).clu[d].slots[j] = s.clu[d].slots[j] := by
  obtain ⟨he, -⟩ | ⟨y, he, -⟩ := freeSlot_cases d x s i
  · rw [he]
  · rw [he, setClu_same]
    exact Vector.getElem_set_ne i.isLt j.isLt fun e => h (Fin.ext e.symm)

theorem freeSlots_slotsOnly (d : Fin 4) (x : Nat) (s : State) : SlotsOnly d s (freeSlots d x s) :=
  (freeSlot_slotsOnly d x s 0).trans (freeSlot_slotsOnly d x _ 1)

theorem freeSlots_slot (d : Fin 4) (x : Nat) (s : State) (i : Fin 2) :
    (freeSlots d x s).clu[d].slots[i] = slotLeft s d s.clu[d].slots[i] := by
  rw [freeSlots_eq]
  by_cases hi : i = 1
  · subst hi
    rw [freeSlot_same, freeSlot_ne d x s (by decide)]
    exact slotLeft_congr (congrArg State.mc (freeSlot_slotsOnly d x s 0).rest) _
  · obtain rfl : i = 0 := by omega
    rw [freeSlot_ne d x _ hi, freeSlot_same]

/-! ## Band digests (R34, R167, R170) -/

/-- A lane has finished the band in slot i: the digest in the carry table and with the frames that wait to carry it. -/
def laneEnded (s : State) (d : Fin 4) (i : Fin 2) (z : Slot) (x : Nat) : Cluster :=
  { s.clu[d] with
    carry := Tab.insert s.clu[d].carry z.band (slotDigest z)
    slots := s.clu[d].slots.set i (some { z with hashed := true, freeAt := Nat.max z.freeAt x })
    frames := s.clu[d].frames.map (carryFrom z.band z.frame (slotDigest z)) }

/-- The state once the band's own frame holds the digest too. -/
def bandHashed (s : State) (d : Fin 4) (i : Fin 2) (z : Slot) (x : Nat) : State :=
  addDigest d z.frame z.band (slotDigest z) false (setClu d (laneEnded s d i z x) s)

theorem exec_bandDigest {d : Fin 4} {i : Fin 2} {after : Nat} {z : Slot} {s : State} (hz : s.clu[d].slots[i] = some z)
    (hh : z.hashed = false) (ht : s.tilted = false) (hc : compRuns s d = true) (hl : laneMayEnd z after = true) :
    exec (.bandDigest d i after) s =
      .next (reach (z.ended + after) (freeSlots d 0 (bandHashed s d i z (z.ended + after)))) := by
  show execBandDigest d i after s = _
  rw [execBandDigest, hz]
  exact if_neg (by simp [hh, ht, hc, hl])

/-- The frames under way once a lane has finished a band. -/
def framesHashed (z : Slot) (ws : List FrameWork) : List FrameWork :=
  (ws.map (carryFrom z.band z.frame (slotDigest z))).map fun w => if w.frame = z.frame then
    { w with digests := Tab.insert w.digests z.band (slotDigest z), carried := w.carried + b2n false } else w

theorem bandHashed_cluster (s : State) (d : Fin 4) (i : Fin 2) (z : Slot) (x : Nat) :
    (bandHashed s d i z x).clu[d] = { laneEnded s d i z x with frames := framesHashed z s.clu[d].frames } := by
  rw [bandHashed, addDigest, onFrame, setClu_same, setClu_same]
  rfl

theorem carryFrom_frame (band f : Nat) (h : List Byte) (w : FrameWork) : (carryFrom band f h w).frame = w.frame := by
  unfold carryFrom; split <;> rfl

/-- The band's own frame holds the digest. -/
theorem framesHashed_own {z : Slot} {ws : List FrameWork} {w : FrameWork} (hw : w ∈ framesHashed z ws)
    (hf : w.frame = z.frame) : Tab.find w.digests z.band = some (slotDigest z) := by
  obtain ⟨v, -, rfl⟩ := List.mem_map.1 hw
  by_cases hv : v.frame = z.frame
  · rw [if_pos hv]; exact Tab.find_insert_same _ _ _
  · rw [if_neg hv] at hf; exact absurd hf hv

/-- Another frame takes the digest up if it waits to carry it, and is as it was otherwise. -/
theorem framesHashed_other {z : Slot} {ws : List FrameWork} {w : FrameWork} (hw : w ∈ ws) (hf : w.frame ≠ z.frame) :
    carryFrom z.band z.frame (slotDigest z) w ∈ framesHashed z ws :=
  List.mem_map.2 ⟨_, List.mem_map_of_mem hw, if_neg (by rwa [carryFrom_frame])⟩

theorem bandHashed_slot (s : State) (d : Fin 4) (i : Fin 2) (z : Slot) (x : Nat) :
    (bandHashed s d i z x).clu[d].slots[i] = some { z with hashed := true, freeAt := Nat.max z.freeAt x } := by
  rw [bandHashed_cluster]
  exact Vector.getElem_set_self i.isLt

/-- What stands in the slot once the lane has done with it: the band, while its send or its writeback goes on. -/
theorem slotLeft_bandHashed (s : State) (d : Fin 4) (i : Fin 2) (z : Slot) (x : Nat) :
    (freeSlots d 0 (bandHashed s d i z x)).clu[d].slots[i] =
      if z.sent && !wbHolds s d z then none else some { z with hashed := true, freeAt := Nat.max z.freeAt x } := by
  have hw : wbHolds (bandHashed s d i z x) d { z with hashed := true, freeAt := Nat.max z.freeAt x } =
      wbHolds s d z := rfl
  rw [freeSlots_slot, bandHashed_slot, slotLeft, Option.filter_some, hw, Bool.and_true]
  cases z.sent && !wbHolds s d z <;> rfl

/-! ## Frame digests (R169) -/

theorem exec_frameDigest {d : Fin 4} {w : FrameWork} {s : State}
    (hw : s.clu[d].frames.find? (fun w => w.full && w.digest.isNone) = some w) (ht : s.tilted = false)
    (hc : compRuns s d = true) : exec (.frameDigest d) s =
      .next (reach (s.clock + 16 * shaBlockCount (32 * w.count))
        (onFrame d w.frame (fun v => { v with digest := some w.hash }) s)) := by
  show execFrameDigest d s = _
  rw [execFrameDigest, hw]
  exact if_neg (by simp [ht, hc])

theorem onFrame_frames (d : Fin 4) (frame : Nat) (f : FrameWork → FrameWork) (s : State) :
    (onFrame d frame f s).clu[d].frames = s.clu[d].frames.map fun w => if w.frame = frame then f w else w :=
  congrArg Cluster.frames (setClu_same d _ s)

end Sys2Proof.Machine
end

section
/-! SUPPORT. A frame that enters the digest queue, and its digest compared with the expected table. -/
namespace Sys2Proof.Machine

/-! ## A comparison noted (R177) -/

/-- A cluster with the mark of a first mismatch. -/
def Cluster.withMissed (c : Cluster) (b : Bool) : Cluster := { c with missed := b }

/-- From s to t a comparison of cluster d may have been noted: in DIG_STAT, but for the depth of the queue, in DIG_RESULT,
in DIG_MISS_FRAME, and in whether a first mismatch stands. -/
structure MatchNoted (d : Fin 4) (s t : State) : Prop where
  rest : t = { s with regs := t.regs, clu := t.clu }
  clu : t.clu = (setClu d (s.clu[d].withMissed t.clu[d].missed) s).clu
  regs : RegsBut s t [P.DIG_STAT d, P.DIG_RESULT d, P.DIG_MISS_FRAME d]
  depth : getF t (P.DIG_STAT d) F.DIG_STAT_depth = getF s (P.DIG_STAT d) F.DIG_STAT_depth

theorem MatchNoted.refl (d : Fin 4) (s : State) : MatchNoted d s s :=
  ⟨rfl, congrArg State.clu (setClu_self d s).symm, RegsBut.refl s _, rfl⟩

section
variable {d : Fin 4} {s t : State} (h : MatchNoted d s t)
include h

theorem MatchNoted.cluster : t.clu[d] = s.clu[d].withMissed t.clu[d].missed :=
  (congrArg (fun v : Vector Cluster 4 => v[d]) h.clu).trans (setClu_same d _ s)

/-- A register written that is not DIG_STAT. -/
theorem MatchNoted.setReg {key : Nat} (v : Word) (hk : key ∈ [P.DIG_RESULT d, P.DIG_MISS_FRAME d] := by simp) :
    MatchNoted d s (setReg t key v) := by
  have hne : P.DIG_STAT d ≠ key := by
    simp only [List.mem_cons, List.not_mem_nil, or_false, P.DIG_RESULT, P.DIG_MISS_FRAME] at hk
    unfold P.DIG_STAT
    omega
  exact ⟨congrArg (fun u : State => { u with regs := (Machine.setReg t key v).regs }) h.rest, h.clu,
    RegsBut.trans h.regs (RegsBut.setReg t v (List.mem_cons_of_mem _ hk)), (getF_setReg_ne t v _ hne).trans h.depth⟩

/-- A field of DIG_STAT written beside the depth. -/
theorem MatchNoted.setStat {f : Fld} (n : Nat) (hf : f.leaves F.DIG_STAT_depth = true := by rfl) :
    MatchNoted d s (setF t (P.DIG_STAT d) f n) :=
  ⟨congrArg (fun u : State => { u with regs := (setF t (P.DIG_STAT d) f n).regs }) h.rest, h.clu,
    RegsBut.trans h.regs (RegsBut.setF t f n List.mem_cons_self), (getF_setF_other t _ _ _ n hf).trans h.depth⟩

/-- A first mismatch marked. -/
theorem MatchNoted.setMissed : MatchNoted d s (setClu d (t.clu[d].withMissed true) t) := by
  have hc : t.clu[d].withMissed true = s.clu[d].withMissed true := by rw [h.cluster]; rfl
  refine ⟨congrArg (fun u : State => setClu d (t.clu[d].withMissed true) u) h.rest, ?_, h.regs, h.depth⟩
  rw [setClu_same, hc]
  exact (congrArg (fun v : Vector Cluster 4 => v.set d (s.clu[d].withMissed true)) h.clu).trans
    (Vector.set_set _ d.isLt)

omit h in
theorem MatchNoted.ite {c : Prop} [Decidable c] {u : State} (h1 : MatchNoted d s t) (h2 : MatchNoted d s u) :
    MatchNoted d s (if c then t else u) := by split <;> assumption

theorem MatchNoted.byte (key : Nat) : t.byte key = s.byte key := by
  refine (byte_congr ?_ ?_ h.clu ?_ key).trans (byte_setClu (c := s.clu[d].withMissed t.clu[d].missed) rfl key)
  all_goals rw [h.rest]; rfl

theorem MatchNoted.readBytes (key n : Nat) : t.readBytes key n = s.readBytes key n := by
  induction n generalizing key with
  | zero => rfl
  | succ n ih => exact congrArg₂ List.cons (h.byte key) (ih (key + 1))

end

/-! ## The comparison -/

/-- A comparison counted. -/
def compareCounted (d : Fin 4) (s : State) : State := addF s (P.DIG_RESULT d) F.DIG_RESULT_compared 1

/-- A mismatch counted and flagged. -/
def missCounted (d : Fin 4) (s : State) : State :=
  setF (addF (compareCounted d s) (P.DIG_RESULT d) F.DIG_RESULT_mismatches 1) (P.DIG_STAT d) F.DIG_STAT_mismatch 1

/-- The first mismatch, of a frame. -/
def firstMissed (d : Fin 4) (frame : Nat) (s : State) : State :=
  setReg (setClu d (s.clu[d].withMissed true) s) (P.DIG_MISS_FRAME d) (BitVec.ofNat 32 frame)

theorem noteCompare_differs (d : Fin 4) (frame : Nat) (s : State) : noteCompare d frame false s =
    if s.clu[d].missed then missCounted d s else firstMissed d frame (missCounted d s) := rfl

theorem digStat_ne (d : Fin 4) : P.DIG_STAT d ≠ P.DIG_RESULT d ∧ P.DIG_STAT d ≠ P.DIG_MISS_FRAME d ∧
    P.DIG_STAT d ≠ P.DIG_LAST d := by
  unfold P.DIG_STAT P.DIG_RESULT P.DIG_MISS_FRAME P.DIG_LAST
  omega

theorem digLast_not_noted (d : Fin 4) : P.DIG_LAST d ∉ [P.DIG_STAT d, P.DIG_RESULT d, P.DIG_MISS_FRAME d] := by
  simp [P.DIG_LAST, P.DIG_STAT, P.DIG_RESULT, P.DIG_MISS_FRAME]

theorem digResult_not_queued (d : Fin 4) : P.DIG_RESULT d ∉ [P.DIG_LAST d, P.DIG_STAT d] := by
  simp [P.DIG_LAST, P.DIG_STAT, P.DIG_RESULT]

theorem digResult_ne_miss (d : Fin 4) : P.DIG_RESULT d ≠ P.DIG_MISS_FRAME d := by
  unfold P.DIG_RESULT P.DIG_MISS_FRAME; omega

theorem noteCompare_noted (d : Fin 4) (frame : Nat) (same : Bool) (s : State) :
    MatchNoted d s (noteCompare d frame same s) := by
  have hc : MatchNoted d s (compareCounted d s) := (MatchNoted.refl d s).setReg _
  have hm : MatchNoted d s (missCounted d s) := (hc.setReg _).setStat 1
  exact .ite hc (.ite hm (hm.setMissed.setReg _))

/-- The comparison counts. -/
theorem noteCompare_counts (d : Fin 4) (frame : Nat) (same : Bool) (s : State) :
    getF (noteCompare d frame same s) (P.DIG_RESULT d) F.DIG_RESULT_compared =
      min (getF s (P.DIG_RESULT d) F.DIG_RESULT_compared + 1) (2 ^ F.DIG_RESULT_compared.len - 1) := by
  have hc := getF_addF_self s (P.DIG_RESULT d) F.DIG_RESULT_compared 1 rfl
  have hm : getF (missCounted d s) (P.DIG_RESULT d) F.DIG_RESULT_compared =
      getF (compareCounted d s) (P.DIG_RESULT d) F.DIG_RESULT_compared :=
    (getF_setF_ne _ _ _ _ (digStat_ne d).1.symm).trans (getF_addF_other _ _ _ _ _ rfl)
  cases same with
  | true => exact hc
  | false =>
    rw [noteCompare_differs]
    split
    · exact hm.trans hc
    · exact (getF_setReg_ne _ _ _ (digResult_ne_miss d)).trans (hm.trans hc)

/-- A mismatch is flagged and stands, and the first is recorded with its frame. -/
def Mismatched (d : Fin 4) (frame : Nat) (s t : State) : Prop :=
  onF t (P.DIG_STAT d) F.DIG_STAT_mismatch = true ∧ t.clu[d].missed = true ∧
  (s.clu[d].missed = false → getReg t (P.DIG_MISS_FRAME d) = BitVec.ofNat 32 frame)

theorem noteCompare_mismatched (d : Fin 4) (frame : Nat) (s : State) :
    Mismatched d frame s (noteCompare d frame false s) := by
  have hf : onF (missCounted d s) (P.DIG_STAT d) F.DIG_STAT_mismatch = true := onF_setF_self _ _ _ 1 rfl
  rw [noteCompare_differs]
  cases hm : s.clu[d].missed with
  | true => exact ⟨hf, hm, fun h => absurd (hm.symm.trans h) (by decide)⟩
  | false =>
    exact ⟨(onF_setReg_ne _ _ _ (digStat_ne d).2.1).trans hf, congrArg Cluster.missed (setClu_same d _ _),
      fun _ => getReg_setReg_same _ _ _⟩

/-- DIG_STAT.recall_done set once the last frame of the table has been compared. -/
def doneNoted (d : Fin 4) (n : Nat) (s : State) : State :=
  if n + 1 = getF s (P.DIG_EXP_COUNT d) F.DIG_EXP_COUNT_count then setF s (P.DIG_STAT d) F.DIG_STAT_recall_done 1 else s

theorem doneNoted_noted {d : Fin 4} {s t : State} (n : Nat) (h : MatchNoted d s t) : MatchNoted d s (doneNoted d n t) :=
  .ite (h.setStat 1) h

theorem getReg_doneNoted {d : Fin 4} {key : Nat} (n : Nat) (s : State) (hk : key ≠ P.DIG_STAT d) :
    getReg (doneNoted d n s) key = getReg s key := by
  unfold doneNoted
  split
  · exact getReg_setF_ne s _ 1 hk
  · rfl

theorem Mismatched.doneNoted {d : Fin 4} {frame : Nat} {s t : State} (n : Nat) (h : Mismatched d frame s t) :
    Mismatched d frame s (doneNoted d n t) := by
  obtain ⟨hf, hm, hfirst⟩ := h
  refine ⟨?_, ?_, fun h0 => (getReg_doneNoted n t (digStat_ne d).2.1.symm).trans (hfirst h0)⟩
  · unfold Machine.doneNoted
    split
    · exact (onF_setF_other t _ _ _ 1 rfl).trans hf
    · exact hf
  · unfold Machine.doneNoted
    split
    · exact hm
    · exact hm

/-! ## What recall makes of a frame -/

theorem recallCompare_compares {d : Fin 4} {w : FrameWork} {s : State} (h : List Byte)
    (hc : recallCompares s d w.frame = true) : recallCompare d w h s = doneNoted d (recallIndex s d w.frame)
      (noteCompare d w.frame (decide (s.readBytes (expAddr s d (recallIndex s d w.frame)) 32 = h)) s) := by
  rw [recallCompare, recallPlace_compares hc]
  rfl

theorem recallCompare_skips {d : Fin 4} {w : FrameWork} {s : State} (h : List Byte)
    (hc : recallCompares s d w.frame = false) : recallCompare d w h s = s := by
  rw [recallCompare, recallPlace_skips hc]

theorem recallCompare_noted (d : Fin 4) (w : FrameWork) (h : List Byte) (s : State) :
    MatchNoted d s (recallCompare d w h s) := by
  cases hc : recallCompares s d w.frame with
  | true => rw [recallCompare_compares h hc]; exact doneNoted_noted _ (noteCompare_noted _ _ _ _)
  | false => rw [recallCompare_skips h hc]; exact .refl d s

theorem recallCompare_counts {d : Fin 4} {w : FrameWork} {s : State} (h : List Byte)
    (hc : recallCompares s d w.frame = true) :
    getF (recallCompare d w h s) (P.DIG_RESULT d) F.DIG_RESULT_compared =
      min (getF s (P.DIG_RESULT d) F.DIG_RESULT_compared + 1) (2 ^ F.DIG_RESULT_compared.len - 1) := by
  rw [recallCompare_compares h hc, getF, getReg_doneNoted _ _ (digStat_ne d).1.symm]
  exact noteCompare_counts _ _ _ _

theorem recallCompare_mismatched {d : Fin 4} {w : FrameWork} {h : List Byte} {s : State}
    (hc : recallCompares s d w.frame = true) (hne : s.readBytes (expAddr s d (recallIndex s d w.frame)) 32 ≠ h) :
    Mismatched d w.frame s (recallCompare d w h s) := by
  rw [recallCompare_compares h hc, decide_eq_false hne]
  exact (noteCompare_mismatched _ _ _).doneNoted _

/-! ## The digest queue (R171, R172) -/

/-- The oldest frame leaves the frames under way, and DIG_LAST follows. -/
def frameTaken (d : Fin 4) (w : FrameWork) (ws : List FrameWork) (s : State) : State :=
  setReg (setClu d { s.clu[d] with frames := ws } s) (P.DIG_LAST d) (BitVec.ofNat 32 w.frame)

/-- Its entry joins the queue. -/
def frameQueued (d : Fin 4) (w : FrameWork) (ws : List FrameWork) (h : List Byte) (s : State) : State :=
  setExport d (s.clu[d].export_ ++ [exportEntry s d w h]) (frameTaken d w ws s)

section
variable {d : Fin 4} {w : FrameWork} {ws : List FrameWork} {h : List Byte} {s : State}

theorem exportFrame_enters (hn : s.clu[d].export_.length < 16) :
    exportFrame d w ws h s = recallCompare d w h (frameQueued d w ws h s) := by
  simp only [exportFrame, decide_eq_false (Nat.not_le.2 hn), Bool.false_eq_true, if_false]
  rfl

theorem exportFrame_overflows (hn : 16 ≤ s.clu[d].export_.length) :
    exportFrame d w ws h s = exportOverflow d (recallCompare d w h (frameTaken d w ws s)) := by
  simp only [exportFrame, decide_eq_true hn, if_true]
  rfl

theorem frameQueued_cluster : (frameQueued d w ws h s).clu[d] =
    { s.clu[d] with frames := ws, export_ := s.clu[d].export_ ++ [exportEntry s d w h] } := by
  rw [frameQueued, setExport, setF_clu, setClu_same, frameTaken, setReg_clu, setClu_same]

theorem frameQueued_regs : RegsBut s (frameQueued d w ws h s) [P.DIG_LAST d, P.DIG_STAT d] :=
  RegsBut.trans (RegsBut.setReg (setClu d _ s) _ (by simp))
    (RegsBut.setF (setClu d _ (frameTaken d w ws s)) _ _ (by simp))

theorem frameQueued_last : getReg (frameQueued d w ws h s) (P.DIG_LAST d) = BitVec.ofNat 32 w.frame :=
  (getReg_setF_ne _ _ _ (digStat_ne d).2.2.symm).trans (getReg_setReg_same _ _ _)

theorem frameQueued_depth (hn : s.clu[d].export_.length < 16) :
    getF (frameQueued d w ws h s) (P.DIG_STAT d) F.DIG_STAT_depth = s.clu[d].export_.length + 1 := by
  refine (getF_setF_self _ _ _ _ rfl).trans ?_
  rw [List.length_append, List.length_singleton]
  exact Nat.mod_eq_of_lt (Nat.lt_of_lt_of_le (Nat.succ_lt_succ hn) (by decide))

end

/-! ## What DIGEST_EXPORT comes to -/

section
variable {d : Fin 4} {w : FrameWork} {ws : List FrameWork} {h : List Byte} {s : State} (hf : s.clu[d].frames = w :: ws)
  (hd : w.digest = some h) (hn : w.count ≤ w.decided) (ht : s.tilted = false) (hr : compRuns s d = true)
include hf hd hn ht hr

theorem exec_digestExport_stops (hc : recallCompares s d w.frame = true)
    (hs : recallRange s d w (recallIndex s d w.frame) = false) : exec (.digestExport d) s = .fault .writebackRange := by
  have hstop : recallStop s d w = true := by rw [recallStop, recallPlace_compares hc]; simp [hs]
  show execDigestExport d s = _
  rw [execDigestExport, hf]
  simp only [hd, ht, hr, Nat.not_lt.2 hn, hstop, decide_false, Bool.not_true, Bool.or_self, Bool.false_eq_true, if_false,
    if_true]

theorem exec_digestExport_granted {u : State} (hstop : recallStop s d w = false) (hu : recallAccess d w s = .ok u) :
    exec (.digestExport d) s = .next (exportFrame d w ws h u) := by
  show execDigestExport d s = _
  rw [execDigestExport, hf]
  simp only [hd, ht, hr, Nat.not_lt.2 hn, hstop, hu, decide_false, Bool.not_true, Bool.or_self, Bool.false_eq_true,
    if_false]

/-- The frame goes to the queue once its accesses have come about, which the idle arbiters grant at once. -/
theorem exec_digestExport_exports (hi : recallCompares s d w.frame = true → ArbiterIdle s)
    (hs : recallCompares s d w.frame = true → recallRange s d w (recallIndex s d w.frame) = true) :
    ∃ u, exec (.digestExport d) s = .next (exportFrame d w ws h u) ∧ ArbOnly s u (dramKeys (13 + d.val)) ∧
      u.mem = if recallCompares s d w.frame && onF s (P.DIG_CTRL d) F.DIG_CTRL_dump
        then dumped s d (recallIndex s d w.frame) w.digests s.mem else s.mem := by
  obtain ⟨u, hu, ho, hm⟩ := recallAccess_idle hi
  have hstop : recallStop s d w = false := by
    cases hc : recallCompares s d w.frame with
    | false => rw [recallStop, recallPlace_skips hc]
    | true => rw [recallStop, recallPlace_compares hc]; simp [hs hc]
  exact ⟨u, exec_digestExport_granted hf hd hn ht hr hstop hu, ho, hm⟩

end

/-! ## What a frame that enters the queue leaves -/

section
variable {d : Fin 4} {s u : State} (ho : ArbOnly s u (dramKeys (13 + d.val))) (w : FrameWork) (ws : List FrameWork)
  (h : List Byte)
include ho

theorem frameQueued_exportKeys : RegsBut s (frameQueued d w ws h u) (exportKeys d) :=
  RegsBut.trans (RegsBut.mono ho.regs fun _ => List.mem_append_right _)
    (RegsBut.mono frameQueued_regs fun key hk => List.mem_append_left _ (by
      simp only [List.mem_cons, List.not_mem_nil, or_false] at hk ⊢
      exact hk.imp_right .inl))

theorem frameQueued_kept : RecallKept d s (frameQueued d w ws h u) :=
  RegsBut.recallKept (frameQueued_exportKeys ho w ws h) fun _ hk => hk

theorem frameQueued_result : getReg (frameQueued d w ws h u) (P.DIG_RESULT d) = getReg s (P.DIG_RESULT d) :=
  (frameQueued_regs _ (digResult_not_queued d)).trans
    (ho.regs _ (not_mem_dramKeys (.inr (by unfold P.DIG_RESULT; omega)) (by omega)))

/-- The queue gains the frame's entry, its recall flag DIG_CTRL.recall as it stands, and the frame is under way no more. -/
theorem frameQueued_entry : (frameQueued d w ws h u).clu[d] = { s.clu[d] with
    frames := ws
    export_ := s.clu[d].export_ ++ [⟨w.frame, onF s (P.DIG_CTRL d) F.DIG_CTRL_recall, w.fresh, w.carried, w.late, h⟩] } := by
  have hclu : u.clu[d] = s.clu[d] := by rw [ho.rest]
  have hk : RecallKept d s u := RegsBut.recallKept ho.regs fun _ => List.mem_append_right _
  rw [frameQueued_cluster, exportEntry, hk.recallOn, hclu]

/-- A comparison with a table entry that differs from the frame's digest. -/
theorem frameQueued_mismatched (hc : recallCompares s d w.frame = true)
    (hne : (recallCompare d w h (frameQueued d w ws h u)).readBytes (expAddr s d (recallIndex s d w.frame)) 32 ≠ h) :
    Mismatched d w.frame s (recallCompare d w h (frameQueued d w ws h u)) := by
  have hk := frameQueued_kept ho w ws h
  have hmissed : (frameQueued d w ws h u).clu[d].missed = s.clu[d].missed := by rw [frameQueued_entry ho]
  have hread := (recallCompare_noted d w h (frameQueued d w ws h u)).readBytes (expAddr s d (recallIndex s d w.frame)) 32
  obtain ⟨hflag, hm, hfirst⟩ := recallCompare_mismatched (h := h) ((hk.recallCompares _).trans hc)
    (by rw [hk.recallIndex, hk.expAddr, ← hread]; exact hne)
  exact ⟨hflag, hm, fun h0 => hfirst (hmissed.trans h0)⟩

end

end Sys2Proof.Machine
end

section
/-! SUPPORT. DIG_CTRL written: recall begun, and recall cleared (R177, R198). -/
namespace Sys2Proof.Machine

section
variable {m : Master} {d : Fin 4} {dump : Bool} {s : State} (hr : s.reaches m true (P.DIG_CTRL d) = true)
include hr

theorem exec_recallEnable : exec (.recallEnable m d dump) s = .next (digCtrlWrite d true dump s) := by
  show execRecallEnable m d dump s = _
  rw [execRecallEnable, gate_reaches _ hr]

theorem exec_recallClear : exec (.recallClear m d dump) s = .next (digCtrlWrite d false dump s) := by
  show execRecallClear m d dump s = _
  rw [execRecallClear, gate_reaches _ hr]

end

theorem digCtrlWrite_running {d : Fin 4} {on dump : Bool} {s : State} (h : seqRuns s d = true) :
    digCtrlWrite d on dump s = s := if_pos h

/-- DIG_CTRL with its two fields written. -/
def digCtrlStored (d : Fin 4) (on dump : Bool) (s : State) : State :=
  setReg s (P.DIG_CTRL d) (BitVec.ofNat 32 (b2n on + 2 * b2n dump))

theorem digCtrlStored_fields (d : Fin 4) (on dump : Bool) (s : State) :
    onF (digCtrlStored d on dump s) (P.DIG_CTRL d) F.DIG_CTRL_recall = on ∧
    onF (digCtrlStored d on dump s) (P.DIG_CTRL d) F.DIG_CTRL_dump = dump := by
  rw [onF, onF, digCtrlStored, getReg_setReg_same]
  cases on <;> cases dump <;> decide

/-- DIG_RESULT and DIG_MISS_FRAME as recall begins: no comparison, no mismatch. -/
def resultCleared (d : Fin 4) (s : State) : State :=
  setReg (setReg (setClu d (s.clu[d].withMissed false) s) (P.DIG_RESULT d) 0) (P.DIG_MISS_FRAME d) 0xFFFFFFFF

theorem Cluster.eq_of_withMissed {c c' : Cluster} {b : Bool} (h : c' = c.withMissed b) :
    c' = { c with missed := c'.missed } := by rw [h]; rfl

theorem resultCleared_cluster (d : Fin 4) (s : State) : (resultCleared d s).clu[d] = s.clu[d].withMissed false :=
  setClu_same d _ s

theorem resultCleared_regs (d : Fin 4) (s : State) : RegsBut s (resultCleared d s) [P.DIG_RESULT d, P.DIG_MISS_FRAME d] :=
  RegsBut.trans (t := setReg (setClu d (s.clu[d].withMissed false) s) (P.DIG_RESULT d) 0)
    (RegsBut.setReg (setClu d _ s) 0 (by simp)) (RegsBut.setReg _ _ (by simp))

theorem resultCleared_values (d : Fin 4) (s : State) : getReg (resultCleared d s) (P.DIG_RESULT d) = 0 ∧
    getReg (resultCleared d s) (P.DIG_MISS_FRAME d) = 0xFFFFFFFF :=
  ⟨(getReg_setReg_ne _ _ (digResult_ne_miss d)).trans (getReg_setReg_same _ _ _), getReg_setReg_same _ _ _⟩

theorem resultCleared_ctrl (d : Fin 4) (s : State) :
    getReg (resultCleared d s) (P.DIG_CTRL d) = getReg s (P.DIG_CTRL d) := by
  refine resultCleared_regs d s _ ?_
  simp [P.DIG_CTRL, P.DIG_RESULT, P.DIG_MISS_FRAME]

theorem digCtrlWrite_enables {d : Fin 4} {dump : Bool} {s : State} (h : seqRuns s d = false) :
    digCtrlWrite d true dump s = if onF s (P.DIG_CTRL d) F.DIG_CTRL_recall then digCtrlStored d true dump s
      else resultCleared d (digCtrlStored d true dump s) := by
  unfold digCtrlWrite
  rw [if_neg (by simp [h])]
  cases onF s (P.DIG_CTRL d) F.DIG_CTRL_recall <;> rfl

theorem digCtrlWrite_clears {d : Fin 4} {dump : Bool} {s : State} (h : seqRuns s d = false) :
    digCtrlWrite d false dump s = if onF s (P.DIG_CTRL d) F.DIG_CTRL_recall
      then cueReload d (digCtrlStored d false dump s) else digCtrlStored d false dump s := by
  unfold digCtrlWrite
  rw [if_neg (by simp [h])]
  cases onF s (P.DIG_CTRL d) F.DIG_CTRL_recall <;> rfl

theorem recall_enabled {m : Master} {d : Fin 4} {dump : Bool} {s : State} (hr : s.reaches m true (P.DIG_CTRL d) = true)
    (h : seqRuns s d = false) :
    ∃ t, exec (.recallEnable m d dump) s = .next t ∧ onF t (P.DIG_CTRL d) F.DIG_CTRL_recall = true ∧
      onF t (P.DIG_CTRL d) F.DIG_CTRL_dump = dump ∧
      t = { s with regs := t.regs, clu := t.clu } ∧ RegsBut s t [P.DIG_CTRL d, P.DIG_RESULT d, P.DIG_MISS_FRAME d] ∧
      t.clu[d] = { s.clu[d] with missed := t.clu[d].missed } ∧
      (onF s (P.DIG_CTRL d) F.DIG_CTRL_recall = false → getReg t (P.DIG_RESULT d) = 0 ∧
        getReg t (P.DIG_MISS_FRAME d) = 0xFFFFFFFF ∧ t.clu[d].missed = false) := by
  obtain ⟨hrecall, hdump⟩ := digCtrlStored_fields d true dump s
  have hk : RegsBut s (digCtrlStored d true dump s) [P.DIG_CTRL d, P.DIG_RESULT d, P.DIG_MISS_FRAME d] :=
    RegsBut.setReg s _ (by simp)
  refine ⟨_, exec_recallEnable hr, ?_⟩
  rw [digCtrlWrite_enables h]
  by_cases hon : onF s (P.DIG_CTRL d) F.DIG_CTRL_recall = true
  · rw [if_pos hon]
    exact ⟨hrecall, hdump, rfl, hk, rfl, fun h0 => absurd (hon.symm.trans h0) (by decide)⟩
  · rw [if_neg hon]
    have hrest : digCtrlStored d true dump s = { s with regs := (digCtrlStored d true dump s).regs } := rfl
    have hclu : (resultCleared d (digCtrlStored d true dump s)).clu[d] = s.clu[d].withMissed false :=
      resultCleared_cluster d _
    generalize digCtrlStored d true dump s = u at hrecall hdump hk hrest hclu
    have hctrl := resultCleared_ctrl d u
    obtain ⟨hresult, hmiss⟩ := resultCleared_values d u
    refine ⟨(congrArg F.DIG_CTRL_recall.on hctrl).trans hrecall, (congrArg F.DIG_CTRL_dump.on hctrl).trans hdump, ?_,
      RegsBut.trans hk (RegsBut.mono (resultCleared_regs d u) fun _ => List.mem_cons_of_mem _),
      Cluster.eq_of_withMissed hclu, fun _ => ⟨hresult, hmiss, congrArg Cluster.missed hclu⟩⟩
    exact congrArg (fun v : State => { v with regs := (resultCleared d u).regs, clu := (resultCleared d u).clu }) hrest

theorem recall_cleared {m : Master} {d : Fin 4} {dump : Bool} {s : State} (hr : s.reaches m true (P.DIG_CTRL d) = true)
    (h : seqRuns s d = false) :
    ∃ t, exec (.recallClear m d dump) s = .next t ∧ onF t (P.DIG_CTRL d) F.DIG_CTRL_recall = false ∧
      onF t (P.DIG_CTRL d) F.DIG_CTRL_dump = dump ∧ OnlyRegs s t [P.DIG_CTRL d, P.KTL_CUE_POS] := by
  obtain ⟨hrecall, hdump⟩ := digCtrlStored_fields d false dump s
  have hk : OnlyRegs s (digCtrlStored d false dump s) [P.DIG_CTRL d, P.KTL_CUE_POS] := OnlyRegs.setReg s _ (by simp)
  have hne : P.DIG_CTRL d ≠ P.KTL_CUE_POS := by unfold P.DIG_CTRL P.KTL_CUE_POS; omega
  refine ⟨_, exec_recallClear hr, ?_⟩
  rw [digCtrlWrite_clears h, cueReload]
  generalize digCtrlStored d false dump s = u at hrecall hdump hk
  have hloaded : onF (loadCuePos d u) (P.DIG_CTRL d) F.DIG_CTRL_recall = false ∧
      onF (loadCuePos d u) (P.DIG_CTRL d) F.DIG_CTRL_dump = dump ∧
      OnlyRegs s (loadCuePos d u) [P.DIG_CTRL d, P.KTL_CUE_POS] :=
    ⟨(onF_setReg_ne u _ _ hne).trans hrecall, (onF_setReg_ne u _ _ hne).trans hdump,
      OnlyRegs.trans hk (OnlyRegs.setReg u _ (by simp))⟩
  split_ifs
  · exact hloaded
  · exact ⟨hrecall, hdump, hk⟩
  · exact ⟨hrecall, hdump, hk⟩

end Sys2Proof.Machine
end

section
/-! THEOREM. Band and frame digests, recall and the digest queue. -/
namespace Sys2Proof.Machine

/-! ## Band and frame digests -/

theorem band_digested {d : Fin 4} {i : Fin 2} {after : Nat} {z : Slot} {s : State} (hz : s.clu[d].slots[i] = some z)
    (hh : z.hashed = false) (ht : s.tilted = false) (hc : compRuns s d = true) (hl : laneMayEnd z after = true) :
    ∃ t, exec (.bandDigest d i after) s = .next t ∧ t.clock = max s.clock (z.ended + after) ∧ t.regs = s.regs ∧
      t.mem = s.mem ∧ t.clu[d].carry = Tab.insert s.clu[d].carry z.band (slotDigest z) ∧
      t.clu[d].frames = framesHashed z s.clu[d].frames ∧
      t.clu[d].slots[i] = if z.sent && !wbHolds s d z then none
        else some { z with hashed := true, freeAt := Nat.max z.freeAt (z.ended + after) } := by
  have ho := freeSlots_slotsOnly d 0 (bandHashed s d i z (z.ended + after))
  have hleft := slotLeft_bandHashed s d i z (z.ended + after)
  have hx := exec_bandDigest hz hh ht hc hl
  have hb := bandHashed_cluster s d i z (z.ended + after)
  generalize freeSlots d 0 (bandHashed s d i z (z.ended + after)) = u at ho hleft hx
  have hclock : u.clock = s.clock := by rw [ho.rest]; rfl
  have hregs : u.regs = s.regs := by rw [ho.rest]; rfl
  have hmem : u.mem = s.mem := by rw [ho.rest]; rfl
  have hcarry : u.clu[d].carry = Tab.insert s.clu[d].carry z.band (slotDigest z) := by rw [ho.cluster, hb]; rfl
  have hframes : u.clu[d].frames = framesHashed z s.clu[d].frames := by rw [ho.cluster, hb]
  exact ⟨_, hx, congrArg (max · (z.ended + after)) hclock, hregs, hmem, hcarry, hframes, hleft⟩

theorem frame_digested {d : Fin 4} {w : FrameWork} {s : State}
    (hw : s.clu[d].frames.find? (fun w => w.full && w.digest.isNone) = some w) (ht : s.tilted = false)
    (hc : compRuns s d = true) : ∃ t, exec (.frameDigest d) s = .next t ∧ t.regs = s.regs ∧ t.mem = s.mem ∧
      (∀ v ∈ t.clu[d].frames, v.frame = w.frame → v.digest = some w.hash) ∧
      t.clu[d].frames.length = s.clu[d].frames.length := by
  have hfr := onFrame_frames d w.frame (fun v => { v with digest := some w.hash }) s
  refine ⟨_, exec_frameDigest hw ht hc, rfl, rfl, fun v hv hf => ?_,
    (congrArg List.length hfr).trans (List.length_map _)⟩
  obtain ⟨x, -, rfl⟩ := List.mem_map.1 (hfr ▸ hv)
  by_cases hx : x.frame = w.frame
  · rw [if_pos hx]
  · rw [if_neg hx] at hf
    exact absurd hf hx

/-! ## A frame that leaves for the queue -/

section
variable {d : Fin 4} {w : FrameWork} {ws : List FrameWork} {h : List Byte} {s : State} (hf : s.clu[d].frames = w :: ws)
  (hd : w.digest = some h) (hn : w.count ≤ w.decided) (ht : s.tilted = false) (hr : compRuns s d = true)
  (hi : recallCompares s d w.frame = true → ArbiterIdle s)
  (hs : recallCompares s d w.frame = true → recallRange s d w (recallIndex s d w.frame) = true)
include hf hd hn ht hr hi hs

/-- A full queue raises tilt, and DIG_LAST moves all the same (R172). -/
theorem export_overflows (hq : 16 ≤ s.clu[d].export_.length) (hp : s.pwr.inReset = false) :
    ∃ t, exec (.digestExport d) s = .next t ∧ t.tilt.code = some (0x1801 + 0x100 * d.val) ∧
      getReg t (P.DIG_LAST d) = BitVec.ofNat 32 w.frame := by
  obtain ⟨u, hu, ho, -⟩ := exec_digestExport_exports hf hd hn ht hr hi hs
  have hclu : u.clu = s.clu := by rw [ho.rest]
  have hpwr : u.pwr = s.pwr := by rw [ho.rest]
  have htilt : u.tilt = s.tilt := by rw [ho.rest]
  have hm := recallCompare_noted d w h (frameTaken d w ws u)
  have hlast : getReg (recallCompare d w h (frameTaken d w ws u)) (P.DIG_LAST d) = BitVec.ofNat 32 w.frame :=
    (hm.regs _ (digLast_not_noted d)).trans (getReg_setReg_same _ _ _)
  rw [exportFrame_overflows (by rw [Fin.getElem_fin, hclu]; exact hq)] at hu
  generalize hv : recallCompare d w h (frameTaken d w ws u) = v at hu hm hlast
  have hvp : v.pwr = s.pwr := by rw [hm.rest]; exact hpwr
  have hvt : v.tilt = s.tilt := by rw [hm.rest]; exact htilt
  have hnone : s.tilt.code = none := by simpa [State.tilted] using ht
  refine ⟨_, hu, raiseTilt_code _ (hvp ▸ hp) (hvt ▸ hnone), ?_⟩
  refine ((raiseTilt_digestKept _ _).regs _ ?_).trans ((getReg_setF_ne _ _ _ (digStat_ne d).2.2.symm).trans hlast)
  unfold digestKey P.DIG_LAST
  omega

/-- Where the queue has room the frame enters it, and recall compares it. -/
theorem export_enters (hq : s.clu[d].export_.length < 16) :
    ∃ u, exec (.digestExport d) s = .next (recallCompare d w h (frameQueued d w ws h u)) ∧
      ArbOnly s u (dramKeys (13 + d.val)) ∧ u.clu = s.clu ∧
      u.mem = if recallCompares s d w.frame && onF s (P.DIG_CTRL d) F.DIG_CTRL_dump
        then dumped s d (recallIndex s d w.frame) w.digests s.mem else s.mem := by
  obtain ⟨u, hu, ho, hm⟩ := exec_digestExport_exports hf hd hn ht hr hi hs
  have hclu : u.clu = s.clu := by rw [ho.rest]
  rw [exportFrame_enters (by rw [Fin.getElem_fin, hclu]; exact hq)] at hu
  exact ⟨u, hu, ho, hclu, hm⟩

end

/-! ## The statement -/

/-- Settles O39: a band's digest reaches its frame and those that wait for it (which frames wait is the model's choice,
log 126), the accesses of recall come about at once at idle arbiters, and what a comparison notes leaves the queue's depth
and the frame's entry. -/
theorem digests : Obligations.Digests := by
  unfold Obligations.Digests
  refine ⟨fun d i after z s hz hh ht hc hl => ?_, fun d w s hw ht hc => frame_digested hw ht hc,
    fun d w ws h s hf hd hn ht hr => ?_,
    fun m d dump s hr => ⟨fun hq => ?_, fun hq => ⟨recall_enabled hr hq, recall_cleared hr hq⟩⟩⟩
  · obtain ⟨t, hx, hclock, hregs, hmem, hcarry, hframes, hslot⟩ := band_digested hz hh ht hc hl
    refine ⟨t, hx, ?_, fun w hw => framesHashed_own (hframes ▸ hw), fun w hw hne => ?_, fun h1 h2 => ?_, fun h1 => ?_,
      hregs, hmem, hclock⟩
    · rw [hcarry]; exact Tab.find_insert_same _ _ _
    · rw [hframes]; exact framesHashed_other hw hne
    · rw [hslot, if_pos (by simp [h1, h2])]
    · refine ⟨_, hslot.trans (if_neg ?_), rfl, rfl⟩
      rcases h1 with h1 | h1 <;> simp [h1]
  · intro n compares hi
    refine ⟨exec_digestExport_stops hf hd hn ht hr, fun hq hp hs => export_overflows hf hd hn ht hr hi hs hq hp,
      fun hq hs => ?_⟩
    obtain ⟨u, hu, ho, hclu, hmem⟩ := export_enters hf hd hn ht hr hi hs hq
    have hm := recallCompare_noted d w h (frameQueued d w ws h u)
    have hentry := frameQueued_entry ho w ws h
    have hresult := frameQueued_result ho w ws h
    have hk := frameQueued_kept ho w ws h
    refine ⟨_, hu, ?_, ?_, ?_, ?_, ?_, ?_, fun hc => ?_, fun hc => ?_, fun hc hne => ?_⟩
    · rw [hm.cluster, hentry]; rfl
    · rw [hm.cluster, hentry]; rfl
    · rw [hm.depth, frameQueued_depth (by rw [Fin.getElem_fin, hclu]; exact hq), hclu]
    · exact (hm.regs _ (digLast_not_noted d)).trans frameQueued_last
    · exact (congrArg State.mem hm.rest).trans hmem
    · exact RegsBut.trans (frameQueued_exportKeys ho w ws h) (RegsBut.mono hm.regs fun _ hx =>
        List.mem_append_left _ (List.mem_cons_of_mem _ hx))
    · rw [recallCompare_skips h ((hk.recallCompares _).trans hc), hresult]
    · rw [recallCompare_counts h ((hk.recallCompares _).trans hc), getF, getF, hresult]
    · exact frameQueued_mismatched ho w ws h hc (hne (recallCompare d w h (frameQueued d w ws h u)).free)
  · rw [exec_recallEnable hr, exec_recallClear hr, digCtrlWrite_running hq, digCtrlWrite_running hq]
    exact ⟨rfl, rfl⟩

end Sys2Proof.Machine
end

section
/-! SUPPORT. What the blit engine's reads and checks hang on, and the pixels that it writes. -/
namespace Sys2Proof.Machine

/-! ## What a command's reads and checks hang on -/

/-- What the blit engine reads its commands and pixels from, and judges them by, is in t as it is in s. -/
structure SameBlit (s t : State) : Prop where
  mem : t.mem = s.mem
  blt : t.blt = s.blt
  clu : t.clu = s.clu
  free : t.free = s.free
  cfg : t.cfg = s.cfg
  pwr : t.pwr = s.pwr
  ram : getReg t P.MEM_CFG = getReg s P.MEM_CFG
  base : getReg t P.BLT_RING_BASE = getReg s P.BLT_RING_BASE
  head : getReg t P.BLT_HEAD = getReg s P.BLT_HEAD

/-- Reads of DRAM leave it as it was, but for the free values. -/
theorem Fetched.sameBlit {id : Nat} {s t : State} (h : Fetched id s t) (hid : id ≤ 16) :
    SameBlit { s with free := t.free } t where
  mem := h.mem
  blt := by rw [h.only.rest]
  clu := by rw [h.only.rest]
  free := rfl
  cfg := by rw [h.only.rest]
  pwr := by rw [h.only.rest]
  ram := h.reg hid (.inl (by decide))
  base := h.reg hid (.inr (by decide))
  head := h.reg hid (.inr (by decide))

section
variable {s t : State} (h : SameBlit s t)
include h

theorem SameBlit.stored (key : Nat) : t.stored key = s.stored key := by
  unfold State.stored
  rw [streamed_congr h.clu, h.mem, h.free]

theorem SameBlit.readLe (key n : Nat) : t.readLe key n = s.readLe key n := by
  rw [State.readLe, State.readLe, readBytes_congr h.mem h.blt h.clu h.free]

theorem SameBlit.word (key : Nat) : t.word key = s.word key := by rw [State.word, State.word, h.readLe]

theorem SameBlit.blitCmd : blitCmd t = blitCmd s := by
  have he : bltEntry t = bltEntry s := by simp only [bltEntry, bltHead, getF, h.base, h.head]
  have hw : bltWord t = bltWord s := funext fun i => by rw [bltWord, bltWord, he, h.word]
  rw [Machine.blitCmd, Machine.blitCmd, hw]

theorem SameBlit.blitPixels (c : BlitCmd) : blitPixels t c = blitPixels s c := by
  have hc : ∀ a x y, clipCovers t a x y = clipCovers s a x y := fun a x y => funext fun i => by
    simp only [clipCovers, h.word]
  simp only [Machine.blitPixels, hc]

theorem SameBlit.dramSize : t.dramSize = s.dramSize := by
  rw [State.dramSize, State.dramSize, getF, getF, getF, getF, h.ram]

theorem SameBlit.engineStop (write : Bool) (a n : Nat) : engineStop write a n t = engineStop write a n s := by
  have hi : t.imageIn a n = s.imageIn a n := by rw [State.imageIn, State.imageIn, h.cfg]
  have hr : t.region a = s.region a := by rw [State.region, State.region, h.dramSize]
  have hb : t.bankOn a = s.bankOn a := by simp only [State.bankOn, State.powered, h.pwr]
  simp only [Machine.engineStop, hi, hr, hb, h.dramSize]

theorem SameBlit.blitStop (c : BlitCmd) (ps : List (Nat × Nat)) : blitStop t c ps = blitStop s c ps := by
  simp only [Machine.blitStop, h.engineStop]

theorem SameBlit.blitValue (c : BlitCmd) (k m : Nat) : blitValue t c k m = blitValue s c k m := by
  have hp : ∀ q f x y, pixelRead t q f x y = pixelRead s q f x y := fun q f x y => by
    rw [pixelRead, pixelRead, h.readLe]
  simp only [Machine.blitValue, hp]

theorem SameBlit.pixelWrite (q : Surface) (format x y v : Nat) :
    SameBlit (pixelWrite q format x y v s) (pixelWrite q format x y v t) := by
  refine ⟨?_, h.blt, h.clu, h.free, h.cfg, h.pwr, h.ram, h.base, h.head⟩
  simp only [Machine.pixelWrite, State.writeBytes_mem, h.mem, h.stored]

end

/-! ## A command's pixels written (R187) -/

/-- State t with the pixels of a command written, their values being those that state s gives. -/
def pixelsWritten (s : State) (c : BlitCmd) (ps : List (Nat × Nat)) (t : State) : State :=
  ps.foldl (fun t p =>
    pixelWrite c.dst c.format (c.dst.x + p.1) (c.dst.y + p.2) (blitValue s c p.1 p.2) t) t

theorem pixelsWritten_cons (s : State) (c : BlitCmd) (p : Nat × Nat) (ps : List (Nat × Nat)) (t : State) :
    pixelsWritten s c (p :: ps) t = pixelsWritten s c ps
      (pixelWrite c.dst c.format (c.dst.x + p.1) (c.dst.y + p.2) (blitValue s c p.1 p.2) t) := rfl

theorem SameBlit.pixelsWritten {s s' : State} (hs : SameBlit s s') (c : BlitCmd) (ps : List (Nat × Nat)) :
    ∀ {t t' : State}, SameBlit t t' → SameBlit (pixelsWritten s c ps t) (pixelsWritten s' c ps t') := by
  induction ps with
  | nil => exact fun h => h
  | cons p ps ih =>
    intro t t' h
    rw [pixelsWritten_cons, pixelsWritten_cons, hs.blitValue]
    exact ih (h.pixelWrite _ _ _ _ _)

/-- Nothing but memory is written. -/
theorem pixelsWritten_only (s : State) (c : BlitCmd) (ps : List (Nat × Nat)) (t : State) :
    pixelsWritten s c ps t = { t with mem := (pixelsWritten s c ps t).mem } := by
  induction ps generalizing t with
  | nil => rfl
  | cons p ps ih =>
    rw [pixelsWritten_cons, ih]
    rfl

theorem find_pixelWrite_out {q : Surface} {format x y key : Nat}
    (hk : key ∉ (List.range (pixelBytes q format x y).2).map ((pixelBytes q format x y).1 + ·)) (v : Nat) (s : State) :
    Tab.find (pixelWrite q format x y v s).mem key = Tab.find s.mem key := by
  refine Memory.find_writeBytes_out _ _ _ _ ?_
  rw [natToLe_length]
  by_contra hin
  exact hk (List.mem_map.2 ⟨key - (pixelBytes q format x y).1, List.mem_range.2 (by omega), by omega⟩)

/-- No byte outside the destination pixels is written. -/
theorem find_pixelsWritten_out {c : BlitCmd} {ps : List (Nat × Nat)} {key : Nat} (hk : key ∉ surfaceBytes c c.dst ps)
    (s t : State) : Tab.find (pixelsWritten s c ps t).mem key = Tab.find t.mem key := by
  induction ps generalizing t with
  | nil => rfl
  | cons p ps ih =>
    rw [surfaceBytes, List.flatMap_cons, List.mem_append, not_or] at hk
    rw [pixelsWritten_cons, ih hk.2, find_pixelWrite_out hk.1]

/-! ## A command's writes on their way (R181) -/

theorem blitRequests_beside (c : BlitCmd) (ps : List (Nat × Nat)) (s : State) :
    blitRequests c ps s = { s with regs := (blitRequests c ps s).regs, mc := (blitRequests c ps s).mc } :=
  issueAll_beside _ _ _

theorem blitRequests_regsBut (c : BlitCmd) (ps : List (Nat × Nat)) (s : State) :
    RegsBut s (blitRequests c ps s) [P.MEM_RANK 9] := setRequester_regsBut _ _ _

theorem blitWrites_mem (c : BlitCmd) (ps : List (Nat × Nat)) (s : State) :
    (blitWrites c ps s).mem = (pixelsWritten s c ps s).mem := by
  rw [blitWrites, blitRequests_beside]
  rfl

theorem blitWrites_blt (c : BlitCmd) (ps : List (Nat × Nat)) (s : State) :
    (blitWrites c ps s).blt = ⟨blitFlux s c ps, BitVec.ofNat 32 c.tag, c.irq⟩ := by
  rw [blitWrites, blitRequests_beside]
  rfl

theorem blitWrites_regsBut (c : BlitCmd) (ps : List (Nat × Nat)) (s : State) :
    RegsBut s (blitWrites c ps s) [P.MEM_RANK 9] := by
  have hr : (pixelsWritten s c ps s).regs = s.regs := by rw [pixelsWritten_only]
  exact RegsBut.trans (RegsBut.of_regs hr _) (blitRequests_regsBut c ps _)

end Sys2Proof.Machine
end

section
/-! THEOREM. The blit engine's commands and registers. -/
namespace Sys2Proof.Machine

/-! ## The command at the head (R180, R184) -/

/-- The engine takes the command at the head: it works and runs, no command executes, and the arbiters let it read its
entry and clip list, which hold no byte that is free. -/
structure TakesHead (s : State) : Prop where
  on : bltOn s = true
  run : onF s P.BLT_CTRL F.BLT_CTRL_run = true
  ready : bltBusy s = false
  waits : bltHead s ≠ bltTail s
  entry : bltEntry s + 64 ≤ s.dramSize
  idle : ArbiterIdle s
  cmd : ∀ f, blitCmd { s with free := f } = blitCmd s
  pixels : ∀ f, blitPixels { s with free := f } (blitCmd s) = blitPixels s (blitCmd s)

/-- The command with another format. -/
def BlitCmd.withFormat (c : BlitCmd) (n : Nat) : BlitCmd := { c with format := n }

/-- n is a format that the engine may take a command's for: its own, or a listed one for a copy or fill of 6 or 7. -/
def BlitCmd.takes (c : BlitCmd) (n : Nat) : Prop := if 6 ≤ c.format ∧ c.op ≠ 2 then n < 6 else n = c.format

theorem blitFormat_takes (s : State) (c : BlitCmd) : ∃ n, c.takes n ∧ blitFormat s c = c.withFormat n := by
  unfold BlitCmd.takes blitFormat
  split
  · exact ⟨_, Nat.mod_lt _ (by decide), rfl⟩
  · exact ⟨_, rfl, rfl⟩

/-- The entry is read at once, and the command begins. -/
theorem blitStart_begins {op : Nat} {s : State} (h : TakesHead s) (hop : (blitCmd s).op = op ∨ 2 < (blitCmd s).op) :
    ∃ u n, Fetched 9 s u ∧ (blitCmd s).takes n ∧ blitStart op s = blitBegin ((blitCmd s).withFormat n) u := by
  obtain ⟨u, hu, hf⟩ := dramRead_idle (id := 9) (by decide) (bltEntry s) 64 h.idle
  have hcmd : blitCmd u = blitCmd s := (hf.sameBlit (by decide)).blitCmd.trans (h.cmd u.free)
  obtain ⟨n, hn, hformat⟩ := blitFormat_takes u (blitCmd s)
  refine ⟨u, n, hf, hn, ?_⟩
  have hkind : ¬((blitCmd s).op ≠ op ∧ (blitCmd s).op ≤ 2) := by omega
  simp only [blitStart, h.on, h.run, h.ready, decide_eq_false h.waits, Nat.not_lt.2 h.entry, hkind, hu, hcmd, hformat,
    Bool.not_true, Bool.or_self, Bool.false_eq_true, if_false]

/-! ## A command that fails a check (R186, R191) -/

theorem blitCode_lt (c : BlitCmd) : blitCode c < 8 := by
  unfold blitCode
  split_ifs <;> decide

theorem blitCode_reserved {c : BlitCmd} (h : 2 < c.op) : blitCode c = 1 := if_pos (.inl h)

theorem blitError_onlyRegs (code : Nat) (s : State) : OnlyRegs s (blitError code s) [P.BLT_CTRL, P.BLT_STAT] :=
  OnlyRegs.trans (OnlyRegs.trans (OnlyRegs.setF s _ _ (by simp)) (OnlyRegs.setF _ _ _ (by simp)))
    (OnlyRegs.setF _ _ _ (by simp))

/-- BLIT_ERROR stops the engine and says why. -/
theorem blitError_stops {code : Nat} (hc : code < 8) (s : State) :
    onF (blitError code s) P.BLT_CTRL F.BLT_CTRL_run = false ∧ onF (blitError code s) P.BLT_STAT F.BLT_STAT_err = true ∧
    getF (blitError code s) P.BLT_STAT F.BLT_STAT_err_code = code := by
  have hne : P.BLT_CTRL ≠ P.BLT_STAT := by decide
  refine ⟨?_, ?_, ?_⟩
  · exact (onF_setF_ne _ _ _ _ hne).trans ((onF_setF_ne _ _ _ _ hne).trans (onF_setF_self _ _ _ 0 rfl))
  · exact (onF_setF_other _ _ _ _ _ rfl).trans (onF_setF_self _ _ _ 1 rfl)
  · exact (getF_setF_self _ _ _ _ rfl).trans (Nat.mod_eq_of_lt hc)

/-- A command that fails a check for whatever format it takes makes no write, and stops the engine. -/
theorem blitStart_fails {op : Nat} {s : State} (h : TakesHead s) (hop : (blitCmd s).op = op ∨ 2 < (blitCmd s).op)
    (hcode : ∀ n, (blitCmd s).takes n → blitCode ((blitCmd s).withFormat n) ≠ 0) :
    ∃ t n, (blitCmd s).takes n ∧ blitStart op s = .next t ∧ OnlyDram 9 s t [P.BLT_CTRL, P.BLT_STAT] ∧ t.mem = s.mem ∧
      onF t P.BLT_CTRL F.BLT_CTRL_run = false ∧ onF t P.BLT_STAT F.BLT_STAT_err = true ∧
      getF t P.BLT_STAT F.BLT_STAT_err_code = blitCode ((blitCmd s).withFormat n) := by
  obtain ⟨u, n, hf, hn, hbegin⟩ := blitStart_begins h hop
  let code := blitCode ((blitCmd s).withFormat n)
  have honly : ArbOnly s (blitError code u) ([P.BLT_CTRL, P.BLT_STAT] ++ dramKeys 9) :=
    (hf.only.mono fun _ hk => List.mem_append_right _ hk).trans
      ((ArbOnly.of_regs (blitError_onlyRegs code u)).mono fun _ hk => List.mem_append_left _ hk)
  exact ⟨blitError code u, n, hn, hbegin.trans (if_pos (hcode n hn)), ⟨honly.rest, honly.regs⟩, hf.mem,
    blitError_stops (blitCode_lt _) u⟩

/-! ## A command that passes its checks (R187, R189, R190) -/

/-- The clip list of a command, where it has one, lies in DRAM. -/
def clipsInDram (s : State) (c : BlitCmd) : Prop := c.clip = true → c.clipAt + 8 * c.clips ≤ s.dramSize

/-- The clip list is read at once, and the command runs or comes to a case that the manual leaves unpredictable. -/
theorem blitBegin_judges {c : BlitCmd} {s : State} (hi : ArbiterIdle s) (hcode : blitCode c = 0)
    (hclip : clipsInDram s c) : ∃ v, Fetched 9 s v ∧ blitBegin c s =
      (blitStop v c (blitPixels v c)).elim (.next (blitRun c (blitPixels v c) v)) .fault := by
  have hin : ¬(c.clip = true ∧ s.dramSize < c.clipAt + 8 * c.clips) := fun h => absurd h.2 (Nat.not_lt.2 (hclip h.1))
  obtain ⟨v, hv, hf⟩ : ∃ v, (if c.clip then dramRead 9 c.clipAt (8 * c.clips) s else .ok s) = .ok v ∧
      Fetched 9 s v := by
    split
    · exact dramRead_idle (by decide) _ _ hi
    · exact ⟨s, rfl, .refl s _, rfl, hi⟩
  refine ⟨v, hf, ?_⟩
  simp only [blitBegin, hcode, hin, hv, ne_eq, not_true_eq_false, if_false]
  cases blitStop v c (blitPixels v c) <;> rfl

/-- A command that passes its checks for whatever format it takes is judged by the memory before it. -/
theorem blitStart_judges {op : Nat} {s : State} (h : TakesHead s) (hop : (blitCmd s).op = op)
    (hclip : clipsInDram s (blitCmd s))
    (hcode : ∀ n, (blitCmd s).takes n → blitCode ((blitCmd s).withFormat n) = 0) :
    ∃ v n, Fetched 9 s v ∧ (blitCmd s).takes n ∧ blitStart op s =
      (blitStop s ((blitCmd s).withFormat n) (blitPixels s (blitCmd s))).elim
        (.next (blitRun ((blitCmd s).withFormat n) (blitPixels s (blitCmd s)) v)) .fault := by
  obtain ⟨u, n, hu, hn, hbegin⟩ := blitStart_begins h (.inl hop)
  have hsize : u.dramSize = s.dramSize := (hu.sameBlit (by decide)).dramSize
  obtain ⟨v, hv, hjudge⟩ := blitBegin_judges (c := ((blitCmd s).withFormat n)) hu.idle (hcode n hn)
    (fun hc => hsize ▸ hclip hc)
  have hf := hu.trans hv
  have hsame := hf.sameBlit (by decide)
  have hps : blitPixels v ((blitCmd s).withFormat n) = blitPixels s (blitCmd s) :=
    (hsame.blitPixels _).trans (h.pixels v.free)
  refine ⟨v, n, hf, hn, ?_⟩
  rw [hbegin, hjudge, hps, hsame.blitStop]
  rfl

/-- A command whose writes have gone out. -/
def blitStarted (c : BlitCmd) (ps : List (Nat × Nat)) (s : State) : State :=
  setF (setF (blitWrites c ps s) P.BLT_STAT F.BLT_STAT_busy 1) P.BLT_STAT F.BLT_STAT_dir (blitDir c)

/-- The source is read at once. -/
theorem blitRun_starts (c : BlitCmd) (ps : List (Nat × Nat)) {s : State} (hi : ArbiterIdle s) :
    ∃ w, Fetched 9 s w ∧ blitRun c ps s = blitStarted c ps w := by
  obtain ⟨w, hw, hf⟩ := dramReads_idle (id := 9) (by decide) (blitBursts c ps s) hi
  refine ⟨w, hf, ?_⟩
  rw [blitRun, hw]
  rfl

theorem b2n_le_one (b : Bool) : b2n b ≤ 1 := by cases b <;> decide

theorem blitDir_lt (c : BlitCmd) : blitDir c < 4 := by
  have h1 := b2n_le_one (decide (c.src.y < c.dst.y))
  have h2 := b2n_le_one (decide (c.src.x < c.dst.x))
  unfold blitDir
  dsimp only
  split <;> omega

theorem blitStarted_busy (c : BlitCmd) (ps : List (Nat × Nat)) (s : State) : bltBusy (blitStarted c ps s) = true :=
  (onF_setF_other _ _ _ _ _ rfl).trans (onF_setF_self _ _ _ 1 rfl)

theorem blitStarted_dir (c : BlitCmd) (ps : List (Nat × Nat)) (s : State) :
    getF (blitStarted c ps s) P.BLT_STAT F.BLT_STAT_dir = blitDir c :=
  (getF_setF_self _ _ _ _ rfl).trans (Nat.mod_eq_of_lt (blitDir_lt c))

theorem blitStarted_regsBut (c : BlitCmd) (ps : List (Nat × Nat)) (s : State) :
    RegsBut s (blitStarted c ps s) [P.BLT_STAT, P.MEM_RANK 9] :=
  RegsBut.trans (RegsBut.mono (blitWrites_regsBut c ps s) (by simp))
    (RegsBut.trans (RegsBut.setF _ _ _ (by simp)) (RegsBut.setF _ _ _ (by simp)))

/-- A command that runs has its destination pixels written from the memory before it, and nothing else. -/
theorem blitRun_writes (c : BlitCmd) (n : Nat) (ps : List (Nat × Nat)) {s v : State} (hv : Fetched 9 s v) :
    ∃ t f, blitRun (c.withFormat n) ps v = t ∧ RegsBut s t (P.BLT_STAT :: dramKeys 9) ∧ bltBusy t = true ∧
      getF t P.BLT_STAT F.BLT_STAT_dir = blitDir c ∧ t.blt.tag = BitVec.ofNat 32 c.tag ∧ t.blt.irq = c.irq ∧
      t.mem = (pixelsWritten { s with free := f } (c.withFormat n) ps { s with free := f }).mem ∧
      ∀ key, key ∉ surfaceBytes (c.withFormat n) c.dst ps → Tab.find t.mem key = Tab.find s.mem key := by
  let c' := c.withFormat n
  obtain ⟨w, hw, hrun⟩ := blitRun_starts c' ps hv.idle
  have hf := hv.trans hw
  have hsame := hf.sameBlit (by decide)
  have hmem : (blitStarted c' ps w).mem =
      (pixelsWritten { s with free := w.free } c' ps { s with free := w.free }).mem :=
    (blitWrites_mem c' ps w).trans (hsame.pixelsWritten c' ps hsame).mem
  have hblt : (blitStarted c' ps w).blt = ⟨blitFlux w c' ps, BitVec.ofNat 32 c.tag, c.irq⟩ := blitWrites_blt c' ps w
  refine ⟨blitStarted c' ps w, w.free, hrun, ?_, blitStarted_busy c' ps w, blitStarted_dir c' ps w, congrArg Blit.tag hblt,
    congrArg Blit.irq hblt, hmem, fun key hk => ?_⟩
  · exact RegsBut.trans (RegsBut.mono hf.only.regs fun _ hk => List.mem_cons_of_mem _ hk)
      (RegsBut.mono (blitStarted_regsBut c' ps w) (by simp [dramKeys]))
  · rw [hmem]
    exact find_pixelsWritten_out hk _ _

theorem pixelsWritten_withFormat (s : State) (c : BlitCmd) (n : Nat) (ps : List (Nat × Nat)) (t : State) :
    pixelsWritten s (c.withFormat n) ps t = ps.foldl (fun t p =>
      pixelWrite c.dst n (c.dst.x + p.1) (c.dst.y + p.2) (blitValue s (c.withFormat n) p.1 p.2) t) t := rfl

/-- A command that passes its checks for whatever format it takes runs. -/
theorem blitStart_runs {op : Nat} {s : State} (h : TakesHead s) (hop : (blitCmd s).op = op)
    (hclip : clipsInDram s (blitCmd s))
    (hok : ∀ n, (blitCmd s).takes n → blitCode ((blitCmd s).withFormat n) = 0 ∧
      blitStop s ((blitCmd s).withFormat n) (blitPixels s (blitCmd s)) = none) :
    ∃ v n, Fetched 9 s v ∧ (blitCmd s).takes n ∧
      blitStart op s = .next (blitRun ((blitCmd s).withFormat n) (blitPixels s (blitCmd s)) v) := by
  obtain ⟨v, n, hv, hn, hstart⟩ := blitStart_judges h hop hclip fun n hn => (hok n hn).1
  rw [(hok n hn).2] at hstart
  exact ⟨v, n, hv, hn, hstart⟩

/-- A command that the manual leaves unpredictable whatever format it takes stops the model. -/
theorem blitStart_stops {op : Nat} {s : State} {e : Fault} (h : TakesHead s) (hop : (blitCmd s).op = op)
    (hclip : clipsInDram s (blitCmd s))
    (hstop : ∀ n, (blitCmd s).takes n → blitCode ((blitCmd s).withFormat n) = 0 ∧
      blitStop s ((blitCmd s).withFormat n) (blitPixels s (blitCmd s)) = some e) : blitStart op s = .fault e := by
  obtain ⟨v, n, -, hn, hstart⟩ := blitStart_judges h hop hclip fun n hn => (hstop n hn).1
  rw [hstart, (hstop n hn).2]
  rfl

/-! ## Completion (R181) -/

/-- The registers at a command's completion: the head advances, the tag is loaded and cmd_done set when the command asks for
it. -/
def blitDone (s : State) : State :=
  let s1 := setF s P.BLT_HEAD F.BLT_HEAD_index ((bltHead s + 1) % ringLen s)
  let s2 := setReg s1 P.BLT_DONE_TAG s.blt.tag
  let s3 := if s.blt.irq then setF s2 P.BLT_STAT F.BLT_STAT_cmd_done 1 else s2
  setF s3 P.BLT_STAT F.BLT_STAT_busy 0

theorem exec_blitComplete {s : State} (hon : bltOn s = true) (hb : bltBusy s = true) (hw : tagWaits 9 blitTag s = false) :
    exec .blitComplete s = .next (pmcEvent 0x090 0 1 (setBlt Blit.reset (blitDone s))) := by
  show execBlitComplete s = _
  rw [execBlitComplete, hon, hb, hw]
  rfl

theorem blitDone_onlyRegs (s : State) : OnlyRegs s (blitDone s) [P.BLT_HEAD, P.BLT_DONE_TAG, P.BLT_STAT] := by
  unfold blitDone
  extract_lets s1 s2 s3
  have h2 : OnlyRegs s s2 [P.BLT_HEAD, P.BLT_DONE_TAG, P.BLT_STAT] :=
    OnlyRegs.trans (OnlyRegs.setF s _ _ (by simp)) (OnlyRegs.setReg _ _ (by simp))
  exact OnlyRegs.trans (OnlyRegs.ite (OnlyRegs.trans h2 (OnlyRegs.setF _ _ _ (by simp))) h2) (OnlyRegs.setF _ _ _ (by simp))

theorem blitDone_spec (s : State) :
    bltHead (blitDone s) = (bltHead s + 1) % ringLen s % 4096 ∧ getReg (blitDone s) P.BLT_DONE_TAG = s.blt.tag ∧
    bltBusy (blitDone s) = false ∧
    onF (blitDone s) P.BLT_STAT F.BLT_STAT_cmd_done = (onF s P.BLT_STAT F.BLT_STAT_cmd_done || s.blt.irq) := by
  have hht : P.BLT_HEAD ≠ P.BLT_DONE_TAG := by decide
  have hhs : P.BLT_HEAD ≠ P.BLT_STAT := by decide
  have hts : P.BLT_DONE_TAG ≠ P.BLT_STAT := by decide
  unfold blitDone
  extract_lets s1 s2 s3
  have hhead : bltHead s2 = (bltHead s + 1) % ringLen s % 4096 :=
    (getF_setReg_ne _ _ _ hht).trans (getF_setF_self _ _ _ _ rfl)
  have htag : getReg s2 P.BLT_DONE_TAG = s.blt.tag := getReg_setReg_same _ _ _
  have hdone : onF s2 P.BLT_STAT F.BLT_STAT_cmd_done = onF s P.BLT_STAT F.BLT_STAT_cmd_done :=
    (onF_setReg_ne _ _ _ hts.symm).trans (onF_setF_ne _ _ _ _ hhs.symm)
  have h3 : bltHead s3 = bltHead s2 ∧ getReg s3 P.BLT_DONE_TAG = getReg s2 P.BLT_DONE_TAG ∧
      onF s3 P.BLT_STAT F.BLT_STAT_cmd_done = (onF s2 P.BLT_STAT F.BLT_STAT_cmd_done || s.blt.irq) := by
    cases hirq : s.blt.irq with
    | false => simp [s3, hirq]
    | true =>
      simp only [s3, hirq, if_true, Bool.or_true]
      exact ⟨getF_setF_ne _ _ _ _ hhs, getReg_setF_ne _ _ _ hts, onF_setF_self _ _ _ 1 rfl⟩
  obtain ⟨h3head, h3tag, h3done⟩ := h3
  exact ⟨(getF_setF_ne _ _ _ _ hhs).trans (h3head.trans hhead), (getReg_setF_ne _ _ _ hts).trans (h3tag.trans htag),
    onF_setF_self _ _ _ 0 rfl, (onF_setF_other _ _ _ _ _ rfl).trans (h3done.trans (by rw [hdone]))⟩

/-! ## The ring's registers (R182, R192) -/

theorem exec_bltTailWrite {m : Master} {s : State} (hr : s.reaches m true P.BLT_TAIL = true) (tail : Fin 4096) :
    exec (.bltTailWrite m tail) s = .next (setF s P.BLT_TAIL F.BLT_TAIL_index tail) :=
  gate_reaches (fun s => .next (setF s P.BLT_TAIL F.BLT_TAIL_index tail)) hr

theorem exec_blitStop {m : Master} {s : State} (hr : s.reaches m true P.BLT_CTRL = true) :
    exec (.blitStop m) s = .next (setF s P.BLT_CTRL F.BLT_CTRL_run 0) :=
  gate_reaches (fun s => .next (setF s P.BLT_CTRL F.BLT_CTRL_run 0)) hr

/-- The register that a write of the ring's configuration names: BLT_RING_SIZE or BLT_RING_BASE. -/
def ringPort (size : Bool) : Nat := if size then P.BLT_RING_SIZE else P.BLT_RING_BASE

/-- The field that it writes. -/
def ringField (size : Bool) : Fld := if size then F.BLT_RING_SIZE_log2 else F.BLT_RING_BASE_base

theorem exec_ringConfig {m : Master} {size : Bool} {s : State} (hr : s.reaches m true (ringPort size) = true)
    (v : BitVec 29) : exec (.ringConfig m size v) s = ringWrite size (v.setWidth 32) s :=
  gate_reaches _ hr

theorem specOf_ringPort : ∀ size : Bool, specOf (ringPort size) =
    some ⟨ringPort size, [], [⟨ringField size, .rw, if size then 4 else 0⟩]⟩ := by decide +kernel

theorem codesOf_ringPort : ∀ size : Bool, codesOf (ringPort size) =
    if size then [(P.BLT_RING_SIZE, F.BLT_RING_SIZE_log2, List.range 13)] else [] := by decide +kernel

/-- The field of the word that RING_CONFIG writes holds the size's logarithm, or the base. -/
theorem ringField_get (size : Bool) (v : BitVec 29) :
    (ringField size).get (v.setWidth 32) = if size then v.toNat % 16 else v.toNat := by
  have hv : v.toNat % 2 ^ 32 = v.toNat := Nat.mod_eq_of_lt (lt_trans v.isLt (by decide))
  have hb : v.toNat % 2 ^ 29 = v.toNat := Nat.mod_eq_of_lt v.isLt
  rw [Fld.get, BitVec.toNat_setWidth, hv]
  cases size with
  | false => exact hb
  | true => rfl

theorem encodingOk_ringPort {size : Bool} {v : BitVec 29} (h : size = true → v.toNat % 16 ≤ 12) :
    encodingOk (ringPort size) (v.setWidth 32) = true := by
  rw [encodingOk, codesOf_ringPort]
  cases size with
  | false => rfl
  | true =>
    have hg : F.BLT_RING_SIZE_log2.get (v.setWidth 32) = v.toNat % 16 := ringField_get true v
    have hl := h rfl
    simp [hg]
    omega

/-- A word whose codes are listed is stored as it is. -/
theorem listedWord_of_encodingOk {p : Nat} {v : Word} (h : encodingOk p v = true) (s : State) : listedWord p v s = v := by
  rw [encodingOk, List.all_eq_true] at h
  exact List.foldlRecOn (motive := fun w => w = v) _ _ rfl fun w hw e he => by rw [hw, if_pos (h e he)]

theorem drawCode_of_encodingOk {p : Nat} {v : Word} (h : encodingOk p v = true) (s : State) : drawCode p v s = s :=
  if_pos h

/-- A listed value is stored in the ring's register. -/
theorem codeWrite_ringPort {size : Bool} {v : BitVec 29} (h : size = true → v.toNat % 16 ≤ 12) (s : State) :
    codeWrite (ringPort size) (v.setWidth 32) s =
      setF s (ringPort size) (ringField size) ((ringField size).get (v.setWidth 32)) := by
  have hok := encodingOk_ringPort h
  rw [codeWrite_eq (specOf_ringPort size), listedWord_of_encodingOk hok, drawCode_of_encodingOk hok]
  rfl

/-- The ring configured: its register written, head and tail 0. -/
def ringSet (size : Bool) (v : BitVec 29) (s : State) : State :=
  setReg (setReg (setF s (ringPort size) (ringField size) ((ringField size).get (v.setWidth 32))) P.BLT_HEAD 0) P.BLT_TAIL 0

theorem ringWrite_ignored {size : Bool} {v : Word} {s : State}
    (h : onF s P.BLT_CTRL F.BLT_CTRL_run = true ∨ bltBusy s = true) : ringWrite size v s = .next s :=
  if_pos (by rwa [Bool.or_eq_true])

theorem ringWrite_sets {size : Bool} {v : BitVec 29} {s : State} (hr : onF s P.BLT_CTRL F.BLT_CTRL_run = false)
    (hb : bltBusy s = false) (h : size = true → v.toNat % 16 ≤ 12) :
    ringWrite size (v.setWidth 32) s = .next (ringSet size v s) := by
  rw [ringWrite, hr, hb, ringSet, ← codeWrite_ringPort h]
  rfl

theorem ringPort_apart : ∀ size : Bool, ringPort size ≠ P.BLT_HEAD ∧ ringPort size ≠ P.BLT_TAIL := by decide

theorem ringField_inWord : ∀ size : Bool, (ringField size).inWord = true := by decide

theorem ringSet_field (size : Bool) (v : BitVec 29) (s : State) :
    getF (ringSet size v s) (ringPort size) (ringField size) = if size then v.toNat % 16 else v.toNat := by
  obtain ⟨hh, ht⟩ := ringPort_apart size
  rw [ringSet, getF_setReg_ne _ _ _ ht, getF_setReg_ne _ _ _ hh, getF_setF_self _ _ _ _ (ringField_inWord size),
    ← ringField_get]
  exact Nat.mod_mod _ _

theorem bltHead_ringSet (size : Bool) (v : BitVec 29) (s : State) : bltHead (ringSet size v s) = 0 := by
  have hne : P.BLT_HEAD ≠ P.BLT_TAIL := by decide
  rw [bltHead, getF, ringSet, getReg_setReg_ne _ _ hne, getReg_setReg_same]
  rfl

theorem bltTail_ringSet (size : Bool) (v : BitVec 29) (s : State) : bltTail (ringSet size v s) = 0 := by
  rw [bltTail, getF, ringSet, getReg_setReg_same]
  rfl

theorem ringSet_onlyRegs (size : Bool) (v : BitVec 29) (s : State) :
    OnlyRegs s (ringSet size v s) [P.BLT_RING_BASE, P.BLT_RING_SIZE, P.BLT_HEAD, P.BLT_TAIL] :=
  OnlyRegs.trans (OnlyRegs.trans (OnlyRegs.setF s _ _ (by cases size <;> simp [ringPort])) (OnlyRegs.setReg _ _ (by simp)))
    (OnlyRegs.setReg _ _ (by simp))

/-! ## The statement -/

/-- Settles O40: idle arbiters let the engine read its command at once; the command is judged by the memory before it
(reserved bits are not looked at, log 150; the lowest code of several failures is the model's choice, log 79), and what it
writes is the fold of its pixels over that memory. -/
theorem blitCommands : Obligations.BlitCommands := by
  unfold Obligations.BlitCommands
  refine ⟨?_, fun s hon hb hw => ?_, fun m tail s hr => ?_, fun m s hr => ?_,
    fun m size v s hr => ⟨fun h => ?_, fun h1 h2 h3 => ?_⟩⟩
  · intro Runs
    have hruns : ∀ op i, (∀ s, exec i s = blitStart op s) → Runs op i := by
      intro op i hi s hon hrun hbusy hwaits hentry hidle hcmd hpixels c ps form
      have h : TakesHead s := ⟨hon, hrun, hbusy, hwaits, hentry, hidle, hcmd, hpixels⟩
      rw [hi]
      refine ⟨fun hop => ?_, fun hop => blitStart_fails h (.inl hop), fun hop hclip hok => ?_,
        fun e hop hclip => blitStart_stops h hop hclip⟩
      · have hcode : ∀ n, blitCode (c.withFormat n) = 1 := fun n => blitCode_reserved hop
        obtain ⟨t, n, -, ht, honly, hmem, -, herr, hwhy⟩ := blitStart_fails (op := op) h (.inr hop) fun n _ => by
          rw [hcode]; decide
        exact ⟨t, ht, honly, hmem, herr, hwhy.trans (hcode n)⟩
      · obtain ⟨v, n, hv, hn, hstart⟩ := blitStart_runs h hop hclip hok
        obtain ⟨t, f, hrun, hregs, hbusy, hdir, htag, hirq, hmem, hout⟩ := blitRun_writes c n ps hv
        rw [pixelsWritten_withFormat] at hmem
        exact ⟨t, n, f, hn, hstart.trans (congrArg _ hrun), hregs, hbusy, hdir, htag, hirq, hmem, hout⟩
    exact ⟨hruns 0 _ fun _ => rfl, hruns 1 _ fun _ => rfl, hruns 2 _ fun _ => rfl⟩
  · obtain ⟨hhead, htag, hbusy, hdone⟩ := blitDone_spec s
    have honly := blitDone_onlyRegs s
    have hmem : (blitDone s).mem = s.mem := by rw [honly.1]
    exact ⟨_, exec_blitComplete hon hb hw, hhead, htag, hbusy, hdone, honly.2, hmem⟩
  · exact ⟨_, exec_bltTailWrite hr tail, OnlyRegs.setF s _ _ (by simp),
      (getF_setF_self _ _ _ _ rfl).trans (Nat.mod_eq_of_lt tail.isLt)⟩
  · exact ⟨_, exec_blitStop hr, OnlyRegs.setF s _ _ (by simp), onF_setF_self _ _ _ 0 rfl⟩
  · rw [exec_ringConfig hr, ringWrite_ignored h]
  · refine ⟨_, (exec_ringConfig hr v).trans (ringWrite_sets h1 h2 h3), bltHead_ringSet size v s, bltTail_ringSet size v s,
      ringSet_onlyRegs size v s, ?_, ?_⟩
    · rintro rfl
      exact congrArg (2 ^ ·) (ringSet_field true v s)
    · rintro rfl
      exact ringSet_field false v s

end Sys2Proof.Machine
end

section
/-! SUPPORT. What a tilt may change, as an induction over its work: whatever property outlasts a write of each register that
tilt writes, and a change of each part of the state that it works on, outlasts the tilt. -/
namespace Sys2Proof.Machine

/-- A register of a block that tilt writes to: SYS, the clusters' tolerances, the ledger, the sequencers, composers and
outputs, KTL_CTRL, start-up, and the cores' own. -/
def tiltWrites (key : Nat) : Prop :=
  key < 0x10000 ∨ (0x60200 ≤ key ∧ key < 0x60210) ∨ (0xE0000 ≤ key ∧ key < 0xF0000) ∨
    (0x180000 ≤ key ∧ key < 0x1E0000) ∨ (0x200000 ≤ key ∧ key < 0x200004) ∨ 0x3F0000 ≤ key

theorem tiltWrites_timingPort : ∀ d : Fin 4, ∀ i : Fin 5, tiltWrites (timingPort d i) := by
  unfold tiltWrites; decide

/-- What tilt changes keeps the property: each register that it may write, and the parts of the state that it works on. -/
structure TiltClosed (Q : State → Prop) : Prop where
  register : ∀ {t : State} {key : Nat} (v : Word), tiltWrites key → Q t → Q (setReg t key v)
  parts : ∀ {t : State} (c : Vector Cluster 4) (l : Ledger) (x : Trust) (p : Power) (k : Kettle) (y : Tilt), Q t →
    Q { t with clu := c, ldg := l, sec := x, pwr := p, ktl := k, tilt := y }

section
variable {Q : State → Prop} (hQ : TiltClosed Q) {t : State} (h : Q t)
include hQ h

theorem TiltClosed.setReg {key : Nat} (v : Word) (hk : tiltWrites key := by
      simp only [tiltWrites, own, P.KTL_CTRL, P.SYS_TILT_LAST, P.SYS_TILT_TIME_LO, P.SYS_TILT_TIME_HI, P.SYS_TILT,
        P.SYS_TILT_CNT, P.EPH_CTRL, P.EPH_STAT, P.SEC_DRBG_PSTAT, P.SEC_DRBG_OUT, P.LDG_STAT, P.LDG_MEV_STAT,
        P.LDG_BOOTCNT, P.CFG_STOP, P.CFG_STAT, P.DSP_CTRL, P.DSP_STAT, P.DSP_TRAIN, P.DSP_LINK, P.CMP_CTRL, P.MEM_LTR_D]
      omega) : Q (setReg t key v) := hQ.register v hk h

theorem TiltClosed.setClu (d : Fin 4) (c : Cluster) : Q (setClu d c t) := hQ.parts (t.clu.set d c) _ _ _ _ _ h

theorem TiltClosed.setLdg (l : Ledger) : Q (setLdg l t) := hQ.parts _ l _ _ _ _ h

theorem TiltClosed.withSec (x : Trust) : Q { t with sec := x } := hQ.parts _ _ x _ _ _ h

theorem TiltClosed.withPwr (p : Power) : Q { t with pwr := p } := hQ.parts _ _ _ p _ _ h

theorem TiltClosed.withKtl (k : Kettle) : Q { t with ktl := k } := hQ.parts _ _ _ _ k _ h

theorem TiltClosed.withTilt (y : Tilt) : Q { t with tilt := y } := hQ.parts _ _ _ _ _ y h

omit hQ in
theorem foldl_keeps {α : Type} {f : State → α → State} (xs : List α) (hf : ∀ u x, Q u → Q (f u x)) :
    Q (xs.foldl f t) :=
  List.foldlRecOn (motive := Q) xs f h fun u hu x _ => hf u x hu

/-! ## The units (R469) -/

theorem TiltClosed.kettleTilt : Q (kettleTilt t) :=
  iteInduction (fun _ => hQ.withKtl (hQ.setReg (key := P.KTL_CTRL) h _) _) fun _ => h

theorem TiltClosed.haltCluster (d : Fin 4) : Q (haltCluster d t) := hQ.setClu (hQ.setReg (hQ.setReg h _) _) d _

theorem TiltClosed.discardUnread (k : Fin 8) : Q (discardUnread k t) := by
  unfold Machine.discardUnread
  extract_lets n s1 s2 s3
  have h2 : Q s2 := foldl_keeps (hQ.setReg h _) _ fun _ i hu => hQ.setReg hu _
  exact hQ.withSec (hQ.setReg h2 _) _

theorem TiltClosed.mevEnd (k result : Nat) : Q (mevEnd k result t) := hQ.setReg (hQ.setReg (hQ.setReg h _) _) _

theorem TiltClosed.logEvent (e : LogEvent) : Q (logEvent e t) :=
  iteInduction (fun _ => hQ.setLdg (hQ.setLdg h _) _) fun _ => h

theorem TiltClosed.endQueued (result : Nat) : Q (endQueued result t) := by
  have h1 := foldl_keeps h t.ldg.events fun _ e hu => hQ.mevEnd hu e.1 result
  exact foldl_keeps (hQ.setLdg (hQ.setLdg (hQ.setLdg h1 _) _) _) _ fun _ x hu => hQ.logEvent hu x.2

theorem TiltClosed.freezeMeters : Q (freezeMeters t) := by
  unfold Machine.freezeMeters
  extract_lets l s1
  have h1 : Q s1 := by
    unfold s1
    split
    · exact iteInduction (fun _ => hQ.mevEnd (hQ.setLdg h _) _ 3) fun _ => h
    · exact h
  exact hQ.setReg (hQ.endQueued h1 3) _

theorem TiltClosed.ledgerTilt (code : Nat) : Q (ledgerTilt code t) :=
  iteInduction (fun _ => hQ.freezeMeters h) fun _ => hQ.logEvent (hQ.freezeMeters h) _

/-! ## The stop of start-up (R357, R359) -/

theorem TiltClosed.declareMode (d : Fin 4) (mode : Nat) (refused : Bool) : Q (declareMode d mode refused t) :=
  iteInduction (fun _ => h) fun _ => iteInduction (fun _ => hQ.setReg h _) fun _ =>
    iteInduction (fun _ => hQ.setReg h _) fun _ => h

theorem TiltClosed.modeWrite (d : Fin 4) (mode : Nat) : Q (modeWrite d mode t) := by
  unfold Machine.modeWrite
  extract_lets b s1
  have h1 : Q s1 := hQ.setClu h d _
  refine iteInduction (fun _ => ?_) fun _ => h1
  unfold modeLive
  extract_lets refused s2 s3
  have h2 : Q s2 := hQ.setReg h1 _
  have h3 : Q s3 := iteInduction (fun _ => hQ.setReg h2 _) fun _ => h2
  exact hQ.declareMode (hQ.setClu h3 d _) d mode refused

theorem TiltClosed.timingWrite (d : Fin 4) (i : Fin 5) (v : Word) : Q (timingWrite d i v t) :=
  iteInduction (fun _ => hQ.setReg (hQ.setClu h d _) v (tiltWrites_timingPort d i)) fun _ => hQ.setClu h d _

theorem TiltClosed.startTraining (d : Fin 4) : Q (startTraining d t) :=
  iteInduction (fun _ => hQ.setReg h _) fun _ =>
    hQ.setReg (hQ.setReg (hQ.withPwr (hQ.setClu (hQ.setReg h _) d _) _) _) _

theorem TiltClosed.loadD0 (ws : List Nat) (edp : Bool) : Q (loadD0 ws edp t) :=
  hQ.setReg (hQ.setReg (hQ.setReg (foldl_keeps h _ fun _ i hu => hQ.timingWrite hu 0 i _) _) _) _

theorem TiltClosed.stopShows : Q (stopShows t) := by
  unfold Machine.stopShows
  extract_lets s1
  have h1 : Q s1 := iteInduction (fun _ => hQ.loadD0 h _ _) fun _ => hQ.setReg (hQ.loadD0 h _ _) _
  exact iteInduction (fun _ => hQ.modeWrite h1 0 2) fun _ => iteInduction (fun _ => h1) fun _ => hQ.startTraining h1 0

theorem TiltClosed.countBoot : Q (countBoot t) :=
  iteInduction (fun _ => hQ.setReg (hQ.setLdg (hQ.setLdg h _) _) _) fun _ => h

theorem TiltClosed.bootStop (code sect : Nat) : Q (bootStop code sect t) := by
  unfold Machine.bootStop
  extract_lets s1 s2 s3 r
  have h1 : Q s1 := hQ.setReg (hQ.setReg (hQ.stopShows h) _) _
  have h2 : Q s2 := iteInduction (fun _ => hQ.countBoot h1) fun _ => h1
  have h3 : Q s3 := hQ.logEvent h2 _
  exact iteInduction (fun _ => iteInduction (fun _ => hQ.setLdg h3 _) fun _ => hQ.setLdg h3 _) fun _ => h3

/-! ## The tilt -/

theorem TiltClosed.unitsSeeTilt (code : Nat) : Q (unitsSeeTilt code t) := by
  unfold Machine.unitsSeeTilt
  extract_lets s0 s1 s2
  have h0 : Q s0 := foldl_keeps (hQ.kettleTilt h) _ fun _ d hu => hQ.haltCluster hu d
  have h1 : Q s1 := foldl_keeps h0 _ fun _ k hu => hQ.discardUnread hu k
  have h2 : Q s2 := hQ.ledgerTilt h1 code
  exact iteInduction (fun _ => hQ.bootStop h2 16 0) fun _ => h2

theorem TiltClosed.latchLoaded (code : Nat) : Q (latchLoaded code t) :=
  hQ.setReg (hQ.setReg (hQ.setReg (hQ.setReg h _) _) _) _

/-- A property that tilt's changes keep outlasts a tilt request, whatever becomes of the request. -/
theorem TiltClosed.raiseTilt (code : Nat) : Q (raiseTilt code t) := by
  unfold Machine.raiseTilt
  refine iteInduction (fun _ => h) fun _ => iteInduction (fun _ => hQ.setReg h _) fun _ => ?_
  rw [captureTilt_eq]
  exact hQ.unitsSeeTilt (hQ.withTilt (hQ.latchLoaded h code) _) code

end

/-! ## What tilt leaves of the analogue core -/

/-- Tilt works on nothing of the analogue core. -/
theorem raiseTilt_aas (code : Nat) (s : State) : (raiseTilt code s).aas = s.aas :=
  TiltClosed.raiseTilt (Q := fun t => t.aas = s.aas) ⟨fun _ _ h => h, fun _ _ _ _ _ _ h => h⟩ rfl code

/-- A register that tilt never writes is as it was. -/
theorem raiseTilt_getReg (code : Nat) {key : Nat} (hk : ¬tiltWrites key) (s : State) :
    getReg (raiseTilt code s) key = getReg s key :=
  TiltClosed.raiseTilt (Q := fun t => getReg t key = getReg s key)
    ⟨fun v hw h => (getReg_setReg_ne _ v (by rintro rfl; exact hk hw)).trans h, fun _ _ _ _ _ _ h => h⟩ rfl code

end Sys2Proof.Machine
end

section
/-! THEOREM. Class-D faults and calibration. -/
namespace Sys2Proof.Machine

/-! ## Faults (R217) -/

/-- AAS_STAT with the fault bit of output o set and the tilt's cause noted, unless a cause stands. -/
def cdNoted (o : Fin 8) (cause : Nat) (s : State) : State :=
  let u := setF s P.AAS_STAT F.AAS_STAT_cd_fault (getF s P.AAS_STAT F.AAS_STAT_cd_fault + 2 ^ o.val)
  if getF u P.AAS_STAT F.AAS_STAT_tilt_cause = 0 then setF u P.AAS_STAT F.AAS_STAT_tilt_cause cause else u

theorem exec_cdFault {o : Fin 8} {s : State} (hp : s.powered 35 = true) (he : s.aas.enabled.getLsbD o = true)
    (hb : (getF s P.AAS_STAT F.AAS_STAT_cd_fault).testBit o = false) (collapsed : Bool) :
    exec (.cdFault o collapsed) s = .next (raiseTilt (0x2000 + if collapsed then 1 else 2)
      (setAas { s.aas with playing := s.aas.playing.set o [] } (cdNoted o (if collapsed then 1 else 2) s))) := by
  rw [exec, execCdFault, hp, he, hb]
  rfl

theorem cdNoted_onlyRegs (o : Fin 8) (cause : Nat) (s : State) : OnlyRegs s (cdNoted o cause s) [P.AAS_STAT] := by
  have h : ∀ u f n, OnlyRegs u (setF u P.AAS_STAT f n) [P.AAS_STAT] := fun u f n => OnlyRegs.setF u f n (by simp)
  exact OnlyRegs.ite (OnlyRegs.trans (h s _ _) (h _ _ _)) (h s _ _)

theorem cdNoted_pwr (o : Fin 8) (cause : Nat) (s : State) : (cdNoted o cause s).pwr = s.pwr := by
  rw [(cdNoted_onlyRegs o cause s).1]

theorem cdNoted_tilt (o : Fin 8) (cause : Nat) (s : State) : (cdNoted o cause s).tilt = s.tilt := by
  rw [(cdNoted_onlyRegs o cause s).1]

/-- Bit o, clear in a number, is set once 2 ^ o is added, and lies below bit 8. -/
theorem testBit_added_mod {n : Nat} {o : Fin 8} (h : n.testBit o = false) : ((n + 2 ^ o.val) % 2 ^ 8).testBit o = true := by
  rw [Nat.testBit_mod_two_pow, Nat.add_comm, Nat.testBit_two_pow_add_eq, h]
  simp

theorem cdNoted_fault {o : Fin 8} {s : State} (hb : (getF s P.AAS_STAT F.AAS_STAT_cd_fault).testBit o = false)
    (cause : Nat) : (getF (cdNoted o cause s) P.AAS_STAT F.AAS_STAT_cd_fault).testBit o = true := by
  unfold cdNoted
  extract_lets u
  have hu : (getF u P.AAS_STAT F.AAS_STAT_cd_fault).testBit o = true := by
    rw [getF_setF_self _ _ _ _ rfl]
    exact testBit_added_mod hb
  split
  · rwa [getF_setF_other _ _ _ _ _ rfl]
  · exact hu

theorem cdNoted_cause (o : Fin 8) {cause : Nat} (hc : cause < 4) (s : State) :
    getF (cdNoted o cause s) P.AAS_STAT F.AAS_STAT_tilt_cause =
      if getF s P.AAS_STAT F.AAS_STAT_tilt_cause = 0 then cause else getF s P.AAS_STAT F.AAS_STAT_tilt_cause := by
  unfold cdNoted
  extract_lets u
  have hu : getF u P.AAS_STAT F.AAS_STAT_tilt_cause = getF s P.AAS_STAT F.AAS_STAT_tilt_cause :=
    getF_setF_other _ _ _ _ _ rfl
  rw [hu]
  split
  · exact (getF_setF_self _ _ _ _ rfl).trans (Nat.mod_eq_of_lt hc)
  · exact hu

/-! ## Requests (R220) -/

theorem exec_aasCalReq {m : Master} {s : State} (hr : s.reaches m true P.AAS_CAL_REQ = true) (v : BitVec 12) :
    exec (.aasCalReq m v) s = .next (calRequest (v.setWidth 32) s.audioAccess) :=
  gate_reaches (fun s => .next (calRequest (v.setWidth 32) s.audioAccess)) hr

theorem calRequest_cal (v : Word) (s : State) (u : Fin 12) : (calRequest v s).aas.cal[u] =
    if s.aas.cal[u].isSome then s.aas.cal[u] else if v.getLsbD u then some ⟨0, 0⟩ else none := by
  simp only [calRequest, setAas, Fin.getElem_fin, Vector.getElem_ofFn, setReg_aas]
  cases s.aas.cal[u.val] <;> rfl

/-- A request's twelve bits are all of a word that names units. -/
theorem unitBits_and_mask (v : BitVec 12) : v.setWidth 32 &&& 0xFFF = v.setWidth 32 := by
  refine BitVec.eq_of_toNat_eq ?_
  rw [BitVec.toNat_and, BitVec.toNat_setWidth_of_le (by omega)]
  exact (Nat.and_two_pow_sub_one_eq_mod _ 12).trans (Nat.mod_eq_of_lt v.isLt)

theorem calRequest_request (v : BitVec 12) (s : State) :
    getReg (calRequest (v.setWidth 32) s) P.AAS_CAL_REQ = getReg s P.AAS_CAL_REQ ||| v.setWidth 32 := by
  have h : getReg (calRequest (v.setWidth 32) s) P.AAS_CAL_REQ = getReg s P.AAS_CAL_REQ ||| (v.setWidth 32 &&& 0xFFF) :=
    getReg_setReg_same s _ _
  rwa [unitBits_and_mask] at h

theorem calRequest_regs (v : Word) (s : State) : RegsBut s (calRequest v s) [P.AAS_CAL_REQ] :=
  RegsBut.setReg s _ (List.mem_singleton.2 rfl)

/-! ## Steps (R221, R222) -/

/-- The steps of a unit's calibration: 8 of a modulator, 4 of an ADC. -/
def calSteps (u : Fin 12) : Nat := if u.val < 8 then 8 else 4

/-- What the last step of unit u leaves: its report, its done bit set, and its request answered. -/
def calReported (u : Fin 12) (rpt : BitVec 28) (s : State) : State :=
  let s := setReg s (rptPort u) (rpt.setWidth 32)
  let s := setReg s P.AAS_CAL_DONE (getReg s P.AAS_CAL_DONE ||| BitVec.ofNat 32 (1 <<< u.val))
  setReg s P.AAS_CAL_REQ (getReg s P.AAS_CAL_REQ &&& ~~~ BitVec.ofNat 32 (1 <<< u.val))

section
variable {u : Fin 12} {c : Calibration} {s : State} (hc : s.aas.cal[u] = some c) (hp : calPeriods ≤ c.periods)
include hc hp

theorem exec_calibrationStep (rpt : BitVec 28) : exec (.calibrationStep u rpt) s =
    if c.steps + 1 < calSteps u then .next (setAas { s.aas with cal := s.aas.cal.set u (some ⟨c.steps + 1, 0⟩) } s)
    else if u.val < 8 ∧ s.aas.zeros.toList.getD u.val 0 < 480 then .next s
    else .next (setAas { s.aas with cal := s.aas.cal.set u none } (calReported u rpt s)) := by
  simp only [exec, execCalibrationStep, hc, if_neg (Nat.not_lt.2 hp)]
  rfl

theorem exec_calibrationStep_last (rpt : BitVec 28) (hs : calSteps u ≤ c.steps + 1)
    (hz : ∀ h : u.val < 8, 480 ≤ s.aas.zeros[u.val]) : exec (.calibrationStep u rpt) s =
      .next (setAas { s.aas with cal := s.aas.cal.set u none } (calReported u rpt s)) := by
  have hidle : ¬(u.val < 8 ∧ s.aas.zeros.toList.getD u.val 0 < 480) := by
    rintro ⟨h8, hlt⟩
    have hget : s.aas.zeros.toList.getD u.val 0 = s.aas.zeros[u.val] := by simp [h8]
    exact absurd (hz h8) (by omega)
  rw [exec_calibrationStep hc hp, if_neg (Nat.not_lt.2 hs), if_neg hidle]

end

theorem rptPort_range (u : Fin 12) : 0x240100 ≤ rptPort u ∧ rptPort u < 0x240200 := by
  unfold rptPort P.AAS_CD_RPT P.AAS_MIC_RPT
  split <;> omega

theorem rptPort_injective : Function.Injective rptPort := by decide

theorem unitBit_self (u : Fin 12) : (BitVec.ofNat 32 (1 <<< u.val)).getLsbD u = true := by
  simp only [BitVec.getLsbD_ofNat, Nat.one_shiftLeft, Nat.testBit_two_pow_self, Bool.and_true, decide_eq_true_eq]
  omega

section
variable (u : Fin 12) (rpt : BitVec 28) (s : State)

theorem calReported_report : getReg (calReported u rpt s) (rptPort u) = rpt.setWidth 32 := by
  obtain ⟨h1, -⟩ := rptPort_range u
  unfold calReported
  rw [getReg_setReg_ne _ _ (by unfold P.AAS_CAL_REQ; omega), getReg_setReg_ne _ _ (by unfold P.AAS_CAL_DONE; omega),
    getReg_setReg_same]

theorem calReported_done : (getReg (calReported u rpt s) P.AAS_CAL_DONE).getLsbD u = true := by
  unfold calReported
  rw [getReg_setReg_ne _ _ (by decide), getReg_setReg_same, BitVec.getLsbD_or, unitBit_self, Bool.or_true]

theorem calReported_answered : (getReg (calReported u rpt s) P.AAS_CAL_REQ).getLsbD u = false := by
  unfold calReported
  rw [getReg_setReg_same, BitVec.getLsbD_and, BitVec.getLsbD_not, unitBit_self, Bool.not_true, Bool.and_false, Bool.and_false]

theorem calReported_regs : RegsBut s (calReported u rpt s) [rptPort u, P.AAS_CAL_DONE, P.AAS_CAL_REQ] :=
  RegsBut.trans (RegsBut.setReg s _ (by simp)) (RegsBut.trans (RegsBut.setReg _ _ (by simp)) (RegsBut.setReg _ _ (by simp)))

end

/-! ## Power-up (R220) -/

/-- The reports of the units us. -/
def unitsReported (rpts : List (BitVec 28)) (us : List (Fin 12)) (s : State) : State :=
  us.foldl (fun t u => setReg t (rptPort u) ((rpts.getD u.val 0).setWidth 32)) s

theorem exec_powerUpCalibrationDone {s : State} (hu : s.aas.powerUp = true) (hp : s.powered 35 = true)
    (rpts : List (BitVec 28)) : exec (.powerUpCalibrationDone rpts) s =
      .next (setAas { (unitsReported rpts (List.finRange 12) s).aas with powerUp := false }
        (unitsReported rpts (List.finRange 12) s)) := by
  rw [exec, execPowerUpCalibrationDone, hu, hp]
  rfl

theorem unitsReported_onlyRegs (rpts : List (BitVec 28)) (us : List (Fin 12)) (s : State) :
    OnlyRegs s (unitsReported rpts us s) (us.map rptPort) :=
  onlyRegs_foldl us (fun _ hu _ => OnlyRegs.setReg _ _ (List.mem_map_of_mem hu)) s

theorem unitsReported_report (rpts : List (BitVec 28)) {u : Fin 12} {us : List (Fin 12)} (hn : us.Nodup) (hu : u ∈ us)
    (s : State) : getReg (unitsReported rpts us s) (rptPort u) = (rpts.getD u.val 0).setWidth 32 := by
  induction us generalizing s with
  | nil => exact nomatch hu
  | cons w us ih =>
    obtain ⟨hw, hn⟩ := List.nodup_cons.1 hn
    rcases List.mem_cons.1 hu with rfl | hu
    · have hlater : rptPort u ∉ us.map rptPort := fun h => hw ((List.mem_map_of_injective rptPort_injective).1 h)
      exact ((unitsReported_onlyRegs rpts us _).2 _ hlater).trans (getReg_setReg_same _ _ _)
    · exact ih hn hu _

/-- Settles O42: tilt writes nothing of the analogue core, so that a fault's bit and cause outlast it; a request, a step
and the power-up calibration each come to one change of the analogue core and the registers of their units (that the
power-up calibration sets no done bit is the model's choice, log 88). -/
theorem analogue : Obligations.Analogue := by
  unfold Obligations.Analogue
  refine ⟨fun o collapsed s hp he hb hr ht => ?_, fun m v s hr => ?_, fun u rpt c s hc hp =>
    ⟨fun hs => ?_, fun hs hz => ?_⟩, fun rpts s hu hp => ?_⟩
  · intro cause
    have hstat : ∀ code t, getReg (raiseTilt code t) P.AAS_STAT = getReg t P.AAS_STAT := fun code t =>
      raiseTilt_getReg code (by unfold tiltWrites P.AAS_STAT; omega) t
    have hcause : cause < 4 := by unfold cause; split <;> decide
    refine ⟨_, exec_cdFault hp he hb collapsed, raiseTilt_code _ ?_ ?_, ?_, ?_, ?_⟩
    · exact (congrArg Power.inReset (cdNoted_pwr o cause s)).trans hr
    · exact (congrArg Tilt.code (cdNoted_tilt o cause s)).trans ht
    · rw [getF, hstat]
      exact cdNoted_fault hb cause
    · rw [raiseTilt_aas]
      exact Vector.getElem_set_self _
    · rw [getF, hstat]
      exact cdNoted_cause o hcause s
  · refine ⟨_, exec_aasCalReq hr v, calRequest_request v s.audioAccess, calRequest_regs _ _, fun u => ?_⟩
    rw [calRequest_cal, BitVec.getLsbD_setWidth, decide_eq_true (by omega), Bool.true_and]
    rfl
  · exact ⟨_, (exec_calibrationStep hc hp rpt).trans (if_pos hs), Vector.getElem_set_self _, rfl⟩
  · exact ⟨_, exec_calibrationStep_last hc hp rpt hs hz, Vector.getElem_set_self _, calReported_report u rpt s,
      calReported_done u rpt s, calReported_answered u rpt s, calReported_regs u rpt s⟩
  · have honly := unitsReported_onlyRegs rpts (List.finRange 12) s
    have haas : (unitsReported rpts (List.finRange 12) s).aas = s.aas := by rw [honly.1]
    exact ⟨_, exec_powerUpCalibrationDone hu hp rpts, by rw [haas]; rfl,
      fun u => unitsReported_report rpts (List.nodup_finRange 12) (List.mem_finRange u) s, honly.2⟩

end Sys2Proof.Machine
end

section
/-! SUPPORT. What is listed and stored where bytes have been written or erased. -/
namespace Sys2Proof.Machine

/-- What a key reads as hangs on what is listed there, on the stream buffers and on the free values. -/
theorem stored_of_find {s t : State} {key : Nat} (hm : Tab.find t.mem key = Tab.find s.mem key) (hc : t.clu = s.clu)
    (hf : t.free = s.free) : t.stored key = s.stored key := by
  unfold State.stored
  rw [hm, streamed_congr hc, hf]

/-- Each byte written is listed at its key, unless an unlisted byte reads as the same there. -/
theorem Memory.find_writeBytes_in (bs : List Byte) : ∀ (m : List Host.Cell) (key i : Nat) (h : i < bs.length),
    Tab.find (Memory.writeBytes m key bs) (key + i) = if absentByte (key + i) = some bs[i] then none else some bs[i] := by
  induction bs with
  | nil => exact fun _ _ _ h => nomatch h
  | cons b bs ih =>
    intro m key i h
    cases i with
    | zero => exact (Memory.find_writeBytes_out bs _ _ _ (.inl (Nat.lt_succ_self key))).trans (Memory.find_write_same m key b)
    | succ i =>
      have hrest := ih (Memory.write m key b) (key + 1) i (Nat.lt_of_succ_lt_succ h)
      rwa [Nat.add_right_comm] at hrest

/-- A key with a byte in canonical form reads as that byte, outside what a sequencer has copied. -/
theorem stored_of_canonical {s t : State} {key : Nat} {b : Byte} (hc : t.clu = s.clu) (hst : s.streamed key = false)
    (hf : Tab.find t.mem key = if absentByte key = some b then none else some b) : t.stored key = b := by
  unfold State.stored
  rw [hf, streamed_congr hc, hst]
  by_cases ha : absentByte key = some b
  · simp [ha]
  · simp [ha]

theorem eraseRange_find_out {lo hi a : Nat} (h : a < lo ∨ hi ≤ a) (s : State) :
    Tab.find (eraseRange lo hi s).mem a = Tab.find s.mem a := by
  have hkeep : (!(decide (lo ≤ a) && decide (a < hi))) = true := by simp; omega
  exact (Tab.find_filter_key (fun k => !(decide (lo ≤ k) && decide (k < hi))) s.mem a).trans (if_pos hkeep)

theorem eraseRange_find_in {lo hi a : Nat} (h1 : lo ≤ a) (h2 : a < hi) (s : State) :
    Tab.find (eraseRange lo hi s).mem a = none := by
  have hgone : ¬(!(decide (lo ≤ a) && decide (a < hi))) = true := by simp [h1, h2]
  exact (Tab.find_filter_key (fun k => !(decide (lo ≤ k) && decide (k < hi))) s.mem a).trans (if_neg hgone)

end Sys2Proof.Machine
end

section
/-! THEOREM. The cells of memory. -/
namespace Sys2Proof.Machine

/-- Settles O6: bytes in canonical form read as what was written, and neither a write nor an erasure changes what is
listed elsewhere. -/
theorem memoryCells : Obligations.MemoryCells := by
  unfold Obligations.MemoryCells
  refine fun s key bs => ⟨fun i h hst => ?_, fun a ha => ?_, fun hwf => ⟨State.wf_writeBytes s key bs hwf, fun lo hi =>
    ⟨wf_eraseRange lo hi s hwf, fun a ha => stored_of_find (eraseRange_find_out ha s) rfl rfl⟩⟩⟩
  · exact stored_of_canonical (s := s) rfl hst (Memory.find_writeBytes_in bs s.mem key i h)
  · exact stored_of_find (Memory.find_writeBytes_out bs s.mem key a ha) rfl rfl

end Sys2Proof.Machine
end

section
/-! SUPPORT. An instruction that comes to one new core and nothing else. -/
namespace Sys2Proof.Machine

/-- An instruction that waits for nothing and whose body leaves c', with watchpoints, stepping and port drive as they were. -/
theorem isaRun_becomes {h : Hdr} {clk len : Nat} {a : Accepts} {s : State} {body : Body} {c' : Core}
    (he : executes h len a s = true)
    (hb : body s.cores[h.core].unshadowed (nextPc h len s) (pmcEvent 2 h.core 1 s) =
      complete h.core c' (pmcEvent 2 h.core 1 s))
    (hw : c'.watchHit = s.cores[h.core].watchHit) (hs : c'.stepping = s.cores[h.core].stepping)
    (ho : c'.privOut = s.cores[h.core].privOut) (hp : c'.privPast = s.cores[h.core].privPast) :
    ∃ t, isaRun h clk len a true body s = .next t ∧ OnlyCore h.core s t ∧ Becomes s.cores[h.core] t.cores[h.core] c' := by
  refine ⟨_, isaRun_complete h clk len a body s c' he hb hw hs, onlyCore_setCore _ _ _ _ _, ?_⟩
  rw [setCore_fin]
  exact becomes_agedBy _ _ _ ho hp

/-- A privileged operation in supervisor mode is its body. -/
theorem privileged_supervisor {k : CoreId} {c : Core} (hu : c.user = false) (body : Body) (npc : Word) (s : State) :
    privileged k body c.unshadowed npc s = body c.unshadowed npc s := by
  rw [privileged, unshadowed_user, hu]
  rfl

end Sys2Proof.Machine
end

section
/-! THEOREM. The SYS group in supervisor mode. -/
namespace Sys2Proof.Machine

/-- MTF's SR takes the flags from the register and keeps the mode bits. -/
theorem mtfSr_flags (sr : BitVec 7) (g : Word) {i : Nat} (hi : i < 4) :
    ((sr &&& 0x70) ||| (g.setWidth 7 &&& 0x0F)).getLsbD i = g.getLsbD i := by
  interval_cases i <;> simp

theorem mtfSr_modes (sr : BitVec 7) (g : Word) {i : Nat} (hi : 4 ≤ i) :
    ((sr &&& 0x70) ||| (g.setWidth 7 &&& 0x0F)).getLsbD i = sr.getLsbD i := by
  by_cases h7 : i < 7
  · interval_cases i <;> simp
  · rw [BitVec.getLsbD_of_ge _ _ (by omega), BitVec.getLsbD_of_ge _ _ (by omega)]

/-- Settles O12: each instruction's body completes with one new core; the privileged ones are their bodies in supervisor
mode. -/
theorem systemInstructions : Obligations.SystemInstructions := by
  unfold Obligations.SystemInstructions
  intro h r s he c pc
  simp only [exec]
  refine ⟨?_, ?_, fun hu => ⟨?_, ?_, ?_, ?_, ?_⟩⟩
  · exact isaRun_becomes he rfl rfl rfl rfl rfl
  · have hmtf : ∃ t, execMtf h r s = .next t ∧ OnlyCore h.core s t ∧ Becomes c t.cores[h.core]
        { c with sr := (c.sr &&& 0x70) ||| (c.g[r].setWidth 7 &&& 0x0F), pc := pc, eiShadow := false } :=
      isaRun_becomes he rfl rfl rfl rfl rfl
    obtain ⟨t, ht, ho, hb⟩ := hmtf
    exact ⟨t, ht, ho, _, hb, fun i hi => mtfSr_flags _ _ hi, fun i hi => mtfSr_modes _ _ hi⟩
  · exact isaRun_becomes he (privileged_supervisor hu _ _ _) rfl rfl rfl rfl
  · exact isaRun_becomes he (privileged_supervisor hu _ _ _) rfl rfl rfl rfl
  · exact isaRun_becomes he (privileged_supervisor hu _ _ _) rfl rfl rfl rfl
  · exact isaRun_becomes he (privileged_supervisor hu _ _ _) rfl rfl rfl rfl
  · refine isaRun_becomes he ((privileged_supervisor hu _ _ _).trans ?_) rfl rfl rfl rfl
    rw [returnFromException, setCore_fin, State.setCore_setCore]
    rfl

end Sys2Proof.Machine
end

section
/-! SUPPORT. What writes to SYS_CORE_CTRL and the debug port make of a core. -/
namespace Sys2Proof.Machine

theorem State.setCore_self (s : State) (k : CoreId) : s.setCore k s.cores[k] = s := by
  unfold State.setCore
  rw [Fin.getElem_fin, Vector.set_getElem_self]

theorem setCore_other {s : State} {k j : CoreId} (hj : j ≠ k) (c : Core) : (s.setCore k c).cores[j] = s.cores[j] := by
  rw [Fin.getElem_fin, State.setCore_ne _ _ _ fun e => hj (Fin.ext e), Fin.getElem_fin]

/-! ## Running, stopping and resetting -/

/-- A core once its run is set: one in its reset state begins at the entry, a stopped one goes on (R237). -/
def Core.released (c : Core) (entry : Word) : Core :=
  if c.run then c
  else if c.fresh then { c with run := true, fresh := false, pc := entry }
  else { c with run := true }

theorem coreRelease_eq (k : CoreId) (s : State) :
    coreRelease k s = s.setCore k (s.cores[k].released (getReg s (P.SYS_CORE_ENTRY k))) := by
  unfold coreRelease Core.released
  dsimp only
  split
  · exact (State.setCore_self s k).symm
  · split <;> rfl

/-- What a write to SYS_CORE_CTRL leaves of a core, or of the core that its reset has left (R237, R240). -/
def Core.controlled (c : Core) (run ugpio : Bool) (entry : Word) : Core :=
  if run then { c with ugpio := ugpio }.released entry else { c with ugpio := ugpio, run := false }

theorem Core.controlled_running {c : Core} (h : c.run = true) (ugpio : Bool) (entry : Word) :
    c.controlled true ugpio entry = { c with ugpio := ugpio } := if_pos h

theorem Core.controlled_stopped {c : Core} (h : c.run = false) (hf : c.fresh = false) (ugpio : Bool) (entry : Word) :
    c.controlled true ugpio entry = { c with ugpio := ugpio, run := true } := by
  simp only [Core.controlled, Core.released, h, hf, if_true, Bool.false_eq_true, if_false]

theorem Core.controlled_fresh {c : Core} (h : c.run = false) (hf : c.fresh = true) (ugpio : Bool) (entry : Word) :
    c.controlled true ugpio entry = { c with ugpio := ugpio, run := true, fresh := false, pc := entry } := by
  simp only [Core.controlled, Core.released, h, hf, if_true, Bool.false_eq_true, if_false]

theorem coreCtrlValue_fields : ∀ run reset ugpio : Bool,
    F.SYS_CORE_CTRL_run.on (coreCtrlValue run reset ugpio) = run ∧
    F.SYS_CORE_CTRL_reset.on (coreCtrlValue run reset ugpio) = reset ∧
    F.SYS_CORE_CTRL_ugpio.on (coreCtrlValue run reset ugpio) = ugpio := by decide

/-- A write to SYS_CORE_CTRL while start-up does not stand stopped is one change of the core, after its reset where reset is
written. -/
theorem coreCtrlWrite_eq {s : State} (hb : bootStage s ≠ 7) (k : CoreId) (run reset ugpio : Bool) {t : State}
    (ht : t = if reset then coreReset k (pmcSettle s) else pmcSettle s) :
    coreCtrlWrite k (coreCtrlValue run reset ugpio) s =
      t.setCore k (t.cores[k].controlled run ugpio (getReg s (P.SYS_CORE_ENTRY k))) := by
  obtain ⟨h1, h2, h3⟩ := coreCtrlValue_fields run reset ugpio
  have hregs : ∀ c, (t.setCore k c).regs = s.regs := fun c => by
    rw [ht]
    cases reset
    · exact pmcSettle_regs s
    · exact pmcSettle_regs s
  have hstage : ∀ c, bootStage (t.setCore k c) ≠ 7 := fun c => by
    rwa [bootStage, getF, getReg_congr (hregs c)]
  have hw : coreCtrlWrite k (coreCtrlValue run reset ugpio) s =
      (let u := t.setCore k { t.cores[k] with ugpio := ugpio }
       if run then (if bootStage u = 7 then u else coreRelease k u) else u.setCore k { u.cores[k] with run := false }) := by
    rw [ht]
    unfold coreCtrlWrite
    rw [h1, h2, h3]
  rw [hw, Core.controlled]
  dsimp only
  cases run
  · rw [if_neg Bool.false_ne_true, if_neg Bool.false_ne_true, setCore_fin, State.setCore_setCore]
  · rw [if_pos rfl, if_pos rfl, if_neg (hstage _), coreRelease_eq, setCore_fin, State.setCore_setCore,
      getReg_congr (hregs _)]

/-- Counters that have taken their count and a core that is set differ from the state before in nothing else. -/
theorem settled_setCore (s : State) (k : CoreId) (c : Core) :
    ∃ t, (pmcSettle s).setCore k c = t ∧ t = { s.setCore k c with pmc := t.pmc, free := t.free } := by
  refine ⟨_, rfl, ?_⟩
  rw [pmcSettle_only]
  rfl

/-- What a write to SYS_CORE_CTRL without reset makes of the state. -/
theorem coreCtrlWrite_running {s : State} (hb : bootStage s ≠ 7) (k : CoreId) (run ugpio : Bool) :
    ∃ t, coreCtrlWrite k (coreCtrlValue run false ugpio) s = t ∧
      t = { s.setCore k (s.cores[k].controlled run ugpio (getReg s (P.SYS_CORE_ENTRY k))) with
        pmc := t.pmc, free := t.free } := by
  rw [coreCtrlWrite_eq hb k run false ugpio rfl]
  simp only [Bool.false_eq_true, if_false, pmcSettle_cores]
  exact settled_setCore s k _

/-- The core that a core reset leaves (R237). -/
def Core.afterReset (c : Core) : Core :=
  { Core.reset with attached := c.attached, breaks := c.breaks, watches := c.watches, privOut := c.privOut,
                    ugpio := c.ugpio, holdoff := c.holdoff }

theorem coreReset_core (k : CoreId) (s : State) : (coreReset k s).cores[k] = s.cores[k].afterReset := setCore_fin s k _

theorem coreReset_other {j k : CoreId} (hj : j ≠ k) (s : State) : (coreReset k s).cores[j] = s.cores[j] :=
  setCore_other hj _

theorem coreReset_erased (k : CoreId) (s : State) (a : Nat) :
    Tab.find (coreReset k s).mem (ramKey k a) = none ∨ 0x10000000000 ≤ a := by
  by_cases ha : 0x10000000000 ≤ a
  · exact .inr ha
  · exact .inl (eraseRange_find_in (by unfold ramKey; omega) (by unfold ramKey; omega) _)

theorem coreReset_spares {k : CoreId} {key : Nat} (h : key < ramKey k 0 ∨ ramKey (k.val + 1) 0 ≤ key) (s : State) :
    Tab.find (coreReset k s).mem key = Tab.find s.mem key := eraseRange_find_out h _

/-- A core reset and the run that is applied to it (R237). -/
theorem controlled_afterReset (c : Core) (run ugpio : Bool) (entry : Word) :
    c.afterReset.controlled run ugpio entry =
      { c.afterReset with ugpio := ugpio, run := run, fresh := !run, pc := if run then entry else 0 } := by
  cases run <;> rfl

theorem exec_coreRun {m : Master} {k : CoreId} {s : State} (hr : s.reaches m true (P.SYS_CORE_CTRL k) = true)
    (ugpio : Bool) :
    exec (.coreRun m k ugpio) s = .next (coreCtrlWrite k (coreCtrlValue true false ugpio) s) := by
  simp only [exec, execCoreRun, gate_reaches _ hr]

theorem exec_coreStop {m : Master} {k : CoreId} {s : State} (hr : s.reaches m true (P.SYS_CORE_CTRL k) = true)
    (ugpio : Bool) :
    exec (.coreStop m k ugpio) s = .next (coreCtrlWrite k (coreCtrlValue false false ugpio) s) := by
  simp only [exec, execCoreStop, gate_reaches _ hr]

theorem exec_coreReset {m : Master} {k : CoreId} {s : State} (hr : s.reaches m true (P.SYS_CORE_CTRL k) = true)
    (run ugpio : Bool) :
    exec (.coreReset m k run ugpio) s = .next (coreCtrlWrite k (coreCtrlValue run true ugpio) s) := by
  simp only [exec, execCoreReset, gate_reaches _ hr]

/-! ## The debug port -/

theorem core_of_setCore {k : CoreId} {s t : State} {c : Core} (h : t = s.setCore k c) : t.cores[k] = c := by
  rw [h, setCore_fin]

/-- The debug port's operations change its core and the bus's data alone. -/
theorem debugOp_only (k : CoreId) (o : DebugOp) (s : State) :
    debugOp k o s = { s.setCore k (debugOp k o s).cores[k] with rdata := (debugOp k o s).rdata } := by
  have hset : ∀ c : Core, s.setCore k c =
      { s.setCore k (s.setCore k c).cores[k] with rdata := (s.setCore k c).rdata } := fun c => by rw [setCore_fin]
  have hrd : ∀ w : Word, ({ s with rdata := w } : State) = { s.setCore k s.cores[k] with rdata := w } := fun w => by
    rw [State.setCore_self]
  have hid : s = { s.setCore k s.cores[k] with rdata := s.rdata } := by rw [State.setCore_self]
  cases o with
  | attach | detach | resume | setBreak | setWatch => exact hset _
  | halt | step | writeG | writeAc | writeSr | writePc =>
    unfold debugOp
    dsimp only
    split
    · exact hset _
    · exact hid
  | readG | readAc | readSr | readPc =>
    unfold debugOp
    dsimp only
    split
    · exact hrd _
    · exact hid
  | readPort => exact hid

theorem exec_debugHalt {k : CoreId} {o : DebugOp} {s : State} (hp : s.powered 39 = true) (ho : ∀ p, o ≠ .readPort p) :
    exec (.debugHalt k o) s = .next (debugOp k o s) := by
  simp only [exec]
  cases o with
  | readPort p => exact absurd rfl (ho p)
  | _ => exact if_pos hp

theorem exec_debugHalt_readPort {k : CoreId} {p : BitVec 24} {s : State} (hp : s.powered 39 = true) :
    exec (.debugHalt k (.readPort p)) s = debugRead p.toNat s := by
  simp only [exec]
  exact if_pos hp

end Sys2Proof.Machine
end

section
/-! THEOREM. Running, resetting, stopping, halting and stepping a core. -/
namespace Sys2Proof.Machine

/-- Settles O20: a write to SYS_CORE_CTRL is one change of its core once the counters have taken their counts, and each of
the debug port's operations is its arm of debugOp. -/
theorem coreControlAndDebug : Obligations.CoreControlAndDebug := by
  unfold Obligations.CoreControlAndDebug
  refine ⟨fun m k ugpio s hr hb => ?_, fun k p s hp => ⟨fun hoff => ?_, fun ho hon => ?_⟩, fun k o s hp ho => ?_⟩
  · intro c Sets
    refine ⟨?_, ?_, fun run => ?_⟩
    · obtain ⟨t, ht, hs⟩ := coreCtrlWrite_running hb k true ugpio
      refine ⟨t, (exec_coreRun hr ugpio).trans (congrArg _ ht), fun h => ?_, fun h hf => ?_, fun h hf => ?_⟩
      · rwa [Core.controlled_running h] at hs
      · rwa [Core.controlled_stopped h hf] at hs
      · rwa [Core.controlled_fresh h hf] at hs
    · obtain ⟨t, ht, hs⟩ := coreCtrlWrite_running hb k false ugpio
      exact ⟨t, (exec_coreStop hr ugpio).trans (congrArg _ ht), hs⟩
    · have hw := coreCtrlWrite_eq hb k run true ugpio rfl
      rw [if_pos rfl, coreReset_core, controlled_afterReset, pmcSettle_cores] at hw
      refine ⟨_, (exec_coreReset hr run ugpio).trans (congrArg _ hw), ?_, fun j hj => ?_, ?_⟩
      · rw [coreReset, pmcSettle_only]
        rfl
      · rw [setCore_other hj, coreReset_other hj, pmcSettle_cores]
      · rw [setCore_fin]
        refine ⟨fun r => ?_, fun a => ?_, rfl, rfl, rfl, rfl, rfl, rfl, rfl, rfl, rfl, fun h => if_pos h,
          coreReset_erased k _, fun key h => ?_⟩
        · exact Vector.getElem_replicate ..
        · exact Vector.getElem_replicate ..
        · exact (coreReset_spares h _).trans (by rw [pmcSettle_only])
  · rw [exec_debugHalt_readPort hp, debugRead, gate_debug_off _ hoff]
    rfl
  · rw [exec_debugHalt_readPort hp, debugRead, gate_reaches]
    rw [State.reaches, ho, hon]
    rfl
  · refine ⟨_, exec_debugHalt hp ho, debugOp_only k o s, fun hd => ⟨?_, ?_, ?_, ?_⟩, ?_, ?_, ?_, ?_, ?_, ?_, ?_, ?_, ?_,
      ?_, ?_, fun hd h => ?_⟩
    · rintro r rfl; exact congrArg State.rdata (if_pos hd)
    · rintro rfl; exact congrArg State.rdata (if_pos hd)
    · rintro rfl; exact congrArg State.rdata (if_pos hd)
    · rintro a part rfl; exact congrArg State.rdata (if_pos hd)
    · rintro rfl; exact setCore_fin ..
    · rintro rfl; exact setCore_fin ..
    · rintro rfl hrun; exact core_of_setCore (if_pos hrun)
    · rintro rfl hd; exact core_of_setCore (if_pos hd)
    · rintro rfl; exact setCore_fin ..
    · rintro i a rfl; exact setCore_fin ..
    · rintro i a rfl; exact setCore_fin ..
    · rintro r v rfl hd; exact core_of_setCore (if_pos hd)
    · rintro a v rfl hd; exact core_of_setCore (if_pos hd)
    · rintro v rfl hd; exact core_of_setCore (if_pos hd)
    · rintro v rfl hd; exact core_of_setCore (if_pos hd)
    · have hn : ¬ s.cores[k].inDebug = true := by rw [hd]; exact Bool.false_ne_true
      rcases h with ⟨r, v, rfl⟩ | ⟨a, v, rfl⟩ | ⟨v, rfl⟩ | ⟨v, rfl⟩ <;> exact if_neg hn

end Sys2Proof.Machine
end

section
/-! SUPPORT. What the entry of an exception leaves. -/
namespace Sys2Proof.Machine

/-- The registers that the entry of an exception loads (R235). -/
def exceptionKeys (k : CoreId) : List Nat :=
  [P.SYS_XPC k, P.SYS_XSR k, P.SYS_XCAUSE k, P.SYS_XADDR_LO k, P.SYS_XADDR_HI k]

theorem exceptionKeys_nodup (k : CoreId) : (exceptionKeys k).Nodup := by
  simp [exceptionKeys, P.SYS_XPC, P.SYS_XSR, P.SYS_XCAUSE, P.SYS_XADDR_LO, P.SYS_XADDR_HI]

theorem vbase_not_mem_exceptionKeys (k : CoreId) : P.SYS_VBASE k ∉ exceptionKeys k := by
  simp [exceptionKeys, P.SYS_VBASE, P.SYS_XPC, P.SYS_XSR, P.SYS_XCAUSE, P.SYS_XADDR_LO, P.SYS_XADDR_HI]

theorem loadXaddr_onlyRegs (k : CoreId) (a : Option Nat) (s : State) :
    OnlyRegs s (loadXaddr k a s) [P.SYS_XADDR_LO k, P.SYS_XADDR_HI k] := by
  cases a with
  | none => exact OnlyRegs.refl s _
  | some a =>
    exact OnlyRegs.trans (OnlyRegs.setReg s _ List.mem_cons_self) (OnlyRegs.setReg _ _ (List.mem_cons_of_mem _ List.mem_cons_self))

/-- The state with the exception's registers loaded and its core as it was. -/
def exceptionSaved (k : CoreId) (e : Exn) (pc : Word) (xa : Option Nat) (s : State) : State :=
  let s1 := setReg (setReg (setReg (pmcEvent 7 k 1 s) (P.SYS_XPC k) pc) (P.SYS_XSR k) (s.cores[k].sr.setWidth 32))
    (P.SYS_XCAUSE k) (BitVec.ofNat 32 e.num)
  if e.hasAddress then loadXaddr k xa s1 else s1

/-- The core that an exception enters with (R235). -/
def Core.entered (c : Core) (vbase : Word) (e : Exn) : Core :=
  { c with
    sr := c.srEntered
    pc := (vbase &&& 0xFFFFFF00) + BitVec.ofNat 32 (32 * e.num)
    halted := false
    eiShadow := false
    privPast := agePast 4 c.privPast }

/-- What the exception's registers hold once they are loaded. -/
structure ExceptionSaved (k : CoreId) (e : Exn) (pc : Word) (xa : Option Nat) (s t : State) : Prop where
  only : t = { s with regs := t.regs, pmc := t.pmc }
  regs : RegsBut s t (exceptionKeys k)
  xpc : getReg t (P.SYS_XPC k) = pc
  xsr : getReg t (P.SYS_XSR k) = s.cores[k].sr.setWidth 32
  xcause : getReg t (P.SYS_XCAUSE k) = BitVec.ofNat 32 e.num
  kept : xa = none ∨ e.hasAddress = false → getReg t (P.SYS_XADDR_LO k) = getReg s (P.SYS_XADDR_LO k) ∧
    getReg t (P.SYS_XADDR_HI k) = getReg s (P.SYS_XADDR_HI k)
  loaded : ∀ a, xa = some a → e.hasAddress = true → getReg t (P.SYS_XADDR_LO k) = BitVec.ofNat 32 a ∧
    getReg t (P.SYS_XADDR_HI k) = BitVec.ofNat 32 (a / 0x100000000 % 256)

theorem exceptionSaved_saved (k : CoreId) (e : Exn) (pc : Word) (xa : Option Nat) (s : State) :
    ExceptionSaved k e pc xa s (exceptionSaved k e pc xa s) := by
  let s1 := setReg (setReg (setReg (pmcEvent 7 k 1 s) (P.SYS_XPC k) pc) (P.SYS_XSR k) (s.cores[k].sr.setWidth 32))
    (P.SYS_XCAUSE k) (BitVec.ofNat 32 e.num)
  have hx : OnlyRegs s1 (exceptionSaved k e pc xa s) [P.SYS_XADDR_LO k, P.SYS_XADDR_HI k] := by
    unfold exceptionSaved
    dsimp only
    split
    · exact loadXaddr_onlyRegs k xa s1
    · exact OnlyRegs.refl s1 _
  obtain ⟨⟨h12, h13, h14, h15⟩, ⟨h23, h24, h25⟩, ⟨h34, h35⟩, h45⟩ :
      (P.SYS_XPC k ≠ P.SYS_XSR k ∧ P.SYS_XPC k ≠ P.SYS_XCAUSE k ∧ P.SYS_XPC k ≠ P.SYS_XADDR_LO k ∧
        P.SYS_XPC k ≠ P.SYS_XADDR_HI k) ∧
      (P.SYS_XSR k ≠ P.SYS_XCAUSE k ∧ P.SYS_XSR k ≠ P.SYS_XADDR_LO k ∧ P.SYS_XSR k ≠ P.SYS_XADDR_HI k) ∧
      (P.SYS_XCAUSE k ≠ P.SYS_XADDR_LO k ∧ P.SYS_XCAUSE k ≠ P.SYS_XADDR_HI k) ∧
      P.SYS_XADDR_LO k ≠ P.SYS_XADDR_HI k := by
    simpa [exceptionKeys] using exceptionKeys_nodup k
  have hs1 : ∀ key, key ≠ P.SYS_XPC k → key ≠ P.SYS_XSR k → key ≠ P.SYS_XCAUSE k → getReg s1 key = getReg s key :=
    fun key n1 n2 n3 => (getReg_setReg_ne _ _ n3).trans ((getReg_setReg_ne _ _ n2).trans (getReg_setReg_ne _ _ n1))
  have hout : ∀ key, key ≠ P.SYS_XADDR_LO k → key ≠ P.SYS_XADDR_HI k →
      getReg (exceptionSaved k e pc xa s) key = getReg s1 key := fun key n1 n2 => hx.2 key (by simp [n1, n2])
  have hlo : getReg s1 (P.SYS_XADDR_LO k) = getReg s (P.SYS_XADDR_LO k) := hs1 _ h14.symm h24.symm h34.symm
  have hhi : getReg s1 (P.SYS_XADDR_HI k) = getReg s (P.SYS_XADDR_HI k) := hs1 _ h15.symm h25.symm h35.symm
  refine ⟨by rw [hx.1]; rfl, fun key hk => ?_, (hout _ h14 h15).trans ?_, (hout _ h24 h25).trans ?_,
    (hout _ h34 h35).trans (getReg_setReg_same _ _ _), fun h => ?_, fun a ha he => ?_⟩
  · simp only [exceptionKeys, List.mem_cons, List.not_mem_nil, or_false, not_or] at hk
    obtain ⟨n1, n2, n3, n4, n5⟩ := hk
    exact (hout _ n4 n5).trans (hs1 _ n1 n2 n3)
  · exact (getReg_setReg_ne _ _ h13).trans ((getReg_setReg_ne _ _ h12).trans (getReg_setReg_same _ _ _))
  · exact (getReg_setReg_ne _ _ h23).trans (getReg_setReg_same _ _ _)
  · have hsame : exceptionSaved k e pc xa s = s1 := by
      unfold exceptionSaved
      dsimp only
      rcases h with rfl | h
      · split <;> rfl
      · rw [h, if_neg Bool.false_ne_true]
    rw [hsame]
    exact ⟨hlo, hhi⟩
  · have hload : exceptionSaved k e pc xa s = setReg (setReg s1 (P.SYS_XADDR_LO k) (BitVec.ofNat 32 a))
        (P.SYS_XADDR_HI k) (BitVec.ofNat 32 ((a >>> 32) % 256)) := by
      unfold exceptionSaved
      dsimp only
      rw [if_pos he, ha]
      rfl
    rw [hload]
    refine ⟨(getReg_setReg_ne _ _ h45).trans (getReg_setReg_same _ _ _), (getReg_setReg_same _ _ _).trans ?_⟩
    rw [Nat.shiftRight_eq_div_pow]

/-- The entry of an exception while SR.ex is 0 is its registers loaded and its core entered. -/
theorem takeException_entered {k : CoreId} {s : State} (hx : s.cores[k].ex = false) (e : Exn) (pc : Word)
    (xa : Option Nat) : takeException k e pc xa s =
      (exceptionSaved k e pc xa s).setCore k (s.cores[k].entered (getReg s (P.SYS_VBASE k)) e) := by
  rw [← (exceptionSaved_saved k e pc xa s).regs _ (vbase_not_mem_exceptionKeys k), takeException]
  simp only [hx, Bool.false_eq_true, if_false]
  rfl

theorem takeException_core {k : CoreId} {s : State} (hx : s.cores[k].ex = false) (e : Exn) (pc : Word)
    (xa : Option Nat) :
    (takeException k e pc xa s).cores[k] = s.cores[k].entered (getReg s (P.SYS_VBASE k)) e := by
  rw [takeException_entered hx, setCore_fin]

/-- After an exception taken with no watched access and no single step nothing further happens. -/
theorem afterInstruction_takeException {k : CoreId} {s : State} (hx : s.cores[k].ex = false)
    (hw : s.cores[k].watchHit = none) (hs : s.cores[k].stepping = false) (e : Exn) (pc : Word) (xa : Option Nat) :
    afterInstruction k (takeException k e pc xa s) = takeException k e pc xa s := by
  have hc := takeException_core hx e pc xa
  exact afterInstruction_id k _ ((congrArg Core.watchHit hc).trans hw) ((congrArg Core.stepping hc).trans hs)

/-- A core whose SR.ex is 1 stops and raises tilt. -/
theorem takeException_double {k : CoreId} {s : State} (hx : s.cores[k].ex = true) (e : Exn) (pc : Word)
    (xa : Option Nat) : takeException k e pc xa s = raiseTilt (0x0300 + k.val)
      ((pmcSettle s).setCore k { s.cores[k] with run := false, eiShadow := false, stepping := false }) := by
  rw [takeException]
  exact if_pos hx

end Sys2Proof.Machine
end

section
/-! SUPPORT. Instructions that do not execute normally, and those that end in an exception. -/
namespace Sys2Proof.Machine

theorem isaRun_isaWait (h : Hdr) (clk len : Nat) (a : Accepts) (whole : Bool) (body : Body) (s : State) :
    ∃ clk' body', isaRun h clk len a whole body s = isaWait h clk' len a whole body' s := ⟨_, _, rfl⟩

/-- The form of a load or store is the same whether or not its port is in the I/O space. -/
theorem loadRun_isaWait (h : Hdr) (m : MemOp) (ext : Nat → Word) (s : State) :
    ∃ clk body, loadRun h m ext s = isaWait h clk (memLen m) accMem (memDefined false m) body s := by
  unfold loadRun
  split
  · exact isaRun_isaWait ..
  · exact ⟨_, _, rfl⟩

theorem storeRun_isaWait (h : Hdr) (m : MemOp) (s : State) :
    ∃ clk body, storeRun h m s = isaWait h clk (memLen m) accMem true body s := by
  unfold storeRun
  split
  · exact isaRun_isaWait ..
  · exact ⟨_, _, rfl⟩

/-- The dual-fetch MACs are defined where one pointer register serves both RAMs only unmoved (R259). -/
theorem macRun_isaWait (h : Hdr) (m : MacOp) (op : Acc72 → Acc72 → Acc72) (s : State) :
    ∃ clk body, macRun h m op s =
      isaWait h clk 3 accMac (decide (m.x = m.y → m.ix = 0 ∧ m.iy = 0)) body s := by
  have hd : decide (m.x = m.y → m.ix = 0 ∧ m.iy = 0) =
      !(decide (m.x = m.y) && (decide (m.ix ≠ 0) || decide (m.iy ≠ 0))) := by
    by_cases hxy : m.x = m.y <;> by_cases h1 : m.ix = 0 <;> by_cases h2 : m.iy = 0 <;> simp [hxy, h1, h2]
  rw [hd, macRun]
  exact isaRun_isaWait ..

/-- Every instruction of the cores runs by isaWait, with the length, prefixes and encoding of its form. -/
theorem exec_isaForm {i : Instr} {h : Hdr} {len : Nat} {a : Accepts} {whole : Bool}
    (hf : isaForm i = some (h, len, a, whole)) (s : State) :
    ∃ clk body, exec i s = isaWait h clk len a whole body s := by
  cases i with
  | nop | ret | branch | callRel | jmp | callRegister | rte | halt | brk | ei | di | mfsr | mtsr | mtf =>
    cases hf
    simp only [exec, execNop, execRet, execBranch, execCallRel, execJmp, execCallRegister, execRte, execHalt, execBrk,
      execEi, execDi, execMfsr, execMtsr, execMtf]
    exact isaRun_isaWait ..
  | add | adc | sub | sbc | andOp | orOp | xor | shl | shr | asr | ror | mul | mulhs | mulhu | divs | divu =>
    cases hf
    simp only [exec, execAdd, execAdc, execSub, execSbc, execAndOp, execOrOp, execXor, execShl, execShr, execAsr,
      execRor, execMul, execMulhs, execMulhu, execDivs, execDivu, aluRun]
    exact isaRun_isaWait ..
  | cmp | tst | mov | neg | notOp | sxb | sxh | zxb | zxh | clz =>
    cases hf
    simp only [exec, execCmp, execTst, execMov, execNeg, execNotOp, execSxb, execSxh, execZxb, execZxh, execClz, unaryRun]
    exact isaRun_isaWait ..
  | macr | msur | mpyr | macru | rda | wra =>
    cases hf
    simp only [exec, execMacr, execMsur, execMpyr, execMacru, execRda, execWra, accRun]
    exact isaRun_isaWait ..
  | mva | clra =>
    cases hf
    simp only [exec, execMva, execClra, Bool.decide_and]
    exact isaRun_isaWait ..
  | mac | msu | mpy =>
    cases hf
    simp only [exec, execMac, execMsu, execMpy]
    exact macRun_isaWait ..
  | xchg | cas | addm | andm | orm | xorm =>
    cases hf
    simp only [exec, execXchg, execCas, execAddm, execAndm, execOrm, execXorm, rmwRun]
    exact ⟨_, _, rfl⟩
  | push | pop | pushm | popm | ldi =>
    cases hf
    simp only [exec, execPush, execPop, execPushm, execPopm, execLdi, Bool.decide_and]
    exact ⟨_, _, rfl⟩
  | ld | lds =>
    cases hf
    simp only [exec, execLd, execLds]
    exact loadRun_isaWait ..
  | st =>
    cases hf
    simp only [exec, execSt]
    exact storeRun_isaWait ..
  | ioIn h f =>
    cases f <;> cases hf <;> simp only [exec, execIoIn]
    · exact isaRun_isaWait ..
    · exact loadRun_isaWait ..
  | ioOut h f =>
    cases f <;> cases hf <;> simp only [exec, execIoOut]
    · exact isaRun_isaWait ..
    · exact storeRun_isaWait ..
  | _ => cases hf

section
variable {h : Hdr} {clk len : Nat} {a : Accepts} {whole : Bool} {body : WaitBody} {s : State}

section
variable (hi : s.issues h.core = true) (hb : s.cores[h.core].breaks.contains (some s.cores[h.core].pc) = false)
  (hs : s.cores[h.core].stepping = false) (hw : s.cores[h.core].watchHit = none)
include hi hb hs hw

theorem isaWait_illegal (hx : s.cores[h.core].ex = false) (hg : (whole && prefixesOk a h.pfx && h.cond != 15) = false) :
    isaWait h clk len a whole body s = .next (takeException h.core .illegal s.cores[h.core].pc none s) := by
  rw [isaWait]
  simp only [hi, hb, hg, Bool.not_true, Bool.not_false, Bool.false_and, Bool.false_eq_true, if_true, if_false]
  rw [afterInstruction_takeException hx hw hs]

theorem isaWait_unfetchable (hx : s.cores[h.core].ex = false)
    (hg : (whole && prefixesOk a h.pfx && h.cond != 15) = true) {bad : Word}
    (hf : s.fetchFault h.core s.cores[h.core].pc (instrLen h len) = some bad) :
    isaWait h clk len a whole body s =
      .next (takeException h.core .access s.cores[h.core].pc (some bad.toNat) s) := by
  rw [instrLen] at hf
  rw [isaWait]
  simp only [hi, hb, hg, hf, Bool.not_true, Bool.false_and, Bool.false_eq_true, if_false]
  rw [afterInstruction_takeException hx hw hs]

theorem isaWait_skipped (hg : (whole && prefixesOk a h.pfx && h.cond != 15) = true)
    (hf : s.fetchFault h.core s.cores[h.core].pc (instrLen h len) = none)
    (hc : condHolds h.cond s.cores[h.core] = false) :
    ∃ t, isaWait h clk len a whole body s = .next t ∧ GoesTo h s t (nextPc h len s) := by
  let c' := s.cores[h.core].unshadowed.goTo (nextPc h len s)
  have hrun : isaWait h clk len a whole body s = .next (wrapUp h.core s.cores[h.core].privOut (instrClocks h 1 len)
      ((pmcEvent 2 h.core 1 s).setCore h.core c')) := by
    rw [instrLen] at hf
    rw [isaWait]
    simp only [hi, hb, hg, hf, hc, Bool.not_true, Bool.not_false, Bool.false_and, Bool.false_eq_true, if_false, if_true]
    rfl
  rw [wrapUp_setCore _ _ _ _ c' hw hs] at hrun
  refine ⟨_, hrun, onlyCore_setCore _ _ _ _ _, ?_⟩
  rw [setCore_fin]
  exact becomes_agedBy _ _ _ rfl rfl

end

/-- An instruction that executes and whose body comes to an exception. -/
theorem isaWait_excepted (he : executes h len a s = true) (hx : s.cores[h.core].ex = false) {e : Exn} {pc : Word}
    {xa : Option Nat}
    (hb : body s.cores[h.core].unshadowed (nextPc h len s) (pmcEvent 2 h.core 1 s) =
      .ok (.next (takeException h.core e pc xa (pmcEvent 2 h.core 1 s)))) :
    ∃ t, isaWait h clk len a true body s = .next t ∧ Excepted h.core e pc xa s t := by
  obtain ⟨hw, hs⟩ := executes_quiet he
  refine ⟨_, by rw [isaWait_executes h clk len a body s he, hb]; rfl, instrClocks h clk len, ?_⟩
  have hc := takeException_core (s := pmcEvent 2 h.core 1 s) hx e pc xa
  rw [wrapUp, agePort_eq, afterInstruction_id]
  · rw [setCore_fin, hc]; exact hw
  · rw [setCore_fin, hc]; exact hs

theorem isaRun_excepted {body : Body} (he : executes h len a s = true) (hx : s.cores[h.core].ex = false) {e : Exn}
    {pc : Word} {xa : Option Nat}
    (hb : body s.cores[h.core].unshadowed (nextPc h len s) (pmcEvent 2 h.core 1 s) =
      .next (takeException h.core e pc xa (pmcEvent 2 h.core 1 s))) :
    ∃ t, isaRun h clk len a true body s = .next t ∧ Excepted h.core e pc xa s t :=
  isaWait_excepted he hx (congrArg Except.ok hb)

end

/-- A privileged operation in user mode is exception 1. -/
theorem privileged_user {k : CoreId} {c : Core} (hu : c.user = true) (body : Body) (npc : Word) (s : State) :
    privileged k body c.unshadowed npc s = .next (takeException k .privilege s.cores[k].pc none s) := if_pos hu

@[simp] theorem memAddr_unshadowed (ps : List Prefix) (m : MemOp) (c : Core) :
    memAddr ps m c.unshadowed = memAddr ps m c := rfl

/-- The checks of an access do not see the counting of its own instruction. -/
@[simp] theorem accessStop_pmcEvent (k : CoreId) (write lock : Bool) (a w ev j n : Nat) (s : State) :
    accessStop k write lock a w (pmcEvent ev j n s) = accessStop k write lock a w s := rfl

theorem loadBody_stops {h : Hdr} {m : MemOp} {ext : Nat → Word} {c : Core} {npc : Word} {s : State} {e : Exn}
    (hs : accessStop h.core false false (memAddr h.pfx m c) (opWidth h.pfx) s = some (.exn e)) :
    loadBody h m ext c npc s =
      .ok (.next (takeException h.core e s.cores[h.core].pc (some (memAddr h.pfx m c)) s)) := by
  simp only [loadBody, hs, stopWith, faults]

theorem storeBody_stops {h : Hdr} {m : MemOp} {c : Core} {npc : Word} {s : State} {e : Exn}
    (hs : accessStop h.core true false (memAddr h.pfx m c) (opWidth h.pfx) s = some (.exn e)) :
    storeBody h m c npc s =
      .ok (.next (takeException h.core e s.cores[h.core].pc (some (memAddr h.pfx m c)) s)) := by
  simp only [storeBody, hs, stopWith, faults]

theorem inBody_stops {h : Hdr} {r : Reg} {port : Core → Nat} {upd : Core → Core} {c : Core} {npc : Word} {s : State}
    {e : Exn} (hs : ioStop h.core false (port c) s = some e) :
    inBody h r port upd c npc s = .next (takeException h.core e s.cores[h.core].pc (some (port c)) s) := by
  simp only [inBody, hs, faults]

theorem outBody_stops {h : Hdr} {r : Reg} {port : Core → Nat} {upd : Core → Core} {c : Core} {npc : Word} {s : State}
    {e : Exn} (hs : ioStop h.core true (port c) s = some e) :
    outBody h r port upd c npc s = .next (takeException h.core e s.cores[h.core].pc (some (port c)) s) := by
  simp only [outBody, hs, faults]

/-- Outside the I/O space a load whose fields are defined, and a store, is its body. -/
theorem loadRun_memory {h : Hdr} {m : MemOp} (hio : ioSpace h = false) (hd : memDefined false m = true)
    (ext : Nat → Word) (s : State) :
    loadRun h m ext s = isaWait h 2 (memLen m) accMem true (loadBody h m ext) s := by
  rw [loadRun, hio, if_neg Bool.false_ne_true, hd]

theorem storeRun_memory {h : Hdr} (hio : ioSpace h = false) (m : MemOp) (s : State) :
    storeRun h m s = isaWait h 1 (memLen m) accMem true (storeBody h m) s := by
  rw [storeRun, hio, if_neg Bool.false_ne_true]
  rfl

end Sys2Proof.Machine
end

section
/-! THEOREM. Exception entry, and the instructions that take an exception instead. -/
namespace Sys2Proof.Machine

/-- The exceptions that give an address are the three of R234. -/
theorem hasAddress_iff (e : Exn) : (e.hasAddress = true ↔ e = .access ∨ e = .alignment ∨ e = .breakpoint) ∧
    (e.hasAddress = false ↔ e = .illegal ∨ e = .privilege ∨ e = .interrupt) := by
  cases e <;> decide

theorem execUndefined_illegal {k : CoreId} {s : State} (hi : s.issues k = true)
    (hb : s.cores[k].breaks.contains (some s.cores[k].pc) = false) (hs : s.cores[k].stepping = false)
    (hw : s.cores[k].watchHit = none) (hx : s.cores[k].ex = false) :
    execUndefined k s = .next (takeException k .illegal s.cores[k].pc none s) := by
  unfold execUndefined isaRun
  exact isaWait_illegal hi hb hs hw hx rfl

theorem exec_brk_breaks {h : Hdr} {s : State} (he : executes h 2 accNone s = true)
    (ha : s.cores[h.core].attached = false) (hx : s.cores[h.core].ex = false) :
    ∃ t, exec (.brk h 0) s = .next t ∧ Excepted h.core .breakpoint (nextPc h 2 s) none s t := by
  simp only [exec, execBrk]
  exact isaRun_excepted he hx (if_neg (by
    rw [show s.cores[h.core].unshadowed.attached = false from ha]; exact Bool.false_ne_true))

theorem exec_brk_attached {h : Hdr} {s : State} (he : executes h 2 accNone s = true)
    (ha : s.cores[h.core].attached = true) :
    ∃ t, exec (.brk h 0) s = .next t ∧ OnlyCore h.core s t ∧ Becomes s.cores[h.core] t.cores[h.core]
      { s.cores[h.core] with pc := nextPc h 2 s, inDebug := true, eiShadow := false } := by
  simp only [exec, execBrk]
  exact isaRun_becomes he (if_pos ha) rfl rfl rfl rfl

theorem exec_privileged_user {h : Hdr} {r : Reg} {i : Instr} {s : State} (he : executes h 2 accNone s = true)
    (hx : s.cores[h.core].ex = false) (hu : s.cores[h.core].user = true)
    (hi : i ∈ [Instr.rte h 0, .halt h 0, .mtsr h r, .ei h 0, .di h 0]) :
    ∃ t, exec i s = .next t ∧ Excepted h.core .privilege s.cores[h.core].pc none s t := by
  simp only [List.mem_cons, List.not_mem_nil, or_false] at hi
  rcases hi with rfl | rfl | rfl | rfl | rfl <;> simp only [exec, execRte, execHalt, execMtsr, execEi, execDi] <;>
    exact isaRun_excepted he hx (privileged_user hu _ _ _)

theorem exec_load_stops {h : Hdr} {m : MemOp} {s : State} {e : Exn} {i : Instr}
    (he : executes h (memLen m) accMem s = true) (hio : ioSpace h = false) (hx : s.cores[h.core].ex = false)
    (hi : i ∈ [Instr.ld h m, .lds h m]) (hd : memDefined false m = true)
    (hs : accessStop h.core false false (memAddr h.pfx m s.cores[h.core]) (opWidth h.pfx) s = some (.exn e)) :
    ∃ t, exec i s = .next t ∧
      Excepted h.core e s.cores[h.core].pc (some (memAddr h.pfx m s.cores[h.core])) s t := by
  have hb := fun ext npc => loadBody_stops (ext := ext) (npc := npc) (c := s.cores[h.core].unshadowed)
    (s := pmcEvent 2 h.core 1 s) (by rw [accessStop_pmcEvent, memAddr_unshadowed]; exact hs)
  rw [memAddr_unshadowed] at hb
  simp only [List.mem_cons, List.not_mem_nil, or_false] at hi
  rcases hi with rfl | rfl <;> simp only [exec, execLd, execLds, loadRun_memory hio hd] <;>
    exact isaWait_excepted he hx (hb _ _)

theorem exec_store_stops {h : Hdr} {m : MemOp} {s : State} {e : Exn} (he : executes h (memLen m) accMem s = true)
    (hio : ioSpace h = false) (hx : s.cores[h.core].ex = false)
    (hs : accessStop h.core true false (memAddr h.pfx m s.cores[h.core]) (opWidth h.pfx) s = some (.exn e)) :
    ∃ t, exec (.st h m) s = .next t ∧
      Excepted h.core e s.cores[h.core].pc (some (memAddr h.pfx m s.cores[h.core])) s t := by
  have hb := storeBody_stops (npc := nextPc h (memLen m) s) (c := s.cores[h.core].unshadowed)
    (s := pmcEvent 2 h.core 1 s) (by rw [accessStop_pmcEvent, memAddr_unshadowed]; exact hs)
  rw [memAddr_unshadowed] at hb
  simp only [exec, execSt, storeRun_memory hio]
  exact isaWait_excepted he hx hb

theorem exec_ioIn_stops {h : Hdr} {f : IoForm} {s : State} {e : Exn}
    (he : executes h (ioLen f) (ioAccepts f) s = true) (hx : s.cores[h.core].ex = false)
    (hd : ioDefined false h f = true) (hs : ioStop h.core false (ioPort h s.cores[h.core] f) s = some e) :
    ∃ t, exec (.ioIn h f) s = .next t ∧
      Excepted h.core e s.cores[h.core].pc (some (ioPort h s.cores[h.core] f)) s t := by
  rw [← ioPort_unshadowed] at hs ⊢
  rw [execIoIn_eq s hd]
  exact isaRun_excepted he hx (inBody_stops (port := fun c => ioPort h c f) hs)

theorem exec_ioOut_stops {h : Hdr} {f : IoForm} {s : State} {e : Exn}
    (he : executes h (ioLen f) (ioAccepts f) s = true) (hx : s.cores[h.core].ex = false)
    (hd : ioDefined true h f = true) (hs : ioStop h.core true (ioPort h s.cores[h.core] f) s = some e) :
    ∃ t, exec (.ioOut h f) s = .next t ∧
      Excepted h.core e s.cores[h.core].pc (some (ioPort h s.cores[h.core] f)) s t := by
  rw [← ioPort_unshadowed] at hs ⊢
  rw [execIoOut_eq s hd]
  exact isaRun_excepted he hx (outBody_stops (port := fun c => ioPort h c f) hs)

/-- Settles O19: an entry is its registers loaded and its core entered; every instruction of the cores runs by isaWait,
whose branches are the faults, and the bodies that stop do so before they change anything. -/
theorem exceptionsAndFaults : Obligations.ExceptionsAndFaults := by
  unfold Obligations.ExceptionsAndFaults
  refine ⟨⟨fun k e pc xa s hx => ?_, fun k e pc xa s hx => ?_, fun h s he =>
      ⟨fun ha hx => exec_brk_breaks he ha hx, fun ha => exec_brk_attached he ha⟩⟩,
    fun i h len a whole s hf => ?_, fun k s hi hb hs hw hx => execUndefined_illegal hi hb hs hw hx,
    fun h r i s he hx hu hi => exec_privileged_user he hx hu hi,
    fun h m s e he hio hx => ⟨fun i hi hd hs => exec_load_stops he hio hx hi hd hs, fun hs => exec_store_stops he hio hx hs⟩,
    fun h f s e he hx => ⟨fun hd hs => exec_ioIn_stops he hx hd hs, fun hd hs => exec_ioOut_stops he hx hd hs⟩⟩
  · intro c t
    have hsv := exceptionSaved_saved k e pc xa s
    have ht : t = (exceptionSaved k e pc xa s).setCore k (c.entered (getReg s (P.SYS_VBASE k)) e) :=
      takeException_entered hx e pc xa
    have hr : ∀ key, getReg t key = getReg (exceptionSaved k e pc xa s) key := fun key => by rw [ht]; rfl
    rw [hr, hr, hr, hr, hr]
    refine ⟨?_, hsv.xpc, hsv.xsr, hsv.xcause, fun h => hsv.kept (h.imp_right (hasAddress_iff e).2.2),
      fun a ha he => hsv.loaded a ha ((hasAddress_iff e).1.2 he), ⟨4, takeException_core hx e pc xa⟩, fun j hj => ?_,
      fun key hk => (hr key).trans (hsv.regs key hk)⟩
    · rw [ht, hsv.only]; rfl
    · rw [ht, setCore_other hj, hsv.only]
  · exact ⟨pmcSettle s, pmcSettle_only s, takeException_double hx e pc xa⟩
  · intro c good hi hb hs hw hx
    obtain ⟨clk, body, hrun⟩ := exec_isaForm hf s
    rw [hrun]
    exact ⟨isaWait_illegal hi hb hs hw hx, fun bad hg hbad => isaWait_unfetchable hi hb hs hw hx hg hbad,
      fun hg hn hc => isaWait_skipped hi hb hs hw hg hn hc⟩

end Sys2Proof.Machine
end

section
/-! SUPPORT. What the cores' reads and stores find and leave in memory, in the L2 and in the D-caches. -/
namespace Sys2Proof.Machine

/-! ## What a line of 64 bytes holds -/

theorem readBytes_drop (s : State) (i : Nat) : ∀ key n : Nat,
    (s.readBytes key n).drop i = s.readBytes (key + i) (n - i) := by
  induction i with
  | zero => exact fun _ _ => rfl
  | succ i ih =>
    intro key n
    cases n with
    | zero => rw [State.readBytes, List.drop_nil, Nat.zero_sub, State.readBytes]
    | succ n => rw [State.readBytes, List.drop_succ_cons, ih, Nat.add_sub_add_right, Nat.add_right_comm, Nat.add_assoc]

theorem readBytes_take (s : State) {w : Nat} : ∀ {n : Nat} (key : Nat), w ≤ n →
    (s.readBytes key n).take w = s.readBytes key w := by
  induction w with
  | zero => exact fun _ _ => List.take_zero
  | succ w ih =>
    intro n key h
    obtain ⟨n, rfl⟩ : ∃ m, n = m + 1 := ⟨n - 1, by omega⟩
    rw [State.readBytes, List.take_succ_cons, ih _ (by omega), ← State.readBytes]

/-- The bytes of a line that memory fills read as memory does. -/
theorem inLine_readBytes (s : State) {a w : Nat} (hfit : a % 64 + w ≤ 64) :
    inLine (s.readBytes (64 * (a / 64)) 64) a w = s.readLe a w := by
  rw [inLine, State.readLe, readBytes_drop, readBytes_take s _ (by omega), Nat.div_add_mod]

/-- Memory reads the same in both states, and addresses lie in the same regions. -/
structure SameStore (s t : State) : Prop where
  mem : t.mem = s.mem
  blt : t.blt = s.blt
  clu : t.clu = s.clu
  region : ∀ a, t.region a = s.region a

theorem SameStore.symm {s t : State} (h : SameStore s t) : SameStore t s :=
  ⟨h.mem.symm, h.blt.symm, h.clu.symm, fun a => (h.region a).symm⟩

theorem SameStore.readBytes {s t : State} (h : SameStore s t) {key n : Nat} {bs : List Byte} (hr : ReadBytes t key n bs) :
    ReadBytes s key n bs := by
  obtain ⟨f, rfl⟩ := hr
  exact ⟨f, readBytes_congr (s := { s with free := f }) (t := { t with free := f }) h.mem h.blt h.clu rfl n key⟩

theorem SameStore.readAs {s t : State} (h : SameStore s t) {key w n : Nat} (hr : ReadAs t key w n) : ReadAs s key w n := by
  obtain ⟨f, rfl⟩ := hr
  exact ⟨f, congrArg leToNat
    (readBytes_congr (s := { s with free := f }) (t := { t with free := f }) h.mem h.blt h.clu rfl w key)⟩

theorem readAs_of_line {s : State} {a w : Nat} {d : List Byte} (hfit : a % 64 + w ≤ 64)
    (hd : ReadBytes s (64 * (a / 64)) 64 d) : ReadAs s a w (inLine d a w) := by
  obtain ⟨f, rfl⟩ := hd
  exact ⟨f, inLine_readBytes _ hfit⟩

theorem region_congr {s t : State} (h : getReg t P.MEM_CFG = getReg s P.MEM_CFG) (a : Nat) : t.region a = s.region a := by
  have hd : t.dramSize = s.dramSize := by
    unfold State.dramSize getF
    rw [h]
  rw [State.region, hd, ← State.region]

theorem SameStore.accessKey {s t : State} (h : SameStore s t) (k : CoreId) (a : Nat) : accessKey k a t = accessKey k a s := by
  rw [Sys2Proof.accessKey, Sys2Proof.accessKey, h.region]

/-! ## Lines that reads fill -/

/-- A cache's line after reads: as it was, or, where it was not held or was clean, filled with memory's bytes. -/
def Refilled (s : State) (line : Nat) (old new : Option L2Line) : Prop :=
  new = old ∨ ((∀ l, old = some l → l.dirty = false) ∧ ∃ d, new = some ⟨d, false⟩ ∧ ReadBytes s (64 * line) 64 d)

theorem Refilled.refl (s : State) (line : Nat) (old : Option L2Line) : Refilled s line old old := .inl rfl

theorem Refilled.trans {s t : State} {line : Nat} {old mid new : Option L2Line} (hst : SameStore s t)
    (h1 : Refilled s line old mid) (h2 : Refilled t line mid new) : Refilled s line old new := by
  rcases h2 with rfl | ⟨hc2, d, hd, hb⟩
  · exact h1
  · refine .inr ⟨?_, d, hd, hst.readBytes hb⟩
    rcases h1 with rfl | ⟨hc1, -⟩
    · exact hc2
    · exact hc1

/-- What a read through a refilled line gives is what one through the line as it was may give. -/
theorem cached_of_refilled {s t : State} {a w n : Nat} {old new : Option L2Line} (hst : SameStore s t)
    (hfit : a % 64 + w ≤ 64) (hr : Refilled s (a / 64) old new) (hc : Cached t new a w n) : Cached s old a w n := by
  rcases hr with rfl | ⟨hclean, d, rfl, hb⟩
  · cases new with
    | none => exact hst.readAs hc
    | some l => exact hc.imp_right fun h => ⟨h.1, hst.readAs h.2⟩
  · have hn : ReadAs s a w n := by
      rcases hc with rfl | ⟨-, h⟩
      · exact readAs_of_line hfit hb
      · exact hst.readAs h
    cases old with
    | none => exact hn
    | some l => exact .inr ⟨hclean l rfl, hn⟩

theorem lineBefore_of_refilled {s : State} {a : Nat} {l : L2Line}
    (h : Refilled s (a / 64) (Tab.find s.l2 (a / 64)) (some l)) : LineBefore s a false l.data := by
  unfold LineBefore
  rcases h with h | ⟨hclean, d, hd, hb⟩
  · rw [← h]
    dsimp only
    split
    · rfl
    · exact .inl ⟨rfl, rfl⟩
  · cases hd
    cases ho : Tab.find s.l2 (a / 64) with
    | none => exact hb
    | some l =>
      dsimp only
      rw [hclean l ho, if_neg Bool.false_ne_true]
      exact .inr hb

/-! ## The L2 -/

/-- A line stands in the L2, as it was or filled from DRAM, and the arbiters are idle again. -/
structure Touched (line : Nat) (s t : State) : Prop where
  rest : t = { s with pmc := t.pmc, l2 := t.l2, free := t.free, mc := t.mc, regs := t.regs }
  regs : RegsBut s t (dramKeys 8)
  idle : ArbiterIdle t
  held : ∃ l, Tab.find t.l2 line = some l ∧ Refilled s line (Tab.find s.l2 line) (some l)
  others : ∀ j, j ≠ line → Tab.find t.l2 j = Tab.find s.l2 j

theorem l2Fill_touched {s : State} (h : ArbiterIdle s) {line : Nat}
    (hclean : ∀ l, Tab.find s.l2 line = some l → l.dirty = false) : ∃ t, l2Fill line s = .ok t ∧ Touched line s t := by
  obtain ⟨t, ht, hacc⟩ := l2Fill_idle h line
  have hmem : t.mem = s.mem := hacc.mem
  have hrest := hacc.only.rest
  rw [hmem] at hrest
  have hread : ReadBytes s (64 * line) 64 (t.readBytes (64 * line) 64) :=
    readBytes_same hmem (by rw [hrest]) (by rw [hrest]) _ _
  exact ⟨_, ht, by rw [hrest], hacc.only.regs, hacc.idle,
    ⟨_, Tab.find_insert_same _ _ _, .inr ⟨hclean, _, rfl, hread⟩⟩, fun j hj => Tab.find_insert_ne _ _ hj⟩

theorem l2Touch_touched {s : State} (h : ArbiterIdle s) (line : Nat) : ∃ t, l2Touch line s = .ok t ∧ Touched line s t := by
  unfold l2Touch
  cases hf : Tab.find s.l2 line with
  | none => exact l2Fill_touched h (by rw [hf]; exact fun _ => nofun)
  | some l =>
    dsimp only
    split
    · exact ⟨s, rfl, rfl, RegsBut.refl s _, h, ⟨l, hf, .inl hf.symm⟩, fun _ _ => rfl⟩
    · next hkeep =>
      refine l2Fill_touched h fun l' hl' => ?_
      obtain rfl := Option.some.inj (hf.symm.trans hl')
      simp only [Bool.or_eq_true, not_or] at hkeep
      exact Bool.eq_false_iff.2 hkeep.1

theorem l2Data_held {line : Nat} {t : State} {l : L2Line} (hl : Tab.find t.l2 line = some l) : l2Data line t = l.data := by
  rw [l2Data, hl]

/-! ## What an access may change -/

theorem onlyAccess_refl (k : CoreId) (s : State) : OnlyAccess k s s := ⟨rfl, RegsBut.refl s _, fun _ _ => rfl⟩

theorem onlyAccess_trans {k : CoreId} {s t u : State} (h1 : OnlyAccess k s t) (h2 : OnlyAccess k t u) : OnlyAccess k s u := by
  refine ⟨?_, RegsBut.trans h1.2.1 h2.2.1, fun j hj => (h2.2.2 j hj).trans (h1.2.2 j hj)⟩
  rw [h2.1, h1.1]

theorem onlyAccess_setCore {k : CoreId} {s t : State} (h : OnlyAccess k s t) (c : Core) : OnlyAccess k s (t.setCore k c) := by
  exact onlyAccess_trans h ⟨rfl, RegsBut.of_regs rfl _, fun j hj => setCore_other hj c⟩

theorem onlyAccess_pmcEvent (k : CoreId) (ev j n : Nat) (s : State) : OnlyAccess k s (pmcEvent ev j n s) :=
  ⟨rfl, RegsBut.of_regs rfl _, fun _ _ => rfl⟩

theorem onlyAccess_region {k : CoreId} {s t : State} (h : OnlyAccess k s t) (a : Nat) : t.region a = s.region a :=
  region_congr (h.2.1 _ (not_mem_dramKeys (by decide) (by decide))) a

theorem onlyAccess_sameStore {k : CoreId} {s t : State} (h : OnlyAccess k s t) (hm : t.mem = s.mem) : SameStore s t :=
  ⟨hm, by rw [h.1], by rw [h.1], onlyAccess_region h⟩

/-! ## Stores -/

/-- Core k has stored the low w bytes of v at address a. -/
structure Stored (k : CoreId) (s t : State) (a w v : Nat) : Prop where
  only : OnlyAccess k s t
  cores : t.cores = s.cores
  idle : ArbiterIdle s → ArbiterIdle t
  landed : Landed k s t a w v false

theorem coreWrite_direct (k : CoreId) {a : Nat} {s : State} (hd : s.region a ≠ .dram) (w v : Nat) :
    coreWrite k a w v s = .ok (s.writeBytes (accessKey k a s) (natToLe w v)) := by
  unfold coreWrite accessKey
  generalize s.region a = r at hd
  cases r with
  | dram => exact absurd rfl hd
  | _ => rfl

/-- A store that has to wait for nothing comes about at once. -/
theorem coreWrite_now {a : Nat} {s : State} (hn : AccessNow s a) (k : CoreId) (w v : Nat) :
    ∃ t, coreWrite k a w v s = .ok t ∧ Stored k s t a w v := by
  by_cases hd : s.region a = .dram
  · obtain ⟨u, hu, ht⟩ := l2Touch_touched (hn hd) (lineOf a)
    obtain ⟨l, hl, hfound⟩ := ht.held
    let t : State := { u with l2 := Tab.insert u.l2 (lineOf a) ⟨patchLine l.data (a % 64) (natToLe w v), true⟩ }
    have hw : coreWrite k a w v s = .ok t.draw := by
      unfold coreWrite
      rw [hd]
      dsimp only
      rw [l2Store, hu, Except.map, l2Data_held hl]
      rfl
    refine ⟨t.draw, hw, ⟨by unfold t; rw [ht.rest]; rfl, ht.regs, fun j _ => ?_⟩, by unfold t; rw [ht.rest]; rfl,
      fun _ => ht.idle, fun h => absurd hd h, fun _ => ⟨by unfold t; rw [ht.rest]; rfl, fun line hne => ?_, l.data,
        lineBefore_of_refilled hfound, Tab.find_insert_same _ _ _⟩⟩
    · unfold t; rw [ht.rest]; rfl
    · exact (Tab.find_insert_ne _ _ hne).trans (ht.others line hne)
  · refine ⟨_, coreWrite_direct k hd w v, ⟨rfl, RegsBut.of_regs rfl _, fun _ _ => rfl⟩, rfl, fun h => h,
      fun _ => ⟨rfl, rfl⟩, fun h => absurd h hd⟩

/-! ## Reads -/

/-- Core k has read memory: a line not held or clean may have been filled, in the L2 and in its D-cache, and nothing else of
memory, of the caches and of its core differs. -/
structure ReadBy (k : CoreId) (s t : State) : Prop where
  only : OnlyAccess k s t
  mem : t.mem = s.mem
  core : t.cores[k] = { s.cores[k] with dcache := t.cores[k].dcache }
  idle : ArbiterIdle s → ArbiterIdle t
  l2 : ∀ line, Refilled s line (Tab.find s.l2 line) (Tab.find t.l2 line)
  dcache : ∀ line, Refilled s line ((Tab.find s.cores[k].dcache line).map (fun d => ⟨d, false⟩))
    ((Tab.find t.cores[k].dcache line).map (fun d => ⟨d, false⟩))

theorem ReadBy.sameStore {k : CoreId} {s t : State} (h : ReadBy k s t) : SameStore s t := onlyAccess_sameStore h.only h.mem

theorem ReadBy.refl (k : CoreId) (s : State) : ReadBy k s s :=
  ⟨onlyAccess_refl k s, rfl, rfl, id, fun _ => .refl _ _ _, fun _ => .refl _ _ _⟩

theorem ReadBy.trans {k : CoreId} {s t u : State} (h1 : ReadBy k s t) (h2 : ReadBy k t u) : ReadBy k s u :=
  ⟨onlyAccess_trans h1.only h2.only, h2.mem.trans h1.mem, by rw [h2.core, h1.core], fun h => h2.idle (h1.idle h),
    fun line => (h1.l2 line).trans h1.sameStore (h2.l2 line),
    fun line => (h1.dcache line).trans h1.sameStore (h2.dcache line)⟩

theorem readBy_draw (k : CoreId) (s : State) : ReadBy k s s.draw :=
  ⟨⟨rfl, RegsBut.of_regs rfl _, fun _ _ => rfl⟩, rfl, rfl, id, fun _ => .refl _ _ _, fun _ => .refl _ _ _⟩

theorem readBy_pmcEvent (k : CoreId) (ev j n : Nat) (s : State) : ReadBy k s (pmcEvent ev j n s) :=
  ⟨onlyAccess_pmcEvent k ev j n s, rfl, rfl, id, fun _ => .refl _ _ _, fun _ => .refl _ _ _⟩

/-- What a later read gives is what one before the earlier reads may give. -/
theorem ReadBy.fetched {k : CoreId} {s t : State} (h : ReadBy k s t) {a w n : Nat} (hfit : a % 64 + w ≤ 64)
    (hf : Sys2Proof.Fetched k t a w n) : Sys2Proof.Fetched k s a w n := by
  unfold Sys2Proof.Fetched at *
  rw [h.sameStore.region a, h.sameStore.accessKey] at hf
  split
  · next hd =>
    rw [if_pos hd] at hf
    exact cached_of_refilled h.sameStore hfit (h.l2 _) hf
  · next hd =>
    rw [if_neg hd] at hf
    split
    · next hr =>
      rw [if_pos hr] at hf
      exact cached_of_refilled h.sameStore hfit (h.dcache _) hf
    · next hr =>
      rw [if_neg hr] at hf
      exact h.sameStore.readAs hf

theorem coreRead_direct {k : CoreId} {a : Nat} {s : State} (hd : s.region a ≠ .dram)
    (hr : ¬(8 ≤ k.val ∧ s.region a = .resident)) (w : Nat) :
    coreRead k a w s = .ok (s.readLe (accessKey k a s) w, s.draw) := by
  unfold coreRead controlRead audioRead accessKey
  generalize s.region a = r at hd hr
  cases r with
  | dram => exact absurd rfl hd
  | resident => rw [if_pos (by simpa using hr)]
  | _ => split <;> rfl

theorem cachedLine_eq {lines : List (Nat × List Byte)} {line : Nat} {s : State} {d : List Byte}
    (h : cachedLine lines line s = some d) : Tab.find lines line = some d := by
  unfold cachedLine at h
  cases hf : Tab.find lines line with
  | none => rw [hf] at h; exact nomatch h
  | some d' =>
    rw [hf] at h
    dsimp only at h
    split at h
    · exact h
    · exact nomatch h

/-- A line that an audio core finds: as its D-cache holds it, or as memory does. -/
theorem refilled_cachedLine (lines : List (Nat × List Byte)) (line : Nat) (s : State) :
    Refilled s line ((Tab.find lines line).map (fun d => ⟨d, false⟩))
      (some ⟨(cachedLine lines line s).getD (s.readBytes (64 * line) 64), false⟩) := by
  cases hc : cachedLine lines line s with
  | some d => exact .inl (by rw [cachedLine_eq hc]; rfl)
  | none =>
    refine .inr ⟨fun l hl => ?_, _, rfl, readBytes_same rfl rfl rfl _ _⟩
    obtain ⟨d, -, rfl⟩ := Option.map_eq_some_iff.1 hl
    rfl

theorem refilled_insert {s : State} {old : List (Nat × List Byte)} {line : Nat} {d : List Byte}
    (h : Refilled s line ((Tab.find old line).map (fun d => ⟨d, false⟩)) (some ⟨d, false⟩)) (j : Nat) :
    Refilled s j ((Tab.find old j).map (fun d => ⟨d, false⟩))
      ((Tab.find (Tab.insert old line d) j).map (fun d => ⟨d, false⟩)) := by
  by_cases hj : j = line
  · subst hj
    rw [Tab.find_insert_same]
    exact h
  · rw [Tab.find_insert_ne _ _ hj]
    exact .refl _ _ _

/-- A read that the core may make and that has to wait for nothing comes about at once. -/
theorem coreRead_now {k : CoreId} {a w : Nat} {s : State} (hn : AccessNow s a) (hk : s.region a = .dram → k.val < 8)
    (hfit : a % 64 + w ≤ 64) :
    ∃ n t, coreRead k a w s = .ok (n, t) ∧ ReadBy k s t ∧ Sys2Proof.Fetched k s a w n := by
  by_cases hd : s.region a = .dram
  · obtain ⟨u, hu, ht⟩ := l2Touch_touched (hn hd) (lineOf a)
    obtain ⟨l, hl, hfound⟩ := ht.held
    refine ⟨inLine l.data a w, u.draw, ?_, ⟨⟨by rw [ht.rest]; rfl, ht.regs, fun j _ => by rw [ht.rest]; rfl⟩,
      by rw [ht.rest]; rfl, by rw [ht.rest]; rfl, fun _ => ht.idle, fun line => ?_, fun line => .inl (by rw [ht.rest]; rfl)⟩,
      ?_⟩
    · rw [coreRead, if_pos (hk hd), controlRead, hd]
      dsimp only
      rw [hu, Except.map, l2Data_held hl]
    · by_cases hline : line = lineOf a
      · subst hline
        exact hl ▸ hfound
      · exact .inl (ht.others line hline)
    · rw [Sys2Proof.Fetched, if_pos hd]
      exact cached_of_refilled ⟨rfl, rfl, rfl, fun _ => rfl⟩ hfit hfound (.inl rfl)
  · by_cases hr : 8 ≤ k.val ∧ s.region a = .resident
    · have hfound := refilled_cachedLine s.cores[k].dcache (lineOf a) s
      generalize hdata : (cachedLine s.cores[k].dcache (lineOf a) s).getD (s.readBytes (64 * lineOf a) 64) = d at hfound
      refine ⟨inLine d a w, (s.setCore k { s.cores[k] with dcache := Tab.insert s.cores[k].dcache (lineOf a) d }).draw, ?_,
        ⟨onlyAccess_trans (onlyAccess_setCore (onlyAccess_refl k s) _) (readBy_draw k _).only, rfl, ?_, id, fun _ => .refl _ _ _,
          fun line => ?_⟩, ?_⟩
      · rw [coreRead, if_neg (by omega), audioRead, hr.2]
        dsimp only
        rw [hdata]
      · rw [State.draw_cores, setCore_fin]
      · rw [State.draw_cores, setCore_fin]
        exact refilled_insert hfound line
      · rw [Sys2Proof.Fetched, if_neg hd, if_pos hr]
        exact cached_of_refilled ⟨rfl, rfl, rfl, fun _ => rfl⟩ hfit hfound (.inl rfl)
    · refine ⟨_, _, coreRead_direct hd hr w, readBy_draw k s, ?_⟩
      rw [Sys2Proof.Fetched, if_neg hd, if_neg hr]
      exact ⟨s.free, rfl⟩

/-! ## Accesses that may be made -/

/-- An access that the core may make is aligned, and in DRAM it is a control core's. -/
theorem accessStop_none {k : CoreId} {write lock : Bool} {a w : Nat} {s : State}
    (h : accessStop k write lock a w s = none) : a % w = 0 ∧ (s.region a = .dram → k.val < 8) := by
  unfold accessStop at h
  split at h
  · exact nomatch h
  · next ha =>
    refine ⟨not_not.1 ha, fun hd => ?_⟩
    split at h
    · exact nomatch h
    · split at h
      · assumption
      · rw [audioStop, hd] at h
        exact nomatch h

/-- Nothing is noted of an access of a core without watchpoints. -/
theorem noteAccess_unwatched {k : CoreId} {s : State} (h : s.cores[k].watches.all Option.isNone = true) (a w : Nat) :
    noteAccess k a w s = s := by
  unfold noteAccess
  refine if_neg ?_
  rw [Bool.not_eq_true, Vector.any_eq_false]
  intro i hi
  rw [Option.isNone_iff_eq_none.1 (Vector.all_eq_true.1 h i hi)]
  exact Bool.false_ne_true

theorem complete_unwatched {k : CoreId} {c : Core} (h : c.watches.all Option.isNone = true) (a w : Nat) (s : State) :
    Out.then (complete k c s) (noteAccess k a w) = complete k c s := by
  rw [complete, Out.then, noteAccess_unwatched]
  rw [setCore_fin]
  exact h

theorem executes_unwatched {h : Hdr} {len : Nat} {a : Accepts} {s : State} (he : executes h len a s = true) :
    s.cores[h.core].watches.all Option.isNone = true := by
  simp only [executes, Bool.and_eq_true] at he
  exact he.2

/-- An instruction whose body completes after accesses to memory. -/
theorem isaWait_accesses {h : Hdr} {clk len : Nat} {a : Accepts} {s : State} {body : WaitBody} {P : State → Prop}
    (he : executes h len a s = true) (u : State) (c' : Core)
    (hb : body s.cores[h.core].unshadowed (nextPc h len s) (pmcEvent 2 h.core 1 s) = .ok (complete h.core c' u))
    (hc : c' = { s.cores[h.core] with g := c'.g, pc := c'.pc, eiShadow := false, dcache := c'.dcache })
    (ho : OnlyAccess h.core (pmcEvent 2 h.core 1 s) u)
    (hP : ∀ t, OnlyAccess h.core s t → t.mem = u.mem → t.l2 = u.l2 → Becomes s.cores[h.core] t.cores[h.core] c' → P t) :
    ∃ t, isaWait h clk len a true body s = .next t ∧ P t := by
  obtain ⟨hw, hs⟩ := executes_quiet he
  refine ⟨u.setCore h.core (c'.agedBy s.cores[h.core].privOut (instrClocks h clk len)), ?_, hP _
    (onlyAccess_setCore (onlyAccess_trans (onlyAccess_pmcEvent _ _ _ _ s) ho) _) rfl rfl ?_⟩
  · rw [isaWait_executes h clk len a body s he, hb]
    dsimp only
    rw [complete, Out.then, wrapUp_setCore _ _ _ _ _ (by rw [hc]; exact hw) (by rw [hc]; exact hs)]
  · rw [setCore_fin]
    exact becomes_agedBy _ _ _ (by rw [hc]) (by rw [hc])

/-- A core after an instruction with accesses is one after an access. -/
theorem accessCore_of_becomes {c d c' : Core} {pc : Word} (h : Becomes c d c')
    (hc : c' = { c with g := c'.g, pc := pc, eiShadow := false, dcache := c'.dcache }) : AccessCore c d pc := by
  obtain ⟨n, rfl⟩ := h
  exact ⟨n, by rw [hc]⟩

theorem becomes_g {c d c' : Core} (h : Becomes c d c') : d.g = c'.g := by
  obtain ⟨n, rfl⟩ := h
  rfl

theorem becomes_sr {c d c' : Core} (h : Becomes c d c') : d.sr = c'.sr := by
  obtain ⟨n, rfl⟩ := h
  rfl

/-! ## Stores carried to states that agree -/

/-- Memory and the L2 read the same in both states. -/
structure SameData (s t : State) : Prop extends SameStore s t where
  l2 : t.l2 = s.l2

theorem lineBefore_congr {s t : State} (h : SameData s t) {a : Nat} {lock : Bool} {d : List Byte}
    (hb : LineBefore t a lock d) : LineBefore s a lock d := by
  unfold LineBefore at *
  rw [h.l2] at hb
  cases hf : Tab.find s.l2 (a / 64) with
  | none =>
    rw [hf] at hb
    exact h.readBytes hb
  | some l =>
    rw [hf] at hb
    dsimp only at hb ⊢
    split
    · next hd => rwa [if_pos hd] at hb
    · next hd =>
      rw [if_neg hd] at hb
      exact hb.imp_right h.readBytes

theorem landed_congr {k : CoreId} {s s' t t' : State} {a w v : Nat} {lock : Bool} (hs : SameData s s')
    (hm : t.mem = t'.mem) (hl : t.l2 = t'.l2) (h : Landed k s' t' a w v lock) : Landed k s t a w v lock := by
  obtain ⟨hout, hin⟩ := h
  rw [hs.region, hs.mem, hs.l2, hs.accessKey] at hout
  rw [hs.region, hs.mem, hs.l2] at hin
  unfold Landed
  rw [hm, hl]
  refine ⟨hout, fun hd => ?_⟩
  obtain ⟨h1, h2, d, h3, h4⟩ := hin hd
  exact ⟨h1, h2, d, lineBefore_congr hs h3, h4⟩

theorem landedWords_congr {k : CoreId} {ws : List (Nat × Word)} {s s' t t' : State} (hs : SameData s s')
    (hm : t.mem = t'.mem) (hl : t.l2 = t'.l2) (h : LandedWords k ws s' t') : LandedWords k ws s t := by
  induction ws generalizing s s' with
  | nil => exact ⟨hm.trans (h.1.trans hs.mem), hl.trans (h.2.trans hs.l2)⟩
  | cons x ws ih =>
    obtain ⟨m, l, hone, hrest⟩ := h
    exact ⟨m, l, landed_congr hs rfl rfl hone, ih (s' := { s' with mem := m, l2 := l }) ⟨⟨rfl, hs.blt, hs.clu, hs.region⟩, rfl⟩ hrest⟩

theorem sameData_pmcEvent (ev j n : Nat) (s : State) : SameData s (pmcEvent ev j n s) :=
  ⟨⟨rfl, rfl, rfl, fun _ => rfl⟩, rfl⟩

end Sys2Proof.Machine
end

section
/-! THEOREM. Stores. -/
namespace Sys2Proof.Machine

/-- The update of gb changes the general registers alone, and of those gb alone. -/
theorem memUpdate_eq (ps : List Prefix) (m : MemOp) (c : Core) : memUpdate ps m c = { c with g := (memUpdate ps m c).g } := by
  unfold memUpdate
  split <;> rfl

theorem memUpdate_other {ps : List Prefix} {m : MemOp} {r : Reg} (hr : ¬(m.mode.updates ∧ r = m.b)) (c : Core) :
    (memUpdate ps m c).g[r] = c.g[r] := by
  unfold memUpdate
  split
  · next hu =>
    have hne : m.b.val ≠ r.val := fun e => hr ⟨hu, Fin.ext e.symm⟩
    simp [Core.setG, Vector.getElem_set_ne, hne]
  · rfl

theorem memUpdate_base {ps : List Prefix} {m : MemOp} (hu : m.mode.updates = true) (c : Core) :
    (memUpdate ps m c).g[m.b] = m.mode.newBase c.g[m.b] (opWidth ps) := by
  rw [memUpdate, if_pos hu]
  exact Vector.getElem_set_self _

/-- The body of a store that comes about at once. -/
theorem storeBody_now {h : Hdr} {m : MemOp} {c : Core} {s : State} (npc : Word)
    (hs : accessStop h.core true false (memAddr h.pfx m c) (opWidth h.pfx) s = none)
    (hn : AccessNow s (memAddr h.pfx m c)) (hw : c.watches.all Option.isNone = true) :
    ∃ u, storeBody h m c npc s = .ok (complete h.core ((memUpdate h.pfx m c).goTo npc) u) ∧
      Stored h.core s u (memAddr h.pfx m c) (opWidth h.pfx) (c.g[m.r].toNat % 256 ^ opWidth h.pfx) := by
  obtain ⟨u, hu, hst⟩ := coreWrite_now hn h.core (opWidth h.pfx) (c.g[m.r].toNat % 256 ^ opWidth h.pfx)
  have hv : 2 ^ (8 * opWidth h.pfx) = 256 ^ opWidth h.pfx := Nat.pow_mul 2 8 _
  refine ⟨u, ?_, hst⟩
  simp only [storeBody, hs, hv, hu, Except.map]
  rw [complete_unwatched (by rw [memUpdate_eq]; exact hw)]

/-- The core that a store leaves. -/
theorem memUpdate_goTo (ps : List Prefix) (m : MemOp) (c : Core) (npc : Word) :
    (memUpdate ps m c.unshadowed).goTo npc = { c with g := (memUpdate ps m c).g, pc := npc, eiShadow := false } := by
  unfold memUpdate
  split <;> rfl

/-- Settles O15: the store comes about at once, and its core goes on with gb updated. -/
theorem stores : Obligations.Stores := by
  unfold Obligations.Stores
  intro h m s c w a he hio hs hn
  obtain ⟨u, hb, hst⟩ := storeBody_now (c := c.unshadowed) (s := pmcEvent 2 h.core 1 s) (nextPc h (memLen m) s)
    (by rw [accessStop_pmcEvent, memAddr_unshadowed]; exact hs) (by rw [memAddr_unshadowed]; exact hn)
    (executes_unwatched he)
  rw [memUpdate_goTo] at hb
  simp only [exec, execSt, storeRun_memory hio]
  refine isaWait_accesses he u _ hb rfl hst.only fun t ho hm hl hbec => ⟨ho, accessCore_of_becomes hbec rfl,
    (becomes_sr hbec).trans rfl, fun r hr => ?_, fun hu => ?_, landed_congr (sameData_pmcEvent 2 h.core 1 s) hm hl hst.landed⟩
  · rw [becomes_g hbec]; exact memUpdate_other hr c
  · rw [becomes_g hbec]; exact memUpdate_base hu c

end Sys2Proof.Machine
end

section
/-! SUPPORT. Words stored to and loaded from the stack, one after another. -/
namespace Sys2Proof.Machine

@[simp] theorem stackAddr_unshadowed (ps : List Prefix) (c : Core) (lo : Word) :
    stackAddr ps c.unshadowed lo = stackAddr ps c lo := rfl

@[simp] theorem unshadowed_g (c : Core) : c.unshadowed.g = c.g := rfl

/-- The word after word i from lo upward. -/
theorem word_succ (lo : Word) (i : Nat) : lo + BitVec.ofNat 32 (4 * i) + 4 = lo + BitVec.ofNat 32 (4 * (i + 1)) := by
  rw [Nat.mul_succ, BitVec.ofNat_add, BitVec.add_assoc]
  rfl

/-- Word i from the word after lo upward. -/
theorem word_next (lo : Word) (i : Nat) : lo + 4 + BitVec.ofNat 32 (4 * i) = lo + BitVec.ofNat 32 (4 * (i + 1)) := by
  rw [add_right_comm, word_succ]

theorem word_zero (lo : Word) : lo + BitVec.ofNat 32 (4 * 0) = lo := BitVec.add_zero lo

/-- A multi-register transfer that is not stopped may make each of its accesses. -/
theorem multiStop_none {k : CoreId} {write : Bool} {ps : List Prefix} {c : Core} {s : State} {n : Nat} : ∀ {lo : Word},
    multiStop k write ps c s lo n = none →
    ∀ i < n, accessStop k write false (stackAddr ps c (lo + BitVec.ofNat 32 (4 * i))) 4 s = none := by
  induction n with
  | zero => exact fun _ i hi => absurd hi (Nat.not_lt_zero i)
  | succ n ih =>
    intro lo h i hi
    rw [multiStop] at h
    cases hs : accessStop k write false (stackAddr ps c lo) 4 s with
    | some st => rw [hs] at h; exact nomatch h
    | none =>
      rw [hs] at h
      cases i with
      | zero => rwa [word_zero]
      | succ i =>
        have hrest := ih h i (Nat.lt_of_succ_lt_succ hi)
        rwa [word_next] at hrest

/-- The checks of a multi-register transfer see neither the EI shadow nor the counting of its own instruction. -/
theorem multiStop_unshadowed (k : CoreId) (write : Bool) (ps : List Prefix) (c : Core) (ev j m : Nat) (s : State) (n : Nat) :
    ∀ lo, multiStop k write ps c.unshadowed (pmcEvent ev j m s) lo n = multiStop k write ps c s lo n := by
  induction n with
  | zero => exact fun _ => rfl
  | succ n ih =>
    intro lo
    rw [multiStop, multiStop, ih]
    rfl

/-- Words stored where nothing has to wait: each lands, in order. -/
theorem pushWords_now {k : CoreId} {ps : List Prefix} {c : Core} {lo : Word} (rs : List Reg) :
    ∀ {j : Nat} {s : State}, s.cores[k].watches.all Option.isNone = true →
    (∀ i < rs.length, AccessNow s (stackAddr ps c (lo + BitVec.ofNat 32 (4 * (j + i))))) →
    ∃ t, pushWords k ps c rs (lo + BitVec.ofNat 32 (4 * j)) s = .ok t ∧ OnlyAccess k s t ∧ t.cores = s.cores ∧
      LandedWords k ((rs.zipIdx j).map (fun x => (stackAddr ps c (lo + BitVec.ofNat 32 (4 * x.2)), c.g[x.1]))) s t := by
  induction rs with
  | nil => exact fun {j s} _ _ => ⟨s, rfl, onlyAccess_refl k s, rfl, rfl, rfl⟩
  | cons r rs ih =>
    intro j s hw hn
    obtain ⟨u, hu, hst⟩ := coreWrite_now (hn 0 (by simp)) k 4 c.g[r].toNat
    have hwu : u.cores[k].watches.all Option.isNone = true := by rw [hst.cores]; exact hw
    obtain ⟨t, ht, ho, hc, hl⟩ := ih (j := j + 1) hwu fun i hi hd => by
      have hnow := hn (i + 1) (by simpa using hi)
      rw [← Nat.add_assoc, Nat.add_right_comm] at hnow
      exact hst.idle (hnow ((onlyAccess_region hst.only _).symm.trans hd))
    refine ⟨t, ?_, onlyAccess_trans hst.only ho, hc.trans hst.cores, u.mem, u.l2, landed_congr ⟨⟨rfl, rfl, rfl, fun _ => rfl⟩, rfl⟩ rfl rfl hst.landed,
      landedWords_congr (s' := u) ⟨⟨rfl, ?_, ?_, ?_⟩, rfl⟩ rfl rfl hl⟩
    · rw [pushWords]
      rw [Nat.add_zero] at hu
      rw [hu]
      dsimp only [Except.bind]
      rw [noteAccess_unwatched hwu, word_succ]
      exact ht
    · rw [hst.only.1]
    · rw [hst.only.1]
    · exact onlyAccess_region hst.only

/-- What loads into registers leave: each register of the list holds what a read of its word gives, the others are as they
were, and nothing of the core differs but these and its D-cache. -/
structure Popped (k : CoreId) (addr : Nat → Nat) (rs : List Reg) (s t : State) (c c' : Core) : Prop where
  read : ReadBy k s t
  core : c' = { c with g := c'.g }
  others : ∀ r, r ∉ rs → c'.g[r] = c.g[r]
  loaded : ∀ i r, rs[i]? = some r → ∃ n, Sys2Proof.Fetched k s (addr i) 4 n ∧ c'.g[r] = BitVec.ofNat 32 n

theorem Core.setG_same (c : Core) (r : Reg) (v : Word) : (c.setG r v).g[r] = v := Vector.getElem_set_self _

theorem Core.setG_ne (c : Core) {r q : Reg} (v : Word) (h : q ≠ r) : (c.setG r v).g[q] = c.g[q] := by
  have hne : r.val ≠ q.val := fun e => h (Fin.ext e.symm)
  simp [Core.setG, Vector.getElem_set_ne, hne]

/-- Core k may read the word at address a, and does not have to wait for it. -/
structure WordReady (k : CoreId) (s : State) (a : Nat) : Prop where
  aligned : a % 4 = 0
  control : s.region a = .dram → k.val < 8
  now : AccessNow s a

theorem WordReady.fits {k : CoreId} {s : State} {a : Nat} (h : WordReady k s a) : a % 64 + 4 ≤ 64 := by
  have := h.aligned
  omega

theorem WordReady.later {k : CoreId} {s t : State} {a : Nat} (h : WordReady k s a) (hr : ReadBy k s t) : WordReady k t a :=
  ⟨h.aligned, fun hd => h.control ((onlyAccess_region hr.only a).symm.trans hd),
    fun hd => hr.idle (h.now ((onlyAccess_region hr.only a).symm.trans hd))⟩

theorem wordReady_of {k : CoreId} {s : State} {a : Nat} (hs : accessStop k false false a 4 s = none) (hn : AccessNow s a) :
    WordReady k s a := ⟨(accessStop_none hs).1, (accessStop_none hs).2, hn⟩

/-- Words loaded where nothing has to wait. -/
theorem popWords_now {k : CoreId} {ps : List Prefix} {c₀ : Core} (rs : List Reg) : ∀ {lo : Word} {c : Core} {s : State},
    rs.Nodup → s.cores[k].watches.all Option.isNone = true →
    (∀ i < rs.length, WordReady k s (stackAddr ps c₀ (lo + BitVec.ofNat 32 (4 * i)))) →
    ∃ c' t, popWords k ps c₀ rs lo c s = .ok (c', t) ∧
      Popped k (fun i => stackAddr ps c₀ (lo + BitVec.ofNat 32 (4 * i))) rs s t c c' := by
  induction rs with
  | nil => exact fun {_ c s} _ _ _ => ⟨c, s, rfl, ReadBy.refl k s, rfl, fun _ _ => rfl, fun _ _ h => nomatch h⟩
  | cons r rs ih =>
    intro lo c s hnd hw hready
    obtain ⟨hr, hnd⟩ := List.nodup_cons.1 hnd
    have hfirst : WordReady k s (stackAddr ps c₀ lo) := word_zero lo ▸ hready 0 (Nat.succ_pos _)
    have hrest : ∀ i < rs.length, WordReady k s (stackAddr ps c₀ (lo + 4 + BitVec.ofNat 32 (4 * i))) := fun i hi => by
      rw [word_next]
      exact hready (i + 1) (Nat.succ_lt_succ hi)
    obtain ⟨n, u, hu, hread, hval⟩ := coreRead_now hfirst.now hfirst.control hfirst.fits
    have hwu : u.cores[k].watches.all Option.isNone = true := by rw [hread.core]; exact hw
    obtain ⟨c', t, ht, hp⟩ := ih (c := c.setG r (BitVec.ofNat 32 n)) hnd hwu fun i hi => (hrest i hi).later hread
    refine ⟨c', t, ?_, hread.trans hp.read, by rw [hp.core]; rfl, fun q hq => ?_, fun i q hq => ?_⟩
    · rw [popWords, hu]
      dsimp only [Except.bind]
      rw [noteAccess_unwatched hwu]
      exact ht
    · obtain ⟨hne, hq⟩ := List.ne_and_not_mem_of_not_mem_cons hq
      exact (hp.others q hq).trans (Core.setG_ne c _ hne)
    · cases i with
      | zero =>
        obtain rfl : r = q := Option.some.inj hq
        exact ⟨n, (word_zero lo).symm ▸ hval, (hp.others r hr).trans (Core.setG_same c r _)⟩
      | succ i =>
        have hq : rs[i]? = some q := hq
        obtain ⟨v, hf, hv⟩ := hp.loaded i q hq
        have hlt : i < rs.length := (List.getElem?_eq_some_iff.1 hq).1
        refine ⟨v, ?_, hv⟩
        have := hread.fetched (hrest i hlt).fits hf
        rwa [word_next] at this

theorem maskRegs_nodup (mask : BitVec 16) : (maskRegs mask).Nodup := (List.nodup_finRange 16).filter _

theorem mem_maskRegs {mask : BitVec 16} {r : Reg} : r ∈ maskRegs mask ↔ mask.getLsbD r.val = true := by
  simp [maskRegs]

end Sys2Proof.Machine
end

section
/-! THEOREM. PUSH, POP, PUSHM and POPM. -/
namespace Sys2Proof.Machine

/-- PUSH stores its word at once. -/
theorem push_now {h : Hdr} {r : Reg} {s : State} (he : executes h 2 accStack s = true)
    (hs : accessStop h.core true false (stackAddr h.pfx s.cores[h.core] (s.cores[h.core].g[spReg] - 4)) 4 s = none)
    (hn : AccessNow s (stackAddr h.pfx s.cores[h.core] (s.cores[h.core].g[spReg] - 4))) :
    ∃ t, exec (.push h r) s = .next t ∧ OnlyAccess h.core s t ∧
      Becomes s.cores[h.core] t.cores[h.core] { s.cores[h.core] with
        g := s.cores[h.core].g.set spReg (s.cores[h.core].g[spReg] - 4), pc := nextPc h 2 s, eiShadow := false } ∧
      Landed h.core s t (stackAddr h.pfx s.cores[h.core] (s.cores[h.core].g[spReg] - 4)) 4
        s.cores[h.core].g[r].toNat false := by
  obtain ⟨u, hu, hst⟩ := coreWrite_now (s := pmcEvent 2 h.core 1 s) hn h.core 4 s.cores[h.core].g[r].toNat
  simp only [exec, execPush]
  refine isaWait_accesses he u { s.cores[h.core] with
        g := s.cores[h.core].g.set spReg (s.cores[h.core].g[spReg] - 4), pc := nextPc h 2 s, eiShadow := false } ?_ rfl
    hst.only fun t ho hm hl hb => ⟨ho, hb, landed_congr (sameData_pmcEvent 2 h.core 1 s) hm hl hst.landed⟩
  simp only [stackAddr_unshadowed, accessStop_pmcEvent, unshadowed_g]
  rw [hs]
  dsimp only
  rw [hu, Except.map, complete_unwatched]
  · rfl
  · exact executes_unwatched he

/-- POP loads its word at once. -/
theorem pop_now {h : Hdr} {r : Reg} {s : State} (he : executes h 2 accStack s = true) (hr : r ≠ spReg)
    (hs : accessStop h.core false false (stackAddr h.pfx s.cores[h.core] s.cores[h.core].g[spReg]) 4 s = none)
    (hn : AccessNow s (stackAddr h.pfx s.cores[h.core] s.cores[h.core].g[spReg])) :
    ∃ n t, exec (.pop h r) s = .next t ∧
      Sys2Proof.Fetched h.core s (stackAddr h.pfx s.cores[h.core] s.cores[h.core].g[spReg]) 4 n ∧ OnlyAccess h.core s t ∧
      t.mem = s.mem ∧ AccessCore s.cores[h.core] t.cores[h.core] (nextPc h 2 s) ∧
      t.cores[h.core].sr = s.cores[h.core].sr ∧ t.cores[h.core].g =
        (s.cores[h.core].g.set r (BitVec.ofNat 32 n)).set spReg (s.cores[h.core].g[spReg] + 4) := by
  have hcount := readBy_pmcEvent h.core 2 h.core 1 s
  have hready := wordReady_of hs hn
  have hlater := hready.later hcount
  obtain ⟨n, u, hu, hread, hval⟩ := coreRead_now hlater.now hlater.control hlater.fits
  simp only [exec, execPop, ne_eq, hr, not_false_eq_true, decide_true]
  refine ⟨n, isaWait_accesses he u { s.cores[h.core] with
      g := (s.cores[h.core].g.set r (BitVec.ofNat 32 n)).set spReg (s.cores[h.core].g[spReg] + 4)
      pc := nextPc h 2 s
      eiShadow := false
      dcache := u.cores[h.core].dcache } ?_ rfl hread.only fun t ho hm hl hb =>
    ⟨hcount.fetched hready.fits hval, ho, hm.trans hread.mem, accessCore_of_becomes hb rfl, (becomes_sr hb).trans rfl,
      (becomes_g hb).trans rfl⟩⟩
  simp only [stackAddr_unshadowed, accessStop_pmcEvent, unshadowed_g]
  rw [hs]
  dsimp only
  rw [hu, Except.map]
  dsimp only
  rw [complete_unwatched]
  · rfl
  · exact executes_unwatched he

/-- PUSHM stores its words at once. -/
theorem pushm_now {h : Hdr} {mask : BitVec 16} {low : Word} {s : State}
    (hlow : low = s.cores[h.core].g[spReg] - BitVec.ofNat 32 (4 * (maskRegs mask).length))
    (he : executes h 4 accStack s = true) (hmask : mask ≠ 0)
    (hs : multiStop h.core true h.pfx s.cores[h.core] s low (maskRegs mask).length = none)
    (hn : ∀ i < (maskRegs mask).length, AccessNow s (stackAddr h.pfx s.cores[h.core] (low + BitVec.ofNat 32 (4 * i)))) :
    ∃ t, exec (.pushm h 0 mask) s = .next t ∧ OnlyAccess h.core s t ∧
      Becomes s.cores[h.core] t.cores[h.core] { s.cores[h.core] with
        g := s.cores[h.core].g.set spReg low, pc := nextPc h 4 s, eiShadow := false } ∧
      LandedWords h.core ((maskRegs mask).zipIdx.map fun x =>
        (stackAddr h.pfx s.cores[h.core] (low + BitVec.ofNat 32 (4 * x.2)), s.cores[h.core].g[x.1])) s t := by
  have hw := executes_unwatched he
  obtain ⟨u, hu, ho, hc, hl⟩ := pushWords_now (s := pmcEvent 2 h.core 1 s) (k := h.core) (ps := h.pfx)
    (c := s.cores[h.core].unshadowed) (lo := low) (j := 0) (maskRegs mask) hw
    fun i hi => by rw [Nat.zero_add]; exact hn i hi
  rw [word_zero] at hu
  simp only [stackAddr_unshadowed, unshadowed_g] at hl
  simp only [exec, execPushm, hmask, ne_eq, not_false_eq_true, decide_true, Bool.and_self]
  refine isaWait_accesses he u { s.cores[h.core] with
      g := s.cores[h.core].g.set spReg low, pc := nextPc h 4 s, eiShadow := false } ?_ rfl
    ho fun t ho' hm hl' hb => ⟨ho', hb, landedWords_congr (sameData_pmcEvent 2 h.core 1 s) hm hl' hl⟩
  simp only [multiStop_unshadowed, unshadowed_g, ← hlow]
  rw [hs]
  dsimp only
  rw [hu, Except.map, hc]
  rfl

/-- POPM loads its words at once. -/
theorem popm_now {h : Hdr} {mask : BitVec 16} {s : State} (he : executes h 4 accStack s = true) (hmask : mask ≠ 0)
    (h14 : mask.getLsbD 14 = false)
    (hs : multiStop h.core false h.pfx s.cores[h.core] s s.cores[h.core].g[spReg] (maskRegs mask).length = none)
    (hn : ∀ i < (maskRegs mask).length,
      AccessNow s (stackAddr h.pfx s.cores[h.core] (s.cores[h.core].g[spReg] + BitVec.ofNat 32 (4 * i)))) :
    ∃ t, exec (.popm h 0 mask) s = .next t ∧ OnlyAccess h.core s t ∧ t.mem = s.mem ∧
      AccessCore s.cores[h.core] t.cores[h.core] (nextPc h 4 s) ∧ t.cores[h.core].sr = s.cores[h.core].sr ∧
      t.cores[h.core].g[spReg] = s.cores[h.core].g[spReg] + BitVec.ofNat 32 (4 * (maskRegs mask).length) ∧
      (∀ r : Reg, r ≠ spReg → mask.getLsbD r.val = false → t.cores[h.core].g[r] = s.cores[h.core].g[r]) ∧
      ∀ (i : Nat) (r : Reg), (maskRegs mask)[i]? = some r →
        ∃ n, Sys2Proof.Fetched h.core s
            (stackAddr h.pfx s.cores[h.core] (s.cores[h.core].g[spReg] + BitVec.ofNat 32 (4 * i))) 4 n ∧
          t.cores[h.core].g[r] = BitVec.ofNat 32 n := by
  have hw := executes_unwatched he
  have hcount := readBy_pmcEvent h.core 2 h.core 1 s
  have hready : ∀ i < (maskRegs mask).length,
      WordReady h.core s (stackAddr h.pfx s.cores[h.core] (s.cores[h.core].g[spReg] + BitVec.ofNat 32 (4 * i))) :=
    fun i hi => wordReady_of (multiStop_none hs i hi) (hn i hi)
  obtain ⟨c1, u, hu, hp⟩ := popWords_now (k := h.core) (ps := h.pfx) (c₀ := s.cores[h.core].unshadowed) (maskRegs mask)
    (lo := s.cores[h.core].g[spReg]) (c := s.cores[h.core].unshadowed) (s := pmcEvent 2 h.core 1 s) (maskRegs_nodup mask)
    hw fun i hi => (hready i hi).later hcount
  simp only [stackAddr_unshadowed] at hp
  have hsp : ∀ r ∈ maskRegs mask, r ≠ spReg := fun r hr e => by
    subst e
    exact Bool.false_ne_true (h14.symm.trans (mem_maskRegs.1 hr))
  simp only [exec, execPopm, hmask, h14, ne_eq, not_false_eq_true, decide_true, Bool.and_self, Bool.not_false]
  refine isaWait_accesses he u { s.cores[h.core] with
      g := (c1.setG spReg (s.cores[h.core].g[spReg] + BitVec.ofNat 32 (4 * (maskRegs mask).length))).g
      pc := nextPc h 4 s
      eiShadow := false
      dcache := u.cores[h.core].dcache } ?_ rfl hp.read.only fun t ho hm hl hb =>
    ⟨ho, hm.trans hp.read.mem, accessCore_of_becomes hb rfl, (becomes_sr hb).trans rfl, ?_, fun r hr hout => ?_,
      fun i r hr => ?_⟩
  · simp only [multiStop_unshadowed, unshadowed_g]
    rw [hs]
    dsimp only
    rw [hu, Except.map]
    dsimp only
    rw [hp.core, hp.read.core]
    rfl
  · rw [becomes_g hb]
    exact Core.setG_same c1 spReg _
  · rw [becomes_g hb]
    exact (Core.setG_ne c1 _ hr).trans (hp.others r fun hmem => Bool.false_ne_true (hout.symm.trans (mem_maskRegs.1 hmem)))
  · obtain ⟨n, hval, hg⟩ := hp.loaded i r hr
    obtain ⟨hlt, -⟩ := List.getElem?_eq_some_iff.1 hr
    refine ⟨n, hcount.fetched (hready i hlt).fits hval, ?_⟩
    rw [becomes_g hb]
    exact (Core.setG_ne c1 _ (hsp r (List.mem_of_getElem? hr))).trans hg

/-- Settles O17: each word is stored or loaded at once, in order, and what a later load finds is what one before the
earlier loads may find. -/
theorem stackInstructions : Obligations.StackInstructions := by
  unfold Obligations.StackInstructions
  exact ⟨fun h r s he => ⟨push_now he, pop_now he⟩,
    fun h mask s he hmask => ⟨pushm_now rfl he hmask, popm_now he hmask⟩⟩

end Sys2Proof.Machine
end
